-- ==== Sys2Proof/Word.lean ====
section
/-! DEFINITION. The word types of the NB-7808 and the numbering of its resources (00_scope.md, Naming). -/

namespace Sys2Proof

/-- One byte. -/
abbrev Byte := BitVec 8
/-- A 16-bit half word. -/
abbrev Half := BitVec 16
/-- The 32-bit word of the signal board and of the set-up registers (R13, R92). -/
abbrev Word := BitVec 32
/-- A 64-bit word: device time as software reads it, an instruction word, a signature. -/
abbrev Dword := BitVec 64
/-- A drive channel CH_0 to CH_7. -/
abbrev Channel := Fin 8
/-- A Tolpel port TP_00 to TP_47 (R9). -/
abbrev Port := Fin 48
/-- An engine OX_00 to OX_15 of one control die. -/
abbrev EngineNo := Fin 16
/-- A program slot code b × 64 + s (R126). -/
abbrev SlotCode := Fin 128
/-- An aux slot SLOT_00 to SLOT_15. -/
abbrev AuxSlot := Fin 16

/-- What stands on an input, and for how many ticks it has stood there: what an input filter judges (R75, R300, R467, R519). -/
structure Held (α : Type) where
  value : α
  ticks : Nat
  deriving DecidableEq, Repr

/-- An edge of SYNC_IN: the device time at which the ball took its new level, and whether it rose (R74, R75). -/
structure PinEdge where
  time : Nat
  rising : Bool
  deriving DecidableEq, Repr

/-- The two control dies (00_scope.md). -/
inductive CtrlId where
  | a
  | b
  deriving DecidableEq, Repr

/-- The eight dies, numbered as GLB_DIES numbers them: 1 CTRL-A to 8 STORE (22_setup_registers.md). -/
inductive Die where
  | ctrlA
  | ctrlB
  | safe
  | sense0
  | sense1
  | link
  | aux
  | store
  deriving DecidableEq, Repr

/-- The two part numbers (R1). -/
inductive Part where
  | nb7808
  | nb7806
  deriving DecidableEq, Repr

end Sys2Proof
end

