-- ==== Sys2Proof/Syntax.lean ====
section
/-! DEFINITION. The commands of the block: one constructor per row of spec/opcode_table.json, in its order, with the operands each command carries. -/

namespace Sys2Proof

/-- A command (one row of the opcode table). -/
inductive Instr where
  /-- FLIT (R24): A die-to-die flit arrives at the receiving die and is delivered in order, or is discarded when its CRC fails. -/
  | flit (link : Fin 27) (bits : BitVec 128)
  /-- NEGATIVE_ACKNOWLEDGEMENT (R25): A sender receives a negative acknowledgement and re-sends from the expected flit out of its replay buffer. -/
  | negativeAcknowledgement (link : Fin 27) (seq : BitVec 4)
  /-- ACKNOWLEDGEMENT_TIMEOUT (R26): No acknowledgement arrives within 2 µs of a flit, so the sender re-sends it and counts the attempt. -/
  | acknowledgementTimeout (link : Fin 27)
  /-- FORWARDED_EFFECT (R21): CTRL-B applies a descriptor effect forwarded over DL_11 at the same frame position as CTRL-A. -/
  | forwardedEffect
  /-- DIE_FAULT (R29): A DIE_FAULT wire asserts at SAFE and LINK, taking the affected channels to their safe state and, for CTRL-B or CTRL-A, ending lockstep. -/
  | dieFault (die : Die)
  /-- REFERENCE_SET (R37): A voltage reference set arrives at LINK and the modulator turns it into edge commands for the six positions. -/
  | referenceSet (ch : Channel)
  /-- CUT_OFF_INSTANT (R38): At the cut-off instant a missing reference set makes the frame a deadline miss, the unfinished sample-path run is aborted and the last set repeats. -/
  | cutOffInstant (ch : Channel)
  /-- TIME_BASE_LOCK (R44): The time base locks to its reference and device time starts at zero. -/
  | timeBaseLock
  /-- LOCK_TIMEOUT (R45): The time base has not locked 10 ms after reset release, so device time starts on the monitor oscillator and TB_FAIL is raised. -/
  | lockTimeout
  /-- REFERENCE_LOST (R47): The reference monitor finds the reference lost and the time base enters holdover. -/
  | referenceLost (lastEdge : Nat)
  /-- REFERENCE_RETURN (R48): A good reference returns and the time base pulls the tick back to it without stepping device time. -/
  | referenceReturn
  /-- HOLDOVER_TIMEOUT (R49): Holdover lasts 10 s, so the time base raises TB_FAIL, sets FAILED and asserts LINK's die fault wire. -/
  | holdoverTimeout
  /-- DEV_TIME_LO (R51): A read of DEV_TIME_LO latches the high word of device time into DEV_TIME_HI. -/
  | devTimeLo
  /-- TIME_CODE (R53): A die receives the 64-bit time code of a period, checks its copy of device time and reloads it on disagreement. -/
  | timeCode (die : Die) (code : BitVec 64) (crc : BitVec 16)
  /-- FRAME_MESSAGE (R55): A SENSE die takes a FRAME message that schedules the sample instant of a channel's next frame. -/
  | frameMessage (die : Fin 2) (message : BitVec 128)
  /-- RESYNC_MESSAGE (R55): A SENSE die takes a RESYNC message and prepares to restart the channel's filters at t_b. -/
  | resyncMessage (die : Fin 2) (message : BitVec 128)
  /-- TIMER_MATCH (R57): A timer matches its programmed device time and raises a request into the self-timed fabric, stamped with that time. -/
  | timerMatch (die : CtrlId) (index : Nat)
  /-- SAMPLE_INSTANT (R35): The sample instant of a channel's frame arrives; SENSE latches the control inputs, triggers conversions and samples position. -/
  | sampleInstant (ch : Channel) (bits : List (List Bool))
  /-- FRAME_BOUNDARY (R60): A channel reaches a frame boundary: the frame counter increments, the frame length is fixed and the next frame starts. -/
  | frameBoundary (ch : Channel)
  /-- CARRIER_START (R64): At T_start the enabled channels start their carriers at boundary 0. -/
  | carrierStart
  /-- SYNC_EDGE (R75): An edge on SYNC_IN passes its filter and is matched to a sync target, steering, locking or resyncing the channel. -/
  | syncEdge (edge : PinEdge)
  /-- MISSED_EDGE (R76): In TRACK no accepted edge comes by the expected edge time plus P/8, so the edge counts as missed. -/
  | missedEdge (ch : Channel)
  /-- MISSED_TARGET (R77): In ACQUIRE a sync target passes unmatched and counts as missed. -/
  | missedTarget (ch : Channel)
  /-- SYNC_OUT_PULSE_END (R81): A SYNC_OUT pulse ends after OUT_WIDTH ticks. -/
  | syncOutPulseEnd
  /-- CH_RESYNC (R83): A write of 1 to CH_RESYNC.HARD arms a commanded resync of the channel. -/
  | chResync (ch : Channel) (value : BitVec 32)
  /-- RESYNC_DROPPED (R83): A commanded resync finds no edge within four sync intervals and is dropped. -/
  | resyncDropped (ch : Channel)
  /-- HARD_RESYNC (R84): At t_b the running frame ends, queued edges are cancelled and the carrier restarts at a valley with a resync frame. -/
  | hardResync (ch : Channel)
  /-- RESYNC_HOLD_END (R85): The 1 µs switch hold after a hard resync ends and the repeated set drives the restarted carrier. -/
  | resyncHoldEnd (ch : Channel)
  /-- PHASE_JUMP (R723): A follower reaches t_x of a change of its D and moves by a phase jump, by hard resync when t_x is not a boundary. -/
  | phaseJump (ch : Channel)
  /-- SCRUB (R120): The scrubber reads one board word in a single grant and corrects or poisons it. -/
  | scrub (die : CtrlId) (upsets : List (Nat × Nat))
  /-- RUN_READY (R138): A run becomes ready when its frame comes and every declared input group is fresh. -/
  | runReady (die : CtrlId) (slot : SlotCode)
  /-- RUN_START (R139): A free engine starts the first ready run in its order and latches its declared inputs. -/
  | runStart (die : CtrlId) (engine : EngineNo)
  /-- NOP (R150): The NOP instruction does nothing. -/
  | nop (die : CtrlId) (engine : EngineNo)
  /-- FEND (R142): FEND commits the run's write buffer, exempt stores, persistent registers and flags, and frees the engine. -/
  | fend (die : CtrlId) (engine : EngineNo)
  /-- WAIT (R110): The WAIT instruction stalls the engine until the group of its signal is fresh for the run's frame. -/
  | wait (die : CtrlId) (engine : EngineNo)
  /-- WAIT_COMPLETION (R110): A waited group becomes fresh and the WAIT completes, latching the group again. -/
  | waitCompletion (die : CtrlId) (engine : EngineNo)
  /-- BR (R151): The BR instruction jumps forward by its displacement. -/
  | br (die : CtrlId) (engine : EngineNo)
  /-- BZ (R151): The BZ instruction jumps when gA is zero. -/
  | bz (die : CtrlId) (engine : EngineNo)
  /-- BNZ (R151): The BNZ instruction jumps when gA is not zero. -/
  | bnz (die : CtrlId) (engine : EngineNo)
  /-- LPS (R152): The LPS instruction skips, fails on a count above its bound, or pushes the loop count. -/
  | lps (die : CtrlId) (engine : EngineNo)
  /-- LPE (R152): The LPE instruction decrements the top loop counter and jumps back or pops it. -/
  | lpe (die : CtrlId) (engine : EngineNo)
  /-- RINFO (R153): The RINFO instruction loads the selected run information. -/
  | rinfo (die : CtrlId) (engine : EngineNo)
  /-- ADD (R150): The ADD instruction adds modulo 2^32. -/
  | add (die : CtrlId) (engine : EngineNo)
  /-- SUB (R150): The SUB instruction subtracts modulo 2^32. -/
  | sub (die : CtrlId) (engine : EngineNo)
  /-- MUL (R150): The MUL instruction gives the low 32 bits of the product. -/
  | mul (die : CtrlId) (engine : EngineNo)
  /-- MULH (R150): The MULH instruction gives the high word of the signed product. -/
  | mulh (die : CtrlId) (engine : EngineNo)
  /-- MULHU (R150): The MULHU instruction gives the high word of the unsigned product. -/
  | mulhu (die : CtrlId) (engine : EngineNo)
  /-- AND (R150): The AND instruction forms the bitwise and. -/
  | and (die : CtrlId) (engine : EngineNo)
  /-- OR (R150): The OR instruction forms the bitwise or. -/
  | or (die : CtrlId) (engine : EngineNo)
  /-- XOR (R150): The XOR instruction forms the bitwise exclusive or. -/
  | xor (die : CtrlId) (engine : EngineNo)
  /-- SHL (R150): The SHL instruction shifts left. -/
  | shl (die : CtrlId) (engine : EngineNo)
  /-- SHR (R150): The SHR instruction shifts right logically. -/
  | shr (die : CtrlId) (engine : EngineNo)
  /-- SAR (R150): The SAR instruction shifts right arithmetically. -/
  | sar (die : CtrlId) (engine : EngineNo)
  /-- MIN (R150): The MIN instruction gives the signed minimum. -/
  | min (die : CtrlId) (engine : EngineNo)
  /-- MAX (R150): The MAX instruction gives the signed maximum. -/
  | max (die : CtrlId) (engine : EngineNo)
  /-- MINU (R150): The MINU instruction gives the unsigned minimum. -/
  | minu (die : CtrlId) (engine : EngineNo)
  /-- MAXU (R150): The MAXU instruction gives the unsigned maximum. -/
  | maxu (die : CtrlId) (engine : EngineNo)
  /-- SEQ (R150): The SEQ instruction sets 1 when its operands are equal. -/
  | seq (die : CtrlId) (engine : EngineNo)
  /-- SLT (R150): The SLT instruction sets 1 on a signed less-than. -/
  | slt (die : CtrlId) (engine : EngineNo)
  /-- SLTU (R150): The SLTU instruction sets 1 on an unsigned less-than. -/
  | sltu (die : CtrlId) (engine : EngineNo)
  /-- SEL (R150): The SEL instruction selects gA or gB by gC. -/
  | sel (die : CtrlId) (engine : EngineNo)
  /-- MOVI (R150): The MOVI instruction loads its immediate. -/
  | movi (die : CtrlId) (engine : EngineNo)
  /-- QMUL (R191): The QMUL instruction forms a rounded, saturated Q16 product. -/
  | qmul (die : CtrlId) (engine : EngineNo)
  /-- QINT (R192): The QINT instruction integrates a Q16 product with wrap or clamp. -/
  | qint (die : CtrlId) (engine : EngineNo)
  /-- SADD (R193): The SADD instruction forms a saturated sum. -/
  | sadd (die : CtrlId) (engine : EngineNo)
  /-- SSUB (R193): The SSUB instruction forms a saturated difference. -/
  | ssub (die : CtrlId) (engine : EngineNo)
  /-- FADD (R173): The FADD instruction adds in binary32. -/
  | fadd (die : CtrlId) (engine : EngineNo)
  /-- FSUB (R173): The FSUB instruction subtracts in binary32. -/
  | fsub (die : CtrlId) (engine : EngineNo)
  /-- FMUL (R173): The FMUL instruction multiplies in binary32. -/
  | fmul (die : CtrlId) (engine : EngineNo)
  /-- FMA (R179): The FMA instruction forms a fused multiply-add. -/
  | fma (die : CtrlId) (engine : EngineNo)
  /-- FMS (R179): The FMS instruction forms a fused multiply-subtract. -/
  | fms (die : CtrlId) (engine : EngineNo)
  /-- FNMA (R179): The FNMA instruction forms a negated fused multiply-add. -/
  | fnma (die : CtrlId) (engine : EngineNo)
  /-- FDIV (R179): The FDIV instruction divides in binary32. -/
  | fdiv (die : CtrlId) (engine : EngineNo)
  /-- FSQRT (R179): The FSQRT instruction takes the square root. -/
  | fsqrt (die : CtrlId) (engine : EngineNo)
  /-- FRSQ (R179): The FRSQ instruction takes the reciprocal square root. -/
  | frsq (die : CtrlId) (engine : EngineNo)
  /-- FMIN (R181): The FMIN instruction gives the minimum. -/
  | fmin (die : CtrlId) (engine : EngineNo)
  /-- FMAX (R181): The FMAX instruction gives the maximum. -/
  | fmax (die : CtrlId) (engine : EngineNo)
  /-- FABS (R177): The FABS instruction clears the sign bit. -/
  | fabs (die : CtrlId) (engine : EngineNo)
  /-- FNEG (R177): The FNEG instruction inverts the sign bit. -/
  | fneg (die : CtrlId) (engine : EngineNo)
  /-- FEQ (R180): The FEQ instruction compares for equality. -/
  | feq (die : CtrlId) (engine : EngineNo)
  /-- FLT (R180): The FLT instruction compares less-than. -/
  | flt (die : CtrlId) (engine : EngineNo)
  /-- FLE (R180): The FLE instruction compares less-or-equal. -/
  | fle (die : CtrlId) (engine : EngineNo)
  /-- FCLAMP (R182): The FCLAMP instruction clamps between two bounds. -/
  | fclamp (die : CtrlId) (engine : EngineNo)
  /-- CVTFI (R183): The CVTFI instruction converts F32 to I32. -/
  | cvtfi (die : CtrlId) (engine : EngineNo)
  /-- CVTIF (R184): The CVTIF instruction converts I32 to F32. -/
  | cvtif (die : CtrlId) (engine : EngineNo)
  /-- CVTUF (R184): The CVTUF instruction converts U32 to F32. -/
  | cvtuf (die : CtrlId) (engine : EngineNo)
  /-- CVTFQ (R183): The CVTFQ instruction converts F32 to Q16. -/
  | cvtfq (die : CtrlId) (engine : EngineNo)
  /-- CVTQF (R184): The CVTQF instruction converts Q16 to F32. -/
  | cvtqf (die : CtrlId) (engine : EngineNo)
  /-- SINCOS (R194): The SINCOS instruction delivers sine and cosine of an ANG. -/
  | sincos (die : CtrlId) (engine : EngineNo)
  /-- ATAN2 (R196): The ATAN2 instruction delivers the ANG of a vector. -/
  | atan2 (die : CtrlId) (engine : EngineNo)
  /-- AADD (R150): The AADD instruction adds angles with wrap. -/
  | aadd (die : CtrlId) (engine : EngineNo)
  /-- ASUB (R150): The ASUB instruction subtracts angles with wrap. -/
  | asub (die : CtrlId) (engine : EngineNo)
  /-- CVTAF (R197): The CVTAF instruction converts an ANG to radians. -/
  | cvtaf (die : CtrlId) (engine : EngineNo)
  /-- CVTFA (R198): The CVTFA instruction converts radians to an ANG. -/
  | cvtfa (die : CtrlId) (engine : EngineNo)
  /-- LDS (R108): The LDS instruction loads one signal through the run's latch. -/
  | lds (die : CtrlId) (engine : EngineNo)
  /-- LDV (R155): The LDV instruction loads consecutive signals through the latch. -/
  | ldv (die : CtrlId) (engine : EngineNo)
  /-- STS (R156): The STS instruction stores one signal into the write buffer. -/
  | sts (die : CtrlId) (engine : EngineNo)
  /-- STV (R156): The STV instruction stores consecutive signals into the write buffer. -/
  | stv (die : CtrlId) (engine : EngineNo)
  /-- TL1 (R161): The TL1 instruction makes a 1-D lookup at a static table address. -/
  | tl1 (die : CtrlId) (engine : EngineNo)
  /-- TL1R (R161): The TL1R instruction makes a 1-D lookup at a register table address. -/
  | tl1r (die : CtrlId) (engine : EngineNo)
  /-- TL2 (R162): The TL2 instruction makes a 2-D lookup at a static table address. -/
  | tl2 (die : CtrlId) (engine : EngineNo)
  /-- TL2R (R162): The TL2R instruction makes a 2-D lookup at a register table address. -/
  | tl2r (die : CtrlId) (engine : EngineNo)
  /-- XRD (R165): The XRD instruction reads a die-local value into a scratch register. -/
  | xrd (die : CtrlId) (engine : EngineNo)
  /-- XMOV (R166): The XMOV instruction copies a general register to a scratch register. -/
  | xmov (die : CtrlId) (engine : EngineNo)
  /-- XADD (R166): The XADD instruction adds scratch registers. -/
  | xadd (die : CtrlId) (engine : EngineNo)
  /-- XSUB (R166): The XSUB instruction subtracts scratch registers. -/
  | xsub (die : CtrlId) (engine : EngineNo)
  /-- XST (R165): The XST instruction stores a scratch register to an exempt signal. -/
  | xst (die : CtrlId) (engine : EngineNo)
  /-- VELVET_READING (R202): A reading of the engine and memory monitors ends; filtered values update and the planner checks every fit and takes ladder steps. -/
  | velvetReading (die : CtrlId) (counts : List (Nat × Nat))
  /-- PROGRAM_MOVE (R220): A reassigned program moves to its new engine at the next boundary at which it has no run in progress. -/
  | programMove (slot : SlotCode)
  /-- AGEING_PAIR_READING (R207): The unstressed ageing oscillator is read over 128 ticks and the ageing loss updates. -/
  | ageingPairReading (die : CtrlId) (stressed unstressed : Nat)
  /-- EOL_MARGIN (R217): The hourly end-of-life check repeats each fit with aged speed and reports failing fits. -/
  | eolMargin
  /-- AGEING_RECORD (R237): Every 8 powered hours the planner writes an ageing record for each control die. -/
  | ageingRecord (hotA hotB : BitVec 32)
  /-- PLAN_DECISION (R224): The planner finishes deciding a pending change and accepts it or refuses it. -/
  | planDecision
  /-- AVS_READBACK (R228): The voltage read-back after an AVSBus write arrives and is compared with the setpoint. -/
  | avsReadback (die : CtrlId) (mV : Nat)
  /-- AVS_TIMEOUT (R228): An AVSBus write gets no valid response within 100 µs and is retried once. -/
  | avsTimeout (die : CtrlId)
  /-- RUN_DEADLINE (R229): A run's deadline passes; a run in progress is aborted and one not started never takes place. -/
  | runDeadline (slot : SlotCode)
  /-- SWAP_BOUNDARY (R234): An accepted swap takes effect at a boundary, aborting a stalled old run and making the new program ACTIVE. -/
  | swapBoundary (ch : Channel)
  /-- SDM_STUCK (R244): An SDM bitstream holds one value for 128 bits and its sinc3 outputs become not valid. -/
  | sdmStuck (die : Fin 2) (input : Fin 24) (bits : List Bool)
  /-- SDM_RESTORED (R244): The first differing bit of a stuck input arrives and the filter restarts. -/
  | sdmRestored (die : Fin 2) (input : Fin 24) (bits : List Bool)
  /-- FILTER_SETTLED (R245): A sinc3 filter has taken 3 × OSR bits since restart and its outputs become valid. -/
  | filterSettled (die : Fin 2) (input : Fin 24) (bits : List Bool)
  /-- SINC1_TRIP (R249): A sinc1 comparator stays beyond its limit for CNT bits and asserts OC_TRIP_n. -/
  | sinc1Trip (die : Fin 2) (input : Fin 24) (bits : List Bool)
  /-- OC_TRIP_RELEASE (R250): After at least 1 µs and with no comparator tripping, SENSE releases OC_TRIP_n. -/
  | ocTripRelease (ch : Channel)
  /-- ADC_TIMER_TRIGGER (R256): A TIMER converter trigger starts a pass or is latched or dropped. -/
  | adcTimerTrigger (die : Fin 2) (conv : Fin 6)
  /-- CONVERSION_END (R258): A SAR conversion ends; the pass continues, ends and publishes, or the next queued work starts. -/
  | conversionEnd (die : Fin 2) (conv : Fin 6) (nanovolts : Int)
  /-- URGENT_REQUEST (R259): A committed adc_req reaches SENSE and starts, holds or drops an urgent conversion. -/
  | urgentRequest (ch : Channel)
  /-- URGENT_CONVERSION_END (R262): An urgent conversion ends and SENSE commits ch_n.adc_res. -/
  | urgentConversionEnd (die : Fin 2) (conv : Fin 6) (nanovolts : Int)
  /-- PLAUSIBILITY_PERIOD (R265): A plausibility period starts a paired conversion or counts a skipped period. -/
  | plausibilityPeriod (die : Fin 2) (pair : Fin 3)
  /-- HOUSEKEEPING (R267): Each millisecond ADC_5 converts the housekeeping inputs. -/
  | housekeeping (die : Fin 2)
  /-- MEAS_DELIVERY (R273): SENSE sends a channel's measurement group once its enabled members are ready. -/
  | measDelivery (ch : Channel) (second : Bool)
  /-- MEAS_LATE (R273): At sample instant + 200 ticks unfinished SAR members are marked late and the group is sent. -/
  | measLate (ch : Channel)
  /-- SMP_RPTR (R282): A host write of SMP_RPTR_b sets the read pointer of a sample buffer. -/
  | smpRptr (buffer : Fin 64) (value : BitVec 32)
  /-- OW_STATUS (R277): A W1C write to OW_STATUS clears open-wire bits and ends the not-valid marking. -/
  | owStatus (die : Fin 2) (index : Fin 2) (value : BitVec 32)
  /-- RESOLVER_SAMPLE (R292): The resolver windings are sampled and the A path forms a measurement for the observer. -/
  | resolverSample (die : Fin 2) (pif : Fin 4) (aSin : Int) (aCos : Int) (bSin : Int) (bCos : Int)
  /-- SSI_REQUEST (R296): At its request time the interface starts an SSI word or skips the request. -/
  | ssiRequest (die : Fin 2) (pif : Fin 4) (dataHigh : Bool)
  /-- SSI_WORD (R297): The last SSI cycle ends and the word is judged, decoded, sent to SAFE and given to the observer. -/
  | ssiWord (die : Fin 2) (pif : Fin 4) (bits : BitVec 64)
  /-- MONOFLOP_END (R297): MONO ticks after the last edge the data line is checked for its return high. -/
  | monoflopEnd (die : Fin 2) (pif : Fin 4) (dataHigh : Bool)
  /-- ENCODER_EDGE (R300): A filtered counting input changes and the count moves. -/
  | encoderEdge (die : Fin 2) (pif : Fin 4) (a : Held Bool) (b : Held Bool)
  /-- INDEX_PULSE (R302): A qualified Z edge homes the count or checks it. -/
  | indexPulse (die : Fin 2) (z : Held (Fin 4))
  /-- COUNT_DELIVERY (R301): Every 400 ticks a counting interface delivers a measurement to its observer. -/
  | countDelivery (die : Fin 2) (pif : Fin 4)
  /-- OBSERVER_TIMEOUT (R304): No measurement is accepted for 4 × T_exp and the observer restarts. -/
  | observerTimeout (die : Fin 2) (pif : Fin 4)
  /-- INTERFACE_SIGNALS (R318): Every 10 µs SENSE writes the interface signals. -/
  | interfaceSignals (die : Fin 2) (pif : Fin 4)
  /-- COMPARE_EVALUATION (R311): Every 100 ticks a compare unit evaluates the position against its entry and fires. -/
  | compareEvaluation (die : Fin 2) (unit : Fin 4)
  /-- COMP_OUT_PULSE_END (R313): A COMP_OUT pulse ends after WIDTH ticks. -/
  | compOutPulseEnd (die : Fin 2) (unit : Fin 4)
  /-- CMP_CTRL (R314): A write of CMP_CTRL enables a unit and resets its pointer, or disables it. -/
  | cmpCtrl (die : Fin 2) (unit : Fin 4) (value : BitVec 32)
  /-- CMP_LIST (R314): A write of a compare-list entry is taken while EN is 0 and ignored otherwise. -/
  | cmpList (die : Fin 2) (unit : Fin 4) (entry : Fin 64) (high : Bool) (value : BitVec 32)
  /-- EMULATOR_UPDATE (R315): Every 100 ticks the emulator moves its output count toward the target. -/
  | emulatorUpdate (die : Fin 2)
  /-- CHARACTER_LOCK_LOSS (R379): A port loses character lock and goes to DOWN. -/
  | characterLockLoss (port : Port)
  /-- IDLE_LOCK (R379): A port receives 16 valid idle pairs in a row and goes to IDENT. -/
  | idleLock (port : Port)
  /-- IDENT_REQ_PERIOD (R379): Every 100 µs in IDENT, LINK sends IDENT_REQ. -/
  | identReqPeriod (port : Port)
  /-- IDENT (R379): LINK takes an IDENT, checks FITTED, sends CONFIG and sends the port to TIME or FOREIGN. -/
  | ident (port : Port) (body : List (BitVec 8)) (valid : Bool)
  /-- TIME_MARK_SEND (R382): At each multiple of 4,096 ticks LINK sends a time mark and then a MARK. -/
  | timeMarkSend (port : Port)
  /-- TIME_MARK (R382): A satellite receives a downstream time mark and notes its arrival time T2. -/
  | timeMark (port : Port) (frac : Fin 32)
  /-- MARK (R384): A satellite takes a MARK and steps or slews its copy of device time. -/
  | mark (port : Port) (body : List (BitVec 8)) (valid : Bool)
  /-- SATELLITE_TIME_MARK (R382): At 2,048 ticks past each period the satellite sends its own time mark and an ECHO. -/
  | satelliteTimeMark (port : Port)
  /-- UPSTREAM_TIME_MARK (R383): LINK stamps the arrival t4 of an upstream time mark. -/
  | upstreamTimeMark (port : Port) (frac : Fin 32)
  /-- ECHO (R383): LINK takes an ECHO, computes delay and offset and advances the port to READY or judges time loss. -/
  | echo (port : Port) (body : List (BitVec 8)) (valid : Bool)
  /-- EDGE (R388): A satellite arms a valid EDGE message for a coming half. -/
  | edge (port : Port) (body : List (BitVec 8)) (valid : Bool)
  /-- TRIM (R389): A satellite writes a trim word into the set not in force. -/
  | trim (port : Port) (body : List (BitVec 8)) (valid : Bool)
  /-- CONFIG (R379): A satellite takes CONFIG with DIES and OT_LIMIT. -/
  | config (port : Port) (body : List (BitVec 8)) (valid : Bool)
  /-- RETIRE (R405): A satellite takes RETIRE and latches the named dies off. -/
  | retire (port : Port) (body : List (BitVec 8)) (valid : Bool)
  /-- CLEAR (R403): A satellite takes CLEAR and releases latched and retired dies. -/
  | clear (port : Port) (body : List (BitVec 8)) (valid : Bool)
  /-- IDENT_REQ (R379): A satellite takes IDENT_REQ and answers with IDENT. -/
  | identReq (port : Port) (body : List (BitVec 8)) (valid : Bool)
  /-- RESUME (R395): A satellite takes RESUME and leaves its link loss. -/
  | resume (port : Port) (body : List (BitVec 8)) (valid : Bool)
  /-- HOLD_SET (R393): A satellite takes a HOLD set, cancels armed edges at or after t_b and holds every die. -/
  | holdSet (port : Port) (data : BitVec 32)
  /-- HOLD_DEADLINE (R393): No resync EDGE message is armed by t_b + 1 µs, so the satellite turns every die off. -/
  | holdDeadline (port : Port)
  /-- DIE_SWITCH (R390): A satellite switches a die at its die time with the step of its trim set. -/
  | dieSwitch (port : Port) (die : Fin 16)
  /-- HALF_END (R392): A half in force ends; the next armed half starts, or every die turns off and the half counts as missed. -/
  | halfEnd (port : Port) (meas : List (BitVec 16 × BitVec 16 × BitVec 16 × Bool))
  /-- SATELLITE_LINK_LOSS (R395): A satellite has no valid downstream message for 40 µs and enters link loss. -/
  | satelliteLinkLoss (port : Port)
  /-- DESATURATION (R401): A satellite detects desaturation or gate-supply loss of a switching die and latches it off. -/
  | desaturation (port : Port) (die : Fin 16) (supply : Bool)
  /-- OVERTEMPERATURE_CHECK (R401): Every 10 µs a satellite compares die temperatures with OT_LIMIT and latches an overheated die. -/
  | overtemperatureCheck (port : Port) (temps : List (BitVec 16))
  /-- FAULT_SET_REPEAT (R401): 2 µs after a fault the satellite sends the FAULT set again. -/
  | faultSetRepeat (port : Port)
  /-- FAULT_SET (R402): LINK takes a FAULT set, marks the die LATCHED and leaves it out of later EDGE messages. -/
  | faultSet (port : Port) (data : BitVec 32)
  /-- FAULT_DECISION (R403): At t_f + 10 µs LINK decides a group fault, a thermal fault or a retirement. -/
  | faultDecision (port : Port)
  /-- TELEM (R396): LINK takes a TELEM, commits the die and position groups, balances trims and checks the trim CRCs. -/
  | telem (port : Port) (body : List (BitVec 8)) (valid : Bool)
  /-- UPSTREAM_SILENCE (R394): A port has 40 µs without a valid upstream message, a link loss of cause 1. -/
  | upstreamSilence (port : Port)
  /-- GA_UNRETIRE (R409): A write of GA_UNRETIRE_n clears retirements in MAINTAIN with the channel in STO, or is refused. -/
  | gaUnretire (ch : Channel) (value : BitVec 32)
  /-- TP_ID_LO (R693): A read of TP_ID_LO_nn latches TP_ID_HI_nn. -/
  | tpIdLo (port : Port)
  /-- OC_TRIP (R415): OC_TRIP_n asserts at LINK; edges are cancelled, STO_A_n is asserted and the channel enters SAFE_OPEN. -/
  | ocTrip (ch : Channel)
  /-- OC_HOLD_EXPIRY (R415): OC has been inactive for OC_HOLD and the safe-state choice of R421 applies again. -/
  | ocHoldExpiry (ch : Channel)
  /-- PHASE_LOSS_WINDOW (R416): A phase-loss window closes and is judged lopsided or not. -/
  | phaseLossWindow (ch : Channel)
  /-- T_ASC_EXPIRY (R420): T_ASC after entering SAFE_OPEN asserts ASC_n, or after releasing ASC_n releases STO_A_n. -/
  | tAscExpiry (ch : Channel)
  /-- RELEASE (R427): A write of PROT_CMD.RELEASE requests a release, granted only when every condition holds. -/
  | release (ch : Channel)
  /-- DISCH (R429): A write of PROT_CMD.DISCH starts a discharge of the channel or refuses it. -/
  | disch (ch : Channel)
  /-- DISCH_STOP (R435): A write of PROT_CMD.DISCH_STOP stops a discharge without cause 12. -/
  | dischStop (ch : Channel)
  /-- DISCHARGE_TIMEOUT (R436): A discharge not done after TIMEOUT stops with cause 13. -/
  | dischargeTimeout (ch : Channel)
  /-- SHUTDOWN_VSUP (R438): VSUP_SENSE stays below SHUT_V for 10 ms and starts an orderly shutdown. -/
  | shutdownVsup (millivolts : Nat)
  /-- SD_RAMP_EXPIRY (R438): The shutdown ramp time ends; channels enter safe state or start discharges. -/
  | sdRampExpiry
  /-- SHUTDOWN_DISCHARGES_ENDED (R438): Every discharge of the shutdown is done, opposed or timed out; STO and AUX_OFF follow and records are written. -/
  | shutdownDischargesEnded
  /-- SHUTDOWN_DONE (R438): The shutdown records are written; the part descends or makes a cold start. -/
  | shutdownDone
  /-- VSUP_DIP (R440): VSUP_SENSE crosses SHUT_V during a shutdown and DIP_SEEN is set. -/
  | vsupDip (millivolts : Nat)
  /-- VERDICT (R445): CTRL-B receives a run verdict and commits or discards its run. -/
  | verdict (slot : SlotCode)
  /-- WINDOW_CLOSE (R454): A die has the outcome of every run of a window, forms the window signature and sends it to SAFE. -/
  | windowClose (die : CtrlId) (lane : EngineNo)
  /-- LANE_PLAN (R455): SAFE takes a lane plan from CTRL-A. -/
  | lanePlan (lane : EngineNo)
  /-- WINDOW_RECORD (R456): The comparator takes a window signature record from a control die. -/
  | windowRecord (die : CtrlId) (lane : EngineNo) (ch : Channel) (frame : BitVec 32) (sig : BitVec 64)
  /-- WINDOW_DECISION (R456): At close instant + 2 µs the comparator decides MATCH, MISMATCH or MISSING and applies the reaction. -/
  | windowDecision (lane : EngineNo)
  /-- LANE_TIMEOUT (R457): An active lane has no decision within W_max + 2 µs and is MISSING. -/
  | laneTimeout (lane : EngineNo)
  /-- COMPARATOR_TEST (R463): The start-up comparator test ends and passes or fails. -/
  | comparatorTest (failing : Option (BitVec 32 × BitVec 32))
  /-- TAHR_CYCLE (R465): A 250 µs Tahr cycle evaluates pairs, functions, SS1, torque monitoring and outputs and writes the mirror. -/
  | tahrCycle (checks : Bool) (stoABack : BitVec 8) (soBack : BitVec 8)
  /-- SAFE_LEVEL_CHANGE (R467): A safety input holds a new level for FILT and the SAFE stage or Chamois accepts it, Chamois latching its functions. -/
  | safeLevelChange (chamois : Bool) (input : Fin 32) (millivolts : Held Int)
  /-- T_CH_EXPIRY (R477): T_CH after a CAT 1 latch Chamois asserts STO_A_n. -/
  | tChExpiry (f : Fin 16)
  /-- FUNCTION_RELEASE (R478): Chamois takes a function release from Tahr and clears the latch if the inputs are at run level. -/
  | functionRelease (f : Fin 16)
  /-- TEST_PULSE (R468): A test-pulse output goes low for TP_WIDTH. -/
  | testPulse (t : Fin 4)
  /-- TEST_PULSE_SAMPLE (R468): TP_WIDTH − 20 µs into a pulse SAFE samples the fed inputs for a test-pulse fault. -/
  | testPulseSample (t : Fin 4) (millivolts : List Int)
  /-- TEST_PULSE_END (R468): A test pulse ends and the output returns high. -/
  | testPulseEnd (t : Fin 4)
  /-- CHAMOIS_PARAMETERS (R480): Chamois takes its parameter block from Tahr and returns it for comparison. -/
  | chamoisParameters (equal : Bool)
  /-- TAHR_STATUS (R481): Chamois takes Tahr's status message of the cycle. -/
  | tahrStatus (valid : Bool)
  /-- TAHR_LOST (R481): No valid Tahr status for 1 ms sets the Chamois loss latch. -/
  | tahrLost
  /-- SS1_REQUEST (R486): Tahr takes an SS1 or STO request from LINK or the frame supervisor. -/
  | ss1Request (ch : Channel) (sto : Bool) (source : BitVec 32)
  /-- SO_TEST (R495): Once per second a safety-output switch goes off for its 300 µs test. -/
  | soTest (out : Fin 4) (second : Bool)
  /-- BLEAT (R496): Every 5 ms Tahr toggles BLEAT while its checks pass. -/
  | bleat
  /-- LOCKOUT_EXPIRY (R501): 60 s of powered lockout end. -/
  | lockoutExpiry
  /-- READ (R502): SAFETY_CONFIG READ returns the confirmed or pending image. -/
  | read (ring : BitVec 16) (data : Option (List (BitVec 8)))
  /-- WRITE (R503): SAFETY_CONFIG WRITE checks an image and stores it as pending. -/
  | write (ring : BitVec 16) (data : Option (List (BitVec 8)))
  /-- CONFIRM (R503): SAFETY_CONFIG CONFIRM makes the pending image confirmed and reloads Chamois. -/
  | confirm (ring : BitVec 16) (data : Option (List (BitVec 8)))
  /-- SET_PASSWORD (R501): SAFETY_CONFIG SET_PASSWORD sets the owner password. -/
  | setPassword (ring : BitVec 16) (data : Option (List (BitVec 8)))
  /-- READ_LOG (R504): SAFETY_CONFIG READ_LOG returns 8 change-log entries. -/
  | readLog (ring : BitVec 16) (data : Option (List (BitVec 8)))
  /-- ACK_FAULT (R484): SAFETY_CONFIG ACK_FAULT acknowledges held safety faults of channels in STO. -/
  | ackFault (ring : BitVec 16) (data : Option (List (BitVec 8)))
  /-- HOLD (R484): SAFETY_CONFIG HOLD sets or clears the configuration hold. -/
  | hold (ring : BitVec 16) (data : Option (List (BitVec 8)))
  /-- AUX_OFF (R506): AUX_OFF_A or AUX_OFF_B asserts, or an AUX link fails, and every leg turns off. -/
  | auxOff
  /-- AUX_OFF_RELEASE (R506): Both AUX_OFF wires are released. -/
  | auxOffRelease
  /-- VALLEY (R507): At a slot carrier valley the shunts are sampled, the limit factor and loops update and duties apply. -/
  | valley (slot : AuxSlot) (codes : Vector (BitVec 12) 4) (ain : Nat) (pwm : Option (Nat × Nat))
  /-- LEG_FAULT (R510): An overcurrent of one switch latches it off. -/
  | legFault (slot : AuxSlot) (leg : Fin 4) (high : Bool) (measured : Nat)
  /-- SUPPLY_MONITOR (R511): An aux supply monitor crosses a threshold and holds or releases switches. -/
  | supplyMonitor (monitor : Fin 4) (hb : Fin 48) (millivolts : Nat)
  /-- THERMAL_UPDATE (R512): Every 100 µs each slot updates its thermal load and commits its status. -/
  | thermalUpdate (slot : AuxSlot)
  /-- SLOT_COMMAND (R515): AUX takes a commit of aux_s.cmd and applies it from the next valley. -/
  | slotCommand (slot : AuxSlot)
  /-- CMD_TMO_EXPIRY (R514): A slot has no command for CMD_TMO ms and sets CMD_STALE. -/
  | cmdTmoExpiry (slot : AuxSlot)
  /-- HALL_CHANGE (R519): A filtered Hall state is accepted and counts a sector or faults. -/
  | hallChange (slot : AuxSlot) (hall : Held (BitVec 3))
  /-- HALL_TIMEOUT (R526): No Hall change for HALL_TMO ms zeroes the speed or stalls the slot. -/
  | hallTimeout (slot : AuxSlot)
  /-- BLOCK_ADVANCE (R522): The advanced commutation instant moves to the next block vector. -/
  | blockAdvance (slot : AuxSlot)
  /-- PWM_IN_TIMEOUT (R524): A PWM input has no edge for TMO and X is bad. -/
  | pwmInTimeout (input : Fin 8)
  /-- PROFILE_UPDATE (R527): Every 10 µs a stepper profile generator updates position, velocity and acceleration. -/
  | profileUpdate (slot : AuxSlot)
  /-- HOLD_REDUCTION (R531): T_HOLD of standstill ends and the stepper current falls to I_HOLD. -/
  | holdReduction (slot : AuxSlot)
  /-- DOORBELL_TAIL (R544): A doorbell write to a submission ring sets its tail or puts it in ERROR. -/
  | doorbellTail (ring : BitVec 16) (value : BitVec 32)
  /-- DOORBELL_HEAD (R545): A doorbell write to a completion or event ring sets its head, freeing entries, or puts it in ERROR. -/
  | doorbellHead (ring : BitVec 16) (value : BitVec 32)
  /-- ENABLE (R541): RING_OP ENABLE makes an OFF ring ACTIVE from the staged context. -/
  | enable
  /-- DISABLE (R542): RING_OP DISABLE makes a ring DRAINING or OFF. -/
  | disable
  /-- READ_CONTEXT (R539): RING_OP READ copies a ring's context into RING_CTX. -/
  | readContext
  /-- DESCRIPTOR_FETCH (R548): A fetched descriptor arrives, is checked and is taken. -/
  | descriptorFetch (ring : BitVec 16) (good : Bool) (bytes : BitVec 512)
  /-- DESCRIPTOR_NOP (R552): The NOP descriptor completes at once. -/
  | descriptorNop (ring : BitVec 16)
  /-- FENCE (R551): FENCE stops its ring from taking descriptors until earlier ones complete. -/
  | fence (ring : BitVec 16)
  /-- FENCE_COMPLETION (R551): Every earlier descriptor of the ring has completed and FENCE completes. -/
  | fenceCompletion (ring : BitVec 16)
  /-- WRITE_SIGNALS (R553): WRITE_SIGNALS checks and commits host signal writes. -/
  | writeSignals (ring : BitVec 16) (data : Option (List (BitVec 8)))
  /-- READ_SIGNALS (R555): READ_SIGNALS reads signals from the board of CTRL-A. -/
  | readSignals (ring : BitVec 16)
  /-- WRITE_SIGNALS_AT_FRAME (R554): WRITE_SIGNALS_AT_FRAME schedules a commit at the sample instant of frame F. -/
  | writeSignalsAtFrame (ring : BitVec 16) (data : Option (List (BitVec 8)))
  /-- TIMED_WRITE_COMMIT (R554): At the sample instant of frame F a waiting timed write commits. -/
  | timedWriteCommit (ch : Channel)
  /-- LOAD_PROGRAM (R130): LOAD_PROGRAM checks and loads an image into an EMPTY slot. -/
  | loadProgram (ring : BitVec 16) (data : Option (List (BitVec 8)))
  /-- SWAP_PROGRAM (R132): SWAP_PROGRAM requests the start, replacement or stop of programs. -/
  | swapProgram (ring : BitVec 16)
  /-- LOAD_TABLE (R552): LOAD_TABLE writes entries into table memory. -/
  | loadTable (ring : BitVec 16) (data : Option (List (BitVec 8)))
  /-- ARM_TRACE (R556): ARM_TRACE sets taps, clears trace memory and starts capture. -/
  | armTrace (ring : BitVec 16) (data : Option (List (BitVec 8)))
  /-- DISARM (R556): ARM_TRACE with DISARM stops capture. -/
  | disarm (ring : BitVec 16)
  /-- DRAIN_TRACE (R556): DRAIN_TRACE copies unread trace records. -/
  | drainTrace (ring : BitVec 16)
  /-- DRAIN_SAMPLES (R557): DRAIN_SAMPLES copies sample records and advances the read pointer. -/
  | drainSamples (ring : BitVec 16)
  /-- CHANNEL_MODE_SETTINGS (R558): CHANNEL_MODE with settings flags sends new carrier, sync, dither or modulator settings to the planner. -/
  | channelModeSettings (ring : BitVec 16)
  /-- CHANNEL_MODE_RESYNC (R558): CHANNEL_MODE with RESYNC arms a commanded resync. -/
  | channelModeResync (ring : BitVec 16)
  /-- CHANNEL_MODE_RELEASE (R558): CHANNEL_MODE with RELEASE requests the release of each channel in MASK. -/
  | channelModeRelease (ring : BitVec 16)
  /-- SETTINGS_EFFECT (R67): Accepted channel settings take effect at the first valley after acceptance. -/
  | settingsEffect (ch : Channel)
  /-- SHUTDOWN_REQUEST (R438): SET_STATE request 1 starts an orderly shutdown. -/
  | shutdownRequest (ring : BitVec 16)
  /-- RUNG_REQUEST (R611): SET_STATE request 2 asks for a descent or a climb to a rung. -/
  | rungRequest (ring : BitVec 16)
  /-- STORE_RECORD (R642): STORE_RECORD starts a paired-bank write of a host kind. -/
  | storeRecord (ring : BitVec 16) (data : Option (List (BitVec 8)))
  /-- READ_RECORD (R639): READ_RECORD copies a bank header and content to host memory. -/
  | readRecord (ring : BitVec 16)
  /-- IDENTITY_CHALLENGE (R661): IDENTITY_CHALLENGE returns a signed identity response. -/
  | identityChallenge (ring : BitVec 16)
  /-- DESCRIPTOR_COMPLETION (R563): A descriptor completes and its completion entry is written when its ring has room. -/
  | descriptorCompletion (cring : BitVec 16)
  /-- MOD_TIME_EXPIRY (R567): MOD_TIME since the first unsignalled entry passes and the ring signals its vector. -/
  | modTimeExpiry (ring : BitVec 16)
  /-- DISCONNECT (R574): Link-down, hot reset, FLR or Bus Master Enable clear disconnects the host. -/
  | disconnect (cause : Nat)
  /-- HOST_CONNECT (R575): The PCI Express link trains again. -/
  | hostConnect (speed width : BitVec 4)
  /-- RE_CTRL (R575): A write of RE_CTRL.EN lets the ring engine fetch. -/
  | reCtrl (value : BitVec 32)
  /-- CAN_FRAME_RECEIVED (R581): A valid received CAN frame is taken by the first matching object and mirrored. -/
  | canFrameReceived (k : Fin 4) (id : BitVec 29) (ide fdf brs esi remote : Bool) (dlc : BitVec 4) (data : List (BitVec 8)) (sof : Nat)
  /-- TRANSMIT_COMMIT (R587): LINK takes a commit of a transmit group and makes the object pending. -/
  | transmitCommit (k : Fin 4) (object : Fin 1024)
  /-- TRANSMISSION_END (R589): A CAN transmission attempt ends in success, lost arbitration or error. -/
  | transmissionEnd (k : Fin 4) (outcome : Fin 4) (sof : Nat)
  /-- RECOVER (R590): A write of CAN_CMD.RECOVER starts bus-off recovery. -/
  | recover (k : Fin 4)
  /-- CAN_BUS_ON (R590): 128 sequences of 11 recessive bits end bus-off recovery. -/
  | canBusOn (k : Fin 4)
  /-- TX_FLUSH (R590): A write of CAN_CMD.TX_FLUSH ends the pending state of objects not on the bus. -/
  | txFlush (k : Fin 4)
  /-- OBJECT_LOCK (R584): A write of CAN_OBJ_SEL with LOCK 1 locks an object buffer. -/
  | objectLock (k : Fin 4) (object : Fin 1024)
  /-- OBJECT_UNLOCK (R585): A write of LOCK 0 or of another object unlocks the buffer and moves the shadow in. -/
  | objectUnlock (k : Fin 4) (object : Fin 1024)
  /-- CAN_LOCK_TIMEOUT (R585): A lock lapses after 10 ms and the object is unlocked. -/
  | canLockTimeout (k : Fin 4)
  /-- CAN_STATUS_COMMIT (R592): A controller commits its status group at least every 10 ms. -/
  | canStatusCommit (k : Fin 4)
  /-- TARGET_DESCENT (R611): A write of a lower rung to PWR_CTRL.TARGET starts a descent. -/
  | targetDescent (value : BitVec 32)
  /-- TARGET_WAKE (R614): A write of a higher rung to PWR_CTRL.TARGET starts a wake. -/
  | targetWake (value : BitVec 32)
  /-- WAKE_N (R614): WAKE_N held low for WAKE_FILT starts a wake. -/
  | wakeN
  /-- WAKE_TIMER (R614): Device time reaches PWR_TIMER and starts a wake. -/
  | wakeTimer
  /-- LADDER_IMAGE_WRITTEN (R609): The ladder image is written and the part enters YARD. -/
  | ladderImageWritten
  /-- CLIMB_STEP_READY (R615): A step of a climb meets its ready conditions and the part stands on the rung above. -/
  | climbStepReady (rails : BitVec 9)
  /-- READY_TIMEOUT (R616): A climb step is not ready within its timeout and is repeated or the climb fails back. -/
  | readyTimeout (rails : BitVec 9)
  /-- PWR_STATUS (R616): A W1C write of PWR_STATUS.WAKE_FAIL clears it. -/
  | pwrStatus (value : BitVec 32)
  /-- PWR_TIMER_HI (R622): A write of PWR_TIMER_HI takes effect together with the prior PWR_TIMER_LO write. -/
  | pwrTimerHi (value : BitVec 32)
  /-- POWER_ON (R619): VDD_LINK rises through its power-on threshold and a cold start begins. -/
  | powerOn
  /-- RESET_N (R619): RESET_N rises after at least 10 µs low and a cold start begins. -/
  | resetN (lowTicks : Nat) (refSel : Bool) (ioMillivolts : Nat)
  /-- RAIL_FAULT (R599): A rail stays beyond its limit for 10 µs and starts a cold start with cause 3. -/
  | railFault (rail : Fin 8) (millivolts : Nat)
  /-- COLD_START (R621): A cold start runs its steps to the RUN rung with every channel in STO. -/
  | coldStart (vsup : Nat) (tahrOk : Bool)
  /-- SETUP_LOCK (R696): A write of 1 to SETUP_CTRL.SETUP_LOCK freezes RWL fields and starts the set-up checks. -/
  | setupLock (value : BitVec 32)
  /-- SETUP_LOCKED (R696): The checks end, fixed directory entries are created and SETUP_LOCKED is raised. -/
  | setupLocked
  /-- REGISTER_WRITE (R695): A host write to a register with no row of its own is stored, applied or ignored. -/
  | registerWrite (offset : BitVec 20) (value : BitVec 32)
  /-- START (R630): A write of ST_CTRL.START starts an extended self-test or is refused. -/
  | start (rails : BitVec 9) (tickOk : Bool)
  /-- FUSE (R635): A write of ST_CTRL.FUSE starts fuse repair or is refused. -/
  | fuse
  /-- SELF_TEST_END (R627): A self-test ends passed or failed and its results are reported. -/
  | selfTestEnd (cells : List (BitVec 4 × BitVec 4 × BitVec 22 × Fin 39)) (logic analogue : List (BitVec 4 × BitVec 22 × BitVec 6)) (repeats : List Nat)
  /-- SELF_TEST_ABORT (R624): A precondition fails during a self-test and the test ends ABORTED. -/
  | selfTestAbort (rails : BitVec 9) (tickOk : Bool)
  /-- FUSE_DONE (R635): Fuse repair ends and burnt entries leave the map. -/
  | fuseDone
  /-- BANK_WRITE_DONE (R642): A paired-bank write writes MAGIC and the target comes into force. -/
  | bankWriteDone
  /-- EVENT_LOG_FLUSH (R651): Within 1 s of its first unwritten entry the event log buffer is written to STORE. -/
  | eventLogFlush
  /-- ENTER_FIELD (R653): The lifecycle operation ENTER_FIELD sets PHASE to FIELD. -/
  | enterField (ring : BitVec 16) (data : Option (List (BitVec 8)))
  /-- ENTER_MAINTAIN (R653): The lifecycle operation ENTER_MAINTAIN sets PHASE to MAINTAIN. -/
  | enterMaintain (ring : BitVec 16) (data : Option (List (BitVec 8)))
  /-- BIND (R658): The lifecycle operation BIND records the owner key and satellite IDs. -/
  | bind (ring : BitVec 16) (data : Option (List (BitVec 8)))
  /-- UNBIND (R653): The lifecycle operation UNBIND clears the owner. -/
  | unbind (ring : BitVec 16) (data : Option (List (BitVec 8)))
  /-- ACK_SATELLITE (R659): The lifecycle operation ACK_SATELLITE records a port's satellite ID and sends it to TIME. -/
  | ackSatellite (ring : BitVec 16) (data : Option (List (BitVec 8)))
  /-- OWNER_LOCK (R653): The lifecycle operation OWNER_LOCK sets or clears the update lock. -/
  | ownerLock (ring : BitVec 16) (data : Option (List (BitVec 8)))
  /-- LIFECYCLE_RETIRE (R653): The lifecycle operation RETIRE burns LC_1. -/
  | lifecycleRetire (ring : BitVec 16) (data : Option (List (BitVec 8)))
  /-- DEV_ID_LO (R693): A read of DEV_ID_LO latches DEV_ID_HI. -/
  | devIdLo
  /-- LC_NONCE_LO (R693): A read of LC_NONCE_LO latches LC_NONCE_HI. -/
  | lcNonceLo
  /-- TRIAL_TIMER (R670): 600 s of an unconfirmed trial pass and the part makes a cold start once every channel is in STO. -/
  | trialTimer
  /-- HELLO (R663): A service HELLO opens a session handshake with a CHALLENGE, or gets ERROR 1. -/
  | hello (frame : List (BitVec 8))
  /-- AUTH (R663): A service AUTH is verified and the session opens as OWNER or GUEST. -/
  | auth (frame : List (BitVec 8))
  /-- CLOSE (R663): A service CLOSE ends the session. -/
  | close (frame : List (BitVec 8))
  /-- SESSION_TIMEOUT (R663): 30 s without a valid client frame end the session. -/
  | sessionTimeout
  /-- SVC_READ_SIGNALS (R663): Service REQUEST READ_SIGNALS reads signals. -/
  | svcReadSignals (frame : List (BitVec 8))
  /-- SVC_READ_RECORD (R663): Service REQUEST READ_RECORD reads a record. -/
  | svcReadRecord (frame : List (BitVec 8))
  /-- WRITE_BEGIN (R663): Service REQUEST WRITE_BEGIN checks and opens a bank write. -/
  | writeBegin (frame : List (BitVec 8))
  /-- WRITE_DATA (R663): Service REQUEST WRITE_DATA writes content bytes. -/
  | writeData (frame : List (BitVec 8))
  /-- WRITE_END (R663): Service REQUEST WRITE_END completes the write as STORE_RECORD or SAFETY_CONFIG. -/
  | writeEnd (frame : List (BitVec 8))
  /-- LIFECYCLE (R663): Service REQUEST LIFECYCLE runs a lifecycle operation with the session as credential. -/
  | lifecycle (frame : List (BitVec 8))
  /-- IDENTITY (R663): Service REQUEST IDENTITY answers a challenge. -/
  | identity (frame : List (BitVec 8))
  /-- EVENT_ARRIVAL (R679): An event reaches the reorder stage, or enters the queue at once as a late event, or is dropped. -/
  | eventArrival (index : Nat)
  /-- EVENT_RELEASE (R679): At TIME + 20 µs an event leaves the reorder stage into the queue with its ESEQ and goes to rings, log and CAN. -/
  | eventRelease
  /-- SDM_SAMPLE_RECORD (R279): A sample buffer with an SDM source takes one record every OSR bits counted from the last filter restart. -/
  | sdmSampleRecord (die : Fin 2) (input : Fin 24) (bits : List Bool)
  /-- SO_TEST_END (R495): 300 µs after a safety-output switch went off for its dark test, the test ends and the switch returns on. -/
  | soTestEnd (out : Fin 4) (second : Bool) (on : Bool)
  /-- COMPLETION_TIMEOUT (R543): A descriptor fetch gets no completion within the PCI Express completion timeout and the ring enters ERROR with cause 2. -/
  | completionTimeout (ring : BitVec 16)
  /-- CAN_RECEIVE_ERROR (R590): A controller detects a bus error while it receives, sends an error frame and raises its receive error counter, which can make it error passive. -/
  | canReceiveError (k : Fin 4) (dominant : Bool)
  /-- RESET_N_LOW (R619): RESET_N falls, and the part pulls EN_MAIN and the core enables low and asserts every STO and AUX_OFF level through its holding stages. -/
  | resetNLow
  /-- PCIE_ERROR (R534): The endpoint records an AER correctable or uncorrectable error and raises PCIE_ERROR. -/
  | pcieError (uncorrectable correctable : BitVec 32)
  deriving DecidableEq, Repr

end Sys2Proof
end

