-- ==== Sys2Proof/Config.lean ====
section
/-! DEFINITION. What one part fixes and what the spec leaves open: opaque constants without a body. Nothing in Lean can evaluate them; a statement that holds, holds for every value of them. -/

namespace Sys2Proof.Config

/-- A fresh free value of `w` bits, numbered by the free-value counter of the state (assumption 5). -/
opaque free (w : Nat) : Nat → BitVec w

/-- The sine an engine delivers for an angle strictly inside the first quarter turn, before the bounds of R194 are imposed (assumption 6). -/
opaque sinFree : BitVec 32 → BitVec 32

/-- Which of the four ANG values within two steps of the exact direction ATAN2 delivers, for the direction in lowest terms (R196, assumption 7). -/
opaque atanFree : Int → Int → BitVec 2

/-- The 64-bit unique ID burnt into the part (R660, assumption 8). -/
opaque deviceId : BitVec 64

/-- The device's ECDSA signature over a message (its private key is in no document; R661, assumption 8). -/
opaque deviceSign : List (BitVec 8) → List (BitVec 8)

/-- Content of the calibration record as written at manufacture: user corrections and factory constants (R648, assumption 9). -/
opaque factoryCal : List (BitVec 8)

/-- The firmware image in slot 0 as written at manufacture (R664, assumption 43). -/
opaque factoryImage : List (BitVec 8)

/-- The vendor firmware key X, Y in the boot ROMs (R664, assumption 43). -/
opaque vendorKey : List (BitVec 8)

/-- The device certificate in DER (R661, assumption 8). -/
opaque deviceCert : List (BitVec 8)

/-- The flits toward SENSE, LINK and AUX that a commit of these (address, value) writes causes: link, type, length, payload. The layout of their payload is internal to the package (assumption 10). -/
opaque flits : List (Nat × BitVec 32) → List (BitVec 8 × BitVec 4 × BitVec 4 × BitVec 96)

/-- The type field of the flits that carry a message of a kind; the kinds of flit are internal to the package (R24, assumption 10). -/
opaque flitType : String → BitVec 4

/-- The integer that rounding an infinite or undefined F32 operand gives where a rule rounds an F32 result to an integer and states no result for it (assumption 24). -/
opaque roundOpen : BitVec 32 → Int

/-- Which image of the Drive Set these code words are, by the rows of R323: 1 DS-PM-IN to 6 DS-OUT-4; any other value a program of the user. The code of the Drive Set is not in the spec (assumption 28). -/
opaque driveSetImage : List (BitVec 64) → Nat

/-- The owner code that SIGNAL_WRITE_REFUSED reports for a signal no entry covers (R95, R100, assumption 11). -/
opaque noOwnerCode : Nat → BitVec 32

/-- Which side of a channel the board wires to ASC_n (R424): true for the high side, positions 0, 2 and 4 (assumption 29). -/
opaque ascHigh : Nat → Bool

/-- The signature of the test records that the firmware of both control dies holds (R462, assumption 107). -/
opaque lockTestSig : BitVec 64

/-- The word in which LOCK_TEST_FAIL reports the result obtained in a case of the comparator test (R463, assumption 107): the spec gives no coding. -/
opaque lockTestResult : Nat → BitVec 32

end Sys2Proof.Config
end

