-- ==== Sys2Proof/Machine/Float.lean ====
section
/-! DEFINITION. Binary32 as 05_engine_arithmetic.md gives it (R173 to R184, R190): exact arithmetic on a decoded value, then one rounding, ties to even, with the flags of R186. -/

namespace Sys2Proof.Machine

/-- The exported flag set of R186. -/
abbrev FlagSet := BitVec 8

/-- R186 bit 0, invalid. -/
def flagNV : FlagSet := 0x01
/-- R186 bit 1, divide by zero. -/
def flagDZ : FlagSet := 0x02
/-- R186 bit 2, overflow. -/
def flagOF : FlagSet := 0x04
/-- R186 bit 3, underflow. -/
def flagUF : FlagSet := 0x08
/-- R186 bit 4, inexact. -/
def flagNX : FlagSet := 0x10
/-- R186 bit 5, a clamped table lookup. -/
def flagTRANGE : FlagSet := 0x20
/-- R186 bit 6, saturation. -/
def flagSAT : FlagSet := 0x40
/-- R186 bit 7, a value refused at the commit. -/
def flagNFR : FlagSet := 0x80

/-- A result word with the flags its instruction raises. -/
structure FRes where
  val : Word
  fl : FlagSet
  deriving DecidableEq, Repr

/-- A decoded binary32: a NaN, an infinity, or (−1)^neg × m × 2^e. -/
inductive FVal where
  | nan (signalling : Bool)
  | inf (neg : Bool)
  | fin (neg : Bool) (m : Nat) (e : Int)
  deriving DecidableEq, Repr

/-- The default NaN (R177). -/
def f32NaN : Word := 0x7FC00000
/-- 1.0 -/
def f32One : Word := 0x3F800000
/-- +∞ -/
def f32Inf : Word := 0x7F800000

/-- The sign bit. -/
def f32Neg (w : Word) : Bool := w.getMsbD 0

/-- The magnitude bits, as a number. -/
def f32Mag (w : Word) : Nat := w.toNat % 2 ^ 31

/-- Decodes a binary32; subnormals enter at full value (R174). -/
def f32Val (w : Word) : FVal :=
  let mag := f32Mag w
  let ex : Nat := mag / 2 ^ 23
  let fr : Nat := mag % 2 ^ 23
  if ex = 255 then
    if fr = 0 then .inf (f32Neg w) else .nan (fr < 2 ^ 22)
  else if ex = 0 then .fin (f32Neg w) fr (-149)
  else .fin (f32Neg w) (fr + 2 ^ 23) (Int.ofNat ex - 150)

/-- Puts a sign on a magnitude. -/
def f32Signed (neg : Bool) (mag : Nat) : Word :=
  BitVec.ofNat 32 (if neg then mag + 2 ^ 31 else mag)

/-- A signed infinity. -/
def f32InfOf (neg : Bool) : Word := f32Signed neg 0x7F800000

/-- floor and remainder-nonzero of num × 2^s / den. -/
def scaleDiv (num den : Nat) (s : Int) : Nat × Nat × Nat :=
  let n := if 0 ≤ s then num <<< s.toNat else num
  let d := if 0 ≤ s then den else den <<< (-s).toNat
  (n / d, n % d, d)

/-- Rounds the quotient q with remainder r of divisor d to nearest, ties to even. -/
def roundHalfEven (q r d : Nat) : Nat :=
  if 2 * r < d then q else if d < 2 * r then q + 1 else if q % 2 = 0 then q else q + 1

/-- Rounds (−1)^neg × num / den × 2^e once to binary32 (R173 to R175). A zero takes the sign `neg`. -/
def f32Round (neg : Bool) (num den : Nat) (e : Int) : FRes :=
  if num = 0 then ⟨f32Signed neg 0, 0⟩
  else
    let l : Int := (Nat.log2 num : Int) - (Nat.log2 den : Int)
    let e1 : Int := max (-149) (l + e - 23)
    let q1 := (scaleDiv num den (e - e1)).1
    let ex : Int := if q1 < 2 ^ 23 ∧ -149 < e1 then e1 - 1 else e1
    let (q, r, d) := scaleDiv num den (e - ex)
    let q' := roundHalfEven q r d
    let bits : Int := (ex + 149) * 2 ^ 23 + q'
    if 0x7F800000 ≤ bits then ⟨f32InfOf neg, flagOF ||| flagNX⟩
    else
      let inexact := r != 0
      let fl : FlagSet := if inexact then (if bits < 2 ^ 23 then flagNX ||| flagUF else flagNX) else 0
      ⟨f32Signed neg bits.toNat, fl⟩

/-- Rounds an integer × 2^e, with the sign of an exact zero given. -/
def f32RoundInt (zeroNeg : Bool) (v : Int) (e : Int) : FRes :=
  if v = 0 then ⟨f32Signed zeroNeg 0, 0⟩ else f32Round (v < 0) v.natAbs 1 e

/-- A quiet or signalling NaN operand: the default NaN, invalid for a signalling one (R177, R178). -/
def nanRes (signalling : Bool) : FRes := ⟨f32NaN, if signalling then flagNV else 0⟩

/-- The invalid result. -/
def invalidRes : FRes := ⟨f32NaN, flagNV⟩

/-- Is the value a signalling NaN? -/
def FVal.isSig : FVal → Bool
  | .nan s => s
  | _ => false

/-- Is the value a NaN? -/
def FVal.isNan : FVal → Bool
  | .nan _ => true
  | _ => false

/-- Signed integer mantissa. -/
def sgnMant (neg : Bool) (m : Nat) : Int := if neg then -(m : Int) else m

/-- The exact sum of two finite values, rounded once (R176). -/
def addFin (n1 : Bool) (m1 : Nat) (e1 : Int) (n2 : Bool) (m2 : Nat) (e2 : Int) : FRes :=
  let e := min e1 e2
  let v : Int := sgnMant n1 (m1 <<< (e1 - e).toNat) + sgnMant n2 (m2 <<< (e2 - e).toNat)
  f32RoundInt (n1 && n2) v e

/-- Addition of decoded values (R176, R178). -/
def addVal (a b : FVal) : FRes :=
  match a, b with
  | .nan s, .nan t => nanRes (s || t)
  | .nan s, _ => nanRes s
  | _, .nan t => nanRes t
  | .inf x, .inf y => if x = y then ⟨f32InfOf x, 0⟩ else invalidRes
  | .inf x, .fin _ _ _ => ⟨f32InfOf x, 0⟩
  | .fin _ _ _, .inf y => ⟨f32InfOf y, 0⟩
  | .fin n1 m1 e1, .fin n2 m2 e2 => addFin n1 m1 e1 n2 m2 e2

/-- The value with its sign inverted. -/
def FVal.neg : FVal → FVal
  | .nan s => .nan s
  | .inf n => .inf (!n)
  | .fin n m e => .fin (!n) m e

/-- FADD (R173). -/
def fadd (a b : Word) : FRes := addVal (f32Val a) (f32Val b)
/-- FSUB (R173). -/
def fsub (a b : Word) : FRes := addVal (f32Val a) (f32Val b).neg

/-- FMUL (R173, R178). -/
def fmul (a b : Word) : FRes :=
  match f32Val a, f32Val b with
  | .nan s, .nan t => nanRes (s || t)
  | .nan s, _ => nanRes s
  | _, .nan t => nanRes t
  | .inf x, .inf y => ⟨f32InfOf (x != y), 0⟩
  | .inf x, .fin n m _ => if m = 0 then invalidRes else ⟨f32InfOf (x != n), 0⟩
  | .fin n m _, .inf y => if m = 0 then invalidRes else ⟨f32InfOf (n != y), 0⟩
  | .fin n1 m1 e1, .fin n2 m2 e2 => f32Round (n1 != n2) (m1 * m2) 1 (e1 + e2)

/-- The fused product and sum of decoded values, one rounding (R176, R178, R179). 0 × ∞ is invalid even beside a quiet NaN addend. -/
def fmaVal (a b c : FVal) : FRes :=
  let sig := a.isSig || b.isSig || c.isSig
  match a, b with
  | .nan _, _ => nanRes sig
  | _, .nan _ => nanRes sig
  | .inf x, .inf y => fmaInf (x != y) c
  | .inf x, .fin n m _ => if m = 0 then invalidRes else fmaInf (x != n) c
  | .fin n m _, .inf y => if m = 0 then invalidRes else fmaInf (n != y) c
  | .fin n1 m1 e1, .fin n2 m2 e2 =>
    match c with
    | .nan s => nanRes s
    | .inf z => ⟨f32InfOf z, 0⟩
    | .fin n3 m3 e3 => addFin (n1 != n2) (m1 * m2) (e1 + e2) n3 m3 e3
where
  /-- An infinite product plus an addend. -/
  fmaInf (p : Bool) (c : FVal) : FRes :=
    match c with
    | .nan s => nanRes s
    | .inf z => if p = z then ⟨f32InfOf p, 0⟩ else invalidRes
    | .fin _ _ _ => ⟨f32InfOf p, 0⟩

/-- FMA (R179). -/
def ffma (a b c : Word) : FRes := fmaVal (f32Val a) (f32Val b) (f32Val c)
/-- FMS (R179). -/
def ffms (a b c : Word) : FRes := fmaVal (f32Val a) (f32Val b) (f32Val c).neg
/-- FNMA (R179). -/
def ffnma (a b c : Word) : FRes := fmaVal (f32Val a).neg (f32Val b) (f32Val c)

/-- FDIV (R178, R179). -/
def fdiv (a b : Word) : FRes :=
  match f32Val a, f32Val b with
  | .nan s, .nan t => nanRes (s || t)
  | .nan s, _ => nanRes s
  | _, .nan t => nanRes t
  | .inf _, .inf _ => invalidRes
  | .inf x, .fin n _ _ => ⟨f32InfOf (x != n), 0⟩
  | .fin n _ _, .inf y => ⟨f32Signed (n != y) 0, 0⟩
  | .fin n1 m1 e1, .fin n2 m2 e2 =>
    if m2 = 0 then (if m1 = 0 then invalidRes else ⟨f32InfOf (n1 != n2), flagDZ⟩)
    else f32Round (n1 != n2) m1 m2 (e1 - e2)

/-- One step of the integer square root, bit by bit. -/
def isqrtAux : Nat → Nat → Nat → Nat
  | 0, _, r => r
  | k + 1, n, r =>
    let c := r + 2 ^ k
    isqrtAux k n (if c * c ≤ n then c else r)

/-- The integer square root. -/
def isqrt (n : Nat) : Nat := isqrtAux (Nat.log2 n / 2 + 1) n 0

/-- FSQRT (R178, R179). -/
def fsqrt (a : Word) : FRes :=
  match f32Val a with
  | .nan s => nanRes s
  | .inf n => if n then invalidRes else ⟨f32Inf, 0⟩
  | .fin n m e =>
    if m = 0 then ⟨a, 0⟩
    else if n then invalidRes
    else
      let m' := if e % 2 = 0 then m else 2 * m
      let e' := if e % 2 = 0 then e else e - 1
      let big := m' <<< 64
      let r := isqrt big
      f32Round false (2 * r + if r * r = big then 0 else 1) 1 (e' / 2 - 32 - 1)

/-- FRSQ (R178, R179). -/
def frsq (a : Word) : FRes :=
  match f32Val a with
  | .nan s => nanRes s
  | .inf n => if n then invalidRes else ⟨0, 0⟩
  | .fin n m e =>
    if m = 0 then ⟨f32InfOf n, flagDZ⟩
    else if n then invalidRes
    else
      let m' := if e % 2 = 0 then m else 2 * m
      let e' := if e % 2 = 0 then e else e - 1
      let r := isqrt (2 ^ 128 / m')
      f32Round false (2 * r + if r * r * m' = 2 ^ 128 then 0 else 1) 1 (-(e' / 2) - 64 - 1)

/-- Order of non-NaN values, −0 and +0 equal. -/
def f32Key (w : Word) : Int := if f32Neg w then -(f32Mag w : Int) else f32Mag w
/-- Order of non-NaN values, −0 below +0 (R181). -/
def f32KeyZ (w : Word) : Int := if f32Neg w then -(f32Mag w : Int) - 1 else f32Mag w

/-- Is the word a NaN? -/
def f32IsNaN (w : Word) : Bool := f32Mag w > 0x7F800000
/-- Is the word a signalling NaN? -/
def f32IsSNaN (w : Word) : Bool := f32IsNaN w && f32Mag w < 0x7FC00000
/-- Is the word a NaN or an infinity (R112, R200)? -/
def f32NonFinite (w : Word) : Bool := f32Mag w ≥ 0x7F800000

/-- A truth value as 0 or 1. -/
def boolWord (b : Bool) : Word := if b then 1 else 0

/-- FMIN and FMAX (R181). -/
def fminmax (takeA : Word → Word → Bool) (a b : Word) : FRes :=
  let fl : FlagSet := if f32IsSNaN a || f32IsSNaN b then flagNV else 0
  if f32IsNaN a then (if f32IsNaN b then ⟨f32NaN, fl⟩ else ⟨b, fl⟩)
  else if f32IsNaN b then ⟨a, fl⟩
  else ⟨if takeA a b then a else b, fl⟩
/-- FMIN (R181). -/
def fmin (a b : Word) : FRes := fminmax (fun a b => f32KeyZ a ≤ f32KeyZ b) a b
/-- FMAX (R181). -/
def fmax (a b : Word) : FRes := fminmax (fun a b => f32KeyZ b ≤ f32KeyZ a) a b

/-- FABS (R177). -/
def fabs (a : Word) : FRes := ⟨a &&& 0x7FFFFFFF, 0⟩
/-- FNEG (R177). -/
def fneg (a : Word) : FRes := ⟨a ^^^ 0x80000000, 0⟩

/-- FEQ (R180). -/
def feq (a b : Word) : FRes :=
  if f32IsNaN a || f32IsNaN b then ⟨0, if f32IsSNaN a || f32IsSNaN b then flagNV else 0⟩
  else ⟨boolWord (f32Key a = f32Key b), 0⟩
/-- FLT (R180). -/
def flt (a b : Word) : FRes :=
  if f32IsNaN a || f32IsNaN b then ⟨0, flagNV⟩ else ⟨boolWord (f32Key a < f32Key b), 0⟩
/-- FLE (R180). -/
def fle (a b : Word) : FRes :=
  if f32IsNaN a || f32IsNaN b then ⟨0, flagNV⟩ else ⟨boolWord (f32Key a ≤ f32Key b), 0⟩

/-- FCLAMP (R182). -/
def fclamp (a lo hi : Word) : FRes :=
  if f32IsNaN a then invalidRes
  else
    let r := fmax a lo
    let q := fmin r.val hi
    ⟨q.val, r.fl ||| q.fl⟩

/-- The nearest integer, ties to even, of a finite value × 2^k, and whether it is exact. -/
def finToInt (neg : Bool) (m : Nat) (e : Int) : Int × Bool :=
  let (q, r, d) := scaleDiv m 1 e
  (sgnMant neg (roundHalfEven q r d), r = 0)

/-- The most negative and the most positive I32, as words. -/
def i32Min : Word := 0x80000000
/-- The most positive I32. -/
def i32Max : Word := 0x7FFFFFFF

/-- Conversion of a binary32 × 2^k to I32, saturating (R183). -/
def cvtToI (k : Int) (a : Word) : FRes :=
  match f32Val a with
  | .nan _ => ⟨0, flagNV⟩
  | .inf n => ⟨if n then i32Min else i32Max, flagNV⟩
  | .fin n m e =>
    let (v, exact) := finToInt n m (e + k)
    if v < -(2 ^ 31) then ⟨i32Min, flagNV⟩
    else if 2 ^ 31 - 1 < v then ⟨i32Max, flagNV⟩
    else ⟨BitVec.ofInt 32 v, if exact then 0 else flagNX⟩

/-- CVTFI (R183). -/
def cvtfi (a : Word) : FRes := cvtToI 0 a
/-- CVTFQ (R183). -/
def cvtfq (a : Word) : FRes := cvtToI 16 a
/-- CVTIF (R184). -/
def cvtif (a : Word) : FRes := f32RoundInt false a.toInt 0
/-- CVTUF (R184). -/
def cvtuf (a : Word) : FRes := f32RoundInt false a.toNat 0
/-- CVTQF (R184). -/
def cvtqf (a : Word) : FRes := f32RoundInt false a.toInt (-16)

/-- The rational num / den rounded once to binary32. -/
def f32OfRat (num : Int) (den : Nat) : Word := (f32Round (num < 0) num.natAbs den 0).val
/-- An integer rounded once to binary32. -/
def f32OfInt (v : Int) : Word := (f32RoundInt false v 0).val

/-- The exact value as a pair (integer, power of two); NaN and infinities have none. -/
def f32Exact (w : Word) : Option (Int × Int) :=
  match f32Val w with
  | .fin n m e => some (sgnMant n m, e)
  | _ => none

/-- Sign-magnitude floor of a non-negative finite value. -/
def f32Floor (w : Word) : Nat :=
  match f32Val w with
  | .fin false m e => (scaleDiv m 1 e).1
  | _ => 0

end Sys2Proof.Machine
end

