-- ==== Sys2Proof/Machine/Angle.lean ====
section
/-! DEFINITION. Q16 and angle arithmetic (05_engine_arithmetic.md, R191 to R198). SINCOS and ATAN2 deliver a value the spec only bounds: a free value of Config inside those bounds (assumptions 6 and 7). -/

namespace Sys2Proof.Machine

/-- Saturates an exact integer to I32; SAT when it was outside (R191 to R193). -/
def satI32 (v : Int) : FRes :=
  if v < -(2 ^ 31) then ⟨i32Min, flagSAT⟩
  else if 2 ^ 31 - 1 < v then ⟨i32Max, flagSAT⟩
  else ⟨BitVec.ofInt 32 v, 0⟩

/-- QMUL (R191): the exact product plus 0x8000, shifted right by 16 arithmetically, saturated. -/
def qmul (a b : Word) : FRes := satI32 ((a.toInt * b.toInt + 0x8000) / 65536)

/-- QINT (R192). -/
def qint (clamp : Bool) (d a b : Word) : FRes :=
  let q := qmul a b
  if clamp then
    let r := satI32 (d.toInt + q.val.toInt)
    ⟨r.val, q.fl ||| r.fl⟩
  else ⟨d + q.val, q.fl⟩

/-- SADD (R193). -/
def sadd (a b : Word) : FRes := satI32 (a.toInt + b.toInt)
/-- SSUB (R193). -/
def ssub (a b : Word) : FRes := satI32 (a.toInt - b.toInt)

/-- ⌊π × 2^256⌋. -/
def pi256 : Nat := 0x3243F6A8885A308D313198A2E03707344A4093822299F31D0082EFA98EC4E6C89

/-- π × 2^128, truncated: the working precision of the reference sine. -/
def pi128 : Nat := pi256 >>> 128

/-- One Taylor step: the next term of sin x. -/
def sinStep (x2 : Nat) (k : Nat) (t : Int) : Int := -(t * (x2 : Int) / (2 ^ 128 * ((2 * k) * (2 * k + 1) : Nat)))

/-- Sums n further Taylor terms. -/
def sinSum (x2 : Nat) : Nat → Nat → Int → Int → Int
  | 0, _, _, acc => acc
  | n + 1, k, t, acc =>
    let t' := sinStep x2 k t
    sinSum x2 n (k + 1) t' (acc + t')

/-- sin of a / 2^32 turns for a ≤ 2^30, in units of 2^-128. -/
def sinRef (a : Nat) : Int :=
  let x := a * pi128 / 2 ^ 31
  sinSum (x * x / 2 ^ 128) 28 1 x x

/-- Is the binary32 `w` within R194's bounds of the reference sine `r` (units of 2^-128)? -/
def sinWithin (r : Int) (w : Word) : Bool :=
  match f32Val w with
  | .fin false m e =>
    let v : Int := ((scaleDiv m 1 (e + 128)).1 : Int)
    let err := (v - r).natAbs
    decide (v ≤ 2 ^ 128) && decide (-100 ≤ e) && decide (err ≤ 2 ^ 104)
      && (decide (2 ^ 124 ≤ r) || decide (err * 2 ^ 22 ≤ r.natAbs))
  | _ => false

/-- The sine an engine delivers for 0 ≤ a ≤ 2^30: exact at both ends, else the free value where it meets R194 and the rounded reference where it does not. -/
def sinQuarter (a : Nat) : Word :=
  if a = 0 then 0
  else if a = 2 ^ 30 then f32One
  else
    let r := sinRef a
    let w := Config.sinFree (BitVec.ofNat 32 a)
    if sinWithin r w then w else (f32Round false r.natAbs 1 (-128)).val

/-- The sine of an ANG, folded to the first quarter so that R194's symmetries hold. -/
def sinAng (a : Word) : Word :=
  let n := a.toNat
  let h := n % 2 ^ 31
  let q := if h ≤ 2 ^ 30 then h else 2 ^ 31 - h
  let v := sinQuarter q
  if n < 2 ^ 31 || v == 0 then v else v ^^^ 0x80000000

/-- The cosine: the sine a quarter turn on (R194). -/
def cosAng (a : Word) : Word := sinAng (a + 0x40000000)

/-- SINCOS's flags (R195): NX unless the angle is a multiple of a quarter turn. -/
def sincosFlags (a : Word) : FlagSet := if a.toNat % 2 ^ 30 = 0 then 0 else flagNX

/-- One term of Euler's series for the arctangent; q = t² / (1 + t²) in units of 2^-192. -/
def atanSum (q : Nat) : Nat → Nat → Nat → Nat → Nat
  | 0, _, _, acc => acc
  | n + 1, k, t, acc =>
    let t' := t * (2 * k) / (2 * k + 1) * q / 2 ^ 192
    atanSum q n (k + 1) t' (acc + t')

/-- atan(num / den) for 0 ≤ num ≤ den, in units of 2^-192 rad. -/
def atanRef (num den : Nat) : Nat :=
  let s := num * num + den * den
  let q := num * num * 2 ^ 192 / s
  let t0 := num * den * 2 ^ 192 / s
  atanSum q 200 1 t0 t0

/-- The direction of (x, y), both positive, within the first quarter turn: floor of the ANG and of the fraction's place below it. -/
def atanQuarterFloor (y x : Nat) : Nat :=
  -- ANG = atan / (2π) × 2^32, atan in units of 2^-192; π × 2^192 = pi256 / 2^64
  let scale (a : Nat) : Nat := a * 2 ^ 31 / (pi256 >>> 64)
  if y ≤ x then scale (atanRef y x) else 2 ^ 30 - 1 - scale (atanRef x y)

/-- Both magnitudes on one integer scale. -/
def alignMag (m1 : Nat) (e1 : Int) (m2 : Nat) (e2 : Int) : Nat × Nat :=
  let e := min e1 e2
  (m1 <<< (e1 - e).toNat, m2 <<< (e2 - e).toNat)

/-- The three directions whose inexact result R190 states: (x, y) = (M, s), (s, M) and (−M, −s). -/
def atanTabled (ny : Bool) (y : Nat) (nx : Bool) (x : Nat) : Bool :=
  -- s = 2^-149 against M = (2^24 − 1) × 2^104, on one scale
  let big := (2 ^ 24 - 1) * 2 ^ 253
  (ny == nx && y * big == x) || (!ny && !nx && x * big == y)

/-- ATAN2 of two finite non-zero operands (R196). -/
def atanFin (ny : Bool) (my : Nat) (ey : Int) (nx : Bool) (mx : Nat) (ex : Int) : FRes :=
  let (y, x) := alignMag my ey mx ex
  -- the result is turned into the quadrant of the signs
  let place (a : Int) : Word :=
    let h : Int := if nx then 2 ^ 31 - a else a
    BitVec.ofInt 32 (if ny then -h else h)
  if y = x then ⟨place (2 ^ 29), 0⟩
  else if atanTabled ny y nx x then ⟨place (if y < x then 0 else 2 ^ 30), flagNX⟩
  else
    let g := Nat.gcd y x
    let sy : Int := if ny then -(y / g : Int) else (y / g : Int)
    let sx : Int := if nx then -(x / g : Int) else (x / g : Int)
    let fl := atanQuarterFloor y x
    ⟨place ((fl : Int) - 1 + (Config.atanFree sy sx).toNat), flagNX⟩

/-- ATAN2 (R196): y in the first operand, x in the second. -/
def fatan2 (y x : Word) : FRes :=
  match f32Val y, f32Val x with
  | .nan _, _ => ⟨0, flagNV⟩
  | _, .nan _ => ⟨0, flagNV⟩
  | .inf ny, .inf nx =>
    ⟨if nx then (if ny then 0xA0000000 else 0x60000000) else (if ny then 0xE0000000 else 0x20000000), 0⟩
  | .inf ny, .fin _ _ _ => ⟨if ny then 0xC0000000 else 0x40000000, 0⟩
  | .fin _ _ _, .inf nx => ⟨if nx then 0x80000000 else 0, 0⟩
  | .fin ny my ey, .fin nx mx ex =>
    if my = 0 then ⟨if nx then 0x80000000 else 0, 0⟩
    else if mx = 0 then ⟨if ny then 0xC0000000 else 0x40000000, 0⟩
    else atanFin ny my ey nx mx ex

/-- CVTAF (R197): n × π / 2^31, rounded once; NX for every non-zero angle. -/
def cvtaf (a : Word) : FRes :=
  let n := a.toInt
  if n = 0 then ⟨0, 0⟩
  else ⟨(f32Round (n < 0) (n.natAbs * pi256) 1 (-256 - 31)).val, flagNX⟩

/-- K of R198 in units of 2^-64: 2^31 / π rounded to 64 fraction bits. -/
def radToAng : Nat := (2 ^ (31 + 64 + 256) + pi256 / 2) / pi256

/-- CVTFA (R198). -/
def cvtfa (a : Word) : FRes :=
  match f32Val a with
  | .nan _ => ⟨0, flagNV⟩
  | .inf _ => ⟨0, flagNV⟩
  | .fin n m e =>
    if f32Mag a ≥ 0x4B800000 then ⟨0, flagNV⟩
    else
      let (v, exact) := finToInt n (m * radToAng) (e - 64)
      ⟨BitVec.ofInt 32 v, if exact then 0 else flagNX⟩

end Sys2Proof.Machine
end

