-- ==== Sys2Proof/Machine/Registers.lean ====
section
/-! DEFINITION. The registers of the set-up window (22_setup_registers.md and the register tables of the other chapters): where each lies, its fields, their access types and reset values. -/

namespace Sys2Proof.Machine

/-- The access types of R13. -/
inductive Access where
  | ro
  | rw
  | rwl
  | w1c
  | wo
  deriving DecidableEq, Repr

/-- One field: its lowest bit, width, access type, reset value, and the least and greatest value a write is taken as. -/
structure FieldDef where
  lo : Nat
  width : Nat
  access : Access
  reset : Nat
  least : Nat
  most : Nat
  deriving DecidableEq, Repr

/-- One register family: its first offset, a (stride, count) pair for each index, and its fields. -/
structure RegDef where
  base : Nat
  dims : List (Nat × Nat)
  fields : List FieldDef
  deriving DecidableEq, Repr

namespace Reg
/-- TB_STATUS (02_time_base_and_frames.md, table after R50). -/
def tbStatus : Nat := 0x60000
/-- DEV_TIME_LO (02_time_base_and_frames.md, table after R50). -/
def devTimeLo : Nat := 0x60008
/-- DEV_TIME_HI (02_time_base_and_frames.md, table after R50). -/
def devTimeHi : Nat := 0x6000c
/-- CH_CARRIER (02_time_base_and_frames.md, table after R66). -/
def chCarrier (i : Nat) : Nat := 0x60100 + 0x20 * i
/-- CH_DITHER (02_time_base_and_frames.md, table after R73). -/
def chDither (i : Nat) : Nat := 0x60108 + 0x20 * i
/-- SYNC_PINS (02_time_base_and_frames.md, table after R90). -/
def syncPins : Nat := 0x60010
/-- CH_SYNC (02_time_base_and_frames.md, table after R90). -/
def chSync (i : Nat) : Nat := 0x60104 + 0x20 * i
/-- CH_RESYNC (02_time_base_and_frames.md, table after R90). -/
def chResync (i : Nat) : Nat := 0x6010c + 0x20 * i
/-- CH_SYNC_STATUS (02_time_base_and_frames.md, table after R90). -/
def chSyncStatus (i : Nat) : Nat := 0x60110 + 0x20 * i
/-- SB_DIR_STATUS (03_signal_board.md, table after R120). -/
def sbDirStatus : Nat := 0x10400
/-- SB_ECC_CORR (03_signal_board.md, table after R120). -/
def sbEccCorr : Nat := 0x10404
/-- SB_ECC_UNCORR (03_signal_board.md, table after R120). -/
def sbEccUncorr : Nat := 0x10408
/-- SB_SCRUB (03_signal_board.md, table after R120). -/
def sbScrub : Nat := 0x1040c
/-- ENG_STATUS_n (04_oryx_engines.md, table after R171). -/
def engStatus (i : Nat) : Nat := 0x10800 + 0x4 * i
/-- PROG_SLOT_c (04_oryx_engines.md, table after R171). -/
def progSlot (i : Nat) : Nat := 0x10a00 + 0x4 * i
/-- ARITH_EVT_MASK (05_engine_arithmetic.md, table after R188). -/
def arithEvtMask : Nat := 0x10c00
/-- VELVET_ENG_n (06_planning_and_ageing.md, table after R238). -/
def velvetEng (i : Nat) : Nat := 0x10d00 + 0x4 * i
/-- VELVET_MEM_m (06_planning_and_ageing.md, table after R238). -/
def velvetMem (i : Nat) : Nat := 0x10d40 + 0x4 * i
/-- VELVET_AGEING (06_planning_and_ageing.md, table after R238). -/
def velvetAgeing : Nat := 0x10d60
/-- PLAN_CTRL (06_planning_and_ageing.md, table after R238). -/
def planCtrl : Nat := 0x10e00
/-- PLAN_VDD (06_planning_and_ageing.md, table after R238). -/
def planVdd : Nat := 0x10e04
/-- PLAN_STATUS (06_planning_and_ageing.md, table after R238). -/
def planStatus : Nat := 0x10e08
/-- CH_MISS_n (06_planning_and_ageing.md, table after R238). -/
def chMiss (i : Nat) : Nat := 0x10e20 + 0x4 * i
/-- MCLK_CFG_k (07_current_and_voltage_sensing.md, table after R287). -/
def mclkCfg (i j : Nat) : Nat := 0x40000 + 0x10000 * i + 0x4 * j
/-- SDM_CFG_i (07_current_and_voltage_sensing.md, table after R287). -/
def sdmCfg (i j : Nat) : Nat := 0x40020 + 0x10000 * i + 0x4 * j
/-- SDM_CMP_i (07_current_and_voltage_sensing.md, table after R287). -/
def sdmCmp (i j : Nat) : Nat := 0x40080 + 0x10000 * i + 0x4 * j
/-- SDM_CORR_i (07_current_and_voltage_sensing.md, table after R287). -/
def sdmCorr (i j : Nat) : Nat := 0x400e0 + 0x10000 * i + 0x4 * j
/-- ADC_CTRL_c (07_current_and_voltage_sensing.md, table after R287). -/
def adcCtrl (i j : Nat) : Nat := 0x40140 + 0x10000 * i + 0x4 * j
/-- ADC_SEQ_c_e (07_current_and_voltage_sensing.md, table after R287). -/
def adcSeq (i j k : Nat) : Nat := 0x40200 + 0x10000 * i + 0x80 * j + 0x4 * k
/-- ADC_CORR_c_j (07_current_and_voltage_sensing.md, table after R287). -/
def adcCorr (i j k : Nat) : Nat := 0x40500 + 0x10000 * i + 0x80 * j + 0x4 * k
/-- AIN_CFG_k (07_current_and_voltage_sensing.md, table after R287). -/
def ainCfg (i j : Nat) : Nat := 0x40800 + 0x10000 * i + 0x4 * j
/-- OW_LIMIT (07_current_and_voltage_sensing.md, table after R287). -/
def owLimit (i : Nat) : Nat := 0x408a0 + 0x10000 * i
/-- PLAUS_k (07_current_and_voltage_sensing.md, table after R287). -/
def plaus (i j : Nat) : Nat := 0x408b0 + 0x10000 * i + 0x4 * j
/-- OW_STATUS_0 (07_current_and_voltage_sensing.md, table after R287). -/
def owStatus0 (i : Nat) : Nat := 0x408e0 + 0x10000 * i
/-- OW_STATUS_1 (07_current_and_voltage_sensing.md, table after R287). -/
def owStatus1 (i : Nat) : Nat := 0x408e4 + 0x10000 * i
/-- CH_MEAS_l_m (07_current_and_voltage_sensing.md, table after R287). -/
def chMeas (i j k : Nat) : Nat := 0x40900 + 0x10000 * i + 0x40 * j + 0x4 * k
/-- CH_SCALE_l_m (07_current_and_voltage_sensing.md, table after R287). -/
def chScale (i j k : Nat) : Nat := 0x40a00 + 0x10000 * i + 0x40 * j + 0x4 * k
/-- NTC_CFG_k (07_current_and_voltage_sensing.md, table after R287). -/
def ntcCfg (i j : Nat) : Nat := 0x40b00 + 0x10000 * i + 0x4 * j
/-- NTC_TAB_t_p (07_current_and_voltage_sensing.md, table after R287). -/
def ntcTab (i j k : Nat) : Nat := 0x40c00 + 0x10000 * i + 0x100 * j + 0x4 * k
/-- SMP_CTRL_b (07_current_and_voltage_sensing.md, table after R287). -/
def smpCtrl (i : Nat) : Nat := 0x11000 + 0x10 * i
/-- SMP_BASE_b (07_current_and_voltage_sensing.md, table after R287). -/
def smpBase (i : Nat) : Nat := 0x11004 + 0x10 * i
/-- SMP_WM_b (07_current_and_voltage_sensing.md, table after R287). -/
def smpWm (i : Nat) : Nat := 0x11008 + 0x10 * i
/-- SMP_RPTR_b (07_current_and_voltage_sensing.md, table after R287). -/
def smpRptr (i : Nat) : Nat := 0x1100c + 0x10 * i
/-- POS_CFG_k (08_position_and_speed.md, table after R321). -/
def posCfg (i j : Nat) : Nat := 0x41000 + 0x10000 * i + 0x40 * j
/-- POS_LIM_k (08_position_and_speed.md, table after R321). -/
def posLim (i j : Nat) : Nat := 0x41004 + 0x10000 * i + 0x40 * j
/-- RES_EXC_k (08_position_and_speed.md, table after R321). -/
def resExc (i j : Nat) : Nat := 0x41008 + 0x10000 * i + 0x40 * j
/-- RES_PH_k (08_position_and_speed.md, table after R321). -/
def resPh (i j : Nat) : Nat := 0x4100c + 0x10000 * i + 0x40 * j
/-- RES_LIM_k (08_position_and_speed.md, table after R321). -/
def resLim (i j : Nat) : Nat := 0x41010 + 0x10000 * i + 0x40 * j
/-- RES_CORR_SIN_k (08_position_and_speed.md, table after R321). -/
def resCorrSin (i j : Nat) : Nat := 0x41014 + 0x10000 * i + 0x40 * j
/-- RES_CORR_COS_k (08_position_and_speed.md, table after R321). -/
def resCorrCos (i j : Nat) : Nat := 0x41018 + 0x10000 * i + 0x40 * j
/-- SSI_CFG_k (08_position_and_speed.md, table after R321). -/
def ssiCfg (i j : Nat) : Nat := 0x4101c + 0x10000 * i + 0x40 * j
/-- SSI_CRC_k (08_position_and_speed.md, table after R321). -/
def ssiCrc (i j : Nat) : Nat := 0x41020 + 0x10000 * i + 0x40 * j
/-- SSI_TIM_k (08_position_and_speed.md, table after R321). -/
def ssiTim (i j : Nat) : Nat := 0x41024 + 0x10000 * i + 0x40 * j
/-- ENC_CFG_k (08_position_and_speed.md, table after R321). -/
def encCfg (i j : Nat) : Nat := 0x41028 + 0x10000 * i + 0x40 * j
/-- CMP_CTRL_u (08_position_and_speed.md, table after R321). -/
def cmpCtrl (i j : Nat) : Nat := 0x41100 + 0x10000 * i + 0x20 * j
/-- CMP_STATUS_u (08_position_and_speed.md, table after R321). -/
def cmpStatus (i j : Nat) : Nat := 0x41104 + 0x10000 * i + 0x20 * j
/-- CMP_LIST_u_p (08_position_and_speed.md, table after R321). -/
def cmpList (i j k : Nat) : Nat := 0x41200 + 0x10000 * i + 0x200 * j + 0x8 * k
/-- CMP_LIST_HI_u_p (08_position_and_speed.md, table after R321). -/
def cmpListHi (i j k : Nat) : Nat := 0x41204 + 0x10000 * i + 0x200 * j + 0x8 * k
/-- EMU_CFG (08_position_and_speed.md, table after R321). -/
def emuCfg (i : Nat) : Nat := 0x41a00 + 0x10000 * i
/-- MOD_CFG_n (10_modulation.md, table after R370). -/
def modCfg (i : Nat) : Nat := 0x60400 + 0x20 * i
/-- MOD_DT_n (10_modulation.md, table after R370). -/
def modDt (i j : Nat) : Nat := 0x60404 + 0x20 * i + 0x4 * j
/-- MOD_IBAND_n (10_modulation.md, table after R370). -/
def modIband (i : Nat) : Nat := 0x60410 + 0x20 * i
/-- MOD_STATUS_n (10_modulation.md, table after R370). -/
def modStatus (i : Nat) : Nat := 0x60414 + 0x20 * i
/-- GA_CFG_n (11_gate_arrays.md, table after R410). -/
def gaCfg (i : Nat) : Nat := 0x60800 + 0x40 * i
/-- GA_BAL_n (11_gate_arrays.md, table after R410). -/
def gaBal (i : Nat) : Nat := 0x60804 + 0x40 * i
/-- GA_POS_n_p (11_gate_arrays.md, table after R410). -/
def gaPos (i j : Nat) : Nat := 0x60808 + 0x40 * i + 0x4 * j
/-- GA_RETIRED_n_p (11_gate_arrays.md, table after R410). -/
def gaRetired (i j : Nat) : Nat := 0x60820 + 0x40 * i + 0x4 * j
/-- GA_UNRETIRE_n (11_gate_arrays.md, table after R410). -/
def gaUnretire (i : Nat) : Nat := 0x60838 + 0x40 * i
/-- GA_TEMP_n (11_gate_arrays.md, table after R410). -/
def gaTemp (i : Nat) : Nat := 0x6083c + 0x40 * i
/-- TP_STATUS_nn (11_gate_arrays.md, table after R410). -/
def tpStatus (i : Nat) : Nat := 0x60c00 + 0x10 * i
/-- TP_TIME_nn (11_gate_arrays.md, table after R410). -/
def tpTime (i : Nat) : Nat := 0x60c04 + 0x10 * i
/-- TP_ID_LO_nn (11_gate_arrays.md, table after R410). -/
def tpIdLo (i : Nat) : Nat := 0x60c08 + 0x10 * i
/-- TP_ID_HI_nn (11_gate_arrays.md, table after R410). -/
def tpIdHi (i : Nat) : Nat := 0x60c0c + 0x10 * i
/-- PROT_CFG_n (12_protection_and_discharge.md, table after R442). -/
def protCfg (i : Nat) : Nat := 0x61000 + 0x40 * i
/-- PROT_SPEED_n (12_protection_and_discharge.md, table after R442). -/
def protSpeed (i : Nat) : Nat := 0x61004 + 0x40 * i
/-- PROT_UDC_n (12_protection_and_discharge.md, table after R442). -/
def protUdc (i : Nat) : Nat := 0x61008 + 0x40 * i
/-- PROT_LIM_n (12_protection_and_discharge.md, table after R442). -/
def protLim (i : Nat) : Nat := 0x6100c + 0x40 * i
/-- PROT_NTC_n (12_protection_and_discharge.md, table after R442). -/
def protNtc (i : Nat) : Nat := 0x61010 + 0x40 * i
/-- PROT_PL_n (12_protection_and_discharge.md, table after R442). -/
def protPl (i : Nat) : Nat := 0x61014 + 0x40 * i
/-- DISCH_CFG_n (12_protection_and_discharge.md, table after R442). -/
def dischCfg (i : Nat) : Nat := 0x61018 + 0x40 * i
/-- DISCH_I_n (12_protection_and_discharge.md, table after R442). -/
def dischI (i : Nat) : Nat := 0x6101c + 0x40 * i
/-- PROT_CMD_n (12_protection_and_discharge.md, table after R442). -/
def protCmd (i : Nat) : Nat := 0x61020 + 0x40 * i
/-- PROT_STATUS_n (12_protection_and_discharge.md, table after R442). -/
def protStatus (i : Nat) : Nat := 0x61024 + 0x40 * i
/-- SHUT_CFG (12_protection_and_discharge.md, table after R442). -/
def shutCfg : Nat := 0x61200
/-- SHUT_STATUS (12_protection_and_discharge.md, table after R442). -/
def shutStatus : Nat := 0x61204
/-- LOCK_CFG (13_lockstep.md, table after R463). -/
def lockCfg : Nat := 0x10f00
/-- LOCK_STATUS (13_lockstep.md, table after R463). -/
def lockStatus : Nat := 0x30200
/-- LOCK_COUNT (13_lockstep.md, table after R463). -/
def lockCount : Nat := 0x30204
/-- LOCK_LAST (13_lockstep.md, table after R463). -/
def lockLast : Nat := 0x30208
/-- SAFE_STATUS (14_functional_safety.md, table after R504). -/
def safeStatus : Nat := 0x30000
/-- SAFE_CFG_CRC (14_functional_safety.md, table after R504). -/
def safeCfgCrc : Nat := 0x30004
/-- SAFE_CFG_SERIAL (14_functional_safety.md, table after R504). -/
def safeCfgSerial : Nat := 0x30008
/-- SAFE_SI (14_functional_safety.md, table after R504). -/
def safeSi : Nat := 0x30010
/-- CHAMOIS_SI (14_functional_safety.md, table after R504). -/
def chamoisSi : Nat := 0x30014
/-- SAFE_PAIR_k (14_functional_safety.md, table after R504). -/
def safePair (i : Nat) : Nat := 0x30020 + 0x4 * i
/-- SAFE_FN_f (14_functional_safety.md, table after R504). -/
def safeFn (i : Nat) : Nat := 0x30060 + 0x4 * i
/-- SAFE_CH_n (14_functional_safety.md, table after R504). -/
def safeCh (i : Nat) : Nat := 0x300a0 + 0x4 * i
/-- SAFE_SO (14_functional_safety.md, table after R504). -/
def safeSo : Nat := 0x300c0
/-- AUX_STATUS (15_aux_drives.md, table after R533). -/
def auxStatus : Nat := 0x70000
/-- AUX_VM (15_aux_drives.md, table after R533). -/
def auxVm : Nat := 0x70004
/-- AUX_BST_UV_LO (15_aux_drives.md, table after R533). -/
def auxBstUvLo : Nat := 0x70008
/-- AUX_BST_UV_HI (15_aux_drives.md, table after R533). -/
def auxBstUvHi : Nat := 0x7000c
/-- AUX_AIN_CFG_n (15_aux_drives.md, table after R533). -/
def auxAinCfg (i : Nat) : Nat := 0x70020 + 0x4 * i
/-- AUX_PWM_CFG_n (15_aux_drives.md, table after R533). -/
def auxPwmCfg (i : Nat) : Nat := 0x70040 + 0x4 * i
/-- SLOT_CFG_s (15_aux_drives.md, table after R533). -/
def slotCfg (i : Nat) : Nat := 0x70100 + 0x80 * i
/-- SLOT_PWM_s (15_aux_drives.md, table after R533). -/
def slotPwm (i : Nat) : Nat := 0x70104 + 0x80 * i
/-- SLOT_SHUNT_s (15_aux_drives.md, table after R533). -/
def slotShunt (i : Nat) : Nat := 0x70108 + 0x80 * i
/-- SLOT_ILIM_s (15_aux_drives.md, table after R533). -/
def slotIlim (i : Nat) : Nat := 0x7010c + 0x80 * i
/-- SLOT_TH_s (15_aux_drives.md, table after R533). -/
def slotTh (i : Nat) : Nat := 0x70110 + 0x80 * i
/-- SLOT_BLDC_s (15_aux_drives.md, table after R533). -/
def slotBldc (i : Nat) : Nat := 0x70114 + 0x80 * i
/-- SLOT_HALLOFF_s (15_aux_drives.md, table after R533). -/
def slotHalloff (i : Nat) : Nat := 0x70118 + 0x80 * i
/-- SLOT_XHYST_s (15_aux_drives.md, table after R533). -/
def slotXhyst (i : Nat) : Nat := 0x7011c + 0x80 * i
/-- SLOT_RAMP_s (15_aux_drives.md, table after R533). -/
def slotRamp (i : Nat) : Nat := 0x70120 + 0x80 * i
/-- SLOT_KP_s (15_aux_drives.md, table after R533). -/
def slotKp (i : Nat) : Nat := 0x70124 + 0x80 * i
/-- SLOT_KI_s (15_aux_drives.md, table after R533). -/
def slotKi (i : Nat) : Nat := 0x70128 + 0x80 * i
/-- SLOT_STEP_s (15_aux_drives.md, table after R533). -/
def slotStep (i : Nat) : Nat := 0x7012c + 0x80 * i
/-- SLOT_ISTEP_s (15_aux_drives.md, table after R533). -/
def slotIstep (i : Nat) : Nat := 0x70130 + 0x80 * i
/-- SLOT_VMAX_s (15_aux_drives.md, table after R533). -/
def slotVmax (i : Nat) : Nat := 0x70134 + 0x80 * i
/-- SLOT_AMAX_s (15_aux_drives.md, table after R533). -/
def slotAmax (i : Nat) : Nat := 0x70138 + 0x80 * i
/-- SLOT_DMAX_s (15_aux_drives.md, table after R533). -/
def slotDmax (i : Nat) : Nat := 0x7013c + 0x80 * i
/-- SLOT_JMAX_s (15_aux_drives.md, table after R533). -/
def slotJmax (i : Nat) : Nat := 0x70140 + 0x80 * i
/-- SLOT_MS_A_s (15_aux_drives.md, table after R533). -/
def slotMsA (i : Nat) : Nat := 0x70144 + 0x80 * i
/-- SLOT_MS_B_s (15_aux_drives.md, table after R533). -/
def slotMsB (i : Nat) : Nat := 0x70148 + 0x80 * i
/-- SLOT_MS_C_s (15_aux_drives.md, table after R533). -/
def slotMsC (i : Nat) : Nat := 0x7014c + 0x80 * i
/-- SLOT_STATUS_s (15_aux_drives.md, table after R533). -/
def slotStatus (i : Nat) : Nat := 0x70150 + 0x80 * i
/-- SLOT_CURVE_s_j (15_aux_drives.md, table after R533). -/
def slotCurve (i j : Nat) : Nat := 0x71000 + 0x80 * i + 0x4 * j
/-- SLOT_ADV_s_j (15_aux_drives.md, table after R533). -/
def slotAdv (i j : Nat) : Nat := 0x71800 + 0x80 * i + 0x4 * j
/-- RE_CTRL (16_host_rings.md, table after R575). -/
def reCtrl : Nat := 0x90000
/-- RE_STATUS (16_host_rings.md, table after R575). -/
def reStatus : Nat := 0x90004
/-- RING_SEL (16_host_rings.md, table after R575). -/
def ringSel : Nat := 0x90010
/-- RING_CTX_w (16_host_rings.md, table after R575). -/
def ringCtx (i : Nat) : Nat := 0x90020 + 0x4 * i
/-- RING_OP (16_host_rings.md, table after R575). -/
def ringOp : Nat := 0x90040
/-- RING_OP_STATUS (16_host_rings.md, table after R575). -/
def ringOpStatus : Nat := 0x90044
/-- RING_DEV_IDX (16_host_rings.md, table after R575). -/
def ringDevIdx : Nat := 0x90048
/-- RING_HOST_IDX (16_host_rings.md, table after R575). -/
def ringHostIdx : Nat := 0x9004c
/-- RING_STATE (16_host_rings.md, table after R575). -/
def ringState : Nat := 0x90050
/-- EVQ_STATUS (16_host_rings.md, table after R575). -/
def evqStatus : Nat := 0x90060
/-- FRESH_CFG_n (16_host_rings.md, table after R575). -/
def freshCfg (i : Nat) : Nat := 0x90100 + 0x4 * i
/-- FRESH_LIM_n (16_host_rings.md, table after R575). -/
def freshLim (i : Nat) : Nat := 0x90120 + 0x4 * i
/-- FRESH_ALT_n (16_host_rings.md, table after R575). -/
def freshAlt (i : Nat) : Nat := 0x90140 + 0x4 * i
/-- CAN_CTRL_k (17_can.md, table after R594). -/
def canCtrl (i : Nat) : Nat := 0xa0000 + 0x4000 * i
/-- CAN_NBT_k (17_can.md, table after R594). -/
def canNbt (i : Nat) : Nat := 0xa0004 + 0x4000 * i
/-- CAN_DBT_k (17_can.md, table after R594). -/
def canDbt (i : Nat) : Nat := 0xa0008 + 0x4000 * i
/-- CAN_CMD_k (17_can.md, table after R594). -/
def canCmd (i : Nat) : Nat := 0xa000c + 0x4000 * i
/-- CAN_STATUS_k (17_can.md, table after R594). -/
def canStatus (i : Nat) : Nat := 0xa0010 + 0x4000 * i
/-- CAN_COUNT_k (17_can.md, table after R594). -/
def canCount (i : Nat) : Nat := 0xa0014 + 0x4000 * i
/-- CAN_TDC_k (17_can.md, table after R594). -/
def canTdc (i : Nat) : Nat := 0xa0018 + 0x4000 * i
/-- CAN_EVT_AREA_k (17_can.md, table after R594). -/
def canEvtArea (i : Nat) : Nat := 0xa001c + 0x4000 * i
/-- CAN_MASK_k_m (17_can.md, table after R594). -/
def canMask (i j : Nat) : Nat := 0xa0100 + 0x4000 * i + 0x4 * j
/-- CAN_OBJ_SEL_k (17_can.md, table after R594). -/
def canObjSel (i : Nat) : Nat := 0xa0200 + 0x4000 * i
/-- CAN_OBJ_FLAGS_k (17_can.md, table after R594). -/
def canObjFlags (i : Nat) : Nat := 0xa0204 + 0x4000 * i
/-- CAN_OBJ_DATA_k_w (17_can.md, table after R594). -/
def canObjData (i j : Nat) : Nat := 0xa0240 + 0x4000 * i + 0x4 * j
/-- CAN_OBJ_ID_k_j (17_can.md, table after R594). -/
def canObjId (i j : Nat) : Nat := 0xa2000 + 0x4000 * i + 0x8 * j
/-- CAN_OBJ_MODE_k_j (17_can.md, table after R594). -/
def canObjMode (i j : Nat) : Nat := 0xa2004 + 0x4000 * i + 0x8 * j
/-- SETUP_CTRL (18_power_ladder.md, table after R621). -/
def setupCtrl : Nat := 0x20
/-- PWR_CTRL (18_power_ladder.md, table after R621). -/
def pwrCtrl : Nat := 0x100
/-- PWR_STATUS (18_power_ladder.md, table after R621). -/
def pwrStatus : Nat := 0x104
/-- PWR_CFG (18_power_ladder.md, table after R621). -/
def pwrCfg : Nat := 0x108
/-- PWR_RAILS (18_power_ladder.md, table after R621). -/
def pwrRails : Nat := 0x10c
/-- PWR_TIMER_LO (18_power_ladder.md, table after R621). -/
def pwrTimerLo : Nat := 0x110
/-- PWR_TIMER_HI (18_power_ladder.md, table after R621). -/
def pwrTimerHi : Nat := 0x114
/-- ST_CTRL (19_self_test.md, table after R637). -/
def stCtrl : Nat := 0x200
/-- ST_SEL (19_self_test.md, table after R637). -/
def stSel : Nat := 0x204
/-- ST_STATUS (19_self_test.md, table after R637). -/
def stStatus : Nat := 0x208
/-- ST_CAPACITY (19_self_test.md, table after R637). -/
def stCapacity : Nat := 0x20c
/-- ST_LOG_SEL (19_self_test.md, table after R637). -/
def stLogSel : Nat := 0x210
/-- ST_LOG_0 (19_self_test.md, table after R637). -/
def stLog0 : Nat := 0x214
/-- ST_LOG_1 (19_self_test.md, table after R637). -/
def stLog1 : Nat := 0x218
/-- ST_TRACE_RET_i (19_self_test.md, table after R637). -/
def stTraceRet (i : Nat) : Nat := 0x220 + 0x4 * i
/-- ST_SAMPLE_RET (19_self_test.md, table after R637). -/
def stSampleRet : Nat := 0x230
/-- STORE_STATUS (20_store_update_identity.md, table after R670). -/
def storeStatus : Nat := 0x80000
/-- STORE_KIND_k (20_store_update_identity.md, table after R670). -/
def storeKind (i : Nat) : Nat := 0x80010 + 0x8 * i
/-- STORE_SEQ_k (20_store_update_identity.md, table after R670). -/
def storeSeq (i : Nat) : Nat := 0x80014 + 0x8 * i
/-- FW_STATUS (20_store_update_identity.md, table after R670). -/
def fwStatus : Nat := 0x80100
/-- FW_VERSION (20_store_update_identity.md, table after R670). -/
def fwVersion : Nat := 0x80104
/-- UPD_CFG (20_store_update_identity.md, table after R670). -/
def updCfg : Nat := 0x80108
/-- LC_STATUS (20_store_update_identity.md, table after R670). -/
def lcStatus : Nat := 0x80200
/-- LC_NONCE_LO (20_store_update_identity.md, table after R670). -/
def lcNonceLo : Nat := 0x80204
/-- LC_NONCE_HI (20_store_update_identity.md, table after R670). -/
def lcNonceHi : Nat := 0x80208
/-- DEV_ID_LO (20_store_update_identity.md, table after R670). -/
def devIdLo : Nat := 0x8020c
/-- DEV_ID_HI (20_store_update_identity.md, table after R670). -/
def devIdHi : Nat := 0x80210
/-- EVLOG_CFG (20_store_update_identity.md, table after R670). -/
def evlogCfg : Nat := 0x80300
/-- SVC_CFG (20_store_update_identity.md, table after R670). -/
def svcCfg : Nat := 0xb0000
/-- SVC_STATUS (20_store_update_identity.md, table after R670). -/
def svcStatus : Nat := 0xb0004
/-- SVC_SEQ (20_store_update_identity.md, table after R670). -/
def svcSeq : Nat := 0xb0008
/-- EVQ_DROPPED (21_guarantees.md, table after R686). -/
def evqDropped : Nat := 0x90064
/-- EVQ_LATE (21_guarantees.md, table after R686). -/
def evqLate : Nat := 0x90068
/-- GLB_ID (22_setup_registers.md, table after R698). -/
def glbId : Nat := 0x0
/-- GLB_DIES (22_setup_registers.md, table after R698). -/
def glbDies : Nat := 0x8
/-- GLB_FAULT (22_setup_registers.md, table after R698). -/
def glbFault : Nat := 0x10
/-- GLB_FAULT_MASK (22_setup_registers.md, table after R698). -/
def glbFaultMask : Nat := 0x14
/-- SETUP_STATUS (22_setup_registers.md, table after R698). -/
def setupStatus : Nat := 0x24
end Reg

/-- Part 0 of the register map. -/
def regMap0 : List RegDef := [
  ⟨0x60000, [], [⟨5, 1, .ro, 0x0, 0, 0x1⟩, ⟨4, 1, .ro, 0x0, 0, 0x1⟩, ⟨3, 1, .ro, 0x0, 0, 0x1⟩, ⟨2, 1, .ro, 0x0, 0, 0x1⟩, ⟨1, 1, .ro, 0x0, 0, 0x1⟩, ⟨0, 1, .ro, 0x0, 0, 0x1⟩]⟩,
  ⟨0x60008, [], [⟨0, 32, .ro, 0x0, 0, 0xffffffff⟩]⟩,
  ⟨0x6000c, [], [⟨0, 32, .ro, 0x0, 0, 0xffffffff⟩]⟩,
  ⟨0x60100, [(0x20, 8)], [⟨31, 1, .rwl, 0x0, 0, 0x1⟩, ⟨30, 1, .rwl, 0x0, 0, 0x1⟩, ⟨18, 11, .rwl, 0x578, 800, 0x578⟩, ⟨0, 18, .rwl, 0x9c40, 4000, 0x30d40⟩]⟩,
  ⟨0x60108, [(0x20, 8)], [⟨31, 1, .rwl, 0x0, 0, 0x1⟩, ⟨16, 10, .rwl, 0x0, 0, 0x64⟩, ⟨0, 16, .rwl, 0x1, 0, 0xffff⟩]⟩,
  ⟨0x60010, [], [⟨29, 3, .rw, 0x0, 0, 0x7⟩, ⟨28, 1, .rw, 0x0, 0, 0x1⟩, ⟨27, 1, .rw, 0x0, 0, 0x1⟩, ⟨16, 11, .rw, 0x28, 0, 0x7ff⟩, ⟨8, 2, .rwl, 0x1, 0, 0x3⟩, ⟨0, 1, .rwl, 0x0, 0, 0x1⟩]⟩,
  ⟨0x60104, [(0x20, 8)], [⟨30, 2, .rwl, 0x0, 0, 0x3⟩, ⟨27, 3, .rwl, 0x0, 0, 0x7⟩, ⟨26, 1, .rwl, 0x0, 0, 0x1⟩, ⟨24, 2, .rwl, 0x1, 0, 0x3⟩, ⟨16, 8, .rwl, 0x0, 0, 0xff⟩, ⟨0, 16, .rwl, 0x0, 0, 0xffff⟩]⟩,
  ⟨0x6010c, [(0x20, 8)], [⟨0, 1, .wo, 0x0, 0, 0x1⟩]⟩,
  ⟨0x60110, [(0x20, 8)], [⟨9, 1, .ro, 0x0, 0, 0x1⟩, ⟨8, 1, .ro, 0x0, 0, 0x1⟩, ⟨4, 4, .ro, 0x0, 0, 0xf⟩, ⟨0, 2, .ro, 0x0, 0, 0x3⟩]⟩,
  ⟨0x10400, [], [⟨16, 16, .ro, 0x0, 0, 0xffff⟩, ⟨0, 16, .ro, 0x0, 0, 0xffff⟩]⟩,
  ⟨0x10404, [], [⟨0, 32, .ro, 0x0, 0, 0xffffffff⟩]⟩,
  ⟨0x10408, [], [⟨24, 8, .ro, 0x0, 0, 0xff⟩, ⟨0, 18, .ro, 0x0, 0, 0x3ffff⟩]⟩]

/-- Part 1 of the register map. -/
def regMap1 : List RegDef := [
  ⟨0x1040c, [], [⟨31, 1, .rwl, 0x1, 0, 0x1⟩, ⟨0, 16, .rwl, 0x64, 10, 0x3e8⟩]⟩,
  ⟨0x10800, [(0x4, 16)], [⟨29, 3, .ro, 0x0, 0, 0x7⟩, ⟨16, 8, .ro, 0xff, 0, 0xff⟩, ⟨0, 16, .ro, 0x0, 0, 0xffff⟩]⟩,
  ⟨0x10a00, [(0x4, 128)], [⟨30, 2, .ro, 0x0, 0, 0x3⟩, ⟨27, 3, .ro, 0x0, 0, 0x7⟩, ⟨23, 4, .ro, 0x0, 0, 0xf⟩, ⟨15, 8, .ro, 0x0, 0, 0xff⟩, ⟨14, 1, .ro, 0x0, 0, 0x1⟩, ⟨0, 14, .ro, 0x0, 0, 0x3fff⟩]⟩,
  ⟨0x10c00, [], [⟨0, 8, .rw, 0x7, 0, 0xff⟩]⟩,
  ⟨0x10d00, [(0x4, 16)], [⟨31, 1, .ro, 0x0, 0, 0x1⟩, ⟨30, 1, .ro, 0x0, 0, 0x1⟩, ⟨0, 16, .ro, 0x0, 0, 0xffff⟩]⟩,
  ⟨0x10d40, [(0x4, 8)], [⟨31, 1, .ro, 0x0, 0, 0x1⟩, ⟨0, 16, .ro, 0x0, 0, 0xffff⟩]⟩,
  ⟨0x10d60, [], [⟨0, 20, .ro, 0x0, 0, 0xfffff⟩]⟩,
  ⟨0x10e00, [], [⟨8, 1, .rw, 0x1, 0, 0x1⟩, ⟨0, 8, .rwl, 0x14, 10, 0x32⟩]⟩,
  ⟨0x10e04, [], [⟨16, 16, .rwl, 0x384, 0, 0xffff⟩, ⟨0, 16, .rwl, 0x2a8, 0, 0xffff⟩]⟩,
  ⟨0x10e08, [], [⟨16, 16, .ro, 0x320, 0, 0xffff⟩, ⟨12, 4, .ro, 0x0, 0, 0xf⟩, ⟨11, 1, .ro, 0x0, 0, 0x1⟩, ⟨0, 10, .ro, 0x0, 0, 0x3ff⟩]⟩,
  ⟨0x10e20, [(0x4, 8)], [⟨0, 2, .rwl, 0x0, 0, 0x3⟩]⟩,
  ⟨0x40000, [(0x10000, 2), (0x4, 4)], [⟨31, 1, .rwl, 0x0, 0, 0x1⟩, ⟨0, 7, .rwl, 0x14, 16, 0x50⟩]⟩]

/-- Part 2 of the register map. -/
def regMap2 : List RegDef := [
  ⟨0x40020, [(0x10000, 2), (0x4, 24)], [⟨31, 1, .rwl, 0x0, 0, 0x1⟩, ⟨28, 3, .rwl, 0x7, 0, 0x7⟩, ⟨26, 2, .rwl, 0x0, 0, 0x3⟩, ⟨22, 4, .rwl, 0x0, 0, 0xf⟩, ⟨0, 9, .rwl, 0x40, 16, 0x100⟩]⟩,
  ⟨0x40080, [(0x10000, 2), (0x4, 24)], [⟨31, 1, .rwl, 0x0, 0, 0x1⟩, ⟨24, 3, .rwl, 0x0, 0, 0x7⟩, ⟨16, 6, .rwl, 0x8, 4, 0x20⟩, ⟨8, 6, .rwl, 0x3f, 0, 0x3f⟩, ⟨0, 6, .rwl, 0x0, 0, 0x3f⟩]⟩,
  ⟨0x400e0, [(0x10000, 2), (0x4, 24)], [⟨16, 16, .ro, 0x0, 0, 0xffff⟩, ⟨0, 16, .ro, 0x8000, 0, 0xffff⟩]⟩,
  ⟨0x40140, [(0x10000, 2), (0x4, 6)], [⟨31, 1, .rwl, 0x0, 0, 0x1⟩, ⟨29, 2, .rwl, 0x0, 0, 0x3⟩, ⟨25, 4, .rwl, 0x0, 0, 0xf⟩, ⟨18, 5, .rwl, 0x0, 0, 0x17⟩, ⟨0, 18, .rwl, 0x190, 80, 0x3ffff⟩]⟩,
  ⟨0x40200, [(0x10000, 2), (0x80, 6), (0x4, 24)], [⟨29, 3, .rwl, 0x4, 0, 0x7⟩, ⟨24, 5, .rwl, 0x0, 0, 0x1f⟩, ⟨21, 3, .rwl, 0x0, 0, 0x7⟩, ⟨20, 1, .rwl, 0x0, 0, 0x1⟩, ⟨15, 5, .rwl, 0x0, 0, 0x1f⟩, ⟨0, 5, .rwl, 0x0, 0, 0x1f⟩]⟩,
  ⟨0x40500, [(0x10000, 2), (0x80, 6), (0x4, 32)], [⟨16, 16, .ro, 0x0, 0, 0xffff⟩, ⟨0, 16, .ro, 0x8000, 0, 0xffff⟩]⟩,
  ⟨0x40800, [(0x10000, 2), (0x4, 40)], [⟨3, 1, .rwl, 0x0, 0, 0x1⟩, ⟨0, 3, .rwl, 0x0, 0, 0x7⟩]⟩,
  ⟨0x408a0, [(0x10000, 2)], [⟨0, 16, .rwl, 0x7d0, 0, 0xffff⟩]⟩,
  ⟨0x408b0, [(0x10000, 2), (0x4, 3)], [⟨31, 1, .rwl, 0x0, 0, 0x1⟩, ⟨24, 5, .rwl, 0x0, 0, 0x13⟩, ⟨16, 8, .rwl, 0xa, 0, 0xff⟩, ⟨0, 16, .rwl, 0x3e8, 0, 0xffff⟩]⟩,
  ⟨0x408e0, [(0x10000, 2)], [⟨0, 32, .w1c, 0x0, 0, 0xffffffff⟩]⟩,
  ⟨0x408e4, [(0x10000, 2)], [⟨0, 8, .w1c, 0x0, 0, 0xff⟩]⟩,
  ⟨0x40900, [(0x10000, 2), (0x40, 4), (0x4, 10)], [⟨31, 1, .rwl, 0x0, 0, 0x1⟩, ⟨29, 2, .rwl, 0x0, 0, 0x3⟩, ⟨26, 3, .rwl, 0x0, 0, 0x7⟩, ⟨21, 5, .rwl, 0x0, 0, 0x1f⟩, ⟨16, 5, .rwl, 0x0, 0, 0x1f⟩]⟩]

/-- Part 3 of the register map. -/
def regMap3 : List RegDef := [
  ⟨0x40a00, [(0x10000, 2), (0x40, 4), (0x4, 10)], [⟨0, 32, .rwl, 0x3f800000, 0, 0xffffffff⟩]⟩,
  ⟨0x40b00, [(0x10000, 2), (0x4, 16)], [⟨31, 1, .rwl, 0x0, 0, 0x1⟩, ⟨28, 3, .rwl, 0x0, 0, 0x7⟩, ⟨23, 5, .rwl, 0x0, 0, 0x1f⟩, ⟨21, 2, .rwl, 0x0, 0, 0x3⟩]⟩,
  ⟨0x40c00, [(0x10000, 2), (0x100, 4), (0x4, 33)], [⟨0, 32, .rwl, 0x0, 0, 0xffffffff⟩]⟩,
  ⟨0x11000, [(0x10, 64)], [⟨31, 1, .rwl, 0x0, 0, 0x1⟩, ⟨30, 1, .rwl, 0x0, 0, 0x1⟩, ⟨28, 2, .rwl, 0x0, 0, 0x3⟩, ⟨19, 5, .rwl, 0x0, 0, 0x1f⟩, ⟨16, 3, .rwl, 0x0, 0, 0x7⟩, ⟨0, 5, .rwl, 0xa, 4, 0x13⟩]⟩,
  ⟨0x11004, [(0x10, 64)], [⟨0, 19, .rwl, 0x0, 0, 0x7ffff⟩]⟩,
  ⟨0x11008, [(0x10, 64)], [⟨0, 20, .rwl, 0x200, 0, 0xfffff⟩]⟩,
  ⟨0x1100c, [(0x10, 64)], [⟨0, 32, .rw, 0x0, 0, 0xffffffff⟩]⟩,
  ⟨0x41000, [(0x10000, 2), (0x40, 4)], [⟨31, 1, .rwl, 0x0, 0, 0x1⟩, ⟨28, 3, .rwl, 0x0, 0, 0x7⟩, ⟨25, 3, .rwl, 0x7, 0, 0x7⟩, ⟨24, 1, .rwl, 0x0, 0, 0x1⟩, ⟨16, 8, .rwl, 0x1, 0, 0xff⟩, ⟨0, 16, .rwl, 0x1f4, 10, 0xfa0⟩]⟩,
  ⟨0x41004, [(0x10000, 2), (0x40, 4)], [⟨16, 16, .rwl, 0x1f4, 0, 0xffff⟩, ⟨0, 16, .rwl, 0x64, 0, 0xffff⟩]⟩,
  ⟨0x41008, [(0x10000, 2), (0x40, 4)], [⟨24, 8, .rwl, 0x0, 0, 0xff⟩, ⟨0, 17, .rwl, 0x9c40, 0, 0x1ffff⟩]⟩,
  ⟨0x4100c, [(0x10000, 2), (0x40, 4)], [⟨0, 17, .rwl, 0x0, 0, 0x1ffff⟩]⟩,
  ⟨0x41010, [(0x10000, 2), (0x40, 4)], [⟨16, 16, .rwl, 0xffff, 0, 0xffff⟩, ⟨0, 16, .rwl, 0x0, 0, 0xffff⟩]⟩]

/-- Part 4 of the register map. -/
def regMap4 : List RegDef := [
  ⟨0x41014, [(0x10000, 2), (0x40, 4)], [⟨16, 16, .ro, 0x0, 0, 0xffff⟩, ⟨0, 16, .ro, 0x8000, 0, 0xffff⟩]⟩,
  ⟨0x41018, [(0x10000, 2), (0x40, 4)], [⟨16, 16, .ro, 0x0, 0, 0xffff⟩, ⟨0, 16, .ro, 0x8000, 0, 0xffff⟩]⟩,
  ⟨0x4101c, [(0x10000, 2), (0x40, 4)], [⟨20, 12, .rwl, 0x50, 40, 0xfa0⟩, ⟨14, 6, .rwl, 0x0, 0, 0x3f⟩, ⟨8, 6, .rwl, 0xd, 0, 0x3f⟩, ⟨5, 3, .rwl, 0x0, 0, 0x7⟩, ⟨4, 1, .rwl, 0x0, 0, 0x1⟩, ⟨3, 1, .rwl, 0x0, 0, 0x1⟩, ⟨2, 1, .rwl, 0x0, 0, 0x1⟩, ⟨1, 1, .rwl, 0x0, 0, 0x1⟩]⟩,
  ⟨0x41020, [(0x10000, 2), (0x40, 4)], [⟨8, 4, .rwl, 0x0, 0, 0x8⟩, ⟨0, 8, .rwl, 0x0, 0, 0xff⟩]⟩,
  ⟨0x41024, [(0x10000, 2), (0x40, 4)], [⟨16, 16, .rwl, 0x1f40, 40, 0xffff⟩, ⟨8, 8, .rwl, 0x0, 0, 0xff⟩, ⟨0, 8, .rwl, 0x0, 0, 0x50⟩]⟩,
  ⟨0x41028, [(0x10000, 2), (0x40, 4)], [⟨28, 4, .rwl, 0x2, 0, 0xf⟩, ⟨27, 1, .rwl, 0x0, 0, 0x1⟩, ⟨26, 1, .rwl, 0x0, 0, 0x1⟩, ⟨24, 2, .rwl, 0x0, 0, 0x3⟩, ⟨0, 20, .rwl, 0x1000, 4, 0xfffff⟩]⟩,
  ⟨0x41100, [(0x10000, 2), (0x20, 4)], [⟨31, 1, .rw, 0x0, 0, 0x1⟩, ⟨29, 2, .rw, 0x0, 0, 0x3⟩, ⟨27, 2, .rw, 0x0, 0, 0x3⟩, ⟨26, 1, .rw, 0x0, 0, 0x1⟩, ⟨16, 6, .rw, 0x0, 0, 0x3f⟩, ⟨0, 16, .rw, 0x190, 0, 0xffff⟩]⟩,
  ⟨0x41104, [(0x10000, 2), (0x20, 4)], [⟨8, 24, .ro, 0x0, 0, 0xffffff⟩, ⟨7, 1, .ro, 0x0, 0, 0x1⟩, ⟨0, 6, .ro, 0x0, 0, 0x3f⟩]⟩,
  ⟨0x41200, [(0x10000, 2), (0x200, 4), (0x8, 64)], [⟨0, 32, .rw, 0x0, 0, 0xffffffff⟩]⟩,
  ⟨0x41204, [(0x10000, 2), (0x200, 4), (0x8, 64)], [⟨0, 32, .rw, 0x0, 0, 0xffffffff⟩]⟩,
  ⟨0x41a00, [(0x10000, 2)], [⟨31, 1, .rwl, 0x0, 0, 0x1⟩, ⟨29, 2, .rwl, 0x0, 0, 0x3⟩, ⟨28, 1, .rwl, 0x0, 0, 0x1⟩, ⟨0, 16, .rwl, 0x3ff, 0, 0xffff⟩]⟩,
  ⟨0x60400, [(0x20, 8)], [⟨16, 16, .rwl, 0x0, 0, 0x640⟩, ⟨8, 1, .rwl, 0x1, 0, 0x1⟩, ⟨4, 2, .rwl, 0x0, 0, 0x3⟩, ⟨0, 3, .rwl, 0x0, 0, 0x7⟩]⟩]

/-- Part 5 of the register map. -/
def regMap5 : List RegDef := [
  ⟨0x60404, [(0x20, 8), (0x4, 3)], [⟨0, 16, .rwl, 0x6400, 640, 0x6400⟩]⟩,
  ⟨0x60410, [(0x20, 8)], [⟨0, 32, .rwl, 0x41200000, 0, 0xffffffff⟩]⟩,
  ⟨0x60414, [(0x20, 8)], [⟨16, 16, .ro, 0x0, 0, 0xffff⟩, ⟨0, 7, .ro, 0x0, 0, 0x7f⟩]⟩,
  ⟨0x60800, [(0x40, 8)], [⟨31, 1, .rwl, 0x0, 0, 0x1⟩, ⟨24, 4, .rwl, 0x0, 0, 0xf⟩, ⟨23, 1, .rwl, 0x1, 0, 0x1⟩, ⟨8, 8, .rwl, 0x8, 0, 0xff⟩, ⟨0, 8, .rwl, 0x10, 0, 0xff⟩]⟩,
  ⟨0x60804, [(0x40, 8)], [⟨16, 16, .rwl, 0x1f4, 0, 0xffff⟩, ⟨0, 8, .rwl, 0x8, 1, 0x40⟩]⟩,
  ⟨0x60808, [(0x40, 8), (0x4, 6)], [⟨8, 5, .rwl, 0x1, 1, 0x10⟩, ⟨0, 5, .rwl, 0x1, 1, 0x10⟩]⟩,
  ⟨0x60820, [(0x40, 8), (0x4, 6)], [⟨0, 16, .ro, 0x0, 0, 0xffff⟩]⟩,
  ⟨0x60838, [(0x40, 8)], [⟨16, 3, .wo, 0x0, 0, 0x7⟩, ⟨0, 16, .wo, 0x0, 0, 0xffff⟩]⟩,
  ⟨0x6083c, [(0x40, 8)], [⟨24, 8, .rwl, 0x19, 0, 0xff⟩, ⟨16, 8, .rwl, 0x96, 0, 0xff⟩]⟩,
  ⟨0x60c00, [(0x10, 48)], [⟨29, 3, .ro, 0x0, 0, 0x7⟩, ⟨27, 2, .ro, 0x0, 0, 0x3⟩, ⟨26, 1, .ro, 0x0, 0, 0x1⟩, ⟨16, 8, .ro, 0x0, 0, 0xff⟩, ⟨0, 16, .ro, 0x0, 0, 0xffff⟩]⟩,
  ⟨0x60c04, [(0x10, 48)], [⟨16, 16, .ro, 0x0, 0, 0xffff⟩, ⟨0, 16, .ro, 0x0, 0, 0xffff⟩]⟩,
  ⟨0x60c08, [(0x10, 48)], [⟨0, 32, .ro, 0x0, 0, 0xffffffff⟩]⟩]

/-- Part 6 of the register map. -/
def regMap6 : List RegDef := [
  ⟨0x60c0c, [(0x10, 48)], [⟨0, 32, .ro, 0x0, 0, 0xffffffff⟩]⟩,
  ⟨0x61000, [(0x40, 8)], [⟨30, 2, .rwl, 0x2, 0, 0x3⟩, ⟨29, 1, .rwl, 0x1, 0, 0x1⟩, ⟨24, 4, .rwl, 0x2, 1, 0x8⟩, ⟨16, 8, .rwl, 0x14, 5, 0xff⟩, ⟨0, 16, .rwl, 0x64, 10, 0xffff⟩]⟩,
  ⟨0x61004, [(0x40, 8)], [⟨16, 16, .rwl, 0x3e8, 0, 0xffff⟩, ⟨0, 16, .rwl, 0x64, 0, 0xffff⟩]⟩,
  ⟨0x61008, [(0x40, 8)], [⟨16, 16, .rwl, 0x3e8, 0, 0xffff⟩, ⟨0, 16, .rwl, 0x0, 0, 0xffff⟩]⟩,
  ⟨0x6100c, [(0x40, 8)], [⟨16, 16, .rwl, 0x0, 0, 0xffff⟩, ⟨8, 8, .rwl, 0x8c, 0, 0xff⟩]⟩,
  ⟨0x61010, [(0x40, 8)], [⟨31, 1, .rwl, 0x0, 0, 0x1⟩, ⟨24, 4, .rwl, 0x0, 0, 0xf⟩, ⟨16, 8, .rwl, 0xa0, 0, 0xff⟩]⟩,
  ⟨0x61014, [(0x40, 8)], [⟨31, 1, .rwl, 0x0, 0, 0x1⟩, ⟨20, 11, .rwl, 0x64, 10, 0x7d0⟩, ⟨12, 8, .rwl, 0x1e, 1, 0x64⟩, ⟨0, 12, .rwl, 0x14, 1, 0xfff⟩]⟩,
  ⟨0x61018, [(0x40, 8)], [⟨30, 2, .rwl, 0x0, 0, 0x3⟩, ⟨16, 13, .rwl, 0xc8, 1, 0x1fff⟩, ⟨8, 8, .rwl, 0x14, 1, 0xff⟩]⟩,
  ⟨0x6101c, [(0x40, 8)], [⟨0, 32, .rwl, 0x42480000, 0, 0xffffffff⟩]⟩,
  ⟨0x61020, [(0x40, 8)], [⟨2, 1, .wo, 0x0, 0, 0x1⟩, ⟨1, 1, .wo, 0x0, 0, 0x1⟩, ⟨0, 1, .wo, 0x0, 0, 0x1⟩]⟩,
  ⟨0x61024, [(0x40, 8)], [⟨29, 3, .ro, 0x7, 0, 0x7⟩, ⟨28, 1, .ro, 0x0, 0, 0x1⟩, ⟨16, 12, .ro, 0x0, 0, 0xfff⟩, ⟨0, 16, .ro, 0x0, 0, 0xffff⟩]⟩,
  ⟨0x61200, [], [⟨16, 16, .rwl, 0x1f4, 0, 0xea60⟩, ⟨0, 16, .rwl, 0x0, 0, 0xffff⟩]⟩]

/-- Part 7 of the register map. -/
def regMap7 : List RegDef := [
  ⟨0x61204, [], [⟨31, 1, .ro, 0x0, 0, 0x1⟩, ⟨30, 1, .ro, 0x0, 0, 0x1⟩, ⟨0, 3, .ro, 0x0, 0, 0x7⟩]⟩,
  ⟨0x10f00, [], [⟨0, 7, .rwl, 0x1, 1, 0x40⟩]⟩,
  ⟨0x30200, [], [⟨31, 1, .ro, 0x0, 0, 0x1⟩, ⟨30, 1, .ro, 0x0, 0, 0x1⟩, ⟨0, 16, .ro, 0x0, 0, 0xffff⟩]⟩,
  ⟨0x30204, [], [⟨16, 16, .ro, 0x0, 0, 0xffff⟩, ⟨0, 16, .ro, 0x0, 0, 0xffff⟩]⟩,
  ⟨0x30208, [], [⟨28, 4, .ro, 0x0, 0, 0xf⟩, ⟨25, 3, .ro, 0x0, 0, 0x7⟩, ⟨24, 1, .ro, 0x0, 0, 0x1⟩, ⟨0, 24, .ro, 0x0, 0, 0xffffff⟩]⟩,
  ⟨0x30000, [], [⟨31, 1, .ro, 0x0, 0, 0x1⟩, ⟨30, 1, .ro, 0x0, 0, 0x1⟩, ⟨29, 1, .ro, 0x0, 0, 0x1⟩, ⟨28, 1, .ro, 0x0, 0, 0x1⟩, ⟨27, 1, .ro, 0x0, 0, 0x1⟩, ⟨24, 3, .ro, 0x0, 0, 0x7⟩, ⟨8, 8, .ro, 0xff, 0, 0xff⟩, ⟨0, 8, .ro, 0xff, 0, 0xff⟩]⟩,
  ⟨0x30004, [], [⟨0, 32, .ro, 0x0, 0, 0xffffffff⟩]⟩,
  ⟨0x30008, [], [⟨0, 32, .ro, 0x0, 0, 0xffffffff⟩]⟩,
  ⟨0x30010, [], [⟨0, 32, .ro, 0x0, 0, 0xffffffff⟩]⟩,
  ⟨0x30014, [], [⟨0, 32, .ro, 0x0, 0, 0xffffffff⟩]⟩,
  ⟨0x30020, [(0x4, 16)], [⟨8, 8, .ro, 0x0, 0, 0xff⟩, ⟨0, 2, .ro, 0x1, 0, 0x3⟩]⟩,
  ⟨0x30060, [(0x4, 16)], [⟨0, 2, .ro, 0x0, 0, 0x3⟩]⟩]

/-- Part 8 of the register map. -/
def regMap8 : List RegDef := [
  ⟨0x300a0, [(0x4, 8)], [⟨30, 2, .ro, 0x2, 0, 0x3⟩, ⟨0, 8, .ro, 0x2, 0, 0xff⟩]⟩,
  ⟨0x300c0, [], [⟨8, 4, .ro, 0x0, 0, 0xf⟩, ⟨0, 8, .ro, 0x0, 0, 0xff⟩]⟩,
  ⟨0x70000, [], [⟨31, 1, .ro, 0x1, 0, 0x1⟩, ⟨30, 1, .ro, 0x1, 0, 0x1⟩, ⟨29, 1, .ro, 0x0, 0, 0x1⟩, ⟨3, 1, .ro, 0x0, 0, 0x1⟩, ⟨2, 1, .ro, 0x1, 0, 0x1⟩, ⟨1, 1, .ro, 0x0, 0, 0x1⟩, ⟨0, 1, .ro, 0x1, 0, 0x1⟩]⟩,
  ⟨0x70004, [], [⟨0, 16, .ro, 0x0, 0, 0xffff⟩]⟩,
  ⟨0x70008, [], [⟨0, 32, .ro, 0xffffffff, 0, 0xffffffff⟩]⟩,
  ⟨0x7000c, [], [⟨0, 16, .ro, 0xffff, 0, 0xffff⟩]⟩,
  ⟨0x70020, [(0x4, 8)], [⟨31, 1, .rwl, 0x1, 0, 0x1⟩]⟩,
  ⟨0x70040, [(0x4, 8)], [⟨31, 1, .rwl, 0x0, 0, 0x1⟩, ⟨0, 16, .rwl, 0x64, 1, 0x3e8⟩]⟩,
  ⟨0x70100, [(0x80, 16)], [⟨31, 1, .rwl, 0x0, 0, 0x1⟩, ⟨29, 2, .rwl, 0x0, 0, 0x3⟩, ⟨28, 1, .rwl, 0x0, 0, 0x1⟩, ⟨26, 2, .rwl, 0x0, 0, 0x3⟩, ⟨23, 3, .rwl, 0x0, 0, 0x7⟩, ⟨16, 6, .rwl, 0x0, 0, 0x3f⟩, ⟨0, 16, .rwl, 0x0, 0, 0xffff⟩]⟩,
  ⟨0x70104, [(0x80, 16)], [⟨16, 16, .rwl, 0x3e80, 4000, 0x9c40⟩, ⟨0, 9, .rwl, 0x28, 4, 0x190⟩]⟩,
  ⟨0x70108, [(0x80, 16)], [⟨30, 2, .rwl, 0x1, 0, 0x3⟩, ⟨16, 8, .rwl, 0x64, 50, 0xc8⟩, ⟨0, 16, .rwl, 0x7d0, 100, 0xffff⟩]⟩,
  ⟨0x7010c, [(0x80, 16)], [⟨16, 16, .rwl, 0xc8, 0, 0xffff⟩, ⟨0, 16, .rwl, 0x96, 0, 0xffff⟩]⟩]

/-- Part 9 of the register map. -/
def regMap9 : List RegDef := [
  ⟨0x70110, [(0x80, 16)], [⟨16, 16, .rwl, 0x32, 0, 0xffff⟩, ⟨0, 16, .rwl, 0x258, 10, 0xffff⟩]⟩,
  ⟨0x70114, [(0x80, 16)], [⟨31, 1, .rwl, 0x0, 0, 0x1⟩, ⟨26, 5, .rwl, 0x1, 1, 0x1f⟩, ⟨16, 10, .rwl, 0xc8, 1, 0x3ff⟩, ⟨8, 8, .rwl, 0xa, 0, 0xff⟩]⟩,
  ⟨0x70118, [(0x80, 16)], [⟨0, 32, .rwl, 0x0, 0, 0xffffffff⟩]⟩,
  ⟨0x7011c, [(0x80, 16)], [⟨16, 16, .rwl, 0x199a, 0, 0xffff⟩, ⟨0, 16, .rwl, 0xccd, 0, 0xffff⟩]⟩,
  ⟨0x70120, [(0x80, 16)], [⟨16, 16, .rwl, 0x3e8, 0, 0xffff⟩, ⟨0, 16, .rwl, 0x0, 0, 0xffff⟩]⟩,
  ⟨0x70124, [(0x80, 16)], [⟨0, 32, .rwl, 0x0, 0, 0xffffffff⟩]⟩,
  ⟨0x70128, [(0x80, 16)], [⟨0, 32, .rwl, 0x0, 0, 0xffffffff⟩]⟩,
  ⟨0x7012c, [(0x80, 16)], [⟨31, 1, .rwl, 0x0, 0, 0x1⟩, ⟨30, 1, .rwl, 0x0, 0, 0x1⟩, ⟨16, 14, .rwl, 0x1f4, 0, 0x3fff⟩]⟩,
  ⟨0x70130, [(0x80, 16)], [⟨16, 16, .rwl, 0x64, 0, 0xffff⟩, ⟨0, 16, .rwl, 0x32, 0, 0xffff⟩]⟩,
  ⟨0x70134, [(0x80, 16)], [⟨0, 32, .rwl, 0x447a0000, 0, 0xffffffff⟩]⟩,
  ⟨0x70138, [(0x80, 16)], [⟨0, 32, .rwl, 0x447a0000, 0, 0xffffffff⟩]⟩,
  ⟨0x7013c, [(0x80, 16)], [⟨0, 32, .rwl, 0x447a0000, 0, 0xffffffff⟩]⟩]

/-- Part 10 of the register map. -/
def regMap10 : List RegDef := [
  ⟨0x70140, [(0x80, 16)], [⟨0, 32, .rwl, 0x447a0000, 0, 0xffffffff⟩]⟩,
  ⟨0x70144, [(0x80, 16)], [⟨16, 16, .rwl, 0x12c, 0, 0xffff⟩, ⟨0, 16, .rwl, 0x64, 0, 0xffff⟩]⟩,
  ⟨0x70148, [(0x80, 16)], [⟨16, 16, .rwl, 0x3e8, 0, 0xffff⟩, ⟨0, 16, .rwl, 0x258, 0, 0xffff⟩]⟩,
  ⟨0x7014c, [(0x80, 16)], [⟨0, 16, .rwl, 0x578, 0, 0xffff⟩]⟩,
  ⟨0x70150, [(0x80, 16)], [⟨29, 3, .ro, 0x0, 0, 0x7⟩, ⟨8, 8, .ro, 0x0, 0, 0xff⟩, ⟨0, 8, .ro, 0x0, 0, 0xff⟩]⟩,
  ⟨0x71000, [(0x80, 16), (0x4, 16)], [⟨16, 16, .rwl, 0x0, 0, 0xffff⟩, ⟨0, 16, .rwl, 0x0, 0, 0xffff⟩]⟩,
  ⟨0x71800, [(0x80, 16), (0x4, 16)], [⟨16, 16, .rwl, 0x0, 0, 0xffff⟩, ⟨0, 16, .rwl, 0x0, 0, 0xbb8⟩]⟩,
  ⟨0x90000, [], [⟨31, 1, .rw, 0x0, 0, 0x1⟩]⟩,
  ⟨0x90004, [], [⟨16, 13, .ro, 0x0, 0, 0x1fff⟩, ⟨4, 4, .ro, 0x0, 0, 0xf⟩, ⟨0, 4, .ro, 0x0, 0, 0xf⟩]⟩,
  ⟨0x90010, [], [⟨0, 16, .rw, 0x0, 0, 0xffff⟩]⟩,
  ⟨0x90020, [(0x4, 5)], [⟨0, 32, .rw, 0x0, 0, 0xffffffff⟩]⟩,
  ⟨0x90040, [], [⟨0, 2, .wo, 0x0, 0, 0x3⟩]⟩]

/-- Part 11 of the register map. -/
def regMap11 : List RegDef := [
  ⟨0x90044, [], [⟨31, 1, .ro, 0x0, 0, 0x1⟩, ⟨0, 8, .ro, 0x0, 0, 0xff⟩]⟩,
  ⟨0x90048, [], [⟨0, 32, .ro, 0x0, 0, 0xffffffff⟩]⟩,
  ⟨0x9004c, [], [⟨0, 32, .ro, 0x0, 0, 0xffffffff⟩]⟩,
  ⟨0x90050, [], [⟨16, 16, .ro, 0x0, 0, 0xffff⟩, ⟨8, 8, .ro, 0x0, 0, 0xff⟩, ⟨0, 2, .ro, 0x0, 0, 0x3⟩]⟩,
  ⟨0x90060, [], [⟨0, 13, .ro, 0x0, 0, 0x1fff⟩]⟩,
  ⟨0x90100, [(0x4, 8)], [⟨31, 1, .rwl, 0x1, 0, 0x1⟩, ⟨30, 1, .rwl, 0x0, 0, 0x1⟩, ⟨0, 18, .rwl, 0x0, 0, 0x3ffff⟩]⟩,
  ⟨0x90120, [(0x4, 8)], [⟨0, 16, .rwl, 0x14, 0, 0xffff⟩]⟩,
  ⟨0x90140, [(0x4, 8)], [⟨0, 18, .rwl, 0x0, 0, 0x3ffff⟩]⟩,
  ⟨0xa0000, [(0x4000, 4)], [⟨31, 1, .rwl, 0x0, 0, 0x1⟩, ⟨30, 1, .rwl, 0x1, 0, 0x1⟩, ⟨28, 2, .rwl, 0x0, 0, 0x3⟩, ⟨27, 1, .rwl, 0x1, 0, 0x1⟩]⟩,
  ⟨0xa0004, [(0x4000, 4)], [⟨24, 8, .rwl, 0x1, 0, 0xff⟩, ⟨16, 8, .rwl, 0x3e, 1, 0xff⟩, ⟨9, 7, .rwl, 0xf, 0, 0x7f⟩, ⟨2, 7, .rwl, 0xf, 0, 0x7f⟩]⟩,
  ⟨0xa0008, [(0x4000, 4)], [⟨27, 5, .rwl, 0x1, 0, 0x1f⟩, ⟨22, 5, .rwl, 0xe, 0, 0x1f⟩, ⟨18, 4, .rwl, 0x3, 0, 0xf⟩, ⟨14, 4, .rwl, 0x3, 0, 0xf⟩, ⟨13, 1, .rwl, 0x1, 0, 0x1⟩, ⟨6, 7, .rwl, 0x20, 0, 0x7f⟩]⟩,
  ⟨0xa000c, [(0x4000, 4)], [⟨1, 1, .wo, 0x0, 0, 0x1⟩, ⟨0, 1, .wo, 0x0, 0, 0x1⟩]⟩]

/-- Part 12 of the register map. -/
def regMap12 : List RegDef := [
  ⟨0xa0010, [(0x4000, 4)], [⟨30, 2, .ro, 0x3, 0, 0x3⟩, ⟨8, 8, .ro, 0x0, 0, 0xff⟩, ⟨0, 8, .ro, 0x0, 0, 0xff⟩]⟩,
  ⟨0xa0014, [(0x4000, 4)], [⟨16, 16, .ro, 0x0, 0, 0xffff⟩, ⟨0, 16, .ro, 0x0, 0, 0xffff⟩]⟩,
  ⟨0xa0018, [(0x4000, 4)], [⟨0, 7, .ro, 0x0, 0, 0x7f⟩]⟩,
  ⟨0xa001c, [(0x4000, 4)], [⟨0, 16, .rwl, 0x0, 0, 0xffff⟩]⟩,
  ⟨0xa0104, [(0x4000, 4), (0x4, 63)], [⟨0, 29, .rwl, 0x1fffffff, 0, 0x1fffffff⟩]⟩,
  ⟨0xa0200, [(0x4000, 4)], [⟨31, 1, .rw, 0x0, 0, 0x1⟩, ⟨0, 10, .rw, 0x0, 0, 0x3ff⟩]⟩,
  ⟨0xa0204, [(0x4000, 4)], [⟨2, 1, .ro, 0x0, 0, 0x1⟩, ⟨1, 1, .ro, 0x0, 0, 0x1⟩, ⟨0, 1, .ro, 0x0, 0, 0x1⟩]⟩,
  ⟨0xa0240, [(0x4000, 4), (0x4, 21)], [⟨0, 32, .ro, 0x0, 0, 0xffffffff⟩]⟩,
  ⟨0xa2000, [(0x4000, 4), (0x8, 1024)], [⟨31, 1, .rwl, 0x0, 0, 0x1⟩, ⟨30, 1, .rwl, 0x0, 0, 0x1⟩, ⟨0, 29, .rwl, 0x0, 0, 0x1fffffff⟩]⟩,
  ⟨0xa2004, [(0x4000, 4), (0x8, 1024)], [⟨30, 2, .rwl, 0x0, 0, 0x3⟩, ⟨29, 1, .rwl, 0x0, 0, 0x1⟩, ⟨20, 9, .rwl, 0x0, 0, 0x1ff⟩, ⟨19, 1, .rwl, 0x0, 0, 0x1⟩, ⟨18, 1, .rwl, 0x0, 0, 0x1⟩, ⟨12, 6, .rwl, 0x0, 0, 0x3f⟩, ⟨0, 4, .rwl, 0x0, 0, 0xf⟩]⟩,
  ⟨0x20, [], [⟨0, 1, .rw, 0x0, 0, 0x1⟩]⟩,
  ⟨0x100, [], [⟨0, 3, .rw, 0x0, 0, 0x7⟩]⟩]

/-- Part 13 of the register map. -/
def regMap13 : List RegDef := [
  ⟨0x104, [], [⟨29, 3, .ro, 0x0, 0, 0x7⟩, ⟨28, 1, .ro, 0x0, 0, 0x1⟩, ⟨27, 1, .w1c, 0x0, 0, 0x1⟩, ⟨24, 3, .ro, 0x0, 0, 0x7⟩, ⟨8, 4, .ro, 0x0, 0, 0xf⟩, ⟨0, 4, .ro, 0x1, 0, 0xf⟩]⟩,
  ⟨0x108, [], [⟨31, 1, .rw, 0x0, 0, 0x1⟩, ⟨28, 3, .rw, 0x5, 0, 0x7⟩, ⟨25, 3, .rw, 0x1, 0, 0x4⟩, ⟨0, 16, .rw, 0xa, 1, 0x3e8⟩]⟩,
  ⟨0x10c, [], [⟨0, 9, .ro, 0x0, 0, 0x1ff⟩]⟩,
  ⟨0x110, [], [⟨0, 32, .rw, 0x0, 0, 0xffffffff⟩]⟩,
  ⟨0x114, [], [⟨0, 32, .rw, 0x0, 0, 0xffffffff⟩]⟩,
  ⟨0x200, [], [⟨1, 1, .wo, 0x0, 0, 0x1⟩, ⟨0, 1, .wo, 0x0, 0, 0x1⟩]⟩,
  ⟨0x204, [], [⟨0, 7, .rw, 0x0, 0, 0x7f⟩]⟩,
  ⟨0x208, [], [⟨29, 3, .ro, 0x0, 0, 0x7⟩, ⟨28, 1, .ro, 0x0, 0, 0x1⟩, ⟨27, 1, .ro, 0x0, 0, 0x1⟩, ⟨24, 3, .ro, 0x0, 0, 0x7⟩, ⟨16, 8, .ro, 0x0, 0, 0xff⟩]⟩,
  ⟨0x20c, [], [⟨24, 8, .ro, 0x0, 0, 0xff⟩, ⟨16, 8, .ro, 0x0, 0, 0xff⟩]⟩,
  ⟨0x210, [], [⟨0, 6, .rw, 0x0, 0, 0x3f⟩]⟩,
  ⟨0x214, [], [⟨0, 32, .ro, 0x0, 0, 0xffffffff⟩]⟩,
  ⟨0x218, [], [⟨0, 32, .ro, 0x0, 0, 0xffffffff⟩]⟩]

/-- Part 14 of the register map. -/
def regMap14 : List RegDef := [
  ⟨0x220, [(0x4, 4)], [⟨0, 32, .ro, 0x0, 0, 0xffffffff⟩]⟩,
  ⟨0x230, [], [⟨0, 32, .ro, 0x0, 0, 0xffffffff⟩]⟩,
  ⟨0x80000, [], [⟨31, 1, .ro, 0x0, 0, 0x1⟩, ⟨28, 3, .ro, 0x0, 0, 0x7⟩, ⟨8, 8, .ro, 0x0, 0, 0xff⟩]⟩,
  ⟨0x80018, [(0x8, 7)], [⟨30, 2, .ro, 0x3, 0, 0x3⟩, ⟨28, 2, .ro, 0x0, 0, 0x3⟩]⟩,
  ⟨0x8001c, [(0x8, 7)], [⟨0, 32, .ro, 0x0, 0, 0xffffffff⟩]⟩,
  ⟨0x80100, [], [⟨30, 2, .ro, 0x0, 0, 0x3⟩, ⟨28, 2, .ro, 0x0, 0, 0x3⟩, ⟨26, 2, .ro, 0x3, 0, 0x3⟩, ⟨24, 2, .ro, 0x0, 0, 0x3⟩, ⟨23, 1, .ro, 0x0, 0, 0x1⟩, ⟨8, 8, .ro, 0x0, 0, 0xff⟩, ⟨0, 8, .ro, 0x0, 0, 0xff⟩]⟩,
  ⟨0x80104, [], [⟨0, 32, .ro, 0x0, 0, 0xffffffff⟩]⟩,
  ⟨0x80108, [], [⟨16, 16, .rw, 0x0, 0, 0x168⟩, ⟨0, 16, .rw, 0x32, 0, 0x3e8⟩]⟩,
  ⟨0x80200, [], [⟨29, 3, .ro, 0x1, 0, 0x7⟩, ⟨28, 1, .ro, 0x0, 0, 0x1⟩, ⟨27, 1, .ro, 0x0, 0, 0x1⟩]⟩,
  ⟨0x80204, [], [⟨0, 32, .ro, 0x0, 0, 0xffffffff⟩]⟩,
  ⟨0x80208, [], [⟨0, 32, .ro, 0x0, 0, 0xffffffff⟩]⟩,
  ⟨0x8020c, [], [⟨0, 32, .ro, 0x0, 0, 0xffffffff⟩]⟩]

/-- Part 15 of the register map. -/
def regMap15 : List RegDef := [
  ⟨0x80210, [], [⟨0, 32, .ro, 0x0, 0, 0xffffffff⟩]⟩,
  ⟨0x80300, [], [⟨0, 4, .rw, 0xa, 0, 0xf⟩]⟩,
  ⟨0xb0000, [], [⟨31, 1, .rwl, 0x1, 0, 0x1⟩]⟩,
  ⟨0xb0004, [], [⟨30, 2, .ro, 0x0, 0, 0x3⟩, ⟨0, 16, .ro, 0x0, 0, 0xffff⟩]⟩,
  ⟨0xb0008, [], [⟨0, 32, .ro, 0x0, 0, 0xffffffff⟩]⟩,
  ⟨0x90064, [], [⟨0, 32, .ro, 0x0, 0, 0xffffffff⟩]⟩,
  ⟨0x90068, [], [⟨16, 16, .ro, 0x0, 0, 0xffff⟩, ⟨0, 16, .ro, 0x0, 0, 0xffff⟩]⟩,
  ⟨0x0, [], [⟨16, 16, .ro, 0x0, 0, 0xffff⟩, ⟨8, 8, .ro, 0x1, 0, 0xff⟩, ⟨0, 8, .ro, 0x1, 0, 0xff⟩]⟩,
  ⟨0x8, [], [⟨9, 8, .ro, 0x0, 0, 0xff⟩, ⟨1, 8, .ro, 0xff, 0, 0xff⟩]⟩,
  ⟨0x10, [], [⟨31, 1, .ro, 0x1, 0, 0x1⟩, ⟨8, 1, .ro, 0x0, 0, 0x1⟩, ⟨7, 1, .ro, 0x0, 0, 0x1⟩, ⟨6, 1, .ro, 0x0, 0, 0x1⟩, ⟨5, 1, .ro, 0x0, 0, 0x1⟩, ⟨4, 1, .ro, 0x0, 0, 0x1⟩, ⟨3, 1, .ro, 0x0, 0, 0x1⟩, ⟨2, 1, .ro, 0x0, 0, 0x1⟩, ⟨1, 1, .ro, 0x0, 0, 0x1⟩, ⟨0, 1, .ro, 0x0, 0, 0x1⟩]⟩,
  ⟨0x14, [], [⟨0, 9, .rw, 0x0, 0, 0x1ff⟩]⟩,
  ⟨0x24, [], [⟨31, 1, .ro, 0x0, 0, 0x1⟩, ⟨16, 8, .ro, 0x0, 0, 0xff⟩, ⟨0, 16, .ro, 0x0, 0, 0xffff⟩]⟩]

/-- The register map. -/
def regMap : List RegDef := regMap0 ++ regMap1 ++ regMap2 ++ regMap3 ++ regMap4 ++ regMap5 ++ regMap6 ++ regMap7 ++ regMap8 ++ regMap9 ++ regMap10 ++ regMap11 ++ regMap12 ++ regMap13 ++ regMap14 ++ regMap15

/-- Does the family with these indices from `base` contain the offset? -/
def inDims : List (Nat × Nat) → Nat → Bool
  | [], off => off == 0
  | (stride, count) :: ds, off =>
    let k := off / stride
    decide (k < count) && inDims ds (off % stride)

/-- Does the register family contain this offset? -/
def RegDef.has (r : RegDef) (off : Nat) : Bool :=
  decide (r.base ≤ off) && inDims r.dims (off - r.base)

/-- The register at an offset of the set-up window; none where the map names none (R689). -/
def regAt (off : Nat) : Option RegDef := regMap.find? (fun r => r.has off)

/-- A register's reset word. -/
def RegDef.resetWord (r : RegDef) : Word :=
  r.fields.foldl (fun w f => w ||| (BitVec.ofNat 32 f.reset <<< f.lo)) 0

/-- The reset word at an offset; 0 where no register is. FRESH_CFG's GROUP resets to a value that depends on its channel (16_host_rings.md). -/
def regReset (off : Nat) : Word :=
  if 0x90100 ≤ off ∧ off < 0x90120 then 0x80000000 ||| BitVec.ofNat 32 (0x1050 + (off - 0x90100) / 4 * 0x1000)
  else if 0x98000 ≤ off ∧ off < 0xA0000 then (if off % 16 = 12 then 1 else 0)   -- MSI-X table: every vector masked
  else match regAt off with
    | some r => r.resetWord
    | none => 0

end Sys2Proof.Machine
end

