-- ==== Sys2Proof/Machine/Kv.lean ====
section
/-! DEFINITION. Sparse memories: lists of (key, value) pairs in one canonical form (keys strictly rising, no entry equal to what an unlisted key reads as), and the field and byte helpers every unit uses. -/

namespace Sys2Proof.Machine

/-- A sparse memory. -/
abbrev Kv (α : Type) := List (Nat × α)

/-- What key k reads as; d where it is not listed. -/
def kvGet (d : α) : Kv α → Nat → α
  | [], _ => d
  | (k', v) :: m, k => if k' = k then v else kvGet d m k

/-- Writes a key that is not to read as the default. -/
def kvPut : Kv α → Nat → α → Kv α
  | [], k, v => [(k, v)]
  | (k', v') :: m, k, v =>
    if k < k' then (k, v) :: (k', v') :: m
    else if k = k' then (k, v) :: m
    else (k', v') :: kvPut m k v

/-- Removes a key. -/
def kvDel : Kv α → Nat → Kv α
  | [], _ => []
  | (k', v') :: m, k => if k' = k then m else (k', v') :: kvDel m k

/-- Writes v at k: listed unless v is the default d. -/
def kvSet [DecidableEq α] (d : α) (m : Kv α) (k : Nat) (v : α) : Kv α :=
  if v = d then kvDel m k else kvPut m k v

/-- Is the key listed? -/
def kvHas : Kv α → Nat → Bool
  | [], _ => false
  | (k', _) :: m, k => k' == k || kvHas m k

/-- The canonical form against a default that may depend on the key. -/
def kvWf [DecidableEq α] (d : Nat → α) : Kv α → Bool
  | [] => true
  | [(k, v)] => decide (v ≠ d k)
  | (k, v) :: (k', v') :: m => decide (v ≠ d k) && decide (k < k') && kvWf d ((k', v') :: m)

/-- Writes consecutive values from k. -/
def kvSetMany [DecidableEq α] (d : α) (m : Kv α) (k : Nat) : List α → Kv α
  | [] => m
  | v :: vs => kvSetMany d (kvSet d m k v) (k + 1) vs

/-- Reads n consecutive values from k. -/
def kvGetMany (d : α) (m : Kv α) (k : Nat) : Nat → List α
  | 0 => []
  | n + 1 => kvGet d m k :: kvGetMany d m (k + 1) n

/-- Bits [lo + width − 1 : lo] of a word, as a number. -/
def bitsAt (w : Word) (lo width : Nat) : Nat := w.toNat / 2 ^ lo % 2 ^ width

/-- Bit i of a word. -/
def bitAt (w : Word) (i : Nat) : Bool := w.getLsbD i

/-- A word with bits [lo + width − 1 : lo] replaced. -/
def putBits (w : Word) (lo width v : Nat) : Word :=
  let mask : Word := BitVec.ofNat 32 ((2 ^ width - 1) * 2 ^ lo)
  (w &&& ~~~mask) ||| (BitVec.ofNat 32 (v % 2 ^ width * 2 ^ lo))

/-- A word from (lowest bit, value) fields. -/
def packFields (fs : List (Nat × Nat)) : Word :=
  fs.foldl (fun w f => w ||| BitVec.ofNat 32 (f.2 * 2 ^ f.1)) 0

/-- A Bool as a bit. -/
def b2n (b : Bool) : Nat := if b then 1 else 0

/-- A number as n little-endian bytes (R12). -/
def leBytes (n v : Nat) : List Byte := (List.range n).map (fun i => BitVec.ofNat 8 (v / 256 ^ i))

/-- Little-endian bytes as a number (R12). -/
def leNat : List Byte → Nat
  | [] => 0
  | b :: bs => b.toNat + 256 * leNat bs

/-- n bytes from offset o of a byte string, as a little-endian number. -/
def fieldLe (bs : List Byte) (o n : Nat) : Nat := leNat ((bs.drop o).take n)

/-- The 32-bit word at byte offset o. -/
def wordLe (bs : List Byte) (o : Nat) : Word := BitVec.ofNat 32 (fieldLe bs o 4)

/-- Replaces element i of a list (no effect past its end). -/
def listSet (l : List α) (i : Nat) (v : α) : List α := l.set i v

/-- Applies f to entry i of a vector. -/
def vUpd (v : Vector α n) (i : Fin n) (f : α → α) : Vector α n := v.set i.val (f v[i]) i.isLt

/-- The Fin of a number taken modulo n + 1. -/
def finOf (n : Nat) (k : Nat) : Fin (n + 1) := Fin.ofNat (n + 1) k

/-- Does time t lie at or before now? -/
def due (t now : Nat) : Bool := decide (t ≤ now)

/-- Ticks in a microsecond (2.5 ns each; 02_time_base_and_frames.md). -/
def usTicks : Nat := 400
/-- Ticks in a millisecond. -/
def msTicks : Nat := 400000
/-- Ticks in a second. -/
def sTicks : Nat := 400000000

/-- Rounds to the nearest integer, halves away from zero (R722). -/
def roundAway (num : Int) (den : Nat) : Int :=
  if num < 0 then -((2 * num.natAbs + den) / (2 * den) : Nat) else ((2 * num.natAbs + den) / (2 * den) : Nat)

/-- Adds one, holding at a maximum. -/
def holdInc (m v : Nat) : Nat := if v < m then v + 1 else m

/-- Index of the first element that satisfies p. -/
def findIx (p : α → Bool) : List α → Option Nat
  | [] => none
  | a :: as => if p a then some 0 else (findIx p as).map (· + 1)

/-- All indexes below n. -/
def idxs (n : Nat) : List (Fin n) := List.finRange n

end Sys2Proof.Machine
end

