-- ==== Sys2Proof/Machine/State/Common.lean ====
section
/-! DEFINITION. Event records and the records of what the block sends out: shared by every unit of the state. -/

namespace Sys2Proof.Machine

/-- An event (R679, 16_host_rings.md): its time, code, source, severity and payload words. -/
structure Event where
  time : Nat
  code : Nat
  source : Nat
  sev : Nat
  payload : List Word
  deriving DecidableEq, Repr

/-- Something that leaves the block or crosses to a party outside the modelled one. -/
inductive OutMsg where
  /-- Bytes written to host memory at a bus address. -/
  | hostWrite (addr : Nat) (bytes : List Byte)
  /-- An MSI-X message on a vector. -/
  | msix (vector : Nat)
  /-- The answer to a register read. -/
  | regRead (off : Nat) (value : Word)
  /-- A die-to-die flit: link number, sequence, 96-bit payload. -/
  | flit (link : Nat) (seq : Nat) (payload : BitVec 96)
  /-- An acknowledgement or a negative acknowledgement on a die-to-die link, naming the flit expected. -/
  | linkAck (link : Nat) (negative : Bool) (seq : Nat)
  /-- A Tolpel message: port, direction (true downstream), type, body bytes. -/
  | tolpel (port : Nat) (down : Bool) (type : Nat) (body : List Byte)
  /-- A FAULT or HOLD set on a Tolpel port: its four data characters. -/
  | tolpelSet (port : Nat) (down : Bool) (data : List Byte)
  /-- A time mark on a Tolpel port. -/
  | timeMark (port : Nat) (down : Bool) (at_ : Nat)
  /-- A frame on CAN bus k. -/
  | can (k : Nat) (id : Nat) (data : List Byte)
  /-- A CAN error frame. -/
  | canError (k : Nat)
  /-- A frame of the service port. -/
  | service (bytes : List Byte)
  /-- A message of a named kind from one die to another, with its words. -/
  | die (src dst : Die) (kind : String) (words : List Nat)
  /-- An AVSBus write of a setpoint in mV on the bus of a control die. -/
  | avs (bus : Nat) (mV : Nat)
  /-- The enable ball, or the two of group 3, of a group of rails goes high or low (R596). -/
  | enable (group : Nat) (high : Bool)
  deriving DecidableEq, Repr

/-- A descriptor that has completed and waits for its completion entry (R562, R563). -/
structure Completion where
  ring : Nat
  index : Nat
  status : Nat
  detail : Nat
  result : Word
  deriving DecidableEq, Repr

end Sys2Proof.Machine
end

