-- ==== Sys2Proof/Machine/State/AuxDie.lean ====
section
/-! DEFINITION. The state of the AUX die: its sixteen slots, the supply monitors and the PWM inputs (15_aux_drives.md). -/

namespace Sys2Proof.Machine

/-- The state of a slot under its supply monitors (R517): SUPPLY lies over it while a supply is out of range. -/
inductive SlotMode where
  | off
  | run
  | stopping
  | fault
  | wireOff
  deriving DecidableEq, Repr

/-- An aux slot. -/
structure SlotUnit where
  /-- Both AUX_OFF wires are asserted at reset, so every slot begins in WIRE_OFF with POS_UNSURE set (R506, R618; DEDUCED, assumption 95). -/
  mode : SlotMode := .wireOff
  /-- A command with ENABLE 0 has come since WIRE_OFF was entered (R506). -/
  armed : Bool := false
  /-- Fault cause: 1 THERMAL, 2 HALL, 3 STALL; it stands through WIRE_OFF (assumption 95). -/
  cause : Nat := 0
  /-- The command in force: ctrl, value as taken under R516, target, limits, seq. -/
  ctrl : Word := 0
  value : Word := 0
  target : Word := 0
  limLo : Int := 0
  limHi : Int := 0
  seq : Word := 0
  /-- When the command was taken, and the stamp of its commit. -/
  cmdAt : Option Nat := none
  stamp : Option Nat := none
  /-- Commits of aux_s.cmd that CTRL-A has sent and the slot has yet to take, oldest first: stamp and the six words (R114, R515). -/
  inbox : List (Nat × List Word) := []
  cmdBad : Bool := false
  stale : Bool := false
  posUnsure : Bool := true
  inBad : Bool := false
  limit : Bool := false
  /-- New limits left the position outside them: to rest first (R528). -/
  limStop : Bool := false
  /-- Latched switches, and switches a monitor holds off: bit 2l high, bit 2l + 1 low switch of leg l (R510, R511, R517). -/
  legOff : BitVec 8 := 0
  held : BitVec 8 := 0
  /-- Each leg: none with both switches off, else the ticks of PERIOD its high switch is on. -/
  drive : Vector (Option Nat) 4 := Vector.replicate 4 none
  iLeg : Vector Word 4 := Vector.replicate 4 0
  /-- Leg currents of the valleys since the last status. -/
  samples : List (List Word) := []
  /-- Limit factor c (R509). -/
  factor : Word := 0x3F800000
  /-- Thermal load L (R512). -/
  load : Word := 0
  thermAt : Nat := 0
  /-- Number of the last valley. -/
  valley : Nat := 0
  /-- Duty d (DC, BLDC), PI integrators, speed reference. -/
  duty : Word := 0
  xi : Word := 0
  xiB : Word := 0
  nRef : Word := 0
  /-- ON (R525). -/
  on : Bool := false
  hall : Option (BitVec 3) := none
  hallAt : Option Nat := none
  tSec : Option Nat := none
  forward : Bool := true
  /-- Consecutive Hall changes in one direction, each sector shorter than 100 ms (R523). -/
  hallRun : Nat := 0
  sine : Bool := false
  /-- The vector has moved on before its Hall change (R522). -/
  advanced : Bool := false
  speed : Word := 0
  /-- Since when |d| exceeds 0.05 (R526). -/
  drivenAt : Option Nat := none
  /-- aux_s.position. -/
  pos : Int := 0
  /-- The profile generator: position in 2^−64 of a unit, velocity and acceleration in such parts for each update (R527). -/
  fine : Int := 0
  vel : Int := 0
  acc : Int := 0
  level : Nat := 0
  profAt : Nat := 0
  /-- Standstill since; the fall to I_HOLD since (R531). -/
  stillAt : Option Nat := none
  reducing : Option Nat := none
  deriving DecidableEq, Repr

/-- A PWM input (R524): its last edge, the high ticks and the length of its last period. -/
structure PwmInput where
  edgeAt : Nat := 0
  high : Nat := 0
  period : Nat := 0
  bad : Bool := false
  deriving DecidableEq, Repr

/-- AUX. -/
structure AuxUnit where
  slots : Vector SlotUnit 16 := Vector.replicate 16 {}
  /-- Legs are off under R506. -/
  off : Bool := true
  vmUv : Bool := true
  vmOv : Bool := false
  vddUv : Bool := false
  cpUv : Bool := true
  bst : BitVec 48 := BitVec.allOnes 48
  vmMv : Nat := 0
  pwm : Vector PwmInput 8 := Vector.replicate 8 {}
  deriving DecidableEq, Repr

end Sys2Proof.Machine
end

