-- ==== Sys2Proof/Machine/State/Board.lean ====
section
/-! DEFINITION. The state of a control die: signal board, directory, program and table memory, slots and engines (03_signal_board.md, 04_oryx_engines.md, 05_engine_arithmetic.md, 13_lockstep.md). -/

namespace Sys2Proof.Machine

/-- One directory entry (R96, R98). `pending`: a pending claim of its owner. `sharers`: the resident programs that declare a host entry. `firmware`: declared by device firmware. -/
structure DirEntry where
  base : Nat
  len : Nat
  hostR : Bool
  trace : Bool
  act : Bool
  group : Bool
  type : Nat
  owner : Nat
  pending : Bool
  sharers : List Nat
  firmware : Bool
  deriving DecidableEq, Repr

/-- State of a program slot (R129). -/
inductive SlotState where
  | empty
  | loaded
  | active
  | retiring
  deriving DecidableEq, Repr

/-- An oscillation detector of the Drive Set (R346). -/
structure OscDetector where
  /-- Sign s: 0, 1, or −1. -/
  sign : Int := 0
  tc : Nat := 0
  count : Nat := 0
  n : Nat := 0
  fLast : Word := 0
  /-- The frequency of the last trigger, which the loop's signal shows (R347). -/
  fShown : Word := 0
  deriving DecidableEq, Repr

/-- The persistent values of a Drive Set program, inner or outer (R335 to R349). -/
structure DsState where
  tLast : Nat := 0
  ackSeen : Word := 0
  /-- Latched trigger of detectors d and q, or w and fw. -/
  osc1 : Bool := false
  osc2 : Bool := false
  /-- FBG_I; or FBG_W and FBG_FW. -/
  fbg1 : Bool := false
  fbg2 : Bool := false
  ss1 : Bool := false
  /-- The loop whose trigger set SS1_REQ, as in DS_OSCILLATION. -/
  ss1Loop : Nat := 0
  det1 : OscDetector := {}
  det2 : OscDetector := {}
  xd : Word := 0
  xq : Word := 0
  xdx : Word := 0
  xqx : Word := 0
  hasI : Bool := false
  posRun : Nat := 0
  faultPos : Bool := false
  idLast : Word := 0
  iqLast : Word := 0
  vdLast : Word := 0
  vqLast : Word := 0
  fdLast : Word := 0
  fqLast : Word := 0
  psiR : Word := 0
  thSl : Word := 0
  xw : Word := 0
  psiFw : Word := 0
  tqLast : Word := 0
  wLast : Word := 0
  speedLast : Bool := false
  deriving DecidableEq, Repr

/-- A program slot: what its image says of it, its persistent registers and its counters. -/
structure Slot where
  state : SlotState := .empty
  channel : Channel := 0
  engine : EngineNo := 0
  div : Nat := 1
  fallbackDiv : Nat := 0
  samplePath : Bool := false
  nInstr : Nat := 0
  /-- First instruction word in the bank. -/
  place : Nat := 0
  wcount : Nat := 0
  wboard : Nat := 0
  wtable : Nat := 0
  inputs : List Nat := []
  /-- g32 to g63 as last committed (R125). -/
  persist : Vector Word 32 := Vector.replicate 32 0
  /-- Runs since the program became ACTIVE, failed and aborted ones too (RINFO 5). -/
  runNo : Nat := 0
  /-- The frame in which it became ACTIVE (R134). -/
  firstFrame : Nat := 0
  /-- A frame of the program from which its frames are counted: firstFrame, moved on by whole periods as its runs end, since frame numbers wrap (R16, R134). -/
  anchor : Nat := 0
  /-- flags_all restarts with the next commit (R186). -/
  freshFlags : Bool := true
  /-- Runs at FALLBACK_DIV (R218). -/
  fallback : Bool := false
  /-- The frame of a run that stays due although a change of the divisor has come since (R221, assumption 90). -/
  owed : Option Nat := none
  /-- A change of fallback that waits for the channel's next boundary (R221). -/
  divChange : Option Bool := none
  /-- Waiting to move to another engine (R220). -/
  moveTo : Option EngineNo := none
  /-- The channel's last boundary is the one at which it moves (R220). -/
  moveDue : Bool := false
  /-- Order among the programs of its engine (R140). -/
  order : Nat := 0
  /-- The last frame for which its run became ready, and the last whose run has its outcome. -/
  readyFrame : Option Nat := none
  doneFrame : Option Nat := none
  /-- Largest board and table grants of the program (R212). -/
  boardGrant : Nat := 0
  tableGrant : Nat := 0
  /-- Row of R323 the image is: 1 DS-PM-IN, 2 DS-IM-IN, 3 DS-D3-IN, 4 to 6 DS-OUT; 0 a program of the user. -/
  ds : Nat := 0
  dsState : DsState := {}
  /-- Last DS_PARAM_CLAMPED of the slot. -/
  lastClamped : Option Nat := none
  deriving DecidableEq, Repr

/-- STATE of ENG_STATUS_n (04_oryx_engines.md). -/
inductive EngPhase where
  | idle
  | starting
  | running
  | waiting
  | committing
  deriving DecidableEq, Repr

/-- A run in progress (R138 to R145). -/
structure Run where
  slot : SlotCode
  channel : Channel
  frame : Nat
  refInstant : Nat
  frameLen : Nat
  runNo : Nat
  /-- DIV in force when the run started (RINFO 6, R123). -/
  div : Nat := 1
  startTime : Nat
  pc : Nat := 0
  g : Vector Word 64
  x : Vector Word 8 := Vector.replicate 8 0
  loops : List Word := []
  flags : BitVec 8 := 0
  /-- The latch: every latched signal with its value (R108, R109). -/
  latch : Kv Word := []
  /-- The write buffer (R102). -/
  wbuf : Kv Word := []
  /-- Stores to exempt signals (R165). -/
  xbuf : Kv Word := []
  /-- Latched signals that were poisoned when they were latched (R119). -/
  latchBad : List Nat := []
  /-- The address a WAIT stands on. -/
  waitAt : Nat := 0
  /-- What a Drive Set run leaves for its next run. -/
  ds : DsState := {}
  deriving DecidableEq, Repr

/-- An engine OX_n. -/
structure Engine where
  phase : EngPhase := .idle
  run : Option Run := none
  fails : Nat := 0
  deriving DecidableEq, Repr

/-- A run that is ready and waits for its engine (R138). -/
structure ReadyRun where
  slot : SlotCode
  frame : Nat
  refInstant : Nat
  deriving DecidableEq, Repr

/-- The result of one run as a die folds it (R446, R448). -/
structure RunOutcome where
  lane : EngineNo
  slot : Nat
  channel : Channel
  frame : Nat
  refInstant : Nat
  outcome : Nat
  sig : Dword
  deriving DecidableEq, Repr

/-- A verdict CTRL-A sent for a run (R444). -/
structure Verdict where
  slot : SlotCode
  frame : Nat
  /-- Outcome code of R449. -/
  outcome : Nat
  deriving DecidableEq, Repr

/-- What a program image says of its program, as the loader has checked it (R135, R171). -/
structure Image where
  samplePath : Bool
  div : Nat
  fallbackDiv : Nat
  wcount : Nat
  wboard : Nat
  wtable : Nat
  boardGrant : Nat
  tableGrant : Nat
  dir : List DirEntry
  inputs : List Nat
  code : List Dword
  ds : Nat
  deriving DecidableEq, Repr

/-- A replaced commit of a coherent group: its base, its stamp, its values (R139). -/
structure PastCommit where
  base : Nat
  stamp : Nat
  values : List Word
  deriving DecidableEq, Repr

/-- An effect of a host descriptor that CTRL-A forwards to CTRL-B (R21). -/
inductive Effect where
  | commit (owner stamp : Nat) (writes : Kv Word)
  | load (slot : SlotCode) (channel : Channel) (place : Nat) (image : Image)
  | tables (address : Nat) (words : List Word)
  deriving DecidableEq, Repr

/-- The words of an effect as DL_11 carries them (assumption 10). -/
def Effect.words : Effect → List Nat
  | .commit owner stamp writes => owner :: stamp :: writes.flatMap (fun w => [w.1, w.2.toNat])
  | .load slot ch place im => slot.val :: ch.val :: place :: im.code.flatMap (fun i => [i.toNat % 2 ^ 32, i.toNat / 2 ^ 32])
  | .tables a ws => a :: ws.map (fun w => w.toNat)

/-- A forwarded effect with the channel it names and the frame position at which CTRL-A applied it (R21): for each ACTIVE program of the channel, or of every channel where the effect names none, the last frame whose run had started there. -/
structure Forwarded where
  effect : Effect
  channel : Option Channel
  started : List (SlotCode × Option Nat)
  deriving DecidableEq, Repr

/-- One control die. -/
structure CtrlDie where
  board : Kv Word := []
  poisoned : List Nat := []
  /-- Words with an error not yet read: the mask of their wrong codeword bits, more than one bit being uncorrectable (R118, R119). -/
  eccBad : Kv Nat := []
  stamps : Kv Nat := []
  dir : List DirEntry := []
  tables : Kv Word := []
  prog : Kv Dword := []
  slots : Vector Slot 128 := Vector.replicate 128 {}
  engines : Vector Engine 16 := Vector.replicate 16 {}
  ready : List ReadyRun := []
  eccCorr : Nat := 0
  eccUncorr : Nat := 0
  eccLast : Nat := 0
  lastCorrEvent : Option Nat := none
  /-- Owners that have read an unassigned signal since the cold start (R95). -/
  unassignedReaders : List Nat := []
  /-- Last SIGNAL_WRITE_REFUSED of each writer (R100). -/
  lastRefused : Kv Nat := []
  /-- Last ARITH_EXCEPTION of each slot code (R188). -/
  lastArith : Kv Nat := []
  /-- Commits of coherent groups that a later commit has replaced, for runs that latch the commit that made a group fresh (R139). -/
  past : List PastCommit := []
  /-- Results of ended runs not yet folded into a window (R454). -/
  outcomes : List RunOutcome := []
  /-- The next address the scrubber reads (R120). -/
  scrubAt : Nat := 0
  /-- When the present pass of the scrubber began. -/
  scrubPass : Option Nat := none
  deriving DecidableEq, Repr

/-- A trigger of ARM_TRACE (R556): signal, value, mask, records after it. -/
structure TraceTrigger where
  sig : Nat
  value : Word
  mask : Word
  after : Nat
  deriving DecidableEq, Repr

/-- The trace unit with its memory (R115, R556): records in capture order as time, signal, value. -/
structure TraceUnit where
  active : Bool := false
  taps : List Nat := []
  wrap : Bool := false
  trig : Option TraceTrigger := none
  /-- Records still to be captured once the trigger has come. -/
  left : Option Nat := none
  records : List (Nat × Nat × Word) := []
  /-- Records held that have been drained. -/
  read : Nat := 0
  /-- Unread records have been overwritten since the last drain. -/
  lost : Bool := false
  capacity : Nat := 524288
  deriving DecidableEq, Repr

end Sys2Proof.Machine
end

