-- ==== Sys2Proof/Machine/State/Can.lean ====
section
/-! DEFINITION. The state of the CAN FD controllers (17_can.md). -/

namespace Sys2Proof.Machine

/-- A message object: its buffer and shadow as the 21 words of R580 (empty: all zero), its flags, and a transmit object's pending data. -/
structure CanObj where
  buf : List Word := []
  new : Bool := false
  lost : Bool := false
  shadow : Option (List Word) := none
  /-- Frames stored in the object since the cold start, or frames sent (R580, R589). -/
  count : Nat := 0
  /-- Words +0 to +19 of the last commit taken, while the object is pending (R587). -/
  pending : Option (List Word) := none
  /-- Stamp of the last commit taken. -/
  taken : Option Nat := none
  deriving DecidableEq, Repr

/-- The frame on the bus: its object, its identifier word as in R580's word +0, its data, and a flush that waits for its end (R590). -/
structure CanAttempt where
  obj : Nat
  id : Nat
  data : List Byte
  flushed : Bool := false
  deriving DecidableEq, Repr

/-- STATE of CAN_STATUS_k. -/
inductive CanMode where
  | active
  | passive
  | busOff
  deriving DecidableEq, Repr

/-- One CAN controller. -/
structure CanCtl where
  mode : CanMode := .active
  tec : Nat := 0
  rec_ : Nat := 0
  /-- Bus-off recovery runs (R590). -/
  recovering : Bool := false
  unmatched : Nat := 0
  evtDropped : Nat := 0
  /-- Measured delay in clock periods (R578). -/
  tdc : Nat := 0
  objs : Kv CanObj := []
  /-- The locked object, with the time of its lock (R584). -/
  locked : Option (Nat × Nat) := none
  /-- Records that wait for the event transmit object (R591). -/
  records : List (List Byte) := []
  onBus : Option CanAttempt := none
  /-- What the set-up checks disabled (R593). -/
  disabled : Bool := false
  objOff : List Nat := []
  deriving DecidableEq, Repr

end Sys2Proof.Machine
end

