-- ==== Sys2Proof/Machine/State/Chamois.lean ====
section
/-! DEFINITION. The state of Chamois and of the dedicated safety wires (14_functional_safety.md, R477 to R481). -/

namespace Sys2Proof.Machine

/-- Chamois, the hard-wired logic on LINK. -/
structure Chamois where
  /-- Pair and function records of the configuration it holds (R480). -/
  params : Option (List Byte) := none
  /-- Input levels accepted by its own filters, bit i: SI_ii high. -/
  levels : BitVec 32 := 0
  /-- Function latches: the time of the latch (R477). -/
  latched : Vector (Option Nat) 16 := Vector.replicate 16 none
  /-- Latched functions whose stop is asserted: at once for CAT 0, T_CH later for CAT 1. -/
  stopped : BitVec 16 := 0
  /-- STO_A_n as LINK requests it (R415, R420) and as Tahr requests it. -/
  linkReq : BitVec 8 := 0
  tahrReq : BitVec 8 := 0
  loss : Bool := false
  lastStatus : Nat := 0
  /-- AUX_OFF_A asserted at step 4 of an orderly shutdown (R438). -/
  shutAux : Bool := false
  /-- Function releases on their way from Tahr (R478); releases taken, that stand until an input of the function is at safe level again. -/
  releases : List Nat := []
  released : BitVec 16 := 0
  deriving DecidableEq, Repr

/-- The wires Tahr and LINK drive. -/
structure SafetyWires where
  stoB : BitVec 8 := 0xFF
  ascReq : BitVec 8 := 0
  asc : BitVec 8 := 0
  auxOffB : Bool := true
  bleat : Bool := false
  /-- OC_TRIP_n, STO_A_n, STO_B_n, ASC_n of each channel as the modulators last saw them, bits 0 to 3 (R41). -/
  seen : Vector (BitVec 4) 8 := Vector.replicate 8 0b0110
  deriving DecidableEq, Repr

end Sys2Proof.Machine
end

