-- ==== Sys2Proof/Machine/State/Drive.lean ====
section
/-! DEFINITION. The state of the modulators, ports, satellites and protection units (10_modulation.md, 11_gate_arrays.md, 12_protection_and_discharge.md). -/

namespace Sys2Proof.Machine

/-- A voltage reference set (R328) with the time at which it arrived at LINK. -/
structure RefSet where
  va : Word
  vb : Word
  udc : Word
  en : Word
  arrived : Nat
  deriving DecidableEq, Repr

/-- What a leg does: all dies off, the low or the high switch on. -/
inductive LegState where
  | off
  | low
  | high
  deriving DecidableEq, Repr

/-- The set processed for the channel's next frame (R351): what the boundary publishes. -/
structure NextMod where
  /-- Duties of the first half, m, flags of R370. -/
  duties : List Word
  m : Word
  flags : Nat
  setTime : Nat
  /-- The frame applies a set with switching edges (R366). -/
  switching : Bool
  /-- The set the frame applies; none where it applies none. -/
  set : Option RefSet
  /-- It applies a set of the sample-path program: its slot and frame (R231, R235). -/
  program : Option (SlotCode × Nat)
  deriving DecidableEq, Repr

/-- An entry of an EDGE message: KIND, OFFSET in 1/32 tick, MASK. -/
structure EdgeEntry where
  kind : Nat
  offset : Nat
  mask : BitVec 16
  deriving DecidableEq, Repr

/-- An EDGE message of a channel's next frame as LINK holds it until it leaves: LAST, BASE, LEN and the entries of each position. -/
structure EdgeMsg where
  last : Bool
  base : Nat
  len : Nat
  entries : List (List EdgeEntry)
  deriving DecidableEq, Repr

/-- The modulator of a channel. -/
structure Modulator where
  /-- The set last applied since the channel was enabled or released (R38, R725). -/
  applied : Option RefSet := none
  /-- State of each leg at the end of the last half processed. -/
  legs : Vector LegState 3 := Vector.replicate 3 .off
  /-- State changes of each leg with their times in 1/32 tick, oldest first (R85). -/
  points : Vector (List (Nat × LegState)) 3 := Vector.replicate 3 []
  next : Option NextMod := none
  /-- EDGE messages of the next frame that have yet to leave (R386, R387). -/
  queue : List EdgeMsg := []
  /-- A wire of R41 has asserted and no release has followed (R367). -/
  halted : Bool := true
  /-- Bit 0 of ch_n.switching. -/
  switching : Bool := false
  /-- ch_n.mod_flags of the present frame. -/
  flags : Nat := 0
  /-- A turn-on of the set in hand was delayed (R364). -/
  ilNow : Bool := false
  interlocks : Nat := 0
  /-- Largest delay of R364 since the last event and its position. -/
  ilMax : Nat := 0
  ilPos : Nat := 0
  lastInterlock : Option Nat := none
  lastUdcLow : Option Nat := none
  /-- LINK's copy of the last commit of ch_n.meas it was sent: phase currents, I_VALID, stamp (R114, R358). -/
  iMeas : Vector Word 3 := Vector.replicate 3 0
  iValid : Bool := false
  iStamp : Option Nat := none
  /-- The set last received (its arrival), for ch_n.mod_set_time. -/
  arrived : Nat := 0
  deriving DecidableEq, Repr

/-- Port states (11_gate_arrays.md). -/
inductive PortState where
  | down
  | ident
  | foreign
  | time
  | ready
  deriving DecidableEq, Repr

/-- LINK's side of a Tolpel port. -/
structure TpPort where
  state : PortState := .down
  txSeq : Nat := 0
  /-- SEQ expected upstream; none before the first message. -/
  rxSeq : Option Nat := none
  errors : Nat := 0
  lastMsgError : Option Nat := none
  satId : BitVec 64 := 0
  fitted : Nat := 0
  /-- A valid IDENT has come since the cold start. -/
  identified : Bool := false
  satTime : Nat := 0
  satLoss : Bool := false
  /-- An ECHO since the port entered TIME has reported no LOSS: a LOSS reported now is a new one. -/
  heardClear : Bool := false
  /-- Twice the delay of R383, in 1/32 tick. -/
  delay2 : Int := 0
  /-- Twice the last 8 offsets of R383, latest first, in 1/32 tick. -/
  offsets2 : List Int := []
  /-- Twice the offset of an ECHO that no MARK has corrected yet. -/
  offset2 : Option Int := none
  /-- Consecutive marks that met R384 since the last step. -/
  goodMarks : Nat := 0
  delayHigh : Bool := false
  /-- Times of the last downstream marks, latest first. -/
  marks : List Nat := []
  /-- Arrival of the last upstream mark in 1/32 tick. -/
  t4 : Option Nat := none
  /-- Time of the last valid upstream message. -/
  lastUp : Nat := 0
  lastIdentReq : Option Nat := none
  /-- Messages that wait until the next half's EDGE message has left: type and payload (R387). -/
  held : List (Nat × List Byte) := []
  /-- Starting boundaries of frames sent while READY whose TELEM is still to come. -/
  owed : List Nat := []
  /-- Consecutive frames without a valid TELEM (R394 cause 2). -/
  noTelem : Nat := 0
  /-- LINK's copies of the two trim sets and the set in force (R389, R400). -/
  trims : Vector (Vector Word 16) 2 := Vector.replicate 2 (Vector.replicate 16 0)
  tset : Fin 2 := 0
  /-- TRIM words have been written into the other set and its check is awaited. -/
  shadowSent : Bool := false
  /-- The dies whose words those are. -/
  shadowDies : List (Fin 16) := []
  /-- The other set is checked and goes in force with the next EDGE. -/
  swapTset : Bool := false
  /-- High word latched by a read of TP_ID_LO (R693). -/
  idHi : Word := 0
  deriving DecidableEq, Repr

/-- A fault of a die as LINK took it: its die, time and cause bits (R402, R403). -/
structure DieFaultRec where
  die : Nat
  tf : Nat
  cause : Nat
  /-- Temperatures of its position in the last TELEM before it, 0.01 °C. -/
  temps : Vector Int 16
  deriving DecidableEq, Repr

/-- A gate array: LINK's view of one switch position (R397 to R407). -/
structure GatePos where
  retired : BitVec 16 := 0
  latched : BitVec 16 := 0
  held : BitVec 16 := 0
  /-- Temperature of each die in the last TELEM, in 0.01 °C. -/
  temps : Vector Int 16 := Vector.replicate 16 0
  /-- STATUS of each die in the last TELEM. -/
  status : Vector Nat 16 := Vector.replicate 16 0
  faults : Vector Nat 16 := Vector.replicate 16 0
  /-- E_d and b_d of R399. -/
  err : Vector Word 16 := Vector.replicate 16 0
  bal : Vector Int 16 := Vector.replicate 16 0
  /-- Dies for which a clamp bound at the last update, of Δ_d or of b_d. -/
  bound : BitVec 16 := 0
  /-- i_pos of the last TELEM. -/
  iPos : Word := 0
  /-- n_active when E was last computed. -/
  nActive : Nat := 0
  /-- Frames that qualified (R399). -/
  qualified : Nat := 0
  groupFault : Bool := false
  balLimit : Bool := false
  belowFloor : Bool := false
  linkLoss : Bool := false
  /-- Faults not yet decided, and faults of the last 20 µs. -/
  open_ : List DieFaultRec := []
  recent : List DieFaultRec := []
  /-- Arrival of the last FAULT set (R402). -/
  lastSet : Option Nat := none
  lastBalEvent : Option Nat := none
  deriving DecidableEq, Repr

/-- A half as a satellite holds it (R388). -/
structure Half where
  base : Nat
  len : Nat
  tset : Fin 2
  last : Bool
  entries : List EdgeEntry
  deriving DecidableEq, Repr

/-- An edge a satellite has still to carry out: its time in 1/32 tick, die, on or off, strength step. -/
structure DieEdge where
  at32 : Nat
  die : Nat
  on : Bool
  step : Nat
  deriving DecidableEq, Repr

/-- A gate satellite (R381 to R401). -/
structure Satellite where
  id : BitVec 64 := 0
  model : Nat := 0
  firmware : Nat := 0
  fitted : Nat := 0
  /-- Satellite time minus device time in 1/32 tick, and the slew still to be applied by the next mark. -/
  skew : Int := 0
  slew : Int := 0
  slewAt : Nat := 0
  /-- STATE of its ECHO: 0 FREE, 1 STEPPED, 2 LOCKED. -/
  time : Nat := 0
  txSeq : Nat := 0
  rxSeq : Option Nat := none
  errors : Nat := 0
  lastDown : Nat := 0
  t2 : Nat := 0
  /-- Marks of R382 already sent: the multiple of 4,096 ticks. -/
  lastMark : Option Nat := none
  trims : Vector (Vector Word 16) 2 := Vector.replicate 2 (Vector.replicate 16 0)
  tset : Fin 2 := 0
  armed : List Half := []
  current : Option Half := none
  /-- End of the half in force, or of the missed half that runs in its place. -/
  halfEnd : Option Nat := none
  lastLen : Nat := 0
  missed : Nat := 0
  /-- Starting boundary of the frame its halves belong to; the last half that ended had LAST set. -/
  frameBase : Nat := 0
  afterLast : Bool := true
  /-- Place in its frame of the half in force or missed, and the halves of the last whole frame (R396). -/
  halfNo : Nat := 0
  perFrame : Nat := 1
  edges : List DieEdge := []
  dies : Nat := 1
  otLimit : Nat := 150
  /-- Dies that are on, and the step each was last switched with. -/
  on : BitVec 16 := 0
  steps : Vector Nat 16 := Vector.replicate 16 0
  /-- Dies with a turn-off in the present frame (R726). -/
  turnedOff : BitVec 16 := 0
  latched : BitVec 16 := 0
  causes : Vector Nat 16 := Vector.replicate 16 0
  retired : BitVec 16 := 0
  loss : Bool := false
  /-- A HOLD set's t_b until the resync half is armed (R393). -/
  hold : Option Nat := none
  /-- A FAULT set to be sent again: time, mask, cause. -/
  repeat_ : List (Nat × Nat × Nat) := []
  deriving DecidableEq, Repr

/-- Channel protection states (R411). -/
inductive ProtState where
  | run
  | zeroVector
  | freewheel
  | ss1
  | safeOpen
  | safeAsc
  | discharge
  | sto
  deriving DecidableEq, Repr

/-- A phase-loss window (R416): its opening, sums of squares, samples. -/
structure PhaseWindow where
  opened : Nat
  sums : List Word
  n : Nat
  deriving DecidableEq, Repr

/-- A discharge under way (R429 to R436). -/
structure Discharge where
  start : Nat
  winding : Bool
  xd : Word := 0
  xq : Word := 0
  deriving DecidableEq, Repr

/-- The protection unit of a channel. -/
structure Protection where
  state : ProtState := .sto
  active : BitVec 16 := 0
  causes : BitVec 16 := 0
  /-- Consecutive samples beyond and within the threshold, causes 1 to 3. -/
  beyond : Vector Nat 3 := Vector.replicate 3 0
  within : Vector Nat 3 := Vector.replicate 3 0
  otMotor : Nat := 0
  /-- SAFE_OPEN whatever the choice, since OC (R415). -/
  ocForce : Bool := false
  /-- OC has been inactive since. -/
  ocClear : Option Nat := none
  ocInAsc : Nat := 0
  /-- LINK has taken the present assertion of OC_TRIP_n. -/
  ocTaken : Bool := false
  /-- SAFE_OPEN was entered at; ASC_n is to be asserted at; STO_A_n is to be released at. -/
  openSince : Nat := 0
  ascAt : Option Nat := none
  stoReleaseAt : Option Nat := none
  window : Option PhaseWindow := none
  lopsided : Nat := 0
  discharge : Option Discharge := none
  /-- A cause has taken the channel to its safe state while DISCHARGE stays published (R434). -/
  inSafe : Bool := false
  /-- At the channel's last sample instant it was in RUN and ch_n.switching bit 0 was 1 (R416). -/
  qualifies : Bool := false
  /-- A discharge's length in ticks once it has ended; u_min. -/
  dischTicks : Nat := 0
  uMin : Word := 0
  dischPin : Bool := false
  /-- The channel's METHOD is kept at NONE by R437. -/
  noDischarge : Bool := false
  /-- Dies whose DIE_FAULT wire took the channel to its safe state (R427 reason 1). -/
  dieFaults : BitVec 8 := 0
  /-- Last valid ch_n.udc. -/
  udc : Word := 0
  /-- ch_n.i_factor as last written, F32. -/
  iFactor : Word := 0x3F800000
  deriving DecidableEq, Repr

/-- An orderly shutdown (R438 to R440). -/
structure Shutdown where
  active : Bool := false
  step : Nat := 0
  start : Nat := 0
  byVsup : Bool := false
  /-- Channels that a cause has taken to their safe state before step 2 (R439). -/
  early : BitVec 8 := 0
  dipSeen : Bool := false
  /-- VSUP_SENSE was last seen below SHUT_V (R440). -/
  below : Bool := false
  /-- The SET_STATE descriptor to complete: ring and index. -/
  desc : Option (Nat × Nat) := none
  deriving DecidableEq, Repr

end Sys2Proof.Machine
end

