-- ==== Sys2Proof/Machine/State/Events.lean ====
section
/-! DEFINITION. The device event queue and the global registers (21_guarantees.md, 22_setup_registers.md). -/

namespace Sys2Proof.Machine

/-- An entry of the reorder stage (R679): the event and its place in the order of raising. -/
structure Staged where
  ev : Event
  order : Nat
  /-- Dropped under R684: only its sort key is left (R681). -/
  dropped : Bool := false
  deriving DecidableEq, Repr

/-- An entry of the queue: its ESEQ and the rings that have written it (R682). -/
structure Queued where
  ev : Event
  eseq : Nat
  written : List Nat
  deriving DecidableEq, Repr

/-- The device event queue (R679 to R687). -/
structure EventUnit where
  /-- Raised and on their way to CTRL-A, oldest first, with the order of raising. -/
  raised : List (Event × Nat) := []
  nextOrder : Nat := 0
  /-- Held in the always-on domain while CTRL-A is off, at most 8 (R618). -/
  aon : List (Event × Nat) := []
  stage : List Staged := []
  queue : List Queued := []
  eseq : Nat := 0
  dropped : Nat := 0
  late : Nat := 0
  aonDropped : Nat := 0
  lastDrop : Option Nat := none
  /-- The host is disconnected: entries wait until an event ring is enabled again (R574). -/
  held : Bool := false
  deriving DecidableEq, Repr

/-- The global registers' own state (22_setup_registers.md). -/
structure GlobalUnit where
  /-- SETUP_LOCK. -/
  locked : Bool := false
  lockedAt : Nat := 0
  /-- What T_start counts from: SETUP_LOCK, or the exit from YARD (R64, R606). -/
  startFrom : Nat := 0
  checked : Bool := false
  chDisabled : BitVec 8 := 0
  slotsDisabled : BitVec 16 := 0
  /-- Channels whose freshness a set-up check has disabled (R573). -/
  freshOff : BitVec 8 := 0
  lastIgnored : Option Nat := none
  ignoredCount : Nat := 0
  deriving DecidableEq, Repr

end Sys2Proof.Machine
end

