-- ==== Sys2Proof/Machine/State/Host.lean ====
section
/-! DEFINITION. The state of the ring engine and of the endpoint (16_host_rings.md). -/

namespace Sys2Proof.Machine

/-- State of a ring (R541). -/
inductive RingState where
  | off
  | active
  | draining
  | error
  deriving DecidableEq, Repr

/-- A ring: its context, its two indices (R539, R540), and what R546, R551, R563 and R567 remember of it. -/
structure Ring where
  ctx : Vector Word 5 := Vector.replicate 5 0
  state : RingState := .off
  /-- Cause of ERROR (R543). -/
  cause : Nat := 0
  /-- The device's index and the host's. -/
  dev : Nat := 0
  host : Nat := 0
  /-- A FENCE of this index has been taken and has not completed. -/
  fence : Option Nat := none
  /-- Entries since the last signal, and the time of the first of them. -/
  unsignalled : Nat := 0
  first : Option Nat := none
  lastIgnored : Option Nat := none
  lastStall : Option Nat := none
  deriving DecidableEq, Repr

/-- A descriptor (R547). -/
structure Desc where
  op : Nat
  crcFlag : Bool
  inline_ : Bool
  quiet : Bool
  irq : Bool
  flagsHi : Nat
  seq : Nat
  sig : Nat
  count : Nat
  addr : Nat
  length : Nat
  crc : Nat
  w : Vector Word 10
  deriving DecidableEq, Repr

/-- A descriptor in flight (R569): taken, and executed once its opcode has acted. -/
structure Taken where
  ring : Nat
  index : Nat
  desc : Desc
  executed : Bool := false
  deriving DecidableEq, Repr

/-- A WRITE_SIGNALS_AT_FRAME that waits (R554). -/
structure TimedWrite where
  channel : Channel
  frame : Nat
  sig : Nat
  values : List Word
  ring : Nat
  index : Nat
  /-- The sample instant of its frame, once that is fixed and its timer is armed (R57). -/
  due : Option Nat := none
  deriving DecidableEq, Repr

/-- The ring engine. -/
structure RingUnit where
  rings : Kv Ring := []
  /-- ERR of the last RING_OP. -/
  opErr : Nat := 0
  /-- Link speed and width, 0 without a link (R575). -/
  speed : Nat := 0
  width : Nat := 0
  /-- The CMD ring fetched from last; fetches of the other rings in the present weighted round (R568). -/
  cmdTurn : Nat := 0
  given : Kv Nat := []
  /-- Descriptors of a ring's present fetch that are still to be taken (R551, R568). -/
  fetched : Kv Nat := []
  /-- Descriptors in flight, in the order they were taken. -/
  taken : List Taken := []
  timed : List TimedWrite := []
  /-- Vectors pending under their mask bit. -/
  pba : List Nat := []
  deriving DecidableEq, Repr

end Sys2Proof.Machine
end

