-- ==== Sys2Proof/Machine/State/Lock.lean ====
section
/-! DEFINITION. The state of lockstep comparison: the lanes of the control dies and the comparator on SAFE (13_lockstep.md). -/

namespace Sys2Proof.Machine

/-- A window that has ended and is not yet decided (R451 to R456). Its runs are those with a reference instant from lo to below hi (R452). -/
structure LockWindow where
  channel : Channel
  last : Nat
  lo : Nat
  hi : Nat
  endAt : Nat
  /-- CTRL-A and CTRL-B have closed it (R454). -/
  closedA : Bool := false
  closedB : Bool := false
  /-- Its runs, by slot code and frame, as CTRL-A has closed them: their deadlines bound its close instant (R454). -/
  runs : List (Nat × Nat) := []
  /-- The records the comparator holds (R456). -/
  recA : Option Dword := none
  recB : Option Dword := none
  /-- Channels of the programs with runs in it; it holds a pseudo-run (R460). -/
  affected : BitVec 8 := 0
  pseudo : Bool := false
  deriving DecidableEq, Repr

/-- A lane: the open window of its engines, and what the comparator holds of it. -/
structure Lane where
  /-- Its ACTIVE programs with their divisors, and its window channel, as the last change left them (R453). -/
  progs : List (SlotCode × Nat) := []
  channel : Option Channel := none
  /-- The open window: its first frame, and the instant from which its runs count. -/
  first : Nat := 0
  lo : Nat := 0
  windows : List LockWindow := []
  /-- The lane plan SAFE has taken: window channel, WIN_N, W_max in ticks (R455); none while it is inactive. -/
  plan : Option (Channel × Nat × Nat) := none
  lastDecision : Nat := 0
  deriving DecidableEq, Repr

/-- Lockstep. -/
structure Lock where
  lanes : Vector Lane 16 := Vector.replicate 16 {}
  /-- Device firmware has sent flits since the cold start: lane 0 has pseudo-runs (R450, R455). -/
  pseudo : Bool := false
  failed : Bool := false
  testPass : Bool := false
  bad : BitVec 16 := 0
  mismatches : Nat := 0
  missing : Nat := 0
  last : Word := 0
  /-- Links and DIE_FAULT wires of R458 that have been treated as mismatches. -/
  seenLinks : List Nat := []
  seenWires : BitVec 8 := 0
  deriving DecidableEq, Repr

end Sys2Proof.Machine
end

