-- ==== Sys2Proof/Machine/State/Time.lean ====
section
/-! DEFINITION. The state of the die-to-die links, the time base and the channels' carriers (01_dies_and_paths.md, 02_time_base_and_frames.md). -/

namespace Sys2Proof.Machine

/-- A flit waiting for its acknowledgement: sequence number, type, length, payload (R25), with the time it was last sent and how often it was re-sent (R26). -/
structure SentFlit where
  seq : Nat
  type : Nat
  len : Nat
  payload : BitVec 96
  sentAt : Nat
  retries : Nat := 0
  deriving DecidableEq, Repr

/-- A die-to-die link DL_nn, sender's and receiver's side (R24 to R27). -/
structure D2dLink where
  txSeq : Nat := 0
  /-- The replay buffer, oldest first, at most 16 flits (R25). -/
  replay : List SentFlit := []
  /-- Flits that wait until the replay buffer has room: type, length, payload. -/
  waiting : List (Nat × Nat × BitVec 96) := []
  rxExpected : Nat := 0
  failed : Bool := false
  resends : Nat := 0
  resendsSinceEvent : Nat := 0
  lastEvent : Option Nat := none
  /-- Flits delivered and not yet taken by a later rule: type, length, payload. -/
  delivered : List (Nat × Nat × BitVec 96) := []
  deriving DecidableEq, Repr

/-- The copy of device time each die keeps (R52, R53). -/
structure DieClock where
  /-- Copy minus LINK's device time. -/
  skew : Int := 0
  badCodes : Nat := 0
  lastEvent : Option Nat := none
  deriving DecidableEq, Repr

/-- The time base (R42 to R50). -/
structure TimeBase where
  running : Bool := false
  failed : Bool := false
  noLock : Bool := false
  refSel : Bool := false
  holdover : Bool := false
  refPresent : Bool := false
  locked : Bool := false
  /-- When the present or last holdover was entered. -/
  holdoverAt : Nat := 0
  /-- The present or last holdover has reached the 10 s of R49. -/
  timedOut : Bool := false
  /-- High word latched by a read of DEV_TIME_LO (R51). -/
  hiLatch : Word := 0
  deriving DecidableEq, Repr

/-- A timer of a control die (R57). -/
structure Timer where
  at_ : Nat
  purpose : Nat
  deriving DecidableEq, Repr

/-- A request a matched timer raised: its purpose and the programmed time that stamps its effect. -/
structure TimerRequest where
  purpose : Nat
  stamp : Nat
  deriving DecidableEq, Repr

/-- Sync state of a channel (CH_SYNC_STATUS.STATE). -/
inductive SyncState where
  | free
  | acquire
  | track
  | hold
  deriving DecidableEq, Repr

/-- Settings of a channel that wait for the planner or for a valley (R67): the words of CH_CARRIER, CH_SYNC, CH_DITHER and the modulator's that a CHANNEL_MODE carried. -/
structure ChanSettings where
  carrier : Option Word := none
  sync : Option Word := none
  dither : Option Word := none
  /-- MOD_CFG, MOD_DT_U, _V, _W and MOD_IBAND; empty when the MOD flag was 0. -/
  modulator : List Word := []
  accepted : Bool := false
  /-- The descriptor to complete: ring and index (R558). -/
  desc : Nat × Nat := (0, 0)
  deriving DecidableEq, Repr

/-- The frame schedule message a SENSE die holds for a channel (R55). -/
structure FrameSchedule where
  frame : Nat
  sample : Nat
  deriving DecidableEq, Repr

/-- A sync target of a channel as the edges on SYNC_IN find it: its number, counted in valleys from boundary 0 or the last hard resync; an edge has been matched to it; it has been counted as missed (R75 to R77). -/
structure SyncTarget where
  count : Nat
  matched : Bool := false
  missed : Bool := false
  deriving DecidableEq, Repr

/-- The voltage reference set a sample-path program's commit has published: the program, the frame, and the four values, none where one of them is poisoned (R37, R114, R119, R142). -/
structure Published where
  slot : SlotCode
  frame : Nat
  values : Option (Vector Word 4)
  deriving DecidableEq, Repr

/-- The carrier, frame and sync state of one channel. -/
structure ChanTime where
  /-- The carrier runs (R64, R65). -/
  running : Bool := false
  /-- The carrier stopped in YARD: its frame numbers continue (R606). -/
  resumed : Bool := false
  /-- Enabled and not disabled by a set-up check (R696). -/
  enabled : Bool := false
  frame : Nat := 0
  boundary : Nat := 0
  frameLen : Nat := 0
  /-- The present frame began at a valley. -/
  atValley : Bool := true
  /-- Sample instant of the present frame; its reference instant (R106). -/
  refInstant : Nat := 0
  /-- Reference instant of the frame before (R35, R452). -/
  refPrev : Nat := 0
  /-- The present frame is a resync frame (R85). -/
  resyncFrame : Bool := false
  /-- The next frame's sample instant has been taken. -/
  sampled : Bool := false
  /-- That sample instant fell in a frame in which SENSE makes no delivery (R604). -/
  skipped : Bool := false
  /-- Its cut-off instant has been taken. -/
  cutoffDone : Bool := false
  /-- Whether its measurement delivery came by the cut-off, and its I_VALID (R87). -/
  measValid : Option Bool := none
  /-- Length of the next frame once its first EDGE message has been sent, or of the frame that starts now. -/
  nextLen : Option Nat := none
  /-- Lengths of recent frames with their starting boundaries, for followers (R69). -/
  recent : List (Nat × Nat) := []
  lfsr : BitVec 16 := 0
  ditherActive : Bool := false
  sync : SyncState := .free
  syncLost : Bool := false
  missed : Nat := 0
  /-- Pending correction c (R78). -/
  corr : Int := 0
  heldPeriod : Nat := 0
  /-- The last two accepted edge times, the later first. -/
  edges : List Nat := []
  /-- e of the last matched edge. -/
  offset : Int := 0
  /-- Time and number of the last sync target. -/
  lastTarget : Nat := 0
  lastCount : Nat := 0
  /-- What has become of the last target and of those after it; one without an entry is untouched. -/
  targets : List SyncTarget := []
  /-- Valleys since boundary 0 or the last hard resync (R75). -/
  valleys : Nat := 0
  /-- A commanded resync is armed; the time from which its four intervals run, once no R89 run holds it. -/
  armed : Bool := false
  armedFrom : Option Nat := none
  /-- The CHANNEL_MODE descriptors behind it: ring and index. -/
  armedDescs : List (Nat × Nat) := []
  /-- A hard resync is due at this t_b, with its e and whether it was commanded. -/
  resyncAt : Option (Nat × Int × Bool) := none
  /-- The switch hold after a hard resync ends here (R85). -/
  holdEnd : Option Nat := none
  /-- Accepted settings of a follower take effect at this t_x, once v is known (R558, R723). -/
  jumpAt : Option Nat := none
  /-- Settings of a CHANNEL_MODE have taken effect: its ring and index, and the first frame under them. -/
  effected : Option ((Nat × Nat) × Nat) := none
  /-- Frame lead j (R69). -/
  lead : Nat := 0
  iInvalid : Nat := 0
  settings : Option ChanSettings := none
  /-- The FRAME message each SENSE die took for the next frame (R55). -/
  schedule : Option FrameSchedule := none
  /-- RESYNC t_b the SENSE die holds (R55). -/
  senseResync : Option Nat := none
  /-- Consecutive misses of the sample-path program, all misses (R231). -/
  missRun : Nat := 0
  missTotal : Nat := 0
  /-- The reference set published for the channel and not yet taken (R37, R142). -/
  published : Option Published := none
  /-- The miss reaction is due at the next update instant (R231). -/
  reactionDue : Bool := false
  /-- The refusal of the running mode takes effect at the next boundary (R222). -/
  refuseDue : Bool := false
  deriving DecidableEq, Repr

/-- The wires of R31 that carry no other unit's state: DIE_FAULT_x and OC_TRIP_n. -/
structure Wires where
  dieFault : Vector Bool 8 := Vector.replicate 8 false
  ocTrip : Vector Bool 8 := Vector.replicate 8 false
  deriving DecidableEq, Repr

end Sys2Proof.Machine
end

