-- ==== Sys2Proof/Machine/State/Plan.lean ====
section
/-! DEFINITION. The state of the frame planner, the Velvet monitors, AVSBus and ageing (06_planning_and_ageing.md). -/

namespace Sys2Proof.Machine

/-- The pair of Velvet monitors of one engine or memory: filtered delay in 2^-16 ps, and the status bits (R202 to R206). -/
structure Velvet where
  filtered : Nat := 0
  failed : Bool := false
  disagree : Bool := false
  lastDisagree : Option Nat := none
  deriving DecidableEq, Repr

/-- An AVSBus write that waits for its read-back (R228). -/
structure AvsWrite where
  mV : Nat
  sentAt : Nat
  retried : Bool := false
  deriving DecidableEq, Repr

/-- The planner's view of one control die. -/
structure PlanDie where
  engines : Vector Velvet 16 := Vector.replicate 16 {}
  memories : Vector Velvet 8 := Vector.replicate 8 {}
  vddMv : Nat := 800
  lastStep : Nat := 0
  avsFailed : Bool := false
  avs : Option AvsWrite := none
  /-- Last matching read-back: readings within 20 µs of it are not trusted. -/
  avsMatched : Option Nat := none
  slack : Nat := 0
  /-- A trusted reading has come since the planner's last step on either die (R218, R224). -/
  checked : Bool := true
  /-- Last reading of the monitors (R201). -/
  lastReading : Option Nat := none
  /-- L in ppm, and what VELVET_AGEING and the records show of it. -/
  lossPpm : Int := 0
  lossShown : Nat := 0
  warned : Bool := false
  budget : Bool := false
  /-- Ageing readings of the last 60 s: time, f_s, f_u (R236). -/
  ageHist : List (Nat × Nat × Nat) := []
  lastAgeing : Option Nat := none
  lastLowered : Option Nat := none
  /-- For the ageing record (R237): powered seconds at the last one, seconds hot as last recorded, ticks with VDD_CORE above 0.85 V up to the present setpoint, and since when that stands. -/
  poweredS : Nat := 0
  hotS : Nat := 0
  vddHi : Nat := 0
  vddAt : Nat := 0
  deriving DecidableEq, Repr

/-- A change of the program set or of channel settings that waits for the planner (R223). -/
inductive PlanChange where
  /-- SWAP_PROGRAM: old and new slot codes, the descriptor's ring and index. -/
  | swap (old new : Option SlotCode) (ring index : Nat)
  /-- CHANNEL_MODE settings: the channels of its MASK, and the settings with the descriptor behind them. -/
  | mode (mask : BitVec 8) (settings : ChanSettings)
  deriving DecidableEq, Repr

/-- A swap that was accepted and is not yet complete (R131, R235). -/
structure Swap where
  old : Option SlotCode
  new : Option SlotCode
  channel : Channel
  ring : Nat
  index : Nat
  acceptedAt : Nat := 0
  /-- The decision has reached CTRL-B over DL_11 (R219). -/
  toB : Bool := true
  /-- It has taken effect at its boundary. -/
  done : Bool := false
  /-- The channel's last boundary is the one at which it takes effect (R234). -/
  due : Bool := false
  deriving DecidableEq, Repr

/-- The planner's decisions common to both dies. -/
structure Planner where
  pending : List PlanChange := []
  swaps : List Swap := []
  lastRestore : Option Nat := none
  /-- Channels whose running mode is refused (R222). -/
  refused : BitVec 8 := 0
  lastEol : Option Nat := none
  deriving DecidableEq, Repr

end Sys2Proof.Machine
end

