-- ==== Sys2Proof/Machine/State/Position.lean ====
section
/-! DEFINITION. The state of the position interfaces, compare units and emulators (08_position_and_speed.md). -/

namespace Sys2Proof.Machine

/-- The tracking observer (R303): Θ as a signed 64-bit sensor position, ω and α as F32, the time of its update, the good updates since its start. -/
structure Observer where
  theta : Int := 0
  omega : Word := 0
  alpha : Word := 0
  t : Nat := 0
  good : Nat := 0
  deriving DecidableEq, Repr

/-- An SSI word sent to SAFE (R299): its decoded sensor position, good or bad, t_r. -/
structure SsiSafe where
  theta : Int
  good : Bool
  tR : Nat
  deriving DecidableEq, Repr

/-- A position interface PIF_k. -/
structure Pif where
  obs : Observer := {}
  /-- The last 32 resolver samples, latest first: phase index, corrected sine and cosine code (R292). -/
  win : List (Nat × Int × Int) := []
  /-- Number of the last resolver sample taken (R291). -/
  lastSample : Option Nat := none
  amp : Word := 0
  /-- B-path codes of j = 8 (R294). -/
  b8 : Int × Int := (0, 0)
  /-- B-path values sent to SAFE that Tahr has not taken yet: b_sin, b_cos, time of sample j = 24. -/
  bSafe : List (Int × Int × Nat) := []
  /-- An SSI word under way: its t_r. -/
  wordAt : Option Nat := none
  /-- A word's monoflop check is due at this time (R297). -/
  monoAt : Option Nat := none
  /-- No request before this time. -/
  busyUntil : Nat := 0
  /-- Frame of the last request, or its time with CH 7 (R296). -/
  lastReq : Option Nat := none
  ssiSafe : List SsiSafe := []
  /-- Filtered levels of A and B. -/
  a : Bool := false
  b : Bool := false
  /-- The count within a sensor cycle and the signed cycle count (R301). -/
  c : Nat := 0
  cycles : Int := 0
  homed : Bool := false
  /-- When the observer last accepted a measurement (R304). -/
  accepted : Nat := 0
  stateErrs : Nat := 0
  lastStateErr : Option Nat := none
  lastCount : Option Nat := none
  rejects : Nat := 0
  reason : Nat := 0
  /-- Last POS_MEAS_REJECTED of each reason (R309). -/
  lastReject : Kv Nat := []
  dir : Bool := false
  dirSet : Bool := false
  dirChg : Bool := false
  dirChanges : Nat := 0
  lastDirEvent : Option Nat := none
  /-- VALID as last judged (R308, R309). -/
  valid : Bool := false
  /-- A set-up check left it disabled (R319). -/
  disabled : Bool := false
  /-- Sample instant of a delivery that waits for the measurement groups (R308). -/
  due : Option Nat := none
  /-- Last 10 µs write of its signals (R318). -/
  lastSignals : Option Nat := none
  deriving DecidableEq, Repr

/-- A position compare unit (R311 to R314). -/
structure CompareUnit where
  ptr : Nat := 0
  stopped : Bool := false
  fires : Nat := 0
  /-- Position at the last evaluation since enabling. -/
  prev : Option Int := none
  lastEval : Option Nat := none
  /-- End of the pulse on COMP_OUT. -/
  outEnd : Option Nat := none
  disabled : Bool := false
  deriving DecidableEq, Repr

/-- An encoder emulator (R315 to R317). -/
structure Emulator where
  started : Bool := false
  n : Int := 0
  /-- The second edge of the last update and its direction: until its time the outputs stand one count behind `n` (R315). -/
  second : Option (Nat × Int) := none
  lastUpdate : Option Nat := none
  lastLag : Option Nat := none
  disabled : Bool := false
  deriving DecidableEq, Repr

/-- The position part of a SENSE die. -/
structure PosDie where
  pif : Vector Pif 4 := Vector.replicate 4 {}
  cmp : Vector CompareUnit 4 := Vector.replicate 4 {}
  emu : Emulator := {}
  deriving DecidableEq, Repr

end Sys2Proof.Machine
end

