-- ==== Sys2Proof/Machine/State/Power.lean ====
section
/-! DEFINITION. The state of the power ladder and of start-up (18_power_ladder.md). -/

namespace Sys2Proof.Machine

/-- A request for a rung (R611, R614, R617): its target and wake source, 0 for a descent; the SET_STATE descriptor behind it. -/
structure RungRequest where
  target : Nat
  source : Nat
  desc : Option (Nat × Nat) := none
  deriving DecidableEq, Repr

/-- A climb under way (R614 to R616): its request, the start of the present step, and whether that step is being repeated. -/
structure Climb where
  request : RungRequest
  stepAt : Nat
  repeated : Bool := false
  deriving DecidableEq, Repr

/-- The ladder image (R609). -/
structure LadderImage where
  regs : Kv Word
  locked : Bool
  dir : List DirEntry
  slots : Vector Slot 128
  prog : Kv Dword
  tables : Kv Word
  board : Kv Word
  deriving DecidableEq, Repr

/-- The power ladder. Rungs by their codes: 0 RUN, 1 GRAZE, 2 CHEW, 3 BED, 4 YARD, 5 SHED (R600). -/
structure Power where
  rung : Nat := 0
  /-- Steps 1 to 8 of the cold start are complete (R621). -/
  started : Bool := false
  /-- RESET_N is low (R619). -/
  resetLow : Bool := false
  /-- A descent under way to this rung. -/
  descent : Option RungRequest := none
  climb : Option Climb := none
  /-- The one request that waits (R617). -/
  heldReq : Option RungRequest := none
  wakeFail : Bool := false
  source : Nat := 0
  coldRail : Nat := 0
  coldCause : Nat := 1
  /-- VDD_LINK has risen and RESET_N has not risen since (R619). -/
  powerOn : Bool := false
  /-- PWR_TIMER as it is in force (R622). -/
  timer : Nat := 0
  /-- The wake timer has fired since PWR_TIMER was last written. -/
  timerFired : Bool := false
  /-- VDD_CORE of each control die before the descent, mV (R615). -/
  keptMv : Vector Nat 2 := Vector.replicate 2 800
  image : Option LadderImage := none
  /-- Pages of table memory LOAD_TABLE has written since the cold start (R609). -/
  tablePages : List Nat := []
  /-- Rails within ±5 % of nominal, as PWR_RAILS.OK shows them; VDD_IO is 1.8 V (R597). -/
  rails : BitVec 9 := 0
  io18 : Bool := false
  /-- The enable balls: EN_AON of group 1, which the wake detector drives, EN_MAIN of group 2, EN_CORE_A and EN_CORE_B of group 3 (R595, R596). Reset is released, and EN_MAIN has risen (R621 step 1). -/
  enAon : Bool := true
  enMain : Bool := true
  enCore : Bool := false
  /-- The comparator test of the climb has still to pass (R610). -/
  testPending : Bool := false
  deriving DecidableEq, Repr

end Sys2Proof.Machine
end

