-- ==== Sys2Proof/Machine/State/SelfTest.lean ====
section
/-! DEFINITION. The state of self-test and repair (19_self_test.md). The repair map itself is the REPAIR section of the lifetime record. -/

namespace Sys2Proof.Machine

/-- STATE of ST_STATUS. -/
inductive TestState where
  | idle
  | running
  | passed
  | failed
  | refused
  | aborted
  | fusing
  deriving DecidableEq, Repr

/-- Self-test and repair. -/
structure SelfTest where
  state : TestState := .idle
  /-- The last test was extended. -/
  extended : Bool := false
  reason : Nat := 0
  entries : Nat := 0
  /-- Results of the last test, at most 64 (R632). -/
  log : List (Word × Word) := []
  /-- ST_SEL when the running test was started. -/
  sel : Nat := 0
  /-- The start-up test of this cold start has ended; it passed so far (R627). -/
  startDone : Bool := false
  startPassed : Bool := false
  /-- The extended test took a memory whose end is a cold start, and a shutdown has aborted it (R631). -/
  coldOwed : Bool := false
  /-- A fuse repair runs (R635). -/
  fusing : Bool := false
  /-- The start-up test has passed and SELFTEST_PASS is still to come (R627). -/
  passDue : Bool := false
  /-- Map entries burnt into fuses (R635). -/
  fused : List Dword := []
  deriving DecidableEq, Repr

end Sys2Proof.Machine
end

