-- ==== Sys2Proof/Machine/State/Sense.lean ====
section
/-! DEFINITION. The state of the SENSE dies: bitstream inputs, converters, measurement groups, sample buffers (07_current_and_voltage_sensing.md). -/

namespace Sys2Proof.Machine

/-- A sigma-delta input: its sinc3 filter (R245), stuck watch (R244) and sinc1 comparator (R249). -/
structure SdmInput where
  i1 : Int := 0
  i2 : Int := 0
  i3 : Int := 0
  /-- H, latest first (R245). -/
  hist : List Int := []
  /-- Bits since the last restart. -/
  count : Nat := 0
  raw : Int := 0
  lastBit : Bool := false
  /-- Length of the present run of equal bits. -/
  run : Nat := 0
  stuck : Bool := false
  /-- The last WIN bits, latest first, since the comparator was enabled. -/
  win : List Bool := []
  /-- Consecutive bits beyond a limit. -/
  beyond : Nat := 0
  /-- The first record after a restart is still to come (R279). -/
  restarted : Bool := true
  deriving DecidableEq, Repr

/-- What starts a pass: a local channel or the timer (R255, R256). -/
inductive Trigger where
  | channel (l : Fin 4)
  | timer
  deriving DecidableEq, Repr

/-- A pass of a converter's sequence (R255 to R258). -/
structure Pass where
  trig : Trigger
  trigTime : Nat
  startTime : Nat
  entry : Nat
  /-- Start of the present conversion. -/
  convStart : Nat
  /-- Entries converted so far with their raw codes. -/
  results : List (Nat × Int) := []
  latched : Bool := false
  preempted : Bool := false
  deriving DecidableEq, Repr

/-- An urgent conversion (R259 to R262). -/
structure Urgent where
  chan : Fin 8
  mux : Nat
  reqId : Nat
  deriving DecidableEq, Repr

/-- What a converter is doing. -/
inductive ConvWork where
  | idle
  | pass (p : Pass)
  | urgent (u : Urgent) (start : Nat)
  | plaus (start : Nat)
  | house (mux start : Nat)
  deriving DecidableEq, Repr

/-- A SAR converter (R252 to R263). -/
structure Converter where
  work : ConvWork := .idle
  suspended : Option Pass := none
  latched : Option (Trigger × Nat) := none
  pendingUrgent : Option Urgent := none
  /-- Housekeeping inputs still to be converted. -/
  house : List Nat := []
  overruns : Nat := 0
  urgentDrops : Nat := 0
  passes : Nat := 0
  lastOverrunEvent : Option Nat := none
  lastTimer : Option Nat := none
  deriving DecidableEq, Repr

/-- A plausibility pair (R265, R266). -/
structure PlausPair where
  even : Option Int := none
  odd : Option Int := none
  skipped : Nat := 0
  /-- A period has begun whose conversion has not started yet. -/
  want : Bool := false
  /-- Start of the last period. -/
  lastPeriod : Option Nat := none
  deriving DecidableEq, Repr

/-- One SENSE die. -/
structure SenseDie where
  sdm : Vector SdmInput 24 := Vector.replicate 24 {}
  conv : Vector Converter 6 := Vector.replicate 6 {}
  pairs : Vector PlausPair 3 := Vector.replicate 3 {}
  /-- Comparators a set-up check has switched off (R285 reason 10). -/
  cmpOff : List Nat := []
  owLo : Word := 0
  owHi : Word := 0
  /-- Start of the last housekeeping round (R267). -/
  lastHouse : Option Nat := none
  /-- Values sent to SAFE that Tahr has not taken yet: tag, raw code, sampling time, converter × 32 + multiplexer input, arrival (R264, R490). -/
  tags : List (Nat × Int × Nat × Nat × Nat) := []
  deriving DecidableEq, Repr

/-- One member of a measurement group as the present sample instant finds it (R272, R275). -/
structure MeasMember where
  ready : Bool := false
  code : Int := 0
  clip : Bool := false
  /-- 0: valid; otherwise the reason of R275. -/
  reason : Nat := 0
  /-- Value of its last valid delivery (R276). -/
  lastValid : Word := 0
  deriving DecidableEq, Repr

/-- A channel's measurement groups under way (R271 to R276). -/
structure ChanSense where
  sample : Nat := 0
  frame : Nat := 0
  members : Vector MeasMember 10 := Vector.replicate 10 {}
  sent : Bool := true
  sentM : Bool := true
  lastLate : Option Nat := none
  lastReqId : Nat := 0
  /-- Commits of ch_n.adc_req on their way to SENSE, oldest first (R114, R259). -/
  requests : List Word := []
  /-- Sample instants still to be marked after a hard resync (R86). -/
  resyncMarks : Nat := 0
  /-- OC_TRIP_n was last asserted at this time (R250). -/
  tripAt : Nat := 0
  deriving DecidableEq, Repr

/-- A sample buffer (R279 to R282). -/
structure SampleBuffer where
  wptr : Nat := 0
  /-- Its first record after being enabled is still to come. -/
  fresh : Bool := true
  wmRaised : Bool := false
  lastOverrun : Option Nat := none
  /-- A set-up check left it disabled (R285). -/
  disabled : Bool := false
  deriving DecidableEq, Repr

end Sys2Proof.Machine
end

