-- ==== Sys2Proof/Machine/State/Store.lean ====
section
/-! DEFINITION. The state of STORE, of the records the device keeps in it, of the lifecycle and of the service port (20_store_update_identity.md). -/

namespace Sys2Proof.Machine

/-- One bank: its 32 header bytes and its content (R640). `factory`: the bank as written at manufacture, valid with SEQ 1; a firmware image in it verifies. -/
structure Bank where
  header : List Byte := List.replicate 32 0
  content : List Byte := []
  factory : Bool := false
  deriving DecidableEq, Repr

/-- STORE as it leaves the factory: a calibration record and firmware slot 0, every other kind empty. -/
def factoryBanks : Vector Bank 14 :=
  ((Vector.replicate 14 ({} : Bank)).set 0 { content := Config.factoryCal, factory := true }).set 12 { content := Config.factoryImage, factory := true }

/-- Why a bank is being written: a host descriptor, the service port, or the device itself. -/
inductive WriteBy where
  | ring (ring index : Nat)
  | service
  | device
  deriving DecidableEq, Repr

/-- A write of a bank under way (R642): its steps 1 and 2 are taken, step 5 is still to come. -/
structure BankWrite where
  kind : Nat
  bank : Fin 2
  content : List Byte
  by_ : WriteBy
  deriving DecidableEq, Repr

/-- What the safety configuration record holds (R503, R504): the confirmed and the pending image, the last SERIAL, the password record, the change log. -/
structure SafetyRec where
  image : Option (List Byte)
  pendingImage : Option (List Byte)
  serial : Nat
  password : Option (List Byte × List Byte)
  log : List (List Byte)
  logCount : Nat
  deriving DecidableEq, Repr

/-- The identity and binding record (R650). -/
structure IdentityRec where
  phase : Nat := 0
  bound : Bool := false
  ownerLock : Bool := false
  bindCount : Nat := 0
  ownerHash : List Byte := List.replicate 32 0
  satIds : Vector (BitVec 64) 48 := Vector.replicate 48 0
  deriving DecidableEq, Repr

/-- The BOOT section (R664). -/
structure BootRec where
  active : Nat := 0
  trial : Nat := 0xFF
  trialBoots : Nat := 0
  lastRejected : Nat := 0xFF
  trialFirstS : Nat := 0
  fallbacks : Nat := 0
  deriving DecidableEq, Repr

/-- The retirement record of R409: masks by port, count, log entries by place. -/
structure RetireRec where
  masks : Vector (BitVec 16) 48 := Vector.replicate 48 0
  count : Nat := 0
  log : Kv (List Byte) := []
  deriving DecidableEq, Repr

/-- The record kind 3 as the device holds it (R649). -/
structure LifeRec where
  /-- HEAD.POWERED_S as last read at a cold start; COLD_STARTS. -/
  poweredS : Nat := 0
  coldStarts : Nat := 0
  boot : BootRec := {}
  shedTime : Nat := 0
  shedValid : Bool := false
  retire : RetireRec := {}
  /-- Entries of the map in effect that their die could not write, its link to STORE having failed (R29, R634). -/
  unsaved : List Dword := []
  repair : List Dword := []
  ageCount : Nat := 0
  ageing : Kv (List Byte) := []
  deriving DecidableEq, Repr

/-- The event log (R651): COUNT, DROPPED, entries by place, and the buffer with its first unwritten entry's time. -/
structure EventLog where
  count : Nat := 0
  dropped : Nat := 0
  entries : Kv (List Byte) := []
  /-- Logged events not yet written, oldest first, with their ESEQ. -/
  buffer : List (Event × Nat) := []
  since : Option Nat := none
  deriving DecidableEq, Repr

/-- A service session (R663). -/
structure SvcSession where
  number : Nat
  owner : Bool
  clientKey : List Byte
  lastSeq : Nat := 0
  lastResponse : List Byte := []
  /-- Time of the last valid frame of the client. -/
  lastAt : Nat
  /-- A write between WRITE_BEGIN and WRITE_END: kind, total length, bytes written. -/
  writing : Option (Nat × Nat × List Byte) := none
  deriving DecidableEq, Repr

/-- The service port (R662, R663). -/
structure Service where
  /-- A handshake after HELLO: client key and nonce, with its time. -/
  hello : Option (List Byte × List Byte × Nat) := none
  session : Option SvcSession := none
  lastNumber : Nat := 0
  crcErrors : Nat := 0
  lastSeq : Nat := 0
  /-- An AUTH or a REQUEST under way waits for its write: the SEQ to be answered. -/
  waiting : Option Nat := none
  deriving DecidableEq, Repr

/-- STORE, the records in force and what stands with them. -/
structure Store where
  /-- Bank b of kind k at 2 (k − 1) + b. -/
  banks : Vector Bank 14 := factoryBanks
  write : Option BankWrite := none
  /-- Writes of the host and of the service port that wait for the running one (R644). -/
  waiting : List BankWrite := []
  /-- What the banks of kind 6 hold, bank 0 and bank 1. -/
  safety : Vector (Option SafetyRec) 2 := Vector.replicate 2 none
  /-- The SAFETY_CONFIG that completes when its record has been written, with its completion. -/
  safetyDone : Option (WriteBy × Completion) := none
  /-- Kinds the device has still to write, in order (R644). -/
  queue : List Nat := []
  /-- The writer STORE granted last: 0 CTRL-A, 1 CTRL-B, 2 SAFE (R644). -/
  lastWriter : Nat := 0
  /-- Kinds found empty at the cold start (R646). -/
  empty : BitVec 8 := 0
  ident : IdentityRec := {}
  life : LifeRec := {}
  evlog : EventLog := {}
  /-- The firmware slot that runs (R667). -/
  running : Nat := 0
  recovery : Bool := false
  /-- The two Tahr slots of SAFE's flash (R664, R666). -/
  tahrFlash : Vector (List Byte) 2 := Vector.replicate 2 []
  /-- Burnt ARB fuses; LC_0 and LC_1. -/
  arbFuses : Nat := 0
  lc0 : Bool := true
  lc1 : Bool := false
  /-- LC_NONCE and the high words latched by reads of LC_NONCE_LO and DEV_ID_LO. -/
  nonce : Dword := 0
  nonceHi : Word := 0
  idHi : Word := 0
  /-- The trial image has confirmed its health since the cold start (R669). -/
  confirmed : Bool := false
  /-- VSUP_SENSE at the cold start read above 18 V (R665). -/
  vsupHigh : Bool := false
  svc : Service := {}
  deriving DecidableEq, Repr

end Sys2Proof.Machine
end

