-- ==== Sys2Proof/Machine/State/Tahr.lean ====
section
/-! DEFINITION. The state of Tahr, the safety processor on SAFE (14_functional_safety.md). -/

namespace Sys2Proof.Machine

/-- State of a safety-input pair (R469). -/
inductive PairState where
  | run
  | safe
  | disc
  | fault
  deriving DecidableEq, Repr

/-- State of a function (R473). -/
inductive FnState where
  | stopped
  | waitReset
  | permit
  deriving DecidableEq, Repr

/-- A pair of safety inputs (R469, R470). -/
structure SiPair where
  state : PairState := .safe
  cause : Nat := 0
  /-- DISC: input A changed first; the pair was in RUN before; the time of the first change. -/
  firstA : Bool := false
  fromRun : Bool := false
  discAt : Nat := 0
  /-- When it last entered RUN, and how long it had been there when it last left it on its way to SAFE (R474). -/
  runAt : Nat := 0
  ranFor : Option Nat := none
  /-- A test-pulse fault found since the last cycle (R468). -/
  testFault : Bool := false
  deriving DecidableEq, Repr

/-- A function instance FN_00 to FN_15. -/
structure SafetyFn where
  state : FnState := .stopped
  /-- A valid reset is needed whatever MANUAL says (START_RESET, R473). -/
  needReset : Bool := false
  /-- TWO_HAND: both pairs have been in SAFE together since the last permit (R475). -/
  armed : Bool := false
  /-- Chamois's latch and Tahr's demand have differed since (R482). -/
  differs : Option Nat := none
  deriving DecidableEq, Repr

/-- An SS1 that runs (R486 to R488): t0, |v0| as F32, cycles at or below V_ZERO. -/
structure Ss1 where
  t0 : Nat
  v0 : Word
  zeros : Nat := 0
  deriving DecidableEq, Repr

/-- What Tahr holds of a channel. -/
structure TahrChan where
  /-- ch_n.safe.state other than SS1: STO or ASC carried out. -/
  stopped : Bool := true
  asc : Bool := false
  /-- ASC_OFF has been met since (R483). -/
  ascOk : Option Nat := none
  /-- TORQUE_MON_FAULT, data lost, ramp fault, lockstep and SO_FAULT stops of R484. -/
  tmFault : Bool := false
  dataLost : Bool := false
  rampFault : Bool := false
  lockStop : Bool := false
  soStop : Bool := false
  /-- An SS1 or STO request of LINK or the frame supervisor stands (R484, last row). -/
  request : Bool := false
  /-- Which: an SS1 with its source of 0x7110, an STO. -/
  wantSs1 : Option Nat := none
  wantSto : Bool := false
  ss1 : Option Ss1 := none
  /-- The protection state LINK last reported over DL_25 (R32, R411). -/
  prot : ProtState := .sto
  /-- The SS1 requests that stood in the last cycle: bits 0 to 15 the CAT 1 functions, bit 16 + n the request of source n (R486). -/
  asked : BitVec 32 := 0
  /-- Last arrival of the values of TAG_A, TAG_B, TAG_C, TAG_UDC; which are lost; the speed source's. -/
  tagAt : Vector Nat 4 := Vector.replicate 4 0
  tagLost : Vector Bool 4 := Vector.replicate 4 false
  sourceAt : Nat := 0
  sourceLost : Bool := false
  /-- Last value of TAG_UDC, corrected. -/
  udc : Int := 0
  /-- Unwrapped sensor angle in 2^-32 turn with its time; its history over the last millisecond, latest first (R491). -/
  angles : List (Nat × Int) := []
  speed : Word := 0
  speedOk : Bool := false
  /-- Consecutive violating cycles (R492). -/
  violations : Nat := 0
  tEst : Word := 0
  tCmd : Word := 0
  vEnv : Word := 0
  /-- When ch_n.ds.iref was last committed, and the commanded torque and speed that commit brought over DL_12 (R33, R114, R329). -/
  irefAt : Option Nat := none
  cmdTorque : Word := 0
  cmdSpeed : Word := 0
  /-- STO_A_n has been requested and has not read back since (R482). -/
  stoAAt : Option Nat := none
  deriving DecidableEq, Repr

/-- A safety output SO_k (R494, R495). -/
structure SafetyOut where
  a : Bool := false
  b : Bool := false
  latchedOff : Bool := false
  /-- A dark test of switch A or B runs since. -/
  testA : Option Nat := none
  testB : Option Nat := none
  lastTestA : Option Nat := none
  lastTestB : Option Nat := none
  /-- A read-back differs from the command since. -/
  diffA : Option Nat := none
  diffB : Option Nat := none
  /-- BRAKE: STO_B_n has been asserted since. -/
  stoBAt : Option Nat := none
  deriving DecidableEq, Repr

/-- An entry of the change log is 32 bytes (R504); the password record: salt and PBKDF2 output (R501). -/
structure Tahr where
  /-- Tahr has been started by a cold start. -/
  running : Bool := false
  /-- Levels accepted by the SAFE filters, and when each was accepted. -/
  levels : BitVec 32 := 0
  levelAt : Vector Nat 32 := Vector.replicate 32 0
  /-- Test-pulse outputs that are low, and the start of each one's last pulse. -/
  tpoLow : BitVec 4 := 0
  pulseAt : Vector (Option Nat) 4 := Vector.replicate 4 none
  pairs : Vector SiPair 16 := Vector.replicate 16 {}
  fns : Vector SafetyFn 16 := Vector.replicate 16 {}
  ch : Vector TahrChan 8 := Vector.replicate 8 {}
  outs : Vector SafetyOut 4 := Vector.replicate 4 {}
  /-- The confirmed and the pending image (R503). -/
  image : Option (List Byte) := none
  pendingImage : Option (List Byte) := none
  serial : Nat := 0
  /-- The configuration hold; not bound to an owner. -/
  hold : Bool := false
  unbound : Bool := false
  /-- RETIRED (R657); a firmware write runs (R666); an extended self-test runs (R631): each holds STO on every channel. -/
  retired : Bool := false
  updating : Bool := false
  testing : Bool := false
  /-- Kind 1 as Tahr read it from STORE over DL_24 at its start (R34, R648); empty where there was none. -/
  cal : List Byte := []
  /-- Stop requests on their way to Tahr: channel, STO or SS1, source of 0x7110 (R32, R484, R486). -/
  requests : List (Channel × Bool × Nat) := []
  chamoisFault : Bool := false
  /-- A failed comparator test (R463) or self-test (R628) holds every channel. -/
  testFail : Bool := false
  blocked : Bool := false
  password : Option (List Byte × List Byte) := none
  pwFails : Nat := 0
  /-- Ticks of lockout still to run in powered time, with the time they count from (R501). -/
  lockout : Option Nat := none
  log : List (List Byte) := []
  logCount : Nat := 0
  lastCycle : Option Nat := none
  /-- Cycles since the device signals of the mirror were last written, and what was written. -/
  mirrorAge : Nat := 0
  mirror : Kv Word := []
  lastBleat : Nat := 0
  /-- STO_A_n as read back in the last cycle. -/
  stoABack : BitVec 8 := 0xFF
  /-- Tahr's own memory and flash checks pass (R496). -/
  healthy : Bool := true
  deriving DecidableEq, Repr

/-- A state of the whole device holds STO on every channel (R484, R631, R657, R666). -/
def Tahr.held (t : Tahr) : Bool := t.unbound || t.retired || t.updating || t.testing

end Sys2Proof.Machine
end

