-- ==== Sys2Proof/Machine/State.lean ====
section
/-! DEFINITION. The state of the block: plain data, everything the spec gives the machine, and the queue of the commands that wait. State.reset is the part at the start of a cold start: registers at the reset values of their tables, device time not yet running. -/

namespace Sys2Proof.Machine

/-- Why a command stops the model. No rule of the spec stops the block, so no command raises a fault. -/
inductive Fault where
  /-- Raised by no command: it stands so that the type the host's interface asks for has a name to show; safe. -/
  | neverRaised
  deriving DecidableEq, Repr

/-- Why the model answers no meaning. -/
inductive Refusal where
  /-- Raised by an arm of exec whose command has no meaning yet: safe, nothing is claimed of it. -/
  | notModelled (mnemonic : String)
  deriving DecidableEq, Repr

/-- The state of the block. -/
structure State where
  /-- The commands that wait, first in, first out (the model's own). -/
  pending : List Instr
  /-- Which of the two parts this is (R1). -/
  part : Part
  /-- Device time in ticks, modulo 2^64 (R44). -/
  now : Nat
  /-- Counts the free values taken (the model's own). -/
  freeCtr : Nat
  /-- The register fields the host writes, by offset of the set-up window; an unlisted register reads as its reset word. -/
  regs : Kv Word
  /-- The register words of CTRL-A's window as the firmware has applied them to CTRL-B, by the same offsets (R690, R696). -/
  regsB : Kv Word
  /-- What has left the block or crossed to another party, oldest first (the model's own record). -/
  outs : List OutMsg
  /-- The die-to-die links DL_00 to DL_26 (R24 to R28). -/
  links : Vector D2dLink 27
  /-- Each die's copy of device time (R52). -/
  clocks : Vector DieClock 8
  /-- The time base (R42 to R50). -/
  tb : TimeBase
  /-- The armed timers of CTRL-A and CTRL-B (R57). -/
  timers : Vector (List Timer) 2
  /-- Requests raised by matched timers (R57). -/
  timerReqs : Vector (List TimerRequest) 2
  /-- DIE_FAULT_x and OC_TRIP_n (R31). -/
  wires : Wires
  /-- Carrier, frames and sync of each channel (02_time_base_and_frames.md). -/
  ch : Vector ChanTime 8
  /-- SYNC_OUT is high until this time (R81). -/
  syncOutEnd : Option Nat
  /-- The control dies CTRL-A and CTRL-B. -/
  ctrl : Vector CtrlDie 2
  /-- Verdicts on their way to CTRL-B (R444). -/
  verdicts : List Verdict
  /-- Descriptor effects on their way to CTRL-B over DL_11 (R21). -/
  forward : List Forwarded
  /-- The planner's readings and regulator of each control die. -/
  plan : Vector PlanDie 2
  /-- The planner's pending changes and swaps. -/
  planner : Planner
  /-- The device event queue (R679). -/
  ev : EventUnit
  /-- SETUP_LOCK and the global status (22_setup_registers.md). -/
  glb : GlobalUnit
  /-- Descriptors that have completed and wait for their completion entry, in the order of completion (R563). -/
  done : List Completion
  /-- Content of the calibration record as the firmware loaded it at the cold start (R269, R648); empty where none is in force. -/
  calibration : List Byte
  /-- The SENSE dies. -/
  sense : Vector SenseDie 2
  /-- Each channel's measurement groups under way. -/
  meas : Vector ChanSense 8
  /-- The sample buffers SMP_00 to SMP_63. -/
  smp : Vector SampleBuffer 64
  /-- Sample memory of CTRL-A, 2^19 words; the host reads this one (R23). -/
  sampleMem : Kv Word
  /-- Sample memory of CTRL-B (R23). -/
  sampleMemB : Kv Word
  /-- The position interfaces, compare units and emulators of the SENSE dies. -/
  pos : Vector PosDie 2
  /-- The modulators (10_modulation.md). -/
  mod : Vector Modulator 8
  /-- LINK's side of the Tolpel ports TP_00 to TP_47. -/
  ports : Vector TpPort 48
  /-- The gate arrays as LINK sees them, position p of CH_c at 6c + p. -/
  gates : Vector GatePos 48
  /-- The gate satellites, one to each port. -/
  sats : Vector Satellite 48
  /-- The protection units (12_protection_and_discharge.md). -/
  prot : Vector Protection 8
  /-- The orderly shutdown (R438). -/
  shut : Shutdown
  /-- Chamois (R477 to R481). -/
  chamois : Chamois
  /-- STO_B_n, ASC_REQ_n, ASC_n, AUX_OFF_B, BLEAT, and the stop wires as the modulators last saw them. -/
  sw : SafetyWires
  /-- Tahr (14_functional_safety.md). -/
  tahr : Tahr
  /-- The power ladder (18_power_ladder.md). -/
  pwr : Power
  /-- STORE and the records in force, the lifecycle and the service port (20_store_update_identity.md). -/
  store : Store
  /-- Lockstep comparison (13_lockstep.md). -/
  lock : Lock
  /-- The trace unit and its memory on CTRL-A (R115, R556). -/
  trace : TraceUnit
  /-- The trace unit and its memory on CTRL-B (R23). -/
  traceB : TraceUnit
  /-- The ring engine and the endpoint (16_host_rings.md). -/
  re : RingUnit
  /-- The CAN controllers (17_can.md). -/
  can : Vector CanCtl 4
  /-- Committed groups in the CAN blocks that LINK has been sent and has not taken yet, by the base of their block (R114, R587): their stamp and words. -/
  canSent : List (Nat × Nat × List Word)
  /-- AUX (15_aux_drives.md). -/
  aux : AuxUnit
  /-- Self-test and repair (19_self_test.md). -/
  st : SelfTest
  deriving DecidableEq, Repr

/-- The signal board at a cold start: zero, but for ch_n.i_factor, which reads 1.0 while no die is retired (R330; DEDUCED, assumption 97). -/
def coldBoard : Kv Word := (List.range 8).map (fun n => (0x101A + 0x1000 * n, 0x3F800000))

/-- The part at the start of a cold start. -/
def State.reset : State where
  pending := []
  part := .nb7808
  now := 0
  freeCtr := 0
  regs := []
  regsB := []
  outs := []
  links := Vector.replicate 27 {}
  clocks := Vector.replicate 8 {}
  tb := {}
  timers := Vector.replicate 2 []
  timerReqs := Vector.replicate 2 []
  wires := {}
  ch := Vector.replicate 8 {}
  syncOutEnd := none
  ctrl := Vector.replicate 2 { board := coldBoard }
  verdicts := []
  forward := []
  plan := Vector.replicate 2 {}
  planner := {}
  ev := {}
  glb := {}
  done := []
  calibration := []
  sense := Vector.replicate 2 {}
  meas := Vector.replicate 8 {}
  smp := Vector.replicate 64 {}
  sampleMem := []
  sampleMemB := []
  pos := Vector.replicate 2 {}
  mod := Vector.replicate 8 {}
  ports := Vector.replicate 48 {}
  gates := Vector.replicate 48 {}
  sats := Vector.replicate 48 {}
  prot := Vector.replicate 8 {}
  shut := {}
  chamois := {}
  sw := {}
  tahr := {}
  pwr := {}
  store := {}
  lock := {}
  trace := {}
  traceB := {}
  re := {}
  can := Vector.replicate 4 {}
  canSent := []
  aux := {}
  st := {}

end Sys2Proof.Machine
end

