-- ==== Sys2Proof/Machine/Ops.lean ====
section
/-! DEFINITION. The operations every meaning shares: raising events, sending, reading and writing registers, updating a channel or a control die, taking a free value. -/

namespace Sys2Proof

/-- Index of a control die in the state. -/
def CtrlId.ix : CtrlId → Fin 2
  | .a => 0
  | .b => 1

/-- A control die among the dies. -/
def CtrlId.die : CtrlId → Die
  | .a => .ctrlA
  | .b => .ctrlB

/-- The other control die. -/
def CtrlId.other : CtrlId → CtrlId
  | .a => .b
  | .b => .a

/-- Source code of a control die: 1 CTRL-A, 2 CTRL-B. -/
def CtrlId.code : CtrlId → Nat
  | .a => 1
  | .b => 2

/-- Index of a die. -/
def Die.ix : Die → Fin 8
  | .ctrlA => 0
  | .ctrlB => 1
  | .safe => 2
  | .sense0 => 3
  | .sense1 => 4
  | .link => 5
  | .aux => 6
  | .store => 7

/-- Number of a die in the set-up window map: 1 CTRL-A to 8 STORE (22_setup_registers.md). -/
def Die.code (d : Die) : Nat := d.ix.val + 1

end Sys2Proof

namespace Sys2Proof.Machine

/-- What a meaning answers. -/
abbrev Out := Host.Outcome State Fault Refusal

/-- Is the die in the part (R1)? -/
def State.hasDie (s : State) (d : Die) : Bool :=
  match s.part with
  | .nb7808 => true
  | .nb7806 => d != .sense1 && d != .aux

/-- The SENSE die that serves a channel (R10). -/
def senseOf (ch : Channel) : Fin 2 := if ch.val < 4 then 0 else 1

/-- The local index of a channel on its SENSE die. -/
def localOf (ch : Channel) : Fin 4 := ⟨ch.val % 4, Nat.mod_lt _ (by decide)⟩

/-- Does the part contain the channel (R1)? -/
def State.hasChannel (s : State) (ch : Channel) : Bool :=
  match s.part with
  | .nb7808 => true
  | .nb7806 => decide (ch.val < 4)

/-- Tolpel ports in use: TP_00 to TP_47, or TP_00 to TP_23 (R1). -/
def State.nPorts (s : State) : Nat :=
  match s.part with
  | .nb7808 => 48
  | .nb7806 => 24

/-- Raises an event with a given TIME (R57, R679). -/
def State.raiseAt (s : State) (time code source sev : Nat) (payload : List Word) : State :=
  { s with ev := { s.ev with
      raised := s.ev.raised ++ [(⟨time, code, source, sev, payload⟩, s.ev.nextOrder)]
      nextOrder := s.ev.nextOrder + 1 } }

/-- Raises an event at the present device time. -/
def State.raise (s : State) (code source sev : Nat) (payload : List Word) : State :=
  s.raiseAt s.now code source sev payload

/-- Raises a list of events. -/
def State.raiseAll (s : State) : List Event → State
  | [] => s
  | e :: es => (s.raiseAt e.time e.code e.source e.sev e.payload).raiseAll es

/-- Records something that leaves. -/
def State.emit (s : State) (m : OutMsg) : State := { s with outs := s.outs ++ [m] }

/-- Records several. -/
def State.emitAll (s : State) (ms : List OutMsg) : State := { s with outs := s.outs ++ ms }

/-- The stored word of the register at an offset. -/
def State.reg (s : State) (off : Nat) : Word := kvGet (regReset off) s.regs off

/-- Stores a register word. -/
def State.setReg (s : State) (off : Nat) (v : Word) : State :=
  { s with regs := kvSet (regReset off) s.regs off v }

/-- Bits [lo + width − 1 : lo] of the register at an offset. -/
def State.fld (s : State) (off lo width : Nat) : Nat := bitsAt (s.reg off) lo width

/-- The bits of a register word that its fields of one access type occupy. -/
def accessMask (off : Nat) (a : Access) : Word :=
  (regAt off).elim 0 (fun r => r.fields.foldl (fun m f => if f.access = a then putBits m f.lo f.width (2 ^ f.width - 1) else m) 0)

/-- The word of a register of CTRL-A's window as a control die holds it (R690, R696 step 3): the RWL fields of CTRL-B are those the firmware has applied. -/
def State.ctrlReg (s : State) (d : CtrlId) (off : Nat) : Word :=
  match d with
  | .a => s.reg off
  | .b =>
    let m := accessMask off .rwl
    kvGet (regReset off) s.regsB off &&& m ||| s.reg off &&& ~~~m

/-- The firmware applies the RWL values of CTRL-A to CTRL-B (R696 step 3). -/
def State.applyToB (s : State) : State := { s with regsB := s.regs.filter (fun w => decide (0x10000 ≤ w.1 ∧ w.1 < 0x20000)) }

/-- Updates one channel's carrier and frame state. -/
def State.modCh (s : State) (c : Channel) (f : ChanTime → ChanTime) : State :=
  { s with ch := vUpd s.ch c f }

/-- Updates one control die. -/
def State.modCtrl (s : State) (d : CtrlId) (f : CtrlDie → CtrlDie) : State :=
  { s with ctrl := vUpd s.ctrl d.ix f }

/-- The control die. -/
def State.die (s : State) (d : CtrlId) : CtrlDie := s.ctrl[d.ix]

/-- Updates the planner's record of one control die. -/
def State.modPlan (s : State) (d : CtrlId) (f : PlanDie → PlanDie) : State :=
  { s with plan := vUpd s.plan d.ix f }

/-- LAST_STEP on both dies (R240). -/
def State.setStep (s : State) (n : Nat) : State :=
  (s.modPlan .a (fun p => { p with lastStep := n })).modPlan .b (fun p => { p with lastStep := n })

/-- Takes a free value of w bits (assumption 5). -/
def State.fresh (s : State) (w : Nat) : BitVec w × State :=
  (Config.free w s.freeCtr, { s with freeCtr := s.freeCtr + 1 })

/-- Base of a channel's region of the board. -/
def chBase (ch : Channel) : Nat := 0x1000 + ch.val * 0x1000

/-- A number as a word. -/
def w32 (n : Nat) : Word := BitVec.ofNat 32 n

/-- An integer as an I32 word. -/
def i32 (v : Int) : Word := BitVec.ofInt 32 v

/-- Low and high words of a 64-bit time (R18). -/
def timeWords (t : Nat) : List Word := [w32 t, w32 (t / 2 ^ 32)]

/-- Has at least `gap` passed since the last time (at most one event per gap)? -/
def rateOk (last : Option Nat) (now gap : Nat) : Bool :=
  match last with
  | none => true
  | some t => decide (t + gap ≤ now)

end Sys2Proof.Machine
end

