-- ==== Sys2Proof/Machine/LinkBase.lean ====
section
/-! DEFINITION. The die-to-die links as their senders see them (01_dies_and_paths.md, R24 to R28): which link leads where, the replay buffer, and the flits of a message. -/

namespace Sys2Proof.Machine

/-- The link from one die to another (R28's table). -/
def linkOf (src dst : Die) : Option (Fin 27) :=
  match src, dst with
  | .sense0, .ctrlA => some 0
  | .sense0, .ctrlB => some 1
  | .sense1, .ctrlA => some 2
  | .sense1, .ctrlB => some 3
  | .ctrlA, .sense0 => some 4
  | .ctrlA, .sense1 => some 5
  | .sense0, .safe => some 6
  | .sense1, .safe => some 7
  | .ctrlA, .link => some 8
  | .link, .ctrlA => some 9
  | .link, .ctrlB => some 10
  | .ctrlA, .ctrlB => some 11
  | .ctrlA, .safe => some 12
  | .ctrlB, .safe => some 13
  | .safe, .ctrlA => some 14
  | .safe, .ctrlB => some 15
  | .ctrlA, .aux => some 16
  | .aux, .ctrlA => some 17
  | .aux, .ctrlB => some 18
  | .ctrlA, .store => some 19
  | .store, .ctrlA => some 20
  | .ctrlB, .store => some 21
  | .store, .ctrlB => some 22
  | .safe, .store => some 23
  | .store, .safe => some 24
  | .link, .safe => some 25
  | .safe, .link => some 26
  | _, _ => none

/-- The links the NB-7806 does not have (R28). -/
def State.hasLink (s : State) (l : Fin 27) : Bool :=
  s.part == .nb7808 || !([2, 3, 5, 7, 16, 17, 18].contains l.val)

/-- Does what a die sends to another reach it: the two are one die, or the link between them stands and has not failed (R26)? -/
def State.linkUp (s : State) (src dst : Die) : Bool :=
  src == dst || (linkOf src dst).any (fun l => s.hasLink l && !s.links[l].failed)

/-- A request of CTRL-A reaches Tahr over DL_12 and its answer comes over DL_14; one that writes kind 6 needs DL_23 and DL_24 as well (R28, R29, R33). -/
def State.tahrReached (s : State) (writes : Bool) : Bool :=
  s.linkUp .ctrlA .safe && s.linkUp .safe .ctrlA && (!writes || (s.linkUp .safe .store && s.linkUp .store .safe))

/-- Updates a link. -/
def State.modLink (s : State) (l : Fin 27) (f : D2dLink → D2dLink) : State := { s with links := vUpd s.links l f }

/-- Sends a flit (R25): into the replay buffer and onto the link, or behind those that wait while the buffer holds 16. -/
def State.sendFlit (s : State) (l : Fin 27) (type len : Nat) (payload : BitVec 96) : State :=
  let k := s.links[l]
  if k.failed || !s.hasLink l then s
  else if 16 ≤ k.replay.length then s.modLink l (fun k => { k with waiting := k.waiting ++ [(type, len, payload)] })
  else (s.modLink l (fun k => { k with
      replay := k.replay ++ [⟨k.txSeq, type, len, payload, s.now, 0⟩]
      txSeq := (k.txSeq + 1) % 16 })).emit (.flit l.val k.txSeq payload)

/-- Flits that waited leave as far as the replay buffer has room. -/
def State.sendWaiting (s : State) (l : Fin 27) : State :=
  let k := s.links[l]
  let n := 16 - k.replay.length
  (k.waiting.take n).foldl (fun s f => s.sendFlit l f.1 f.2.1 f.2.2) (s.modLink l (fun k => { k with waiting := k.waiting.drop n }))

/-- The words of a message, three to a flit. -/
def flitChunks : List Nat → List (List Nat)
  | a :: b :: c :: ws => [a, b, c] :: flitChunks ws
  | [] => []
  | ws => [ws]

/-- The payload of one flit: its words, the first at the top. -/
def flitPayload (ws : List Nat) : BitVec 96 :=
  BitVec.ofNat 96 (w32 (ws.getD 0 0)).toNat <<< 64 ||| BitVec.ofNat 96 (w32 (ws.getD 1 0)).toNat <<< 32 |||
    BitVec.ofNat 96 (w32 (ws.getD 2 0)).toNat

/-- Sends the words of a message from one die to another as flits of its kind (assumption 10). -/
def State.sendWords (s : State) (src dst : Die) (kind : String) (ws : List Nat) : State :=
  match linkOf src dst with
  | none => s
  | some l => (flitChunks ws).foldl (fun s c => s.sendFlit l (Config.flitType kind).toNat (4 * c.length) (flitPayload c)) s

/-- A message of a named kind from one die to another: it is lost where the link has failed (R26, R32). -/
def State.sendDie (s : State) (src dst : Die) (kind : String) (ws : List Nat) : State :=
  if s.linkUp src dst then (s.sendWords src dst kind ws).emit (.die src dst kind ws) else s

/-- The die that owner code n of the directory names as a hardware writer (R97): SAFE, SENSE, LINK with CAN, AUX; the control die itself writes as device firmware. -/
def ownerDie (owner : Nat) : Option Die :=
  if owner = 0x0002 then some .safe
  else if owner = 0x0003 then some .sense0
  else if owner = 0x0004 then some .sense1
  else if owner = 0x0005 then some .link
  else if owner = 0x0006 then some .aux
  else if decide (0x10 ≤ owner ∧ owner ≤ 0x13) then some .link
  else none

end Sys2Proof.Machine
end

