-- ==== Sys2Proof/Machine/Board.lean ====
section
/-! DEFINITION. The signal board and its directory (03_signal_board.md): reads, latches, commits, claims, scrubbing. -/

namespace Sys2Proof.Machine

/-- Does the entry cover the signal address? -/
def DirEntry.covers (e : DirEntry) (a : Nat) : Bool := decide (e.base ≤ a ∧ a < e.base + e.len)

/-- The entry that holds a signal (R94); pending claims hold nothing. -/
def CtrlDie.entryOf (d : CtrlDie) (a : Nat) : Option DirEntry :=
  d.dir.find? (fun e => !e.pending && e.covers a)

/-- The coherent group a signal lies in. -/
def CtrlDie.groupOf (d : CtrlDie) (a : Nat) : Option DirEntry :=
  d.dir.find? (fun e => !e.pending && e.group && e.covers a)

/-- The stamp of the group that begins at `base` (R105). -/
def CtrlDie.stampOf (d : CtrlDie) (base : Nat) : Option Nat :=
  if kvHas d.stamps base then some (kvGet 0 d.stamps base) else none

/-- Is the group of the signal fresh against a reference instant (R107)? -/
def CtrlDie.freshFor (d : CtrlDie) (a ref : Nat) : Bool :=
  match d.groupOf a with
  | none => true
  | some g => match d.stampOf g.base with
    | none => false
    | some t => decide (ref ≤ t)

/-- What one access of a word finds in its codeword (R118, R119): a single wrong bit is corrected; more poison the word, whose codeword stays wrong until its owner's next commit. -/
def CtrlDie.ecc (d : CtrlDie) (die : CtrlId) (now a : Nat) : CtrlDie × List Event :=
  let mask := kvGet 0 d.eccBad a
  if mask = 0 then (d, [])
  else if mask = 2 ^ Nat.log2 mask then
    let d1 := { d with eccBad := kvSet 0 d.eccBad a 0, eccCorr := holdInc 0xFFFFFFFF d.eccCorr }
    if rateOk d.lastCorrEvent now sTicks then
      ({ d1 with lastCorrEvent := some now }, [⟨now, 0x0113, die.code, 3, [w32 a, w32 (Nat.log2 mask)]⟩])
    else (d1, [])
  else
    ({ d with poisoned := if d.poisoned.contains a then d.poisoned else d.poisoned ++ [a],
              eccUncorr := holdInc 255 d.eccUncorr, eccLast := a },
     [⟨now, 0x0114, die.code, 12, [w32 a]⟩])

/-- The word a read returns: 0 where no entry covers the signal (R95). -/
def CtrlDie.value (d : CtrlDie) (a : Nat) : Word :=
  match d.entryOf a with
  | none => 0
  | some _ => kvGet 0 d.board a

/-- One read by an owner: ECC, then the first read of an unassigned signal raises its event (R95, R118, R119). -/
def CtrlDie.read (d : CtrlDie) (die : CtrlId) (now owner a : Nat) : Word × CtrlDie × List Event :=
  let (d1, ev) := d.ecc die now a
  match d1.entryOf a with
  | some _ => (kvGet 0 d1.board a, d1, ev)
  | none =>
    if d1.unassignedReaders.contains owner then (0, d1, ev)
    else (0, { d1 with unassignedReaders := d1.unassignedReaders ++ [owner] },
          ev ++ [⟨now, 0x0112, owner, 2, [w32 a]⟩])

/-- Reads a run of signals in address order. -/
def CtrlDie.readMany (d : CtrlDie) (die : CtrlId) (now owner : Nat) : List Nat → List Word × CtrlDie × List Event
  | [] => ([], d, [])
  | a :: as =>
    let (v, d1, e1) := d.read die now owner a
    let (vs, d2, e2) := d1.readMany die now owner as
    (v :: vs, d2, e1 ++ e2)

/-- How the writes of a commit end. -/
structure CommitRes where
  die : CtrlDie
  events : List Event
  /-- A value was refused under R112. -/
  nfr : Bool
  /-- Writes that reached the board. -/
  written : Kv Word

/-- Refuses a write by a non-owner (R100): the event at most once per millisecond per writer. -/
def CommitRes.refuse (r : CommitRes) (now owner a : Nat) (entryOwner : Word) : CommitRes :=
  let last := if kvHas r.die.lastRefused owner then some (kvGet 0 r.die.lastRefused owner) else none
  if rateOk last now msTicks then
    { r with die := { r.die with lastRefused := kvPut r.die.lastRefused owner now },
             events := r.events ++ [⟨now, 0x0110, owner, 5, [w32 a, entryOwner]⟩] }
  else r

/-- One write of a commit (R100, R105, R112): an unassigned signal has no owner code to report, which is open (assumption 11); by the entry's owner it is written unless it would put a NaN or an infinity on an actuator-bound signal; the group's stamp advances either way. -/
def CommitRes.write (r : CommitRes) (now owner stamp a : Nat) (v : Word) : CommitRes :=
  match r.die.entryOf a with
  | none => r.refuse now owner a (Config.noOwnerCode a)
  | some e =>
    if e.owner ≠ owner then r.refuse now owner a (w32 e.owner)
    else
      let d1 := if e.group then { r.die with stamps := kvPut r.die.stamps e.base stamp } else r.die
      if e.act && f32NonFinite v then
        { r with die := d1, nfr := true, events := r.events ++ [⟨now, 0x0111, owner, 7, [w32 a, v]⟩] }
      else
        { r with die := { d1 with board := kvSet 0 d1.board a v, eccBad := kvSet 0 d1.eccBad a 0,
                                  poisoned := d1.poisoned.filter (· != a) },
                 written := r.written ++ [(a, v)] }

/-- The groups of which a writer's commit replaces the present one, each once. -/
def CtrlDie.replaced (d : CtrlDie) (owner : Nat) (writes : Kv Word) : List PastCommit :=
  writes.foldl (fun ps w =>
    match d.groupOf w.1 with
    | none => ps
    | some g =>
      if g.owner != owner || ps.any (fun p => p.base == g.base) then ps
      else match d.stampOf g.base with
        | none => ps
        | some t => ps ++ [⟨g.base, t, (List.range g.len).map (fun i => kvGet 0 d.board (g.base + i))⟩]) []

/-- Ticks for which a replaced commit is kept: two of the longest frames. -/
def pastTicks : Nat := 2 ^ 19

/-- A commit of one writer, its signals in ascending address order (R103, R104); what it replaces is kept for R139. -/
def CtrlDie.commit (d : CtrlDie) (now owner stamp : Nat) (writes : Kv Word) : CommitRes :=
  let d1 := { d with past := (d.past ++ d.replaced owner writes).filter (fun p => decide (now ≤ p.stamp + pastTicks)) }
  writes.foldl (fun r w => r.write now owner stamp w.1 w.2) ⟨d1, [], false, []⟩

/-- Capture stops (R556). -/
def State.stopTrace (s : State) (reason : Nat) : State :=
  ({ s with trace := { s.trace with active := false } } : State).raise 0x9007 1 3 [w32 s.trace.records.length, w32 reason]

/-- The trigger condition of R556, judged on every commit of its signal. -/
def TraceUnit.judge (t : TraceUnit) (a : Nat) (v : Word) : TraceUnit :=
  match t.trig, t.left with
  | some g, none => if g.sig = a ∧ v &&& g.mask = g.value &&& g.mask then { t with left := some g.after } else t
  | _, _ => t

/-- One record enters trace memory. -/
def TraceUnit.record (t : TraceUnit) (time a : Nat) (v : Word) : TraceUnit :=
  let drop := decide (t.capacity ≤ t.records.length)
  { t with
    records := (if drop then t.records.drop 1 else t.records) ++ [(time, a, v)]
    read := if drop then t.read - 1 else t.read
    lost := t.lost || (drop && t.read == 0)
    left := t.left.map (· - 1) }

/-- An active trace unit takes one committed signal of a die (R115, R556), with the reason where capture stops. -/
def TraceUnit.take (t : TraceUnit) (d : CtrlDie) (now stamp : Nat) (w : Nat × Word) : TraceUnit × Option Nat :=
  let time := if (d.groupOf w.1).isSome then stamp else now
  let t1 := (if t.taps.contains w.1 then t.record time w.1 w.2 else t).judge w.1 w.2
  (t1, if t1.left = some 0 then some 1 else if !t1.wrap && decide (t1.capacity ≤ t1.records.length) then some 0 else none)

/-- One committed signal as CTRL-A's trace unit sees it. -/
def State.traceOne (s : State) (stamp : Nat) (w : Nat × Word) : State :=
  if s.trace.active then
    let t := s.trace.take (s.die .a) s.now stamp w
    let s1 : State := { s with trace := t.1 }
    match t.2 with
    | some reason => s1.stopTrace reason
    | none => s1
  else s

/-- One committed signal as CTRL-B's trace unit sees it (R23): it fills alike and raises nothing. -/
def State.traceOneB (s : State) (stamp : Nat) (w : Nat × Word) : State :=
  if s.traceB.active then
    let t := s.traceB.take (s.die .b) s.now stamp w
    { s with traceB := if t.2.isSome then { t.1 with active := false } else t.1 }
  else s

/-- The signal as CTRL-A's board holds it. -/
def State.sig (s : State) (a : Nat) : Word := (s.die .a).value a

/-- SAFE takes the commanded torque and speed of a channel from a commit of ch_n.ds.iref, over DL_12 (R33, R114, R329). -/
def State.sendCommand (s : State) (c : Channel) : State :=
  let t := s.sig (chBase c + 0x60)
  let w := s.sig (chBase c + 0x61)
  if s.linkUp .ctrlA .safe then
    ({ s with tahr := { s.tahr with ch := vUpd s.tahr.ch c (fun x => { x with
      irefAt := some s.now
      cmdTorque := t
      cmdSpeed := w }) } } : State).sendDie .ctrlA .safe "command" [c.val, t.toNat, w.toNat]
  else s

/-- LINK is sent the committed words of a transmit group, over DL_08; a newer commit replaces one it has not taken (R114, R587). -/
def State.sendCanBlock (s : State) (stamp base : Nat) : State :=
  let ws := (List.range 20).map (fun i => s.sig (base + i))
  if s.linkUp .ctrlA .link && ((s.die .a).groupOf base).isSome then
    ({ s with canSent := s.canSent.filter (fun p => p.1 != base) ++ [(base, stamp, ws)] } : State).sendDie .ctrlA .link "transmit" (base :: ws.map (fun w => w.toNat))
  else s

/-- The SENSE die of a channel is sent a commit of ch_n.adc_req, over DL_04 or DL_05 (R114, R259). -/
def State.sendAdcRequest (s : State) (c : Channel) : State :=
  let w := s.sig (chBase c + 0x30)
  let die : Die := if c.val < 4 then .sense0 else .sense1
  if s.linkUp .ctrlA die then
    ({ s with meas := vUpd s.meas c (fun m => { m with requests := m.requests ++ [w] }) } : State).sendDie .ctrlA die "adc_req" [c.val, w.toNat]
  else s

/-- TYPE: 1 DC, 2 BLDC, 3 stepper (R505). -/
def State.slotType (s : State) (n : AuxSlot) : Nat := s.fld (Reg.slotCfg n.val) 29 2
/-- The slot is enabled, no check has disabled it (R532), and AUX is powered (R601). -/
def State.slotOn (s : State) (n : AuxSlot) : Bool :=
  s.glb.checked && bitAt (s.reg (Reg.slotCfg n.val)) 31 && s.slotType n != 0 && !s.glb.slotsDisabled.getLsbD n.val && decide (s.pwr.rung ≤ 2)
/-- First signal of the slot's block (R515). -/
def slotSignals (n : AuxSlot) : Nat := 0xF000 + 0x100 * n.val

/-- AUX is sent a commit of aux_s.cmd of an enabled slot, over DL_16 (R114, R515). -/
def State.sendSlotCommand (s : State) (stamp : Nat) (n : AuxSlot) : State :=
  let a := slotSignals n
  let ws := (List.range 6).map (fun i => s.sig (a + i))
  if s.slotOn n && s.hasDie .aux && s.linkUp .ctrlA .aux && ((s.die .a).groupOf a).isSome then
    ({ s with aux := { s.aux with slots := vUpd s.aux.slots n (fun x => { x with inbox := x.inbox ++ [(stamp, ws)] }) } } : State).sendDie .ctrlA .aux
      "slot_cmd" (n.val :: ws.map (fun w => w.toNat))
  else s

/-- LINK is sent a commit of ch_n.meas, over DL_08 (R114, R358). -/
def State.sendMeas (s : State) (stamp : Nat) (c : Channel) : State :=
  let ws := (List.range 8).map (fun i => s.sig (chBase c + 0x20 + i))
  if s.linkUp .ctrlA .link then
    ({ s with mod := vUpd s.mod c (fun m => { m with
      iMeas := Vector.ofFn (fun l => ws.getD l.val 0)
      iValid := bitAt (ws.getD 7 0) 7
      iStamp := some stamp }) } : State).sendDie .ctrlA .link "meas" (c.val :: ws.map (fun w => w.toNat))
  else s

/-- CTRL-A sends what a commit has written to the consumers that subscribe to it (R114). The voltage reference sets go to the modulator with the run's commit (R142). -/
def State.sendSubscribed (s : State) (stamp : Nat) (ws : Kv Word) : State :=
  let asks := (idxs 8).filter (fun c => ws.any (fun w => w.1 == chBase c + 0x30))
  let drives := (idxs 8).filter (fun c => ws.any (fun w => w.1 == chBase c + 0x60 || w.1 == chBase c + 0x61))
  let blocks := ((ws.filter (fun w => decide (0x18000 ≤ w.1 ∧ w.1 < 0x1C000 ∧ w.1 % 32 < 20))).map (fun w => w.1 / 32 * 32)).eraseDups
  let s1 := asks.foldl (fun s c => s.sendAdcRequest c) (drives.foldl (fun s c => s.sendCommand c) s)
  let slots := (idxs 16).filter (fun n => ws.any (fun w => decide (slotSignals n ≤ w.1 ∧ w.1 < slotSignals n + 6)))
  let meas := (idxs 8).filter (fun c => ws.any (fun w => decide (chBase c + 0x20 ≤ w.1 ∧ w.1 < chBase c + 0x28)))
  let s2 := meas.foldl (fun s c => s.sendMeas stamp c) s1
  slots.foldl (fun s n => s.sendSlotCommand stamp n) (blocks.foldl (fun s b => s.sendCanBlock stamp b) s2)

/-- What a commit of a control die causes: its trace unit sees it, and CTRL-A sends it to its subscribers (R114, R115). -/
def State.traceCommit (s : State) (d : CtrlId) (stamp : Nat) (ws : Kv Word) : State :=
  match d with
  | .a => (ws.foldl (fun s w => s.traceOne stamp w) s).sendSubscribed stamp ws
  | .b => ws.foldl (fun s w => s.traceOneB stamp w) s

/-- The events of one die's accesses as the device raises them: the first read of an unassigned signal by an owner is one event for both dies (R95). -/
def State.raiseFor (s : State) (d : CtrlId) (ev : List Event) : State :=
  s.raiseAll (ev.filter (fun e => e.code != 0x0112 || !(s.die d.other).unassignedReaders.contains e.source))

/-- A delivery of a hardware die, or a write of firmware, reaches one control die unless the link to it has failed (R26, R28). -/
def State.reaches (s : State) (owner : Nat) (d : CtrlId) : Bool :=
  match ownerDie owner with
  | none => true
  | some src => s.linkUp src (if d = .a then .ctrlA else .ctrlB)

/-- The flits of a delivery to both control dies (R28). -/
def State.sendDelivery (s : State) (owner stamp : Nat) (writes : Kv Word) : State :=
  match ownerDie owner with
  | none => s
  | some src =>
    let ws := stamp :: writes.flatMap (fun w => [w.1, w.2.toNat])
    (s.sendWords src .ctrlA "signals" ws).sendWords src .ctrlB "signals" ws

/-- A commit by a hardware die or by firmware that reaches both control dies (R28, R92); its events are raised once, from CTRL-A. -/
def State.hwCommit (s : State) (owner stamp : Nat) (writes : Kv Word) : State :=
  let one := fun (s : State) (d : CtrlId) =>
    if s.reaches owner d then
      let r := (s.die d).commit s.now owner stamp writes
      let s1 := s.modCtrl d (fun _ => r.die)
      (if d = .a then s1.raiseAll r.events else s1).traceCommit d stamp r.written
    else s
  one (one (s.sendDelivery owner stamp writes) .a) .b

/-- Two entries alike in BASE, LENGTH, TYPE and flags (R98). -/
def DirEntry.identical (e f : DirEntry) : Bool :=
  e.base == f.base && e.len == f.len && e.type == f.type && e.hostR == f.hostR && e.trace == f.trace
    && e.act == f.act && e.group == f.group

/-- Do two entries share a signal? -/
def DirEntry.overlaps (e f : DirEntry) : Bool :=
  decide (e.base < f.base + f.len) && decide (f.base < e.base + e.len)

/-- Adding one image entry (R98): the new directory, or none on a forbidden overlap. -/
def addEntry (dir : List DirEntry) (slot : Nat) (e : DirEntry) : Option (List DirEntry) :=
  let hits := dir.filter (fun f => f.overlaps e)
  if hits.isEmpty then some (dir ++ [{ e with sharers := if e.owner = 0x200 then [slot] else [] }])
  else if e.owner = 0x200 then
    if hits.all (fun f => f.identical e && f.owner == 0x200 && !f.pending) then
      some (dir.map (fun f => if f.identical e && f.owner == 0x200 then { f with sharers := f.sharers ++ [slot] } else f))
    else none
  else if hits.all (fun f => f.identical e && decide (0x100 ≤ f.owner ∧ f.owner ≤ 0x17F) && f.owner != e.owner) then
    some (dir ++ [{ e with pending := true }])
  else none

/-- Adding an image's entries as one step (R98). -/
def addEntries (dir : List DirEntry) (slot : Nat) : List DirEntry → Option (List DirEntry)
  | [] => some dir
  | e :: es => match addEntry dir slot e with
    | none => none
    | some dir' => addEntries dir' slot es

/-- The directory without the entries and pending claims of a program (R99); the host entries it declares stay while it is resident (R98). -/
def dropOwn (dir : List DirEntry) (slot : Nat) : List DirEntry := dir.filter (fun e => e.owner != 0x100 + slot)

/-- The directory after a program has left its slot (R98, R99): its entries and its pending claims go, and host entries nobody declares. -/
def dropProgram (dir : List DirEntry) (slot : Nat) : List DirEntry :=
  (dropOwn dir slot).filterMap (fun e =>
    if e.owner = 0x200 then
      let sh := e.sharers.filter (· != slot)
      if sh.isEmpty && !e.firmware && e.sharers.contains slot then none else some { e with sharers := sh }
    else some e)

/-- The pending claims of a program take effect at its start (R99): it holds the entry and the former holder's entry goes; a LOADED former holder keeps an identical claim of its own. -/
def takeClaims (dir : List DirEntry) (slot : Nat) (isLoaded : Nat → Bool) : List DirEntry :=
  let mine := 0x100 + slot
  let claims := dir.filter (fun e => e.pending && e.owner == mine)
  dir.filterMap (fun e =>
    if e.pending then (if e.owner = mine then some { e with pending := false } else some e)
    else if claims.any (fun c => c.identical e) && e.owner != mine then
      (if isLoaded (e.owner - 0x100) then some { e with pending := true } else none)
    else some e)

/-- SB_DIR_STATUS (03_signal_board.md). -/
def CtrlDie.dirStatus (d : CtrlDie) : Word :=
  packFields [(16, d.dir.length), (0, (d.dir.filter (fun e => e.group && !e.pending)).length)]

/-- SB_ECC_UNCORR. -/
def CtrlDie.eccUncorrReg (d : CtrlDie) : Word := packFields [(24, d.eccUncorr), (0, d.eccLast)]

/-- Bit upsets enter words of the board (assumption 12). -/
def CtrlDie.upset (d : CtrlDie) (upsets : List (Nat × Nat)) : CtrlDie :=
  { d with eccBad := upsets.foldl (fun m u => kvSet 0 m (u.1 % 2 ^ 18) (kvGet 0 m (u.1 % 2 ^ 18) ^^^ (u.2 % 2 ^ 39))) d.eccBad }

/-- SB_SCRUB as it is in effect on a control die: its reset value until SETUP_LOCK (R695). -/
def State.scrubWord (s : State) (die : CtrlId) : Word :=
  if s.glb.locked then s.ctrlReg die Reg.sbScrub else regReset Reg.sbScrub

/-- SCRUB (R120): upsets since the last access enter the memory, then the scrubber reads its next word while SB_SCRUB.EN is 1; the first word of a pass comes PERIOD_MS after that of the pass before. -/
def execScrub (die : CtrlId) (upsets : List (Nat × Nat)) (s : State) : Out :=
  let d1 := (s.die die).upset upsets
  let period := bitsAt (s.scrubWord die) 0 16 * msTicks
  let turn := d1.scrubAt ≠ 0 || rateOk d1.scrubPass s.now period
  if bitAt (s.scrubWord die) 31 && turn then
    let r := d1.ecc die s.now d1.scrubAt
    .next ((s.modCtrl die (fun _ => { r.1 with
      scrubAt := (d1.scrubAt + 1) % 2 ^ 18
      scrubPass := if d1.scrubAt = 0 then some s.now else d1.scrubPass })).raiseAll r.2)
  else .next (s.modCtrl die (fun _ => d1))

end Sys2Proof.Machine
end

