-- ==== Sys2Proof/Machine/Engine.lean ====
section
/-! DEFINITION. The Oryx engines (04_oryx_engines.md): runs, the instruction word, failing and discarding a run, and the shared forms of the instructions. -/

namespace Sys2Proof.Machine

/-- Fields of the instruction word (R146). -/
def opOf (w : Dword) : Nat := w.toNat / 2 ^ 56
/-- Destination field D. -/
def fD (w : Dword) : BitVec 6 := w.extractLsb' 50 6
/-- Source field A. -/
def fA (w : Dword) : BitVec 6 := w.extractLsb' 44 6
/-- Source field B. -/
def fB (w : Dword) : BitVec 6 := w.extractLsb' 38 6
/-- Source field C, or MOD. -/
def fC (w : Dword) : BitVec 6 := w.extractLsb' 32 6
/-- IMM. -/
def fImm (w : Dword) : Word := w.extractLsb' 0 32
/-- MOD bit 32: IMM or IX (R148). -/
def fI (w : Dword) : Bool := w.getLsbD 32
/-- COUNT of a vector signal form (R149). -/
def fCount (w : Dword) : Nat := bitsAt (fImm w) 18 6 + 1

/-- The instruction word of these fields (R146). -/
def encodeWord (op d a b c : Nat) (imm : Word) : Dword :=
  BitVec.ofNat 64 (op * 2 ^ 56 + d % 64 * 2 ^ 50 + a % 64 * 2 ^ 44 + b % 64 * 2 ^ 38 + c % 64 * 2 ^ 32 + imm.toNat)

/-- Reads g register n. -/
def Run.reg (r : Run) (n : BitVec 6) : Word := r.g[n.toNat]'n.isLt

/-- Writes g register n. -/
def Run.setReg (r : Run) (n : BitVec 6) (v : Word) : Run := { r with g := r.g.set n.toNat v n.isLt }

/-- Reads scratch register n. -/
def Run.xreg (r : Run) (n : BitVec 6) : Word := r.x[n.toNat % 8]'(Nat.mod_lt _ (by decide))

/-- Writes scratch register n. -/
def Run.setX (r : Run) (n : BitVec 6) (v : Word) : Run :=
  { r with x := r.x.set (n.toNat % 8) v (Nat.mod_lt _ (by decide)) }

/-- On to the next instruction. -/
def Run.step (r : Run) : Run := { r with pc := r.pc + 1 }

/-- A jump by a signed displacement from the next instruction (R151). -/
def Run.jump (r : Run) (disp : Word) : Run := { r with pc := ((r.pc : Int) + 1 + disp.toInt).toNat }

/-- Operand B of the two-operand forms written "gB|imm" (R148). -/
def Run.opB (r : Run) (w : Dword) : Word := if fI w then fImm w else r.reg (fB w)

/-- Writes a result to gD, ORs the flags into the sticky set (R185) and goes on. -/
def Run.put (r : Run) (w : Dword) (res : FRes) : Run :=
  { (r.setReg (fD w) res.val).step with flags := r.flags ||| res.fl }

/-- EA of a signal form (R149). -/
def Run.ea (r : Run) (w : Dword) : Nat :=
  ((fImm w).toNat % 2 ^ 18 + if fI w then (r.reg (fB w)).toNat else 0) % 2 ^ 18

/-- The engine. -/
def State.engine (s : State) (d : CtrlId) (e : EngineNo) : Engine := (s.die d).engines[e]

/-- The slot of a control die. -/
def State.slotOf (s : State) (d : CtrlId) (c : SlotCode) : Slot := (s.die d).slots[c]

/-- Updates an engine. -/
def State.modEngine (s : State) (d : CtrlId) (e : EngineNo) (f : Engine → Engine) : State :=
  s.modCtrl d (fun c => { c with engines := vUpd c.engines e f })

/-- Updates a slot. -/
def State.modSlot (s : State) (d : CtrlId) (c : SlotCode) (f : Slot → Slot) : State :=
  s.modCtrl d (fun x => { x with slots := vUpd x.slots c f })

/-- Replaces the run in progress on an engine. -/
def State.setRun (s : State) (d : CtrlId) (e : EngineNo) (r : Run) : State :=
  s.modEngine d e (fun g => { g with run := some r })

/-- Address in program memory of instruction i of a slot (R126). -/
def progAddr (c : SlotCode) (place i : Nat) : Nat := c.val / 64 * 131072 + place + i

/-- The instruction word a run stands on. -/
def State.instrAt (s : State) (d : CtrlId) (r : Run) : Dword :=
  kvGet 0 (s.die d).prog (progAddr r.slot (s.slotOf d r.slot).place r.pc)

/-- Runs k on the run of an engine that is RUNNING and stands on an instruction of this opcode; otherwise the command finds nothing to execute (assumption 2). What the programs of the Drive Set do between their start and their FEND stands in FEND (assumption 28). -/
def State.onInstr (s : State) (d : CtrlId) (e : EngineNo) (op : Nat) (k : Run → Dword → State) : State :=
  match (s.engine d e).phase, (s.engine d e).run with
  | .running, some r => if opOf (s.instrAt d r) = op ∧ (s.slotOf d r.slot).ds = 0 then k r (s.instrAt d r) else s
  | _, _ => s

/-- An instruction that only changes its run. -/
def State.onRun (s : State) (d : CtrlId) (e : EngineNo) (op : Nat) (k : Run → Dword → Run) : State :=
  s.onInstr d e op (fun r w => s.setRun d e (k r w))

/-- The forms gD, gA, gB|imm. -/
def State.alu2 (s : State) (d : CtrlId) (e : EngineNo) (op : Nat) (f : Word → Word → FRes) : State :=
  s.onRun d e op (fun r w => r.put w (f (r.reg (fA w)) (r.opB w)))

/-- The forms gD, gA. -/
def State.alu1 (s : State) (d : CtrlId) (e : EngineNo) (op : Nat) (f : Word → FRes) : State :=
  s.onRun d e op (fun r w => r.put w (f (r.reg (fA w))))

/-- The forms gD, gA, gB, gC. -/
def State.alu3 (s : State) (d : CtrlId) (e : EngineNo) (op : Nat) (f : Word → Word → Word → FRes) : State :=
  s.onRun d e op (fun r w => r.put w (f (r.reg (fA w)) (r.reg (fB w)) (r.reg (fC w))))

/-- One fold of the lane's MISR (R447). -/
def misrFold (sig d : Dword) : Dword :=
  (sig <<< 1) ^^^ (if sig.getLsbD 63 then 0xB000000000000001 else 0) ^^^ d

/-- The seed of every signature (R447). -/
def misrSeed : Dword := 0xFFFFFFFFFFFFFFFF

/-- The 64-bit word of a signal write (R449). -/
def sigWrite (a : Nat) (v : Word) : Dword := BitVec.ofNat 64 (0x1 * 2 ^ 60 + a % 2 ^ 18 * 2 ^ 32 + v.toNat)

/-- The run record (R449). -/
def runRecord (outcome slot : Nat) (flags : BitVec 8) (frame : Nat) : Dword :=
  BitVec.ofNat 64 (0x3 * 2 ^ 60 + outcome * 2 ^ 56 + slot * 2 ^ 48 + flags.toNat * 2 ^ 32 + frame % 2 ^ 32)

/-- The two words of a flit (R449). -/
def flitWords (link type len : Nat) (payload : BitVec 96) : List Dword :=
  [BitVec.ofNat 64 (0x2 * 2 ^ 60 + link * 2 ^ 52 + type * 2 ^ 48 + len * 2 ^ 44 + payload.toNat / 2 ^ 64),
   BitVec.ofNat 64 (payload.toNat % 2 ^ 64)]

/-- The flits a commit causes toward SENSE, LINK and AUX (R448): their layout is internal to the package and not given, a free function of what was written (assumption 10). -/
def commitFlits (writes : Kv Word) : List (Nat × Nat × Nat × BitVec 96) :=
  (Config.flits (writes.map (fun w => (w.1, w.2)))).map
    (fun f => ([4, 5, 8, 16].getD (f.1.toNat % 4) 8, f.2.1.toNat, f.2.2.1.toNat % 13, f.2.2.2))

/-- CTRL-A sends the flits a commit causes over its own links (R19). -/
def State.sendFlits (s : State) (fs : List (Nat × Nat × Nat × BitVec 96)) : State :=
  fs.foldl (fun s f => s.sendFlit (finOf 26 f.1) f.2.1 f.2.2.1 f.2.2.2) s

/-- The run signature (R448). -/
def runSig (writes : Kv Word) (flits : List (Nat × Nat × Nat × BitVec 96)) (record : Dword) : Dword :=
  let s1 := writes.foldl (fun s w => misrFold s (sigWrite w.1 w.2)) misrSeed
  let s2 := flits.foldl (fun s f => (flitWords f.1 f.2.1 f.2.2.1 f.2.2.2).foldl misrFold s) s1
  misrFold s2 record

/-- Files the outcome of a run on a die for its lane's window (R446, R454). -/
def State.fileOutcome (s : State) (d : CtrlId) (e : EngineNo) (slot : Nat) (ch : Channel) (frame ref outcome : Nat) (sig : Dword) : State :=
  s.modCtrl d (fun c => { c with outcomes := c.outcomes ++ [⟨e, slot, ch, frame, ref, outcome, sig⟩] })

/-- Frees an engine (R144): the run and its loop counters are gone. -/
def State.freeEngine (s : State) (d : CtrlId) (e : EngineNo) : State :=
  s.modEngine d e (fun g => { g with phase := .idle, run := none })

/-- Frame a is at or after frame b, modulo 2^32 (R16). -/
def frameGe (a b : Nat) : Bool := decide ((a + 2 ^ 32 - b % 2 ^ 32) % 2 ^ 32 < 2 ^ 31)

/-- The DIV in force of a program (R134, R221). -/
def Slot.divNow (x : Slot) : Nat := if x.fallback && x.fallbackDiv != 0 then x.fallbackDiv else x.div

/-- The program's run of frame k has its outcome; the anchor moves on by whole periods of its DIV (R134). -/
def Slot.ended (x : Slot) (k : Nat) : Slot :=
  let per := max 1 x.divNow
  let d := (k + 2 ^ 32 - x.anchor % 2 ^ 32) % 2 ^ 32
  { x with
    doneFrame := some k
    owed := if x.owed = some k then none else x.owed
    anchor := if frameGe k x.anchor then (x.anchor + d / per * per) % 2 ^ 32 else x.anchor }

/-- Discards a run in progress (R143, R144) and files its outcome; FAILS counts it. A run of CTRL-B that on CTRL-A did not take place is none of the program's runs. -/
def State.discardRun (s : State) (d : CtrlId) (e : EngineNo) (r : Run) (outcome : Nat) : State :=
  let s1 := (s.freeEngine d e).modEngine d e (fun g => { g with fails := holdInc 0xFFFF g.fails })
  let s2 := s1.modSlot d r.slot (fun x => { x.ended r.frame with runNo := if outcome = 7 then x.runNo else (x.runNo + 1) % 2 ^ 32 })
  s2.fileOutcome d e r.slot.val r.channel r.frame r.refInstant outcome
    (runSig [] [] (runRecord outcome r.slot.val 0 r.frame))

/-- Sends a verdict to CTRL-B over DL_11 (R444); over a failed link none arrives (R26). -/
def State.verdict (s : State) (slot : SlotCode) (frame outcome : Nat) : State :=
  if s.linkUp .ctrlA .ctrlB then
    ({ s with verdicts := s.verdicts ++ [⟨slot, frame, outcome⟩] } : State).sendWords .ctrlA .ctrlB "verdict" [slot.val, frame, outcome]
  else s

/-- Publishes the miss counters of a channel (06_planning_and_ageing.md). -/
def State.publishMiss (s : State) (ch : Channel) : State :=
  s.hwCommit 0x0001 s.ch[ch].refInstant [(chBase ch + 0x18, w32 s.ch[ch].missRun), (chBase ch + 0x19, w32 s.ch[ch].missTotal)]

/-- A deadline miss as one channel counts it (R231): the counters, and on the second consecutive miss of the sample-path program the miss reaction, due at that frame's update instant. -/
def State.missOf (s : State) (ch : Channel) (frame : Nat) (samplePath : Bool) : State :=
  let s2 := s.modCh ch (fun c => { c with missTotal := holdInc 0xFFFFFFFF c.missTotal })
  let n := s.ch[ch].missRun + 1
  let s3 :=
    if samplePath then
      let s4 := s2.modCh ch (fun c => { c with missRun := n % 2 ^ 32 })
      if n = 2 then
        (s4.modCh ch (fun c => { c with reactionDue := true })).raise 0x1048 ch.val 12
          [w32 (s.fld (Reg.chMiss ch.val) 0 2), w32 frame]
      else s4
    else s2
  s3.publishMiss ch

/-- The other channel of a dual three-phase pair CH_n and CH_(n+1), n even (R325). -/
def pairMate (ch : Channel) : Channel := ⟨(if ch.val % 2 = 0 then ch.val + 1 else ch.val - 1) % 8, Nat.mod_lt _ (by decide)⟩

/-- A deadline miss of a program (R230, R231); a miss of DS-D3-IN counts for both channels of its pair (R326). -/
def State.miss (s : State) (slot : SlotCode) (ch : Channel) (frame cause fcause : Nat) : State :=
  let s1 := s.raise 0x1047 slot.val 6 [w32 ch.val, w32 frame, w32 cause, w32 fcause]
  let x := s.slotOf .a slot
  let s2 := s1.missOf ch frame x.samplePath
  if x.ds = 3 then s2.missOf (pairMate ch) frame true else s2

/-- A run fails (R143): nothing is committed; the event, and on CTRL-A the verdict and the deadline miss of cause 3. -/
def State.failRun (s : State) (d : CtrlId) (e : EngineNo) (r : Run) (cause : Nat) : State :=
  let s1 := s.discardRun d e r cause
  match d with
  | .b => s1
  | .a =>
    let s2 := if cause = 2 then s1.raise 0x0115 (0x100 + r.slot.val) 10 [w32 r.channel.val, w32 r.frame]
      else s1.raise 0x1020 (0x100 + r.slot.val) 10 [w32 cause, w32 r.pc, w32 r.channel.val, w32 r.frame]
    (s2.verdict r.slot r.frame cause).miss r.slot r.channel r.frame 3 cause

/-- The outcome of a load: the value with the run's latch and the die after it, or a failure cause of R143. -/
inductive LoadRes where
  | ok (v : Word) (r : Run) (d : CtrlDie) (ev : List Event)
  | fail (cause : Nat) (d : CtrlDie) (ev : List Event)

/-- Latches signals from the board (R108), replacing any earlier latch of them. -/
def latchAddrs (r : Run) (d : CtrlDie) (die : CtrlId) (now : Nat) (as : List Nat) : Run × CtrlDie × List Event :=
  let (vs, d1, ev) := d.readMany die now (0x100 + r.slot.val) as
  let latch := (as.zip vs).foldl (fun m av => kvPut m av.1 av.2) r.latch
  let bad := (r.latchBad.filter (fun a => !as.contains a)) ++ as.filter (fun a => d1.poisoned.contains a)
  ({ r with latch := latch, latchBad := bad }, d1, ev)

/-- The signals latched with `a`: its whole group, or the signal alone (R108). -/
def CtrlDie.latchSet (d : CtrlDie) (a : Nat) : List Nat :=
  match d.groupOf a with
  | some g => (List.range g.len).map (· + g.base)
  | none => [a]

/-- One load of a run (R102, R108, R109, R119, R167). -/
def loadSig (r : Run) (d : CtrlDie) (die : CtrlId) (now a : Nat) : LoadRes :=
  if 0x3F000 ≤ a then .fail 5 d []
  else if kvHas r.wbuf a then .ok (kvGet 0 r.wbuf a) r d []
  else if kvHas r.latch a then
    (if r.latchBad.contains a then .fail 3 d [] else .ok (kvGet 0 r.latch a) r d [])
  else
    let (r1, d1, ev) := latchAddrs r d die now (d.latchSet a)
    if 1024 < r1.latch.length then .fail 2 d1 ev
    else if r1.latchBad.contains a then .fail 3 d1 ev
    else .ok (kvGet 0 r1.latch a) r1 d1 ev

/-- Loads n consecutive signals into consecutive registers from gD on (R149, R155). -/
def loadMany (die : CtrlId) (now : Nat) : Nat → Nat → Nat → Run → CtrlDie → List Event → LoadRes
  | 0, _, _, r, d, ev => .ok 0 r d ev
  | n + 1, reg, a, r, d, ev =>
    match loadSig r d die now (a % 2 ^ 18) with
    | .fail c d1 e1 => .fail c d1 (ev ++ e1)
    | .ok v r1 d1 e1 => loadMany die now n (reg + 1) (a + 1) (r1.setReg (BitVec.ofNat 6 reg) v) d1 (ev ++ e1)

/-- Ends a load: the run goes on, or fails. -/
def State.afterLoad (s : State) (d : CtrlId) (e : EngineNo) (r0 : Run) : LoadRes → State
  | .ok _ r dd ev => ((s.modCtrl d (fun _ => dd)).setRun d e r.step).raiseFor d ev
  | .fail cause dd ev => ((s.modCtrl d (fun _ => dd)).raiseFor d ev).failRun d e r0 cause

/-- Stores one signal into the write buffer (R102, R109, R156): none when it would exceed 256 distinct signals. -/
def storeSig (r : Run) (a : Nat) (v : Word) : Option Run :=
  let b := kvPut r.wbuf a v
  if 256 < b.length then none else some { r with wbuf := b }

/-- Stores n consecutive registers (R149). -/
def storeMany : Nat → Nat → Nat → Run → Option Run
  | 0, _, _, r => some r
  | n + 1, reg, a, r =>
    match storeSig r (a % 2 ^ 18) (r.reg (BitVec.ofNat 6 reg)) with
    | none => none
    | some r1 => storeMany n (reg + 1) (a + 1) r1

/-- Ends a store. -/
def State.afterStore (s : State) (d : CtrlId) (e : EngineNo) (r0 : Run) : Option Run → State
  | some r => s.setRun d e r.step
  | none => s.failRun d e r0 2

end Sys2Proof.Machine
end

