-- ==== Sys2Proof/Machine/Table.lean ====
section
/-! DEFINITION. Table lookups (04_oryx_engines.md, R158 to R164). -/

namespace Sys2Proof.Machine

/-- A word of table memory. -/
def CtrlDie.tab (d : CtrlDie) (a : Nat) : Word := kvGet 0 d.tables a

/-- Finite and above zero (R160). -/
def f32Positive (w : Word) : Bool :=
  match f32Val w with
  | .fin false m _ => decide (0 < m)
  | _ => false

/-- NX and NY of a header. -/
def tableDims (h : Word) : Nat × Nat := (bitsAt h 0 12 + 1, bitsAt h 12 12 + 1)

/-- Is the header bad for a lookup of this KIND (R160)? -/
def tableBad (d : CtrlDie) (kind a : Nat) : Bool :=
  let h := d.tab a
  let (nx, ny) := tableDims h
  decide (a % 8 ≠ 0) || bitsAt h 28 4 != kind || bitsAt h 24 4 != 0 || decide (nx < 2)
    || !f32Positive (d.tab (a + 2)) || d.tab (a + 5) != 0 || d.tab (a + 6) != 0
    || decide (2 ^ 20 < a + 8 + nx * ny)
    || (if kind = 1 then bitsAt h 12 12 != 0 || d.tab (a + 3) != 0 || d.tab (a + 4) != 0
        else decide (ny < 2) || !f32Positive (d.tab (a + 4)))

/-- u of an axis (R161): FMUL(FSUB(x, X0), X_SCALE), with the flags both raise. -/
def axisU (x x0 scale : Word) : FRes :=
  let a := fsub x x0
  let u := fmul a.val scale
  ⟨u.val, a.fl ||| u.fl⟩

/-- The entry index and the fraction of a u that is a number on an axis of n entries (R161), with the flags raised. -/
def axisPlace (u : Word) (n : Nat) : Nat × Word × FlagSet :=
  let top := f32OfInt (n - 1 : Nat)
  let low := decide (f32Key u < 0)
  let high := decide (f32Key top < f32Key u)
  let v := if low then 0 else if high then top else u
  let i := min (f32Floor v) (n - 2)
  (i, (fsub v (f32OfInt i)).val, if low || high then flagTRANGE else 0)

/-- One linear interpolation FMA(f, FSUB(e1, e0), e0). -/
def interp (f e0 e1 : Word) : FRes :=
  let dlt := fsub e1 e0
  let r := ffma f dlt.val e0
  ⟨r.val, dlt.fl ||| r.fl⟩

/-- The one-dimensional lookup (R161). -/
def lookup1 (d : CtrlDie) (a : Nat) (x : Word) : FRes :=
  let u := axisU x (d.tab (a + 1)) (d.tab (a + 2))
  if f32IsNaN x then invalidRes
  else if f32IsNaN u.val then ⟨f32NaN, u.fl ||| flagNV⟩
  else
    let (i, f, fl) := axisPlace u.val (tableDims (d.tab a)).1
    let r := interp f (d.tab (a + 8 + i)) (d.tab (a + 8 + i + 1))
    ⟨r.val, u.fl ||| fl ||| r.fl⟩

/-- The two-dimensional lookup (R162). A NaN u ends it before v is formed, a NaN v before either axis is clamped; the flags are those of the operations carried out (assumption 13). -/
def lookup2 (d : CtrlDie) (a : Nat) (x y : Word) : FRes :=
  let u := axisU x (d.tab (a + 1)) (d.tab (a + 2))
  let v := axisU y (d.tab (a + 3)) (d.tab (a + 4))
  if f32IsNaN x || f32IsNaN y then invalidRes
  else if f32IsNaN u.val then ⟨f32NaN, u.fl ||| flagNV⟩
  else if f32IsNaN v.val then ⟨f32NaN, u.fl ||| v.fl ||| flagNV⟩
  else
    let (nx, ny) := tableDims (d.tab a)
    let (i, f, fx) := axisPlace u.val nx
    let (j, g, fy) := axisPlace v.val ny
    let at_ (p q : Nat) : Word := d.tab (a + 8 + q * nx + p)
    let r0 := interp f (at_ i j) (at_ (i + 1) j)
    let r1 := interp f (at_ i (j + 1)) (at_ (i + 1) (j + 1))
    let r := interp g r0.val r1.val
    ⟨r.val, u.fl ||| v.fl ||| fx ||| fy ||| r0.fl ||| r1.fl ||| r.fl⟩

/-- A table instruction: fails the run on a bad header (R143 cause 4), else writes the result. -/
def State.lookup (s : State) (d : CtrlId) (e : EngineNo) (op kind : Nat) (addr : Run → Dword → Nat)
    (f : CtrlDie → Nat → Run → Dword → FRes) : State :=
  s.onInstr d e op (fun r w =>
    if tableBad (s.die d) kind (addr r w) then s.failRun d e r 4
    else s.setRun d e (r.put w (f (s.die d) (addr r w) r w)))

/-- TL1 (R161): x in gA, the table at IMM. -/
def execTl1 (die : CtrlId) (engine : EngineNo) (s : State) : Out :=
  .next (s.lookup die engine 0x68 1 (fun _ w => (fImm w).toNat % 2 ^ 20) (fun d a r w => lookup1 d a (r.reg (fA w))))

/-- TL1R (R161): the table address in gB[19:0]. -/
def execTl1r (die : CtrlId) (engine : EngineNo) (s : State) : Out :=
  .next (s.lookup die engine 0x69 1 (fun r w => (r.reg (fB w)).toNat % 2 ^ 20) (fun d a r w => lookup1 d a (r.reg (fA w))))

/-- TL2 (R162): x in gA, y in gB, the table at IMM. -/
def execTl2 (die : CtrlId) (engine : EngineNo) (s : State) : Out :=
  .next (s.lookup die engine 0x6A 2 (fun _ w => (fImm w).toNat % 2 ^ 20)
    (fun d a r w => lookup2 d a (r.reg (fA w)) (r.reg (fB w))))

/-- TL2R (R162): the table address in gC[19:0]. -/
def execTl2r (die : CtrlId) (engine : EngineNo) (s : State) : Out :=
  .next (s.lookup die engine 0x6B 2 (fun r w => (r.reg (fC w)).toNat % 2 ^ 20)
    (fun d a r w => lookup2 d a (r.reg (fA w)) (r.reg (fB w))))

end Sys2Proof.Machine
end

