-- ==== Sys2Proof/Machine/DriveSet.lean ====
section
/-! DEFINITION. The Drive Set (09_drive_set.md): transforms, parameters, the inner and the outer program, the oscillation detectors. What a run of a Drive Set program commits is computed here; its code is not in the spec (assumption 28). -/

namespace Sys2Proof.Machine

/-- FADD's value. -/
def fPlus (a b : Word) : Word := (fadd a b).val
/-- FSUB's value. -/
def fMinus (a b : Word) : Word := (fsub a b).val
/-- FMUL's value. -/
def fTimes (a b : Word) : Word := (fmul a b).val
/-- FDIV's value. -/
def fOver (a b : Word) : Word := (fdiv a b).val
/-- FSQRT's value. -/
def fRoot (a : Word) : Word := (fsqrt a).val
/-- FCLAMP's value. -/
def fLimit (a lo hi : Word) : Word := (fclamp a lo hi).val
/-- FNEG's value. -/
def fNegate (a : Word) : Word := (fneg a).val
/-- FABS's value. -/
def fMagn (a : Word) : Word := (fabs a).val
/-- FLT. -/
def fBelow (a b : Word) : Bool := (flt a b).val != 0
/-- A number of ticks in seconds: CVTUF times 2.5e-9. -/
def tickSecs (n : Nat) : Word := fTimes (f32OfInt n) 0x312BCC77
/-- Smaller and larger. -/
def fLow (a b : Word) : Word := (fmin a b).val
/-- FMAX's value. -/
def fHigh (a b : Word) : Word := (fmax a b).val

/-! ## Operations that carry their flags: the set of a result is that of everything it was formed from (R185) -/

/-- A value no instruction has formed. -/
def qc (w : Word) : FRes := ⟨w, 0⟩
/-- The result of one operation on values with flags. -/
def q2 (op : Word → Word → FRes) (a b : FRes) : FRes :=
  let r := op a.val b.val
  ⟨r.val, a.fl ||| b.fl ||| r.fl⟩
/-- The result of an operation on one value. -/
def q1 (op : Word → FRes) (a : FRes) : FRes :=
  let r := op a.val
  ⟨r.val, a.fl ||| r.fl⟩
/-- FADD. -/
def qPlus : FRes → FRes → FRes := q2 fadd
/-- FSUB. -/
def qMinus : FRes → FRes → FRes := q2 fsub
/-- FMUL. -/
def qTimes : FRes → FRes → FRes := q2 fmul
/-- FDIV. -/
def qOver : FRes → FRes → FRes := q2 fdiv
/-- FMIN. -/
def qLow : FRes → FRes → FRes := q2 fmin
/-- FMAX. -/
def qHigh : FRes → FRes → FRes := q2 fmax
/-- FSQRT. -/
def qRoot : FRes → FRes := q1 fsqrt
/-- FNEG. -/
def qNegate : FRes → FRes := q1 fneg
/-- FABS. -/
def qMagn : FRes → FRes := q1 fabs
/-- FCLAMP. -/
def qLimit (a lo hi : FRes) : FRes :=
  let r := fclamp a.val lo.val hi.val
  ⟨r.val, a.fl ||| lo.fl ||| hi.fl ||| r.fl⟩
/-- FLT. -/
def qBelow : FRes → FRes → FRes := q2 flt
/-- The choice a comparison makes. -/
def qPick (c a b : FRes) : FRes :=
  let r := if c.val != 0 then a else b
  ⟨r.val, c.fl ||| r.fl⟩
/-- CVTUF times 2.5e-9. -/
def qSecs (n : Nat) : FRes := qTimes (f32RoundInt false n 0) (qc 0x312BCC77)
/-- The sine of SINCOS, with its flag (R195). -/
def qSin (th : Word) : FRes := ⟨sinAng th, sincosFlags th⟩
/-- The cosine of SINCOS. -/
def qCos (th : Word) : FRes := ⟨cosAng th, sincosFlags th⟩
/-- The flags of a list of results. -/
def qFlags (rs : List FRes) : FlagSet := rs.foldl (fun m r => m ||| r.fl) 0

/-- Amplitude-invariant transform to α, β, 0 (R334). -/
def qClarke (ia ib ic : FRes) : FRes × FRes × FRes :=
  (qOver (qMinus (qMinus (qTimes (qc 0x40000000) ia) ib) ic) (qc 0x40400000), qOver (qMinus ib ic) (qc 0x3FDDB3D7),
   qOver (qPlus (qPlus ia ib) ic) (qc 0x40400000))

/-- To d, q (R334). -/
def qPark (al be : FRes) (th : Word) : FRes × FRes :=
  (qPlus (qTimes al (qCos th)) (qTimes be (qSin th)), qPlus (qTimes (qNegate al) (qSin th)) (qTimes be (qCos th)))

/-- Back to α, β (R334). -/
def qIpark (d q : FRes) (th : Word) : FRes × FRes :=
  (qMinus (qTimes d (qCos th)) (qTimes q (qSin th)), qPlus (qTimes d (qSin th)) (qTimes q (qCos th)))

/-- The transform of R334 on plain words, as Tahr uses it. -/
def clarke (ia ib ic : Word) : Word × Word × Word :=
  let r := qClarke (qc ia) (qc ib) (qc ic)
  (r.1.val, r.2.1.val, r.2.2.val)

/-- To d, q, on plain words. -/
def park (al be th : Word) : Word × Word :=
  let r := qPark (qc al) (qc be) th
  (r.1.val, r.2.val)

/-- Back to α, β, on plain words. -/
def ipark (d q th : Word) : Word × Word :=
  let r := qIpark (qc d) (qc q) th
  (r.1.val, r.2.val)

/-- θe of R333, exact. -/
def thetaE (turns theta : Word) (pp cycles : Nat) (off : Word) : Word :=
  let m := (turns.toInt % (max 1 cycles : Nat)).toNat
  w32 (pp * (m * 2 ^ 32 + theta.toNat) / max 1 cycles + off.toNat)

/-- A parameter's range: none for a field that is not clamped, unsigned bounds, or F32 bounds (R344). -/
inductive ParRange where
  | any
  | u (lo hi : Nat)
  | f (lo hi : Word)
  /-- F32 bounds of a field whose zero stands for an unwritten group (R345). -/
  | f0 (lo hi : Word)

/-- The nearest end of a range; a NaN takes the lower end. -/
def f32Nearest (lo hi w : Word) : Word := if f32IsNaN w then lo else if f32Key w < f32Key lo then lo else if f32Key hi < f32Key w then hi else w

/-- The field as the program takes it. -/
def ParRange.clamp (r : ParRange) (w : Word) : Word :=
  match r with
  | .any => w
  | .u lo hi => w32 (max lo (min hi w.toNat))
  | .f lo hi => f32Nearest lo hi w
  | .f0 lo hi => if f32Mag w = 0 then w else f32Nearest lo hi w

/-- Ranges of ch_n.ds.pin (R344); a pp of 0 is unwritten and never taken as 1. -/
def pinRanges : List ParRange :=
  [.u 0 32, .u 1 255, .any, .f 0 0x3F800000, .f 0x358637BD 0x3DCCCCCD, .f 0x358637BD 0x3DCCCCCD, .f 0 0x3F800000,
   .f 0x3A83126F 0x41200000, .f 0x3F000000 0x3F800000, .any, .any, .any, .f 0 0x42C80000, .f 0 0x49742400, .f 0 0x42C80000,
   .f 0 0x49742400] ++
  [.f 0 0x47C35000, .f 0 0x42C80000, .f 0 0x49742400, .f 0 0x42C80000, .f 0 0x49742400, .f 0x3DCCCCCD 0x3F22F838, .any,
   .f 0x3D4CCCCD 0x3F800000, .u 1 64, .any, .f 0 0x461C4000, .f 0x3DCCCCCD 0x469C4000, .f 0x3DCCCCCD 0x469C4000, .any,
   .f 0 0x3A83126F, .f 0x3D4CCCCD 0x3F800000]

/-- Ranges of ch_n.ds.pout; psi_min is bounded by psi_top, which is clamped itself (R344). -/
def poutRanges (psiTop : Word) : List ParRange :=
  [.f0 0x3F800000 0x459C4000, .f 0 0x47C35000, .f 0 0x47C35000, .f 0x3F800000 0x4CBEBC20, .f 0x3F800000 0x4CBEBC20, .any, .any, .any,
   .f 0x3A83126F ((ParRange.f 0x3A83126F 0x41A00000).clamp psiTop), .f 0x3A83126F 0x41A00000, .f 0 0x461C4000, .f 0 0x461C4000,
   .f 0 0x3E4CCCCD, .f 0 0x49742400, .f 0 0x4CBEBC20, .f 0 0x461C4000] ++
  [.f 0 0x49742400, .f 0 0x4CBEBC20, .f 0x3F800000 0x49742400, .f 0 0x47C35000, .f 0 0x47C35000, .f 0x3DCCCCCD 0x469C4000,
   .f 0x3DCCCCCD 0x469C4000, .any, .f 0 0x47C35000, .f 0x3DCCCCCD 0x469C4000, .f 0x3DCCCCCD 0x469C4000, .any, .any, .any, .any, .any]

/-- The clamped group and the index of the lowest field that was clamped. -/
def clampGroup (rs : List ParRange) (ws : List Word) : List Word × Option Nat :=
  let cs := (rs.zip ws).map (fun x => x.1.clamp x.2)
  (cs, findIx id ((cs.zip ws).map (fun x => x.1 != x.2)))

/-- A packed detector field (R348): N_WIN, C_LIM, REACT. -/
def oscWindow (w : Word) : Nat × Nat × Nat := (max 16 (bitsAt w 0 16), max 2 (bitsAt w 16 8), min 2 (bitsAt w 24 2))

/-- Restart of a detector (R346). -/
def OscDetector.restart (d : OscDetector) : OscDetector := { d with sign := 0, count := 0, n := 0 }

/-- One run of a detector (R346): its state, whether it triggers, and the flags of what it computed. -/
def OscDetector.run (d : OscDetector) (tr : Nat) (e a flo fhi : FRes) (win : Word) : OscDetector × Bool × FlagSet :=
  let (nWin, cLim, _) := oscWindow win
  let g : Int := if f32Neg e.val then -1 else 1
  let far := q2 fle a (qMagn e)
  let f := qOver (qc f32One) (qTimes (qTimes (qc 0x40000000) (f32RoundInt false (tr - d.tc : Nat) 0)) (qc 0x312BCC77))
  let above := q2 fle flo f
  let below := q2 fle f fhi
  let turned := far.val != 0 && d.sign != 0 && g != d.sign
  let inBand := above.val != 0 && below.val != 0
  let d1 :=
    if far.val == 0 then d
    else if turned then { d with sign := g, tc := tr, count := if inBand then d.count + 1 else d.count, fLast := if inBand then f.val else d.fLast }
    else { d with sign := g, tc := if d.sign = 0 then tr else d.tc }
  let fl := if turned then qFlags [far, above, below] else far.fl
  let n := d1.n + 1
  if cLim ≤ d1.count then ({ d1 with count := 0, n := 0, fShown := d1.fLast }, true, fl)
  else if nWin ≤ n then ({ d1 with count := 0, n := 0 }, false, fl)
  else ({ d1 with n := n }, false, fl)

/-- What a Drive Set run ends with: its writes, what it keeps and the flags of its arithmetic (R185), or a failure cause of R143. -/
inductive DsResult where
  | commit (writes : Kv Word) (keep : DsState) (flags : FlagSet)
  | fail (cause : Nat)

/-- What a run reads: a latched signal, else the board's value (R108). -/
def Run.look (r : Run) (d : CtrlDie) (a : Nat) : Word := if kvHas r.latch a then kvGet 0 r.latch a else d.value a

/-- One word of FLAGS from (bit, value) pairs. -/
def flagWord (bs : List (Nat × Bool)) : Word := packFields (bs.map (fun b => (b.1, b2n b.2)))

/-- A limited vector (R335): its magnitude, the limited components, and the comparison that found an excess. -/
def limitVec (vLim vd vq : FRes) : FRes × FRes × FRes × FRes :=
  let a := qRoot (qPlus (qTimes vd vd) (qTimes vq vq))
  let excess := qBelow vLim a
  let k := qPick excess (qOver vLim a) (qc f32One)
  (a, qTimes k vd, qTimes k vq, excess)

/-- The inner program (R333 to R339, R344 to R349). A lookup in a table whose address is 0 gives 0, as there is no table to read (R343; assumption 28). -/
def dsInner (d : CtrlDie) (r : Run) (kind : Nat) (first : Bool) (s : DsState) : DsResult :=
  let b := chBase r.channel
  let look := r.look d
  let lookF := fun a => qc (look a)
  let raw := (List.range 32).map (fun i => look (b + 0x200 + i))
  let at0 := fun i => raw.getD i (0 : Word)
  let im := kind == 2
  let d3 := kind == 3
  let missing := at0 0 == 0 || (if im then f32Mag (at0 6) == 0 && at0 11 == 0 else at0 9 == 0 || at0 10 == 0)
  let (ps, clampIx) := clampGroup pinRanges raw
  let p := fun i => ps.getD i (0 : Word)
  let pf := fun i => qc (p i)
  let bad := fun (kind i : Nat) => p i != 0 && tableBad d kind ((p i).toNat % 2 ^ 20)
  let tabBad := if im then bad 1 11 else bad 2 9 || bad 2 10
  if tabBad then .fail 4
  else
  let tr := r.refInstant
  let tf := qSecs r.frameLen
  let dt := if first then tf else qSecs (tr - s.tLast)
  let ack := look (b + 0x68)
  let s1 := if ack ≠ s.ackSeen then { s with ackSeen := ack, osc1 := false, osc2 := false, fbg1 := false, ss1 := false } else s
  let s2 := if bitAt (look (b + 0x1C)) 0 then s1
    else { s1 with xd := 0, xq := 0, xdx := 0, xqx := 0, hasI := false, det1 := s1.det1.restart, det2 := s1.det2.restart }
  let (idL, iqL, vdL, vqL, fdL, fqL) := (qc s2.idLast, qc s2.iqLast, qc s2.vdLast, qc s2.vqLast, qc s2.fdLast, qc s2.fqLast)
  let the := thetaE (look (b + 0x41)) (look (b + 0x40)) (p 0).toNat (p 1).toNat (p 2)
  let we := qTimes (cvtuf (p 0)) (lookF (b + 0x42))
  let posOk := bitAt (look (b + 0x44)) 0
  let rRun := bitAt (look (b + 0x67)) 0
  let posRun := if posOk then 0 else s2.posRun + 1
  let faultPos := if posOk && !rRun then false else s2.faultPos || decide ((p 24).toNat ≤ posRun)
  -- R337
  let lmE := if p 11 ≠ 0 then lookup1 d ((p 11).toNat % 2 ^ 20) (fMagn s2.idLast) else pf 6
  let psiR := if im then qPlus (qc s2.psiR) (qTimes (qOver dt (pf 7)) (qMinus (qTimes lmE idL) (qc s2.psiR))) else qc 0
  let wSl := if im then qOver (qTimes lmE iqL) (qTimes (pf 7) (qHigh psiR (qc 0x3A83126F))) else qc 0
  let turnSl := q1 cvtfa (qTimes wSl dt)
  let thSl := if im then s2.thSl + turnSl.val else 0
  let thf := if im then the + thSl else the
  let ws := if im then qPlus we wSl else we
  -- currents
  let b2 := if d3 then b + 0x1000 else b
  let iValid := bitAt (look (b + 0x27)) 7 && (!d3 || bitAt (look (b2 + 0x27)) 7)
  let (al1, be1, i0) := qClarke (lookF (b + 0x20)) (lookF (b + 0x21)) (lookF (b + 0x22))
  let (al2, be2, _) := qClarke (lookF (b2 + 0x20)) (lookF (b2 + 0x21)) (lookF (b2 + 0x22))
  let (id1, iq1) := qPark al1 be1 thf
  let (id2, iq2) := qPark al2 be2 (thf - p 25)
  let half := fun x => qTimes x (qc 0x3F000000)
  let lq := if im then pf 4 else pf 5
  let (id, iq) :=
    if iValid then (if d3 then (half (qPlus id1 id2), half (qPlus iq1 iq2)) else (id1, iq1))
    else if s2.hasI then
      (qPlus idL (qOver (qTimes dt (qMinus (qMinus vdL (qTimes (pf 3) idL)) fdL)) (pf 4)),
       qPlus iqL (qOver (qTimes dt (qMinus (qMinus vqL (qTimes (pf 3) iqL)) fqL)) lq))
    else (qc 0, qc 0)
  let (idx, iqx) := if d3 && iValid then (half (qMinus id1 id2), half (qMinus iq1 iq2)) else (qc 0, qc 0)
  let pred := !iValid
  let map := fun (i : Nat) => let m := lookup2 d ((p i).toNat % 2 ^ 20) id.val iq.val
    (⟨m.val, id.fl ||| iq.fl ||| m.fl⟩ : FRes)
  let psid := if im then qPlus (qTimes (pf 4) id) (qTimes (pf 8) psiR) else if p 9 = 0 then qc 0 else map 9
  let psiq := if im then qTimes (pf 4) iq else if p 10 = 0 then qc 0 else map 10
  let fd := qTimes (qNegate ws) psiq
  let fq := qTimes ws psid
  let g := if s2.fbg1 then 17 else 12
  let (kpd, kid, kpq, kiq) := (pf g, pf (g + 1), pf (g + 2), pf (g + 3))
  let ed := qMinus (lookF (b + 0x62)) id
  let eq := qMinus (lookF (b + 0x63)) iq
  let tau := qHigh (qc 0) (qMinus (pf 30) (half tf))
  let dead := fun (l ref i vl f : FRes) =>
    qTimes (qOver (qTimes (pf 23) l) tf) (qMinus ref (qPlus i (qOver (qTimes tau (qMinus (qMinus vl (qTimes (pf 3) i)) f)) l)))
  let deadbeat := bitAt (p 22) 0
  let pd := if deadbeat then dead (pf 4) (lookF (b + 0x62)) id vdL fd else qTimes kpd ed
  let pq := if deadbeat then dead lq (lookF (b + 0x63)) iq vqL fq else qTimes kpq eq
  let c : FRes := if bitAt (p 22) 1 then qc f32One else qc 0
  let vdu := qPlus (qPlus pd (qc s2.xd)) (qTimes c fd)
  let vqu := qPlus (qPlus pq (qc s2.xq)) (qTimes c fq)
  let vdxu := qPlus (qTimes (qTimes (pf 31) kpd) (qMinus (qc 0) idx)) (qc s2.xdx)
  let vqxu := qPlus (qTimes (qTimes (pf 31) kpq) (qMinus (qc 0) iqx)) (qc s2.xqx)
  let udc := look (b + 0x23)
  let udc2 := look (b2 + 0x23)
  let vLim := qTimes (pf 21) (qc udc)
  let (a1, vd1, vq1, o1) := limitVec vLim (if d3 then qPlus vdu vdxu else vdu) (if d3 then qPlus vqu vqxu else vqu)
  let (_, vd2, vq2, o2) := limitVec (qTimes (pf 21) (qc udc2)) (qMinus vdu vdxu) (qMinus vqu vqxu)
  let (vd, vq) := if d3 then (half (qPlus vd1 vd2), half (qPlus vq1 vq2)) else (vd1, vq1)
  let (vdx, vqx) := if d3 then (half (qMinus vd1 vd2), half (qMinus vq1 vq2)) else (qc 0, qc 0)
  let upd := fun (x : Word) (k e v vu : FRes) =>
    qLimit (qPlus (qc x) (qTimes tf (qPlus (qTimes k e) (qTimes (pf 16) (qMinus v vu))))) (qNegate vLim) vLim
  let xd := if pred then qc s2.xd else upd s2.xd kid ed vd vdu
  let xq := if pred then qc s2.xq else upd s2.xq kiq eq vq vqu
  let xdx := if pred then qc s2.xdx else if d3 then upd s2.xdx (qTimes (pf 31) kid) (qMinus (qc 0) idx) vdx vdxu else qc 0
  let xqx := if pred then qc s2.xqx else if d3 then upd s2.xqx (qTimes (pf 31) kiq) (qMinus (qc 0) iqx) vqx vqxu else qc 0
  let s3 := { s2 with xd := xd.val, xq := xq.val, xdx := xdx.val, xqx := xqx.val }
  let (det1, tg1, flD) := if !pred then s3.det1.run tr ed (pf 26) (pf 27) (pf 28) (p 29) else (s3.det1, false, (0 : FlagSet))
  let (det2, tg2, flQ) := if !pred then s3.det2.run tr eq (pf 26) (pf 27) (pf 28) (p 29) else (s3.det2, false, (0 : FlagSet))
  let react := (oscWindow (p 29)).2.2
  let trig := tg1 || tg2
  let s4 := { s3 with
    det1 := det1
    det2 := det2
    osc1 := s3.osc1 || tg1
    osc2 := s3.osc2 || tg2
    ss1 := s3.ss1 || (trig && (react == 2 || s3.fbg1))
    ss1Loop := if s3.ss1 || !trig then s3.ss1Loop else if tg1 then 0 else 1
    fbg1 := s3.fbg1 || (trig && react == 1) }
  let adv := q1 cvtfa (qTimes ws (pf 30))
  let tho := thf + adv.val
  let (va, vb) := qIpark vd1 vq1 tho
  let (va2, vb2) := qIpark vd2 vq2 (tho - p 25)
  let en := rRun && !missing && !faultPos
  let ref := fun (x y u : Word) (o : Nat) => if en then [(o, x), (o + 1, y), (o + 2, u), (o + 3, f32One)] else [(o, (0 : Word)), (o + 1, 0), (o + 2, u), (o + 3, 0)]
  let tEst := qTimes (qTimes (qc 0x3FC00000) (cvtuf (p 0))) (qMinus (qTimes psid iq) (qTimes psiq id))
  let status := flagWord [(0, en), (1, pred), (2, o1.val != 0 || (d3 && o2.val != 0)), (3, !posOk), (4, faultPos), (5, s4.osc1), (6, s4.osc2), (7, s4.fbg1),
    (8, s4.ss1), (9, missing), (10, clampIx.isSome)] ||| packFields [(16, clampIx.getD 0)]
  let obs : List FRes := [qc thf, we, ws, id, iq, lookF (b + 0x62), lookF (b + 0x63), vd, vq, a1, vLim, i0, psid, psiq, tEst, xd] ++
    [xq, psiR, wSl, qc s4.det1.fShown, qc s4.det2.fShown, qc status, idx, iqx, vdx, vqx, qc 0, qc 0, qc 0, qc 0, qc 0, qc 0]
  let w0 : Kv Word := obs.zipIdx.map (fun x => (b + 0x80 + x.2, x.1.val))
  let w1 := ref va.val vb.val udc (b + 0x100)
  let w2 := if d3 then ref va2.val vb2.val udc2 (b2 + 0x100) else []
  let fl := qFlags (obs ++ [dt, fd, fq, adv, va, vb, o1, xdx, xqx] ++ (if im then [turnSl] else []) ++ (if d3 then [va2, vb2, o2] else [])) ||| flD ||| flQ
  .commit (w0 ++ w1 ++ w2) { s4 with
    tLast := tr
    hasI := if iValid then true else s4.hasI
    posRun := posRun
    faultPos := faultPos
    idLast := id.val
    iqLast := iq.val
    vdLast := vd.val
    vqLast := vq.val
    fdLast := fd.val
    fqLast := fq.val
    psiR := psiR.val
    thSl := thSl } fl

/-- step(a, b, d) of R340: a moves toward b by at most d. -/
def qStep (a b d : FRes) : FRes := qPlus a (qLimit (qMinus b a) (qNegate d) d)

/-- The outer program (R340, R341, R344 to R347). -/
def dsOuter (d : CtrlDie) (r : Run) (first : Bool) (s : DsState) : DsResult :=
  let b := chBase r.channel
  let look := r.look d
  let lookF := fun a => qc (look a)
  let raw := (List.range 32).map (fun i => look (b + 0x220 + i))
  let at0 := fun i => raw.getD i (0 : Word)
  let missing := f32Mag (at0 0) == 0 || at0 5 == 0 || at0 6 == 0 || at0 7 == 0
  let (qs, clampIx) := clampGroup (poutRanges (at0 9)) raw
  let w := fun i => qs.getD i (0 : Word)
  let q := fun i => qc (w i)
  let tab := fun i => (w i).toNat % 2 ^ 20
  let bad := fun (kind i : Nat) => w i != 0 && tableBad d kind (tab i)
  if bad 2 5 || bad 2 6 || bad 1 7 then .fail 4
  else
  let tr := r.refInstant
  let upto := if first then qTimes (qTimes (cvtuf (w32 r.frameLen)) (cvtuf (w32 r.div))) (qc 0x312BCC77) else qSecs (tr - s.tLast)
  let fi := qLimit (lookF (b + 0x1A)) (qc 0) (qc f32One)
  let we := lookF (b + 0x81)
  let ws := lookF (b + 0x82)
  let vLimO := lookF (b + 0x8A)
  let ack := w 28
  let s1 := if ack ≠ s.ackSeen then { s with ackSeen := ack, osc1 := false, osc2 := false, fbg1 := false, fbg2 := false, ss1 := false } else s
  let s2 := if bitAt (look (b + 0x95)) 0 then s1
    else { s1 with xw := 0, psiFw := 0, tqLast := 0, wLast := we.val, det1 := s1.det1.restart, det2 := s1.det2.restart }
  let stale := bitAt (look (b + 0x1B)) 0
  let ss1Act := bitAt (look (0x14101 + 0x10 * r.channel.val)) 0
  let cFlags := look (b + 0x52)
  let cmdBad := f32NonFinite (look (b + 0x50)) || f32NonFinite (look (b + 0x51))
  let tReq := if f32NonFinite (look (b + 0x50)) then qc 0 else lookF (b + 0x50)
  let wReq := if f32NonFinite (look (b + 0x51)) then qc 0 else lookF (b + 0x51)
  let run := bitAt cFlags 0 && !missing
  let speed := ss1Act || (bitAt cFlags 1 && !stale)
  let s3 := if speed && !s2.speedLast then { s2 with wLast := we.val, xw := s2.tqLast } else s2
  let tqL := qc s3.tqLast
  let wT := if ss1Act then qc 0 else qLimit wReq (qNegate (q 19)) (q 19)
  let wR := if speed then qStep (qc s3.wLast) wT (qTimes (q 18) upto) else we
  let ew := qMinus wR we
  let kpw := if s3.fbg1 then q 16 else q 13
  let kiw := if s3.fbg1 then q 17 else q 14
  let tU := qPlus (qTimes kpw ew) (qc s3.xw)
  let tS := if speed then qStep tqL tU (qTimes (q 3) upto)
    else if stale then qStep tqL (qc 0) (qTimes (q 4) upto)
    else qStep tqL tReq (qTimes (q 3) upto)
  let ev := qMinus (qTimes (qMinus (qc f32One) (q 12)) vLimO) (lookF (b + 0x89))
  let kfw := if s3.fbg2 then q 11 else q 10
  let psiFw := qLimit (qPlus (qc s3.psiFw) (qTimes (qTimes kfw upto) ev)) (qNegate (q 9)) (qc 0)
  let psiV := qPick (qBelow (qc 0) (qMagn ws)) (qOver vLimO (qMagn ws)) (q 9)
  let psiMax := qLimit (qPlus (qLow (q 9) psiV) psiFw) (q 8) (q 9)
  let tb := if w 7 = 0 then qc 0 else qTimes fi (q1 (lookup1 d (tab 7)) psiMax)
  let t := if run then qLimit tS (qNegate (qLow (q 2) tb)) (qLow (q 1) tb) else qc 0
  let id0 := if w 5 = 0 then qc 0 else q2 (lookup2 d (tab 5)) t psiMax
  let iq0 := if w 6 = 0 then qc 0 else q2 (lookup2 d (tab 6)) t psiMax
  let iLim := qTimes fi (q 0)
  let id1 := qLimit id0 (qNegate iLim) iLim
  let circ := qRoot (qMinus (qTimes iLim iLim) (qTimes id1 id1))
  let mag := qLow (qMagn iq0) circ
  let iq1 := if f32Neg iq0.val then qNegate mag else mag
  let ilim := qBelow circ (qMagn iq0)
  let xw := if speed then qLimit (qPlus (qc s3.xw) (qTimes upto (qPlus (qTimes kiw ew) (qTimes (q 15) (qMinus t tU))))) (qNegate (q 2)) (q 1) else qc s3.xw
  let (det1, tg1, flW) := if speed then s3.det1.run tr ew (q 20) (q 21) (q 22) (w 23) else (s3.det1, false, (0 : FlagSet))
  let (det2, tg2, flF) := s3.det2.run tr ev (q 24) (q 25) (q 26) (w 27)
  let r1 := (oscWindow (w 23)).2.2
  let r2 := (oscWindow (w 27)).2.2
  let ask1 := tg1 && (r1 == 2 || s3.fbg1)
  let ask2 := tg2 && (r2 == 2 || s3.fbg2)
  let s4 := { s3 with
    tLast := tr
    xw := xw.val
    psiFw := psiFw.val
    tqLast := t.val
    wLast := wR.val
    speedLast := speed
    det1 := det1
    det2 := det2
    osc1 := s3.osc1 || tg1
    osc2 := s3.osc2 || tg2
    ss1 := s3.ss1 || ask1 || ask2
    ss1Loop := if s3.ss1 then s3.ss1Loop else if ask1 then 2 else if ask2 then 3 else s3.ss1Loop
    fbg1 := s3.fbg1 || (tg1 && r1 == 1)
    fbg2 := s3.fbg2 || (tg2 && r2 == 1) }
  let below := qBelow psiFw (qc 0)
  let status := flagWord [(0, run), (1, speed), (2, stale && !speed), (3, t.val != tS.val), (4, ilim.val != 0), (5, below.val != 0), (6, s4.osc1), (7, s4.osc2),
    (8, s4.fbg1), (9, s4.fbg2), (10, s4.ss1), (11, missing), (12, clampIx.isSome), (13, cmdBad)] ||| packFields [(16, clampIx.getD 0)]
  let iref : List FRes := [t, if speed then wR else we, if run then id1 else qc 0, if run then iq1 else qc 0, psiMax, iLim, tb, qc status] ++
    [qc ack, psiFw, ev, qc s4.det1.fShown, qc s4.det2.fShown, qc 0, qc 0, qc 0]
  let fl := qFlags (iref ++ [upto, tS, id1, iq1, ilim, xw, below]) ||| flW ||| flF
  .commit (iref.zipIdx.map (fun x => (b + 0x60 + x.2, x.1.val))) s4 fl

/-- The signals a Drive Set run reads (assumption 28): a poisoned one fails the run (R119). -/
def dsReads (ch : Channel) (kind : Nat) : List Nat :=
  let b := chBase ch
  let span := fun (o n : Nat) => (List.range n).map (fun i => b + o + i)
  if kind ≤ 3 then
    span 0x200 32 ++ span 0x20 8 ++ span 0x40 5 ++ span 0x60 16 ++ [b + 0x1C] ++
      (if kind = 3 then (List.range 8).map (fun i => b + 0x1020 + i) else [])
  else span 0x220 32 ++ span 0x80 32 ++ span 0x50 4 ++ [b + 0x1A, b + 0x1B, 0x14101 + 0x10 * ch.val]

/-- The frame's work of a Drive Set program (R335, R340). -/
def dsRun (d : CtrlDie) (r : Run) (x : Slot) : DsResult :=
  if (dsReads r.channel x.ds).any (fun a => d.poisoned.contains a || r.latchBad.contains a) then .fail 3
  else if x.ds ≤ 3 then dsInner d r x.ds (x.runNo == 0) x.dsState
  else dsOuter d r (x.runNo == 0) x.dsState

end Sys2Proof.Machine
end

