-- ==== Sys2Proof/Machine/Crc.lean ====
section
/-! DEFINITION. The cyclic redundancy checks the spec names, bit by bit from their polynomials. -/

namespace Sys2Proof.Machine

/-- Bits of a number, most significant first. -/
def msbBits (n v : Nat) : List Bool := (List.range n).map (fun i => v.testBit (n - 1 - i))

/-- One bit into a CRC register of `width` bits that shifts left. -/
def crcStep (width poly : Nat) (crc : Nat) (b : Bool) : Nat :=
  let top := crc.testBit (width - 1)
  let sh := crc * 2 % 2 ^ width
  if top != b then sh ^^^ poly else sh

/-- A CRC over bits in order. -/
def crcBits (width poly init : Nat) (bits : List Bool) : Nat := bits.foldl (crcStep width poly) init

/-- CRC-16, polynomial 0x1021, initial value 0xFFFF (01_dies_and_paths.md, R54). -/
def crc16 (bits : List Bool) : Nat := crcBits 16 0x1021 0xFFFF bits

/-- CRC-16 over bytes, each most significant bit first. -/
def crc16Bytes (bs : List Byte) : Nat := crc16 (bs.flatMap (fun b => msbBits 8 b.toNat))

/-- One bit into a reflected CRC register. -/
def crcStepR (poly crc : Nat) (b : Bool) : Nat :=
  let low := crc.testBit 0
  if low != b then (crc / 2) ^^^ poly else crc / 2

/-- CRC-32C: Castagnoli, reflected, initial 0xFFFF_FFFF, final inversion (16_host_rings.md). -/
def crc32c (bs : List Byte) : Nat :=
  (bs.flatMap (fun b => (msbBits 8 b.toNat).reverse)).foldl (crcStepR 0x82F63B78) 0xFFFFFFFF ^^^ 0xFFFFFFFF

end Sys2Proof.Machine
end

