-- ==== Sys2Proof/Machine/EngineOps.lean ====
section
/-! DEFINITION. The integer, binary32, angle, signal and scratch instructions of the Oryx engines (04_oryx_engines.md, 05_engine_arithmetic.md). -/

namespace Sys2Proof.Machine

/-- A result without flags (R185). -/
def pureRes (v : Word) : FRes := ⟨v, 0⟩

/-- The high word of the signed product. -/
def mulHigh (a b : Word) : Word := BitVec.ofInt 32 (a.toInt * b.toInt / 2 ^ 32)

/-- The high word of the unsigned product. -/
def mulHighU (a b : Word) : Word := BitVec.ofNat 32 (a.toNat * b.toNat / 2 ^ 32)

/-- A shift amount: B[4:0]. -/
def shiftAmt (b : Word) : Nat := b.toNat % 32

/-- ADD (R150). -/
def execAdd (die : CtrlId) (engine : EngineNo) (s : State) : Out :=
  .next (s.alu2 die engine 0x10 (fun a b => pureRes (a + b)))

/-- SUB (R150). -/
def execSub (die : CtrlId) (engine : EngineNo) (s : State) : Out :=
  .next (s.alu2 die engine 0x11 (fun a b => pureRes (a - b)))

/-- MUL (R150). -/
def execMul (die : CtrlId) (engine : EngineNo) (s : State) : Out :=
  .next (s.alu2 die engine 0x12 (fun a b => pureRes (a * b)))

/-- MULH (R150). -/
def execMulh (die : CtrlId) (engine : EngineNo) (s : State) : Out :=
  .next (s.alu2 die engine 0x13 (fun a b => pureRes (mulHigh a b)))

/-- MULHU (R150). -/
def execMulhu (die : CtrlId) (engine : EngineNo) (s : State) : Out :=
  .next (s.alu2 die engine 0x14 (fun a b => pureRes (mulHighU a b)))

/-- AND (R150). -/
def execAnd (die : CtrlId) (engine : EngineNo) (s : State) : Out :=
  .next (s.alu2 die engine 0x15 (fun a b => pureRes (a &&& b)))

/-- OR (R150). -/
def execOr (die : CtrlId) (engine : EngineNo) (s : State) : Out :=
  .next (s.alu2 die engine 0x16 (fun a b => pureRes (a ||| b)))

/-- XOR (R150). -/
def execXor (die : CtrlId) (engine : EngineNo) (s : State) : Out :=
  .next (s.alu2 die engine 0x17 (fun a b => pureRes (a ^^^ b)))

/-- SHL (R150). -/
def execShl (die : CtrlId) (engine : EngineNo) (s : State) : Out :=
  .next (s.alu2 die engine 0x18 (fun a b => pureRes (a <<< shiftAmt b)))

/-- SHR (R150). -/
def execShr (die : CtrlId) (engine : EngineNo) (s : State) : Out :=
  .next (s.alu2 die engine 0x19 (fun a b => pureRes (a >>> shiftAmt b)))

/-- SAR (R150). -/
def execSar (die : CtrlId) (engine : EngineNo) (s : State) : Out :=
  .next (s.alu2 die engine 0x1A (fun a b => pureRes (a.sshiftRight (shiftAmt b))))

/-- MIN (R150). -/
def execMin (die : CtrlId) (engine : EngineNo) (s : State) : Out :=
  .next (s.alu2 die engine 0x1B (fun a b => pureRes (if a.toInt ≤ b.toInt then a else b)))

/-- MAX (R150). -/
def execMax (die : CtrlId) (engine : EngineNo) (s : State) : Out :=
  .next (s.alu2 die engine 0x1C (fun a b => pureRes (if a.toInt ≤ b.toInt then b else a)))

/-- MINU (R150). -/
def execMinu (die : CtrlId) (engine : EngineNo) (s : State) : Out :=
  .next (s.alu2 die engine 0x1D (fun a b => pureRes (if a.toNat ≤ b.toNat then a else b)))

/-- MAXU (R150). -/
def execMaxu (die : CtrlId) (engine : EngineNo) (s : State) : Out :=
  .next (s.alu2 die engine 0x1E (fun a b => pureRes (if a.toNat ≤ b.toNat then b else a)))

/-- SEQ (R150). -/
def execSeq (die : CtrlId) (engine : EngineNo) (s : State) : Out :=
  .next (s.alu2 die engine 0x1F (fun a b => pureRes (boolWord (a == b))))

/-- SLT (R150). -/
def execSlt (die : CtrlId) (engine : EngineNo) (s : State) : Out :=
  .next (s.alu2 die engine 0x20 (fun a b => pureRes (boolWord (decide (a.toInt < b.toInt)))))

/-- SLTU (R150). -/
def execSltu (die : CtrlId) (engine : EngineNo) (s : State) : Out :=
  .next (s.alu2 die engine 0x21 (fun a b => pureRes (boolWord (decide (a.toNat < b.toNat)))))

/-- SEL (R150). -/
def execSel (die : CtrlId) (engine : EngineNo) (s : State) : Out :=
  .next (s.alu3 die engine 0x22 (fun a b c => pureRes (if c ≠ 0 then a else b)))

/-- MOVI (R150). -/
def execMovi (die : CtrlId) (engine : EngineNo) (s : State) : Out :=
  .next (s.onRun die engine 0x23 (fun r w => r.put w (pureRes (fImm w))))

/-- QMUL (R191). -/
def execQmul (die : CtrlId) (engine : EngineNo) (s : State) : Out :=
  .next (s.alu2 die engine 0x24 (fun a b => qmul a b))

/-- QINT (R192): gD is also an operand; MOD bit 33 chooses CLAMP. -/
def execQint (die : CtrlId) (engine : EngineNo) (s : State) : Out :=
  .next (s.onRun die engine 0x25 (fun r w =>
    r.put w (qint (w.getLsbD 33) (r.reg (fD w)) (r.reg (fA w)) (r.opB w))))

/-- SADD (R193). -/
def execSadd (die : CtrlId) (engine : EngineNo) (s : State) : Out :=
  .next (s.alu2 die engine 0x28 (fun a b => sadd a b))

/-- SSUB (R193). -/
def execSsub (die : CtrlId) (engine : EngineNo) (s : State) : Out :=
  .next (s.alu2 die engine 0x29 (fun a b => ssub a b))

/-- FADD (R173). -/
def execFadd (die : CtrlId) (engine : EngineNo) (s : State) : Out :=
  .next (s.alu2 die engine 0x30 (fun a b => fadd a b))

/-- FSUB (R173). -/
def execFsub (die : CtrlId) (engine : EngineNo) (s : State) : Out :=
  .next (s.alu2 die engine 0x31 (fun a b => fsub a b))

/-- FMUL (R173). -/
def execFmul (die : CtrlId) (engine : EngineNo) (s : State) : Out :=
  .next (s.alu2 die engine 0x32 (fun a b => fmul a b))

/-- FMA (R179). -/
def execFma (die : CtrlId) (engine : EngineNo) (s : State) : Out :=
  .next (s.alu3 die engine 0x33 ffma)

/-- FMS (R179). -/
def execFms (die : CtrlId) (engine : EngineNo) (s : State) : Out :=
  .next (s.alu3 die engine 0x34 ffms)

/-- FNMA (R179). -/
def execFnma (die : CtrlId) (engine : EngineNo) (s : State) : Out :=
  .next (s.alu3 die engine 0x35 ffnma)

/-- FDIV (R179). -/
def execFdiv (die : CtrlId) (engine : EngineNo) (s : State) : Out :=
  .next (s.alu2 die engine 0x36 (fun a b => fdiv a b))

/-- FSQRT (R179). -/
def execFsqrt (die : CtrlId) (engine : EngineNo) (s : State) : Out :=
  .next (s.alu1 die engine 0x37 fsqrt)

/-- FRSQ (R179). -/
def execFrsq (die : CtrlId) (engine : EngineNo) (s : State) : Out :=
  .next (s.alu1 die engine 0x38 frsq)

/-- FMIN (R181). -/
def execFmin (die : CtrlId) (engine : EngineNo) (s : State) : Out :=
  .next (s.alu2 die engine 0x39 (fun a b => fmin a b))

/-- FMAX (R181). -/
def execFmax (die : CtrlId) (engine : EngineNo) (s : State) : Out :=
  .next (s.alu2 die engine 0x3A (fun a b => fmax a b))

/-- FABS (R177). -/
def execFabs (die : CtrlId) (engine : EngineNo) (s : State) : Out :=
  .next (s.alu1 die engine 0x3B fabs)

/-- FNEG (R177). -/
def execFneg (die : CtrlId) (engine : EngineNo) (s : State) : Out :=
  .next (s.alu1 die engine 0x3C fneg)

/-- FEQ (R180). -/
def execFeq (die : CtrlId) (engine : EngineNo) (s : State) : Out :=
  .next (s.alu2 die engine 0x3D (fun a b => feq a b))

/-- FLT (R180). -/
def execFlt (die : CtrlId) (engine : EngineNo) (s : State) : Out :=
  .next (s.alu2 die engine 0x3E (fun a b => flt a b))

/-- FLE (R180). -/
def execFle (die : CtrlId) (engine : EngineNo) (s : State) : Out :=
  .next (s.alu2 die engine 0x3F (fun a b => fle a b))

/-- FCLAMP (R182). -/
def execFclamp (die : CtrlId) (engine : EngineNo) (s : State) : Out :=
  .next (s.alu3 die engine 0x40 fclamp)

/-- CVTFI (R183). -/
def execCvtfi (die : CtrlId) (engine : EngineNo) (s : State) : Out :=
  .next (s.alu1 die engine 0x41 cvtfi)

/-- CVTIF (R184). -/
def execCvtif (die : CtrlId) (engine : EngineNo) (s : State) : Out :=
  .next (s.alu1 die engine 0x42 cvtif)

/-- CVTUF (R184). -/
def execCvtuf (die : CtrlId) (engine : EngineNo) (s : State) : Out :=
  .next (s.alu1 die engine 0x43 cvtuf)

/-- CVTFQ (R183). -/
def execCvtfq (die : CtrlId) (engine : EngineNo) (s : State) : Out :=
  .next (s.alu1 die engine 0x44 cvtfq)

/-- CVTQF (R184). -/
def execCvtqf (die : CtrlId) (engine : EngineNo) (s : State) : Out :=
  .next (s.alu1 die engine 0x45 cvtqf)

/-- SINCOS (R194, R195): gD gets the sine, g(D+1) the cosine. -/
def execSincos (die : CtrlId) (engine : EngineNo) (s : State) : Out :=
  .next (s.onRun die engine 0x50 (fun r w =>
    let a := r.reg (fA w)
    (r.put w ⟨sinAng a, sincosFlags a⟩).setReg (fD w + 1) (cosAng a)))

/-- ATAN2 (R196): y in gA, x in gB; it has no immediate form, and R147 keeps its MOD zero. -/
def execAtan2 (die : CtrlId) (engine : EngineNo) (s : State) : Out :=
  .next (s.alu2 die engine 0x51 (fun a b => fatan2 a b))

/-- AADD (R150). -/
def execAadd (die : CtrlId) (engine : EngineNo) (s : State) : Out :=
  .next (s.alu2 die engine 0x52 (fun a b => pureRes (a + b)))

/-- ASUB (R150). -/
def execAsub (die : CtrlId) (engine : EngineNo) (s : State) : Out :=
  .next (s.alu2 die engine 0x53 (fun a b => pureRes (a - b)))

/-- CVTAF (R197). -/
def execCvtaf (die : CtrlId) (engine : EngineNo) (s : State) : Out :=
  .next (s.alu1 die engine 0x54 cvtaf)

/-- CVTFA (R198). -/
def execCvtfa (die : CtrlId) (engine : EngineNo) (s : State) : Out :=
  .next (s.alu1 die engine 0x55 cvtfa)

/-- LDS (R108): gD gets the signal at EA through the latch. -/
def execLds (die : CtrlId) (engine : EngineNo) (s : State) : Out :=
  .next (s.onInstr die engine 0x60 (fun r w =>
    s.afterLoad die engine r (loadMany die s.now 1 (fD w).toNat (r.ea w) r (s.die die) [])))

/-- LDV (R155): COUNT consecutive signals into consecutive registers. -/
def execLdv (die : CtrlId) (engine : EngineNo) (s : State) : Out :=
  .next (s.onInstr die engine 0x61 (fun r w =>
    s.afterLoad die engine r (loadMany die s.now (fCount w) (fD w).toNat (r.ea w) r (s.die die) [])))

/-- STS (R156): gA into the write buffer for the signal at EA. -/
def execSts (die : CtrlId) (engine : EngineNo) (s : State) : Out :=
  .next (s.onInstr die engine 0x62 (fun r w =>
    s.afterStore die engine r (storeMany 1 (fA w).toNat (r.ea w) r)))

/-- STV (R156): COUNT consecutive registers into the write buffer. -/
def execStv (die : CtrlId) (engine : EngineNo) (s : State) : Out :=
  .next (s.onInstr die engine 0x63 (fun r w =>
    s.afterStore die engine r (storeMany (fCount w) (fA w).toNat (r.ea w) r)))

/-- Device time as the die's own copy shows it (R52). -/
def State.localTime (s : State) (d : CtrlId) : Nat :=
  ((s.now : Int) + s.clocks[(⟨d.ix.val, by omega⟩ : Fin 8)].skew).toNat

/-- What XRD reads (04_oryx_engines.md): die, engine, device time, issue interval, ticks since the start of the run. Whether "as last measured" means the last reading or the filtered value of R203 the spec leaves open: the model gives the filtered value (DESIGN CHOICE, assumption 75). -/
def State.xrdValue (s : State) (d : CtrlId) (e : EngineNo) (r : Run) (sel : Nat) : Word :=
  if sel = 0 then w32 d.code
  else if sel = 1 then w32 e.val
  else if sel = 2 then w32 (s.localTime d)
  else if sel = 3 then w32 (s.localTime d / 2 ^ 32)
  else if sel = 4 then w32 ((s.plan[d.ix]).engines[e].filtered / 65536)
  else w32 (s.now - r.startTime)

/-- XRD (R165): a die-local value into a scratch register. -/
def execXrd (die : CtrlId) (engine : EngineNo) (s : State) : Out :=
  .next (s.onRun die engine 0x70 (fun r w => (r.setX (fD w) (s.xrdValue die engine r (fImm w).toNat)).step))

/-- XMOV (R166): a general register into a scratch register. -/
def execXmov (die : CtrlId) (engine : EngineNo) (s : State) : Out :=
  .next (s.onRun die engine 0x71 (fun r w => (r.setX (fD w) (r.reg (fA w))).step))

/-- XADD (R166). -/
def execXadd (die : CtrlId) (engine : EngineNo) (s : State) : Out :=
  .next (s.onRun die engine 0x72 (fun r w => (r.setX (fD w) (r.xreg (fA w) + r.xreg (fB w))).step))

/-- XSUB (R166). -/
def execXsub (die : CtrlId) (engine : EngineNo) (s : State) : Out :=
  .next (s.onRun die engine 0x73 (fun r w => (r.setX (fD w) (r.xreg (fA w) - r.xreg (fB w))).step))

/-- XST (R165): a scratch register to the exempt signal at SIG, committed at FEND. -/
def execXst (die : CtrlId) (engine : EngineNo) (s : State) : Out :=
  .next (s.onRun die engine 0x74 (fun r w =>
    { r with xbuf := kvPut r.xbuf ((fImm w).toNat % 2 ^ 18) (r.xreg (fA w)) }.step))

end Sys2Proof.Machine
end

