-- ==== Sys2Proof/Machine/Runs.lean ====
section
/-! DEFINITION. The life of a run (04_oryx_engines.md, R138 to R145; 06_planning_and_ageing.md, R229 to R235; 13_lockstep.md, R444 to R449): ready, start, control instructions, FEND, deadlines, verdicts, moves and swaps. -/

namespace Sys2Proof.Machine

/-- T_su of a channel in ticks (R35). -/
def State.tsu (s : State) (c : Channel) : Nat := s.fld (Reg.chCarrier c.val) 18 11
/-- Carrier period P in ticks; its bit 0 reads zero (R61). -/
def State.period (s : State) (c : Channel) : Nat := s.fld (Reg.chCarrier c.val) 0 18 / 2 * 2
/-- Double update (R60). -/
def State.doubleUpdate (s : State) (c : Channel) : Bool := bitAt (s.reg (Reg.chCarrier c.val)) 30
/-- N_nom (R61). -/
def State.nNom (s : State) (c : Channel) : Nat := if s.doubleUpdate c then s.period c / 2 else s.period c

/-- The boundary at which the present frame ends. -/
def ChanTime.nextBoundary (c : ChanTime) : Nat := c.boundary + c.frameLen
/-- The sample instant of the next frame (R35). -/
def State.nextSample (s : State) (c : Channel) : Nat := s.ch[c].nextBoundary - s.tsu c
/-- The cut-off instant of the next frame (R36). -/
def State.nextCutOff (s : State) (c : Channel) : Nat := s.ch[c].nextBoundary - 400

/-- Is frame k one of the program's frames (R134, R221, R233)? -/
def Slot.runsIn (x : Slot) (k : Nat) : Bool :=
  x.owed == some k || frameGe k x.anchor && decide (((k + 2 ^ 32 - x.anchor % 2 ^ 32) % 2 ^ 32) % (max 1 x.divNow) = 0)

/-- Has the program's run of frame k its outcome? -/
def Slot.isDone (x : Slot) (k : Nat) : Bool :=
  match x.doneFrame with
  | some f => frameGe f k
  | none => false

/-- Has the program's run of frame k become ready? -/
def Slot.isReady (x : Slot) (k : Nat) : Bool :=
  match x.readyFrame with
  | some f => frameGe f k
  | none => false

/-- The frames whose runs may become ready, with their reference instants, the earlier first (R106, R138): the present frame, unless it is a resync frame without a sample instant, and the next once its sample instant has come. -/
def State.openFrames (s : State) (c : Channel) : List (Nat × Nat) :=
  let x := s.ch[c]
  (if x.resyncFrame then [] else [(x.frame, x.refInstant)]) ++ (if x.sampled then [((x.frame + 1) % 2 ^ 32, s.nextSample c)] else [])

/-- The ACTIVE SAMPLE_PATH program on an engine (R209). -/
def CtrlDie.samplePathOn (d : CtrlDie) (e : EngineNo) : Option SlotCode :=
  (idxs 128).find? (fun c => d.slots[c].state == .active && d.slots[c].samplePath && d.slots[c].engine == e)

/-- The deadline of a program's run for frame k (R208); none while the frame that ends it has no fixed length yet. -/
def State.deadlineOf (s : State) (slot : SlotCode) (k : Nat) : Option Nat :=
  let x := s.slotOf .a slot
  let c := s.ch[x.channel]
  let next := decide (k = (c.frame + 1) % 2 ^ 32)
  let here := decide (k = c.frame)
  if x.samplePath then
    some (if next then s.nextCutOff x.channel else if here then c.boundary - 400 else 0)
  else if ((s.die .a).samplePathOn x.engine).isSome then
    if next then none else some (if here then s.nextSample x.channel else c.refInstant)
  else if next then none else some (if here then c.nextBoundary else c.boundary)

/-- Has the deadline passed? -/
def State.deadlinePassed (s : State) (slot : SlotCode) (k : Nat) : Bool :=
  match s.deadlineOf slot k with
  | some t => due t s.now
  | none => false

/-- RUN_READY (R138, R141): of the frames whose deadline has not passed, the first that is one of the program's and for which every declared input group is fresh. -/
def execRunReady (die : CtrlId) (slot : SlotCode) (s : State) : Out :=
  let x := s.slotOf die slot
  match (s.openFrames x.channel).find? (fun f => x.state == .active && x.runsIn f.1 && !x.isReady f.1 && !x.isDone f.1
      && (die == .b || !s.deadlinePassed slot f.1) && x.inputs.all (fun a => (s.die die).freshFor a f.2)) with
  | none => .next s
  | some (k, ref) =>
    .next ((s.modCtrl die (fun d => { d with ready := d.ready ++ [⟨slot, k, ref⟩] })).modSlot die slot (fun y => { y with readyFrame := some k }))

/-- Is a run of the program in progress on the die (R140: a program never has two runs at once)? -/
def CtrlDie.running (d : CtrlDie) (c : SlotCode) : Bool :=
  (idxs 16).any (fun e => d.engines[e].run.any (fun r => r.slot == c))

/-- A run of CTRL-B that had not started on CTRL-A when an effect still on its way was applied there starts after that effect (R21). -/
def State.heldByEffect (s : State) (die : CtrlId) (slot : SlotCode) (frame : Nat) : Bool :=
  die == .b && s.linkUp .ctrlA .ctrlB && s.forward.any (fun f =>
    f.channel.all (fun c => (s.slotOf die slot).channel == c)
      && !f.started.any (fun q => q.1 == slot && q.2.any (fun k => frameGe k frame)))

/-- The program leaves its engine at the boundary that has come, by a swap or a move that has only to be carried out (R220, R234): none of its runs starts there, but for one of CTRL-B that CTRL-A has had. -/
def State.leaving (s : State) (die : CtrlId) (r : ReadyRun) : Bool :=
  ((s.slotOf .a r.slot).moveDue || s.planner.swaps.any (fun w => w.due && !w.done && w.old == some r.slot))
    && !(die == .b && (s.slotOf .a r.slot).isDone r.frame)

/-- May this ready run start on the engine now? R141: not after its deadline; R21: on CTRL-B not before an effect that preceded it on CTRL-A; R210: beside a SAMPLE_PATH program, not between a sample instant and the end of that frame's sample-path run. -/
def State.mayStart (s : State) (die : CtrlId) (e : EngineNo) (r : ReadyRun) : Bool :=
  let x := s.slotOf die r.slot
  let held := match (s.die die).samplePathOn e with
    | none => false
    | some sp =>
      let y := s.slotOf die sp
      let k := (s.ch[y.channel].frame + 1) % 2 ^ 32
      sp != r.slot && s.ch[y.channel].sampled && y.runsIn k && !y.isDone k
  x.engine == e && x.state == .active && !held && !s.leaving die r && !(s.die die).running r.slot && !s.heldByEffect die r.slot r.frame && (die == .b || !s.deadlinePassed r.slot r.frame)

/-- Registers at the start of a run (R124, R125): g0 to g31 zero, the persistent registers as last committed. -/
def startRegs (p : Vector Word 32) : Vector Word 64 := ((Vector.replicate 32 (0 : Word)) ++ p)

/-- The first ready run in the engine's order (R140). -/
def State.pickRun (s : State) (die : CtrlId) (e : EngineNo) : Option ReadyRun :=
  ((s.die die).ready.filter (s.mayStart die e)).foldl (fun b r =>
    match b with
    | none => some r
    | some q => if (s.slotOf die r.slot).order < (s.slotOf die q.slot).order then some r else b) none

/-- Latches a declared input group from the commit that made it fresh against a reference instant (R139): the earliest replaced one that was fresh, else the present one. -/
def latchInput (ref : Nat) (die : CtrlId) (now : Nat) (p : Run × CtrlDie × List Event) (a : Nat) : Run × CtrlDie × List Event :=
  let as := p.2.1.latchSet a
  match p.2.1.past.find? (fun q => q.base == as.headD a && decide (ref ≤ q.stamp)) with
  | some q => ({ p.1 with latch := (as.zip q.values).foldl (fun m w => kvPut m w.1 w.2) p.1.latch }, p.2.1, p.2.2)
  | none =>
    let r := latchAddrs p.1 p.2.1 die now as
    (r.1, r.2.1, p.2.2 ++ r.2.2)

/-- RUN_START (R139, R140): a free engine starts the first ready run in its order and latches its declared inputs. -/
def execRunStart (die : CtrlId) (engine : EngineNo) (s : State) : Out :=
  if (s.engine die engine).phase ≠ .idle then .next s
  else match s.pickRun die engine with
    | none => .next s
    | some q =>
      let x := s.slotOf die q.slot
      let r0 : Run := { slot := q.slot, channel := x.channel, frame := q.frame, refInstant := q.refInstant, div := x.divNow,
                        frameLen := s.ch[x.channel].frameLen, runNo := x.runNo, startTime := s.now, g := startRegs x.persist }
      let (r, d, ev) := x.inputs.foldl (latchInput q.refInstant die s.now) (r0, s.die die, [])
      let s1 := (s.modCtrl die (fun _ => { d with ready := d.ready.filter (· != q) })).raiseFor die ev
      let s2 := s1.modEngine die engine (fun g => { g with phase := .running, run := some r })
      if 1024 < r.latch.length then .next (s2.failRun die engine r 2) else .next s2

/-- NOP (R150). -/
def execNop (die : CtrlId) (engine : EngineNo) (s : State) : Out :=
  .next (s.onRun die engine 0x00 (fun r _ => r.step))

/-- BR (R151). -/
def execBr (die : CtrlId) (engine : EngineNo) (s : State) : Out :=
  .next (s.onRun die engine 0x03 (fun r w => r.jump (fImm w)))

/-- BZ (R151). -/
def execBz (die : CtrlId) (engine : EngineNo) (s : State) : Out :=
  .next (s.onRun die engine 0x04 (fun r w => if r.reg (fA w) = 0 then r.jump (fImm w) else r.step))

/-- BNZ (R151). -/
def execBnz (die : CtrlId) (engine : EngineNo) (s : State) : Out :=
  .next (s.onRun die engine 0x05 (fun r w => if r.reg (fA w) ≠ 0 then r.jump (fImm w) else r.step))

/-- LPS (R152): skips on a count of 0, fails above BOUND, else pushes the count. -/
def execLps (die : CtrlId) (engine : EngineNo) (s : State) : Out :=
  .next (s.onInstr die engine 0x06 (fun r w =>
    let c := r.reg (fA w)
    if c = 0 then s.setRun die engine { r with pc := r.pc + 1 + bitsAt (fImm w) 0 16 }
    else if bitsAt (fImm w) 16 16 < c.toNat then s.failRun die engine r 1
    else s.setRun die engine { r.step with loops := c :: r.loops }))

/-- LPE (R152): decrements the top counter; jumps back unless it is zero, else pops it. -/
def execLpe (die : CtrlId) (engine : EngineNo) (s : State) : Out :=
  .next (s.onRun die engine 0x07 (fun r w =>
    match r.loops with
    | [] => r.step
    | c :: cs => if c - 1 ≠ 0 then { r.jump (fImm w) with loops := (c - 1) :: cs } else { r.step with loops := cs }))

/-- What RINFO selects (R153's table). -/
def Run.info (r : Run) (sel : Nat) : Word :=
  if sel = 0 then w32 r.channel.val
  else if sel = 1 then w32 r.frame
  else if sel = 2 then w32 r.refInstant
  else if sel = 3 then w32 (r.refInstant / 2 ^ 32)
  else if sel = 4 then w32 r.frameLen
  else if sel = 5 then w32 r.runNo
  else if sel = 6 then w32 r.div
  else w32 r.slot.val

/-- RINFO (R153). -/
def execRinfo (die : CtrlId) (engine : EngineNo) (s : State) : Out :=
  .next (s.onRun die engine 0x08 (fun r w => r.put w (pureRes (r.info (fImm w).toNat))))

/-- A fresh group is latched again and the WAIT completes (R110). -/
def State.finishWait (s : State) (d : CtrlId) (e : EngineNo) (r : Run) (a : Nat) : State :=
  match (s.die d).groupOf a with
  | none => (s.setRun d e r.step).modEngine d e (fun g => { g with phase := .running })
  | some _ =>
    let (r1, dd, ev) := latchAddrs r (s.die d) d s.now ((s.die d).latchSet a)
    let s1 := ((s.modCtrl d (fun _ => dd)).modEngine d e (fun g => { g with phase := .running })).raiseFor d ev
    if 1024 < r1.latch.length then s1.failRun d e r 2
    else if r1.latchBad.contains a then s1.failRun d e r 3
    else s1.setRun d e r1.step

/-- WAIT (R110): completes at once outside any group or on a fresh group, else stalls the engine; exempt and poisoned signals fail the run (R119, R167). -/
def execWait (die : CtrlId) (engine : EngineNo) (s : State) : Out :=
  .next (s.onInstr die engine 0x02 (fun r w =>
    let a := r.ea w
    if 0x3F000 ≤ a then s.failRun die engine r 5
    else if (s.die die).poisoned.contains a then s.failRun die engine r 3
    else if (s.die die).freshFor a r.refInstant then s.finishWait die engine r a
    else (s.setRun die engine { r with waitAt := a }).modEngine die engine (fun g => { g with phase := .waiting })))

/-- WAIT_COMPLETION (R110). -/
def execWaitCompletion (die : CtrlId) (engine : EngineNo) (s : State) : Out :=
  match (s.engine die engine).phase, (s.engine die engine).run with
  | .waiting, some r =>
    if (s.die die).freshFor r.waitAt r.refInstant then .next (s.finishWait die engine r r.waitAt) else .next s
  | _, _ => .next s

/-- Completes a descriptor (R562). -/
def State.complete (s : State) (ring index status detail : Nat) (result : Word) : State :=
  { s with done := s.done ++ [⟨ring, index, status, detail, result⟩] }

/-- Empties a slot on one die (R99, R132): its entries and claims go with it. -/
def State.emptySlot (s : State) (d : CtrlId) (c : SlotCode) : State :=
  s.modCtrl d (fun x => { x with slots := x.slots.set c.val {} c.isLt, dir := dropProgram x.dir c.val,
                                 ready := x.ready.filter (fun r => r.slot != c) })

/-- Empties a slot on both dies. -/
def State.emptyBoth (s : State) (c : SlotCode) : State := (s.emptySlot .a c).emptySlot .b c

/-- The swap whose new program this is completes (R235): OK, the RETIRING slot becomes EMPTY. -/
def State.finishSwap (s : State) (slot : SlotCode) (status detail : Nat) : State :=
  match s.planner.swaps.find? (fun w => w.done && w.new == some slot) with
  | none => s
  | some w =>
    let s1 := { s with planner := { s.planner with swaps := s.planner.swaps.filter (· != w) } }
    let s2 := match w.old with
      | some o => if (s1.slotOf .a o).state == SlotState.retiring then s1.emptyBoth o else s1
      | none => s1
    s2.complete w.ring w.index status detail (if status = 0 then w32 (s.slotOf .a slot).firstFrame else 0)

/-- Addresses of the exported flags of a slot code (R186). -/
def flagsAddr (c : SlotCode) : Nat := 0x300 + 2 * c.val

/-- What one commit of a run did to its die. -/
structure RunCommit where
  die : CtrlDie
  events : List Event
  flags : BitVec 8
  writes : Kv Word
  /-- Writes that reached the board. -/
  written : Kv Word

/-- FEND's commit on one die (R102, R103, R142, R156, R165, R186): the write buffer, the exempt stores, the persistent registers, then the exported flags. Stores by STS to exempt signals are refused. The signature folds what it writes in the address order of R103, the exported flags at their place (R448). -/
def CtrlDie.commitRun (d : CtrlDie) (now : Nat) (r : Run) : RunCommit :=
  let owner := 0x100 + r.slot.val
  let normal := r.wbuf.filter (fun w => w.1 < 0x3F000)
  let wrong := r.wbuf.filter (fun w => decide (0x3F000 ≤ w.1))
  let c1 := d.commit now owner r.refInstant normal
  let c2 := wrong.foldl (fun c w => c.refuse now owner w.1 ((c.die.entryOf w.1).elim 0 (fun e => e.owner))) c1
  let c3 := r.xbuf.foldl (fun c w => c.write now owner r.refInstant w.1 w.2) c2
  let x := d.slots[r.slot]
  let fl := if c3.nfr then r.flags ||| flagNFR else r.flags
  let old := if x.freshFlags then 0 else kvGet 0 c3.die.board (flagsAddr r.slot + 1)
  let fw : Kv Word := [(flagsAddr r.slot, fl.zeroExtend 32), (flagsAddr r.slot + 1, old ||| fl.zeroExtend 32)]
  let c4 := c3.die.commit now 0x0001 r.refInstant fw
  let d5 := { c4.die with slots := vUpd c4.die.slots r.slot (fun y =>
      { y.ended r.frame with
        persist := (r.g.drop 32).cast (by omega)
        dsState := r.ds
        runNo := (y.runNo + 1) % 2 ^ 32
        freshFlags := false }) }
  let folded := normal.filter (fun w => decide (w.1 < flagsAddr r.slot)) ++ fw ++ normal.filter (fun w => decide (flagsAddr r.slot ≤ w.1)) ++ wrong
  ⟨d5, c3.events ++ c4.events, fl, folded, c3.written ++ c4.written⟩

/-- Ends a run with its commit on one die and files its outcome (R142, R446, R448). -/
def State.endRun (s : State) (d : CtrlId) (e : EngineNo) (r : Run) : State × RunCommit :=
  let c := (s.die d).commitRun s.now r
  let s1 := (s.modCtrl d (fun _ => c.die)).freeEngine d e
  let s2 := ((if d = .a then (s1.raiseAll c.events).sendFlits (commitFlits c.writes) else s1).traceCommit d r.refInstant c.written)
  let s3 := s2.fileOutcome d e r.slot.val r.channel r.frame r.refInstant 0
    (runSig c.writes (commitFlits c.writes) (runRecord 0 r.slot.val c.flags r.frame))
  (s3, c)

/-- ARITH_EXCEPTION (R188). -/
def State.arithEvent (s : State) (r : Run) (fl : BitVec 8) : State :=
  let mask : BitVec 8 := (s.reg Reg.arithEvtMask).setWidth 8
  let last := (s.die .a).lastArith
  let t := if kvHas last r.slot.val then some (kvGet 0 last r.slot.val) else none
  if fl &&& mask ≠ 0 ∧ rateOk t s.now sTicks then
    (s.raise 0x1030 (0x100 + r.slot.val) 4 [w32 r.channel.val, w32 r.frame, fl.zeroExtend 32]).modCtrl .a
      (fun d => { d with lastArith := kvPut d.lastArith r.slot.val s.now })
  else s

/-- The reads of a Drive Set run that its latch does not serve: ECC and unassigned signals as at any read (R95, R118, R119). -/
def State.dsFetch (s : State) (d : CtrlId) (r : Run) : State :=
  let as := (dsReads r.channel (s.slotOf d r.slot).ds).filter (fun a => !kvHas r.latch a)
  let (_, d1, ev) := (s.die d).readMany d s.now (0x100 + r.slot.val) as
  (s.modCtrl d (fun _ => d1)).raiseFor d ev

/-- A program of the Drive Set forms what it commits, with the flags of its arithmetic (R185, R335, R340). -/
def State.dsFinish (s : State) (d : CtrlId) (e : EngineNo) (r : Run) (k : State → Run → State) : State :=
  let s1 := s.dsFetch d r
  match dsRun (s1.die d) r (s1.slotOf d r.slot) with
  | .fail cause => s1.failRun d e r cause
  | .commit writes keep fl => k s1 { r with wbuf := writes, ds := keep, flags := r.flags ||| fl }

/-- The voltage reference group of a channel as committed; none while one of its words is poisoned (R119, R328). -/
def State.vrefWords (s : State) (c : Channel) : Option (Vector Word 4) :=
  let a := chBase c + 0x100
  if (List.range 4).any (fun i => (s.die .a).poisoned.contains (a + i)) then none else some (Vector.ofFn (fun i => s.sig (a + i.val)))

/-- The commit of a channel's voltage reference group is its publication for a frame; a commit that writes none of the group publishes nothing (R37, R142). -/
def State.publishRef (s : State) (c : Channel) (slot : SlotCode) (frame : Nat) (written : Kv Word) : State :=
  if written.any (fun w => decide (chBase c + 0x100 ≤ w.1 ∧ w.1 < chBase c + 0x104)) then
    s.modCh c (fun x => { x with published := some ⟨slot, frame, s.vrefWords c⟩ })
  else s

/-- A run of CTRL-A commits at its frame end (R142): the verdict COMMIT, the publication of a sample-path program's reference set (R37), of both channels' by DS-D3-IN (R326), or the completion of a swap of another program (R235). -/
def State.commitA (s : State) (e : EngineNo) (r : Run) : State :=
  let (s1, k) := s.endRun .a e r
  let s2 := (s1.arithEvent r k.flags).verdict r.slot r.frame 0
  let x := s2.slotOf .a r.slot
  if x.samplePath then
    let s3 := s2.publishRef r.channel r.slot r.frame k.written
    let mate := pairMate r.channel
    if x.ds = 3 then s3.publishRef mate r.slot ((s3.ch[mate].frame + 1) % 2 ^ 32) k.written else s3
  else s2.finishSwap r.slot 0 0

/-- CTRL-B holds its commit until the verdict (R445). -/
def State.holdB (s : State) (e : EngineNo) (r : Run) : State :=
  s.modEngine .b e (fun g => { g with phase := .committing, run := some r })

/-- FEND of one run on its die. -/
def State.fendRun (s : State) (d : CtrlId) (e : EngineNo) (r : Run) : State :=
  match d with
  | .a => s.commitA e r
  | .b => s.holdB e r

/-- FEND (R142): of a program of the Drive Set, with the frame's work it has formed (R335, R340). -/
def State.fend (s : State) (d : CtrlId) (e : EngineNo) : State :=
  match (s.engine d e).phase, (s.engine d e).run with
  | .running, some r =>
    if (s.slotOf d r.slot).ds = 0 then s.onInstr d e 0x01 (fun q _ => s.fendRun d e q)
    else s.dsFinish d e r (fun s q => s.fendRun d e q)
  | _, _ => s

/-- The engine of a die on which a program's run is in progress. -/
def CtrlDie.engineOf (d : CtrlDie) (c : SlotCode) : Option (EngineNo × Run) :=
  (idxs 16).findSome? (fun e => match d.engines[e].run with
    | some r => if r.slot = c then some (e, r) else none
    | none => none)

/-- A run that does not start: it is no longer ready, and the die files the outcome of R446 for it. -/
def State.fileUnstarted (s : State) (d : CtrlId) (c : SlotCode) (k ref outcome : Nat) : State :=
  let x := s.slotOf d c
  ((s.modCtrl d (fun y => { y with ready := y.ready.filter (fun q => q.slot != c || q.frame != k) })).modSlot d c
    (fun y => { y.ended k with readyFrame := some k })).fileOutcome d x.engine c.val x.channel k ref outcome
    (runSig [] [] (runRecord outcome c.val 0 k))

/-- Marks a run that does not take place (R141, R446). -/
def State.notRun (s : State) (d : CtrlId) (c : SlotCode) (k ref : Nat) : State := s.fileUnstarted d c k ref 7

/-- A verdict of ABORT or NOT_RUN reaches a run that has failed on CTRL-B before: the outcome that die folds is the verdict's, and the run a discarded one (R446, R448). -/
def State.recastOutcome (s : State) (slot : SlotCode) (k outcome : Nat) : State :=
  s.modCtrl .b (fun d => { d with outcomes := d.outcomes.map (fun o =>
    if o.slot = slot.val ∧ o.frame = k then { o with
      outcome := outcome
      sig := runSig [] [] (runRecord outcome slot.val 0 k) }
    else o) })

/-- The reference instant of frame k of a channel, for the frame before the present one, the present and the next (R35, R452). -/
def State.refOf (s : State) (c : Channel) (k : Nat) : Nat :=
  if k = s.ch[c].frame then s.ch[c].refInstant
  else if k = (s.ch[c].frame + 2 ^ 32 - 1) % 2 ^ 32 then s.ch[c].refPrev
  else s.nextSample c

/-- Aborts a run of CTRL-A (R144, R229): discarded there, the verdict to CTRL-B, and a miss of the given cause unless none is to be counted (R232). -/
def State.abortRun (s : State) (e : EngineNo) (r : Run) (cause : Option Nat) : State :=
  let s1 := (s.discardRun .a e r 6).verdict r.slot r.frame 6
  match cause with
  | some c => s1.miss r.slot r.channel r.frame c 0
  | none => s1

/-- RUN_DEADLINE (R229, R230): a run in progress past its deadline is aborted, a miss of cause 1; one not started never takes place, a miss of cause 2. -/
def execRunDeadline (slot : SlotCode) (s : State) : Out :=
  let x := s.slotOf .a slot
  if x.state ≠ .active then .next s
  else match (s.die .a).engineOf slot with
  | some (e, r) => if s.deadlinePassed slot r.frame then .next (s.abortRun e r (some 1)) else .next s
  | none =>
    let f := s.ch[x.channel].frame
    match [(f + 2 ^ 32 - 1) % 2 ^ 32, f, (f + 1) % 2 ^ 32].find? (fun k => x.runsIn k && !x.isDone k && s.deadlinePassed slot k) with
    | none => .next s
    | some k => .next (((s.notRun .a slot k (s.refOf x.channel k)).verdict slot k 7).miss slot x.channel k 2 0)

/-- VERDICT (R445, R446): CTRL-B commits its held run on COMMIT; on any other verdict it discards a run in progress; a run not yet started is not started on ABORT or NOT_RUN, an aborted one counting as a run there as on CTRL-A, and one that had failed takes the verdict's outcome. -/
def execVerdict (slot : SlotCode) (s : State) : Out :=
  match s.verdicts.find? (fun v => v.slot == slot) with
  | none => .next s
  | some v =>
    let s0 := { s with verdicts := s.verdicts.filter (· != v) }
    match (s.die .b).engineOf slot with
    | some (e, r) =>
      if r.frame ≠ v.frame then .next s0
      else if (s.engine .b e).phase = .committing then
        if v.outcome = 0 then .next (s0.endRun .b e r).1
        else .next (s0.discardRun .b e r (if v.outcome = 6 ∨ v.outcome = 7 then v.outcome else 0))
      else if v.outcome = 6 ∨ v.outcome = 7 then .next (s0.discardRun .b e r v.outcome)
      else .next s   -- the verdict waits until the run of CTRL-B ends
    | none =>
      if (s.slotOf .b slot).isDone v.frame then .next (if v.outcome = 6 ∨ v.outcome = 7 then s0.recastOutcome slot v.frame v.outcome else s0)
      else if v.outcome = 6 ∨ v.outcome = 7 then
        .next ((s0.fileUnstarted .b slot v.frame (s.refOf (s.slotOf .b slot).channel v.frame) v.outcome).modSlot .b slot
          (fun x => { x with runNo := if v.outcome = 6 then (x.runNo + 1) % 2 ^ 32 else x.runNo }))
      else .next s   -- the run of CTRL-B has yet to start

/-- Program c moves to another engine, on each die that the decision has reached (R219, R220). -/
def State.moveBoth (s : State) (c : SlotCode) : State :=
  let f := fun (y : Slot) => { y with engine := y.moveTo.getD y.engine, moveTo := none, moveDue := false }
  (s.modSlot .a c f).modSlot .b c f

/-- The new program becomes ACTIVE on one die (R132, R134, R186, R233). -/
def State.activate (s : State) (d : CtrlId) (c : SlotCode) : State :=
  s.modCtrl d (fun x =>
    let ch := x.slots[c].channel
    { x with slots := vUpd x.slots c (fun y =>
               { y with state := .active, runNo := 0, freshFlags := true, firstFrame := (s.ch[ch].frame + 1) % 2 ^ 32,
                        anchor := (s.ch[ch].frame + 1) % 2 ^ 32, readyFrame := none, doneFrame := none, owed := none }),
             dir := takeClaims x.dir c.val (fun k => if h : k < 128 then x.slots[k].state == .loaded else false) })

/-- The old program leaves on one die (R99, R132): RETIRING when it was ACTIVE, EMPTY when it was LOADED; its entries go. -/
def State.retireOld (s : State) (d : CtrlId) (c : SlotCode) : State :=
  if (s.slotOf d c).state = .active then
    (s.modSlot d c (fun y => { y with state := .retiring })).modCtrl d (fun x =>
      { x with dir := dropOwn x.dir c.val, ready := x.ready.filter (fun r => r.slot != c) })
  else s.emptySlot d c

/-- One accepted swap takes effect (R132, R234): ownership passes (R99). A swap that only stops a program is complete at once (R235). -/
def State.applySwap (s : State) (w : Swap) : State :=
  let s2 := match w.new with
    | some n => if w.toB then (s.activate .a n).activate .b n else s.activate .a n
    | none => s
  let s3 := match w.old with
    | some o => if w.toB then (s2.retireOld .a o).retireOld .b o else s2.retireOld .a o
    | none => s2
  match w.new, w.old with
  | none, some o =>
    (({ s3 with planner := { s3.planner with swaps := s3.planner.swaps.filter (· != w) } } : State).emptyBoth o).complete w.ring w.index 0 0 0
  | _, _ => { s3 with planner := { s3.planner with swaps := s3.planner.swaps.map (fun v => if v = w then { w with done := true } else v) } }

/-- Is the old program's run in progress running rather than stalled (R234)? -/
def State.oldRuns (s : State) (w : Swap) : Bool :=
  match w.old with
  | none => false
  | some o => match (s.die .a).engineOf o with
    | none => false
    | some (e, _) => (s.engine .a e).phase != .waiting

/-- The old program's run that stands stalled at the boundary of its swap is aborted there with cause 4 (R234). -/
def State.abortStalled (s : State) (w : Swap) : State :=
  match w.old with
  | none => s
  | some o => match (s.die .a).engineOf o with
    | some (e, r) => s.abortRun e r (some 4)
    | none => s

/-- What a frame boundary of a channel decides for its programs (R220, R234): the accepted swaps and the moves that take effect at it. -/
def State.programBoundary (s : State) (c : Channel) : State :=
  let due := fun (w : Swap) => !w.done && w.channel == c && !s.oldRuns w
  let s0 := (s.planner.swaps.filter due).foldl State.abortStalled s
  let s1 : State := { s0 with planner := { s0.planner with
    swaps := s0.planner.swaps.map (fun w => if !w.done && w.channel == c then { w with due := due w } else w) } }
  (idxs 128).foldl (fun s k =>
    let x := s.slotOf .a k
    if x.moveTo.isSome ∧ x.channel = c then
      s.modSlot .a k (fun y => { y with moveDue := ((s.die .a).engineOf k).isNone && ((s.die .b).engineOf k).isNone })
    else s) s1

/-- A miss reaction ends the wait of the channel's swaps that have taken effect (R235): REJECTED_STATE, the new program stays ACTIVE, the old slot becomes EMPTY. -/
def State.failSwaps (s : State) (c : Channel) : State :=
  (s.planner.swaps.filter (fun w => w.done && w.channel == c)).foldl (fun s w => w.new.elim s (fun n => s.finishSwap n 1 6)) s

end Sys2Proof.Machine
end

