-- ==== Sys2Proof/Machine/Links.lean ====
section
/-! DEFINITION. The die-to-die links (01_dies_and_paths.md, R24 to R30) and the effects forwarded to CTRL-B (R21). -/

namespace Sys2Proof.Machine

/-- The die at the receiving end of each link DL_00 to DL_26 (R28). -/
def linkReceiver : List Die :=
  [.ctrlA, .ctrlB, .ctrlA, .ctrlB, .sense0, .sense1, .safe, .safe, .link, .ctrlA, .ctrlB, .ctrlB, .safe, .safe,
   .ctrlA, .ctrlB, .aux, .ctrlA, .ctrlB, .store, .ctrlA, .store, .ctrlB, .store, .safe, .safe, .link]

/-- The channels that a failure of the link takes to their safe state (the last column of R28's table), as a mask. -/
def linkChannels : List Nat :=
  [0x0F, 0x0F, 0xF0, 0xF0, 0x0F, 0xF0, 0xFF, 0xFF, 0xFF, 0xFF, 0xFF, 0xFF, 0xFF, 0xFF,
   0xFF, 0xFF, 0, 0, 0, 0, 0, 0, 0, 0xFF, 0xFF, 0xFF, 0xFF]

/-- Links whose failure turns every aux slot off (R29). -/
def linkAux : List Nat := [16, 17, 18]

/-- Links into or out of CTRL-B (R30). -/
def linkCtrlB : List Nat := [1, 3, 10, 11, 13, 15, 18, 21, 22]

/-- The 128-bit flit (R24's table) with its CRC. -/
def flitBits (seq type len : Nat) (payload : BitVec 96) : BitVec 128 :=
  let head : Nat := type % 16 * 2 ^ 124 + seq % 16 * 2 ^ 120 + len % 16 * 2 ^ 116 + payload.toNat * 2 ^ 16
  BitVec.ofNat 128 (head + crc16 (msbBits 112 (head / 2 ^ 16)))

/-- A link fails (R26, R29): until the next cold start; the receiving die raises D2D_LINK_FAIL and asserts its DIE_FAULT wire. Which flit is the last not delivered the spec leaves open where several wait: the model names the oldest in the replay buffer, or the next to be sent where it is empty (DESIGN CHOICE, assumption 14). -/
def State.failLink (s : State) (l : Fin 27) : State :=
  let k := s.links[l]
  let seq := match k.replay with
    | f :: _ => f.seq
    | [] => k.txSeq
  let d := linkReceiver.getD l.val .link
  let s1 := (s.modLink l (fun k => { k with failed := true })).raise 0x0102 l.val 14 [w32 seq]
  { s1 with wires := { s1.wires with dieFault := vUpd s1.wires.dieFault d.ix (fun _ => true) } }

/-- Counts n re-sends (R27): the board signal and, at most once per millisecond, the event. -/
def State.countResends (s : State) (l : Fin 27) (n : Nat) : State :=
  let k := s.links[l]
  let k1 := { k with resends := (k.resends + n) % 2 ^ 32, resendsSinceEvent := k.resendsSinceEvent + n }
  let s1 := (s.modLink l (fun _ => k1)).hwCommit 0x0001 s.now [(0x100 + l.val, w32 k1.resends)]
  if rateOk k.lastEvent s.now msTicks then
    (s1.raise 0x0101 l.val 2 [w32 k1.resendsSinceEvent]).modLink l (fun k => { k with resendsSinceEvent := 0, lastEvent := some s.now })
  else s1

/-- Re-sends flits of the replay buffer; a flit that has been re-sent three times fails the link instead (R26). -/
def State.resend (s : State) (l : Fin 27) (fs : List SentFlit) : State :=
  if fs.any (fun f => decide (3 ≤ f.retries)) then s.failLink l
  else
    let s1 := (s.modLink l (fun k => { k with
        replay := k.replay.map (fun f => if fs.contains f then { f with sentAt := s.now, retries := f.retries + 1 } else f) })).countResends l fs.length
    s1.emitAll (fs.map (fun f => .flit l.val f.seq f.payload))

/-- FLIT (R24, R25): discarded with a negative acknowledgement when its CRC fails; delivered in order and acknowledged when it is the flit expected; a repeated flit is acknowledged again and not delivered. A link that has failed, or that the part does not have (R28), takes none. -/
def execFlit (link : Fin 27) (bits : BitVec 128) (s : State) : Out :=
  let k := s.links[link]
  let v := bits.toNat
  let seq := v / 2 ^ 120 % 16
  if k.failed || !s.hasLink link then .next s
  else if crc16 (msbBits 112 (v / 2 ^ 16)) ≠ v % 2 ^ 16 then .next (s.emit (.linkAck link.val true k.rxExpected))
  else if seq ≠ k.rxExpected then .next (s.emit (.linkAck link.val false ((k.rxExpected + 15) % 16)))
  else
    .next (((s.modLink link (fun k => { k with
        rxExpected := (k.rxExpected + 1) % 16
        delivered := k.delivered ++ [(v / 2 ^ 124, v / 2 ^ 116 % 16, BitVec.ofNat 96 (v / 2 ^ 16))]
        replay := k.replay.filter (fun f => f.seq != seq) })).emit (.linkAck link.val false seq)).sendWaiting link)

/-- NEGATIVE_ACKNOWLEDGEMENT (R25, R26): flits before the named one are acknowledged; from it on they are re-sent. -/
def execNegativeAcknowledgement (link : Fin 27) (seq : BitVec 4) (s : State) : Out :=
  let k := s.links[link]
  if k.failed || !s.hasLink link then .next s
  else
    let rest := k.replay.dropWhile (fun f => f.seq != seq.toNat)
    if rest.isEmpty then .next s
    else .next (((s.modLink link (fun k => { k with replay := rest })).resend link rest).sendWaiting link)

/-- ACKNOWLEDGEMENT_TIMEOUT (R26): every flit that has stood 2 µs without an acknowledgement is re-sent. -/
def execAcknowledgementTimeout (link : Fin 27) (s : State) : Out :=
  let k := s.links[link]
  let old := k.replay.filter (fun f => decide (f.sentAt + 800 ≤ s.now))
  if k.failed || old.isEmpty then .next s else .next (s.resend link old)

/-- Loads an image into a slot of one die (R128, R130). A group that enters the directory at a base that carried one before keeps that stamp until its next commit: no rule says what stamp it begins with (DESIGN CHOICE, assumption 74). -/
def State.loadInto (s : State) (d : CtrlId) (slot : SlotCode) (ch : Channel) (place : Nat) (im : Image) : State :=
  s.modCtrl d (fun x =>
    { x with
      prog := kvSetMany 0 x.prog (progAddr slot place 0) im.code
      dir := (addEntries x.dir slot.val im.dir).getD x.dir
      slots := vUpd x.slots slot (fun _ =>
        { state := .loaded, channel := ch, div := im.div, fallbackDiv := im.fallbackDiv, samplePath := im.samplePath,
          nInstr := im.code.length, place := place, wcount := im.wcount, wboard := im.wboard, wtable := im.wtable,
          inputs := im.inputs, boardGrant := im.boardGrant, tableGrant := im.tableGrant, ds := im.ds }) })

/-- Applies a descriptor effect to one control die. -/
def State.applyEffect (s : State) (d : CtrlId) : Effect → State
  | .commit owner stamp writes =>
    let r := (s.die d).commit s.now owner stamp writes
    let s1 := s.modCtrl d (fun _ => r.die)
    (if d = .a then s1.raiseAll r.events else s1).traceCommit d stamp r.written
  | .load slot ch place im => s.loadInto d slot ch place im
  | .tables a ws => s.modCtrl d (fun x => { x with tables := kvSetMany 0 x.tables a ws })

/-- The last frame for which a program's run has started on a die: of the run in progress, else of the last that ended. -/
def CtrlDie.startedFrame (d : CtrlDie) (c : SlotCode) : Option Nat :=
  match d.engineOf c with
  | some (_, r) => some r.frame
  | none => d.slots[c].doneFrame

/-- The frame position of a channel on a die (R21): what has started of each of its ACTIVE programs; of every channel's where none is named. -/
def CtrlDie.position (d : CtrlDie) (ch : Option Channel) : List (SlotCode × Option Nat) :=
  ((idxs 128).filter (fun c => d.slots[c].state == .active && ch.all (fun q => d.slots[c].channel == q))).map (fun c => (c, d.startedFrame c))

/-- The die's runs have started as far as a frame position says (R21). -/
def CtrlDie.atPosition (d : CtrlDie) (p : List (SlotCode × Option Nat)) : Bool :=
  p.all (fun q => q.2.all (fun k => (d.startedFrame q.1).any (fun f => frameGe f k)))

/-- A descriptor effect: on CTRL-A at once, and forwarded over DL_11 with the frame position it took effect at (R21). -/
def State.doEffect (s : State) (ch : Option Channel) (e : Effect) : State :=
  let s1 := s.applyEffect .a e
  if s.linkUp .ctrlA .ctrlB then
    { s1.sendWords .ctrlA .ctrlB "effect" e.words with forward := s1.forward ++ [⟨e, ch, (s.die .a).position ch⟩] }
  else s1

/-- FORWARDED_EFFECT (R21): CTRL-B applies the oldest effect on its way once its own runs have started as far as those of CTRL-A had. -/
def execForwardedEffect (s : State) : Out :=
  match s.forward with
  | [] => .next s
  | f :: fs =>
    if ¬ s.linkUp .ctrlA .ctrlB then .next s
    else if (s.die .b).atPosition f.started then .next (({ s with forward := fs } : State).applyEffect .b f.effect)
    else .next s

end Sys2Proof.Machine
end

