-- ==== Sys2Proof/Machine/Clock.lean ====
section
/-! DEFINITION. The time base, device time on every die, the frame schedule of the SENSE dies and timers (02_time_base_and_frames.md, R42 to R57). -/

namespace Sys2Proof.Machine

/-- Asserts the DIE_FAULT wire of a die (R31). -/
def State.assertDieFault (s : State) (d : Die) : State :=
  { s with wires := { s.wires with dieFault := vUpd s.wires.dieFault d.ix (fun _ => true) } }

/-- One tick: device time advances while the time base runs (R44, R46); in YARD a reference edge, which adds 16 (R603). -/
def State.tick (s : State) : State := if s.tb.running then { s with now := (s.now + if s.pwr.rung = 4 then 16 else 1) % 2 ^ 64 } else s

/-- The time base locks to a reference without a step of device time (R45, R48, R49): TB_REF_RESTORED with the ticks since an instant. No rule gives the width of that count: the payload holds it in two words, the low one first (DESIGN CHOICE, assumption 76). FAILED, NO_LOCK and the wire stay. -/
def State.relock (s : State) (since : Nat) : State :=
  ({ s with tb := { s.tb with locked := true, refPresent := true, holdover := false } } : State).raise 0x1002 6 3 (timeWords (s.now - since))

/-- TIME_BASE_LOCK (R44, R45, R46, R603): device time starts at zero at the first lock, and at the held value on the exit from SHED; a first lock after R45's timeout, and a lock that ends a holdover, only restore the reference. -/
def execTimeBaseLock (s : State) : Out :=
  if s.tb.running then
    if s.tb.locked then .next s
    else if s.tb.holdover then .next (s.relock s.tb.holdoverAt)
    else if s.tb.noLock then .next (s.relock 0)
    else .next s
  else
    .next { s with
      now := if s.pwr.rung = 5 then s.store.life.shedTime else 0
      tb := { s.tb with running := true, locked := true, refPresent := true, holdover := false } }

/-- LOCK_TIMEOUT (R45): at a cold start, not on the exit from SHED, device time starts at zero on the monitor oscillator. -/
def execLockTimeout (s : State) : Out :=
  if s.tb.running ∨ s.pwr.rung = 5 then .next s
  else
    .next ((({ s with now := 0, tb := { s.tb with running := true, noLock := true, failed := true } } : State).raise 0x1003 6 15 [1]).assertDieFault .link)

/-- REFERENCE_LOST (R47): the time base enters holdover. -/
def execReferenceLost (lastEdge : Nat) (s : State) : Out :=
  if s.tb.running ∧ s.tb.locked then
    .next (({ s with tb := { s.tb with locked := false, refPresent := false, holdover := true, holdoverAt := s.now, timedOut := false } } : State).raise
      0x1001 6 8 (timeWords lastEdge))
  else .next s

/-- REFERENCE_RETURN (R48, R49): the time base locks again without a step of device time; FAILED and the wire stay. -/
def execReferenceReturn (s : State) : Out :=
  if s.tb.holdover then .next (s.relock s.tb.holdoverAt) else .next s

/-- HOLDOVER_TIMEOUT (R49): 10 s of the present holdover. -/
def execHoldoverTimeout (s : State) : Out :=
  if s.tb.holdover ∧ ¬ s.tb.timedOut ∧ s.tb.holdoverAt + 10 * sTicks ≤ s.now then
    .next ((({ s with tb := { s.tb with failed := true, timedOut := true } } : State).raise 0x1003 6 15 [0]).assertDieFault .link)
  else .next s

/-- DEV_TIME_LO (R51): the read latches the high word. -/
def execDevTimeLo (s : State) : Out :=
  .next (({ s with tb := { s.tb with hiLatch := w32 (s.now / 2 ^ 32) } } : State).emit (.regRead Reg.devTimeLo (w32 s.now)))

/-- TIME_CODE (R52 to R54): the code of the present period as the die receives it. A code that disagrees, or whose CRC fails, raises TIME_CODE_MISMATCH at most once per millisecond per die; the second in a row asserts the die's DIE_FAULT wire. A code that passes its CRC reloads the copy. -/
def execTimeCode (die : Die) (code : BitVec 64) (crc : BitVec 16) (s : State) : Out :=
  if s.hasDie die then
    let k := s.clocks[die.ix]
    let start : Nat := s.now - s.now % 4096
    let good := decide (crc16 (msbBits 64 code.toNat) = crc.toNat)
    let copy : Int := (start : Int) + k.skew
    if good && decide (copy = (code.toNat : Int)) then
      .next { s with clocks := vUpd s.clocks die.ix (fun k => { k with badCodes := 0 }) }
    else
      let k1 : DieClock := { k with
        skew := if good then (code.toNat : Int) - (start : Int) else k.skew
        badCodes := k.badCodes + 1
        lastEvent := if rateOk k.lastEvent s.now msTicks then some s.now else k.lastEvent }
      let s1 : State := { s with clocks := vUpd s.clocks die.ix (fun _ => k1) }
      let s2 := if rateOk k.lastEvent s.now msTicks then s1.raise 0x1004 die.code 6 [i32 (copy - (code.toNat : Int))] else s1
      .next (if 2 ≤ k1.badCodes then s2.assertDieFault die else s2)
  else .next s

/-- The SENSE die of an index. -/
def senseDie (d : Fin 2) : Die := if d = 0 then .sense0 else .sense1

/-- Channel of a SENSE die and a local index (R10). -/
def chanOf (d : Fin 2) (l : Nat) : Channel := ⟨d.val * 4 + l % 4, by omega⟩

/-- Does the message's CRC pass (R55)? -/
def scheduleCrcOk (m : BitVec 128) : Bool := decide (crc16 (msbBits 112 (m.toNat / 2 ^ 16)) = m.toNat % 2 ^ 16)

/-- The message of these fields (R55), with its CRC. -/
def scheduleMessage (type l time frame : Nat) : BitVec 128 :=
  let head : Nat := type * 2 ^ 120 + l % 4 * 2 ^ 118 + time % 2 ^ 64 * 2 ^ 48 + frame % 2 ^ 32 * 2 ^ 16
  BitVec.ofNat 128 (head + crc16 (msbBits 112 (head / 2 ^ 16)))

/-- FRAME_MESSAGE (R55): the first copy whose CRC passes schedules the sample instant of the channel's next frame; a second copy for the same frame changes nothing. -/
def execFrameMessage (die : Fin 2) (message : BitVec 128) (s : State) : Out :=
  if s.hasDie (senseDie die) then
    let v := message.toNat
    let c := chanOf die (v / 2 ^ 118)
    let frame := v / 2 ^ 16 % 2 ^ 32
    if scheduleCrcOk message ∧ v / 2 ^ 120 = 1 ∧ s.ch[c].schedule.any (fun x => x.frame == frame) = false then
      .next (s.modCh c (fun x => { x with schedule := some ⟨frame, v / 2 ^ 48 % 2 ^ 64⟩ }))
    else .next s
  else .next s

/-- RESYNC_MESSAGE (R55): the die prepares to restart the channel's filters at t_b. -/
def execResyncMessage (die : Fin 2) (message : BitVec 128) (s : State) : Out :=
  if s.hasDie (senseDie die) then
    let v := message.toNat
    if scheduleCrcOk message ∧ v / 2 ^ 120 = 2 then
      .next (s.modCh (chanOf die (v / 2 ^ 118)) (fun c => { c with senseResync := some (v / 2 ^ 48 % 2 ^ 64) }))
    else .next s
  else .next s

/-- TIMER_MATCH (R57): a timer whose programmed time has come raises a request stamped with that time. -/
def execTimerMatch (die : CtrlId) (index : Nat) (s : State) : Out :=
  match (s.timers[die.ix])[index]? with
  | none => .next s
  | some t =>
    if t.at_ ≤ s.localTime die then
      .next { s with
        timers := vUpd s.timers die.ix (fun l => l.eraseIdx index)
        timerReqs := vUpd s.timerReqs die.ix (fun l => l ++ [⟨t.purpose, t.at_⟩]) }
    else .next s

/-- TB_STATUS (02_time_base_and_frames.md). -/
def State.tbStatus (s : State) : Word :=
  packFields [(5, b2n s.tb.failed), (4, b2n s.tb.noLock), (3, b2n s.tb.refSel), (2, b2n s.tb.holdover),
    (1, b2n s.tb.refPresent), (0, b2n s.tb.locked)]

end Sys2Proof.Machine
end

