-- ==== Sys2Proof/Machine/Planner.lean ====
section
/-! DEFINITION. The frame planner (06_planning_and_ageing.md): Velvet readings, the proof of R211 to R217, the ladder of R218, decisions, AVSBus and ageing. Delays are in 2^-16 ps. -/

namespace Sys2Proof.Machine

/-- Carrier source of a channel: 0 FREE, 1 SYNC_IN, 2 LEADER; 3 is taken as FREE. -/
def State.source (s : State) (c : Channel) : Nat := s.fld (Reg.chSync c.val) 30 2 % 3
/-- The leader a channel names. -/
def State.leader (s : State) (c : Channel) : Channel := ⟨s.fld (Reg.chSync c.val) 27 3 % 8, Nat.mod_lt _ (by decide)⟩

/-- N_min of a channel that is no follower (R68). -/
def State.nMinOwn (s : State) (c : Channel) : Nat :=
  let n := s.nNom c
  if s.source c = 1 then max 2000 (n - s.period c / 32)
  else if bitAt (s.reg (Reg.chDither c.val)) 31 then max 2000 (n - n * s.fld (Reg.chDither c.val) 16 10 / 1000)
  else n

/-- N_min (R68). -/
def State.nMin (s : State) (c : Channel) : Nat :=
  if s.source c = 2 then
    (if s.source (s.leader c) = 1 then max 2000 (s.nNom c - s.period c / 32) else s.nMinOwn (s.leader c))
  else s.nMinOwn c

/-- The pacing channel (R201): the enabled channel with the shortest N_nom, the lowest number among equals. -/
def State.pacing (s : State) : Option Channel :=
  (idxs 8).foldl (fun b c =>
    if s.ch[c].enabled then match b with
      | none => some c
      | some q => if s.nNom c < s.nNom q then some c else b
    else b) none

/-- A program of the set under proof with the engine it is to run on. -/
structure Planned where
  code : SlotCode
  slot : Slot

/-- Is a reading of the monitors due (R201)? At each frame boundary of the pacing channel; where no channel is enabled, every 100 µs. -/
def State.readingDue (s : State) (last : Option Nat) : Bool :=
  match s.pacing with
  | some c => s.ch[c].running && last.all (fun t => decide (t < s.ch[c].boundary))
  | none => rateOk last s.now (100 * usTicks)

/-- A word of the calibration record (R648). -/
def State.calWord (s : State) (offset : Nat) : Word := wordLe s.calibration offset

/-- A non-negative finite F32 value × 2^k, rounded down; 0 for any other. -/
def f32Scaled (w : Word) (k : Nat) : Nat :=
  match f32Exact w with
  | some (m, e) => if 0 ≤ e + k then m.toNat * 2 ^ (e + k).toNat else m.toNat / 2 ^ (-(e + k)).toNat
  | none => 0

/-- The factory constants of one monitor (R648): its count at 0.90 V, and its constant in ps × count. -/
structure MonitorCal where
  count : Nat
  constant : Word

/-- Monitor q of a control die. -/
def State.monitorCal (s : State) (d : CtrlId) (q : Nat) : MonitorCal :=
  let i := 4 * (48 * d.ix.val + q)
  ⟨(s.calWord (0x1000 + i)).toNat, s.calWord (0x1180 + i)⟩

/-- The delay of a count over 1,024 ticks (R202); a count of 0 is taken as 1 (assumption 16). -/
def MonitorCal.delay (m : MonitorCal) (count : Nat) : Nat := f32Scaled m.constant 16 / max 1 count
/-- R206: below a quarter of the count at 0.90 V. -/
def MonitorCal.fails (m : MonitorCal) (count : Nat) : Bool := decide (4 * count < m.count)

/-- The set the planner proves: the ACTIVE programs on their engines, moves counted as made. -/
def State.planSet (s : State) : List Planned :=
  (idxs 128).filterMap (fun c =>
    let x := s.slotOf .a c
    if x.state = .active then some ⟨c, { x with engine := x.moveTo.getD x.engine, fallback := x.divChange.getD x.fallback }⟩ else none)

/-- The set once every accepted swap has taken effect. -/
def State.acceptedSet (s : State) : List Planned :=
  (s.planner.swaps.filter (fun w => !w.done)).foldl (fun set w =>
    set.filter (fun p => some p.code != w.old) ++ w.new.toList.map (fun n => ⟨n, s.slotOf .a n⟩)) s.planSet

/-- Every program on each engine on which it stands or that is decided for it: an ACTIVE one where it is and where it waits to move, one that an accepted swap brings where it is to run. -/
def State.placements (s : State) : List Planned :=
  (idxs 128).flatMap (fun c =>
    let x := s.slotOf .a c
    if x.state = .active then ⟨c, x⟩ :: x.moveTo.toList.map (fun e => ⟨c, { x with engine := e }⟩) else [])
  ++ (s.planner.swaps.filter (fun w => !w.done)).flatMap (fun w => w.new.toList.map (fun n => ⟨n, s.slotOf .a n⟩))

/-- A set with all those placements, but for those of a program that leaves: what may stand on an engine at any one time (R209). -/
def State.standing (s : State) (set : List Planned) (leaves : Option SlotCode) : List Planned :=
  set ++ s.placements.filter (fun p => some p.code != leaves)

/-- ⌈a / b⌉. -/
def ceilDiv (a b : Nat) : Nat := (a + b - 1) / b

/-- ρ_m × 16,384 of a memory (R204): its filtered delay by that at 0.72 V, which the calibration record holds; a failed monitor gives 1.0 (R206). -/
def State.rho (s : State) (d : CtrlId) (m : Fin 8) : Nat :=
  let v := (s.plan[d.ix]).memories[m]
  if v.failed then 16384 else v.filtered * 16384 / max 1 (f32Scaled (s.calWord (0x1300 + 4 * (8 * d.ix.val + m.val))) 16)

/-- Time of a grant of m words at an access ratio (R211). -/
def grantTime (rho m : Nat) : Nat := rho * (2000 + 750 * m) * 4

/-- t_i of a program (R204): the larger of its engine's filtered value and its bank's. -/
def State.issue (s : State) (d : CtrlId) (p : Planned) : Nat :=
  let pl := s.plan[d.ix]
  max pl.engines[p.slot.engine].filtered (if p.code.val < 64 then pl.memories[2].filtered else pl.memories[3].filtered)

/-- The window W in ticks (R208). -/
def State.windowOf (s : State) (set : List Planned) (p : Planned) : Nat :=
  let c := p.slot.channel
  if p.slot.samplePath then s.tsu c - 680
  else if set.any (fun q => q.slot.samplePath && q.slot.engine == p.slot.engine) then s.nMin c + 400 - s.tsu c
  else s.tsu c + s.nMin c

/-- F of a program: its DIV in force times N_min (R212). -/
def State.paceOf (s : State) (p : Planned) : Nat := max 1 (p.slot.divNow * s.nMin p.slot.channel)

/-- Board grants of the other ports in W ps (R213): (largest grant, grants). -/
def State.otherPorts (s : State) (w : Nat) : List (Nat × Nat) :=
  [(32, ceilDiv w 1000000 + 1), (32, ceilDiv w 250000 + 1), (8, ceilDiv w 250000 + 3), (8, ceilDiv w 250000 + 3),
   (32, ceilDiv w 50000 + 1), (16, ceilDiv w 5000000 + 1), (16, ceilDiv w 5000000 + 1), (32, ceilDiv w 500000 + 1),
   (1, ceilDiv (w * 262144) (max 1 (s.fld Reg.sbScrub 0 16) * 1000000000) + 1)]

/-- The run bound C_p (R211). -/
def State.runBound (s : State) (d : CtrlId) (set : List Planned) (wTicks : Nat) (p : Planned) : Nat :=
  let w := wTicks * 2500
  let r0 := s.rho d 0
  let r1 := s.rho d 1
  let mine := set.filter (fun q => q.slot.engine == p.slot.engine)
  let mB := mine.foldl (fun a q => max a q.slot.boardGrant) 0
  let mT := mine.foldl (fun a q => max a q.slot.tableGrant) 0
  let own := p.slot.wcount * s.issue d p + p.slot.wboard * grantTime r0 mB + p.slot.wtable * grantTime r1 mT
  let engines := (idxs 16).foldl (fun acc e =>
    if e = p.slot.engine then acc
    else
      let on := set.filter (fun q => q.slot.engine == e)
      let n := on.foldl (fun a q => a + q.slot.wboard * (ceilDiv wTicks (s.paceOf q) + 1)) 0
      let n' := on.foldl (fun a q => a + q.slot.wtable * (ceilDiv wTicks (s.paceOf q) + 1)) 0
      let m := on.foldl (fun a q => max a q.slot.boardGrant) 0
      let m' := on.foldl (fun a q => max a q.slot.tableGrant) 0
      acc + min p.slot.wboard n * grantTime r0 m + min p.slot.wtable n' * grantTime r1 m') 0
  let others := (s.otherPorts w).foldl (fun a q => a + min p.slot.wboard q.2 * grantTime r0 q.1) 0
  own + engines + others + min p.slot.wtable (ceilDiv w 1000000 + 1) * grantTime r1 16

/-- D_p (R214). -/
def State.demand (s : State) (d : CtrlId) (set : List Planned) (p : Planned) : Nat :=
  let wp := s.windowOf set p
  let mates := set.filter (fun q => q.slot.engine == p.slot.engine)
  if p.slot.samplePath then s.runBound d set wp p
  else if mates.any (fun q => q.slot.samplePath) then
    (mates.filter (fun q => !q.slot.samplePath)).foldl (fun a q => a + s.runBound d set (s.windowOf set q) q) 0
  else
    (mates.filter (fun q => q.code != p.code)).foldl
      (fun a q => a + s.runBound d set (s.windowOf set q) q * (ceilDiv wp (s.paceOf q) + 1)) (s.runBound d set wp p)

/-- The slack in ‰ of a program on a die with a guard band of g %, and a speed scale num / den on its demand (R214 to R217). -/
def State.slackOf (s : State) (d : CtrlId) (set : List Planned) (g : Nat) (num : Int) (den : Nat) (p : Planned) : Int :=
  let w : Int := s.windowOf set p * 2500 * 65536
  let need : Int := ((100 + g) * s.demand d set p : Nat) * num / (100 * den : Nat)
  (w - need) * 1000 / (max 1 w)

/-- Does the program fit (R214)? -/
def State.fits (s : State) (d : CtrlId) (set : List Planned) (g : Nat) (p : Planned) : Bool :=
  decide ((100 + g) * s.demand d set p ≤ 100 * (s.windowOf set p * 2500 * 65536))

/-- The guard band in %, at least 10 (R215). -/
def State.guard (s : State) : Nat := max 10 (s.fld Reg.planCtrl 0 8)

/-- Every program of the set fits on the die. -/
def State.dieFits (s : State) (d : CtrlId) (set : List Planned) (g : Nat) : Bool := set.all (s.fits d set g)

/-- The set is proved (R215): it fits on both dies. Without the factory constants none is (R646). -/
def State.proved (s : State) (set : List Planned) (g : Nat) : Bool := !s.store.empty.getLsbD 1 && s.dieFits .a set g && s.dieFits .b set g

/-- The least slack of a die, 0 when a fit fails (R216). Where no program is ACTIVE the rule gives no value, and the whole window, 1000 ‰, is published (DESIGN CHOICE, assumption 82). -/
def State.leastSlack (s : State) (d : CtrlId) (set : List Planned) : Nat :=
  if s.dieFits d set s.guard then
    set.foldl (fun a p => min a (s.slackOf d set s.guard 1 1 p).toNat) 1000
  else 0

/-- Is the engine usable on both dies (R206)? -/
def State.usable (s : State) (e : EngineNo) : Bool := !(s.plan[0]).engines[e].failed && !(s.plan[1]).engines[e].failed

/-- R209 for a set: at most one SAMPLE_PATH program on the engine, the others bound to its channel. -/
def engineLegal (set : List Planned) (e : EngineNo) : Bool :=
  let on := set.filter (fun q => q.slot.engine == e)
  on.all (fun q => !q.slot.samplePath || on.all (fun r => r.code == q.code || (!r.slot.samplePath && r.slot.channel == q.slot.channel)))

/-- The set with one program put on an engine. -/
def putOn (set : List Planned) (c : SlotCode) (e : EngineNo) : List Planned :=
  set.map (fun q => if q.code = c then { q with slot := { q.slot with engine := e } } else q)

/-- Every program of the set that stands on an engine fits on both dies. -/
def State.engineFits (s : State) (set : List Planned) (e : EngineNo) : Bool :=
  (set.filter (fun q => q.slot.engine == e)).all (fun q => s.fits .a set s.guard q && s.fits .b set s.guard q)

/-- The usable engine with the most slack of those that R209 allows and that `ok` admits with the program there. -/
def State.bestEngine (s : State) (set : List Planned) (leaves : Option SlotCode) (c : SlotCode) (ok : List Planned → EngineNo → Bool) : Option EngineNo :=
  ((idxs 16).foldl (fun (b : Option (EngineNo × Int)) e =>
    let set' := putOn set c e
    if s.usable e && engineLegal (putOn (s.standing set leaves) c e) e && ok set' e then
      let sl := (set'.filter (fun q => q.slot.engine == e)).foldl
        (fun a q => min a (min (s.slackOf .a set' s.guard 1 1 q) (s.slackOf .b set' s.guard 1 1 q))) 1000
      match b with
      | none => some (e, sl)
      | some (_, t) => if t < sl then some (e, sl) else b
    else b) none).map (·.1)

/-- Highest and lowest VDD_CORE in mV (R239). -/
def State.vMax (s : State) : Nat := min 900 (max 680 (s.fld Reg.planVdd 16 16 / 5 * 5))
/-- Lowest VDD_CORE in mV (R239). -/
def State.vMin (s : State) : Nat := min s.vMax (max 680 (s.fld Reg.planVdd 0 16 / 5 * 5))

/-- Ticks for which a die's VDD_CORE has stood above 0.85 V (R237). -/
def PlanDie.hiTicks (p : PlanDie) (now : Nat) : Nat := p.vddHi + if 850 < p.vddMv then now - p.vddAt else 0

/-- Writes a setpoint over the die's AVSBus (R226); after an AVS_FAIL nothing more is written to its regulator (R228). -/
def State.avsWrite (s : State) (d : CtrlId) (mV : Nat) : State :=
  if (s.plan[d.ix]).avsFailed then s
  else (s.modPlan d (fun p => { p with
    vddMv := mV
    vddHi := p.hiTicks s.now
    vddAt := s.now
    avs := some ⟨mV, s.now, false⟩ })).emit (.avs d.code mV)

/-- After a step the planner waits for the next reading of each die (R218). -/
def State.awaitReading (s : State) : State :=
  (s.modPlan .a (fun p => { p with checked := false })).modPlan .b (fun p => { p with checked := false })

/-- May step 1 be taken on the die (R218, R228)? -/
def State.canRaise (s : State) (d : CtrlId) : Bool :=
  let p := s.plan[d.ix]
  decide (p.vddMv < s.vMax) && !p.avsFailed

/-- Step 1: VDD_CORE up by 5 mV; while a write waits for its read-back nothing is written. -/
def State.raiseVdd (s : State) (d : CtrlId) (slack : Nat) : State :=
  let p := s.plan[d.ix]
  if p.avs.isSome then s
  else ((s.avsWrite d (p.vddMv + 5)).awaitReading.modPlan d (fun p => { p with lastStep := 1 })).raise 0x1042 d.code 3 [w32 (p.vddMv + 5), w32 slack]

/-- A decision about a slot: CTRL-A's, which reaches CTRL-B over DL_11 (R29, R219). -/
def State.modSlots (s : State) (c : SlotCode) (f : Slot → Slot) : State :=
  if s.linkUp .ctrlA .ctrlB then (s.modSlot .a c f).modSlot .b c f else s.modSlot .a c f

/-- Programs of the set that do not fit on some die, or stand on an unusable engine. -/
def State.unfit (s : State) (set : List Planned) : List Planned :=
  set.filter (fun p => !s.fits .a set s.guard p || !s.fits .b set s.guard p || !s.usable p.slot.engine)

/-- Step 2 for one program (R218, R220): the engine on which every fit holds; a program of an unusable engine goes to the one with the most slack where no engine gives that. -/
def State.moveFor (s : State) (set : List Planned) (p : Planned) : Option EngineNo :=
  match s.bestEngine set none p.code s.engineFits with
  | some e => some e
  | none => if s.usable p.slot.engine then none else s.bestEngine set none p.code (fun _ _ => true)

/-- Step 2 for each program in turn that does not fit as the moves before it leave it (R218, R220): the moves decided. -/
def State.moves (s : State) (set : List Planned) : List Planned → List (SlotCode × EngineNo × EngineNo)
  | [] => []
  | p :: ps =>
    if (s.unfit set).any (fun q => q.code == p.code) then match s.moveFor set p with
      | some e => if e = p.slot.engine then s.moves set ps else (p.code, p.slot.engine, e) :: s.moves (putOn set p.code e) ps
      | none => s.moves set ps
    else s.moves set ps

/-- Carries out decided moves: each waits for its boundary (R220); a program that is still to start has its other engine at once. -/
def State.doMoves (s : State) (ms : List (SlotCode × EngineNo × EngineNo)) : State :=
  ms.foldl (fun s m => (s.awaitReading.modSlots m.1 (fun y =>
      if y.state = .active then { y with moveTo := some m.2.2, moveDue := false } else { y with engine := m.2.2 })).raise 0x1044 m.1.val 4
    [w32 (s.slotOf .a m.1).channel.val, w32 m.2.1.val, w32 m.2.2.val]) s

/-- Step 3: FALLBACK_DIV for the highest slot code that declares one and is not in fallback (R218, R221). -/
def State.fallbackPick (set : List Planned) : Option Planned :=
  (set.filter (fun p => p.slot.fallbackDiv != 0 && !p.slot.samplePath && !p.slot.fallback)).getLast?

/-- A change of fallback waits for the channel's next boundary (R221), announced with the DIV it brings. -/
def State.setFallback (s : State) (p : Planned) (on : Bool) : State :=
  (s.awaitReading.modSlots p.code (fun y => { y with divChange := some on })).raise 0x1045 p.code.val 6
    [w32 p.slot.channel.val, w32 (if on then p.slot.fallbackDiv else p.slot.div)]

/-- Step 4 (R218, R222): the channel's mode is refused; from its next boundary that counts as a second consecutive miss. -/
def State.refuseMode (s : State) (c : Channel) : State :=
  if s.planner.refused.getLsbD c.val then s
  else (({ s with planner := { s.planner with refused := s.planner.refused ||| (1 <<< c.val) } } : State).modCh c
    (fun x => { x with refuseDue := true })).raise 0x1046 c.val 10 [1]

/-- Each die has been read since the planner's last step, and no step up in voltage waits for its read-back: no re-plan is under way (R218, R223, R224). -/
def State.planSettled (s : State) : Bool :=
  (s.plan[0]).checked && (s.plan[1]).checked && (idxs 2).all (fun d => !((s.plan[d]).avs.isSome && (s.plan[d]).lastStep == 1))

/-- Steps 2 to 4, decided by CTRL-A from both dies (R218, R219): at most one of them at a reading. -/
def State.ladderA (s : State) : State :=
  let set := s.planSet
  let bad := s.unfit set
  if bad.isEmpty then s
  else
    let ms := s.moves set bad
    if ¬ ms.isEmpty then s.doMoves ms
    else match State.fallbackPick set with
      | some p => s.setFallback p true
      | none => (idxs 8).foldl (fun s c => if bad.any (fun p => p.slot.channel == c) then s.refuseMode c else s) s

/-- Restores the DIV of the lowest slot code at whose normal DIV every fit holds with ten more points of guard, at most one per second (R221). -/
def State.restoreDiv (s : State) : State :=
  let set := s.planSet
  let normal := fun (p : Planned) => set.map (fun q => if q.code = p.code then { q with slot := { q.slot with fallback := false } } else q)
  match set.find? (fun p => p.slot.fallback && s.proved (normal p) (s.guard + 10)) with
  | none => s
  | some p =>
    if rateOk s.planner.lastRestore s.now sTicks then
      ({ s with planner := { s.planner with lastRestore := some s.now } } : State).setFallback p false
    else s

/-- R225: lowers a die's VDD_CORE by 5 mV, at most once per 100 ms. -/
def State.lowerVdd (s : State) (d : CtrlId) : State :=
  let p := s.plan[d.ix]
  if s.dieFits d s.planSet (s.guard + 10) && decide (s.vMin < p.vddMv) && bitAt (s.reg Reg.planCtrl) 8 && !p.avsFailed
      && p.avs.isNone && rateOk p.lastLowered s.now (100 * msTicks) then
    ((s.avsWrite d (p.vddMv - 5)).modPlan d (fun p => { p with lastStep := 5, lastLowered := some s.now })).raise 0x1043 d.code 1 [w32 (p.vddMv - 5)]
  else s

/-- One monitor pair's reading (R202, R203, R205, R206): the record and the events of index i, kind 0 engine or 1 memory, for two counts. -/
def velvetStep (now src kind i : Nat) (v : Velvet) (cal : MonitorCal × MonitorCal) (r : Nat × Nat) : Velvet × List Event :=
  let d1 := cal.1.delay r.1
  let d2 := cal.2.delay r.2
  let failed := cal.1.fails r.1 || cal.2.fails r.2
  let hi := max d1 d2
  let lo := min d1 d2
  let dis := decide (8 * lo < 100 * (hi - lo))
  let say := dis && rateOk v.lastDisagree now sTicks
  ({ filtered := if v.filtered ≤ hi then hi else v.filtered - (v.filtered - hi) / 64,
     failed := v.failed || failed, disagree := dis, lastDisagree := if say then some now else v.lastDisagree },
   (if failed && !v.failed then [⟨now, 0x1040, src, 10, [w32 kind, w32 i]⟩] else [])
     ++ (if say then [⟨now, 0x1041, src, 4, [w32 kind, w32 i, w32 (d1 / 65536), w32 (d2 / 65536)]⟩] else []))

/-- A reading of a list of monitor pairs, the first of them monitors q and q + 1. -/
def State.velvetAll (s : State) (d : CtrlId) (kind q : Nat) (vs : List Velvet) (rs : List (Nat × Nat)) : List (Velvet × List Event) :=
  ((vs.zip rs).zipIdx).map (fun p =>
    velvetStep s.now d.code kind p.2 p.1.1 (s.monitorCal d (q + 2 * p.2), s.monitorCal d (q + 2 * p.2 + 1)) p.1.2)

/-- Fills a vector from a list, entries past its end as they were. -/
def fillV (v : Vector α n) (l : List α) : Vector α n := Vector.ofFn (fun i => (l[i.val]?).getD v[i])

/-- The filtered values after a reading of the 16 engines and 8 memories of a die, in that order. -/
def State.takeReading (s : State) (d : CtrlId) (rs : List (Nat × Nat)) : State :=
  let p := s.plan[d.ix]
  let es := s.velvetAll d 0 0 p.engines.toList (rs.take 16)
  let ms := s.velvetAll d 1 32 p.memories.toList (rs.drop 16)
  (s.modPlan d (fun p => { p with
    engines := fillV p.engines (es.map (·.1))
    memories := fillV p.memories (ms.map (·.1))
    checked := true })).raiseAll (es.flatMap (·.2) ++ ms.flatMap (·.2))

/-- The programs of engines made unusable move at once, whatever their fits (R220). -/
def State.evacuate (s : State) : State := s.doMoves (s.moves s.planSet (s.planSet.filter (fun p => !s.usable p.slot.engine)))

/-- What the planner does at a trusted reading of a die (R216, R218 to R221, R225): its slack; the first step of the ladder that applies, or what it restores and lowers. Steps 2 to 4, which CTRL-A decides from both dies, wait until both have been read since the last step. -/
def State.planReading (s : State) (die : CtrlId) : State :=
  let set := s.planSet
  let before := s.leastSlack die set
  let s1 := (s.modPlan die (fun p => { p with slack := before })).evacuate
  if !(s1.plan[die.ix]).checked then s1
  else if !s1.dieFits die set s1.guard && s1.canRaise die then s1.raiseVdd die before
  else
    let s2 := match die with
      | .a =>
        if !s1.planSettled then s1
        else if s1.proved set s1.guard && (s1.unfit s1.planSet).isEmpty then s1.restoreDiv
        else if !s1.dieFits .b set s1.guard && s1.canRaise .b then s1
        else s1.ladderA
      | .b => s1
    s2.lowerVdd die

/-- VELVET_READING (R201 to R206, R218 to R225): the counts of the 24 monitor pairs, at a boundary of the pacing channel. A reading within 20 µs of a matching read-back is not trusted (R228). -/
def execVelvetReading (die : CtrlId) (counts : List (Nat × Nat)) (s : State) : Out :=
  let p := s.plan[die.ix]
  if ¬ s.pwr.started ∨ 1 < s.pwr.rung ∨ ¬ s.readingDue p.lastReading then .next s
  else
    let s1 := s.modPlan die (fun p => { p with lastReading := some s.now })
    if rateOk p.avsMatched s.now (20 * usTicks) then .next ((s1.takeReading die counts).planReading die) else .next s1

/-- A write whose read-back does not match or never comes (R228): one retry, then AVS_FAIL. -/
def State.avsRetry (s : State) (d : CtrlId) (w : AvsWrite) : State :=
  if w.retried then
    (s.modPlan d (fun p => { p with avs := none, avsFailed := true })).raise 0x1049 d.code 12 [w32 w.mV]
  else (s.modPlan d (fun p => { p with avs := some { w with retried := true, sentAt := s.now } })).emit (.avs d.code w.mV)

/-- AVS_READBACK (R228): the voltage read back, in mV. -/
def execAvsReadback (die : CtrlId) (mV : Nat) (s : State) : Out :=
  match (s.plan[die.ix]).avs with
  | none => .next s
  | some w =>
    if mV = w.mV then .next (s.modPlan die (fun p => { p with avs := none, avsMatched := some s.now }))
    else .next (s.avsRetry die w)

/-- AVS_TIMEOUT (R228): no valid response within 100 µs. -/
def execAvsTimeout (die : CtrlId) (s : State) : Out :=
  match (s.plan[die.ix]).avs with
  | none => .next s
  | some w => if w.sentAt + 100 * usTicks ≤ s.now then .next (s.avsRetry die w) else .next s

/-- L in ppm from the factory frequencies f_s0 and f_u0 (in 2^-16 Hz) and the readings of the last 60 s (R236); below zero where the stressed oscillator has gained. -/
def lossPpm (fs0 fu0 : Nat) (hist : List (Nat × Nat × Nat)) : Int :=
  let fs := hist.foldl (fun a h => a + h.2.1) 0
  let fu := hist.foldl (fun a h => a + h.2.2) 0
  1000000 - (1000000 * (fs * fu0) / max 1 (fu * fs0) : Nat)

/-- The factory frequencies of a die's ageing pair (R648). -/
def State.ageingCal (s : State) (d : CtrlId) : Nat × Nat :=
  (f32Scaled (s.calWord (0x1340 + 8 * d.ix.val)) 16, f32Scaled (s.calWord (0x1344 + 8 * d.ix.val)) 16)

/-- What the fields without a sign show of L: L where it is not negative, an unstated value where it is (assumption 16). -/
def State.showLoss (s : State) (d : CtrlId) : State :=
  let l := (s.plan[d.ix]).lossPpm
  if l < 0 then
    let (v, s1) := s.fresh 20
    s1.modPlan d (fun p => { p with lossShown := v.toNat })
  else s.modPlan d (fun p => { p with lossShown := l.toNat })

/-- Is a reading of the ageing pair due (R207)? At a boundary of the pacing channel at least 50 µs after the last reading. -/
def State.ageingDue (s : State) (last : Option Nat) : Bool :=
  match s.pacing with
  | some c => s.ch[c].running && last.all (fun t => decide (t + 50 * usTicks ≤ s.ch[c].boundary))
  | none => false

/-- AGEING_PAIR_READING (R207, R236, R238): the frequencies of the stressed and the unstressed oscillator in Hz. -/
def execAgeingPairReading (die : CtrlId) (stressed unstressed : Nat) (s : State) : Out :=
  let p := s.plan[die.ix]
  if s.ageingDue p.lastAgeing then
    let hist := p.ageHist.filter (fun h => decide (s.now ≤ h.1 + 60 * sTicks)) ++ [(s.now, stressed, unstressed)]
    let l := lossPpm (s.ageingCal die).1 (s.ageingCal die).2 hist
    let warn := decide (90000 < l) && !p.warned
    let budget := decide (120000 < l) && !p.budget
    let s1 := (s.modPlan die (fun p => { p with
      ageHist := hist, lossPpm := l, lastAgeing := some s.now, warned := p.warned || warn, budget := p.budget || budget })).showLoss die
    let s2 := if warn then s1.raise 0x104B die.code 5 [i32 l] else s1
    .next (if budget then s2.raise 0x104C die.code 8 [i32 l] else s2)
  else .next s

/-- The EOL_MARGIN events of a set under the settings that s holds (R217): each fit with t_i and ρ multiplied by (1 − L) / 0.88. -/
def State.eolEvents (s : State) (set : List Planned) : List Event :=
  set.filterMap (fun p =>
    let sl (d : CtrlId) : Int := s.slackOf d set s.guard (1000000 - (s.plan[d.ix]).lossPpm) 880000 p
    let m := min (sl .a) (sl .b)
    if m < 0 then some ⟨s.now, 0x104A, p.code.val, 4, [w32 p.slot.channel.val, i32 m]⟩ else none)

/-- EOL_MARGIN (R217): once per powered hour. -/
def execEolMargin (s : State) : Out :=
  if rateOk s.planner.lastEol s.now (3600 * sTicks) then
    .next (({ s with planner := { s.planner with lastEol := some s.now } } : State).raiseAll (s.eolEvents s.planSet))
  else .next s

/-- The set after a swap, the new program on engine e; swaps accepted before it count as made. -/
def State.swapSet (s : State) (old new : Option SlotCode) (e : EngineNo) : List Planned :=
  let base := s.acceptedSet.filter (fun p => some p.code != old)
  match new with
  | none => base
  | some n => base ++ [⟨n, { s.slotOf .a n with engine := e }⟩]

/-- The old program's engine for a new one, where it may carry it (R209). -/
def State.ownEngine (s : State) (old : Option SlotCode) (n : SlotCode) : Option EngineNo :=
  match old with
  | some o =>
    let e := (s.slotOf .a o).engine
    if (s.slotOf .a o).state = .active ∧ s.usable e ∧ engineLegal (putOn (s.standing (s.swapSet old (some n) e) old) n e) e then some e else none
  | none => none

/-- The engine for a new program on which the whole set is proved: the old one's where it serves, else the one with the most slack (R140, R209). -/
def State.engineFor (s : State) (old : Option SlotCode) (n : SlotCode) : Option EngineNo :=
  let set0 := s.swapSet old (some n) 0
  let best := s.bestEngine set0 old n (fun set _ => s.proved set s.guard)
  match s.ownEngine old n with
  | some e => if s.proved (putOn set0 n e) s.guard then some e else best
  | none => best

/-- The engine on which the planner tries a new program while the set is not proved. -/
def State.tryEngine (s : State) (old : Option SlotCode) (n : SlotCode) : EngineNo :=
  ((s.ownEngine old n).orElse (fun _ => s.bestEngine (s.swapSet old (some n) 0) old n (fun _ _ => true))).getD 0

/-- A die that can still take step 1 for a decision, when a fit on it fails. -/
def State.raiseDie (s : State) (set : List Planned) : Option CtrlId :=
  if !s.dieFits .a set s.guard && s.canRaise .a then some .a
  else if !s.dieFits .b set s.guard && s.canRaise .b then some .b
  else none

/-- Steps 1 to 3 for a change whose set, judged with the settings of `v`, is not yet proved (R218, R224): one step, and the decision waits for the next readings; none where no step is left. `mine`: the slot that has still to be placed. -/
def State.decideStep (s v : State) (set : List Planned) (mine old : Option SlotCode) : Option State :=
  match v.raiseDie set with
  | some d => some (s.raiseVdd d (s.plan[d.ix]).slack)
  | none =>
    let ms := v.moves set ((v.unfit set).filter (fun p => some p.code != mine))
    if ms ≠ [] then some (s.doMoves ms)
    else (State.fallbackPick (s.planSet.filter (fun p => some p.code != old))).map (fun p => s.setFallback p true)

/-- A pending claim of the new program stands on an entry of an ACTIVE program other than the old one (R131). -/
def State.claimBlocked (s : State) (old : Option SlotCode) (new : SlotCode) : Bool :=
  let d := s.die .a
  (d.dir.filter (fun e => e.pending && e.owner == 0x100 + new.val)).any (fun e =>
    d.dir.any (fun f => !f.pending && f.identical e && f.owner != e.owner && some f.owner != old.map (fun o => 0x100 + o.val)
      && (if h : f.owner - 0x100 < 128 then d.slots[f.owner - 0x100].state == .active else false)))

/-- Drops the change under decision. -/
def State.dropChange (s : State) : State := { s with planner := { s.planner with pending := s.planner.pending.tail } }

/-- The channel leaves a refused mode when a change for it is accepted (R222). -/
def State.clearRefused (s : State) (c : Channel) : State :=
  ({ s with planner := { s.planner with refused := s.planner.refused &&& ~~~((1 : BitVec 8) <<< c.val) } } : State).modCh c
    (fun x => { x with refuseDue := false })

/-- The registers with a channel's waiting settings in them, as the planner tries them. -/
def State.withSettings (s : State) (c : Channel) : State :=
  match s.ch[c].settings with
  | none => s
  | some t =>
    let s1 := match t.carrier with
      | some w => s.setReg (Reg.chCarrier c.val) w
      | none => s
    let s2 := match t.sync with
      | some w => s1.setReg (Reg.chSync c.val) w
      | none => s1
    let s3 := match t.dither with
      | some w => s2.setReg (Reg.chDither c.val) w
      | none => s2
    let regs := [Reg.modCfg c.val, Reg.modDt c.val 0, Reg.modDt c.val 1, Reg.modDt c.val 2, Reg.modIband c.val]
    (regs.zip t.modulator).foldl (fun s x => s.setReg x.1 x.2) s3

/-- The registers once every accepted setting has taken effect. -/
def State.asAccepted (s : State) : State :=
  (idxs 8).foldl (fun s c => if s.ch[c].settings.any (fun t => t.accepted) then s.withSettings c else s) s

/-- Accepts a swap (R224, R234): the new program has its engine and waits for the boundary. -/
def State.acceptSwap (s : State) (old new : Option SlotCode) (ring index : Nat) (e : Option EngineNo) : State :=
  let ch : Channel := match new, old with
    | some n, _ => (s.slotOf .a n).channel
    | none, some o => (s.slotOf .a o).channel
    | none, none => 0
  let s1 := match new, e with
    | some n, some e => s.modSlots n (fun y => { y with engine := e, order := if y.samplePath then 0 else n.val + 1 })
    | _, _ => s
  let s2 := { s1 with planner := { s1.planner with
    pending := s1.planner.pending.tail
    swaps := s1.planner.swaps ++ [({ old := old, new := new, channel := ch, ring := ring, index := index, acceptedAt := s.now, toB := s.linkUp .ctrlA .ctrlB } : Swap)] } }
  (s2.raiseAll (s2.asAccepted.eolEvents s2.acceptedSet)).clearRefused ch

/-- Refuses a swap (R224). -/
def State.refuseSwap (s : State) (old new : Option SlotCode) (ring index : Nat) : State :=
  let ch : Channel := match new, old with
    | some n, _ => (s.slotOf .a n).channel
    | none, some o => (s.slotOf .a o).channel
    | none, none => 0
  (s.dropChange.raise 0x1046 ch.val 10 [3]).complete ring index 1 2 0

/-- The channels of a mask. -/
def maskChans (m : BitVec 8) : List Channel := (idxs 8).filter (fun c => m.getLsbD c.val)

/-- VELVET_ENG_n (06_planning_and_ageing.md). -/
def velvetEngReg (v : Velvet) : Word :=
  packFields [(31, b2n v.failed), (30, b2n v.disagree), (0, min 0xFFFF (v.filtered / 65536))]

/-- PLAN_STATUS. -/
def PlanDie.status (p : PlanDie) : Word :=
  packFields [(16, p.vddMv % 65536), (12, p.lastStep), (11, b2n p.avsFailed), (0, min 1023 p.slack)]

end Sys2Proof.Machine
end

