-- ==== Sys2Proof/Machine/Satellite.lean ====
section
/-! DEFINITION. What the stop wires do (12_protection_and_discharge.md, R423; 14_functional_safety.md, R479, R480; 18_power_ladder.md, R602): STO_A_n, AUX_OFF_A as Chamois asserts them, the dies of a satellite, and the halt of a modulator (R367). -/

namespace Sys2Proof.Machine

/-- Turn-on trim of a trim word, in 1/32 tick. -/
def onTrim (w : Word) : Int := (w.extractLsb' 20 12).toInt
/-- Turn-off trim. -/
def offTrim (w : Word) : Int := (w.extractLsb' 8 12).toInt
/-- Strength step at turn-on. -/
def onStep (w : Word) : Nat := bitsAt w 6 2
/-- Strength step at turn-off. -/
def offStep (w : Word) : Nat := bitsAt w 4 2

/-- The port of a position (R9). -/
def portOf (c : Channel) (p : Fin 6) : Port := ⟨6 * c.val + p.val, by omega⟩
/-- The channel of a port. -/
def portChannel (t : Port) : Channel := ⟨t.val / 6, by omega⟩
/-- The position of a port. -/
def portPos (t : Port) : Fin 6 := ⟨t.val % 6, by omega⟩

/-- Updates a satellite. -/
def State.modSat (s : State) (t : Port) (f : Satellite → Satellite) : State := { s with sats := vUpd s.sats t f }
/-- Updates LINK's side of a port. -/
def State.modPort (s : State) (t : Port) (f : TpPort → TpPort) : State := { s with ports := vUpd s.ports t f }
/-- Updates a gate array. -/
def State.modGate (s : State) (t : Port) (f : GatePos → GatePos) : State := { s with gates := vUpd s.gates t f }
/-- Updates a protection unit. -/
def State.modProt (s : State) (c : Channel) (f : Protection → Protection) : State := { s with prot := vUpd s.prot c f }
/-- Updates a modulator. -/
def State.modMod (s : State) (c : Channel) (f : Modulator → Modulator) : State := { s with mod := vUpd s.mod c f }
/-- Updates what Tahr holds of a channel. -/
def State.modTahrCh (s : State) (c : Channel) (f : TahrChan → TahrChan) : State :=
  { s with tahr := { s.tahr with ch := vUpd s.tahr.ch c f } }

/-- A stop request of LINK or of the frame supervisor leaves for Tahr (R32, R486); it is lost where the link has failed. `source`: as 0x7110 gives it. -/
def State.requestStop (s : State) (src : Die) (c : Channel) (sto : Bool) (source : Nat) : State :=
  if s.linkUp src .safe then
    (({ s with tahr := { s.tahr with requests := s.tahr.requests ++ [(c, sto, source)] } } : State)).sendDie src .safe
      (if sto then "sto_request" else "ss1_request") [c.val]
  else s

/-- The trim word of a die in the set in force. -/
def Satellite.word (x : Satellite) (d : Fin 16) : Word := x.trims[x.tset][d]

/-- A mask of dies as a list. -/
def maskDies (m : BitVec 16) : List (Fin 16) := (idxs 16).filter (fun d => m.getLsbD d.val)

/-- The mask of dies 0 to n − 1. -/
def firstDies (n : Nat) : BitVec 16 := BitVec.ofNat 16 (2 ^ n - 1)

/-- Switches the dies of a mask with the steps a function gives. -/
def Satellite.switch (x : Satellite) (m : BitVec 16) (on : Bool) (step : Fin 16 → Nat) : Satellite :=
  { x with
    on := if on then x.on ||| m else x.on &&& ~~~m
    turnedOff := if on then x.turnedOff else x.turnedOff ||| (x.on &&& m)
    steps := Vector.ofFn (fun d => if m.getLsbD d.val then step d else x.steps[d]) }

/-- Turns every die off with its OFF_STEP (R392, R395, R423). -/
def Satellite.allOff (x : Satellite) : Satellite :=
  ({ x with edges := [] } : Satellite).switch x.on false (fun d => offStep (x.word d))

/-- Every die turns off, but for a satellite whose ASC input is asserted: its dies stay on whatever the link does (R373, R423). -/
def Satellite.loseDies (x : Satellite) (short : Bool) : Satellite := if short then { x with edges := [] } else x.allOff

/-- A stop wire overrides every edge command, those of armed halves too; their halves go on without entries (R41, R392). -/
def Satellite.cancelEdges (x : Satellite) : Satellite := { x with armed := x.armed.map (fun h => { h with entries := [] }) }

/-- Turns on every die that is neither latched nor retired, with the ON_STEP of its set (R423). -/
def Satellite.shortOn (x : Satellite) : Satellite :=
  ({ x with edges := [] } : Satellite).switch (firstDies x.dies &&& ~~~(x.latched ||| x.retired)) true (fun d => onStep (x.word d))

/-- The part stands below RUN, or its cold start is not complete: the hold of R602 and R619. -/
def State.rungHold (s : State) : Bool := s.pwr.rung != 0 || !s.pwr.started || s.pwr.resetLow

/-- A field of Chamois's copy of a function record (R499). -/
def chamoisFn (ps : List Byte) (f off n : Nat) : Nat := fieldLe ps (256 + 16 * f + off) n
/-- A field of Chamois's copy of a pair record. -/
def chamoisPair (ps : List Byte) (k off n : Nat) : Nat := fieldLe ps (16 * k + off) n

/-- A Chamois function latch that is to assert STO_A_n does so (R477). -/
def State.chamoisSto (s : State) (c : Channel) : Bool :=
  match s.chamois.params with
  | none => true
  | some ps => (idxs 16).any (fun f => s.chamois.stopped.getLsbD f.val && (chamoisFn ps f.val 4 1).testBit c.val)

/-- STO_A_n (R424, R479, R480, R602). -/
def State.stoA (s : State) (c : Channel) : Bool :=
  s.rungHold || s.chamoisSto c || s.chamois.loss || s.chamois.linkReq.getLsbD c.val || s.chamois.tahrReq.getLsbD c.val
    || s.sw.asc.getLsbD c.val

/-- STO_B_n (R483, R602). -/
def State.stoB (s : State) (c : Channel) : Bool := s.rungHold || s.sw.stoB.getLsbD c.val

/-- ASC_n; released below RUN (R602). -/
def State.ascN (s : State) (c : Channel) : Bool := s.sw.asc.getLsbD c.val && !s.rungHold

/-- AUX_OFF_A (R438, R477, R480, R481, R602). -/
def State.auxOffA (s : State) : Bool :=
  s.rungHold || s.chamois.loss || s.chamois.shutAux || (match s.chamois.params with
    | none => true
    | some ps => (idxs 16).any (fun f => s.chamois.latched[f].isSome && (chamoisFn ps f.val 5 1).testBit 1))

/-- AUX_OFF_B (R476, R602). -/
def State.auxOffB (s : State) : Bool := s.rungHold || s.sw.auxOffB

/-- Is the ASC input of this position wired to ASC_n (R424)? -/
def ascWired (c : Channel) (p : Fin 6) : Bool := (p.val % 2 == 0) == Config.ascHigh c.val

/-- The wires of a satellite: it shorts, it is held off, or it follows its EDGE messages (R423). -/
inductive GateWire where
  | short
  | off
  | follow
  deriving DecidableEq, Repr

/-- What the wires of a port's channel ask of its satellite (R41, R423). -/
def State.gateWire (s : State) (t : Port) : GateWire :=
  let c := portChannel t
  if s.ascN c && ascWired c (portPos t) then .short
  else if s.stoA c || s.stoB c || s.wires.ocTrip[c] then .off
  else .follow

/-- The satellites of a channel react to its wires (R373, R423). -/
def State.satWires (s : State) (c : Channel) : State :=
  (idxs 6).foldl (fun s p =>
    let t := portOf c p
    match s.gateWire t with
    | .short => s.modSat t (fun x => x.cancelEdges.shortOn)
    | .off => s.modSat t (fun x => x.cancelEdges.allOff)
    | .follow => s.modSat t (fun x => if x.loss then x.allOff else x)) s   -- a short that ends in link loss leaves the dies off (R395)

/-- The wires of R41 of a channel: OC_TRIP_n, STO_A_n, STO_B_n, ASC_n in bits 0 to 3. -/
def State.stopWires (s : State) (c : Channel) : BitVec 4 :=
  BitVec.ofNat 4 (b2n s.wires.ocTrip[c] + 2 * b2n (s.stoA c) + 4 * b2n (s.stoB c) + 8 * b2n (s.ascN c))

/-- Publishes ch_n.switching: bit 0 is 1 only while no wire of R41 is asserted (R366). -/
def State.publishSwitching (s : State) (c : Channel) (want : Bool) : State :=
  let on := want && s.stopWires c == 0
  (s.modMod c (fun m => { m with switching := on })).hwCommit 0x0005 s.ch[c].refInstant [(chBase c + 0x1C, boolWord on)]

/-- A wire of R41 has asserted: every queued edge command is cancelled, and none is sent until the channel is released (R41, R366, R367). -/
def State.haltMod (s : State) (c : Channel) : State :=
  let s1 := s.modMod c (fun m => { m with
    halted := true
    applied := none
    next := none
    queue := m.queue.map (fun q => { q with entries := q.entries.map (fun _ => []) })
    legs := Vector.replicate 3 .off
    points := Vector.replicate 3 [] })
  if s.mod[c].switching then s1.publishSwitching c false else s1

/-- One channel takes note of its stop wires. -/
def State.settleCh (s : State) (c : Channel) : State :=
  let now := s.stopWires c
  let old := s.sw.seen[c]
  let s1 : State := { s with sw := { s.sw with seen := vUpd s.sw.seen c (fun _ => now) } }
  if now = old then s
  else if now &&& ~~~old ≠ 0 then (s1.haltMod c).satWires c
  else s1.satWires c

/-- After any change of the stop wires: modulators halt and satellites react (R41, R367, R423). -/
def State.settle (s : State) : State := (idxs 8).foldl State.settleCh s

end Sys2Proof.Machine
end

