-- ==== Sys2Proof/Machine/Sense.lean ====
section
/-! DEFINITION. The SENSE dies (07_current_and_voltage_sensing.md): bitstream inputs, SAR converters, measurement groups, sample buffers, set-up checks. -/

namespace Sys2Proof.Machine

/-- Owner code of a SENSE die (R96). -/
def senseOwner (d : Fin 2) : Nat := 3 + d.val
/-- Source code of a SENSE die in events: 4 SENSE-0, 5 SENSE-1. -/
def senseSource (d : Fin 2) : Nat := 4 + d.val
/-- First signal of a SENSE die's block (R283). -/
def senseBase (d : Fin 2) : Nat := 0x10000 + d.val * 0x1000

/-- Updates a SENSE die. -/
def State.modSense (s : State) (d : Fin 2) (f : SenseDie → SenseDie) : State := { s with sense := vUpd s.sense d f }
/-- Updates a bitstream input. -/
def State.modSdm (s : State) (d : Fin 2) (i : Fin 24) (f : SdmInput → SdmInput) : State :=
  s.modSense d (fun x => { x with sdm := vUpd x.sdm i f })
/-- Updates a converter. -/
def State.modConv (s : State) (d : Fin 2) (c : Fin 6) (f : Converter → Converter) : State :=
  s.modSense d (fun x => { x with conv := vUpd x.conv c f })
/-- Updates a plausibility pair. -/
def State.modPair (s : State) (d : Fin 2) (k : Fin 3) (f : PlausPair → PlausPair) : State :=
  s.modSense d (fun x => { x with pairs := vUpd x.pairs k f })
/-- Updates a channel's measurement groups. -/
def State.modMeas (s : State) (c : Channel) (f : ChanSense → ChanSense) : State := { s with meas := vUpd s.meas c f }
/-- Updates a sample buffer. -/
def State.modSmp (s : State) (b : Fin 64) (f : SampleBuffer → SampleBuffer) : State := { s with smp := vUpd s.smp b f }
/-- A bitstream input. -/
def State.sdm (s : State) (d : Fin 2) (i : Fin 24) : SdmInput := (s.sense[d]).sdm[i]
/-- A converter. -/
def State.conv (s : State) (d : Fin 2) (c : Fin 6) : Converter := (s.sense[d]).conv[c]

/-- R268: the corrected code and whether it is clipped. -/
def correct (corr : Word) (r : Int) : Int × Bool :=
  let off : Int := (corr.extractLsb' 16 16).toInt
  let v : Int := ((r + off) * (bitsAt corr 0 16 : Nat) + 0x4000) / 32768
  (max (-32768) (min 32767 v), decide (v < -32768 ∨ 32767 < v))

/-! ## Sample buffers -/

/-- Do the measuring units of the SENSE dies run: from SETUP_LOCK on, on RUN and GRAZE (R601, R695)? -/
def State.senseRuns (s : State) : Bool := s.glb.locked && decide (s.pwr.rung ≤ 1)

/-- Is the buffer enabled and left on by the set-up checks? -/
def State.smpOn (s : State) (b : Fin 64) : Bool := bitAt (s.reg (Reg.smpCtrl b.val)) 31 && !s.smp[b].disabled && s.senseRuns
/-- LOG2_LEN, from 4 to 19. -/
def State.smpLog (s : State) (b : Fin 64) : Nat := max 4 (min 19 (s.fld (Reg.smpCtrl b.val) 0 5))
/-- Records not yet consumed (R281). -/
def State.smpUnread (s : State) (b : Fin 64) : Nat := (s.smp[b].wptr + 2 ^ 32 - (s.reg (Reg.smpRptr b.val)).toNat) % 2 ^ 32

/-- R281's two events, judged after the write pointer or the read pointer has moved. -/
def State.smpJudge (s : State) (b : Fin 64) : State :=
  let u := s.smpUnread b
  let x := s.smp[b]
  let s1 := if max 1 (s.fld (Reg.smpWm b.val) 0 20) ≤ u ∧ ¬ x.wmRaised then
      (s.raise 0x2030 b.val 2 [w32 x.wptr]).modSmp b (fun y => { y with wmRaised := true })
    else s
  if 2 ^ s.smpLog b < u ∧ rateOk x.lastOverrun s.now sTicks then
    (s1.raise 0x2031 b.val 5 [w32 x.wptr, s.reg (Reg.smpRptr b.val)]).modSmp b (fun y => { y with lastOverrun := some s.now })
  else s1

/-- One record enters a buffer (R279, R280), in the sample memory of each control die that the source's die reaches (R23). -/
def State.smpRecord (s : State) (b : Fin 64) (d : Fin 2) (restart : Bool) (value : Int) (stamp : Nat) : State :=
  let x := s.smp[b]
  let word : Word := packFields [(31, b2n (restart || x.fresh)), (16, x.wptr % 2 ^ 15), (0, (BitVec.ofInt 16 value).toNat)]
  let at_ := (s.fld (Reg.smpBase b.val) 0 19 + x.wptr % 2 ^ s.smpLog b) % 2 ^ 19
  let w := (x.wptr + 1) % 2 ^ 32
  let s0 : State := { s with
    sampleMem := if s.reaches (senseOwner d) .a then kvSet 0 s.sampleMem at_ word else s.sampleMem
    sampleMemB := if s.reaches (senseOwner d) .b then kvSet 0 s.sampleMemB at_ word else s.sampleMemB }
  (((s0.modSmp b (fun y => { y with wptr := w, fresh := false })).hwCommit
    (senseOwner d) stamp [(0x12000 + b.val, w32 w)])).smpJudge b

/-- Buffers of a source: KIND raw or corrected, SRC and (for SAR) ADC. -/
def State.smpOf (s : State) (d : Fin 2) (sar : Bool) (adc src : Nat) : List (Fin 64) :=
  (idxs 64).filter (fun b =>
    let w := s.reg (Reg.smpCtrl b.val)
    s.smpOn b && bitsAt w 30 1 == d.val && bitAt w 29 == sar && bitsAt w 19 5 == src && (!sar || bitsAt w 16 3 == adc))

/-- A record of one output of a source to every buffer that takes it. -/
def State.smpAll (s : State) (bs : List (Fin 64)) (d : Fin 2) (restart : Bool) (raw code : Int) (stamp : Nat) : State :=
  bs.foldl (fun s b => s.smpRecord b d restart (if bitAt (s.reg (Reg.smpCtrl b.val)) 28 then raw else code) stamp) s

/-- SMP_RPTR (R281, R282): a buffer's read pointer is written; the watermark is judged afresh when it has changed. -/
def State.setRptr (s : State) (b : Fin 64) (v : Word) : State :=
  let moved := decide (s.reg (Reg.smpRptr b.val) ≠ v)
  ((s.setReg (Reg.smpRptr b.val) v).modSmp b (fun y => { y with wmRaised := y.wmRaised && !moved })).smpJudge b

/-- SMP_RPTR (R282). -/
def execSmpRptr (buffer : Fin 64) (value : BitVec 32) (s : State) : Out := .next (s.setRptr buffer value)

/-! ## Bitstream inputs -/

/-- OSR of an input. -/
def State.osr (s : State) (d : Fin 2) (i : Fin 24) : Nat := max 16 (min 256 (s.fld (Reg.sdmCfg d.val i.val) 0 9))
/-- DIV of MCLK_k (R242). -/
def State.clkDiv (s : State) (d : Fin 2) (k : Nat) : Nat := max 16 (min 80 (s.fld (Reg.mclkCfg d.val k) 0 7))
/-- Does MCLK_k run (R242)? -/
def State.clkOn (s : State) (d : Fin 2) (k : Nat) : Bool := bitAt (s.reg (Reg.mclkCfg d.val k)) 31 && s.senseRuns
/-- The level of MCLK_k: high for ⌊DIV / 2⌋ ticks from every multiple of DIV on (R242). -/
def State.mclk (s : State) (d : Fin 2) (k : Nat) : Bool := s.clkOn d k && decide (s.now % s.clkDiv d k < s.clkDiv d k / 2)
/-- The clock of an input. -/
def State.sdmClk (s : State) (d : Fin 2) (i : Fin 24) : Nat := s.fld (Reg.sdmCfg d.val i.val) 26 2
/-- Modulator period of an input in ticks (R242). -/
def State.mclkDiv (s : State) (d : Fin 2) (i : Fin 24) : Nat := s.clkDiv d (s.sdmClk d i)
/-- Local channel of an input; none for 4 to 7. -/
def State.sdmChan (s : State) (d : Fin 2) (i : Fin 24) : Option Channel :=
  let k := s.fld (Reg.sdmCfg d.val i.val) 28 3
  if k < 4 then some (chanOf d k) else none
/-- The sampling time of the latest bit (R243). -/
def State.bitTime (s : State) (d : Fin 2) (i : Fin 24) : Nat :=
  let dly := s.fld (Reg.sdmCfg d.val i.val) 22 4
  (s.now - dly) / s.mclkDiv d i * s.mclkDiv d i + dly

/-- A restart of the sinc3 filter (R245, R248). -/
def SdmInput.restart (x : SdmInput) : SdmInput :=
  { x with i1 := 0, i2 := 0, i3 := 0, hist := [], count := 0, raw := 0, restarted := true }

/-- One bit through the sinc3 filter (R245). -/
def SdmInput.sinc3 (x : SdmInput) (osr : Nat) (b : Bool) : SdmInput :=
  let i1 := x.i1 + (if b then 1 else -1)
  let i2 := x.i2 + i1
  let i3 := x.i3 + i2
  let h : List Int := (i3 :: x.hist).take (3 * osr + 1)
  let y : Int := i3 - 3 * h.getD osr 0 + 3 * h.getD (2 * osr) 0 - h.getD (3 * osr) 0
  { x with i1 := i1, i2 := i2, i3 := i3, hist := h, count := x.count + 1
           raw := min 32767 ((65536 * y + osr ^ 3) / (2 * osr ^ 3)) }

/-- The filter has settled (R245). -/
def SdmInput.settled (x : SdmInput) (osr : Nat) : Bool := decide (3 * osr ≤ x.count)

/-- n of the sinc1 comparator; none until WIN bits have arrived (R249). -/
def SdmInput.ones (x : SdmInput) (win : Nat) : Option Nat :=
  if x.win.length = win then some (x.win.filter id).length else none

/-- One bit through the comparator (R249). -/
def SdmInput.sinc1 (x : SdmInput) (cmp : Word) (b : Bool) : SdmInput :=
  let win := max 4 (min 32 (bitsAt cmp 16 6))
  let y := { x with win := (b :: x.win).take win }
  match y.ones win with
  | none => { y with beyond := 0 }
  | some n => { y with beyond := if bitsAt cmp 8 6 < n ∨ n < bitsAt cmp 0 6 then x.beyond + 1 else 0 }

/-- The comparator of an input is on (R249, R285 reason 10). -/
def State.cmpOn (s : State) (d : Fin 2) (i : Fin 24) : Bool :=
  bitAt (s.reg (Reg.sdmCmp d.val i.val)) 31 && !(s.sense[d]).cmpOff.contains i.val

/-- The comparator of an input trips (R249). -/
def State.cmpTrips (s : State) (d : Fin 2) (i : Fin 24) : Bool :=
  s.cmpOn d i && decide (s.fld (Reg.sdmCmp d.val i.val) 24 3 + 1 ≤ (s.sdm d i).beyond)

/-- OC_TRIP_n asserted (R250). -/
def State.ocAssert (s : State) (c : Channel) : State :=
  (({ s with wires := { s.wires with ocTrip := vUpd s.wires.ocTrip c (fun _ => true) } } : State).modMeas c (fun m => { m with tripAt := s.now })).settleCh c

/-- A trip of the comparator of an input (R250). -/
def State.sinc1Judge (s : State) (d : Fin 2) (i : Fin 24) : State :=
  match s.sdmChan d i with
  | none => s
  | some c =>
    if s.cmpTrips d i then
      let s1 := s.ocAssert c
      if (s.sdm d i).beyond = s.fld (Reg.sdmCmp d.val i.val) 24 3 + 1 then
        s1.raise 0x2003 c.val 10 [w32 i.val, w32 (((s.sdm d i).win.filter id).length)]
      else s1
    else s

/-- Watch for a stuck bitstream (R244): the bit that differs restarts the filter and is its first bit. -/
def State.stuckJudge (s : State) (d : Fin 2) (i : Fin 24) (b : Bool) : State :=
  let x := s.sdm d i
  let same := decide (x.run ≠ 0) && x.lastBit == b
  let run := if same then min 128 (x.run + 1) else 1
  if x.stuck && !same then
    (s.modSdm d i (fun y => { y.restart with stuck := false, run := 1, lastBit := b })).raise 0x2002 (senseSource d) 3 [w32 i.val]
  else if run = 128 ∧ ¬ x.stuck then
    (s.modSdm d i (fun y => { y with stuck := true, run := run, lastBit := b })).raise 0x2001 (senseSource d) 8 [w32 i.val, w32 (b2n b)]
  else s.modSdm d i (fun y => { y with run := run, lastBit := b })

/-- Every bit of an input (R243 to R249, R279): stuck watch, filter, comparator and, each OSR bits of a settled filter, a sample record. -/
def State.feedBit (s : State) (d : Fin 2) (i : Fin 24) (b : Bool) (t : Nat) : State :=
  let osr := s.osr d i
  let s1 := (s.stuckJudge d i b).modSdm d i (fun x => x.sinc3 osr b)
  let s2 := if s1.cmpOn d i then (s1.modSdm d i (fun x => x.sinc1 (s.reg (Reg.sdmCmp d.val i.val)) b)).sinc1Judge d i else s1
  let x := s2.sdm d i
  if x.settled osr ∧ x.count % osr = 0 then
    (s2.smpAll (s2.smpOf d false 0 i.val) d x.restarted x.raw (correct (s.reg (Reg.sdmCorr d.val i.val)) x.raw).1 t).modSdm d i
      (fun y => { y with restarted := false })
  else s2

/-- Does an input take these bits? One whose clock does not run samples none (R243). -/
def State.takesBits (s : State) (d : Fin 2) (i : Fin 24) (bits : List Bool) : Bool :=
  !bits.isEmpty && bitAt (s.reg (Reg.sdmCfg d.val i.val)) 31 && s.clkOn d (s.sdmClk d i)

/-- The bits sampled on an input since its last command, oldest first: filter, comparator and sample buffers take them. -/
def State.filterBits (s : State) (d : Fin 2) (i : Fin 24) (bits : List Bool) : State :=
  if s.takesBits d i bits then
    let t := s.bitTime d i
    let n := bits.length
    (bits.zipIdx).foldl (fun s b => s.feedBit d i b.1 (t - s.mclkDiv d i * (n - 1 - b.2))) s
  else s

/-- The latest raw and corrected values of an input that has taken bits reach the board (R283). -/
def State.showBits (s : State) (d : Fin 2) (i : Fin 24) (bits : List Bool) : State :=
  if s.takesBits d i bits then
    let t := s.bitTime d i
    let r := (s.sdm d i).raw
    s.hwCommit (senseOwner d) t [(senseBase d + i.val, i32 r),
      (senseBase d + 0x20 + i.val, i32 (correct (s.reg (Reg.sdmCorr d.val i.val)) r).1)]
  else s

/-- The bits of one input: its sample-buffer pointers reach the board before its values (R284). -/
def State.feedBits (s : State) (d : Fin 2) (i : Fin 24) (bits : List Bool) : State := (s.filterBits d i bits).showBits d i bits

/-- The bits of a command of one SENSE die; the NB-7806 has no SENSE-1 (R1). -/
def State.bitsArrive (s : State) (d : Fin 2) (i : Fin 24) (bits : List Bool) : Out :=
  if s.hasDie (senseDie d) then .next (s.feedBits d i bits) else .next s

/-- SDM_STUCK (R244): the bits that make the bitstream stuck. -/
def execSdmStuck (die : Fin 2) (input : Fin 24) (bits : List Bool) (s : State) : Out := s.bitsArrive die input bits
/-- SDM_RESTORED (R244): the bits that end a stuck bitstream. -/
def execSdmRestored (die : Fin 2) (input : Fin 24) (bits : List Bool) (s : State) : Out := s.bitsArrive die input bits
/-- FILTER_SETTLED (R245): the bits that settle the sinc3 filter. -/
def execFilterSettled (die : Fin 2) (input : Fin 24) (bits : List Bool) (s : State) : Out := s.bitsArrive die input bits
/-- SINC1_TRIP (R249, R250): the bits that trip the sinc1 comparator. -/
def execSinc1Trip (die : Fin 2) (input : Fin 24) (bits : List Bool) (s : State) : Out := s.bitsArrive die input bits
/-- SDM_SAMPLE_RECORD (R279): the bits that complete a record of a sample buffer. -/
def execSdmSampleRecord (die : Fin 2) (input : Fin 24) (bits : List Bool) (s : State) : Out := s.bitsArrive die input bits

/-- OC_TRIP_RELEASE (R250): at least 1 µs after the assertion, once no enabled comparator of the channel trips. -/
def State.ocRelease (s : State) (c : Channel) : State :=
  let d := senseOf c
  let still := (idxs 24).any (fun i => s.sdmChan d i == some c && s.cmpTrips d i)
  if s.wires.ocTrip[c] && !still && decide (s.meas[c].tripAt + usTicks ≤ s.now) then
    { s with wires := { s.wires with ocTrip := vUpd s.wires.ocTrip c (fun _ => false) } }
  else s

/-! ## Converters -/

/-- ADC_CTRL_c. -/
def State.adcCtrl (s : State) (d : Fin 2) (c : Fin 6) : Word := s.reg (Reg.adcCtrl d.val c.val)
/-- Is the converter enabled? -/
def State.adcOn (s : State) (d : Fin 2) (c : Fin 6) : Bool := bitAt (s.adcCtrl d c) 31 && s.senseRuns
/-- Entries in use. -/
def State.adcLen (s : State) (d : Fin 2) (c : Fin 6) : Nat := min 24 (bitsAt (s.adcCtrl d c) 18 5 + 1)
/-- ADC_SEQ_c_e. -/
def State.adcSeq (s : State) (d : Fin 2) (c : Fin 6) (e : Nat) : Word := s.reg (Reg.adcSeq d.val c.val e)
/-- Does a pass of this trigger convert the entry (R255)? -/
def State.inPass (s : State) (d : Fin 2) (c : Fin 6) (t : Trigger) (e : Nat) : Bool :=
  let chm := bitsAt (s.adcSeq d c e) 29 3
  decide (4 ≤ chm) || (match t with
    | .channel l => chm == l.val
    | .timer => false)
/-- The entries of a pass. -/
def State.passEntries (s : State) (d : Fin 2) (c : Fin 6) (t : Trigger) : List Nat :=
  (List.range (s.adcLen d c)).filter (s.inPass d c t)
/-- ACQ of an entry. -/
def State.acq (s : State) (d : Fin 2) (c : Fin 6) (e : Nat) : Nat := bitsAt (s.adcSeq d c e) 21 3
/-- Length of a conversion in ticks (R252). -/
def convTicks (acq : Nat) : Nat := 80 + 64 * acq
/-- Sampling time of a conversion (R252). -/
def convSample (start acq : Nat) : Nat := start + 16 + 64 * acq

/-- Raw code of a held voltage in nV (R254). -/
def rawCode (nanovolts : Int) : Int := max (-32768) (min 32767 ((131072 * nanovolts + 2500000000) / 5000000000 - 32768))

/-- Ball of a multiplexer input (R253). -/
def State.ballOf (s : State) (d : Fin 2) (c : Fin 6) (j : Nat) : Option Nat :=
  if j < 20 then some (if c.val % 2 = 0 then j else 20 + j)
  else if j = 20 ∧ c.val % 2 = 1 then some (s.fld (Reg.plaus d.val (c.val / 2)) 24 5)
  else none

/-- Is a multiplexer input reserved (R253)? -/
def muxReserved (c j : Nat) : Bool :=
  (decide (21 ≤ j) && decide (j ≤ 23)) || decide (30 ≤ j) || (j == 20 && c % 2 == 0)

/-- Open-wire bit of a ball. -/
def SenseDie.openWire (x : SenseDie) (ball : Nat) : Bool := if ball < 32 then bitAt x.owLo ball else bitAt x.owHi (ball - 32)

/-- Status word of a pass that ends (R283). -/
def passStatus (p : Pass) (passes : Nat) : Word :=
  packFields [(0, min 0xFFFF (p.startTime - p.trigTime)), (16, b2n p.latched), (17, b2n p.preempted),
    (18, match p.trig with
      | .channel l => l.val
      | .timer => 4), (24, passes % 256)]

/-- A pass ends (R258): status, raw and corrected codes of what it converted. -/
def State.publishPass (s : State) (d : Fin 2) (c : Fin 6) (p : Pass) : State :=
  let n := ((s.conv d c).passes + 1) % 256
  let b := senseBase d + 0x20 * c.val
  let raws : Kv Word := p.results.map (fun r => (b + 0x100 + r.1, i32 r.2))
  let codes : Kv Word := p.results.map (fun r =>
    (b + 0x200 + r.1, i32 (correct (s.reg (Reg.adcCorr d.val c.val (bitsAt (s.adcSeq d c r.1) 0 5))) r.2).1))
  (s.modConv d c (fun x => { x with passes := n })).hwCommit (senseOwner d) s.now
    (raws ++ [(b + 0x118, passStatus p n)] ++ codes)

/-- A pass starts at time t, on its first entry; with no entry of its own it ends at once. -/
def State.beginPass (s : State) (d : Fin 2) (c : Fin 6) (trig : Trigger) (trigTime t : Nat) (latched : Bool) : State :=
  match s.passEntries d c trig with
  | [] => (s.publishPass d c ⟨trig, trigTime, t, 0, t, [], latched, false⟩).modConv d c (fun x => { x with work := .idle })
  | e :: _ => s.modConv d c (fun x => { x with work := .pass ⟨trig, trigTime, t, e, t, [], latched, false⟩ })

/-- A plausibility pair counts a skipped period (R266). -/
def State.skipPair (s : State) (d : Fin 2) (k : Fin 3) : State :=
  let n := (s.sense[d]).pairs[k].skipped + 1
  let s1 := s.modPair d k (fun p => { p with skipped := n, even := none, odd := none })
  if n = 16 then s1.raise 0x2013 (senseSource d) 4 [w32 k.val] else s1

/-- The two converters of a pair. -/
def pairEven (k : Fin 3) : Fin 6 := ⟨2 * k.val, by omega⟩
/-- The odd converter of a pair. -/
def pairOdd (k : Fin 3) : Fin 6 := ⟨2 * k.val + 1, by omega⟩
/-- Pair of a converter. -/
def pairOf (c : Fin 6) : Fin 3 := ⟨c.val / 2, by omega⟩
/-- The other converter of a pair. -/
def mateOf (c : Fin 6) : Fin 6 := if c.val % 2 = 0 then pairOdd (pairOf c) else pairEven (pairOf c)

/-- The converters of a pair start their common conversion once both are idle (R265). -/
def State.servePair (s : State) (d : Fin 2) (k : Fin 3) (t : Nat) : State :=
  if (s.sense[d]).pairs[k].want && (s.conv d (pairEven k)).work == .idle && (s.conv d (pairOdd k)).work == .idle then
    ((s.modPair d k (fun p => { p with want := false, even := none, odd := none })).modConv d (pairEven k)
      (fun x => { x with work := .plaus t })).modConv d (pairOdd k) (fun x => { x with work := .plaus t })
  else s

/-- A converter without work of priority 1 or 2 takes its latched trigger, then a plausibility and a housekeeping conversion (R263). -/
def State.serve (s : State) (d : Fin 2) (c : Fin 6) (t : Nat) : State :=
  let s1 := match (s.conv d c).work, (s.conv d c).latched with
    | .idle, some (trig, tt) => (s.modConv d c (fun x => { x with latched := none })).beginPass d c trig tt t true
    | _, _ => s
  let s2 := s1.servePair d (pairOf c) t
  match (s2.conv d c).work, (s2.conv d c).house with
  | .idle, j :: js => s2.modConv d c (fun x => { x with work := .house j t, house := js })
  | _, _ => s2

/-- A plausibility or housekeeping conversion is aborted at once, on both converters of a pair (R263). -/
def State.abortLow (s : State) (d : Fin 2) (c : Fin 6) : State :=
  match (s.conv d c).work with
  | .plaus _ =>
    let k := pairOf c
    let drop := fun (x : Converter) => match x.work with
      | .plaus _ => { x with work := ConvWork.idle }
      | _ => x
    ((s.modConv d (pairEven k) drop).modConv d (pairOdd k) drop).skipPair d k
  | .house _ _ => s.modConv d c (fun x => { x with work := .idle })
  | _ => s

/-- A trigger arrives (R257, R263); what waits for a converter that is idle after it is served, on the other one of an aborted pair too. -/
def State.trigger (s : State) (d : Fin 2) (c : Fin 6) (trig : Trigger) (t : Nat) : State :=
  if !s.adcOn d c then s
  else
    let s1 := s.abortLow d c
    let x := s1.conv d c
    if x.work = .idle then ((s1.beginPass d c trig t t false).serve d c t).serve d (mateOf c) t
    else match x.latched with
    | none => s1.modConv d c (fun y => { y with latched := some (trig, t) })
    | some _ =>
      let n := holdInc 0xFFFFFFFF x.overruns
      let s2 := (s1.modConv d c (fun y => { y with overruns := n })).hwCommit (senseOwner d) s.now
        [(senseBase d + 0x119 + 0x20 * c.val, w32 n)]
      if rateOk x.lastOverrunEvent s.now msTicks then
        (s2.modConv d c (fun y => { y with lastOverrunEvent := some s.now })).raise 0x2010 (senseSource d) 5 [w32 c.val, w32 n]
      else s2

/-- ADC_TIMER_TRIGGER (R256): at each multiple of PERIOD. -/
def execAdcTimerTrigger (die : Fin 2) (conv : Fin 6) (s : State) : Out :=
  if ¬ s.hasDie (senseDie die) then .next s
  else
    let p := max 80 (s.fld (Reg.adcCtrl die.val conv.val) 0 18)
    let t := s.now / p * p
    if s.fld (Reg.adcCtrl die.val conv.val) 29 2 = 2 ∧ (s.conv die conv).lastTimer ≠ some t then
      .next ((s.modConv die conv (fun x => { x with lastTimer := some t })).trigger die conv .timer t)
    else .next s

/-- An urgent request is dropped (R259, R261). -/
def State.dropUrgent (s : State) (d : Fin 2) (c : Nat) (ch : Channel) (id : Nat) : State :=
  let s1 := if h : c < 6 then
      let n := holdInc 0xFFFFFFFF (s.conv d ⟨c, h⟩).urgentDrops
      (s.modConv d ⟨c, h⟩ (fun x => { x with urgentDrops := n })).hwCommit (senseOwner d) s.now
        [(senseBase d + 0x11A + 0x20 * c, w32 n)]
    else s
  s1.raise 0x2011 (senseSource d) 4 [w32 c, w32 ch.val, w32 id]

/-- An urgent request reaches a converter (R260, R261, R263). -/
def State.urgent (s : State) (d : Fin 2) (c : Fin 6) (u : Urgent) : State :=
  let s1 := s.abortLow d c
  let x := s1.conv d c
  match x.work with
  | .urgent _ _ =>
    if x.pendingUrgent.isNone then s1.modConv d c (fun y => { y with pendingUrgent := some u })
    else s1.dropUrgent d c.val u.chan u.reqId
  | .pass p => s1.modConv d c (fun y => { y with suspended := some { p with preempted := true }, work := .urgent u (s.now + 1) })
  | _ => s1.modConv d c (fun y => { y with work := .urgent u (s.now + 1) })

/-- URGENT_REQUEST (R259): the oldest commit of a channel's adc_req on its way reaches the SENSE die; it is a request when its REQ_ID is not zero and new. -/
def execUrgentRequest (ch : Channel) (s : State) : Out :=
  if ¬ s.hasChannel ch then .next s
  else
    match s.meas[ch].requests with
    | [] => .next s
    | w :: ws =>
      let id := bitsAt w 16 16
      let s0 := s.modMeas ch (fun m => { m with
        lastReqId := id
        requests := ws })
      let d := senseOf ch
      if id = 0 ∨ id = s.meas[ch].lastReqId then .next s0
      else if h : bitsAt w 0 3 < 6 then
        if s.adcOn d ⟨_, h⟩ then .next ((s0.urgent d ⟨_, h⟩ ⟨ch, bitsAt w 3 5, id⟩).serve d (mateOf ⟨_, h⟩) s.now)
        else .next (s0.dropUrgent d (bitsAt w 0 3) ch id)
      else .next (s0.dropUrgent d (bitsAt w 0 3) ch id)

/-- URGENT_CONVERSION_END (R260 to R263): the result group, then the pending request, the interrupted pass from its entry, or the latched trigger. -/
def execUrgentConversionEnd (die : Fin 2) (conv : Fin 6) (nanovolts : Int) (s : State) : Out :=
  if ¬ s.hasDie (senseDie die) then .next s
  else match (s.conv die conv).work with
  | .urgent u start =>
    let t := start + convTicks 0
    if s.now < t then .next s
    else
      let code := (correct (s.reg (Reg.adcCorr die.val conv.val u.mux)) (rawCode nanovolts)).1
      let s1 := s.hwCommit (senseOwner die) (convSample start 0)
        [(chBase u.chan + 0x32, i32 code), (chBase u.chan + 0x33, w32 u.reqId)]
      match (s.conv die conv).pendingUrgent, (s.conv die conv).suspended with
      | some v, _ => .next (s1.modConv die conv (fun x => { x with work := .urgent v t, pendingUrgent := none }))
      | none, some p => .next (s1.modConv die conv (fun x => { x with work := .pass { p with convStart := t }, suspended := none }))
      | none, none => .next ((s1.modConv die conv (fun x => { x with work := .idle })).serve die conv t)
  | _ => .next s

/-! ## Ends of conversions -/

/-- Members of a channel's groups. -/
def measReg (s : State) (c : Channel) (m : Nat) : Word := s.reg (Reg.chMeas (senseOf c).val (localOf c).val m)
/-- Is the member enabled? KIND 3 counts as disabled (R287). -/
def memberOn (w : Word) : Bool := bitAt w 31 && bitsAt w 29 2 != 3

/-- A conversion of an entry makes the SAR members that name it ready (R272, R277). -/
def State.memberConv (s : State) (d : Fin 2) (c : Fin 6) (p : Pass) (e : Nat) (code : Int) (clip : Bool) (ball : Option Nat) : State :=
  match p.trig with
  | .timer => s
  | .channel l =>
    let ch := chanOf d l.val
    if s.meas[ch].sample ≠ p.trigTime then s
    else
      let bad := match ball with
        | some b => (s.sense[d]).openWire b
        | none => false
      (idxs 10).foldl (fun s m =>
        let w := measReg s ch m.val
        if bitAt w 31 && bitsAt w 29 2 == 1 && bitsAt w 26 3 == c.val && bitsAt w 21 5 == e && !(s.meas[ch]).members[m].ready then
          s.modMeas ch (fun x => { x with members := vUpd x.members m (fun y =>
            { y with ready := true, code := code, clip := clip, reason := if bad then 5 else 0 }) })
        else s) s

/-- A failed open-wire test marks every member that converts from the ball, a ready one whose group is still to be sent too (R277, R724). -/
def State.markOpenWire (s : State) (d : Fin 2) (b : Nat) : State :=
  ((idxs 8).filter (fun q => senseOf q == d)).foldl (fun s q => s.modMeas q (fun x => { x with
    members := Vector.ofFn (fun m =>
      let w := measReg s q m.val
      let sent := if m.val < 7 then x.sent else x.sentM
      let c : Fin 6 := finOf 5 (bitsAt w 26 3)
      if bitAt w 31 && bitsAt w 29 2 == 1 && !sent && x.members[m].ready && s.ballOf d c (bitsAt (s.adcSeq d c (bitsAt w 21 5)) 0 5) == some b then
        { x.members[m] with reason := 5 } else x.members[m]) })) s

/-- Does the test current of a ball flow (R277): at all times with CONT, else while a conversion of an OWT entry from it runs? -/
def State.testCurrentOn (s : State) (d : Fin 2) (b : Nat) : Bool :=
  bitAt (s.reg (Reg.ainCfg d.val b)) 3 || (idxs 6).any (fun c => match (s.conv d c).work with
    | .pass p =>
      let w := s.adcSeq d c p.entry
      bitAt w 20 && s.ballOf d c (bitsAt w 0 5) == some b && decide (p.convStart ≤ s.now)
    | _ => false)

/-- The test current of a ball in µA, up positive (AIN_CFG_k.OW). -/
def State.testCurrent (s : State) (d : Fin 2) (b : Nat) : Int :=
  if s.senseRuns && s.testCurrentOn d b then [0, 10, -10, 50, -50].getD (s.fld (Reg.ainCfg d.val b) 0 3) 0 else 0

/-- The open-wire test of an entry (R277). -/
def State.openWireTest (s : State) (d : Fin 2) (c : Fin 6) (p : Pass) (e : Nat) (code : Int) (ball : Option Nat) : State :=
  let w := s.adcSeq d c e
  match bitAt w 20, ball, p.results.find? (fun r => r.1 == bitsAt w 15 5) with
  | true, some b, some r =>
    let ref := (correct (s.reg (Reg.adcCorr d.val c.val (bitsAt w 0 5))) r.2).1
    if s.fld (Reg.owLimit d.val) 0 16 < (code - ref).natAbs then
      let s1 := (s.modSense d (fun x =>
        if b < 32 then { x with owLo := putBits x.owLo b 1 1 } else { x with owHi := putBits x.owHi (b - 32) 1 1 })).markOpenWire d b
      (s1.hwCommit (senseOwner d) s.now [(senseBase d + 0x320, (s1.sense[d]).owLo), (senseBase d + 0x321, (s1.sense[d]).owHi)]).raise
        0x2020 (senseSource d) 9 [w32 b, i32 code, i32 ref]
    else s
  | _, _, _ => s

/-- R278: the temperature of a corrected code. -/
def State.ntcValue (s : State) (d : Fin 2) (table : Nat) (code : Int) : Word :=
  let u := (code + 32768).toNat
  let p := u / 2048
  let f := f32OfRat (u % 2048) 2048
  let t0 := s.reg (Reg.ntcTab d.val table p)
  let t1 := s.reg (Reg.ntcTab d.val table (p + 1))
  (ffma f (fsub t1 t0).val t0).val

/-- The temperatures an entry feeds (R278). -/
def State.ntcUpdate (s : State) (d : Fin 2) (c e : Nat) (code : Int) : State :=
  (List.range 16).foldl (fun s k =>
    let w := s.reg (Reg.ntcCfg d.val k)
    if bitAt w 31 && bitsAt w 28 3 == c && bitsAt w 23 5 == e then
      s.hwCommit (senseOwner d) s.now [(senseBase d + 0x300 + k, s.ntcValue d (bitsAt w 21 2) code)]
    else s) s

/-- A conversion of a pass ends (R254, R258, R264, R272, R277 to R279). -/
def State.passConvEnd (s : State) (d : Fin 2) (c : Fin 6) (p : Pass) (nanovolts : Int) : State :=
  let e := p.entry
  let w := s.adcSeq d c e
  let acq := s.acq d c e
  let t := p.convStart + convTicks acq
  let stamp := convSample p.convStart acq
  let raw := rawCode nanovolts
  let (code, clip) := correct (s.reg (Reg.adcCorr d.val c.val (bitsAt w 0 5))) raw
  let ball := s.ballOf d c (bitsAt w 0 5)
  let tag := bitsAt w 24 5
  let s1 := if tag = 0 ∨ ¬ s.linkUp (senseDie d) .safe then s else
    (s.modSense d (fun x => { x with tags := x.tags ++ [(tag, raw, stamp, c.val * 32 + bitsAt w 0 5, s.now)] })).sendDie
      (senseDie d) .safe "tag" [tag, (BitVec.ofInt 16 raw).toNat]
  let s2 := s1.smpAll (s1.smpOf d true c.val e) d false raw code stamp   -- write pointers before the other signals (R284)
  let s3 := ((s2.openWireTest d c p e code ball).memberConv d c p e code clip ball).ntcUpdate d c.val e code
  let p1 := { p with results := p.results ++ [(e, raw)] }
  match (s.passEntries d c p.trig).find? (fun k => decide (e < k)) with
  | some k => s3.modConv d c (fun x => { x with work := .pass { p1 with entry := k, convStart := t } })
  | none => ((s3.publishPass d c p1).modConv d c (fun x => { x with work := .idle })).serve d c t

/-- Volts at the ball of a corrected code, times a factor (R254, R267). -/
def codeVolts (code : Int) (factor : Nat) : Word := f32OfRat ((code + 32768) * 5 * factor) 131072

/-- The die temperature of a corrected code: code × gain + offset, with the factory constants of the calibration record. No rule gives the formula beyond the names of its constants (DEDUCED, assumption 9). -/
def State.dieTemp (s : State) (d : Fin 2) (code : Int) : Word :=
  fPlus (fTimes (f32OfInt code) (wordLe s.calibration (0x1354 + 8 * d.val))) (wordLe s.calibration (0x1358 + 8 * d.val))

/-- A housekeeping conversion ends (R267). -/
def State.houseConvEnd (s : State) (d : Fin 2) (c : Fin 6) (j : Nat) (nanovolts : Int) : State :=
  let code := (correct (s.reg (Reg.adcCorr d.val c.val j)) (rawCode nanovolts)).1
  let v := if j = 26 then s.dieTemp d code
    else codeVolts code (if j = 27 then 16 else if j = 28 then 2 else 1)
  s.hwCommit (senseOwner d) s.now [(senseBase d + 0x314 + (j - 24), v)]

/-- A plausibility conversion of one converter ends; the second of the pair gives the difference (R265, R266). -/
def State.plausConvEnd (s : State) (d : Fin 2) (c : Fin 6) (nanovolts : Int) : State :=
  let k := pairOf c
  let mux := s.fld (Reg.plaus d.val k.val) 24 5
  let j := if c.val % 2 = 0 then mux else 20
  let code := (correct (s.reg (Reg.adcCorr d.val c.val j)) (rawCode nanovolts)).1
  let s1 := s.modPair d k (fun p => if c.val % 2 = 0 then { p with even := some code } else { p with odd := some code })
  match (s1.sense[d]).pairs[k].even, (s1.sense[d]).pairs[k].odd with
  | some a, some b =>
    let s2 := (s1.modPair d k (fun p => { p with even := none, odd := none, skipped := 0 })).hwCommit (senseOwner d) s.now
      [(senseBase d + 0x310 + k.val, i32 (b - a))]
    if s.fld (Reg.plaus d.val k.val) 0 16 < (b - a).natAbs then
      s2.raise 0x2012 (senseSource d) 8 [w32 k.val, w32 mux, i32 a, i32 b]
    else s2
  | _, _ => s1

/-- CONVERSION_END (R258, R263, R265, R267): the conversion in hand, other than an urgent one, ends with the held voltage. -/
def State.conversionEnd (s : State) (d : Fin 2) (c : Fin 6) (nanovolts : Int) : State :=
  match (s.conv d c).work with
  | .pass p => if s.now < p.convStart + convTicks (s.acq d c p.entry) then s else s.passConvEnd d c p nanovolts
  | .plaus start =>
    if s.now < start + convTicks 0 then s
    else ((s.plausConvEnd d c nanovolts).modConv d c (fun x => { x with work := .idle })).serve d c (start + convTicks 0)
  | .house j start =>
    if s.now < start + convTicks 0 then s
    else ((s.houseConvEnd d c j nanovolts).modConv d c (fun x => { x with work := .idle })).serve d c (start + convTicks 0)
  | _ => s

/-- PLAUSIBILITY_PERIOD (R265, R266): a period of a pair begins; one whose conversion found no common idle tick was skipped. -/
def execPlausibilityPeriod (die : Fin 2) (pair : Fin 3) (s : State) : Out :=
  if ¬ s.hasDie (senseDie die) then .next s
  else
    let w := s.reg (Reg.plaus die.val pair.val)
    let p := (s.sense[die]).pairs[pair]
    if bitAt w 31 ∧ s.senseRuns ∧ rateOk p.lastPeriod s.now (max 1 (bitsAt w 16 8) * 40000) then
      let s1 := if p.want then s.skipPair die pair else s
      .next ((s1.modPair die pair (fun q => { q with want := true, lastPeriod := some s.now })).servePair die pair s.now)
    else .next s

/-- HOUSEKEEPING (R267): each millisecond ADC_5 is to convert inputs 24 to 28. -/
def execHousekeeping (die : Fin 2) (s : State) : Out :=
  if ¬ s.hasDie (senseDie die) then .next s
  else if s.pwr.rung ≤ 1 ∧ rateOk (s.sense[die]).lastHouse s.now msTicks then
    .next (((s.modSense die (fun x => { x with lastHouse := some s.now })).modConv die 5
      (fun x => { x with house := [24, 25, 26, 27, 28] })).serve die 5 s.now)
  else .next s

/-- OW_STATUS_0, OW_STATUS_1: the host clears open-wire bits (R277, W1C). -/
def State.owClear (s : State) (d : Fin 2) (index : Fin 2) (v : Word) : State :=
  let s1 := s.modSense d (fun x =>
    if index = 0 then { x with owLo := x.owLo &&& ~~~v } else { x with owHi := x.owHi &&& ~~~v })
  s1.hwCommit (senseOwner d) s.now [(senseBase d + 0x320, (s1.sense[d]).owLo), (senseBase d + 0x321, (s1.sense[d]).owHi)]

/-- OW_STATUS (R277). -/
def execOwStatus (die : Fin 2) (index : Fin 2) (value : BitVec 32) (s : State) : Out :=
  if s.hasDie (senseDie die) then .next (s.owClear die index value) else .next s

/-! ## Measurement groups -/

/-- What a bitstream member finds at the sample instant (R246, R247, R724): code, clip, reason. -/
def State.sdmMember (s : State) (d : Fin 2) (i : Fin 24) (marked : Bool) : MeasMember → MeasMember := fun m =>
  let x := s.sdm d i
  let (code, clip) := correct (s.reg (Reg.sdmCorr d.val i.val)) x.raw
  { m with ready := true, code := code, clip := clip
           reason := if marked then 1 else if x.stuck then 3 else if x.settled (s.osr d i) then 0 else 2 }

/-- The members of a channel at its sample instant: bitstream members are ready at once, those of the channel's own inputs marked after a resync (R86, R248), SAR members wait for their conversion (R246, R272). -/
def State.sampleMembers (s : State) (ch : Channel) (frame t : Nat) : State :=
  let d := senseOf ch
  let marked := decide (s.meas[ch].resyncMarks ≠ 0)
  s.modMeas ch (fun x => { x with
    sample := t
    frame := frame
    sent := false
    sentM := false
    members := Vector.ofFn (fun m =>
      let w := measReg s ch m.val
      let y : MeasMember := { x.members[m] with ready := true, code := 0, clip := false, reason := 0 }
      if bitAt w 31 && bitsAt w 29 2 == 0 then
        s.sdmMember d (finOf 23 (bitsAt w 16 5)) (marked && s.sdmChan d (finOf 23 (bitsAt w 16 5)) == some ch) y
      else if bitAt w 31 && bitsAt w 29 2 == 1 then { y with ready := false }
      else y) })

/-- The bits of every input of a channel's SENSE die up to a sample instant; `bits`: for each input those since its last command. The filters take them whatever becomes of the sample (R243, R604); the write pointers of all inputs reach the board before the values of any (R284). -/
def State.sampleBits (s : State) (ch : Channel) (bits : List (List Bool)) : State :=
  let s1 := (idxs 24).foldl (fun s i => s.filterBits (senseOf ch) i (bits.getD i.val [])) s
  (idxs 24).foldl (fun s i => s.showBits (senseOf ch) i (bits.getD i.val [])) s1

/-- The triggers of a sample instant, converters in ascending order (R256). -/
def State.sampleTriggers (s : State) (ch : Channel) (t : Nat) : State :=
  let d := senseOf ch
  (idxs 6).foldl (fun s c =>
    let w := s.adcCtrl d c
    if bitsAt w 29 2 == 1 && (bitsAt w 25 4).testBit (localOf ch).val then s.trigger d c (.channel (localOf ch)) t else s) s

/-- One sample instant after a hard resync has passed (R86). -/
def State.countMark (s : State) (ch : Channel) : State := s.modMeas ch (fun x => { x with resyncMarks := x.resyncMarks - 1 })

/-- Validity reason of a member, derived members included (R272, R724). -/
def State.memberReason (s : State) (ch : Channel) (m : Fin 10) : Nat :=
  let x := s.meas[ch].members
  if bitsAt (measReg s ch m.val) 29 2 = 2 then
    (if m.val = 9 then (if x[7].reason ≠ 0 then x[7].reason else x[8].reason)
     else if x[0].reason ≠ 0 then x[0].reason else x[1].reason)
  else x[m].reason

/-- Value of a bitstream or SAR member (R270). -/
def State.plainValue (s : State) (ch : Channel) (m : Fin 10) : Word :=
  (fmul (cvtif (i32 (s.meas[ch].members[m].code))).val (s.reg (Reg.chScale (senseOf ch).val (localOf ch).val m.val))).val

/-- Value a member delivers (R270, R272, R276). -/
def State.memberValue (s : State) (ch : Channel) (m : Fin 10) : Word :=
  let w := measReg s ch m.val
  if !memberOn w then 0
  else if s.memberReason ch m ≠ 0 then s.meas[ch].members[m].lastValid
  else if bitsAt w 29 2 = 2 then
    (if m.val = 9 then (fneg (fadd (s.plainValue ch 7) (s.plainValue ch 8)).val).val
     else (fneg (fadd (s.plainValue ch 0) (s.plainValue ch 1)).val).val)
  else s.plainValue ch m

/-- Members of one group: 0 to 6 of ch_n.meas, 7 to 9 of ch_n.meas_m (R271). -/
def groupMembers (second : Bool) : List (Fin 10) := if second then [7, 8, 9] else [0, 1, 2, 3, 4, 5, 6]

/-- The flags word of a group (R275). -/
def State.measFlags (s : State) (ch : Channel) (second : Bool) : Word :=
  let ms := groupMembers second
  let on := fun (m : Fin 10) => memberOn (measReg s ch m.val)
  let ok := fun (m : Fin 10) => s.memberReason ch m == 0
  let pos := fun (m : Fin 10) => if second then m.val - 7 else m.val
  let cur := ms.filter (fun m => pos m < 3)
  packFields (ms.map (fun m => (pos m, b2n (on m && ok m))) ++ ms.map (fun m => (8 + pos m, b2n (on m && s.meas[ch].members[m].clip && bitsAt (measReg s ch m.val) 29 2 != 2)))
    ++ [(7, b2n (cur.all (fun m => !on m || ok m))), (16, ((ms.filter (fun m => on m && !ok m)).map (s.memberReason ch)).headD 0)])

/-- Every enabled member of a group is ready (R273); a derived member is ready with its sources, which are members themselves. -/
def State.groupReady (s : State) (ch : Channel) (second : Bool) : Bool :=
  (groupMembers second).all (fun m => !memberOn (measReg s ch m.val) || s.meas[ch].members[m].ready)

/-- Has a group of this sample instant still to be sent? -/
def State.groupUnsent (s : State) (ch : Channel) (second : Bool) : Bool :=
  if second then !s.meas[ch].sentM else !s.meas[ch].sent

/-- R274: no group that goes first is still unsent. -/
def State.groupTurn (s : State) (ch : Channel) (second : Bool) : Bool :=
  (idxs 8).all (fun q =>
    !(senseOf q == senseOf ch && s.meas[q].sample == s.meas[ch].sample) ||
      (if second then !s.groupUnsent q false && (decide (ch.val ≤ q.val) || !s.groupUnsent q true)
       else decide (ch.val ≤ q.val) || !s.groupUnsent q false))

/-- SENSE sends a group (R271 to R276): its values and flags, stamped with the sample instant. -/
def State.sendGroup (s : State) (ch : Channel) (second : Bool) : State :=
  let d := senseOf ch
  let ms := groupMembers second
  let base := chBase ch + 0x20
  let flags := s.measFlags ch second
  let vals : Kv Word := ms.map (fun m => ((if second then base + 1 + m.val else base + m.val), s.memberValue ch m))
  let s1 := s.modMeas ch (fun x => { x with
    sent := x.sent || !second
    sentM := x.sentM || second
    members := Vector.ofFn (fun m => if ms.contains m && memberOn (measReg s ch m.val) && s.memberReason ch m == 0 then
      { x.members[m] with lastValid := s.memberValue ch m } else x.members[m]) })
  let s2 := s1.hwCommit (senseOwner d) s.meas[ch].sample (vals ++ [((if second then base + 0xB else base + 7), flags)])
  if second then s2
  else s2.modCh ch (fun c => if c.cutoffDone || !c.sampled || s.meas[ch].sample != s.nextSample ch then c else { c with measValid := some (bitAt flags 7) })

/-- Reason of a SAR member that is late: an open wire of its ball goes before it (R277, R724). -/
def State.lateReason (s : State) (ch : Channel) (m : Nat) : Nat :=
  let d := senseOf ch
  let w := measReg s ch m
  let c : Fin 6 := finOf 5 (bitsAt w 26 3)
  if bitsAt w 29 2 = 1 ∧ (s.ballOf d c (bitsAt (s.adcSeq d c (bitsAt w 21 5)) 0 5)).any (fun b => (s.sense[d]).openWire b) = true then 5 else 4

/-- MEAS_LATE (R273): 200 ticks after the sample instant a SAR member without its conversion is not valid, reason 4 unless R724 puts another first. -/
def execMeasLate (ch : Channel) (s : State) : Out :=
  if ¬ s.hasChannel ch then .next s
  else
    let x := s.meas[ch]
    let late := (idxs 10).filter (fun m => memberOn (measReg s ch m.val) && !x.members[m].ready)
    if x.sample + 200 ≤ s.now ∧ late ≠ [] then
      let s1 := s.modMeas ch (fun y => { y with members := Vector.ofFn (fun m =>
        if late.contains m then { y.members[m] with ready := true, reason := s.lateReason ch m.val } else y.members[m]) })
      if rateOk x.lastLate s.now sTicks then
        .next ((s1.modMeas ch (fun y => { y with lastLate := some s.now })).raise 0x2021 ch.val 6
          [packFields (late.map (fun m => (m.val, 1))), w32 x.frame])
      else .next s1
    else .next s

/-! ## Set-up checks (R285, R286) -/

/-- R285 reason 4, R286: three windows of a filter do not fit between resync and the third sample instant, with given N_min and T_su. -/
def State.filterTooSlow (s : State) (ch : Channel) (nMin tSu : Nat) : Bool :=
  let d := senseOf ch
  (idxs 24).any (fun i => s.sdmChan d i == some ch &&
    decide (3 * nMin < 3 * s.osr d i * s.mclkDiv d i + tSu))

/-- Errors of one member (R285 reasons 1, 2, 3, 5). -/
def State.memberErrors (s : State) (ch : Channel) (m : Nat) : List Nat :=
  let d := senseOf ch
  let l := (localOf ch).val
  let w := measReg s ch m
  if !memberOn w then []
  else if bitsAt w 29 2 = 0 then
    let i := finOf 31 (bitsAt w 16 5)
    let cfg := s.reg (Reg.sdmCfg d.val i.val)
    let k := bitsAt cfg 28 3
    if 24 ≤ i.val ∨ ¬ bitAt cfg 31 ∨ (k < 4 ∧ k ≠ l) then [1] else []
  else if bitsAt w 29 2 = 1 then
    if h : bitsAt w 26 3 < 6 then
      let c : Fin 6 := ⟨_, h⟩
      let e := bitsAt w 21 5
      let ctl := s.adcCtrl d c
      let used := ((s.passEntries d c (.channel (localOf ch))).filter (fun k => decide (k ≤ e))).map (fun k => convTicks (s.acq d c k))
      (if s.adcLen d c ≤ e ∨ bitsAt (s.adcSeq d c e) 29 3 ≠ l ∨ bitsAt ctl 29 2 ≠ 1 ∨ ¬ (bitsAt ctl 25 4).testBit l then [2] else [])
        ++ (if 160 < used.sum then [3] else [])
    else [2]
  else
    let on := fun k => memberOn (measReg s ch k)
    if (m = 2 ∧ on 0 ∧ on 1) ∨ (m = 9 ∧ on 7 ∧ on 8) then [] else [5]

/-- An OWT entry that breaks R277. -/
def State.owtBad (s : State) (d : Fin 2) (c : Fin 6) (e : Nat) : Bool :=
  let w := s.adcSeq d c e
  let r := s.adcSeq d c (bitsAt w 15 5)
  bitAt w 20 && (decide (e ≤ bitsAt w 15 5) || bitsAt r 0 5 != bitsAt w 0 5 || bitAt r 20)

/-- R285 reason 7 on a converter. -/
def State.muxBad (s : State) (d : Fin 2) (c : Fin 6) : Bool :=
  (List.range (s.adcLen d c)).any (fun e => muxReserved c.val (bitsAt (s.adcSeq d c e) 0 5) || s.owtBad d c e)
    || decide (20 ≤ s.fld (Reg.plaus d.val (c.val / 2)) 24 5)

/-- The errors of one channel (R285). -/
def State.senseChannelErrors (s : State) (ch : Channel) : List Nat :=
  let d := senseOf ch
  let ms := (List.range 10).flatMap (s.memberErrors ch)
  let r4 := if s.filterTooSlow ch (s.nMin ch) (s.tsu ch) then [4] else []
  let r6 := if (idxs 24).any (fun i => s.sdmChan d i == some ch && bitAt (s.reg (Reg.sdmCmp d.val i.val)) 31 &&
    decide (s.fld (Reg.sdmCmp d.val i.val) 8 6 < s.fld (Reg.sdmCmp d.val i.val) 0 6)) then [6] else []
  let r7 := if (idxs 6).any (fun c => s.muxBad d c && (List.range 10).any (fun m =>
    let w := measReg s ch m
    memberOn w && bitsAt w 29 2 == 1 && bitsAt w 26 3 == c.val)) then [7] else []
  (ms ++ r4 ++ r6 ++ r7).eraseDups

/-- First word and length of a buffer. -/
def State.smpSpan (s : State) (b : Fin 64) : Nat × Nat := (s.fld (Reg.smpBase b.val) 0 19, 2 ^ s.smpLog b)

/-- The errors of one buffer (R285 reasons 8, 9); `retired` says whether a sample-memory word lies in a region retired under R636. -/
def State.smpErrors (s : State) (retired : Nat → Nat → Bool) (b : Fin 64) : List Nat :=
  let w := s.reg (Reg.smpCtrl b.val)
  if !bitAt w 31 then []
  else
    let d : Fin 2 := if bitAt w 30 then 1 else 0
    let (base, len) := s.smpSpan b
    let overlap := (idxs 64).any (fun q => q != b && bitAt (s.reg (Reg.smpCtrl q.val)) 31 &&
      decide (base < (s.smpSpan q).1 + (s.smpSpan q).2 ∧ (s.smpSpan q).1 < base + len))
    let source := s.hasDie (senseDie d) && (if bitAt w 29 then
        (if h : bitsAt w 16 3 < 6 then bitAt (s.adcCtrl d ⟨_, h⟩) 31 && decide (bitsAt w 19 5 < s.adcLen d ⟨_, h⟩) else false)
      else decide (bitsAt w 19 5 < 24) && bitAt (s.reg (Reg.sdmCfg d.val (bitsAt w 19 5))) 31)
    (if base % len ≠ 0 ∨ overlap ∨ ¬ source then [8] else []) ++ (if retired base len then [9] else [])

/-- The set-up checks of the SENSE dies at SETUP_LOCK (R285): events, comparators off, buffers left disabled, and the channels to be left disabled. -/
def State.senseChecks (s : State) (retired : Nat → Nat → Bool) : State × List Channel :=
  let chans := (idxs 8).filter s.hasChannel
  let s1 := chans.foldl (fun s ch => (s.senseChannelErrors ch).foldl
    (fun s r => s.raise 0x2040 (senseSource (senseOf ch)) 10 [w32 r, w32 ch.val]) s) s
  let s2 := (idxs 64).foldl (fun s b =>
    match s.smpErrors retired b with
    | [] => s
    | es => es.foldl (fun s r => s.raise 0x2040 (senseSource (if bitAt (s.reg (Reg.smpCtrl b.val)) 30 then 1 else 0)) 10 [w32 r, w32 b.val])
      (s.modSmp b (fun x => { x with disabled := true }))) s1
  let s3 := ((idxs 2).filter (fun d => s.hasDie (senseDie d))).foldl (fun s d => (idxs 24).foldl (fun s i =>
    if bitAt (s.reg (Reg.sdmCmp d.val i.val)) 31 && s.fld (Reg.sdmCfg d.val i.val) 28 3 ≥ 4 then
      (s.modSense d (fun x => { x with cmpOff := x.cmpOff ++ [i.val] })).raise 0x2040 (senseSource d) 10 [10, w32 i.val]
    else s) s) s2
  (s3, chans.filter (fun ch => s.senseChannelErrors ch != []))

end Sys2Proof.Machine
end

