-- ==== Sys2Proof/Machine/Position.lean ====
section
/-! DEFINITION. Position and speed feedback (08_position_and_speed.md): resolver, SSI and counting inputs, the tracking observer, position groups, compare units, encoder emulation and the set-up checks. F32 terms are evaluated from left to right (assumption 24). -/

namespace Sys2Proof.Machine

/-- 2π as F32. -/
def f32TwoPi : Word := 0x40C90FDB
/-- 2^32 as F32. -/
def f32Two32 : Word := 0x4F800000
/-- 2.5e-9 as F32: seconds in a tick. -/
def f32Tick : Word := 0x312BCC77
/-- 0.01 rpm in rad/s as F32: π / 3000. -/
def f32CentiRpm : Word := 0x3A89421E

/-- An F32 rounded to the nearest integer, halves away from zero (R722); open where it is no number. -/
def f32RoundTo (w : Word) : Int :=
  match f32Exact w with
  | none => Config.roundOpen w
  | some (m, e) => if 0 ≤ e then m * 2 ^ e.toNat else roundAway m (2 ^ (-e).toNat)

/-- An integer taken modulo 2^64 as a signed 64-bit value. -/
def wrap64 (v : Int) : Int := (v + 2 ^ 63) % 2 ^ 64 - 2 ^ 63

/-- Updates the position part of a SENSE die. -/
def State.modPos (s : State) (d : Fin 2) (f : PosDie → PosDie) : State := { s with pos := vUpd s.pos d f }
/-- Updates an interface. -/
def State.modPif (s : State) (d : Fin 2) (k : Fin 4) (f : Pif → Pif) : State := s.modPos d (fun x => { x with pif := vUpd x.pif k f })
/-- Updates a compare unit. -/
def State.modCmp (s : State) (d : Fin 2) (u : Fin 4) (f : CompareUnit → CompareUnit) : State :=
  s.modPos d (fun x => { x with cmp := vUpd x.cmp u f })
/-- An interface. -/
def State.pif (s : State) (d : Fin 2) (k : Fin 4) : Pif := (s.pos[d]).pif[k]

/-- POS_CFG_k. -/
def State.posCfg (s : State) (d : Fin 2) (k : Fin 4) : Word := s.reg (Reg.posCfg d.val k.val)
/-- MODE of an interface; 6 and 7 are taken as off. -/
def State.pifMode (s : State) (d : Fin 2) (k : Fin 4) : Nat :=
  let m := bitsAt (s.posCfg d k) 28 3
  if m < 6 then m else 0
/-- Is the interface enabled: not off, and not left disabled by a set-up check (R319)? -/
def State.pifSet (s : State) (d : Fin 2) (k : Fin 4) : Bool := bitAt (s.posCfg d k) 31 && !(s.pif d k).disabled && s.pifMode d k != 0
/-- Does the interface work? -/
def State.pifOn (s : State) (d : Fin 2) (k : Fin 4) : Bool := s.pifSet d k && s.senseRuns
/-- The channel whose position group it feeds. -/
def State.pifChan (s : State) (d : Fin 2) (k : Fin 4) : Option Channel :=
  let l := bitsAt (s.posCfg d k) 25 3
  if l < 4 then some (chanOf d l) else none
/-- MONO of an interface. -/
def State.mono (s : State) (d : Fin 2) (k : Fin 4) : Nat := max 40 (s.fld (Reg.ssiTim d.val k.val) 16 16)
/-- PERIOD of the resolver excitation. -/
def State.resPeriod (s : State) (d : Fin 2) (k : Fin 4) : Nat := max 32 (s.fld (Reg.resExc d.val k.val) 0 17)
/-- CPR. -/
def State.cpr (s : State) (d : Fin 2) (k : Fin 4) : Nat := max 4 (s.fld (Reg.encCfg d.val k.val) 0 20)
/-- T_exp in ticks (R304). -/
def State.tExp (s : State) (d : Fin 2) (k : Fin 4) : Nat :=
  if s.pifMode d k = 1 then s.resPeriod d k / 32
  else if s.pifMode d k = 2 then
    match s.pifChan d k with
    | some c => s.nNom c
    | none => s.mono d k * 2
  else 400
/-- A source that delivers whole cycles (R303). -/
def State.fullSource (s : State) (d : Fin 2) (k : Fin 4) : Bool :=
  decide (3 ≤ s.pifMode d k) || (s.pifMode d k == 2 && decide (0 < s.fld (Reg.ssiCfg d.val k.val) 14 6))

/-! ## The observer -/

/-- ω_n = 2π × BW. -/
def State.omegaN (s : State) (d : Fin 2) (k : Fin 4) : Word :=
  (fmul f32TwoPi (cvtuf (w32 (max 10 (min 4000 (bitsAt (s.posCfg d k) 0 16))))).val).val

/-- ω × T × 2^32 / 2π, rounded to an integer. -/
def turnOf (omega t : Word) : Int := f32RoundTo (fdiv (fmul (fmul omega t).val f32Two32).val f32TwoPi).val

/-- Ticks as seconds in F32. -/
def ticksF32 (n : Int) : Word := (fmul (f32OfInt n) f32Tick).val

/-- One update of the observer by an accepted measurement (R303). -/
def Observer.update (o : Observer) (wn : Word) (full : Bool) (m : Int) (tm : Nat) : Observer :=
  if o.good = 0 then { theta := wrap64 m, omega := 0, alpha := 0, t := tm, good := 1 }
  else
    let k1 := (fmul 0x40000000 wn).val
    let k2 := (fmul wn wn).val
    let t := ticksF32 ((tm : Int) - o.t)
    let thp := wrap64 (o.theta + turnOf o.omega t)
    let delta : Int := if full then wrap64 (m - thp) else (BitVec.ofInt 32 (m - thp)).toInt
    let e := (fdiv (fmul f32TwoPi (f32OfInt delta)).val f32Two32).val
    let om := (fadd o.omega (fmul (fmul k2 t).val e).val).val
    let g := (fmin f32One (fmul wn t).val).val
    { theta := wrap64 (thp + f32RoundTo (fdiv (fmul (fmul (fmul k1 t).val e).val f32Two32).val f32TwoPi).val)
      omega := om
      alpha := (fadd o.alpha (fmul g (fsub (fmul k2 e).val o.alpha).val).val).val
      t := tm
      good := o.good + 1 }

/-- Settled after 16 good updates (R304). -/
def Observer.settled (o : Observer) : Bool := decide (16 ≤ o.good)

/-- Θ_q at a time (R305). -/
def Observer.at (o : Observer) (tq : Nat) : Int := wrap64 (o.theta + turnOf o.omega (ticksF32 ((tq : Int) - o.t)))

/-- CYCLES as F32. -/
def State.cyclesF (s : State) (d : Fin 2) (k : Fin 4) : Word := (cvtuf (w32 (max 1 (bitsAt (s.posCfg d k) 16 8)))).val
/-- Mechanical speed (R305). -/
def State.pifSpeed (s : State) (d : Fin 2) (k : Fin 4) : Word := (fdiv (s.pif d k).obs.omega (s.cyclesF d k)).val
/-- Mechanical acceleration (R305). -/
def State.pifAccel (s : State) (d : Fin 2) (k : Fin 4) : Word := (fdiv (s.pif d k).obs.alpha (s.cyclesF d k)).val

/-- VALID (R308): the last measurement is no older than 4 × T_exp, as the time of its acceptance counts it under R304 (assumption 84). -/
def State.pifValid (s : State) (d : Fin 2) (k : Fin 4) (tq : Nat) : Bool :=
  let o := (s.pif d k).obs
  s.pifOn d k && o.settled && decide (tq ≤ (s.pif d k).accepted + 4 * s.tExp d k)

/-- Is F32 x below y? -/
def f32Less (x y : Word) : Bool := (flt x y).val != 0

/-- STILL (R307). -/
def State.pifStill (s : State) (d : Fin 2) (k : Fin 4) : Bool :=
  (s.pif d k).obs.settled && f32Less (fabs (s.pifSpeed d k)).val
    (fmul (cvtuf (w32 (s.fld (Reg.posLim d.val k.val) 16 16))).val f32CentiRpm).val

/-- First signal of an interface (R318). -/
def pfbBase (d : Fin 2) (k : Fin 4) : Nat := senseBase d + 0x400 + 0x20 * k.val

/-- The signals of an interface (R318). -/
def State.pifFlags (s : State) (d : Fin 2) (k : Fin 4) (tq : Nat) : Word :=
  let p := s.pif d k
  let homed := s.pifMode d k == 1 || s.pifMode d k == 2 || p.homed
  packFields [(0, b2n (s.pifValid d k tq)), (1, b2n p.dir), (2, b2n p.dirChg), (3, b2n (s.pifStill d k)), (4, b2n homed),
    (8, p.reason), (16, min 0xFFFF ((tq - p.obs.t) / 100))]

/-- SENSE writes the signals of an interface: every 10 µs and when one of its counters counts (R318). -/
def State.publishPif (s : State) (d : Fin 2) (k : Fin 4) : State :=
  let p := s.pif d k
  let th := p.obs.at s.now
  let b := pfbBase d k
  (s.hwCommit (senseOwner d) p.obs.t [(b, i32 th), (b + 1, i32 (th / 2 ^ 32)), (b + 2, s.pifSpeed d k), (b + 3, s.pifAccel d k),
    (b + 4, s.pifFlags d k s.now)]).hwCommit (senseOwner d) s.now
    [(b + 5, if s.pifMode d k = 1 then p.amp else 0), (b + 6, w32 p.rejects), (b + 7, w32 p.dirChanges),
     (b + 8, w32 (s.pos[d]).cmp[k].fires)]

/-- A rejected measurement (R309). -/
def State.rejectPos (s : State) (d : Fin 2) (k : Fin 4) (reason : Nat) : State :=
  let p := s.pif d k
  let n := holdInc 0xFFFFFFFF p.rejects
  let last := if kvHas p.lastReject reason then some (kvGet 0 p.lastReject reason) else none
  let s1 := (s.modPif d k (fun q => { q with rejects := n, reason := reason })).publishPif d k
  if rateOk last s.now sTicks then
    (s1.modPif d k (fun q => { q with lastReject := kvPut q.lastReject reason s.now })).raise 0x3001 (senseSource d) 5
      [w32 k.val, w32 reason, w32 n]
  else s1

/-- VALID falling from 1 to 0 (R309). -/
def State.judgeValid (s : State) (d : Fin 2) (k : Fin 4) : State :=
  let v := s.pifValid d k s.now
  let s1 := s.modPif d k (fun p => { p with valid := v })
  if (s.pif d k).valid && !v then
    s1.raise 0x3002 (senseSource d) 10 [w32 k.val, w32 (match s.pifChan d k with
      | some c => c.val
      | none => 7), w32 (s.pif d k).reason]
  else s1

/-- R306: the direction after an update. -/
def State.judgeDir (s : State) (d : Fin 2) (k : Fin 4) : State :=
  let p := s.pif d k
  if !p.obs.settled then s
  else
    let v := s.pifSpeed d k
    let h := (fmul (cvtuf (w32 (s.fld (Reg.posLim d.val k.val) 0 16))).val f32CentiRpm).val
    if !p.dirSet then s.modPif d k (fun q => { q with dirSet := true, dir := !f32Less v 0 })
    else
      let new := if f32Less h v then true else if f32Less v (fneg h).val then false else p.dir
      if new = p.dir then s
      else
        let n := (p.dirChanges + 1) % 2 ^ 32
        let s1 := (s.modPif d k (fun q => { q with dir := new, dirChg := true, dirChanges := n })).publishPif d k
        if rateOk p.lastDirEvent s.now (10 * msTicks) then
          (s1.modPif d k (fun q => { q with lastDirEvent := some s.now })).raise 0x3003 (senseSource d) 2 [w32 k.val, w32 (b2n new), w32 n]
        else s1

/-- An accepted measurement (R302, R303, R306, R309). -/
def State.observe (s : State) (d : Fin 2) (k : Fin 4) (m : Int) (tm : Nat) : State :=
  let zHome := bitAt (s.reg (Reg.encCfg d.val k.val)) 26
  ((s.modPif d k (fun p => { p with
      obs := p.obs.update (s.omegaN d k) (s.fullSource d k) m tm
      accepted := s.now
      homed := p.homed || !zHome })).judgeDir d k).judgeValid d k

/-- The observer restarts (R304). -/
def State.restartObserver (s : State) (d : Fin 2) (k : Fin 4) : State :=
  s.modPif d k (fun p => { p with obs := { p.obs with good := 0 }, dirSet := false })

/-- The interface starts anew: it is enabled, or its MODE or BW changes (R304). -/
def State.restartPif (s : State) (d : Fin 2) (k : Fin 4) : State :=
  (s.restartObserver d k).modPif d k (fun p => { p with win := [], wordAt := none, monoAt := none, homed := false })

/-- A command of an interface that exists. -/
def State.onPif (s : State) (d : Fin 2) (k : Fin 4) (mode : Nat) (f : State → State) : Out :=
  if ¬ s.hasDie (senseDie d) then .next s
  else if s.pifOn d k ∧ (s.pifMode d k = mode ∨ (mode = 3 ∧ 3 ≤ s.pifMode d k) ∨ mode = 0) then .next (f s)
  else .next s

/-! ## Resolver -/

/-- w[j] of R292. -/
def resW (j : Nat) : Int :=
  [0, 6393, 12539, 18204, 23170, 27245, 30273, 32137, 32767, 32137, 30273, 27245, 23170, 18204, 12539, 6393].getD (j % 16) 0
    * (if j % 32 < 16 then 1 else -1)

/-- R292, R293: the measurement of the last 32 samples. -/
def State.resolverMeasure (s : State) (d : Fin 2) (k : Fin 4) (t : Nat) : State :=
  let w := (s.pif d k).win
  if w.length < 32 then s
  else
    let sS : Int := (w.map (fun x => resW x.1 * x.2.1)).foldl (· + ·) 0
    let sC : Int := (w.map (fun x => resW x.1 * x.2.2)).foldl (· + ·) 0
    let fs := f32OfInt sS
    let fc := f32OfInt sC
    let a := (fsqrt (fadd (fmul fs fs).val (fmul fc fc).val).val).val
    let lim := s.reg (Reg.resLim d.val k.val)
    let s1 := s.modPif d k (fun p => { p with amp := a })
    let unit := fun (n : Nat) => f32OfInt (n * 2 ^ 20)
    if f32Less a (unit (bitsAt lim 0 16)) then s1.rejectPos d k 1
    else if f32Less (unit (bitsAt lim 16 16)) a then s1.rejectPos d k 2
    else s1.observe d k (fatan2 fs fc).val.toNat (t - 31 * s.resPeriod d k / 64)

/-- The excitation of a resolver in nV, differential: a sine of period PERIOD that rises through zero at the multiples of PERIOD, of amplitude AMP × 7.0 V / 255 (R290; rounded down, assumption 86). -/
def State.excitation (s : State) (d : Fin 2) (k : Fin 4) : Int :=
  if s.pifOn d k && s.pifMode d k == 1 then
    let p := s.resPeriod d k
    let a := (s.now % p) * 2 ^ 32 / p
    let h := a % 2 ^ 31
    let v := sinRef (if h ≤ 2 ^ 30 then h else 2 ^ 31 - h)
    (if a < 2 ^ 31 then v else -v) * (s.fld (Reg.resExc d.val k.val) 24 8 * 7000000000 : Nat) / (255 * 2 ^ 128)
  else 0

/-- RESOLVER_SAMPLE (R291 to R294): the sample of both paths, voltages in nV. -/
def execResolverSample (die : Fin 2) (pif : Fin 4) (aSin : Int) (aCos : Int) (bSin : Int) (bCos : Int) (s : State) : Out :=
  s.onPif die pif 1 (fun s =>
    let p := s.resPeriod die pif
    let dly := s.fld (Reg.resPh die.val pif.val) 0 17
    let n := (s.now - dly) / (p / 32)
    let t := n * (p / 32) + dly
    let j := n % 32
    if s.now < dly ∨ (s.pif die pif).lastSample = some n then s
    else
      let cs := (correct (s.reg (Reg.resCorrSin die.val pif.val)) (rawCode aSin)).1
      let cc := (correct (s.reg (Reg.resCorrCos die.val pif.val)) (rawCode aCos)).1
      let s1 := s.modPif die pif (fun q => { q with lastSample := some n, win := ((j, cs, cc) :: q.win).take 32 })
      let b := (rawCode bSin, rawCode bCos)
      let s2 := if j = 8 then s1.modPif die pif (fun q => { q with b8 := b })
        else if j = 24 then
          let v := ((s.pif die pif).b8.1 - b.1, (s.pif die pif).b8.2 - b.2)
          if s1.linkUp (senseDie die) .safe then
            (s1.modPif die pif (fun q => { q with bSafe := q.bSafe ++ [(v.1, v.2, t)] })).sendDie
              (senseDie die) .safe "resolver" [pif.val, (i32 v.1).toNat, (i32 v.2).toNat, t]
          else s1
        else s1
      s2.resolverMeasure die pif t)

/-! ## SSI -/

/-- SSI_CFG_k. -/
def State.ssiCfg (s : State) (d : Fin 2) (k : Fin 4) : Word := s.reg (Reg.ssiCfg d.val k.val)
/-- CLK_PERIOD in ticks. -/
def State.ssiClk (s : State) (d : Fin 2) (k : Fin 4) : Nat := max 40 (min 4000 (bitsAt (s.ssiCfg d k) 20 12))
/-- LEN (R295). -/
def State.ssiLen (s : State) (d : Fin 2) (k : Fin 4) : Nat :=
  bitsAt (s.ssiCfg d k) 14 6 + bitsAt (s.ssiCfg d k) 8 6 + bitsAt (s.ssiCfg d k) 5 3
/-- CRC_LEN, 0 to 8. -/
def State.ssiCrcLen (s : State) (d : Fin 2) (k : Fin 4) : Nat := min 8 (s.fld (Reg.ssiCrc d.val k.val) 8 4)
/-- n clock cycles of a word (R295). -/
def State.ssiCycles (s : State) (d : Fin 2) (k : Fin 4) : Nat := s.ssiLen d k + s.ssiCrcLen d k + 1

/-- SSI_k_DATA is sampled for cycle i, from 1 to n − 1, DLY ticks after its rising edge, in the middle of the cycle (R295). -/
def State.ssiSampleAt (s : State) (d : Fin 2) (k : Fin 4) (tr i : Nat) : Nat :=
  tr + (i - 1) * s.ssiClk d k + s.ssiClk d k / 2 + s.fld (Reg.ssiTim d.val k.val) 8 8

/-- A word is complete: its last clock cycle has ended and its last bit has been sampled (R295). -/
def State.ssiEnd (s : State) (d : Fin 2) (k : Fin 4) (tr : Nat) : Nat :=
  max (tr + s.ssiCycles d k * s.ssiClk d k) (s.ssiSampleAt d k tr (s.ssiCycles d k - 1))

/-- SSI_k_CLK: idle high; from t_r on n cycles of CLK_PERIOD, each low first (R295). -/
def State.ssiClock (s : State) (d : Fin 2) (k : Fin 4) : Bool :=
  match (s.pif d k).wordAt with
  | none => true
  | some tr =>
    let p := s.ssiClk d k
    decide (s.ssiCycles d k * p ≤ s.now - tr ∨ p / 2 ≤ (s.now - tr) % p)

/-- Gray code to binary of an n-bit field. -/
def grayToBin (n v : Nat) : Nat :=
  ((List.range n).foldl (fun (acc : Nat × Bool) i =>
    let b := (v.testBit (n - 1 - i)) != acc.2
    (2 * acc.1 + b2n b, b)) (0, false)).1

/-- The fields of a word (R295): multi-turn, single-turn, status, CRC. -/
def State.ssiFields (s : State) (d : Fin 2) (k : Fin 4) (w : Nat) : Nat × Nat × Nat × Nat :=
  let mt := bitsAt (s.ssiCfg d k) 14 6
  let ps := bitsAt (s.ssiCfg d k) 8 6
  let st := bitsAt (s.ssiCfg d k) 5 3
  let cl := s.ssiCrcLen d k
  (w / 2 ^ (ps + st + cl) % 2 ^ mt, w / 2 ^ (st + cl) % 2 ^ ps, w / 2 ^ cl % 2 ^ st, w % 2 ^ cl)

/-- Θ_m of a word (R298). -/
def State.ssiTheta (s : State) (d : Fin 2) (k : Fin 4) (w : Nat) : Int :=
  let cfg := s.ssiCfg d k
  let (mt0, ps0, _, _) := s.ssiFields d k w
  let mtN := bitsAt cfg 14 6
  let psN := bitsAt cfg 8 6
  let mt := if bitAt cfg 3 then grayToBin mtN mt0 else mt0
  let ps := if bitAt cfg 3 then grayToBin psN ps0 else ps0
  let mtS : Int := if bitAt cfg 2 ∧ 0 < mtN ∧ 2 ^ (mtN - 1) ≤ mt then (mt : Int) - 2 ^ mtN else mt
  mtS * 2 ^ 32 + ps * 2 ^ (32 - psN)

/-- Why a word is not good (R297): 3 CRC, 4 status, 0 good. -/
def State.ssiBad (s : State) (d : Fin 2) (k : Fin 4) (w : Nat) : Nat :=
  let cfg := s.ssiCfg d k
  let cl := s.ssiCrcLen d k
  let len := s.ssiLen d k
  let stN := bitsAt cfg 5 3
  let (_, _, st, crc) := s.ssiFields d k w
  let poly := s.fld (Reg.ssiCrc d.val k.val) 0 8 % 2 ^ cl
  let got := if bitAt cfg 1 then 2 ^ cl - 1 - crc else crc
  if 0 < cl ∧ crcBits cl poly 0 (msbBits len (w / 2 ^ cl)) ≠ got then 3
  else if (if bitAt cfg 4 then decide (st ≠ 2 ^ stN - 1) else decide (st ≠ 0)) then 4
  else 0

/-- SSI_WORD (R295 to R299): the bits as SSI_k_DATA showed them at the instants of `ssiSampleAt`, the first in the highest of the LEN + CRC_LEN places. -/
def execSsiWord (die : Fin 2) (pif : Fin 4) (bits : BitVec 64) (s : State) : Out :=
  s.onPif die pif 2 (fun s =>
    match (s.pif die pif).wordAt with
    | none => s
    | some tr =>
      if s.now < s.ssiEnd die pif tr then s
      else
        let w := bits.toNat % 2 ^ (s.ssiLen die pif + s.ssiCrcLen die pif)
        let bad := s.ssiBad die pif w
        let s0 := s.modPif die pif (fun p => { p with wordAt := none })
        let s1 := if s.linkUp (senseDie die) .safe then
            (s0.modPif die pif (fun p => { p with ssiSafe := p.ssiSafe ++ [⟨s.ssiTheta die pif w, bad == 0, tr⟩] })).sendDie
              (senseDie die) .safe "ssi" [pif.val, w, b2n (bad == 0), tr]
          else s0
        if bad = 0 then s1.observe die pif (s.ssiTheta die pif w) tr else s1.rejectPos die pif bad)

/-- MONOFLOP_END (R297): the data line must be high MONO ticks after the last rising edge. -/
def execMonoflopEnd (die : Fin 2) (pif : Fin 4) (dataHigh : Bool) (s : State) : Out :=
  s.onPif die pif 2 (fun s =>
    match (s.pif die pif).monoAt with
    | none => s
    | some t =>
      if s.now < t then s
      else
        let s1 := s.modPif die pif (fun p => { p with monoAt := none })
        if dataHigh then s1 else s1.rejectPos die pif 6)

/-! ## Counting inputs -/

/-- Place of a quadrature state in the forward order 00, 10, 11, 01 (A, B). -/
def quadIx (a b : Bool) : Nat := if a then (if b then 2 else 1) else (if b then 3 else 0)

/-- The count moves by one (R301). -/
def Pif.count (p : Pif) (cpr : Nat) (up : Bool) : Pif :=
  if up then (if p.c + 1 < cpr then { p with c := p.c + 1 } else { p with c := 0, cycles := p.cycles + 1 })
  else (if 0 < p.c then { p with c := p.c - 1 } else { p with c := cpr - 1, cycles := p.cycles - 1 })

/-- Θ_m of the count (R301). -/
def Pif.countTheta (p : Pif) (cpr : Nat) : Int := p.cycles * 2 ^ 32 + (p.c * 2 ^ 32 / cpr : Nat)

/-- A state error (R300), an event of the counter that writes its signals (R318). -/
def State.stateError (s : State) (d : Fin 2) (k : Fin 4) : State :=
  let n := (s.pif d k).stateErrs + 1
  let s1 := (s.modPif d k (fun p => { p with stateErrs := n, reason := 7 })).publishPif d k
  if rateOk (s.pif d k).lastStateErr s.now msTicks then
    (s1.modPif d k (fun p => { p with stateErrs := 0, lastStateErr := some s.now })).raise 0x3004 (senseSource d) 6 [w32 k.val, w32 n]
  else s1

/-- Has a level of a counting input held long enough for its filter (R300)? -/
def State.encAccepts (s : State) (d : Fin 2) (k : Fin 4) (held : Nat) : Bool := decide (s.fld (Reg.encCfg d.val k.val) 28 4 ≤ held)

/-- The level a counting input has after its filter: the new one once it has held for FILT, else the one accepted before (R300). -/
def State.filtered (s : State) (d : Fin 2) (k : Fin 4) (old : Bool) (l : Held Bool) : Bool := if s.encAccepts d k l.ticks then l.value else old

/-- ENCODER_EDGE (R300): what stands on the balls A and B, and for how long each; a level that has held for FILT counts. -/
def execEncoderEdge (die : Fin 2) (pif : Fin 4) (la : Held Bool) (lb : Held Bool) (s : State) : Out :=
  s.onPif die pif 3 (fun s =>
    if !s.encAccepts die pif la.ticks && !s.encAccepts die pif lb.ticks then s else
    let p := s.pif die pif
    let a := s.filtered die pif p.a la
    let b := s.filtered die pif p.b lb
    let cpr := s.cpr die pif
    let inv := bitAt (s.posCfg die pif) 24
    let set := fun (q : Pif) => { q with a := a, b := b }
    let mv := fun (q : Pif) (up : Bool) => q.count cpr (up != inv)
    let m := s.pifMode die pif
    if m = 3 then
      let dq := (quadIx a b + 4 - quadIx p.a p.b) % 4
      if dq = 2 then (s.modPif die pif set).stateError die pif
      else if dq = 1 then s.modPif die pif (fun q => set (mv q true))
      else if dq = 3 then s.modPif die pif (fun q => set (mv q false))
      else s
    else if m = 4 then
      s.modPif die pif (fun q => set (if a && !q.a then mv q b else q))
    else
      s.modPif die pif (fun q =>
        let q1 := if a && !q.a then mv q true else q
        set (if b && !q.b then mv q1 false else q1)))

/-- The quadrature state an index needs (R302). -/
def zQualified (q : Nat) (a b : Bool) : Bool :=
  if q = 0 then true else if q = 1 then a && b else if q = 2 then !a && !b else a && !b

/-- INDEX_PULSE (R289, R300, R302): Z of an INCREMENTAL interface has risen and stayed high for `z.ticks`; past its filter it is accepted in the required quadrature state. -/
def execIndexPulse (die : Fin 2) (z : Held (Fin 4)) (s : State) : Out :=
  let pif := z.value
  s.onPif die pif 3 (fun s =>
    if s.pifMode die pif ≠ 3 || !s.encAccepts die pif z.ticks then s else
    let cfg := s.reg (Reg.encCfg die.val pif.val)
    let p := s.pif die pif
    let cpr := s.cpr die pif
    if bitAt cfg 27 && zQualified (bitsAt cfg 24 2) p.a p.b && bitAt cfg 26 then
      if !p.homed then (s.modPif die pif (fun q => { q with c := 0, cycles := 0, homed := true })).publishPif die pif
      else
        let dev : Int := if 2 * p.c ≤ cpr then (p.c : Int) else (p.c : Int) - cpr
        if 2 < dev.natAbs then
          ((s.modPif die pif (fun q => { q with c := 0, reason := 8 })).raise 0x3005 (senseSource die) 6 [w32 pif.val, i32 dev]).publishPif die pif
        else s
    else s)

/-- COUNT_DELIVERY (R301): at each multiple of 400 ticks the counter delivers its measurement. -/
def execCountDelivery (die : Fin 2) (pif : Fin 4) (s : State) : Out :=
  s.onPif die pif 3 (fun s =>
    let t := s.now / 400 * 400
    if (s.pif die pif).lastCount = some t then s
    else (s.modPif die pif (fun p => { p with lastCount := some t })).observe die pif ((s.pif die pif).countTheta (s.cpr die pif)) t)

/-- OBSERVER_TIMEOUT (R304): no accepted measurement for more than 4 × T_exp. -/
def execObserverTimeout (die : Fin 2) (pif : Fin 4) (s : State) : Out :=
  s.onPif die pif 0 (fun s =>
    let p := s.pif die pif
    if 0 < p.obs.good ∧ p.accepted + 4 * s.tExp die pif < s.now then
      ((s.restartObserver die pif).rejectPos die pif 9).judgeValid die pif
    else s)

/-- INTERFACE_SIGNALS (R318): once in every 10 µs of device time. -/
def execInterfaceSignals (die : Fin 2) (pif : Fin 4) (s : State) : Out :=
  let t := s.now / 4000 * 4000
  if ¬ s.hasDie (senseDie die) ∨ (s.pif die pif).lastSignals = some t then .next s
  else .next ((s.judgeValid die pif).modPif die pif (fun p => { p with lastSignals := some t }) |>.publishPif die pif)

/-! ## The position group -/

/-- The interface named to a channel (R289). -/
def State.pifOf (s : State) (c : Channel) : Option (Fin 4) :=
  (idxs 4).find? (fun k => s.pifOn (senseOf c) k && s.pifChan (senseOf c) k == some c)

/-- The sample instant t asks for the position group of a channel (R308). -/
def State.askPosfb (s : State) (c : Channel) (t : Nat) : State :=
  match s.pifOf c with
  | none => s
  | some k => s.modPif (senseOf c) k (fun p => { p with due := some t })

/-- Delivery of ch_n.posfb for the sample instant t (R308). -/
def State.sendPosfb (s : State) (c : Channel) (k : Fin 4) (t : Nat) : State :=
  let d := senseOf c
  let th := (s.pif d k).obs.at t
  let b := chBase c + 0x40
  ((s.hwCommit (senseOwner d) t [(b, i32 th), (b + 1, i32 (th / 2 ^ 32)), (b + 2, s.pifSpeed d k), (b + 3, s.pifAccel d k),
    (b + 4, s.pifFlags d k t)]).modPif d k (fun p => { p with due := none, dirChg := false })).judgeValid d k

/-- The position groups of a sample instant follow the last ch_n.meas group of its die (R308). -/
def State.sendPosfbs (s : State) (c : Channel) : State :=
  let t := s.meas[c].sample
  let mates := (idxs 8).filter (fun q => senseOf q == senseOf c && s.meas[q].sample == t)
  if mates.any (fun q => s.groupUnsent q false) then s
  else mates.foldl (fun s q =>
    match s.pifOf q with
    | none => s
    | some k => if (s.pif (senseOf q) k).due = some t then s.sendPosfb q k t else s) s

/-! ## Position compare -/

/-- CMP_CTRL_u. -/
def State.cmpReg (s : State) (d : Fin 2) (u : Fin 4) : Word := s.reg (Reg.cmpCtrl d.val u.val)
/-- Interface a unit compares. -/
def State.cmpSrc (s : State) (d : Fin 2) (u : Fin 4) : Fin 4 := ⟨bitsAt (s.cmpReg d u) 29 2 % 4, Nat.mod_lt _ (by decide)⟩
/-- An entry of a unit's list as a 64-bit sensor position (R311). -/
def State.cmpEntry (s : State) (d : Fin 2) (u : Fin 4) (p : Nat) : Int :=
  (s.reg (Reg.cmpListHi d.val u.val p)).toInt * 2 ^ 32 + (s.reg (Reg.cmpList d.val u.val p)).toNat
/-- Position a unit evaluates (R311). -/
def State.cmpPos (s : State) (d : Fin 2) (k : Fin 4) (t : Nat) : Int :=
  if 3 ≤ s.pifMode d k then wrap64 ((s.pif d k).countTheta (s.cpr d k)) else (s.pif d k).obs.at t
/-- Does the move from one position to the next fire the entry (R311)? -/
def cmpFires (dir : Nat) (frm upto entry : Int) : Bool :=
  (decide (dir ≠ 2) && decide (frm < entry ∧ entry ≤ upto)) || (decide (dir ≠ 1) && decide (entry < frm ∧ upto ≤ entry))

/-- The entries a move fires, in list order (R312), each at most once in one evaluation. -/
def State.fireEntries (s : State) (d : Fin 2) (u : Fin 4) (frm upto : Int) : Nat → CompareUnit → CompareUnit × Nat
  | 0, x => (x, 0)
  | n + 1, x =>
    let w := s.cmpReg d u
    let dir := bitsAt w 27 2 % 3
    let last := bitsAt w 16 6
    if !x.stopped && cmpFires dir frm upto (s.cmpEntry d u x.ptr) then
      let y := { x with fires := (x.fires + 1) % 2 ^ 32 }
      let z := if x.ptr < last then { y with ptr := x.ptr + 1 } else if bitAt w 26 then { y with ptr := 0 } else { y with ptr := 0, stopped := true }
      let r := s.fireEntries d u frm upto n z
      (r.1, r.2 + 1)
    else (x, 0)

/-- COMPARE_EVALUATION (R311 to R313): at each multiple of 100 ticks. -/
def execCompareEvaluation (die : Fin 2) (unit : Fin 4) (s : State) : Out :=
  if ¬ s.hasDie (senseDie die) then .next s
  else
    let x := (s.pos[die]).cmp[unit]
    let w := s.cmpReg die unit
    let t := s.now / 100 * 100
    if !bitAt w 31 || x.disabled || !s.senseRuns || x.lastEval == some t then .next s
    else
      let pos := s.cmpPos die (s.cmpSrc die unit) t
      let y := { x with lastEval := some t, prev := some pos }
      match x.prev with
      | none => .next (s.modCmp die unit (fun _ => y))
      | some q =>
        let (z, n) := s.fireEntries die unit q pos (bitsAt w 16 6 + 1) y
        if n = 0 then .next (s.modCmp die unit (fun _ => y))
        else
          .next ((s.modCmp die unit (fun _ => { z with outEnd := some (t + max 1 (bitsAt w 0 16)) })).publishPif die unit)

/-- COMP_OUT_PULSE_END (R313). -/
def execCompOutPulseEnd (die : Fin 2) (unit : Fin 4) (s : State) : Out :=
  if ¬ s.hasDie (senseDie die) then .next s
  else match (s.pos[die]).cmp[unit].outEnd with
  | some t => if t ≤ s.now then .next (s.modCmp die unit (fun x => { x with outEnd := none })) else .next s
  | none => .next s

/-- CMP_STATUS_u. -/
def CompareUnit.status (x : CompareUnit) : Word := packFields [(8, x.fires % 2 ^ 24), (7, b2n x.stopped), (0, x.ptr)]

/-! ## Encoder emulation -/

/-- Interface an emulator follows. -/
def State.emuSrc (s : State) (d : Fin 2) : Fin 4 := ⟨s.fld (Reg.emuCfg d.val) 29 2 % 4, Nat.mod_lt _ (by decide)⟩
/-- N_t of an emulator (R315). -/
def State.emuTarget (s : State) (d : Fin 2) (t : Nat) : Int :=
  (s.pif d (s.emuSrc d)).obs.at t * (4 * (s.fld (Reg.emuCfg d.val) 0 16 + 1) : Nat) / 2 ^ 32

/-- EMULATOR_UPDATE (R315 to R317). -/
def execEmulatorUpdate (die : Fin 2) (s : State) : Out :=
  if ¬ s.hasDie (senseDie die) then .next s
  else
    let x := (s.pos[die]).emu
    let t := s.now / 100 * 100
    let set := fun (s : State) (f : Emulator → Emulator) => s.modPos die (fun p => { p with emu := f p.emu })
    if !bitAt (s.reg (Reg.emuCfg die.val)) 31 || x.disabled || !s.senseRuns || x.lastUpdate == some t then .next s
    else
      let nt := s.emuTarget die t
      if !x.started then .next (set s (fun e => { e with started := true, n := nt, lastUpdate := some t }))
      else if !(s.pif die (s.emuSrc die)).obs.settled then .next (set s (fun e => { e with lastUpdate := some t }))
      else
        let gap := nt - x.n
        let s1 := set s (fun e => { e with
          lastUpdate := some t
          n := x.n + max (-2) (min 2 gap)
          second := if gap.natAbs < 2 then none else some (t + 50, if 0 < gap then 1 else -1) })
        if 64 < gap.natAbs ∧ rateOk x.lastLag s.now (10 * msTicks) then
          .next ((set s1 (fun e => { e with lastLag := some s.now })).raise 0x3006 (senseSource die) 4 [w32 die.val, i32 gap])
        else .next s1

/-- The count N_o that an emulator's outputs show: of two counts in one update the second follows 50 ticks after the first (R315). -/
def State.emuCount (s : State) (d : Fin 2) : Int :=
  let e := (s.pos[d]).emu
  match e.second with
  | some (t, step) => if s.now < t then e.n - step else e.n
  | none => e.n

/-- The emulator's outputs A, B, Z (R316). -/
def State.emuOutputs (s : State) (d : Fin 2) : Bool × Bool × Bool :=
  let n := s.emuCount d
  let q := (n % 4).toNat
  (q == 1 || q == 2, q == 2 || q == 3,
    bitAt (s.reg (Reg.emuCfg d.val)) 28 && decide (n % (4 * (s.fld (Reg.emuCfg d.val) 0 16 + 1) : Nat) = 0))

/-! ## Set-up checks (R319, R320) -/

/-- BW exceeds the largest value of R304: BW × 8π × T_exp > 1 s (π to 40 digits), 4,000 Hz at most. -/
def State.bwTooHigh (s : State) (d : Fin 2) (k : Fin 4) (tExp : Nat) : Bool :=
  decide (400000000 * 2 ^ 254 < bitsAt (s.posCfg d k) 0 16 * 8 * pi256 * tExp / 4)

/-- R319 reason 4. -/
def State.ssiBadSetup (s : State) (d : Fin 2) (k : Fin 4) (nMin : Option Nat) : Bool :=
  let cfg := s.ssiCfg d k
  decide (48 < s.ssiLen d k) || bitsAt cfg 8 6 == 0 || decide (32 < bitsAt cfg 8 6) || decide (31 < bitsAt cfg 14 6) ||
    (match nMin with
     | none => false
     | some n => decide (n < min 80 (s.fld (Reg.ssiTim d.val k.val) 0 8) * 100 + s.ssiCycles d k * s.ssiClk d k + s.mono d k))

/-- The errors of an interface (R319 reasons 1 to 4). -/
def State.pifErrors (s : State) (d : Fin 2) (k : Fin 4) : List Nat :=
  if !bitAt (s.posCfg d k) 31 then []
  else
    let m := s.pifMode d k
    let p := s.fld (Reg.resExc d.val k.val) 0 17
    (if (s.pifChan d k).isSome && (idxs 4).any (fun q => q != k && bitAt (s.posCfg d q) 31 && s.pifChan d q == s.pifChan d k) then [1] else [])
      ++ (if m ≠ 0 ∧ s.bwTooHigh d k (s.tExp d k) then [2] else [])
      ++ (if m = 1 ∧ (p < 20000 ∨ 100000 < p ∨ p % 32 ≠ 0 ∨ p ≤ s.fld (Reg.resPh d.val k.val) 0 17) then [3] else [])
      ++ (if m = 2 ∧ s.ssiBadSetup d k ((s.pifChan d k).map s.nMin) then [4] else [])

/-- R320: would a new carrier of the channel (N_nom, N_min) break reason 2 or 4? -/
def State.posModeBad (s : State) (c : Channel) (nNom nMin : Nat) : Bool :=
  let d := senseOf c
  (idxs 4).any (fun k => bitAt (s.posCfg d k) 31 && s.pifChan d k == some c && s.pifMode d k == 2 &&
    (s.bwTooHigh d k nNom || s.ssiBadSetup d k (some nMin)))

/-- Position set-up checks of one die at SETUP_LOCK (R319): events, what is left disabled, the channels to leave disabled. -/
def State.posChecks (s : State) (d : Fin 2) : State × List Channel :=
  let s1 := (idxs 4).foldl (fun s k => (s.pifErrors d k).foldl (fun s r =>
    let s2 := s.raise 0x3007 (senseSource d) 10 [w32 r, w32 k.val]
    if (s.pifChan d k).isNone then s2.modPif d k (fun p => { p with disabled := true }) else s2) s) s
  let off := fun (s : State) (k : Fin 4) => !s.pifSet d k
  let s2 := (idxs 4).foldl (fun s u =>
    if bitAt (s.cmpReg d u) 31 && off s (s.cmpSrc d u) then
      (s.raise 0x3007 (senseSource d) 10 [5, w32 u.val]).modCmp d u (fun x => { x with disabled := true })
    else s) s1
  let s3 := if bitAt (s.reg (Reg.emuCfg d.val)) 31 && off s2 (s2.emuSrc d) then
      (s2.raise 0x3007 (senseSource d) 10 [5, w32 d.val]).modPos d (fun p => { p with emu := { p.emu with disabled := true } })
    else s2
  (s3, (idxs 4).filterMap (fun k => if s.pifErrors d k != [] then s.pifChan d k else none))

end Sys2Proof.Machine
end

