-- ==== Sys2Proof/Machine/Protect.lean ====
section
/-! DEFINITION. The protection units of LINK (12_protection_and_discharge.md, R411 to R436): causes, safe states, release, discharge. The orderly shutdown stands in Power.lean. -/

namespace Sys2Proof.Machine

/-- Code of a protection state (R411). -/
def ProtState.code : ProtState → Nat
  | .run => 0
  | .zeroVector => 1
  | .freewheel => 2
  | .ss1 => 3
  | .safeOpen => 4
  | .safeAsc => 5
  | .discharge => 6
  | .sto => 7

/-- Is it a safe state (R412)? -/
def ProtState.isSafe : ProtState → Bool
  | .safeOpen => true
  | .safeAsc => true
  | _ => false

/-- A field of PROT_CFG_n: SAFE_MODE. -/
def State.safeMode (s : State) (c : Channel) : Nat := s.fld (Reg.protCfg c.val) 30 2 % 3
/-- CNT (0 taken as 1, at most 8). -/
def State.protCnt (s : State) (c : Channel) : Nat := max 1 (min 8 (s.fld (Reg.protCfg c.val) 24 4))
/-- T_ASC in ticks. -/
def State.tAsc (s : State) (c : Channel) : Nat := max 5 (s.fld (Reg.protCfg c.val) 16 8) * 40
/-- OC_HOLD in ticks. -/
def State.ocHold (s : State) (c : Channel) : Nat := max 10 (s.fld (Reg.protCfg c.val) 0 16) * 40
/-- METHOD of a discharge; NONE where R437 keeps it so. -/
def State.dischMethod (s : State) (c : Channel) : Nat := if s.prot[c].noDischarge then 0 else s.fld (Reg.dischCfg c.val) 30 2

/-- Has ch_n.posfb been delivered with VALID 1? -/
def State.posValid (s : State) (c : Channel) : Bool :=
  ((s.die .a).stampOf (chBase c + 0x40)).isSome && bitAt (s.sig (chBase c + 0x44)) 0

/-- v in rpm: |ch_n.speed| × 60 / 2π (R421). -/
def State.rpm (s : State) (c : Channel) : Word := fTimes (fMagn (s.sig (chBase c + 0x42))) 0x4118C9EB

/-- The speed an event carries. -/
def State.rpmOrNaN (s : State) (c : Channel) : Word := if s.posValid c then s.rpm c else f32NaN

/-- A U16 limit as F32. -/
def limF (n : Nat) : Word := (cvtuf (w32 n)).val

/-- Commits ch_n.prot (R441). -/
def State.publishProt (s : State) (c : Channel) : State :=
  let p := s.prot[c]
  let ticks := match p.discharge with
    | some d => s.now - d.start
    | none => p.dischTicks
  s.hwCommit 0x0005 s.now
    [(chBase c + 0xB0, w32 p.state.code), (chBase c + 0xB1, p.causes.zeroExtend 32), (chBase c + 0xB2, p.active.zeroExtend 32),
     (chBase c + 0xB3, p.uMin), (chBase c + 0xB4, tickSecs ticks)]

/-- LINK reports the protection state of a channel to Tahr over DL_25 (R32). -/
def State.reportProt (s : State) (c : Channel) (st : ProtState) : State :=
  if s.linkUp .link .safe then (s.modTahrCh c (fun t => { t with prot := st })).sendDie .link .safe "prot_state" [c.val, st.code] else s

/-- Enters a state, publishes it and reports it to SAFE over DL_25 (R411, R420, R441). -/
def State.setProt (s : State) (c : Channel) (st : ProtState) : State :=
  ((s.modProt c (fun p => { p with state := st })).publishProt c).reportProt c st

/-- Publishes a change between the two safe states, but for a channel that stays published as DISCHARGE (R434). -/
def State.showSafe (s : State) (c : Channel) (st : ProtState) : State :=
  if s.prot[c].state = .discharge then s else s.setProt c st

/-- A cause becomes active (R414): its event with the value that crossed the threshold. -/
def State.causeOn (s : State) (c : Channel) (bit : Nat) (value : Word) : State :=
  if s.prot[c].active.getLsbD bit then s
  else
    let m : BitVec 16 := BitVec.ofNat 16 (2 ^ bit)
    ((s.modProt c (fun p => { p with active := p.active ||| m, causes := p.causes ||| m })).raise 0x6003 c.val 10
      [w32 bit, value]).publishProt c

/-- A cause of 0 to 5 is no longer active (R414). -/
def State.causeOff (s : State) (c : Channel) (bit : Nat) : State :=
  if s.prot[c].active.getLsbD bit then
    (s.modProt c (fun p => { p with active := p.active &&& ~~~(BitVec.ofNat 16 (2 ^ bit)) })).publishProt c
  else s

/-- The safe state that a channel holds: true for SAFE_ASC; one that R434 has entered stays published as DISCHARGE. -/
def State.safeHeld (s : State) (c : Channel) : Option Bool :=
  match s.prot[c].state with
  | .safeOpen => some false
  | .safeAsc => some true
  | .discharge => if s.prot[c].inSafe then some (s.sw.asc.getLsbD c.val) else none
  | _ => none

/-- The choice of R421 and R422: true for SAFE_ASC. `entry`: the channel is entering a safe state. OC keeps SAFE_OPEN (R415); ASC_REQ_n asks for SAFE_ASC (R483). -/
def State.chooseAsc (s : State) (c : Channel) (entry : Bool) : Bool :=
  let p := s.prot[c]
  let mode := s.safeMode c
  if p.ocForce then false
  else if s.sw.ascReq.getLsbD c.val then true
  else if p.active.getLsbD 1 && mode != 0 then true
  else if mode = 0 then false
  else if mode = 1 then true
  else if !s.posValid c then bitAt (s.reg (Reg.protCfg c.val)) 29
  else
    let wx := s.fld (Reg.protSpeed c.val) 16 16
    let wh := s.fld (Reg.protSpeed c.val) 0 16
    if fBelow (limF wx) (s.rpm c) then true
    else if fBelow (s.rpm c) (limF (wx - wh)) then false
    else entry || s.safeHeld c == some true || p.ascAt.isSome

/-- LINK asks Chamois for STO_A_n, or no longer (R415, R420). -/
def State.linkSto (s : State) (c : Channel) (on : Bool) : State :=
  let m : BitVec 8 := BitVec.ofNat 8 (2 ^ c.val)
  ({ s with chamois := { s.chamois with linkReq := if on then s.chamois.linkReq ||| m else s.chamois.linkReq &&& ~~~m } } : State).settle

/-- LINK asserts or releases ASC_n (R420, R428). -/
def State.driveAsc (s : State) (c : Channel) (on : Bool) : State :=
  let m : BitVec 8 := BitVec.ofNat 8 (2 ^ c.val)
  ({ s with sw := { s.sw with asc := if on then s.sw.asc ||| m else s.sw.asc &&& ~~~m } } : State).settle

/-- SAFE_OPEN is entered, its wire STO_A_n alone, on the way to SAFE_ASC where the choice says so (R411, R420, R421). A discharge loses its windings and stays published as DISCHARGE (R434). `cause`: the word the event carries. -/
def State.goSafe (s : State) (c : Channel) (cause : Word) : State :=
  let s1 := s.modProt c (fun p => { p with
    openSince := s.now
    stoReleaseAt := none
    ascAt := if s.chooseAsc c true then some (s.now + s.tAsc c) else none
    inSafe := p.state == .discharge
    discharge := p.discharge.map (fun d => { d with winding := false }) })
  let s1 : State := if s.shut.active then { s1 with shut := { s1.shut with early := s1.shut.early ||| BitVec.ofNat 8 (2 ^ c.val) } } else s1
  let s2 := ((s1.linkSto c true).driveAsc c false).raise 0x6001 c.val 12 [4, cause, s.rpmOrNaN c]
  if s.prot[c].state = .discharge then (s2.publishProt c).reportProt c .discharge
  else s2.setProt c .safeOpen

/-- The channel's safe state, from any state but a safe state (R413). -/
def State.enterSafe (s : State) (c : Channel) (cause : Word) : State :=
  if (s.safeHeld c).isSome then s else s.goSafe c cause

/-- A cause with the reaction "safe state" (R413, R418): it acts when it becomes active; causes 7 to 15 at each decision behind them. -/
def State.protCause (s : State) (c : Channel) (bit : Nat) (value : Word) : State :=
  if s.ch[c].enabled ∧ ¬ (bit < 7 ∧ s.prot[c].active.getLsbD bit) then (s.causeOn c bit value).enterSafe c (w32 bit) else s

/-- While the channel is in a safe state, the choice is repeated (R420, R422). -/
def State.repeatChoice (s : State) (c : Channel) : State :=
  match s.safeHeld c with
  | some false =>
    if s.chooseAsc c false then
      s.modProt c (fun p => { p with ascAt := if p.ascAt.isSome then p.ascAt else some (max s.now (p.openSince + s.tAsc c)) })
    else s.modProt c (fun p => { p with ascAt := none })
  | some true =>
    if s.chooseAsc c false then s
    else
      (((s.modProt c (fun p => { p with openSince := s.now, ascAt := none })).driveAsc c false).raise 0x6002 c.val 6
        [0, s.rpmOrNaN c]).showSafe c .safeOpen
  | none => s

/-- Consecutive samples of causes 1 to 3 (R414): k = cause − 1. -/
def State.countCause (s : State) (c : Channel) (k : Fin 3) (beyond : Bool) (value : Word) : State :=
  let p := s.prot[c]
  let nb := if beyond then p.beyond[k] + 1 else 0
  let nw := if beyond then 0 else p.within[k] + 1
  let s1 := s.modProt c (fun p => { p with beyond := vUpd p.beyond k (fun _ => nb), within := vUpd p.within k (fun _ => nw) })
  if s.protCnt c ≤ nb then s1.protCause c (k.val + 1) value
  else if s.protCnt c ≤ nw then s1.causeOff c (k.val + 1)
  else s1

/-- LINK asks SAFE for a stop over DL_25 (R417, R435, R438): the request arrives with SS1_REQUEST. -/
def State.askSafe (s : State) (c : Channel) (sto : Bool) : State :=
  s.requestStop .link c sto 2

/-! ## Discharge -/

/-- ch_n.ds.pin is unwritten (R345), as the inner image of the Drive Set on the channel judges it. -/
def State.pinUnwritten (s : State) (c : Channel) : Bool :=
  let at0 := fun i => s.sig (chBase c + 0x200 + i)
  let image := ((idxs 128).find? (fun k => (s.slotOf .a k).state == .active && (s.slotOf .a k).channel == c
    && decide (1 ≤ (s.slotOf .a k).ds ∧ (s.slotOf .a k).ds ≤ 3))).elim 0 (fun k => (s.slotOf .a k).ds)
  at0 0 == 0 || (image == 2 && f32Mag (at0 6) == 0 && at0 11 == 0) || ((image == 1 || image == 3) && (at0 9 == 0 || at0 10 == 0))

/-- The windings can take part (R430). -/
def State.windingReady (s : State) (c : Channel) : Bool :=
  let m := s.dischMethod c
  let wx := s.fld (Reg.protSpeed c.val) 16 16
  let wh := s.fld (Reg.protSpeed c.val) 0 16
  (m == 1 || m == 3) && s.prot[c].state == .run && s.posValid c && fBelow (s.rpm c) (limF (wx - wh))
    && !s.pinUnwritten c

/-- A discharge starts, or is refused (R429, R430, R432). -/
def State.startDischarge (s : State) (c : Channel) (byShutdown : Bool) : State :=
  let m := s.dischMethod c
  let refuse := fun (r : Nat) => s.raise 0x6014 c.val 5 [w32 r]
  if m = 0 then refuse 1
  else if s.prot[c].state = .discharge then refuse 4
  else if s.shut.active ∧ ¬ byShutdown then refuse 3
  else if m = 1 ∧ ¬ s.windingReady c then refuse 2
  else
    let w := s.windingReady c
    let inUse := if m = 3 ∧ ¬ w then 2 else m
    let s1 := s.modProt c (fun p => { p with
      discharge := some ⟨s.now, w, 0, 0⟩
      inSafe := false
      uMin := p.udc
      dischPin := p.dischPin || m != 1
      ascAt := none })
    (s1.raise 0x6010 c.val 3 [w32 inUse, s.prot[c].udc]).setProt c .discharge

/-- The discharge ends; its length is kept (R433, R435, R436). -/
def State.endDischarge (s : State) (c : Channel) : State :=
  match s.prot[c].discharge with
  | none => s
  | some d => s.modProt c (fun p => { p with discharge := none, dischTicks := s.now - d.start })

/-- From DISCHARGE to the safe state of R421 (R433, R435): entered now, or shown where R434 has entered it before. -/
def State.leaveDischarge (s : State) (c : Channel) (cause : Word) : State :=
  match s.safeHeld c with
  | some asc => (s.modProt c (fun p => { p with inSafe := false })).setProt c (if asc then .safeAsc else .safeOpen)
  | none => (s.modProt c (fun p => { p with state := .sto })).goSafe c cause

/-- A discharge stops as under R435: DISCH_n released, STO_A_n asked of Chamois, an STO request to SAFE, and the safe state. -/
def State.stopDischarge (s : State) (c : Channel) (cause : Word) : State :=
  ((s.endDischarge c).modProt c (fun p => { p with dischPin := false })).askSafe c true |>.leaveDischarge c cause

/-- A valid ch_n.udc during a discharge (R433, R435). -/
def State.dischargeSample (s : State) (c : Channel) (udc : Word) : State :=
  match s.prot[c].discharge with
  | none => s
  | some d =>
    if fBelow udc 0x42700000 then
      let s0 := s.modProt c (fun p => { p with uMin := fLow p.uMin udc })
      let s1 := (s0.endDischarge c).raise 0x6011 c.val 3 [tickSecs (s.now - d.start)]
      let (v, s2) := s1.fresh 32
      s2.leaveDischarge c v
    else if fBelow (fPlus s.prot[c].uMin (limF (max 1 (s.fld (Reg.dischCfg c.val) 8 8)))) udc then
      let s1 := (s.raise 0x6012 c.val 13 [s.prot[c].uMin, udc]).causeOn c 12 f32NaN
      s1.stopDischarge c 12
    else s.modProt c (fun p => { p with uMin := fLow p.uMin udc })

/-! ## What the deliveries bring -/

/-- A sample of the phase-loss check (R416). -/
def State.phaseSample (s : State) (c : Channel) (iValid : Bool) : State :=
  if bitAt (s.reg (Reg.protPl c.val)) 31 then
    if iValid && s.prot[c].qualifies then
      let sq := (List.range 3).map (fun k => let i := s.sig (chBase c + 0x20 + k); fTimes i i)
      s.modProt c (fun p => { p with window := some (match p.window with
        | none => ⟨s.now, sq, 1⟩
        | some w => { w with sums := (w.sums.zip sq).map (fun x => fPlus x.1 x.2), n := w.n + 1 }) })
    else s.modProt c (fun p => { p with window := none })
  else s

/-- A delivery of ch_n.meas (R414, R416, R422, R433, R435). -/
def State.protOnMeas (s : State) (c : Channel) : State :=
  if s.ch[c].enabled then
    let flags := s.sig (chBase c + 0x27)
    let udc := s.sig (chBase c + 0x23)
    let ov := s.fld (Reg.protUdc c.val) 16 16
    let uv := s.fld (Reg.protUdc c.val) 0 16
    let s1 := if bitAt flags 3 then
        let s2 := s.modProt c (fun p => { p with udc := udc })
        let s3 := if ov = 0 then s2 else s2.countCause c 0 (fBelow (limF ov) udc) udc
        let s4 := if uv = 0 then s3 else s3.countCause c 1 (fBelow udc (limF uv)) udc
        s4.dischargeSample c udc
      else s
    (s1.phaseSample c (bitAt flags 7)).repeatChoice c
  else s

/-- A delivery of ch_n.posfb (R414, R422). -/
def State.protOnPosfb (s : State) (c : Channel) : State :=
  if s.ch[c].enabled then
    let os := s.fld (Reg.protLim c.val) 16 16
    let s1 := if os ≠ 0 ∧ s.posValid c then s.countCause c 2 (fBelow (limF os) (s.rpm c)) (s.rpm c) else s
    s1.repeatChoice c
  else s

/-- A temperature update of the machine (cause 5, R413, R414). -/
def State.otMotor (s : State) (d : Fin 2) (k : Nat) : State :=
  (idxs 8).foldl (fun s c =>
    let w := s.reg (Reg.protNtc c.val)
    if senseOf c = d ∧ s.ch[c].enabled ∧ bitAt w 31 ∧ bitsAt w 24 4 = k then
      let t := s.sig (senseBase d + 0x300 + k)
      let lim := bitsAt w 16 8
      let hot := fBelow (limF lim) t
      let n := if hot then s.prot[c].otMotor + 1 else 0
      let s1 := s.modProt c (fun p => { p with otMotor := n })
      if lim = 0 then s
      else if 3 ≤ n then s1.protCause c 5 t
      else if (fle t (fMinus (limF lim) 0x40A00000)).val != 0 then s1.causeOff c 5
      else s1
    else s) s

/-- Die temperatures of a channel after a commit of telemetry (cause 4, R413, R414): the temperatures in °C of the dies in service. -/
def State.otPower (s : State) (c : Channel) (temps : List Word) : State :=
  let lim := s.fld (Reg.protLim c.val) 8 8
  if lim = 0 then s
  else match temps.find? (fun t => fBelow (limF lim) t) with
    | some t => s.protCause c 4 t
    | none => if temps.any (fun t => fBelow (fMinus (limF lim) 0x40A00000) t) then s else s.causeOff c 4

/-! ## Requests -/

/-- The safety functions hold a stop wire of the channel (R427 reason 4, R485, R602, R646, R668): every cause of R484 but the last. -/
def State.safetyHolds (s : State) (c : Channel) : Bool :=
  let t := s.tahr
  let x := t.ch[c]
  s.rungHold || s.chamoisSto c || s.chamois.loss || s.chamois.params.isNone
    || x.tmFault || x.dataLost || x.rampFault || x.lockStop || x.soStop
    || t.testFail || t.blocked || !t.healthy || t.chamoisFault || t.image.isNone || t.hold || t.held || s.pwr.testPending || !t.running || s.store.recovery || s.store.empty.getLsbD 1
    || (match t.image with
        | none => true
        | some im => (idxs 16).any (fun f =>
            let b := 0x180 + 16 * f.val
            let ty := fieldLe im b 1
            decide (1 ≤ ty ∧ ty ≤ 4) && (fieldLe im (b + 4) 1).testBit c.val && t.fns[f].state != .permit))

/-- Dies of a position that are HELD and fitted and not retired (R404). -/
def State.heldDies (s : State) (t : Port) : BitVec 16 :=
  firstDies (s.fld (Reg.gaCfg (portChannel t).val) 24 4 + 1) &&& s.gates[t].held &&& ~~~s.gates[t].retired

/-- Why a release is refused (R427), and how the state changes by judging it (R404's event). -/
def State.releaseReason (s : State) (c : Channel) : Option Nat :=
  let p := s.prot[c]
  let ports := (idxs 6).map (portOf c)
  if p.active &&& 0x3F ≠ 0 ∨ s.wires.ocTrip[c] = true ∨ (idxs 8).any (fun d => p.dieFaults.getLsbD d.val && s.wires.dieFault[d]) then some 1
  else if ports.any (fun t => s.ports[t].state != .ready) then some 2
  else if ports.any (fun t => s.heldDies t != 0 || s.gates[t].belowFloor) then some 3
  else if s.safetyHolds c then some 4
  else if p.state = .safeAsc ∧ ¬ s.posValid c then some 5
  else if s.shut.active then some 6
  else if (s.fld (Reg.protUdc c.val) 0 16 ≠ 0 ∧ fBelow p.udc (limF (s.fld (Reg.protUdc c.val) 0 16))) ∨ p.discharge.isSome then some 7
  else if s.planner.refused.getLsbD c.val then some 8
  else none

/-- A message leaves on a port, with its SEQ and CRC (R377, R378). -/
def State.sendNow (s : State) (t : Port) (type : Nat) (payload : List Byte) : State :=
  let ts : Byte := BitVec.ofNat 8 (type * 16 + s.ports[t].txSeq)
  let crc := crc16Bytes (ts :: payload)
  (s.modPort t (fun p => { p with txSeq := (p.txSeq + 1) % 16 })).emit (.tolpel t.val true type (ts :: payload ++ leBytes 2 crc))

/-- LINK may send EDGE messages for the channel (R372, R380, R386). -/
def State.edgesOn (s : State) (c : Channel) : Bool :=
  s.ch[c].enabled && bitAt (s.reg (Reg.gaCfg c.val)) 31 && (idxs 6).all (fun p => s.ports[portOf c p].state == .ready)

/-- From 1.4 µs before a half starts until its EDGE message has left, no other message starts on the channel's ports (R387). -/
def State.edgeWindow (s : State) (c : Channel) : Bool :=
  s.ch[c].running && !s.ch[c].cutoffDone && decide (s.ch[c].nextBoundary ≤ s.now + 560) && s.edgesOn c

/-- A message other than EDGE is due on a port: it leaves at once, or after the EDGE message for which it has to wait (R387). On a port of a channel with GA_CFG_n.EN 0 the transmitter is off (R372). -/
def State.sendDown (s : State) (t : Port) (type : Nat) (payload : List Byte) : State :=
  if ¬ bitAt (s.reg (Reg.gaCfg (portChannel t).val)) 31 then s
  else if s.edgeWindow (portChannel t) then s.modPort t (fun x => { x with held := x.held ++ [(type, payload)] })
  else s.sendNow t type payload

/-- A CMD message (11_gate_arrays.md). -/
def State.sendCmd (s : State) (t : Port) (op arg : Nat) : State := s.sendDown t 4 (leBytes 1 op ++ leBytes 4 arg)

/-- CLEAR for the latched dies of a position that are not retired (R403). -/
def State.clearLatched (s : State) (t : Port) : State :=
  let m := s.gates[t].latched &&& ~~~s.gates[t].retired
  if m = 0 then s else (s.sendCmd t 3 m.toNat).modGate t (fun g => { g with latched := g.latched &&& g.retired, groupFault := false })

/-- A granted release (R428): causes cleared, RUN entered, the wires of LINK released. -/
def State.grantRelease (s : State) (c : Channel) : State :=
  let left := s.prot[c].state
  let asc := s.sw.asc.getLsbD c.val
  let s1 := s.modProt c (fun p => { p with
    active := 0
    causes := 0
    ocForce := false
    ocClear := none
    ascAt := none
    dieFaults := 0
    dischPin := false
    inSafe := false
    stoReleaseAt := if asc then some (s.now + s.tAsc c) else none })
  let s2 := (s1.modMod c (fun m => { m with halted := false, applied := none })).modTahrCh c
    (fun t => { t with request := false, wantSs1 := none, wantSto := false })
  let s2 : State := { s2 with tahr := { s2.tahr with requests := s2.tahr.requests.filter (fun q => q.1 != c) } }
  let s3 := (idxs 6).foldl (fun s p => (s.clearLatched (portOf c p)).modGate (portOf c p) (fun g => { g with groupFault := false })) s2
  let s4 := (s3.raise 0x6004 c.val 3 [w32 left.code]).setProt c .run
  if asc then s4.driveAsc c false else s4.linkSto c false

/-- A release is requested (R427): granted, or refused with its reason. -/
def State.requestRelease (s : State) (c : Channel) : State × Bool :=
  match s.releaseReason c with
  | none => (s.grantRelease c, true)
  | some r =>
    let held := (idxs 6).map (fun p => (s.heldDies (portOf c p)).zeroExtend 32)
    let s1 := if held.any (· != 0) then s.raise 0x5017 c.val 6 held else s
    (s1.raise 0x6005 c.val 5 [w32 r], false)

/-- RELEASE (R427): PROT_CMD_n.RELEASE of an enabled channel. -/
def execRelease (ch : Channel) (s : State) : Out :=
  if s.ch[ch].enabled then .next (s.requestRelease ch).1 else .next s

/-- DISCH (R429). -/
def execDisch (ch : Channel) (s : State) : Out :=
  if s.ch[ch].enabled then .next (s.startDischarge ch false) else .next s

/-- DISCH_STOP (R435): a discharge stops without cause 12. -/
def execDischStop (ch : Channel) (s : State) : Out :=
  if s.prot[ch].discharge.isSome then
    let (v, s1) := (s.raise 0x6012 ch.val 13 [s.prot[ch].uMin, s.prot[ch].udc]).fresh 32
    .next (s1.stopDischarge ch v)
  else .next s

/-- DISCHARGE_TIMEOUT (R436). -/
def execDischargeTimeout (ch : Channel) (s : State) : Out :=
  match s.prot[ch].discharge with
  | none => .next s
  | some d =>
    if d.start + max 1 (s.fld (Reg.dischCfg ch.val) 16 13) * 10 * msTicks ≤ s.now then
      .next (((s.raise 0x6013 ch.val 12 [s.prot[ch].uMin]).causeOn ch 13 f32NaN).stopDischarge ch 13)
    else .next s

/-- OC_TRIP (R415): LINK takes an assertion of OC_TRIP_n. -/
def execOcTrip (ch : Channel) (s : State) : Out :=
  if s.wires.ocTrip[ch] = true ∧ ¬ s.prot[ch].ocTaken then
    let s0 := s.modProt ch (fun p => { p with ocTaken := true, ocClear := none })
    if s.safeHeld ch = some true then .next ((s0.modProt ch (fun p => { p with ocInAsc := holdInc 0xFFF p.ocInAsc })).settle)
    else
      let s1 := (s0.causeOn ch 0 f32NaN).modProt ch (fun p => { p with ocForce := true, ascAt := none })
      .next ((s1.linkSto ch true).enterSafe ch 0)
  else .next s

/-- OC_TRIP_RELEASE (R250, R414): SENSE releases the wire; cause 0 is no longer active. -/
def execOcTripRelease (ch : Channel) (s : State) : Out :=
  if ¬ s.hasChannel ch then .next s
  else
    let s1 := s.ocRelease ch
    if s.wires.ocTrip[ch] = true ∧ ¬ s1.wires.ocTrip[ch] = true then
      .next (((s1.modProt ch (fun p => { p with ocTaken := false, ocClear := some s.now })).causeOff ch 0).settle)
    else .next s1

/-- OC_HOLD_EXPIRY (R415): the choice of R421 applies again. -/
def execOcHoldExpiry (ch : Channel) (s : State) : Out :=
  match s.prot[ch].ocClear with
  | none => .next s
  | some t =>
    if s.prot[ch].ocForce ∧ t + s.ocHold ch ≤ s.now then
      .next ((s.modProt ch (fun p => { p with ocForce := false, ocClear := none })).repeatChoice ch)
    else .next s

/-- A closing phase-loss window is judged (R416): sqrt of the smallest mean square, and whether it is lopsided. -/
def judgeWindow (w : PhaseWindow) (ratio pmin : Nat) : Word × Bool :=
  let n := (cvtuf (w32 w.n)).val
  let ms := w.sums.map (fun x => fOver x n)
  let mean := fOver (ms.foldl fPlus 0) 0x40400000
  let low := ms.foldl fLow f32Inf
  let q := fOver (limF ratio) 0x42C80000
  (fRoot low, !fBelow mean (fTimes (limF pmin) (limF pmin)) && fBelow low (fTimes (fTimes q q) mean))

/-- PHASE_LOSS_WINDOW (R416): PL_WIN after its first qualifying sample a window closes. -/
def execPhaseLossWindow (ch : Channel) (s : State) : Out :=
  match s.prot[ch].window with
  | none => .next s
  | some w =>
    let r := s.reg (Reg.protPl ch.val)
    if w.opened + max 10 (min 2000 (bitsAt r 20 11)) * msTicks ≤ s.now then
      let (v, lop) := judgeWindow w (max 1 (min 100 (bitsAt r 12 8))) (max 1 (bitsAt r 0 12))
      let n := if lop then s.prot[ch].lopsided + 1 else 0
      let s1 := s.modProt ch (fun p => { p with window := none, lopsided := n })
      .next (if 2 ≤ n then s1.protCause ch 6 v else s1)
    else .next s

/-- T_ASC_EXPIRY (R420, R428): T_ASC after SAFE_OPEN was entered ASC_n asserts, or T_ASC after ASC_n was released STO_A_n is released. -/
def execTAscExpiry (ch : Channel) (s : State) : Out :=
  match s.prot[ch].ascAt, s.prot[ch].stoReleaseAt with
  | some t, _ =>
    if t ≤ s.now then
      let s1 := (s.modProt ch (fun p => { p with ascAt := none })).driveAsc ch true
      .next (if s.safeHeld ch = some false then (s1.raise 0x6002 ch.val 6 [1, s.rpmOrNaN ch]).showSafe ch .safeAsc else s1)
    else .next s
  | none, some t =>
    if t ≤ s.now then .next ((s.modProt ch (fun p => { p with stoReleaseAt := none })).linkSto ch false) else .next s
  | none, none => .next s

/-! ## Reactions other chapters ask for -/

/-- The miss reaction is carried out (R231, R412, R417, R418). -/
def State.missReact (s : State) (c : Channel) : State :=
  let s1 := s.causeOn c 7 f32NaN
  match s.prot[c].state with
  | .run | .zeroVector | .freewheel =>
    let r := s.fld (Reg.chMiss c.val) 0 2
    if r = 0 then s1.setProt c .zeroVector
    else if r = 1 then s1.setProt c .freewheel
    else (s1.askSafe c false).setProt c .ss1
  | _ => s1

/-- Tahr has reported an SS1 of the channel (R412, R486). -/
def State.onSs1 (s : State) (c : Channel) : State :=
  match s.prot[c].state with
  | .run | .zeroVector | .freewheel => s.setProt c .ss1
  | _ => s

/-- Tahr has reported an STO (R412, R413 cause 14). -/
def State.onSto (s : State) (c : Channel) : State :=
  let s1 := s.causeOn c 14 f32NaN
  match s.prot[c].state with
  | .run | .zeroVector | .freewheel | .ss1 => s1.setProt c .sto
  | _ => s1

/-- Tahr has reported the end of an SS1 (R413 cause 14, R488). -/
def State.onSs1End (s : State) (c : Channel) : State :=
  let s1 := s.causeOn c 14 f32NaN
  match s.prot[c].state with
  | .ss1 => s1.goSafe c 14
  | .run | .zeroVector | .freewheel => s1.goSafe c 14
  | _ => s1

/-- SAFE_STATE_N is high (R442). -/
def State.safeStateN (s : State) : Bool :=
  (idxs 8).all (fun c => !s.ch[c].enabled || (match s.prot[c].state with
    | .safeOpen | .safeAsc | .discharge | .sto => false
    | _ => true))

/-- PROT_STATUS_n. -/
def State.protStatus (s : State) (c : Channel) : Word :=
  let p := s.prot[c]
  packFields [(29, p.state.code), (28, b2n p.dischPin), (16, p.ocInAsc), (0, p.active.toNat)]

end Sys2Proof.Machine
end

