-- ==== Sys2Proof/Machine/FrameBase.lean ====
section
/-! DEFINITION. Lengths of frames (02_time_base_and_frames.md, R60 to R73, R78, R80): what the frame that starts at a channel's next boundary will be. -/

namespace Sys2Proof.Machine

/-- One step of the dither generator (R71). -/
def lfsrStep (x : BitVec 16) : BitVec 16 := if x.getLsbD 0 then (x >>> 1) ^^^ 0xB400 else x >>> 1

/-- Length limited by R62. -/
def limitLen (n : Int) : Nat := (max 2000 (min 200000 n)).toNat

/-- Dithered length (R72): truncation toward zero. -/
def ditherLen (n a : Nat) (x : BitVec 16) : Nat :=
  limitLen ((n : Int) + Int.tdiv ((n : Int) * (a : Int) * ((x.toNat : Int) - 32768)) 32768000)

/-- AMPL of CH_DITHER, at most 100. -/
def State.ditherAmpl (s : State) (c : Channel) : Nat := min 100 (s.fld (Reg.chDither c.val) 16 10)

/-- The applied part of a pending correction (R78). -/
def clampCorr (corr : Int) (p : Nat) : Int := max (-((p / 32 : Nat) : Int)) (min (p / 32 : Nat) corr)

/-- Dither is active on the channel under its settings (R73). -/
def State.dithers (s : State) (c : Channel) : Bool := s.source c == 0 && bitAt (s.reg (Reg.chDither c.val)) 31

/-- The generator's state for the frame that starts next (R72): stepped, from SEED where dither becomes active there. A CHANNEL_MODE that writes a new SEED while dither is active and stays so loads nothing: the rule loads SEED where dither is enabled (DESIGN CHOICE, assumption 78). -/
def State.nextLfsr (s : State) (c : Channel) : BitVec 16 :=
  let seed : BitVec 16 := (s.reg (Reg.chDither c.val)).extractLsb' 0 16
  lfsrStep (if s.ch[c].ditherActive then s.ch[c].lfsr else if seed = 0 then 1 else seed)

/-- Length of the frame that a channel that is no follower starts next, without correction (R61, R72, R80). -/
def State.plainLen (s : State) (c : Channel) : Nat :=
  let x := s.ch[c]
  let n := s.nNom c
  if s.source c = 0 then (if s.dithers c then ditherLen n (s.ditherAmpl c) (s.nextLfsr c) else n)
  else if x.sync = .hold then limitLen (if s.doubleUpdate c then x.heldPeriod / 2 else x.heldPeriod : Nat)
  else n

/-- Its length with the pending correction of R78. -/
def State.ownLen (s : State) (c : Channel) : Nat :=
  let x := s.ch[c]
  if s.source c = 1 ∧ (x.sync = .acquire ∨ x.sync = .track) then limitLen ((s.plainLen c : Int) + clampCorr x.corr (s.period c))
  else s.plainLen c

/-- D of a channel (R69, R75): round(PHASE_OFFSET × P / 65,536), a D of P taken as 0. -/
def State.dOf (s : State) (c : Channel) : Nat :=
  let p := s.period c
  let d := (roundAway (s.fld (Reg.chSync c.val) 0 16 * p) 65536).toNat
  if p ≤ d then 0 else d

/-- The next boundary of a channel is a valley. -/
def State.nextAtValley (s : State) (c : Channel) : Bool := !s.doubleUpdate c || !s.ch[c].atValley

/-- Settings of a follower of l wait for a valley of l: accepted, and a change of D not held by a run of invalid current (R558, R723). -/
def State.jumpWaits (s : State) (f l : Channel) : Bool :=
  match s.ch[f].settings with
  | none => false
  | some t =>
    let n := s.withSettings f
    t.accepted && n.source f == 2 && n.leader f == l && s.ch[f].jumpAt.isNone && s.ch[f].running
      && ((s.source f == 2 && n.dOf f == s.dOf f) || (s.ch[f].iInvalid == 0 && s.ch[l].iInvalid == 0))

/-- The time at which a follower's accepted settings take effect: its leader's valley plus its new D, where that valley has come or is the leader's next boundary (R558, R723). -/
def State.jumpTime (s : State) (f : Channel) : Option Nat :=
  match s.ch[f].jumpAt with
  | some t => some t
  | none =>
    let l := (s.withSettings f).leader f
    if s.jumpWaits f l && s.ch[l].running && s.nextAtValley l then some (s.ch[l].nextBoundary + (s.withSettings f).dOf f) else none

/-- Accepted settings take effect at the next boundary (R67, R558): a follower's at its leader's valley plus its D. -/
def State.settingsDue (s : State) (c : Channel) : Bool :=
  match s.ch[c].settings with
  | none => false
  | some t => t.accepted && (if (s.withSettings c).source c = 2 then s.jumpTime c == some s.ch[c].nextBoundary else s.nextAtValley c)

/-- The settings as the next frame finds them. -/
def State.nextSettings (s : State) (c : Channel) : State := if s.settingsDue c then s.withSettings c else s

/-- Length of the resync frame of a channel that is no follower (R61, R72, R84): a SYNC_IN channel is in TRACK then and has no correction pending. -/
def State.resyncLen (s : State) (c : Channel) : Nat := if s.source c = 0 then s.plainLen c else s.nNom c

/-- Length of the leader's frame that begins at b, for the follower's matching one (R69, R90). -/
def State.matchLen (s : State) (c : Channel) (b : Nat) : Nat :=
  let l := s.leader c
  match s.ch[l].recent.find? (fun r => r.1 == b) with
  | some r => r.2
  | none =>
    if s.ch[l].resyncAt.any (fun r => r.1 == b) then s.resyncLen l
    else if s.ch[l].nextBoundary = b then (s.ch[l].nextLen).getD ((s.nextSettings l).ownLen l)
    else s.nNom c

/-- Length of the frame that starts at the channel's next boundary (R63, R69). -/
def State.predictLen (s : State) (c : Channel) : Nat :=
  let t := s.nextSettings c
  if t.source c = 2 then t.matchLen c (s.ch[c].nextBoundary - t.dOf c) else t.ownLen c

/-- That length, as already fixed for an EDGE message or as it stands now. -/
def State.lenNext (s : State) (c : Channel) : Nat := (s.ch[c].nextLen).getD (s.predictLen c)

/-- N_max of a channel (R413). -/
def State.nMaxOwn (s : State) (c : Channel) : Nat :=
  let n := s.nNom c
  if s.source c = 1 then n + s.period c / 32
  else if bitAt (s.reg (Reg.chDither c.val)) 31 then n + n * s.ditherAmpl c / 1000
  else n

/-- N_max; a follower takes its leader's. -/
def State.nMax (s : State) (c : Channel) : Nat := if s.source c = 2 then s.nMaxOwn (s.leader c) else s.nMaxOwn c

/-- The halves of a frame (R359): rising or not, start, length. -/
def halvesOf (double valley : Bool) (b len : Nat) : List (Bool × Nat × Nat) :=
  if double then [(valley, b, len)] else [(true, b, len / 2), (false, b + len / 2, len - len / 2)]

end Sys2Proof.Machine
end

