-- ==== Sys2Proof/Machine/Lanes.lean ====
section
/-! DEFINITION. Lanes and their windows (13_lockstep.md, R447 to R455): which runs belong to a window, where a window ends, and the pseudo-runs of device firmware. -/

namespace Sys2Proof.Machine

/-- Updates a lane. -/
def State.modLane (s : State) (l : EngineNo) (f : Lane → Lane) : State := { s with lock := { s.lock with lanes := vUpd s.lock.lanes l f } }

/-- WIN_N: 1 to 64. -/
def State.winN (s : State) : Nat := max 1 (min 64 (s.fld Reg.lockCfg 0 7))

/-- The ACTIVE programs of a lane with their divisors. -/
def State.lanePrograms (s : State) (l : EngineNo) : List (SlotCode × Nat) :=
  (idxs 128).filterMap (fun c =>
    let x := s.slotOf .a c
    if x.state = .active ∧ x.engine = l then some (c, x.divNow) else none)

/-- The window channel of a lane (R451); none while the lane is inactive (R455), and from CHEW down (R605). -/
def State.laneChannel (s : State) (l : EngineNo) : Option Channel :=
  if 2 ≤ s.pwr.rung ∨ s.lanePrograms l = [] ∧ ¬ (l = 0 ∧ s.lock.pseudo = true) then none
  else match (s.die .a).samplePathOn l with
    | some c => some (s.slotOf .a c).channel
    | none => s.pacing

/-- Channels of a lane's programs, as a mask. -/
def State.laneMask (s : State) (ps : List (SlotCode × Nat)) : BitVec 8 :=
  ps.foldl (fun m p => m ||| BitVec.ofNat 8 (2 ^ (s.slotOf .a p.1).channel.val)) 0

/-- W_max of a lane in ticks (R455). A deadline falls after the window end only for a run of another channel than the window's: by the longest time from its reference instant to its deadline (R208), less what the window's last reference instant leaves. -/
def State.wMax (s : State) (w : Channel) (ps : List (SlotCode × Nat)) : Nat :=
  let shared := ps.any (fun p => (s.slotOf .a p.1).samplePath)
  let late := ps.map (fun p =>
    let c := (s.slotOf .a p.1).channel
    if c = w then 0 else (if shared then 0 else s.tsu c) + s.nMax c - s.tsu w)
  s.winN * s.nMax w + late.foldl max 0

/-- CTRL-A sends the lane plan over DL_12 (R455). -/
def State.sendLanePlan (s : State) (l : EngineNo) : State :=
  let k := s.lock.lanes[l]
  match k.channel with
  | none => s.sendDie .ctrlA .safe "lane_plan" [l.val, 0, 0, 0, 0]
  | some w => s.sendDie .ctrlA .safe "lane_plan" [l.val, 1, w.val, s.winN, s.wMax w k.progs]

/-- The open window of a lane ends: with its last frame, at this time, its runs lying below the reference instant `hi` (R451, R452). -/
def State.endWindow (s : State) (l : EngineNo) (last hi at_ : Nat) : State :=
  let k := s.lock.lanes[l]
  match k.channel with
  | none => s
  | some w =>
    if frameGe last k.first then
      s.modLane l (fun k => { k with
        windows := k.windows ++ [{ channel := w, last := last, lo := k.lo, hi := hi, endAt := at_ }]
        first := (last + 1) % 2 ^ 32
        lo := hi })
    else s

/-- A boundary at `at_` at which the programs or the window channel of a lane have changed: its open window ends there, and the next starts there (R453). -/
def State.cutLane (s : State) (l : EngineNo) (at_ : Nat) : State :=
  let k := s.lock.lanes[l]
  let ps := s.lanePrograms l
  let ch := s.laneChannel l
  if ps = k.progs ∧ ch = k.channel then s
  else
    let edge := fun (w : Channel) => if s.ch[w].boundary = at_ then (s.ch[w].frame, s.ch[w].refInstant) else ((s.ch[w].frame + 1) % 2 ^ 32, at_)
    let s1 := match k.channel with
      | none => s
      | some w => s.endWindow l (((edge w).1 + 2 ^ 32 - 1) % 2 ^ 32) (edge w).2 at_
    let first := ch.elim 0 (fun w => (edge w).1)
    let lo := if k.channel.isSome then s1.lock.lanes[l].lo else ch.elim 0 (fun w => (edge w).2)
    (s1.modLane l (fun k => { k with progs := ps, channel := ch, first := first, lo := lo })).sendLanePlan l

/-- Every lane after a change at a boundary. -/
def State.cutLanes (s : State) (at_ : Nat) : State := (idxs 16).foldl (fun s l => s.cutLane l at_) s

/-- A boundary of a channel has been counted: the windows of WIN_N frames on it end (R451). -/
def State.laneBoundary (s : State) (c : Channel) : State :=
  let x := s.ch[c]
  (idxs 16).foldl (fun s l =>
    let k := s.lock.lanes[l]
    if k.channel = some c ∧ s.winN ≤ (x.frame + 2 ^ 32 - k.first) % 2 ^ 32 then
      s.endWindow l ((x.frame + 2 ^ 32 - 1) % 2 ^ 32) x.refInstant x.boundary
    else s) (if 2 ≤ s.pwr.rung then (idxs 16).foldl (fun s l => if s.lock.lanes[l].channel = some c then s.cutLane l x.boundary else s) s else s.cutLanes x.boundary)

/-- The pseudo-run record (R449). -/
def pseudoRecord (stamp : Nat) : Dword := BitVec.ofNat 64 (0x4 * 2 ^ 60 + stamp % 2 ^ 32)

/-- Device firmware of CTRL-A sends flits toward SENSE, LINK or AUX for these writes: a pseudo-run of lane 0 on both dies under one stamp (R450). -/
def State.pseudoRun (s : State) (writes : Kv Word) : State :=
  let fs := commitFlits writes
  let sig := runSig [] fs (pseudoRecord s.now)
  let sA := (s.sendFlits fs).fileOutcome .a 0 128 0 0 s.now 0 sig
  let s1 := if s.linkUp .ctrlA .ctrlB then sA.fileOutcome .b 0 128 0 0 s.now 0 sig else sA
  if s.lock.pseudo then s1
  else
    let s2 : State := { s1 with lock := { s1.lock with pseudo := true } }
    let s3 := s2.cutLane 0 (s.pacing.elim 0 (fun w => s.ch[w].boundary))
    if s.lock.lanes[(0 : Fin 16)].channel.isNone then s3.modLane 0 (fun k => { k with lo := min k.lo s.now }) else s3

/-- Is a register of the set-up window one of SENSE, LINK or AUX, CAN among LINK, whose set-up words travel as flits of R28's table? -/
def setupFlit (off : Nat) : Bool := [4, 5, 6, 7, 10].contains (off / 0x10000)

/-- A service-port frame leaves LINK: its bytes travel there from CTRL-A as service-port data, a pseudo-run (R28, R450). -/
def State.svcOut (s : State) (frame : List Byte) : State :=
  (s.pseudoRun ((List.range ((frame.length + 3) / 4)).map (fun i => (i, w32 (fieldLe frame (4 * i) 4))))).emit (.service frame)

end Sys2Proof.Machine
end

