-- ==== Sys2Proof/Machine/Modulator.lean ====
section
/-! DEFINITION. The modulators (10_modulation.md, R351 to R370) and the EDGE messages they send (11_gate_arrays.md, R386 to R391). -/

namespace Sys2Proof.Machine

/-- m_lin of R353. -/
def mLin : Word := 0x3F13CD3A
/-- m_six of R353. -/
def mSix : Word := 0x3F22F983
/-- √3. -/
def root3 : Word := 0x3FDDB3D7
/-- √3/2. -/
def root3half : Word := 0x3F5DB3D7

/-- Distance to the hexagon boundary at an ANG (R353). -/
def rHex (phi udc : Word) : Word :=
  let sixths : Int := (6 * phi.toNat % 2 ^ 32 : Nat)
  let a := i32 (roundAway (sixths - 2 ^ 31) 6)
  fOver udc (fTimes root3 (cosAng a))

/-- θ_v of R354: the hexagon vertex nearest to θ, the earlier one where two are equally near. -/
def vertexOf (theta : Word) : Word :=
  let at_ := fun (j : Nat) => (roundAway ((j * 2 ^ 32 : Nat) : Int) 6).toNat
  let j := 6 * theta.toNat / 2 ^ 32
  if theta.toNat - at_ j ≤ at_ (j + 1) - theta.toNat then w32 (at_ j) else w32 (at_ (j + 1))

/-- The exact product of an F32 and an I32, rounded once to the nearest integer, ties to even (R354). -/
def roundProduct (k : Word) (d : Int) : Int :=
  match f32Exact k with
  | none => 0
  | some (m, e) =>
    let v := m * d
    if 0 ≤ e then v * 2 ^ e.toNat
    else
      let den := 2 ^ (-e).toNat
      let r := roundHalfEven (v.natAbs / den) (v.natAbs % den) den
      if v < 0 then -(r : Int) else r

/-- The vector after overmodulation (R354): vα, vβ, m, and the flags OVM and SIX_STEP. -/
def overmodulate (ovm : Nat) (va vb udc : Word) : Word × Word × Word × Nat :=
  let mag := fRoot (fPlus (fTimes va va) (fTimes vb vb))
  let m := fOver mag udc
  if !fBelow mLin m then (va, vb, m, 0)
  else
    let th := (fatan2 vb va).val
    let k := fLow f32One (fOver (fMinus m mLin) (fMinus mSix mLin))
    let tv := vertexOf th
    let k1 := fMinus f32One k
    let th' := if ovm = 2 then tv + i32 (roundProduct k1 (th - tv).toInt) else th
    let rho := if ovm = 1 then fLow mag (rHex th udc)
      else if ovm = 2 then fLow (rHex th' udc) (fPlus (fTimes k1 mag) (fTimes k (rHex th' udc)))
      else fTimes mLin udc
    (fTimes rho (cosAng th'), fTimes rho (sinAng th'), m, 4 + if ovm = 2 ∧ k = f32One then 8 else 0)

/-- The phase references (R355). -/
def phaseRefs (va vb : Word) : Word × Word × Word :=
  let h := fOver (fNegate va) 0x40000000
  (va, fPlus h (fTimes root3half vb), fMinus h (fTimes root3half vb))

/-- The clamp selection's v_0 (R355): φ as ANG. -/
def clampZero (va vb udc phi : Word) : Word :=
  let (ra, rb) := ipark va vb phi
  let (xa, xb, xc) := phaseRefs ra rb
  let (va', vb', vc') := phaseRefs va vb
  let big := fHigh (fHigh (fMagn xa) (fMagn xb)) (fMagn xc)
  let (x, v) := if fMagn xa = big then (xa, va') else if fMagn xb = big then (xb, vb') else (xc, vc')
  let half := fOver udc 0x40000000
  fMinus (if fBelow x 0 then fNegate half else half) v

/-- v_0 by MODE (R355). -/
def zeroSequence (mode : Nat) (excess : Bool) (va vb udc : Word) : Word :=
  let (a, b, c) := phaseRefs va vb
  let vmax := fHigh (fHigh a b) c
  let vmin := fLow (fLow a b) c
  let half := fOver udc 0x40000000
  let svpwm := fOver (fNegate (fPlus vmax vmin)) 0x40000000
  if excess then svpwm
  else if mode = 1 then clampZero va vb udc 0x15555555
  else if mode = 2 then clampZero va vb udc 0
  else if mode = 3 then clampZero va vb udc 0xEAAAAAAB
  else if mode = 4 then fMinus half vmax
  else if mode = 5 then fMinus (fNegate half) vmin
  else svpwm

/-- The duties before R358 (R356), with m and the flags of R354. -/
def rawDuties (mode ovm : Nat) (va vb udc : Word) : List Word × Word × Nat :=
  let (wa, wb, m, fl) := overmodulate ovm va vb udc
  let v0 := zeroSequence mode (fBelow mLin m) wa wb udc
  let (a, b, c) := phaseRefs wa wb
  ([a, b, c].map (fun v => fPlus 0x3F000000 (fOver (fPlus v v0) udc)), m, fl)

/-- DT of a leg, in 1/32 tick, even, 640 to 25,600. -/
def State.legDt (s : State) (c : Channel) (leg : Nat) : Nat := max 640 (min 25600 (s.fld (Reg.modDt c.val leg) 0 16)) / 2 * 2
/-- MIN_PULSE in ticks. -/
def State.minPulse (s : State) (c : Channel) : Nat := min 1600 (s.fld (Reg.modCfg c.val) 16 16)
/-- T_min of a leg in 1/32 tick (R360). -/
def State.tMin32 (s : State) (c : Channel) (leg : Nat) : Nat := max (s.minPulse c * 32) (2 * s.legDt c leg)

/-- The correction of R358 on one duty. -/
def dtcDuty (d i iBand : Word) (dt32 h : Nat) : Word :=
  let q := fLimit (fOver i iBand) 0xBF800000 f32One
  fPlus d (fTimes q (fOver (fOver (limF dt32) 0x42000000) (fTimes 0x40000000 (limF h))))

/-- R360: the clamp and the minimum pulse. -/
def clampDuty (d : Word) (h tMin32 : Nat) : Word :=
  let d1 := fLimit d 0 f32One
  let lim := fOver (limF tMin32) 0x42800000
  if fBelow (fTimes d1 (limF h)) lim then 0
  else if fBelow (fTimes (fMinus f32One d1) (limF h)) lim then f32One
  else d1

/-- One change of a leg in a half: the state left and when, the state entered and when; times in 1/32 tick after the start of the half. -/
structure Trans where
  frm : LegState
  offAt : Nat
  upto : LegState
  onAt : Nat
  deriving DecidableEq, Repr

/-- What a leg does in a half (R361 to R363): its transitions, the state at the end, the duty in force. -/
def legHalf (prev : LegState) (rising : Bool) (d : Word) (h dt32 tMin32 : Nat) : List Trans × LegState × Word :=
  let interior : Option Nat := if d = 0 ∨ d = f32One then none
    else some (cvtfi (fTimes (if rising then d else fMinus f32One d) (limF (32 * h)))).val.toNat
  let first : LegState := if rising then (if d = 0 then .low else .high) else (if d = f32One then .high else .low)
  let boundary := decide (first ≠ prev)
  let early := match interior with
    | some q => boundary && decide (q < tMin32)
    | none => false
  if early then
    ([], prev, if rising then 0 else f32One)
  else
    let t0 := if boundary then [⟨prev, 0, first, dt32⟩] else []
    match interior with
    | none => (t0, first, d)
    | some q =>
      let last : LegState := if first = .high then .low else .high
      (t0 ++ [⟨first, q - dt32 / 2, last, q + dt32 / 2⟩], last, d)

/-- R85: no edge before 1.0 µs after t_b; edges that fall earlier move there with their dead time kept, an overtaken change giving way to the next. A change after that instant that meets the dead time of one moved there stays where it is: the rule does not say how the two meet (DESIGN CHOICE, assumption 91). -/
def holdTrans (ts : List Trans) : List Trans :=
  let late := fun (t : Trans) => if t.offAt < 12800 then { t with offAt := 12800, onAt := 12800 + (t.onAt - t.offAt) } else t
  match ts with
  | [t, u] =>
    if 12800 ≤ u.offAt then [late t, u]
    else if t.frm = u.upto then []
    else [late { u with frm := t.frm }]
  | _ => ts.map late

/-- The trim word of a die in the set the next EDGE message names (R389, R400). -/
def TpPort.word (x : TpPort) (d : Fin 16) : Word := x.trims[x.tset][d]

/-- DIES of a channel. -/
def State.diesOf (s : State) (c : Channel) : Nat := s.fld (Reg.gaCfg c.val) 24 4 + 1

/-- The dies of a position that take edge commands (R364, R402, R405). -/
def State.liveDies (s : State) (t : Port) : BitVec 16 :=
  firstDies (s.diesOf (portChannel t)) &&& ~~~(s.gates[t].retired ||| s.gates[t].latched)

/-- The mask of a list of dies. -/
def dieMask (ds : List (Fin 16)) : BitVec 16 := ds.foldl (fun m d => m ||| BitVec.ofNat 16 (2 ^ d.val)) 0

/-- Time of a die under R390, never before the start of its half. -/
def dieAt (c : Nat) (trim : Int) : Nat := max 0 ((c : Int) + trim) |>.toNat

/-- The entries one transition gives to a position, with the largest delay of R364 (R364, R390, R391). `mine`: this position's state of the leg; the masks and trim words of this position and of the other one of its leg. -/
def transEntries (t : Trans) (mine : LegState) (m : BitVec 16) (w : Fin 16 → Word) (m' : BitVec 16) (w' : Fin 16 → Word) :
    List EdgeEntry × Nat :=
  let off := if t.frm = mine ∧ m ≠ 0 then [⟨0, t.offAt, m⟩] else []
  if t.upto = mine ∧ m ≠ 0 then
    let bar := if t.frm = .off then 0 else ((maskDies m').map (fun d => dieAt t.offAt (offTrim (w' d)) + 640)).foldl max 0
    let late := (maskDies m).filter (fun d => decide (dieAt t.onAt (onTrim (w d)) < bar))
    let rest := m &&& ~~~(dieMask late)
    let delay := (late.map (fun d => bar - dieAt t.onAt (onTrim (w d)))).foldl max 0
    (off ++ (if rest = 0 then [] else [⟨1, t.onAt, rest⟩]) ++ (if late = [] then [] else [⟨2, bar, dieMask late⟩]), delay)
  else (off, 0)

/-- Entries in ascending OFFSET, equal offsets in ascending KIND (11_gate_arrays.md). -/
def insertEntry (e : EdgeEntry) : List EdgeEntry → List EdgeEntry
  | [] => [e]
  | f :: fs => if e.offset < f.offset ∨ (e.offset = f.offset ∧ e.kind ≤ f.kind) then e :: f :: fs else f :: insertEntry e fs

/-- The payload of an EDGE message (11_gate_arrays.md). -/
def edgePayload (tset : Fin 2) (last : Bool) (base len : Nat) (es : List EdgeEntry) : List Byte :=
  leBytes 5 (es.length % 4 * 2 ^ 38 + tset.val * 2 ^ 37 + b2n last * 2 ^ 36 + len % 2 ^ 18 * 2 ^ 18 + base % 2 ^ 18)
    ++ es.flatMap (fun e => leBytes 5 (e.kind % 4 * 2 ^ 38 + e.offset % 2 ^ 22 * 2 ^ 16 + e.mask.toNat))

/-- Checked trim sets go in force with the next EDGE messages (R400). -/
def State.swapTrims (s : State) (c : Channel) : State :=
  (idxs 6).foldl (fun s p => s.modPort (portOf c p) (fun x =>
    if x.swapTset then { x with tset := if x.tset = 0 then 1 else 0, swapTset := false } else x)) s

/-- What a frame is given: no entries, the all-off entry, or a set with its duties for each half. -/
inductive FrameWork where
  | empty
  | allOff
  | duties (halves : List (List Word))
  deriving DecidableEq, Repr

/-- What the legs do in one half: a leg's transitions, its end, its duty. -/
def State.legsIn (s : State) (c : Channel) (rising resync : Bool) (h : Nat) (legs : Vector LegState 3) (ds : List Word) :
    List (List Trans × LegState × Word) :=
  (idxs 3).map (fun l =>
    let (ts, e, d) := legHalf legs[l] rising (ds.getD l.val 0) h (s.legDt c l.val) (s.tMin32 c l.val)
    (if resync then holdTrans ts else ts, e, d))

/-- The entries of a position in a half, with the largest delay (R364). -/
def State.positionEntries (s : State) (c : Channel) (p : Fin 6) (legs : List (List Trans × LegState × Word)) : List EdgeEntry × Nat :=
  let q : Fin 6 := if p.val % 2 = 0 then ⟨p.val / 2 * 2 + 1, by omega⟩ else ⟨p.val / 2 * 2, by omega⟩
  let mine : LegState := if p.val % 2 = 0 then .high else .low
  let t := portOf c p
  let t' := portOf c q
  let ts := (legs.getD (p.val / 2) ([], .off, 0)).1
  let rs := ts.map (fun x => transEntries x mine (s.liveDies t) (s.ports[t]).word (s.liveDies t') (s.ports[t']).word)
  ((rs.flatMap (fun r => r.1)).foldr insertEntry [], (rs.map (fun r => r.2)).foldl max 0)

/-- An interlock delay is counted, and its event raised at most once per second (R364). -/
def State.countInterlock (s : State) (c : Channel) (p : Fin 6) (delay : Nat) : State :=
  if delay = 0 then s
  else
    let m := s.mod[c]
    let (mx, pos) := if m.ilMax < delay then (delay, p.val) else (m.ilMax, m.ilPos)
    let s1 := s.modMod c (fun x => { x with interlocks := holdInc 0xFFFF x.interlocks, ilNow := true, ilMax := mx, ilPos := pos })
    if rateOk m.lastInterlock s.now sTicks then
      (s1.raise 0x5102 c.val 4 [w32 pos, w32 mx]).modMod c (fun x => { x with lastInterlock := some s.now, ilMax := 0, ilPos := 0 })
    else s1

/-- The six EDGE messages of one half, ready to leave (R386). -/
def State.queueHalf (s : State) (c : Channel) (last : Bool) (base len : Nat) (es : Fin 6 → List EdgeEntry) : State :=
  s.modMod c (fun m => { m with queue := m.queue ++ [⟨last, base, len, (idxs 6).map es⟩] })

/-- The EDGE messages of a frame leave, the second half's at once after the first's (R386, R387); a TELEM is then owed for the frame (R394), and what has waited for them on a port follows. -/
def State.sendEdges (s : State) (c : Channel) : State :=
  let q := s.mod[c].queue
  let s1 := s.modMod c (fun m => { m with queue := [] })
  let s2 := if s.edgesOn c then
      q.foldl (fun s e => (idxs 6).foldl (fun s p =>
        let t := portOf c p
        (s.sendNow t 1 (edgePayload (s.ports[t]).tset e.last e.base e.len (e.entries.getD p.val []))).modPort t
          (fun x => { x with owed := if e.last then x.owed ++ (q.head?.map (fun f => f.base)).toList else x.owed })) s) s1
    else s1
  (idxs 6).foldl (fun s p =>
    let t := portOf c p
    (s.ports[t]).held.foldl (fun s m => s.sendNow t m.1 m.2) (s.modPort t (fun x => { x with held := [] }))) s2

/-- State changes of a leg in a half as points in 1/32 tick of device time. -/
def transPoints (base : Nat) (ts : List Trans) : List (Nat × LegState) :=
  ts.flatMap (fun t => [(32 * base + t.offAt, LegState.off), (32 * base + t.onAt, t.upto)])

/-- One half of a frame: its messages, and what the modulator keeps of its legs (R85, R363). -/
def State.doHalf (s : State) (c : Channel) (resync last : Bool) (half : Bool × Nat × Nat) (ds : List Word) : State :=
  let (rising, base, h) := half
  let legs := s.legsIn c rising resync h s.mod[c].legs ds
  let s1 := (idxs 6).foldl (fun s p => s.countInterlock c p (s.positionEntries c p legs).2) s
  let s2 := s1.queueHalf c last base h (fun p => (s.positionEntries c p legs).1)
  s2.modMod c (fun m => { m with
    legs := Vector.ofFn (fun l => (legs.getD l.val ([], .off, 0)).2.1)
    points := Vector.ofFn (fun l => ((m.points[l]) ++ transPoints base (legs.getD l.val ([], .off, 0)).1).reverse.take 16 |>.reverse) })

/-- State of a leg at a time: the last change before it, since a hard resync cancels the changes at or after t_b (R84). -/
def legAt (now : LegState) (points : List (Nat × LegState)) (t32 : Nat) : LegState :=
  match (points.filter (fun p => decide (p.1 < t32))).getLast? with
  | some p => p.2
  | none => if points = [] then now else .off

/-- The legs as they stand at a time, what is decided from then on forgotten (R84). -/
def State.legsBack (s : State) (c : Channel) (t : Nat) : State :=
  s.modMod c (fun m => { m with
    next := none
    legs := Vector.ofFn (fun l => legAt m.legs[l] m.points[l] (32 * t))
    points := Vector.ofFn (fun l => m.points[l].filter (fun p => decide (p.1 < 32 * t))) })

/-- The EDGE messages of a frame (R386, R391), in place of any that a frame at that boundary had before; the all-off command stands in that of each half. -/
def State.doFrame (s : State) (c : Channel) (resync : Bool) (halves : List (Bool × Nat × Nat)) (work : FrameWork) : State :=
  let s0 := (if s.edgesOn c then s.swapTrims c else s).modMod c (fun m => { m with queue := [] })
  let n := halves.length
  let base0 := (halves.headD (true, 0, 0)).2.1
  let at_ := if resync then 12800 else 0   -- no edge before t_b + 1.0 µs (R85)
  let plain := fun (es : Nat → Fin 6 → List EdgeEntry) =>
    (halves.zip (List.range n)).foldl (fun s x => s.queueHalf c (x.2 + 1 == n) x.1.2.1 x.1.2.2 (es x.2)) s0
  match work with
  | .duties dss =>
    ((halves.zip dss).zipIdx).foldl (fun s x => s.doHalf c (resync && x.2 == 0) (x.2 + 1 == n) x.1.1 x.1.2) s0
  | .allOff =>
    (plain (fun i p =>
      let m := s.liveDies (portOf c p)
      if m = 0 then [] else [⟨3, if i = 0 then at_ else 0, m⟩])).modMod c (fun m => { m with
        legs := Vector.replicate 3 .off
        points := m.points.map (fun l => (l ++ [(32 * base0 + at_, LegState.off)]).reverse.take 16 |>.reverse) })
  | .empty => plain (fun _ _ => [])

/-- Is the correction of R358 applied: I_VALID and the stamp of this frame on the ch_n.meas that LINK was sent last? -/
def State.dtcApplies (s : State) (c : Channel) (ref : Option Nat) : Bool :=
  s.mod[c].iValid && ref.isSome && s.mod[c].iStamp == ref

/-- I_BAND, 0.1 to 1,000 A. -/
def State.iBand (s : State) (c : Channel) : Word := (ParRange.f 0x3DCCCCCD 0x447A0000).clamp (s.reg (Reg.modIband c.val))

/-- The duties of each half of a set (R353 to R360), m, and the flags OVM, SIX_STEP and DTC_OFF. -/
def State.setDuties (s : State) (c : Channel) (set : RefSet) (halves : List (Bool × Nat × Nat)) (ref : Option Nat) : List (List Word) × Word × Nat :=
  let cfg := s.reg (Reg.modCfg c.val)
  let (raw, m, fl) := rawDuties (bitsAt cfg 0 3) (bitsAt cfg 4 2) set.va set.vb set.udc
  let en := bitAt cfg 8
  let dtc := en && s.dtcApplies c ref
  let dss := halves.map (fun hf => (idxs 3).map (fun l =>
    let d := raw.getD l.val 0
    let d1 := if dtc then dtcDuty d s.mod[c].iMeas[l] (s.iBand c) (s.legDt c l.val) hf.2.2 else d
    clampDuty d1 hf.2.2 (s.tMin32 c l.val)))
  (dss, m, fl + if en && !dtc then 16 else 0)

/-- The published record of a frame whose dies are all off: its duties are free values, the spec states none (R352, R370). -/
def State.offMod (s : State) (set applied : Option RefSet) (flags setTime : Nat) (program : Option (SlotCode × Nat)) : NextMod × State :=
  let (a, s1) := s.fresh 32
  let (b, s2) := s1.fresh 32
  let (c, s3) := s2.fresh 32
  let (f, s4) := s3.fresh 32
  let m := match set with
    | some r => fOver (fRoot (fPlus (fTimes r.va r.va) (fTimes r.vb r.vb))) r.udc
    | none => f
  (⟨[a, b, c], m, flags, setTime, false, applied, program⟩, s4)

/-- The modulator processes a frame (R351 to R365, R417, R725): `set` none is the all-off set. A halted modulator applies no set (R231, R367). -/
def State.processFrame (s : State) (c : Channel) (resync : Bool) (halves : List (Bool × Nat × Nat)) (ref : Option Nat)
    (set : Option RefSet) (rep freewheel : Bool) (program : Option (SlotCode × Nat)) : State :=
  let s0 := s.modMod c (fun m => { m with ilNow := false })
  let arrived := match set with
    | some r => r.arrived
    | none => s.mod[c].arrived
  if s.mod[c].halted then
    let (nx, s2) := (s0.doFrame c resync halves .empty).offMod set none 1 arrived none
    s2.modMod c (fun m => { m with next := some nx })
  else match set with
  | none =>
    let (nx, s2) := (s0.doFrame c resync halves .allOff).offMod none none 1 arrived program
    s2.modMod c (fun m => { m with next := some nx })
  | some r =>
    let low := r.en = f32One ∧ fBelow r.udc 0x41200000
    let off := freewheel ∨ r.en ≠ f32One ∨ low
    let s1 := if low ∧ rateOk s.mod[c].lastUdcLow s.now sTicks then
        (s0.raise 0x5101 c.val 8 [r.udc]).modMod c (fun m => { m with lastUdcLow := some s.now })
      else s0
    if off then
      let ovm := (overmodulate (bitsAt (s.reg (Reg.modCfg c.val)) 4 2) r.va r.vb r.udc).2.2.2
      let (nx, s3) := (s1.doFrame c resync halves .allOff).offMod (some r) (some r) (1 + ovm + (if rep then 2 else 0) + if low then 32 else 0) arrived program
      s3.modMod c (fun m => { m with next := some nx })
    else
      let (dss, m, fl) := s1.setDuties c r halves ref
      let s2 := s1.doFrame c resync halves (.duties dss)
      let fl1 := fl + (if s2.mod[c].ilNow then 64 else 0) + (if rep then 2 else 0)
      s2.modMod c (fun x => { x with next := some ⟨dss.headD [], m, fl1, arrived, true, some r, program⟩ })

/-- The frame that starts at the channel's next boundary is processed (R365), in place of what has been decided for it before: its length is fixed for its messages. -/
def State.processNext (s : State) (c : Channel) (set : Option RefSet) (rep freewheel : Bool) (program : Option (SlotCode × Nat)) : State :=
  let len := s.lenNext c
  let b := s.ch[c].nextBoundary
  let t := (if s.ch[c].nextLen.isSome then s.legsBack c b else s).nextSettings c
  let s1 := t.processFrame c false (halvesOf (t.doubleUpdate c) (s.nextAtValley c) b len) (some (s.nextSample c)) set rep freewheel program
  ({ s1 with regs := s.regs } : State).modCh c (fun x => { x with nextLen := some len })

/-- Settings accepted once the next frame is processed take effect at its boundary all the same (R67): while its EDGE messages have yet to leave, it is processed again under them. -/
def State.reprocess (s : State) (c : Channel) : State :=
  match s.mod[c].next with
  | some n =>
    if s.ch[c].running && s.settingsDue c && !s.ch[c].cutoffDone then
      let len := s.predictLen c
      let s1 := s.modCh c (fun x => { x with nextLen := some len })
      s1.processNext c n.set (n.flags.testBit 1)
        (match s.prot[c].state with
          | .freewheel => true
          | _ => false) n.program
    else s
  | none => s

/-- A published reference set as it arrives at LINK. -/
def State.arriving (s : State) (v : Vector Word 4) : RefSet := ⟨v[0], v[1], v[2], v[3], s.now⟩

/-- The modulator takes its reference from LINK itself, not from the sets (R417, R431). -/
def State.ownReference (s : State) (c : Channel) : Bool :=
  match s.prot[c].state with
  | .zeroVector | .freewheel | .discharge => true
  | _ => false

/-- REFERENCE_SET (R37, R39, R351): the set published for the channel's next frame arrives over DL_08 before the cut-off and is processed. -/
def execReferenceSet (ch : Channel) (s : State) : Out :=
  let x := s.ch[ch]
  match x.published with
  | none => .next s
  | some p => match p.values with
    | none => .next s
    | some v =>
      if x.cutoffDone ∨ p.frame ≠ (x.frame + 1) % 2 ^ 32 ∨ ¬ x.running ∨ ¬ s.linkUp .ctrlA .link then .next s
      else
        let s1 := (s.modCh ch (fun y => { y with published := none })).modMod ch (fun m => { m with arrived := s.now })
        if s.ownReference ch then .next s1
        else .next (s1.processNext ch (some (s.arriving v)) false false (some (p.slot, p.frame)))

/-- One step of LINK's discharge regulator (R431): the set of the frame, none while the current is not valid. -/
def State.dischargeSet (s : State) (c : Channel) (d : Discharge) : Option RefSet × Discharge :=
  let p := fun i => s.sig (chBase c + 0x200 + i)
  let udc := s.sig (chBase c + 0x23)
  if !bitAt (s.sig (chBase c + 0x27)) 7 then (none, d)
  else
    let th := thetaE (s.sig (chBase c + 0x41)) (s.sig (chBase c + 0x40)) (p 0).toNat (p 1).toNat (p 2)
    let (al, be, _) := clarke (s.sig (chBase c + 0x20)) (s.sig (chBase c + 0x21)) (s.sig (chBase c + 0x22))
    let (id, iq) := park al be th
    let iDis := (ParRange.f f32One 0x447A0000).clamp (s.reg (Reg.dischI c.val))
    let ed := fMinus (fNegate iDis) id
    let eq := fMinus 0 iq
    let vl := fTimes (p 21) udc
    let tf := tickSecs s.ch[c].frameLen
    let xd := fLimit (fPlus d.xd (fTimes (fTimes tf (p 13)) ed)) (fNegate vl) vl
    let xq := fLimit (fPlus d.xq (fTimes (fTimes tf (p 15)) eq)) (fNegate vl) vl
    let v := limitVec (qc vl) (qc (fPlus (fTimes (p 12) ed) xd)) (qc (fPlus (fTimes (p 14) eq) xq))
    let (va, vb) := ipark v.2.1.val v.2.2.1.val th
    (some ⟨va, vb, udc, f32One, s.now⟩, { d with xd := xd, xq := xq })

/-- The frame's work where LINK makes its own reference (R417, R431). -/
def State.ownFrame (s : State) (c : Channel) : State :=
  match s.prot[c].state with
  | .zeroVector => s.processNext c (some ⟨0, 0, s.prot[c].udc, f32One, s.mod[c].arrived⟩) false false none
  | .freewheel => s.processNext c none false true none
  | _ => match s.prot[c].discharge with
    | some d =>
      if d.winding then
        let (set, d1) := s.dischargeSet c d
        (s.modProt c (fun p => { p with discharge := some d1 })).processNext c set false false none
      else s.processNext c none false true none
    | none => s.processNext c none false true none

/-- The sample-path program of a channel. -/
def State.samplePathOf (s : State) (c : Channel) : Option SlotCode :=
  (idxs 128).find? (fun k => (s.slotOf .a k).state == .active && (s.slotOf .a k).samplePath && (s.slotOf .a k).channel == c)

/-- The channel that stands behind a channel's reference set: CH_n for set 2 of a pair driven by DS-D3-IN (R326). -/
def State.setOwner (s : State) (c : Channel) : Option SlotCode :=
  match s.samplePathOf c with
  | some k => some k
  | none => (idxs 128).find? (fun k => (s.slotOf .a k).state == .active && (s.slotOf .a k).ds == 3 && pairMate (s.slotOf .a k).channel == c)

/-- CUT_OFF_INSTANT (R38, R229, R365, R387, R725): a set that has not arrived is late; the unfinished sample-path run is aborted or never takes place, a late set is a miss; the modulator repeats the set it last applied, or commands every die off. The frame's EDGE messages leave (DESIGN CHOICE, assumption 92: R387 gives them the time from 1.4 µs to 0.6 µs before the half). -/
def execCutOffInstant (ch : Channel) (s : State) : Out :=
  let x := s.ch[ch]
  if ¬ x.running ∨ x.cutoffDone ∨ ¬ s.nextCutOff ch ≤ s.now then .next s
  else
    let k := (x.frame + 1) % 2 ^ 32
    let s1 := s.modCh ch (fun y => { y with cutoffDone := true })
    let s2 := match s.samplePathOf ch with
      | none => s1
      | some slot =>
        if ¬ (s.slotOf .a slot).runsIn k then s1
        else match x.published with
        | some p => if p.frame = k then s1.miss p.slot ch k 1 0 else s1
        | none =>
          if (s.slotOf .a slot).isDone k then s1
          else match (s.die .a).engineOf slot with
          | some (e, r) => if r.frame = k then s1.abortRun e r (some 1) else s1
          | none => ((s1.notRun .a slot k (s.nextSample ch)).verdict slot k 7).miss slot ch k 2 0
    let s3 := s2.modCh ch (fun y => { y with published := none })
    -- a frame without a delivery discards an open phase-loss window (R416)
    let s4 := if x.measValid.isNone then s3.modProt ch (fun p => { p with window := none }) else s3
    let s5 := if s.ownReference ch then s4.ownFrame ch
      else if s.mod[ch].next.isSome then s4
      else s4.processNext ch s.mod[ch].applied (s.mod[ch].applied.isSome) false none
    .next (s5.sendEdges ch)

/-- MOD_STATUS_n. -/
def State.modStatus (s : State) (c : Channel) : Word := packFields [(16, s.mod[c].interlocks), (0, s.mod[c].flags % 128)]

/-- R369: the legs that do not fit the channel's shortest half, with their T_min in ticks. -/
def State.modErrors (s : State) (c : Channel) : List (Nat × Nat) :=
  let half := if s.doubleUpdate c then s.nMin c else s.nMin c / 2
  ((List.range 3).filter (fun l => decide (half * 32 < 2 * s.tMin32 c l))).map (fun l => (l, s.tMin32 c l / 32))

end Sys2Proof.Machine
end

