-- ==== Sys2Proof/Machine/PlanDecision.lean ====
section
/-! DEFINITION. The planner's decision on the oldest pending change (06_planning_and_ageing.md, R223, R224), and the flits by which device firmware sends accepted settings (13_lockstep.md, R450). -/

namespace Sys2Proof.Machine

/-- The set-up words of accepted settings of a channel, by register, as the firmware sends them toward LINK and SENSE. -/
def ChanSettings.words (g : ChanSettings) (c : Channel) : Kv Word :=
  let one := fun (off : Nat) (w : Option Word) => w.toList.map (fun v => (off, v))
  one (Reg.chCarrier c.val) g.carrier ++ one (Reg.chSync c.val) g.sync ++ one (Reg.chDither c.val) g.dither ++
    [Reg.modCfg c.val, Reg.modDt c.val 0, Reg.modDt c.val 1, Reg.modDt c.val 2, Reg.modIband c.val].zip g.modulator

/-- Another SAMPLE_PATH program would be ACTIVE on the new one's channel (R137): judged again at the decision, since a swap that was to remove it may have been refused. -/
def State.samplePathTaken (s : State) (old : Option SlotCode) (n : SlotCode) : Bool :=
  let x := s.slotOf .a n
  x.samplePath && (s.swapSet old none 0).any (fun p => p.slot.samplePath && p.slot.channel == x.channel)

/-- The programs in two slots bring entries alike, held or as pending claims. -/
def State.shareEntry (s : State) (m n : SlotCode) : Bool :=
  (s.die .a).dir.any (fun e => e.owner == 0x100 + m.val && (s.die .a).dir.any (fun f => f.owner == 0x100 + n.val && f.identical e))

/-- The swap would take an entry from an ACTIVE program other than the named old slot (R99, R131): judged again at the decision, since a program that was LOADED when the descriptor was taken may be ACTIVE by now, or will be once an accepted swap takes effect. -/
def State.claimTaken (s : State) (old : Option SlotCode) (n : SlotCode) : Bool :=
  s.claimBlocked old n || s.planner.swaps.any (fun w => !w.done && w.new.elim false (fun m => m != n && some m != old && s.shareEntry m n))

/-- The decision on a swap (R223, R224). -/
def State.decideSwap (s : State) (old new : Option SlotCode) (ring index : Nat) : State :=
  let v := s.asAccepted
  match new with
  | none =>
    let set := v.swapSet old none 0
    if v.proved set v.guard then s.acceptSwap old none ring index none
    else (s.decideStep v set none old).getD (s.refuseSwap old none ring index)
  | some n =>
    if s.samplePathTaken old n || s.claimTaken old n then s.dropChange.complete ring index 1 1 0
    else match v.engineFor old n with
      | some e => s.acceptSwap old (some n) ring index (some e)
      | none => (s.decideStep v (v.swapSet old (some n) (v.tryEngine old n)) (some n) old).getD (s.refuseSwap old (some n) ring index)

/-- The decision on channel settings (R223, R224). Accepted ones send the words of their set-up registers. -/
def State.decideMode (s : State) (mask : BitVec 8) (g : ChanSettings) : State :=
  let t := (maskChans mask).foldl (fun s c => (s.modCh c (fun x => { x with settings := some g })).withSettings c) s.asAccepted
  if t.proved t.acceptedSet t.guard then
    ((maskChans mask).foldl (fun s c => ((s.modCh c (fun x => { x with settings := some { g with accepted := true } })).clearRefused c).reprocess c)
      (s.dropChange.raiseAll (t.eolEvents t.acceptedSet))).pseudoRun ((maskChans mask).flatMap (fun c => g.words c))
  else (s.decideStep t t.acceptedSet none none).getD
    (((maskChans mask).foldl (fun s c => s.raise 0x1046 c.val 10 [2]) s.dropChange).complete g.desc.1 g.desc.2 1 2 0)

/-- PLAN_DECISION (R223, R224): once no re-plan is under way, the oldest pending change is accepted when the resulting set is proved; a step that may still prove it is taken first, and the decision waits for the readings after it; otherwise it is refused. -/
def execPlanDecision (s : State) : Out :=
  if ¬ s.planSettled then .next s
  else match s.planner.pending with
  | [] => .next s
  | .swap old new ring index :: _ => .next (s.decideSwap old new ring index)
  | .mode mask g :: _ =>
    -- earlier settings have yet to take effect (R67), or the EDGE messages of a frame that has yet to start have left (assumption 92)
    if (maskChans mask).any (fun c => s.ch[c].settings.isSome || (s.ch[c].running && s.ch[c].cutoffDone)) then .next s
    else .next (s.decideMode mask g)

end Sys2Proof.Machine
end

