-- ==== Sys2Proof/Machine/Crypto.lean ====
section
/-! DEFINITION. The published algorithms the spec names: SHA-256, HMAC, PBKDF2 (14_functional_safety.md, R501) and the check of an ECDSA P-256 signature (20_store_update_identity.md, R654, R664). -/

namespace Sys2Proof.Machine

/-! ## SHA-256 -/

/-- The largest number whose `k`th power is at most x, found from its highest bit down: `n` bits are still open below `r`. -/
def rootBits (k x : Nat) : Nat → Nat → Nat
  | 0, r => r
  | n + 1, r => rootBits k x n (if (r + 2 ^ n) ^ k ≤ x then r + 2 ^ n else r)

/-- The first 32 bits of the fractional part of the `k`th root of p; the root itself is below 2^5. -/
def rootFraction (k p : Nat) : Word := BitVec.ofNat 32 (rootBits k (p * 2 ^ (32 * k)) 37 0)

/-- The 64 primes below 312. -/
def smallPrimes : List Nat := (List.range 312).filter (fun n => decide (1 < n) && [2, 3, 5, 7, 11, 13, 17].all (fun d => n == d || n % d != 0))

/-- The round constants of SHA-256: from the cube roots of the first 64 primes. -/
def shaK : List Word := smallPrimes.map (rootFraction 3)

/-- The initial hash value: from the square roots of the first eight primes. -/
def shaH0 : List Word := (smallPrimes.take 8).map (rootFraction 2)

/-- Big-endian bytes of a number. -/
def beBytes (n v : Nat) : List Byte := (leBytes n v).reverse
/-- A number of big-endian bytes. -/
def beNat (bs : List Byte) : Nat := bs.foldl (fun a b => 256 * a + b.toNat) 0

/-- The message schedule, latest word first, from the 16 words of a block (latest first). -/
def shaSchedule (w : List Word) : Nat → List Word
  | 0 => w
  | n + 1 =>
    let at_ := fun (i : Nat) => w.getD i (0 : Word)
    let x := at_ 14
    let y := at_ 1
    let s0 := x.rotateRight 7 ^^^ x.rotateRight 18 ^^^ (x >>> 3)
    let s1 := y.rotateRight 17 ^^^ y.rotateRight 19 ^^^ (y >>> 10)
    shaSchedule ((at_ 15 + s0 + at_ 6 + s1) :: w) n

/-- One round on the working variables a to h. -/
def shaRound (v : List Word) (k w : Word) : List Word :=
  let g := fun (i : Nat) => v.getD i (0 : Word)
  let e := g 4
  let a := g 0
  let s1 := e.rotateRight 6 ^^^ e.rotateRight 11 ^^^ e.rotateRight 25
  let ch := (e &&& g 5) ^^^ (~~~e &&& g 6)
  let t1 := g 7 + s1 + ch + k + w
  let s0 := a.rotateRight 2 ^^^ a.rotateRight 13 ^^^ a.rotateRight 22
  let maj := (a &&& g 1) ^^^ (a &&& g 2) ^^^ (g 1 &&& g 2)
  [t1 + (s0 + maj), a, g 1, g 2, g 3 + t1, e, g 5, g 6]

/-- Big-endian words of a byte string. -/
def beWords (bs : List Byte) (n : Nat) : List Word := (List.range n).map (fun i => BitVec.ofNat 32 (beNat ((bs.drop (4 * i)).take 4)))

/-- One block of 64 bytes. -/
def shaBlock (h : List Word) (block : List Byte) : List Word :=
  let ws := (shaSchedule (beWords block 16).reverse 48).reverse
  let v := (shaK.zip ws).foldl (fun v kw => shaRound v kw.1 kw.2) h
  (h.zip v).map (fun p => p.1 + p.2)

/-- Blocks of a padded message. -/
def shaBlocks (h : List Word) (bs : List Byte) : Nat → List Word
  | 0 => h
  | n + 1 => shaBlocks (shaBlock h (bs.take 64)) (bs.drop 64) n

/-- SHA-256 of a byte string. -/
def sha256 (bs : List Byte) : List Byte :=
  let n := bs.length
  let padded := bs ++ [(0x80 : Byte)] ++ List.replicate ((119 - n % 64) % 64) (0 : Byte) ++ beBytes 8 (8 * n)
  (shaBlocks shaH0 padded (padded.length / 64)).flatMap (fun w => beBytes 4 w.toNat)

/-- HMAC-SHA256. -/
def hmacSha256 (key msg : List Byte) : List Byte :=
  let k0 := if 64 < key.length then sha256 key else key
  let k := k0 ++ List.replicate (64 - k0.length) (0 : Byte)
  sha256 (k.map (fun b => b ^^^ 0x5C) ++ sha256 (k.map (fun b => b ^^^ 0x36) ++ msg))

/-- The iterations of PBKDF2 after the first: their exclusive or. -/
def pbkdf2Loop (key u acc : List Byte) : Nat → List Byte
  | 0 => acc
  | n + 1 =>
    let v := hmacSha256 key u
    pbkdf2Loop key v ((acc.zip v).map (fun p => p.1 ^^^ p.2)) n

/-- PBKDF2-HMAC-SHA256 with 4,096 iterations and 32 bytes of output (R501). -/
def pbkdf2 (password salt : List Byte) : List Byte :=
  let u := hmacSha256 password (salt ++ [0, 0, 0, 1])
  pbkdf2Loop password u u 4095

/-! ## ECDSA P-256 -/

/-- The prime of the field. -/
def p256P : Nat := 0xFFFFFFFF00000001000000000000000000000000FFFFFFFFFFFFFFFFFFFFFFFF
/-- The order of the base point. -/
def p256N : Nat := 0xFFFFFFFF00000000FFFFFFFFFFFFFFFFBCE6FAADA7179E84F3B9CAC2FC632551
/-- The constant b of the curve. -/
def p256B : Nat := 0x5AC635D8AA3A93E7B3EBBD55769886BC651D06B0CC53B0F63BCE3C3E27D2604B
/-- The base point. -/
def p256G : Nat × Nat :=
  (0x6B17D1F2E12C4247F8BCE6E563A440F277037D812DEB33A0F4A13945D898C296,
   0x4FE342E2FE1A7F9B8EE7EB4A7C0F9E162BCE33576B315ECECBB6406837BF51F5)

/-- b^e mod m, over the lowest bits of e. -/
def powMod (m : Nat) : Nat → Nat → Nat → Nat → Nat
  | 0, _, _, acc => acc
  | n + 1, b, e, acc => powMod m n (b * b % m) (e / 2) (if e % 2 = 1 then acc * b % m else acc)

/-- Inverse modulo a prime. -/
def invMod (m a : Nat) : Nat := powMod m 256 (a % m) (m - 2) 1

/-- Difference modulo the field prime. -/
def fpSub (a b : Nat) : Nat := (a + p256P - b % p256P) % p256P

/-- A point of the curve; none is the point at infinity. -/
abbrev EcPoint := Option (Nat × Nat)

/-- Addition of points. -/
def ecAdd : EcPoint → EcPoint → EcPoint
  | none, q => q
  | p, none => p
  | some (x1, y1), some (x2, y2) =>
    if x1 = x2 ∧ (y1 + y2) % p256P = 0 then none
    else
      let l := if x1 = x2 then (3 * x1 * x1 + p256P - 3) * invMod p256P (2 * y1) % p256P else fpSub y2 y1 * invMod p256P (fpSub x2 x1) % p256P
      let x3 := fpSub (l * l) (x1 + x2)
      some (x3, fpSub (l * fpSub x1 x3) y1)

/-- A multiple of a point, over the lowest bits of the factor. -/
def ecMul : Nat → Nat → EcPoint → EcPoint → EcPoint
  | 0, _, _, acc => acc
  | n + 1, k, p, acc => ecMul n (k / 2) (ecAdd p p) (if k % 2 = 1 then ecAdd acc p else acc)

/-- ECDSA P-256: the signature r, s (64 bytes) over SHA-256 of a message verifies with the key X, Y (64 bytes). -/
def ecdsaVerify (key msg sig : List Byte) : Bool :=
  let x := beNat (key.take 32)
  let y := beNat ((key.drop 32).take 32)
  let r := beNat (sig.take 32)
  let t := beNat ((sig.drop 32).take 32)
  let onCurve := decide (x < p256P ∧ y < p256P) && (y * y % p256P == (x * x * x + (p256P - 3) * x + p256B) % p256P)
  if key.length = 64 ∧ sig.length = 64 ∧ onCurve = true ∧ 0 < r ∧ r < p256N ∧ 0 < t ∧ t < p256N then
    let w := invMod p256N t
    let u1 := beNat (sha256 msg) * w % p256N
    let u2 := r * w % p256N
    match ecAdd (ecMul 256 u1 (some p256G) none) (ecMul 256 u2 (some (x, y)) none) with
    | none => false
    | some (vx, _) => vx % p256N == r
  else false

end Sys2Proof.Machine
end

