-- ==== Sys2Proof/Machine/StoreBase.lean ====
section
/-! DEFINITION. STORE (20_store_update_identity.md, R638 to R651): banks, which one is in force, the content of the device's own kinds, and starting a write. -/

namespace Sys2Proof.Machine

/-- The lifecycle code (R652). -/
def State.lifecycle (s : State) : Nat :=
  if s.store.lc1 then 4 else if s.store.lc0 then s.store.ident.phase + 1 else 0

/-- Powered seconds since manufacture (R237). -/
def State.poweredS (s : State) : Nat := s.store.life.poweredS + s.now / sTicks

/-- The device is to write a kind again (R644). -/
def State.queueKind (s : State) (k : Nat) : State :=
  if s.store.queue.contains k then s else { s with store := { s.store with queue := s.store.queue ++ [k] } }

/-- Updates STORE. -/
def State.modStore (s : State) (f : Store → Store) : State := { s with store := f s.store }

/-- Bank size of a kind in bytes (R638). -/
def bankSize (k : Nat) : Nat :=
  match k with
  | 7 => 4194304
  | 1 => 1048576
  | 2 => 1572864
  | 3 => 524288
  | 6 => 524288
  | 4 => 262144
  | 5 => 262144
  | _ => 0

/-- Place of bank b of kind k. -/
def bankIx (k : Nat) (b : Fin 2) : Fin 14 := finOf 13 (2 * (k - 1) + b.val)

/-- A bank. -/
def State.bank (s : State) (k : Nat) (b : Fin 2) : Bank := s.store.banks[bankIx k b]

/-- Updates a bank. -/
def State.modBank (s : State) (k : Nat) (b : Fin 2) (f : Bank → Bank) : State :=
  s.modStore (fun x => { x with banks := vUpd x.banks (bankIx k b) f })

/-- MAGIC of a bank. -/
def bankMagic : Nat := 0x4B4E4142

/-- The header of R640 but for its CRC. -/
def bankHead (k seq len : Nat) : List Byte := leBytes 4 bankMagic ++ leBytes 1 k ++ [1, 0, 0] ++ leBytes 4 seq ++ leBytes 4 len

/-- The 32-byte header of R640. -/
def bankHeader (k seq : Nat) (content : List Byte) : List Byte :=
  let h := bankHead k seq content.length
  h ++ leBytes 4 (crc32c (h ++ content)) ++ List.replicate 12 0

/-- SEQ of a bank. -/
def Bank.seq (b : Bank) : Nat := if b.factory then 1 else fieldLe b.header 8 4

/-- The bytes of a bank. -/
def Bank.bytes (b : Bank) (k : Nat) : List Byte := (if b.factory then bankHeader k 1 b.content else b.header) ++ b.content

/-- Is the bank valid (R641, R650)? -/
def Bank.valid (b : Bank) (k : Nat) : Bool :=
  b.factory ||
    (fieldLe b.header 0 4 == bankMagic && fieldLe b.header 4 1 == k && fieldLe b.header 5 1 == 1 && b.seq != 0
      && fieldLe b.header 12 4 == b.content.length && decide (b.content.length ≤ bankSize k - 32)
      && fieldLe b.header 16 4 == crc32c (b.header.take 16 ++ b.content)
      && (k != 4 || fieldLe b.content 0 8 == Config.deviceId.toNat))

/-- The bank in force of a kind (R641). -/
def State.inForce (s : State) (k : Nat) : Option (Fin 2) :=
  let a := s.bank k 0
  let b := s.bank k 1
  match a.valid k, b.valid k with
  | true, true =>
    let d := (a.seq + 2 ^ 32 - b.seq % 2 ^ 32) % 2 ^ 32
    if 1 ≤ d ∧ d < 2 ^ 31 then some 0 else some 1
  | true, false => some 0
  | false, true => some 1
  | false, false => none

/-- SEQ of the next write (R642). -/
def State.nextSeq (s : State) (k : Nat) : Nat :=
  match s.inForce k with
  | none => 1
  | some b => let n := ((s.bank k b).seq + 1) % 2 ^ 32
    if n = 0 then 1 else n

/-! ## Firmware images (R664, R665) -/

/-- Bit of the part in PARTS. -/
def State.partBit (s : State) : Nat := match s.part with
  | .nb7808 => 0
  | .nb7806 => 1

/-- Reasons 7 to 9 of R665 for an image; none where it verifies. -/
def State.imageBad (s : State) (im : List Byte) : Option Nat :=
  let f := fun (o n : Nat) => fieldLe im o n
  let len := f 16 4
  if f 0 4 ≠ 0x5746424E ∨ f 4 2 ≠ 1 ∨ len ≠ im.length ∨ 4194304 - 32 < len ∨ len < 128 ∨ 1048576 < f 24 4 ∨ len < f 20 4 + f 24 4 ∨
      ¬ ecdsaVerify Config.vendorKey (im.take 64 ++ im.drop 128) ((im.drop 64).take 64) then some 7
  else if ¬ (f 6 2).testBit s.partBit then some 8
  else if f 12 1 < s.store.arbFuses then some 9
  else none

/-- The Tahr section of an image (R664). -/
def tahrSection (im : List Byte) : List Byte := (im.drop (fieldLe im 20 4)).take (fieldLe im 24 4)

/-- A slot holds a valid bank whose image verifies, with its Tahr section in flash (R665 reasons 7 to 9, R667); slot 0 of manufacture does. -/
def State.slotGood (s : State) (b : Fin 2) : Bool :=
  let x := s.bank 7 b
  x.valid 7 && (x.factory || ((s.imageBad x.content).isNone && s.store.tahrFlash[b] == tahrSection x.content))

/-- The slot that is running, for kind 7. -/
def State.runningSlot (s : State) : Fin 2 := finOf 1 s.store.running

/-- The target of a write (R642, R668). -/
def State.target (s : State) (k : Nat) : Fin 2 :=
  if k = 7 then
    (if s.store.recovery then (if s.slotGood 0 && !s.slotGood 1 then 1 else 0) else 1 - s.runningSlot)
  else match s.inForce k with
    | none => 0
    | some b => 1 - b

/-! ## Records -/

/-- Payload of an event record in 16 bytes (R565). -/
def payloadBytes (ws : List Word) : List Byte :=
  let bs := if 4 < ws.length then ws.flatMap (fun w => leBytes 2 w.toNat) else ws.flatMap (fun w => leBytes 4 w.toNat)
  (bs ++ List.replicate 16 0).take 16

/-- The 32-byte event record of R564; `phase` in bit 7 of SEV. -/
def eventRecord (e : Event) (eseq : Nat) (phase : Bool) : List Byte :=
  leBytes 8 e.time ++ leBytes 2 e.code ++ leBytes 2 e.source ++ leBytes 1 (e.sev % 16 + 128 * b2n phase) ++ leBytes 3 eseq ++ payloadBytes e.payload

/-- A byte string cut or filled with zeros to a length. -/
def fitBytes (n : Nat) (bs : List Byte) : List Byte := (bs ++ List.replicate (n - bs.length) 0).take n

/-- Entries of a ring of records as bytes: places that hold none read zero. -/
def slotsBytes (m : Kv (List Byte)) (size n : Nat) : List Byte := (List.range n).flatMap (fun i => fitBytes size (kvGet [] m i))

/-- The BOOT section (R664). -/
def BootRec.bytes (b : BootRec) : List Byte :=
  fitBytes 64 (leBytes 1 b.active ++ leBytes 1 b.trial ++ leBytes 1 b.trialBoots ++ leBytes 1 b.lastRejected ++ leBytes 4 b.trialFirstS ++ leBytes 4 b.fallbacks)

/-- The retirement record (R409). -/
def RetireRec.bytes (r : RetireRec) : List Byte :=
  r.masks.toList.flatMap (fun m => leBytes 2 m.toNat) ++ leBytes 4 r.count ++ slotsBytes r.log 16 64

/-- Content of kind 3 (R649). -/
def State.lifeContent (s : State) : List Byte :=
  let r := s.store.life
  let map := r.repair.filter (fun w => !r.unsaved.contains w)
  fitBytes 64 (leBytes 4 s.poweredS ++ leBytes 4 r.coldStarts) ++ r.boot.bytes ++
  fitBytes 128 (leBytes 8 r.shedTime ++ leBytes 4 (b2n r.shedValid)) ++
  fitBytes 0x700 r.retire.bytes ++
  fitBytes 0x8000 (leBytes 4 map.length ++ leBytes 4 0 ++ map.flatMap (fun w => leBytes 8 w.toNat)) ++
  (leBytes 4 r.ageCount ++ leBytes 4 0 ++ slotsBytes r.ageing 32 4096)

/-- Content of kind 4 (R650). -/
def State.identContent (s : State) : List Byte :=
  let r := s.store.ident
  leBytes 8 Config.deviceId.toNat ++ leBytes 1 r.phase ++ leBytes 1 (b2n r.bound) ++ leBytes 1 (b2n r.ownerLock) ++ [0] ++ leBytes 4 r.bindCount ++
  fitBytes 32 r.ownerHash ++ r.satIds.toList.flatMap (fun i => leBytes 8 i.toNat)

/-- Content of kind 5 (R651). -/
def State.evlogContent (s : State) : List Byte :=
  let r := s.store.evlog
  leBytes 4 r.count ++ leBytes 4 r.dropped ++ List.replicate 24 0 ++ slotsBytes r.entries 32 8190

/-- What kind 6 holds of Tahr (R503, R504). -/
def State.safetyRec (s : State) : SafetyRec :=
  ⟨s.tahr.image, s.tahr.pendingImage, s.tahr.serial, s.tahr.password, s.tahr.log, s.tahr.logCount⟩

/-- What the device writes to a kind of its own. The layout of kind 6 is in no rule, and no request reads it (R639): its content stands in `Store.safety`. -/
def State.kindContent (s : State) (k : Nat) : List Byte :=
  match k with
  | 3 => s.lifeContent
  | 4 => s.identContent
  | 5 => s.evlogContent
  | _ => []

/-! ## Writing -/

/-- The links a write needs (R28): SAFE's for what SAFE writes, CTRL-A's for the rest. -/
def BankWrite.links (w : BankWrite) : List (Fin 27) := if w.kind = 4 ∨ w.kind = 6 then [23, 24] else [19, 20]

/-- A link that a write needs has failed (R29). -/
def State.writeCut (s : State) (w : BankWrite) : Bool := w.links.any (fun l => s.links[l].failed)

/-- Steps 1 and 2 of R642: the target is chosen and is no longer valid. A write whose link has failed does not reach STORE; it ends with an error (R29). -/
def State.beginWrite (s : State) (w : BankWrite) : State :=
  let b := s.target w.kind
  if s.writeCut w then s.modStore (fun x => { x with write := some { w with bank := b } })
  else
    let s1 := s.modBank w.kind b (fun x => { header := List.replicate 4 0 ++ x.header.drop 4, content := [], factory := false })
    let s2 := if w.kind = 6 then s1.modStore (fun x => { x with safety := vUpd x.safety b (fun _ => some s.safetyRec) }) else s1
    s2.modStore (fun x => { x with write := some { w with bank := b } })

/-- The writer of a kind: 0 CTRL-A, 1 CTRL-B, 2 SAFE (R28). What CTRL-B adds to kind 3 goes in CTRL-A's write of it (assumption 49). -/
def writerOf (k : Nat) : Nat := if k = 4 ∨ k = 6 then 2 else 0

/-- The kinds the device has still to write: in RETIRED only the event log (R657). -/
def State.kindsDue (s : State) : List Nat := s.store.queue.filter (fun k => s.lifecycle != 4 || k == 5)

/-- The write that STORE grants next: the writer after the last one in round-robin order, among its writes those of requests first (R644). -/
def State.granted (s : State) : Option BankWrite :=
  let jobs := s.store.waiting ++ s.kindsDue.map (fun k => (⟨k, 0, s.kindContent k, .device⟩ : BankWrite))
  ([1, 2, 3].map (fun i => (s.store.lastWriter + i) % 3)).findSome? (fun w => jobs.find? (fun j => writerOf j.kind == w))

/-- The next write starts, once none runs (R644, R657). -/
def State.nextWrite (s : State) : State :=
  if s.store.write.isSome ∨ s.wires.dieFault[Die.store.ix] = true then s
  else match s.granted with
    | none => s.modStore (fun x => { x with queue := s.kindsDue })
    | some w => (s.modStore (fun x => { x with
        lastWriter := writerOf w.kind
        waiting := if w.by_ = .device then x.waiting else x.waiting.erase w
        queue := if w.by_ = .device then s.kindsDue.erase w.kind else s.kindsDue })).beginWrite w

/-- A request's write is asked for. -/
def State.askWrite (s : State) (w : BankWrite) : State := (s.modStore (fun x => { x with waiting := x.waiting ++ [w] })).nextWrite

/-- The device is to write one of its kinds, now or after the running write (R644). -/
def State.writeKind (s : State) (k : Nat) : State := (s.queueKind k).nextWrite

/-- Is a kind being written, or does a request's write of it wait? -/
def State.kindBusy (s : State) (k : Nat) : Bool :=
  (match s.store.write with
   | some w => w.kind == k && w.by_ != .device
   | none => false) || s.store.waiting.any (fun w => w.kind == k) || (k != 0 && (s.store.svc.session.any (fun x => x.writing.any (fun w => w.1 == k))))

/-- Steps 3 to 5 of R642: the target holds the content and comes into force. -/
def State.putBank (s : State) (w : BankWrite) : State :=
  let seq := s.nextSeq w.kind
  let s1 := s.modBank w.kind w.bank (fun _ => { header := bankHeader w.kind seq w.content, content := w.content, factory := false })
  s1.raise 0xA102 8 1 [w32 w.kind, w32 seq]

/-- A running write is cut off: its target stays invalid (R643). -/
def State.abortWrite (s : State) : State := s.modStore (fun x => { x with write := none })

end Sys2Proof.Machine
end

