-- ==== Sys2Proof/Machine/Tolpel.lean ====
section
/-! DEFINITION. The gate satellites and the receivers of the Tolpel ports (11_gate_arrays.md, R374 to R396, R401; 12_protection_and_discharge.md, R423). -/

namespace Sys2Proof.Machine

/-- CRC-8 of FAULT and HOLD sets: polynomial 0x07, initial value 0. -/
def crc8Bytes (bs : List Byte) : Nat := crcBits 8 0x07 0 (bs.flatMap (fun b => msbBits 8 b.toNat))

/-- A set's four data characters: three bytes and their CRC-8 (first character in bits 7 to 0). -/
def setData (v : Nat) : List Byte := leBytes 3 v ++ leBytes 1 (crc8Bytes (leBytes 3 v))

/-- Does the CRC-8 of a set pass? -/
def setOk (data : BitVec 32) : Bool :=
  decide (crc8Bytes (leBytes 3 data.toNat) = data.toNat / 2 ^ 24)

/-- Payload lengths by TYPE (R378): a length is right or not. -/
def lengthOk (type len dies : Nat) : Bool :=
  match type with
  | 1 => len == 5 || len == 10 || len == 15 || len == 20
  | 2 => len == 11
  | 3 => len == 5
  | 4 => len == 5
  | 8 => len == 8 + 7 * dies
  | 9 => len == 9
  | 10 => len == 13
  | _ => false

/-- How a receiver judges a message that is to be of a TYPE (R376 to R378). -/
inductive Judged where
  /-- Another message than the command's. -/
  | other
  | discard
  | take (seq : Nat) (payload : List Byte)
  deriving DecidableEq, Repr

/-- Judges a message body: TS, payload, CRC. -/
def judge (type dies : Nat) (down : Bool) (body : List Byte) (valid : Bool) : Judged :=
  let n := body.length
  let head := body.take (n - 2)
  let t := fieldLe body 0 1 / 16
  if !valid || decide (n < 3) || crc16Bytes head != fieldLe body (n - 2) 2 then .discard
  else if t = type then
    if lengthOk type (n - 3) dies then .take (fieldLe body 0 1 % 16) (head.drop 1) else .discard
  else if (if down then decide (1 ≤ t ∧ t ≤ 4) else decide (8 ≤ t ∧ t ≤ 10)) then .other
  else .discard

/-- A gap in SEQ against the number expected (R378). -/
def seqGap (expected : Option Nat) (seq : Nat) : Bool := expected.elim false (fun q => q != seq)

/-! ## LINK's receiver -/

/-- A discard under R378. -/
def State.portDiscard (s : State) (t : Port) : State :=
  let n := holdInc 0xFFFF s.ports[t].errors
  let s1 := s.modPort t (fun p => { p with errors := n })
  if rateOk s.ports[t].lastMsgError s.now sTicks then
    (s1.raise 0x5005 t.val 2 [w32 n]).modPort t (fun p => { p with lastMsgError := some s.now })
  else s1

/-- LINK has taken a message with this SEQ (R378): a gap counts as an error. -/
def State.portHeard (s : State) (t : Port) (seq : Nat) : State :=
  s.modPort t (fun p => { p with
    rxSeq := some ((seq + 1) % 16)
    errors := if seqGap p.rxSeq seq then holdInc 0xFFFF p.errors else p.errors
    lastUp := s.now })

/-- LINK takes a message of a TYPE (R378): a gap in SEQ counts as an error, the message is still taken. -/
def State.onUp (s : State) (t : Port) (type : Nat) (body : List Byte) (valid : Bool) (k : State → List Byte → State) : State :=
  if s.ports[t].state = .down then s
  else match judge type (s.diesOf (portChannel t)) false body valid with
  | .other => s
  | .discard => s.portDiscard t
  | .take seq payload => k (s.portHeard t seq) payload

/-! ## The satellite -/

/-- The satellite's copy at a device time in 1/32 tick: phase, and the part of its slew applied so far (R381, R384). -/
def Satellite.copy32 (x : Satellite) (u : Nat) : Nat :=
  let part := roundAway (x.slew * ((min (u / 32 - x.slewAt) 4096 : Nat) : Int)) 4096
  ((u : Int) + x.skew + part).toNat

/-- The satellite's copy of device time now, in 1/32 tick. -/
def State.sat32 (s : State) (t : Port) : Nat := (s.sats[t]).copy32 (32 * s.now)

/-- The same in ticks. -/
def State.satNow (s : State) (t : Port) : Nat := s.sat32 t / 32

/-- A satellite sends a message upstream (R377). -/
def State.sendUp (s : State) (t : Port) (type : Nat) (payload : List Byte) : State :=
  let ts : Byte := BitVec.ofNat 8 (type * 16 + s.sats[t].txSeq)
  let crc := crc16Bytes (ts :: payload)
  (s.modSat t (fun x => { x with txSeq := (x.txSeq + 1) % 16 })).emit (.tolpel t.val false type (ts :: payload ++ leBytes 2 crc))

/-- A satellite discards and counts (R378). -/
def State.satDiscard (s : State) (t : Port) : State := s.modSat t (fun x => { x with errors := holdInc 0xFFFF x.errors })

/-- A satellite has taken a message with this SEQ (R378, R395). -/
def State.satHeard (s : State) (t : Port) (seq : Nat) : State :=
  s.modSat t (fun x => { x with
    rxSeq := some ((seq + 1) % 16)
    errors := if seqGap x.rxSeq seq then holdInc 0xFFFF x.errors else x.errors
    lastDown := s.now })

/-- A satellite takes a message of a TYPE (R378, R395); one whose payload is not valid is discarded, and its line counts as silent. -/
def State.onDown (s : State) (t : Port) (type : Nat) (body : List Byte) (valid : Bool) (ok : List Byte → Bool) (k : State → List Byte → State) : State :=
  match judge type 0 true body valid with
  | .other => s
  | .discard => s.satDiscard t
  | .take seq payload => if ok payload then k (s.satHeard t seq) payload else s.satDiscard t

/-- Any payload is valid. -/
def anyPayload (_ : List Byte) : Bool := true

/-- A CMD of an operation code (R378). -/
def State.onCmd (s : State) (t : Port) (op : Nat) (body : List Byte) (valid : Bool) (k : State → Nat → State) : State :=
  s.onDown t 4 body valid anyPayload (fun s p => if fieldLe p 0 1 = op then k s (fieldLe p 1 4) else s)

/-- The first time after `copy` whose low `bits` bits equal v (R388). -/
def resolveAfter (bits copy v : Nat) : Nat :=
  let m := 2 ^ bits
  let d := (v + m - (copy + 1) % m) % m
  copy + 1 + d

/-- The time nearest to `copy` whose low `bits` bits equal v (R393). -/
def resolveNear (bits copy v : Nat) : Nat :=
  let a := resolveAfter bits copy v
  if copy + 2 ^ (bits - 1) < a then a - 2 ^ bits else a

/-- The die edges of an armed half (R390): each die of the mask, its time and its step; a die latched or retired takes none. -/
def Satellite.dieEdges (x : Satellite) (h : Half) : List DieEdge :=
  let set := x.trims[h.tset]
  h.entries.flatMap (fun e =>
    (maskDies (e.mask &&& ~~~(x.latched ||| x.retired))).map (fun d =>
      let w := set[d]
      let t0 : Int := (32 * h.base : Nat)
      let c : Int := t0 + (e.offset : Nat)
      match e.kind with
      | 0 => ⟨(max t0 (c + offTrim w)).toNat, d.val, false, offStep w⟩
      | 1 => ⟨(max t0 (c + onTrim w)).toNat, d.val, true, onStep w⟩
      | 2 => ⟨c.toNat, d.val, true, onStep w⟩
      | _ => ⟨c.toNat, d.val, false, offStep w⟩))

/-- A half begins at `base`, the first of its frame where the one before had LAST: the frame's boundary and its turn-offs begin with it (R396, R726). -/
def Satellite.beginHalf (x : Satellite) (base : Nat) : Satellite :=
  if x.afterLast then { x with
    frameBase := base
    halfNo := 0
    turnedOff := 0 }
  else { x with halfNo := x.halfNo + 1 }

/-- An armed half comes into force. -/
def Satellite.startHalf (x : Satellite) (h : Half) : Satellite :=
  let y := x.beginHalf h.base
  { y with
    current := some h
    halfEnd := some (h.base + h.len)
    lastLen := h.len
    tset := h.tset
    missed := 0
    afterLast := false
    edges := y.edges ++ y.dieEdges h }

/-- Enters link loss (R395). `short`: its ASC input is asserted. -/
def Satellite.enterLoss (x : Satellite) (short : Bool) : Satellite :=
  { x.loseDies short with
    loss := true
    armed := []
    current := none
    halfEnd := none
    afterLast := true
    hold := none }

/-- A half is missed from `from_` on (R392, R395). It takes its place in its frame, whose halves are as many as those of the frame before (R396; DEDUCED, assumption 105). -/
def Satellite.miss (x : Satellite) (short : Bool) (from_ : Nat) : Satellite :=
  let z := (x.beginHalf from_).loseDies short
  let y := { z with
    current := none
    halfEnd := some (from_ + x.lastLen)
    missed := x.missed + 1
    afterLast := decide (z.perFrame ≤ z.halfNo + 1) }
  if 3 ≤ y.missed then y.enterLoss short else y

/-- Is the ASC input of a port's satellite asserted? -/
def State.shorted (s : State) (t : Port) : Bool := s.gateWire t == .short

/-- Entries of an EDGE payload. -/
def edgeEntries : List Byte → Nat → List EdgeEntry
  | _, 0 => []
  | bs, n + 1 =>
    let v := fieldLe bs 0 5
    ⟨v / 2 ^ 38, v / 2 ^ 16 % 2 ^ 22, BitVec.ofNat 16 v⟩ :: edgeEntries (bs.drop 5) n

/-- A HOLD set stands and the EDGE message is that of its resync half (R393). -/
def Satellite.resyncHalf (x : Satellite) (base18 : Nat) : Bool :=
  match x.hold with
  | some tb => decide (base18 = tb % 2 ^ 18)
  | none => false

/-- End of the last armed half, or of the half in force; a HOLD set ends both at its t_b (R388, R393). -/
def Satellite.armedUpto (x : Satellite) : Nat :=
  match x.armed.getLast?, x.current, x.hold with
  | some l, _, _ => l.base + l.len
  | none, _, some tb => tb
  | none, some c, none => c.base + c.len
  | none, none, none => 0

/-- Is an EDGE message valid (R388, R393)? In link loss it is ignored, whatever its BASE (R395). -/
def State.edgeValid (s : State) (t : Port) (p : List Byte) : Bool :=
  let x := s.sats[t]
  let h := fieldLe p 0 5
  x.loss || decide (p.length = 5 + 5 * (h / 2 ^ 38)) && (x.resyncHalf (h % 2 ^ 18)
    || decide (x.armedUpto ≤ resolveAfter 18 (s.satNow t) (h % 2 ^ 18) ∧ x.armed.length < 3))

/-- A satellite takes a valid EDGE message (R388, R389, R392, R393, R395); while a stop wire holds it, its edges are overridden (R41). -/
def State.takeEdge (s : State) (t : Port) (p : List Byte) : State :=
  let x := s.sats[t]
  let h := fieldLe p 0 5
  let half (b : Nat) : Half :=
    { base := b, len := h / 2 ^ 18 % 2 ^ 18, tset := if h.testBit 37 then 1 else 0, last := h.testBit 36
      entries := if s.gateWire t = .follow then edgeEntries (p.drop 5) (h / 2 ^ 38) else [] }
  if x.loss then s
  else if x.resyncHalf (h % 2 ^ 18) then
    s.modSat t (fun x => { x with hold := none, afterLast := true }.startHalf (half (x.hold.getD 0)))
  else s.modSat t (fun x => { x with armed := x.armed ++ [half (resolveAfter 18 (s.satNow t) (h % 2 ^ 18))] })

/-- EDGE: a satellite arms a half (R386 to R389, R392, R393). -/
def execEdge (port : Port) (body : List (BitVec 8)) (valid : Bool) (s : State) : Out :=
  .next (s.onDown port 1 body valid (s.edgeValid port) (fun s p => s.takeEdge port p))

/-- A satellite takes a MARK (R384): a step at once, or a slew over the 4,096 ticks that follow the mark; while FREE it loads its copy from TIME. -/
def State.takeMark (s : State) (t : Port) (p : List Byte) : State :=
  let time := fieldLe p 0 8
  let corr := (BitVec.ofNat 16 (fieldLe p 8 2)).toInt
  let step := (fieldLe p 10 1).testBit 0
  s.modSat t (fun x =>
    let x1 := { x with
      skew := x.skew + x.slew
      slew := 0 }
    if step then
      let load : Int := if x.time = 0 then ((32 * time : Nat) : Int) - x.t2 else 0
      { x1 with
        skew := x1.skew + load + corr
        t2 := ((x.t2 : Int) + load + corr).toNat
        time := 1 }
    else
      { x1 with
        slew := corr
        slewAt := time
        time := 2 })

/-- MARK (R382, R384). -/
def execMark (port : Port) (body : List (BitVec 8)) (valid : Bool) (s : State) : Out :=
  .next (s.onDown port 2 body valid anyPayload (fun s p => s.takeMark port p))

/-- TIME_MARK (R382): the first bit of LINK's mark arrives at the satellite, frac/32 tick after the present tick. -/
def execTimeMark (port : Port) (frac : Fin 32) (s : State) : Out :=
  .next (s.modSat port (fun x => { x with t2 := x.copy32 (32 * s.now + frac.val) }))

/-- SATELLITE_TIME_MARK (R382): the satellite's copy, also a FREE one, reaches a multiple of 4,096 ticks plus 2,048: the satellite's mark and its ECHO. -/
def execSatelliteTimeMark (port : Port) (s : State) : Out :=
  let x := s.sats[port]
  let copy := s.satNow port
  let m := (copy + 2048) / 4096
  if 2048 ≤ copy ∧ x.lastMark.elim true (fun l => decide (l < m)) = true then
    let t3 := s.sat32 port
    let s1 := (s.modSat port (fun x => { x with lastMark := some m })).emit (.timeMark port.val false s.now)
    .next (s1.sendUp port 9 (leBytes 4 x.t2 ++ leBytes 4 t3 ++ leBytes 1 (x.time + if x.loss then 128 else 0)))
  else .next s

/-- TRIM (R389): written unless it addresses the set in force. -/
def execTrim (port : Port) (body : List (BitVec 8)) (valid : Bool) (s : State) : Out :=
  .next (s.onDown port 3 body valid anyPayload (fun s p =>
    let b := fieldLe p 0 1
    let set : Fin 2 := if b.testBit 0 then 1 else 0
    if set = s.sats[port].tset then s.satDiscard port
    else s.modSat port (fun x => { x with trims := vUpd x.trims set (fun w => w.set (b / 16 % 16) (w32 (fieldLe p 1 4)) (Nat.mod_lt _ (by decide))) })))

/-- CONFIG (R379): the number of dies and the temperature limit. -/
def execConfig (port : Port) (body : List (BitVec 8)) (valid : Bool) (s : State) : Out :=
  .next (s.onCmd port 1 body valid (fun s a => s.modSat port (fun x => { x with dies := a % 32, otLimit := a / 256 % 256 })))

/-- RETIRE (R405): the dies of the mask latch off. -/
def execRetire (port : Port) (body : List (BitVec 8)) (valid : Bool) (s : State) : Out :=
  .next (s.onCmd port 2 body valid (fun s a =>
    let m := BitVec.ofNat 16 a
    s.modSat port (fun x => { (x.switch (x.on &&& m) false (fun d => offStep (x.word d))) with
      retired := x.retired ||| m
      edges := x.edges.filter (fun e => !m.getLsbD e.die) })))

/-- CLEAR (R403, R409): latched and retired dies of the mask take edge commands again; under an asserted ASC input they turn on (R423). -/
def execClear (port : Port) (body : List (BitVec 8)) (valid : Bool) (s : State) : Out :=
  .next (s.onCmd port 3 body valid (fun s a =>
    let m := BitVec.ofNat 16 a
    s.modSat port (fun x =>
      let y := { x with
        retired := x.retired &&& ~~~m
        latched := x.latched &&& ~~~m
        causes := Vector.ofFn (fun d => if m.getLsbD d.val then 0 else x.causes[d]) }
      if s.shorted port then y.shortOn else y)))

/-- IDENT_REQ (R379): the satellite answers with its IDENT. -/
def execIdentReq (port : Port) (body : List (BitVec 8)) (valid : Bool) (s : State) : Out :=
  .next (s.onCmd port 4 body valid (fun s _ =>
    let x := s.sats[port]
    s.sendUp port 10 (leBytes 8 x.id.toNat ++ leBytes 2 x.model ++ leBytes 2 x.firmware ++ leBytes 1 x.fitted)))

/-- RESUME (R395): the satellite leaves its link loss. -/
def execResume (port : Port) (body : List (BitVec 8)) (valid : Bool) (s : State) : Out :=
  .next (s.onCmd port 5 body valid (fun s _ => s.modSat port (fun x => { x with loss := false, missed := 0 })))

/-- HOLD_SET (R393): armed edges at or after t_b are cancelled, armed halves discarded, every die holds its state. -/
def execHoldSet (port : Port) (data : BitVec 32) (s : State) : Out :=
  if setOk data then
    let copy := s.satNow port
    let tb := resolveNear 18 copy (data.toNat % 2 ^ 18)
    .next (s.modSat port (fun x => { x with
      hold := some tb
      armed := []
      edges := x.edges.filter (fun e => decide (e.at32 < 32 * tb)) }))
  else .next (s.satDiscard port)

/-- HOLD_DEADLINE (R393): no resync EDGE message is armed by t_b + 1.0 µs. -/
def execHoldDeadline (port : Port) (s : State) : Out :=
  match s.sats[port].hold with
  | some tb => if tb + 400 ≤ s.satNow port then .next (s.modSat port (fun x => ({ x with hold := none, afterLast := true } : Satellite).miss (s.shorted port) tb)) else .next s
  | none => .next s

/-- The earliest edge of a die. -/
def firstEdge (es : List DieEdge) (die : Nat) : Option DieEdge :=
  (es.filter (fun e => e.die == die)).foldl (fun b e => match b with
    | none => some e
    | some f => if e.at32 < f.at32 then some e else b) none

/-- DIE_SWITCH (R385, R390, R423): the die's earliest edge that is due; nothing switches while a wire holds the satellite or the die is latched or retired. -/
def execDieSwitch (port : Port) (die : Fin 16) (s : State) : Out :=
  let x := s.sats[port]
  match firstEdge x.edges die.val with
  | none => .next s
  | some e =>
    if e.at32 ≤ s.sat32 port then
      let x1 := { x with edges := x.edges.erase e }
      let m : BitVec 16 := BitVec.ofNat 16 (2 ^ die.val)
      let takes := s.gateWire port == .follow && !x.loss && !(x.latched ||| x.retired).getLsbD die.val
      .next (s.modSat port (fun _ => if takes then x1.switch m e.on (fun _ => e.step) else x1))
    else .next s

/-- What a satellite measures of one die for a TELEM: current 0.1 A, on-state voltage mV, temperature 0.01 °C, supply under voltage while not switching. -/
abbrev DieMeas := BitVec 16 × BitVec 16 × BitVec 16 × Bool

/-- A die's record of a TELEM (R396, R726). -/
def Satellite.record (x : Satellite) (d : Fin 16) (m : DieMeas) : List Byte :=
  let off := x.turnedOff.getLsbD d.val
  let st := x.causes[d] % 8 + 8 * b2n m.2.2.2 + 16 * b2n (!off) + 32 * b2n (x.retired.getLsbD d.val)
  leBytes 2 (if off then m.1.toNat else 0x8000) ++ leBytes 2 (if off then m.2.1.toNat else 0) ++ leBytes 2 m.2.2.1.toNat ++ leBytes 1 st

/-- CRC of a trim set (R396). -/
def trimCrc (w : Vector Word 16) : Nat := crc16Bytes (w.toList.flatMap (fun v => leBytes 4 v.toNat))

/-- A satellite sends the TELEM of the frame that ends (R396). -/
def State.sendTelem (s : State) (t : Port) (meas : List DieMeas) : State :=
  let x := s.sats[t]
  let other : Fin 2 := if x.tset = 0 then 1 else 0
  let recs := ((idxs 16).take x.dies).flatMap (fun d => x.record d (meas.getD d.val (0x8000, 0, 0, false)))
  let s1 := s.sendUp t 8 (leBytes 3 x.frameBase ++ leBytes 1 (x.tset.val + 2 * b2n (x.time == 2) + 4 * b2n x.loss)
    ++ leBytes 2 (trimCrc x.trims[x.tset]) ++ leBytes 2 (trimCrc x.trims[other]) ++ recs)
  s1.modSat t (fun y => { y with turnedOff := 0 })

/-- HALF_END (R392, R395, R396): a half in force or a missed half ends; the next armed half starts, or every die turns off; missed halves follow one another until a half is armed. The measurements of the dies go into the TELEM of a frame that ends. -/
def execHalfEnd (port : Port) (meas : List (BitVec 16 × BitVec 16 × BitVec 16 × Bool)) (s : State) : Out :=
  let x := s.sats[port]
  let copy := s.satNow port
  if x.loss then .next s
  else match x.current with
  | some h =>
    let e := h.base + h.len
    if copy < e then .next s
    else
      let s1 := if h.last then s.sendTelem port meas else s
      .next (s1.modSat port (fun x =>
        let y := { x with current := none, afterLast := h.last, perFrame := if h.last then x.halfNo + 1 else x.perFrame }
        match y.armed, y.hold with
        | _, some _ => y
        | n :: r, none => if n.base = e then ({ y with armed := r } : Satellite).startHalf n else y.miss (s.shorted port) e
        | [], none => y.miss (s.shorted port) e))
  | none =>
    match x.armed with
    | n :: r =>
      if n.base ≤ copy ∧ x.hold = none then .next (s.modSat port (fun x => ({ x with armed := r } : Satellite).startHalf n))
      else .next s
    | [] => .next (match x.halfEnd, x.hold with
        | some e, none => if e ≤ copy ∧ 0 < x.lastLen then s.modSat port (fun x => x.miss (s.shorted port) e) else s
        | _, _ => s)

/-- SATELLITE_LINK_LOSS (R395): 40 µs without a valid downstream message. -/
def execSatelliteLinkLoss (port : Port) (s : State) : Out :=
  if ¬ s.sats[port].loss ∧ s.sats[port].lastDown + 40 * usTicks ≤ s.now then .next (s.modSat port (fun x => x.enterLoss (s.shorted port))) else .next s

/-- A satellite latches a die off and sends a FAULT set (R401). -/
def State.latchDie (s : State) (t : Port) (m : BitVec 16) (cause : Nat) : State :=
  let s1 := s.modSat t (fun x => { (x.switch (x.on &&& m) false (fun d => offStep (x.word d))) with
    latched := x.latched ||| m
    causes := Vector.ofFn (fun d => if m.getLsbD d.val then x.causes[d] ||| cause else x.causes[d])
    repeat_ := x.repeat_ ++ [(s.now + 800, m.toNat, cause)] })
  s1.emit (.tolpelSet t.val false (setData (m.toNat + 65536 * cause)))

/-- DESATURATION (R401): desaturation, or loss of the gate supply, of a die that switches. -/
def execDesaturation (port : Port) (die : Fin 16) (supply : Bool) (s : State) : Out :=
  .next (s.latchDie port (BitVec.ofNat 16 (2 ^ die.val)) (if supply then 2 else 1))

/-- OVERTEMPERATURE_CHECK (R401): at least once every 10 µs, the temperature of every fitted die that is not retired, in 0.01 °C. -/
def execOvertemperatureCheck (port : Port) (temps : List (BitVec 16)) (s : State) : Out :=
  let x := s.sats[port]
  let hot := dieMask ((idxs 16).filter (fun d => decide (d.val < x.dies) && !x.retired.getLsbD d.val && !(x.causes[d]).testBit 2
    && decide ((x.otLimit : Int) * 100 < (temps.getD d.val 0).toInt)))
  .next (if hot = 0 then s else s.latchDie port hot 4)

/-- FAULT_SET_REPEAT (R401): 2 µs after a fault its set goes out once more. -/
def execFaultSetRepeat (port : Port) (s : State) : Out :=
  match s.sats[port].repeat_ with
  | [] => .next s
  | (at_, m, c) :: r =>
    if at_ ≤ s.now then
      .next ((s.modSat port (fun x => { x with repeat_ := r })).emit (.tolpelSet port.val false (setData (m + 65536 * c))))
    else .next s

end Sys2Proof.Machine
end

