-- ==== Sys2Proof/Machine/GateArrays.lean ====
section
/-! DEFINITION. LINK's side of the Tolpel ports and the gate arrays (11_gate_arrays.md, R379 to R384, R394, R396 to R409). -/

namespace Sys2Proof.Machine

/-- GA_CFG_n.EN. -/
def State.gaOn (s : State) (c : Channel) : Bool := bitAt (s.reg (Reg.gaCfg c.val)) 31

/-- The dies of a position in service (R397). -/
def State.inService (s : State) (t : Port) : BitVec 16 :=
  firstDies (s.diesOf (portChannel t)) &&& ~~~(s.gates[t].retired ||| s.gates[t].latched ||| s.gates[t].held)

/-- Number of dies in a mask. -/
def countDies (m : BitVec 16) : Nat := (maskDies m).length

/-- N_RATED and N_FLOOR of a position. -/
def State.nRated (s : State) (t : Port) : Nat := max 1 (min 16 (s.fld (Reg.gaPos (portChannel t).val (portPos t).val) 8 5))
/-- N_FLOOR. -/
def State.nFloor (s : State) (t : Port) : Nat := max 1 (min 16 (s.fld (Reg.gaPos (portChannel t).val (portPos t).val) 0 5))

/-- ga_flags (R397). -/
def State.gaFlags (s : State) (t : Port) : Word :=
  let g := s.gates[t]
  packFields [(0, b2n (decide (countDies (s.inService t) < s.nRated t))), (1, b2n g.belowFloor), (2, b2n g.groupFault), (3, b2n g.balLimit),
    (4, b2n g.linkLoss)]

/-- Base of a position group (R397). -/
def posBase (t : Port) : Nat := chBase (portChannel t) + 0x300 + 0x10 * (portPos t).val
/-- Base of a die's signals (R11). -/
def dieBase (t : Port) (d : Nat) : Nat := 0x9000 + (portChannel t).val * 0xC00 + (portPos t).val * 0x200 + d * 0x20

/-- Commits the position group; E restarts whenever n_active has changed (R397, R399). -/
def State.publishPos (s : State) (t : Port) : State :=
  let m := s.inService t
  let n := countDies m
  let s1 := if n = s.gates[t].nActive then s else s.modGate t (fun g => { g with nActive := n, err := Vector.replicate 16 0 })
  let b := posBase t
  s1.hwCommit 0x0005 s.now
    [(b, m.zeroExtend 32), (b + 1, w32 n), (b + 2, s.gates[t].iPos), (b + 3, s.gates[t].retired.zeroExtend 32), (b + 4, s.gaFlags t)]

/-- A gate cause takes the channel to its safe state (cause 10 of R413). -/
def State.gateCause (s : State) (c : Channel) : State := s.protCause c 10 f32NaN

/-! ## Ports -/

/-- A port starts again in TIME (R379, R384, R394, R408): RETIRE for the dies retired. -/
def State.enterTime (s : State) (t : Port) : State :=
  let s1 := s.modPort t (fun p => { p with
    state := .time
    offsets2 := []
    offset2 := none
    goodMarks := 0
    delayHigh := false
    heardClear := false
    lastUp := s.now
    owed := []
    noTelem := 0 })
  if s.gates[t].retired = 0 then s1 else s1.sendCmd t 2 s.gates[t].retired.toNat

/-- A port goes DOWN. -/
def State.portDown (s : State) (t : Port) : State :=
  s.modPort t (fun p => { p with
    state := .down
    rxSeq := none
    owed := []
    noTelem := 0
    offset2 := none })

/-- A port suffers link loss (R394): to TIME for cause 3, to DOWN for every other. -/
def State.linkLoss (s : State) (t : Port) (cause : Nat) : State :=
  let c := portChannel t
  let s1 := (s.raise 0x5002 t.val 12 [w32 c.val, w32 cause]).modGate t (fun g => { g with linkLoss := true })
  ((if cause = 3 then s1.enterTime t else s1.portDown t).publishPos t).gateCause c

/-- The port goes to READY (R384), and LINK sends RESUME (R395). -/
def State.portReady (s : State) (t : Port) : State :=
  let p := s.ports[t]
  let sum := p.offsets2.foldl (· + ·) 0
  let s1 := (s.modPort t (fun p => { p with state := .ready, owed := [], noTelem := 0 })).raise 0x5001 t.val 2
    [i32 (roundAway p.delay2 2), i32 (roundAway sum (2 * p.offsets2.length))]
  let s2 := s1.sendCmd t 5 0
  if s.gates[t].linkLoss then (s2.modGate t (fun g => { g with linkLoss := false })).publishPos t else s2

/-- CHARACTER_LOCK_LOSS (R379): a port in any state goes to DOWN; the channel of one that was READY goes to its safe state (R380). -/
def execCharacterLockLoss (port : Port) (s : State) : Out :=
  let s1 := s.portDown port
  .next (if s.ports[port].state = .ready then s1.gateCause (portChannel port) else s1)

/-- IDLE_LOCK (R379, R601): 16 consecutive valid idle pairs take a port from DOWN to IDENT. -/
def execIdleLock (port : Port) (s : State) : Out :=
  if s.ports[port].state = .down ∧ s.gaOn (portChannel port) ∧ s.pwr.rung ≤ 1 then
    .next ((s.modPort port (fun p => { p with state := .ident, lastIdentReq := some s.now })).sendCmd port 4 0)
  else .next s

/-- IDENT_REQ_PERIOD (R379): every 100 µs in IDENT. -/
def execIdentReqPeriod (port : Port) (s : State) : Out :=
  if s.ports[port].state = .ident ∧ rateOk s.ports[port].lastIdentReq s.now (100 * usTicks) then
    .next ((s.modPort port (fun p => { p with lastIdentReq := some s.now })).sendCmd port 4 0)
  else .next s

/-- LINK takes an IDENT (R379). -/
def State.takeIdent (s : State) (t : Port) (p : List Byte) : State :=
  let id : BitVec 64 := BitVec.ofNat 64 (fieldLe p 0 8)
  let fitted := fieldLe p 12 1
  let c := portChannel t
  let s1 := s.modPort t (fun x => { x with satId := id, fitted := fitted, identified := true })
  if s.ports[t].state ≠ .ident then s1
  else if fitted < s.diesOf c then s1.raise 0x501A c.val 10 [2, w32 t.val]
  else
    let s2 := s1.sendCmd t 1 (s.diesOf c + 256 * s.fld (Reg.gaTemp c.val) 16 8)
    if s.store.ident.satIds[t] = id ∧ id ≠ 0 then s2.enterTime t
    else (s2.modPort t (fun x => { x with state := .foreign })).raise 0x5004 t.val 10 (timeWords id.toNat)

/-- IDENT (R379). -/
def execIdent (port : Port) (body : List (BitVec 8)) (valid : Bool) (s : State) : Out :=
  .next (s.onUp port 10 body valid (fun s p => s.takeIdent port p))

/-- TIME_MARK_SEND (R382, R384): the mark at each multiple of 4,096 ticks, and its MARK. -/
def execTimeMarkSend (port : Port) (s : State) : Out :=
  let p := s.ports[port]
  let m := s.now / 4096 * 4096
  if p.state = .down ∨ ¬ s.gaOn (portChannel port) ∨ p.marks.head? = some m then .next s
  else
    let want := match p.offset2 with
      | some o => -(roundAway o 2)
      | none => 0
    let (corr, step) : Int × Bool := match p.state with
      | .ready => (max (-1) (min 1 want), false)
      | .time => (max (-32768) (min 32767 want), true)
      | _ => (0, true)
    let s1 := (s.modPort port (fun p => { p with
      marks := (m :: p.marks).take 4
      offset2 := none
      goodMarks := if step && corr != 0 then 0 else p.goodMarks })).emit (.timeMark port.val true m)
    .next (s1.sendDown port 2 (leBytes 8 m ++ leBytes 2 (BitVec.ofInt 16 corr).toNat ++ leBytes 1 (b2n step)))

/-- UPSTREAM_TIME_MARK (R383): t4, the arrival of the satellite's mark at frac/32 tick after the present tick. -/
def execUpstreamTimeMark (port : Port) (frac : Fin 32) (s : State) : Out :=
  if s.ports[port].state = .down then .next s
  else .next (s.modPort port (fun p => { p with t4 := some (32 * s.now + frac.val) }))

/-- A difference modulo 2^32, taken as signed. -/
def signed32 (a b : Nat) : Int := (BitVec.ofInt 32 ((a : Int) - (b : Int))).toInt

/-- A reported LOSS is a cause of R394: in READY, and in TIME once the satellite has been heard without it. A LOSS that stands since before TIME is the one that only the RESUME of READY ends (R395; log entry 36). -/
def TpPort.lossIsNew (x : TpPort) : Bool := x.state == .ready || x.heardClear

/-- The downstream mark that a T2 refers to: among the last sent, the one nearest to it (R383). -/
def markOf (marks : List Nat) (t2 : Nat) : Option Nat :=
  marks.foldl (fun b m => match b with
    | none => some m
    | some n => if (signed32 t2 (32 * m)).natAbs < (signed32 t2 (32 * n)).natAbs then some m else b) none

/-- LINK takes an ECHO (R383, R384, R394). -/
def State.takeEcho (s : State) (t : Port) (p : List Byte) : State :=
  let x := s.ports[t]
  let st := fieldLe p 8 1
  let loss := st.testBit 7
  let s1 := s.modPort t (fun x => { x with satTime := st % 4, satLoss := loss, heardClear := x.heardClear || !loss })
  if x.state ≠ .time ∧ x.state ≠ .ready then s1
  else if loss && x.lossIsNew then s1.linkLoss t 5
  else match x.t4, markOf x.marks (fieldLe p 0 4) with
  | some t4, some t1 =>
    let t2 := fieldLe p 0 4
    let t3 := fieldLe p 4 4
    let d2 : Int := ((t4 : Int) - ((32 * t1 : Nat) : Int)) - ((t3 + 2 ^ 32 - t2) % 2 ^ 32 : Nat)
    let o2 : Int := 2 * signed32 t2 (32 * t1) - d2
    let os := (o2 :: x.offsets2).take 8
    let sum := os.foldl (· + ·) 0
    let good := if 1024 < d2 then 0 else x.goodMarks + 1
    let s2 := s1.modPort t (fun x => { x with
      delay2 := d2
      offsets2 := os
      offset2 := some o2
      goodMarks := good
      t4 := none })
    if x.state = .time then
      if 1024 < d2 then
        if x.delayHigh then s2
        else (s2.modPort t (fun x => { x with delayHigh := true })).raise 0x5003 t.val 8 [i32 (roundAway d2 2)]
      else if 8 ≤ good ∧ os.length = 8 ∧ sum.natAbs ≤ 16 then s2.portReady t
      else s2
    else if 4 * os.length < sum.natAbs then s2.linkLoss t 3
    else s2
  | _, _ => s1

/-- ECHO (R383). -/
def execEcho (port : Port) (body : List (BitVec 8)) (valid : Bool) (s : State) : Out :=
  .next (s.onUp port 9 body valid (fun s p => s.takeEcho port p))

/-- UPSTREAM_SILENCE (R394 cause 1). -/
def execUpstreamSilence (port : Port) (s : State) : Out :=
  let p := s.ports[port]
  if (p.state = .time ∨ p.state = .ready) ∧ p.lastUp + 40 * usTicks ≤ s.now then .next (s.linkLoss port 1) else .next s

/-- At a boundary of the channel: frames whose TELEM has not come by then count toward cause 2 of R394. `start`: the start of the frame that ends. -/
def State.judgeTelem (s : State) (c : Channel) (start : Nat) : State :=
  (idxs 6).foldl (fun s p =>
    let t := portOf c p
    let x := s.ports[t]
    if x.state = .ready then
      let late := x.owed.filter (fun b => decide (b < start))
      let s1 := s.modPort t (fun x => { x with owed := x.owed.filter (fun b => decide (start ≤ b)), noTelem := x.noTelem + late.length })
      if 3 ≤ x.noTelem + late.length then s1.linkLoss t 2 else s1
    else s) s

/-! ## Trims and balance -/

/-- The step a die's share error asks for, before its clamp (R399). -/
def balanceWish (kBal : Nat) (e : Word) : Int := f32RoundTo (fTimes (fTimes (limF kBal) 0x42C80000) e)

/-- What one update of R399 adds to b_d of each die of the position: Δ_d − m. -/
def balanceStep (kBal stepMax n : Nat) (es : List (Fin 16 × Word)) : List (Fin 16 × Int) :=
  let ds := es.map (fun e => (e.1, max (-(stepMax : Int)) (min (stepMax : Int) (balanceWish kBal e.2))))
  let m := Int.tdiv ((ds.map (fun d => d.2)).foldl (· + ·) 0) (n : Int)
  ds.map (fun d => (d.1, d.2 - m))

/-- A clamp to ±1,024, and whether it bound. -/
def clamp1024 (v : Int) : Int × Bool := (max (-1024) (min 1024 v), decide (v < -1024 ∨ 1024 < v))

/-- BAL_LIMIT of a position: dies where a clamp binds (R399). -/
def State.balLimitEvent (s : State) (t : Port) (dies : BitVec 16) : State :=
  let s1 := s.modGate t (fun g => { g with balLimit := dies != 0 })
  if dies ≠ 0 ∧ rateOk s.gates[t].lastBalEvent s.now sTicks then
    (s1.raise 0x5016 (portChannel t).val 5 [w32 (portPos t).val, dies.zeroExtend 32]).modGate t (fun g => { g with lastBalEvent := some s.now })
  else s1

/-- One run of the balance algorithm (R399) on the currents of the dies in service. -/
def State.balance (s : State) (t : Port) (iDies : List (Fin 16 × Word)) (iPos : Word) : State :=
  let c := portChannel t
  let n := iDies.length
  let inv := fOver f32One (limF n)
  let s1 := s.modGate t (fun g => { g with
    qualified := g.qualified + 1
    err := iDies.foldl (fun v e =>
      let d := fMinus (fOver (fMagn e.2) iPos) inv
      v.set e.1.val (fPlus v[e.1] (fOver (fMinus d v[e.1]) 0x41800000))) g.err })
  if s1.gates[t].qualified % max 1 (s.fld (Reg.gaCfg c.val) 0 8) = 0 then
    let kBal := s.fld (Reg.gaCfg c.val) 8 8
    let stepMax := max 1 (min 64 (s.fld (Reg.gaBal c.val) 0 8))
    let ds := balanceStep kBal stepMax n (iDies.map (fun e => (e.1, s1.gates[t].err[e.1])))
    let stepBound := dieMask ((iDies.filter (fun e => decide (stepMax < (balanceWish kBal s1.gates[t].err[e.1]).natAbs))).map (fun e => e.1))
    s1.modGate t (fun g => { g with
      bal := ds.foldl (fun v d => v.set d.1.val (clamp1024 (v[d.1] + d.2)).1) g.bal
      bound := stepBound ||| dieMask ((ds.filter (fun d => (clamp1024 (g.bal[d.1] + d.2)).2)).map (fun d => d.1)) })
  else s1

/-- The trims of a die (R398): on and off, whether a clamp binds. -/
def State.trimOf (s : State) (t : Port) (d : Fin 16) : Int × Int × Bool :=
  let b := s.gates[t].bal[d]
  let (on, x) := clamp1024 ((s.sig (dieBase t d.val + 0x10)).toInt + b)
  let (off, y) := clamp1024 ((s.sig (dieBase t d.val + 0x11)).toInt - b)
  (on, off, x || y || s.gates[t].bound.getLsbD d.val)

/-- The trim word a die is to have (R398). -/
def State.wantWord (s : State) (t : Port) (d : Fin 16) : Word :=
  let (on, off, _) := s.trimOf t d
  let st := s.sig (dieBase t d.val + 0x12)
  packFields [(20, (BitVec.ofInt 12 on).toNat), (8, (BitVec.ofInt 12 off).toNat), (6, bitsAt st 0 2), (4, bitsAt st 2 2)]

/-- TRIM messages for dies of the set not in force (R400). -/
def State.sendTrims (s : State) (t : Port) (ds : List (Fin 16)) : State :=
  let other : Fin 2 := if s.ports[t].tset = 0 then 1 else 0
  (ds.foldl (fun s d => s.sendDown t 3 (leBytes 1 (16 * d.val + other.val) ++ leBytes 4 (((s.ports[t].trims[other])[d]).toNat))) s).modPort t
    (fun p => { p with
      shadowSent := true
      shadowDies := ds })

/-- The trims that are to change are written into the set not in force (R400). -/
def State.retrim (s : State) (t : Port) : State :=
  let p := s.ports[t]
  let other : Fin 2 := if p.tset = 0 then 1 else 0
  let dies := (idxs 16).take (s.diesOf (portChannel t))
  if p.state ≠ .ready ∨ p.shadowSent ∨ p.swapTset then s
  else if dies.all (fun d => decide (p.word d = s.wantWord t d)) then s
  else
    let changed := dies.filter (fun d => decide ((p.trims[other])[d] ≠ s.wantWord t d))
    (s.modPort t (fun p => { p with trims := vUpd p.trims other (fun v => changed.foldl (fun v d => v.set d.val (s.wantWord t d)) v) })).sendTrims t changed

/-- The check of SHADOW_CRC (R400): the other set goes in force with the next EDGE, or its words are sent again. -/
def State.checkShadow (s : State) (t : Port) (shadow : Nat) : State :=
  let p := s.ports[t]
  let other : Fin 2 := if p.tset = 0 then 1 else 0
  if p.shadowSent then
    if trimCrc p.trims[other] = shadow then s.modPort t (fun p => { p with shadowSent := false, swapTset := true })
    else s.sendTrims t (if p.shadowDies = [] then (idxs 16).take (s.diesOf (portChannel t)) else p.shadowDies)
  else s.retrim t

/-! ## Telemetry -/

/-- One die's record of a TELEM: CURRENT, V_ON, TEMP, STATUS. -/
def telemRec (p : List Byte) (d : Nat) : Int × Nat × Int × Nat :=
  let b := p.drop (8 + 7 * d)
  ((BitVec.ofNat 16 (fieldLe b 0 2)).toInt, fieldLe b 2 2, (BitVec.ofNat 16 (fieldLe b 4 2)).toInt, fieldLe b 6 1)

/-- Temperatures in °C of the channel's dies in service (cause 4 of R413). -/
def State.serviceTemps (s : State) (c : Channel) : List Word :=
  (idxs 6).flatMap (fun p => (maskDies (s.inService (portOf c p))).map (fun d => f32OfRat (s.gates[portOf c p].temps[d]) 100))

/-- Commits the groups of the dies of a position (R397). The share of a die that carries no part of the position current is a free value: R399 forms it for dies in service that turned off (assumption 11). -/
def State.publishDies (s : State) (t : Port) (recs : List (Fin 16 × Int × Nat × Int × Nat)) (iPos : Word) : State :=
  recs.foldl (fun s r =>
    let (d, cur, von, temp, st) := r
    let ins := (s.inService t).getLsbD d.val
    let turned := !st.testBit 4
    let i := if turned then f32OfRat cur 10 else f32NaN
    let (v, s1) := s.fresh 32
    let share := if ins && turned && f32Mag iPos != 0 then fOver (fMagn i) iPos else v
    let w := s.ports[t].word d
    s1.hwCommit 0x0005 s.now (((List.range 8).map (· + dieBase t d.val)).zip
      [f32OfRat temp 100, i, f32OfRat von 1000, w32 (st % 64 + 64 * b2n (s.gates[t].latched.getLsbD d.val) + 128 * b2n ins), share,
       s.gates[t].err[d], i32 (onTrim w), i32 (offTrim w)])) s

/-- What a TELEM says of the dies (R396 to R399, R404, R413). -/
def State.telemDies (s : State) (t : Port) (p : List Byte) : State :=
  let c := portChannel t
  let dies := (idxs 16).take (s.diesOf c)
  let recs := dies.map (fun d => (d, telemRec p d.val))
  let s1 := s.modGate t (fun g => { g with
    held := dieMask (dies.filter (fun d => (telemRec p d.val).2.2.2.testBit 3))
    temps := Vector.ofFn (fun d => if dies.contains d then (telemRec p d.val).2.2.1 else g.temps[d])
    status := Vector.ofFn (fun d => if dies.contains d then (telemRec p d.val).2.2.2 else g.status[d]) })
  let ins := maskDies (s1.inService t)
  let cur := ins.filterMap (fun d => let r := telemRec p d.val; if r.2.2.2.testBit 4 then none else some (d, f32OfRat r.1 10))
  let iPos := (cur.map (fun e => fMagn e.2)).foldl fPlus 0
  let s2 := (s1.modGate t (fun g => { g with iPos := iPos })).publishPos t
  let s3 := if bitAt (s.reg (Reg.gaCfg c.val)) 23 ∧ ins ≠ [] ∧ cur.length = ins.length
      ∧ ¬ fBelow iPos (f32OfRat (s.fld (Reg.gaBal c.val) 16 16 : Nat) 10) then s2.balance t cur iPos else s2
  let lim := dieMask (dies.filter (fun d => (s3.trimOf t d).2.2))
  let s4 := (s3.balLimitEvent t lim).publishDies t recs iPos
  s4.otPower c (s4.serviceTemps c)

/-- LINK takes a TELEM (R394, R396, R400). -/
def State.takeTelem (s : State) (t : Port) (p : List Byte) : State :=
  let x := s.ports[t]
  let base := fieldLe p 0 3
  let fl := fieldLe p 3 1
  let matched := x.owed.any (fun b => decide (b % 2 ^ 24 = base))
  let s0 := if matched then
      s.modPort t (fun x => { x with
        owed := x.owed.drop ((findIx (fun b => decide (b % 2 ^ 24 = base)) x.owed).getD 0 + 1)
        noTelem := 0 })
    else s
  let s1 := if s.ch[portChannel t].enabled then s0.telemDies t p else s0
  if x.state ≠ .time ∧ x.state ≠ .ready then s1
  else
    let set : Fin 2 := if fl.testBit 0 then 1 else 0
    if fl.testBit 2 && x.lossIsNew then s1.linkLoss t 5
    else if fieldLe p 4 2 ≠ trimCrc s1.ports[t].trims[set] then s1.linkLoss t 4
    else if x.state = .ready then
      (if set = s1.ports[t].tset then s1.checkShadow t (fieldLe p 6 2) else s1)
    else s1

/-- TELEM (R396). -/
def execTelem (port : Port) (body : List (BitVec 8)) (valid : Bool) (s : State) : Out :=
  .next (s.onUp port 8 body valid (fun s p => s.takeTelem port p))

/-! ## Die faults, retirement -/

/-- A log entry of the retirement record (R409). -/
def retireEntry (poweredS c p d cause : Nat) (temp : Int) (remaining : Nat) : List Byte :=
  leBytes 4 poweredS ++ leBytes 1 c ++ leBytes 1 p ++ leBytes 1 d ++ leBytes 1 cause ++ leBytes 2 (BitVec.ofInt 16 temp).toNat ++ leBytes 1 remaining
    ++ List.replicate 5 0

/-- Judges the floor of a position after a retirement (R407). -/
def State.judgeFloor (s : State) (t : Port) : State :=
  let c := portChannel t
  let left := countDies (firstDies (s.diesOf c) &&& ~~~s.gates[t].retired)
  let n := countDies (s.inService t)
  if left = 0 then
    ((((s.modGate t (fun g => { g with belowFloor := true })).raise 0x5015 c.val 13 [w32 (portPos t).val, w32 n, 0]).publishPos t).gateCause c)
  else if left < s.nFloor t then
    ((((s.modGate t (fun g => { g with belowFloor := true })).raise 0x5015 c.val 13 [w32 (portPos t).val, w32 n, 1]).publishPos t).askSafe c false)
  else s

/-- Has a position fewer dies that are not retired than its floor (R407)? -/
def State.floorBroken (s : State) (t : Port) : Bool :=
  s.gaOn (portChannel t) && decide (countDies (firstDies (s.diesOf (portChannel t)) &&& ~~~s.gates[t].retired) < s.nFloor t)

/-- BELOW_FLOOR of every position, from the retirements the record kept and the floors now set (R407, R408). -/
def State.judgeFloors (s : State) : State := { s with gates := Vector.ofFn (fun t => { s.gates[t] with belowFloor := s.floorBroken t }) }

/-- Retires a die (R405, R407, R408). -/
def State.retireDie (s : State) (t : Port) (d : Nat) (cause : Nat) (temp : Int) : State :=
  let c := portChannel t
  let m : BitVec 16 := BitVec.ofNat 16 (2 ^ d)
  let s1 := (s.sendCmd t 2 m.toNat).modGate t (fun g => { g with retired := g.retired ||| m })
  let n := countDies (s1.inService t)
  let s2 := (s1.publishPos t).raise 0x5013 c.val 8 [w32 (portPos t).val, w32 d, w32 cause, w32 n]
  let s3 : State := { s2 with store := { s2.store with life := { s2.store.life with retire :=
    { masks := vUpd s2.store.life.retire.masks t (fun x => x ||| m)
      count := s2.store.life.retire.count + 1
      log := kvPut s2.store.life.retire.log (s2.store.life.retire.count % 64) (retireEntry s.poweredS c.val (portPos t).val d cause temp n) } } } }
  (s3.writeKind 3).judgeFloor t

/-- LINK takes a FAULT set (R402): each die not yet latched is marked LATCHED, counted and awaits its decision. -/
def State.takeFault (s : State) (t : Port) (mask : BitVec 16) (cause : Nat) : State :=
  let c := portChannel t
  let g := s.gates[t]
  let news := maskDies (mask &&& ~~~(g.latched ||| g.retired))
  let s1 := if rateOk g.lastSet s.now (10 * usTicks + 1) then s.raise 0x5010 c.val 9 [w32 (portPos t).val, mask.zeroExtend 32, w32 cause] else s
  let s2 := s1.modGate t (fun g => { g with
    lastSet := some s.now
    latched := g.latched ||| mask
    faults := Vector.ofFn (fun d => if news.contains d then (g.faults[d] + 1) % 2 ^ 32 else g.faults[d])
    open_ := g.open_ ++ news.map (fun d => (⟨d.val, s.now, cause, g.temps⟩ : DieFaultRec))
    recent := (g.recent ++ news.map (fun d => (⟨d.val, s.now, cause, g.temps⟩ : DieFaultRec))).filter (fun r => decide (s.now ≤ r.tf + 20 * usTicks)) })
  let s3 := news.foldl (fun s d => s.hwCommit 0x0005 s.now [(dieBase t d.val + 8, w32 s.gates[t].faults[d])]) s2
  s3.publishPos t

/-- FAULT_SET (R402). -/
def execFaultSet (port : Port) (data : BitVec 32) (s : State) : Out :=
  if s.ports[port].state = .down then .next s
  else if setOk data then .next (s.takeFault port (data.extractLsb' 0 16) (data.toNat / 2 ^ 16 % 8))
  else .next (s.portDiscard port)

/-- Faults of the channel's other dies within 10 µs of a fault (R403), with their ports. -/
def State.groupOfFault (s : State) (t : Port) (r : DieFaultRec) : List (Port × DieFaultRec) :=
  (idxs 6).flatMap (fun p =>
    let u := portOf (portChannel t) p
    (s.gates[u].recent.filter (fun q => decide ((u ≠ t ∨ q.die ≠ r.die) ∧ q.tf ≤ r.tf + 10 * usTicks ∧ r.tf ≤ q.tf + 10 * usTicks))).map (fun q => (u, q)))

/-- The fault of a die is decided (R403). -/
def State.decideFault (s : State) (t : Port) (r : DieFaultRec) : State :=
  let c := portChannel t
  let grp := s.groupOfFault t r
  if grp ≠ [] then
    let all := (t, r) :: grp
    let s1 := all.foldl (fun s x => s.modGate x.1 (fun g => { g with
      groupFault := true
      open_ := g.open_.filter (fun q => q.die != x.2.die || q.tf != x.2.tf) })) s
    let s2 := s1.raise 0x5011 c.val 13 ((idxs 6).map (fun p => (s1.gates[portOf c p].latched).zeroExtend 32))
    ((idxs 6).foldl (fun s p => s.publishPos (portOf c p)) s2).gateCause c
  else
    let others := (maskDies (firstDies (s.diesOf c) &&& ~~~s.gates[t].retired)).filter (fun d => d.val != r.die)
    let mine : Int := r.temps.toList.getD r.die 0
    let sum : Int := (others.map (fun d => r.temps[d])).foldl (· + ·) 0
    let n : Nat := others.length
    let near := decide (n = 0) || decide (mine * n - sum ≤ (s.fld (Reg.gaTemp c.val) 24 8 * 100 * n : Nat))
    if r.cause.testBit 2 && near then
      (s.raise 0x5012 c.val 12 [w32 (portPos t).val, w32 r.die, f32OfRat mine 100, if n = 0 then f32NaN else f32OfRat sum (100 * n)]).gateCause c
    else s.retireDie t r.die (if r.cause.testBit 0 then 1 else if r.cause.testBit 1 then 2 else 3) mine

/-- FAULT_DECISION (R403): at t_f + 10 µs. -/
def execFaultDecision (port : Port) (s : State) : Out :=
  match s.gates[port].open_ with
  | [] => .next s
  | r :: rs =>
    if r.tf + 10 * usTicks ≤ s.now then .next ((s.modGate port (fun g => { g with open_ := rs })).decideFault port r)
    else .next s

/-- GA_UNRETIRE (R409; R5): applied only in MAINTAIN with the channel in STO. -/
def execGaUnretire (ch : Channel) (value : BitVec 32) (s : State) : Out :=
  let pos := bitsAt value 16 3
  let m : BitVec 16 := value.extractLsb' 0 16
  if ¬ s.hasChannel ch then .next s   -- R5
  else if h : pos < 6 then
    let t := portOf ch ⟨pos, h⟩
    if s.lifecycle = 3 ∧ s.prot[ch].state = .sto then
      let s1 := s.modGate t (fun g => { g with retired := g.retired &&& ~~~m, latched := g.latched &&& ~~~m })
      let s2 := (s1.modGate t (fun g => { g with belowFloor := s1.floorBroken t })).sendCmd t 3 m.toNat
      let s3 : State := { s2 with store := { s2.store with life := { s2.store.life with retire :=
        { s2.store.life.retire with masks := vUpd s2.store.life.retire.masks t (fun x => x &&& ~~~m) } } } }
      .next (((s3.writeKind 3).publishPos t).raise 0x5018 ch.val 6 [w32 pos, m.zeroExtend 32])
    else .next (s.raise 0x5019 ch.val 5 [w32 pos, m.zeroExtend 32])
  else .next s

/-- ch_n.i_factor = min over p of min(1, n_active / N_RATED) (R406). -/
def State.iFactor (s : State) (c : Channel) : Word :=
  (idxs 6).foldl (fun f p =>
    let t := portOf c p
    fLow f (fLow f32One (fOver (limF (countDies (s.inService t))) (limF (s.nRated t))))) f32One

/-- At each frame boundary LINK writes ch_n.i_factor; GA_DERATED when it falls (R406). -/
def State.writeIFactor (s : State) (c : Channel) : State :=
  let f := s.iFactor c
  let s1 := (s.modProt c (fun p => { p with iFactor := f })).hwCommit 0x0005 s.now [(chBase c + 0x1A, f)]
  if fBelow f s.prot[c].iFactor then s1.raise 0x5014 c.val 8 [f] else s1

/-- TP_ID_LO (R693): the read latches the high word. -/
def execTpIdLo (port : Port) (s : State) : Out :=
  let id := s.ports[port].satId
  .next ((s.modPort port (fun p => { p with idHi := id.extractLsb' 32 32 })).emit (.regRead (Reg.tpIdLo port.val) (id.extractLsb' 0 32)))

/-- TP_STATUS_nn. -/
def State.tpStatus (s : State) (t : Port) : Word :=
  let p := s.ports[t]
  let st := match p.state with
    | .down => 0
    | .ident => 1
    | .foreign => 2
    | .time => 3
    | .ready => 4
  packFields [(29, st), (27, p.satTime), (26, b2n p.satLoss), (16, p.fitted), (0, p.errors)]

/-- TP_TIME_nn. -/
def State.tpTime (s : State) (t : Port) : Word :=
  let p := s.ports[t]
  let sum := p.offsets2.foldl (· + ·) 0
  let avg := if p.offsets2 = [] then 0 else roundAway sum (2 * p.offsets2.length)
  packFields [(16, (BitVec.ofInt 16 (roundAway p.delay2 2)).toNat), (0, (BitVec.ofInt 16 avg).toNat)]

end Sys2Proof.Machine
end

