-- ==== Sys2Proof/Machine/Frames.lean ====
section
/-! DEFINITION. Frame boundaries, sample instants, sync and hard resync (02_time_base_and_frames.md, R60 to R91, R723; 16_host_rings.md, R558, R572). -/

namespace Sys2Proof.Machine

/-- The running channels that follow a channel (R69). -/
def State.followersOf (s : State) (c : Channel) : List Channel :=
  (idxs 8).filter (fun f => s.ch[f].running && s.source f == 2 && s.leader f == c && f != c)

/-- ch_n.i_invalid_run of the channel or of a follower is not zero (R89). -/
def State.resyncHeld (s : State) (c : Channel) : Bool :=
  s.ch[c].iInvalid != 0 || (s.followersOf c).any (fun f => s.ch[f].iInvalid != 0)

/-- N_DIV (R75). -/
def State.nDiv (s : State) (c : Channel) : Nat := s.fld (Reg.chSync c.val) 16 8 + 1

/-- Code of a sync state. -/
def SyncState.code : SyncState → Nat
  | .free => 0
  | .acquire => 1
  | .track => 2
  | .hold => 3

/-- The channel whose sync state a channel reports: a follower its leader's (R91). -/
def State.syncOwner (s : State) (c : Channel) : Channel := if s.source c = 2 then s.leader c else c

/-- ch_n.sync_flags. -/
def State.syncFlags (s : State) (c : Channel) : Word :=
  let o := s.ch[s.syncOwner c]
  packFields [(0, b2n s.ch[c].resyncFrame), (1, b2n o.syncLost), (2, o.sync.code), (4, b2n s.ch[c].ditherActive)]

/-- Commits ch_n.sync_offset and ch_n.sync_flags of a channel and its followers. -/
def State.publishSync (s : State) (c : Channel) : State :=
  (c :: s.followersOf c).foldl (fun s f =>
    s.hwCommit 0x0005 s.now [(chBase f + 0x15, i32 s.ch[f].offset), (chBase f + 0x16, s.syncFlags f)]) s

/-- Completes the CHANNEL_MODE whose settings have taken effect on the last channel of its MASK (R558). -/
def State.finishMode (s : State) (desc : Nat × Nat) : State :=
  let waits := (idxs 8).any (fun c => match s.ch[c].settings with
    | some t => t.desc == desc
    | none => false)
  if waits then s
  else
    let first := (idxs 8).findSome? (fun c => match s.ch[c].effected with
      | some (d, k) => if d = desc then some k else none
      | none => none)
    let s1 : State := { s with ch := s.ch.map (fun x => if x.effected.any (fun e => e.1 == desc) then { x with effected := none } else x) }
    s1.complete desc.1 desc.2 0 0 (w32 (first.getD 0))

/-- The settings of a channel take effect at a boundary (R67, R72, R75, R558); `frame` is the first frame under them. -/
def State.applySettings (s : State) (c : Channel) (frame : Nat) : State :=
  match s.ch[c].settings with
  | none => s
  | some t =>
    let s1 := s.withSettings c
    let src := s1.source c
    let s2 := s1.modCh c (fun x => { x with
      settings := none
      jumpAt := none
      effected := some (t.desc, frame)
      ditherActive := x.ditherActive && s1.dithers c
      sync := if src = 1 then (if x.sync = .free then .acquire else x.sync) else .free
      missed := if src = 1 ∧ x.sync ≠ .free then x.missed else 0
      corr := if src = 1 then x.corr else 0
      targets := if src = 1 ∧ x.sync = .free then [] else x.targets })
    s2.finishMode t.desc

/-! ## Hard resync -/

/-- A set for the satellites of a channel: HOLD with t_b (R393). -/
def State.sendHolds (s : State) (c : Channel) (tb : Nat) : State :=
  (idxs 6).foldl (fun s p =>
    let t := portOf c p
    if s.ports[t].state = .down ∨ ¬ s.gaOn c then s else s.emit (.tolpelSet t.val true (setData (tb % 2 ^ 18)))) s

/-- Number of the frame that begins at t_b: boundaries of the channel before t_b come first. Those after the next are predicted from the length of the next frame, since R63 fixes no other yet (DEDUCED, assumption 89). -/
def State.resyncFrameNo (s : State) (c : Channel) (tb : Nat) : Nat :=
  let x := s.ch[c]
  if tb = x.boundary then x.frame
  else if tb ≤ x.nextBoundary then (x.frame + 1) % 2 ^ 32
  else (x.frame + 2 + (tb - x.nextBoundary - 1) / s.lenNext c) % 2 ^ 32

/-- The RESYNC message to the channel's SENSE die (R55). -/
def State.sendResync (s : State) (c : Channel) (tb : Nat) : State :=
  s.emit (.die .link (senseDie (senseOf c)) "schedule" [(scheduleMessage 2 (localOf c).val tb (s.resyncFrameNo c tb)).toNat])

/-- Is t_x a boundary of the follower under its present settings, as far as they are fixed (R723)? -/
def State.onGrid (s : State) (f : Channel) (tx : Nat) : Bool :=
  let l := s.leader f
  tx == s.ch[f].boundary || tx == s.ch[f].nextBoundary ||
    (s.source f == 2 && (tx == s.ch[l].nextBoundary + s.dOf f || s.ch[l].recent.any (fun r => tx == r.1 + s.dOf f)))

/-- Settings of followers wait for their leader's valley v: t_x = v + new D (R558, R723), unless R89's runs hold a change of D. A jump that is to be a hard resync is announced to the satellites and to SENSE when it is armed here (R55, R393); a frame already processed that begins at t_x is processed again under the settings (R67). -/
def State.markJumps (s : State) (l : Channel) (v : Nat) : State :=
  (idxs 8).foldl (fun s f =>
    if s.jumpWaits f l then
      let tx := v + (s.withSettings f).dOf f
      let s1 := s.modCh f (fun x => { x with jumpAt := some tx })
      if s.onGrid f tx then s1.reprocess f else (s1.sendHolds f tx).sendResync f tx
    else s) s

/-- One channel's hard resync is armed for t_b (R84, R393). -/
def State.armOne (s : State) (c : Channel) (tb : Nat) (e : Int) (commanded : Bool) : State :=
  ((s.modCh c (fun x => { x with resyncAt := some (tb, e, commanded) })).sendHolds c tb).sendResync c tb

/-- A hard resync is armed, with those of the followers (R84, R90). -/
def State.armResync (s : State) (c : Channel) (tb : Nat) (e : Int) (commanded : Bool) : State :=
  (s.followersOf c).foldl (fun s f => s.armOne f (tb + s.dOf f) e commanded) (s.armOne c tb e commanded)

/-- A hard resync at t_b discards the run of a program for frame k, where it has no outcome yet and its deadline lies after t_b (R232): ABORT in progress, NOT_RUN where it has not started, and no miss. -/
def State.discardRunAt (s : State) (slot : SlotCode) (c : Channel) (tb k : Nat) : State :=
  let x := s.slotOf .a slot
  if x.state = .active ∧ x.channel = c ∧ x.runsIn k = true ∧ ¬ x.isDone k = true ∧ (s.deadlineOf slot k).all (fun t => decide (tb < t)) = true then
    match (s.die .a).engineOf slot with
    | some (e, r) => if r.frame = k then s.abortRun e r none else s
    | none => (s.notRun .a slot k (s.refOf c k)).verdict slot k 7
  else s

/-- The runs of a channel that a hard resync at t_b discards (R232): those of the present frame and, where one is cut short, of the frame that the resync frame replaces. -/
def State.discardAt (s : State) (c : Channel) (tb : Nat) : State :=
  let k := s.ch[c].frame
  (idxs 128).foldl (fun s slot =>
    let s1 := s.discardRunAt slot c tb k
    if s.ch[c].boundary = tb then s1 else s1.discardRunAt slot c tb ((k + 1) % 2 ^ 32)) s

/-- The filters of a channel's control inputs restart (R86, R247). -/
def State.restartFilters (s : State) (c : Channel) : State :=
  let d := senseOf c
  let s1 := (idxs 24).foldl (fun s i => if s.sdmChan d i = some c then s.modSdm d i SdmInput.restart else s) s
  (s1.modMeas c (fun x => { x with resyncMarks := 2 })).modCh c (fun x => { x with senseResync := none })

/-- What the boundary finds processed: all dies off where a wire has cancelled it since (R367, R370). -/
def State.nextMod (s : State) (c : Channel) : NextMod × State :=
  match s.mod[c].next with
  | some n => (n, s)
  | none => s.offMod none none 1 s.mod[c].arrived none

/-- Publishes what the modulator applies in the frame that starts (R366, R370). -/
def State.publishMod (s : State) (c : Channel) (b : Nat) : State :=
  match s.nextMod c with
  | (n, s) =>
    let base := chBase c + 0xA0
    let s1 := s.modMod c (fun m => { m with next := none, flags := n.flags, applied := n.set.orElse (fun _ => m.applied) })
    let s2 := s1.hwCommit 0x0005 b (((List.range 3).map (fun i => (base + i, n.duties.getD i 0))) ++
      [(base + 3, n.m), (base + 4, w32 n.flags), (base + 5, w32 n.setTime)])
    let s3 := s2.publishSwitching c n.switching
    match n.program with
    | none => s3
    | some (slot, _) =>
      let chans := if (s3.slotOf .a slot).ds = 3 then [c, pairMate c] else [c]
      let s4 := (chans.foldl (fun s q => if s.ch[q].missRun = 0 then s else (s.modCh q (fun x => { x with missRun := 0 })).publishMiss q) s3)
      s4.finishSwap slot 0 0

/-- Publishes the frame signals of a channel (02_time_base_and_frames.md, table after R68). -/
def State.publishFrame (s : State) (c : Channel) : State :=
  let x := s.ch[c]
  s.hwCommit 0x0005 x.boundary [(chBase c + 0x10, w32 x.frame), (chBase c + 0x12, w32 x.boundary), (chBase c + 0x13, w32 (x.boundary / 2 ^ 32)),
    (chBase c + 0x14, w32 x.frameLen), (chBase c + 0x15, i32 x.offset), (chBase c + 0x16, s.syncFlags c)]

/-- SYNC_OUT rises at a boundary of its channel (R81). -/
def State.syncOut (s : State) (c : Channel) : State :=
  let w := s.reg Reg.syncPins
  if bitsAt w 29 3 = c.val ∧ bitAt w 28 ∧ (!bitAt w 27 || s.ch[c].atValley) then
    { s with syncOutEnd := some (s.ch[c].boundary + min (max 1 (bitsAt w 16 11)) (s.nMin c / 2)) }
  else s

/-- LINK sends the FRAME message of the next frame in each of the next two free slots (R55). -/
def State.sendFrameMsgs (s : State) (c : Channel) : State :=
  let m := scheduleMessage 1 (localOf c).val (s.nextSample c) ((s.ch[c].frame + 1) % 2 ^ 32)
  let o : OutMsg := .die .link (senseDie (senseOf c)) "schedule" [m.toNat]
  (s.emit o).emit o

/-- The run of frames with invalid current changes (R87 to R89). -/
def State.setInvalid (s : State) (c : Channel) (n : Nat) : State :=
  -- a commanded resync is held again while a run is not zero (R89)
  let held := fun (s : State) => if n = 0 then s else s.modCh (s.syncOwner c) (fun x => { x with armedFrom := none })
  let s1 := (held (s.modCh c (fun x => { x with iInvalid := n }))).hwCommit 0x0001 s.ch[c].refInstant [(chBase c + 0x17, w32 n)]
  if n = 4 then (s1.raise 0x1015 c.val 12 [w32 n]).protCause c 8 f32NaN else s1

/-- A commanded resync no longer held is released (R83, R89): for SOURCE FREE it is carried out at `now`, else its four intervals begin. -/
def State.releaseResync (s : State) (c : Channel) (now : Nat) : State :=
  let x := s.ch[c]
  if x.armed ∧ x.armedFrom.isNone ∧ x.resyncAt.isNone ∧ ¬ s.resyncHeld c then
    if s.source c = 0 then s.armResync c now 0 true
    else s.modCh c (fun x => { x with armedFrom := some now })
  else s

/-- The descriptors behind a commanded resync complete. -/
def State.completeArmed (s : State) (c : Channel) (status detail : Nat) (result : Word) : State :=
  s.ch[c].armedDescs.foldl (fun s d => s.complete d.1 d.2 status detail result)
    (s.modCh c (fun x => { x with armed := false, armedFrom := none, armedDescs := [] }))

/-- A frame that SENSE does not measure on a rung below RUN (R604). -/
def State.unmeasured (s : State) (k : Nat) : Bool := s.pwr.rung != 0 && (s.pwr.rung != 1 || k % 16 != 0)

/-- The modulator gives the frame of LINK's own reference no set: FREEWHEEL, and a discharge without the windings (R417, R431). -/
def State.freewheels (s : State) (c : Channel) : Bool :=
  match s.prot[c].state with
  | .freewheel => true
  | .discharge => s.prot[c].discharge.all (fun d => !d.winding)
  | _ => false

/-- T_start (R64). -/
def State.tStart (s : State) : Nat := (s.glb.startFrom + 40000 + 4095) / 4096 * 4096

/-- The frame whose sample instant comes next: of a channel whose carrier does not run yet, its first (R60, R64). -/
def State.nextFrame (s : State) (c : Channel) : Nat :=
  if s.ch[c].running || s.ch[c].resumed then (s.ch[c].frame + 1) % 2 ^ 32 else 0

/-- The sample instant of the first frame of a carrier that is to start (R35, R64). -/
def State.firstSample (s : State) (c : Channel) : Nat :=
  let n := s.withSettings c
  n.tStart + (if n.source c = 2 then n.dOf c else 0) - n.tsu c

/-- Arms the timer of CTRL-A for the writes that wait for the channel's next frame (R57, R554), which before the carrier runs is its first. -/
def State.armTimer (s : State) (c : Channel) : State :=
  let k := s.nextFrame c
  let t := if s.ch[c].running then s.nextSample c else s.firstSample c
  if s.ch[c].enabled && (s.ch[c].running || s.glb.locked) && s.re.timed.any (fun w => w.channel == c && w.frame == k && w.due.isNone) then
    { s with
      re := { s.re with timed := s.re.timed.map (fun w => if w.channel == c && w.frame == k then { w with due := some t } else w) }
      timers := vUpd s.timers 0 (fun l => l ++ [⟨t, c.val⟩]) }
  else s

/-- A hard resync cancels the sample instants from t_b on, with the timers for them (R85). -/
def State.dropTimers (s : State) (c : Channel) (tb : Nat) : State :=
  { s with
    re := { s.re with timed := s.re.timed.map (fun w => if w.channel == c && w.due.any (fun t => decide (tb ≤ t)) then { w with due := none } else w) }
    timers := vUpd s.timers 0 (fun l => l.filter (fun t => !(t.purpose == c.val && decide (tb ≤ t.at_)))) }

/-- Age of a group at a boundary: none when no coherent group of the owner covers it or it has had no commit since its entry came (R572). -/
def State.groupAge (s : State) (a : Nat) (owns : Nat → Bool) (b : Nat) : Option Nat :=
  match (s.die .a).groupOf a with
  | none => none
  | some g => if owns g.owner then ((s.die .a).stampOf g.base).map (fun t => b - t) else none

/-- The frame supervisor judges the channel's setpoint group at a boundary (R572, R438). -/
def State.judgeFresh (s : State) (c : Channel) (b : Nat) : State :=
  let w := s.reg (Reg.freshCfg c.val)
  let old := bitAt (s.sig (chBase c + 0x1B)) 0
  let limit := max 1 (s.fld (Reg.freshLim c.val) 0 16)
  let on := bitAt w 31 && !s.glb.freshOff.getLsbD c.val
  let age := s.groupAge (bitsAt w 0 18) (· == 0x200) b
  let alt := s.groupAge (s.fld (Reg.freshAlt c.val) 0 18) (fun o => decide (0x10 ≤ o ∧ o ≤ 0x13)) b
  let tooOld := fun (g : Option Nat) => g.elim true (fun t => decide (limit * 40000 < t))
  let stale := on && tooOld age && (!bitAt w 30 || tooOld alt)
  let now := stale || (old && s.shut.active)
  if now = old then s
  else
    let us := age.elim 0xFFFFFFFF (fun t => w32 (t / 400))
    let s1 := s.hwCommit 0x0001 b [(chBase c + 0x1B, boolWord now)]
    if now then s1.raise 0x9001 c.val 6 [us, w32 (limit * 100)] else s1.raise 0x9002 c.val 3 [us]

/-- The divisor of a program of a die changes at this boundary of its channel (R219, R221). A run of the present frame that was due under the old one and has no outcome yet stays due: the rule speaks of the frames counted from here on only (DESIGN CHOICE, assumption 90). -/
def State.divChange (s : State) (d : CtrlId) (c : Channel) (k : SlotCode) (on : Bool) : State :=
  let f := s.ch[c].frame
  s.modSlot d k (fun y => { y with
    owed := if y.runsIn f && !y.isDone f then some f else none
    fallback := on
    divChange := none
    anchor := (f + 1) % 2 ^ 32 })

/-- Programs of a channel whose divisor changes at this boundary (R221, R240), on each die that the decision has reached (R219): LAST_STEP is 3 where one falls back, not where one is restored. -/
def State.divChanges (s : State) (c : Channel) : State :=
  (idxs 128).foldl (fun s k =>
    let due := fun (d : CtrlId) => if (s.slotOf d k).state = .active ∧ (s.slotOf d k).channel = c then (s.slotOf d k).divChange else none
    let s1 := match due .b with
      | some on => s.divChange .b c k on
      | none => s
    match due .a with
    | some on => if on then (s1.divChange .a c k on).setStep 3 else s1.divChange .a c k on
    | none => s1) s

/-- What falls due for a channel at a frame boundary (R219 to R222, R231, R234, R453): divisors, with the windows of their lanes, swaps and moves; a refused mode, which counts as a second consecutive miss; and a miss reaction. MISS_REACTION reports the field REACT as it stands, also where the reserved 3 is taken as SS1 (DESIGN CHOICE, assumption 104). -/
def State.boundaryDue (s : State) (c : Channel) : State :=
  let s1 := ((s.divChanges c).laneBoundary c).programBoundary c
  let s2 := if s1.ch[c].refuseDue then
      (((s1.modCh c (fun x => { x with
        refuseDue := false
        reactionDue := true
        missRun := max 2 x.missRun })).publishMiss c).setStep 4).raise 0x1048 c.val 12 [w32 (s.fld (Reg.chMiss c.val) 0 2), w32 s1.ch[c].frame]
    else s1
  if s2.ch[c].reactionDue then ((s2.modCh c (fun x => { x with reactionDue := false })).missReact c).failSwaps c else s2

/-- What every frame boundary of a channel does beside starting its frame: what falls due, the current factor, setpoint freshness, and the protection signals of a discharge (R330, R441, R572). -/
def State.atBoundary (s : State) (c : Channel) (b : Nat) : State :=
  let s1 := ((s.boundaryDue c).writeIFactor c).judgeFresh c b
  if s1.prot[c].state = .discharge then s1.publishProt c else s1

/-- A frame has begun: SYNC_OUT, the FRAME messages of the next one, and the timers for it (R55, R57, R81). -/
def State.announce (s : State) (c : Channel) : State := ((s.syncOut c).sendFrameMsgs c).armTimer c

/-- Accepted settings take effect at the valley t_b of a hard resync (R67); those of a follower where its leader's valley puts them there (R558, R723). -/
def State.settingsAt (s : State) (c : Channel) (tb : Nat) : Bool :=
  match s.ch[c].settings with
  | none => false
  | some t => t.accepted && ((s.withSettings c).source c != 2 || s.ch[c].jumpAt == some tb)

/-- The resync frame begins at t_b (R84 to R87, R90, R393): a SYNC_IN channel enters TRACK; of a FREE or LEADER channel the state stays FREE, which is the one its STATE has (DESIGN CHOICE, assumption 79). Where t_b is the boundary at which the present frame began, that frame becomes the resync frame and no frame ends (R89). The set last applied drives it; at such a boundary that is the one of the frame before, unless the boundary has applied its own (assumption 91). REPEAT belongs to the sets that R38 repeats, and the resync frame does not set it (DESIGN CHOICE, assumption 91). -/
def State.resyncAtTb (s : State) (c : Channel) (tb : Nat) (e : Int) (commanded : Bool) : State :=
  let cut := decide (s.ch[c].boundary ≠ tb)
  let was := s.source c
  let k := if cut then (s.ch[c].frame + 1) % 2 ^ 32 else s.ch[c].frame
  let sd := (s.discardAt c tb).dropTimers c tb
  let s0 := if sd.settingsAt c tb then sd.applySettings c k else sd
  let syncIn := decide (was = 1 ∧ s0.source c = 1)
  let len := if s0.source c = 2 then s0.matchLen c (tb - s0.dOf c) else if cut ∨ was ≠ s0.source c ∨ was ≠ 0 then s0.resyncLen c else s.ch[c].frameLen
  let s1 := s0.modCh c (fun x => { x with
    frame := k
    boundary := tb
    frameLen := len
    atValley := true
    refInstant := tb
    refPrev := if cut then x.refInstant else x.refPrev
    resyncFrame := true
    sampled := false
    skipped := false
    cutoffDone := false
    measValid := none
    nextLen := none
    published := none
    recent := ((tb, len) :: x.recent.filter (fun r => r.1 != tb)).take 8
    lfsr := if cut && s0.dithers c then s0.nextLfsr c else x.lfsr
    ditherActive := s0.dithers c
    sync := if syncIn then .track else x.sync
    syncLost := x.syncLost && !syncIn
    missed := 0
    corr := 0
    edges := []
    offset := if s0.source c = 2 then x.offset else e
    lastTarget := tb
    lastCount := 0
    targets := [⟨0, true, false⟩]
    valleys := 0
    resyncAt := none
    holdEnd := some (tb + 400)
    schedule := none })
  let s2 := (s1.raise 0x1013 c.val 6 [i32 e, w32 (if commanded then 2 ^ 31 else 0)]).restartFilters c
  let s3 := s2.legsBack c tb
  let s4 := s3.processFrame c true (halvesOf (s3.doubleUpdate c) true tb len) none s3.mod[c].applied false (s3.freewheels c) none
  -- the resync frame counts once, also where it begins at a boundary that has been counted (R87)
  let n := if cut then s4.ch[c].iInvalid + 1 else max 1 s4.ch[c].iInvalid
  let s5 := (((s4.sendEdges c).publishMod c tb).publishFrame c).setInvalid c n
  -- a command armed while an automatic resync waited for t_b is carried out on the next edge (R83)
  let s6 := if s5.source c = 2 ∨ ¬ commanded then s5 else s5.completeArmed c 0 0 (w32 k)
  let s7 := if s6.source c = 2 then s6 else s6.markJumps c tb
  (if cut then s7.atBoundary c tb else s7.writeIFactor c).announce c

/-- The frame lead that makes the follower's boundary at t_x the match of its leader's boundary at t_x - D (R69, R723). -/
def State.leadAt (s : State) (c : Channel) (tx : Nat) : Nat :=
  let l := s.ch[s.leader c]
  let later := (l.recent.filter (fun r => decide (tx < r.1 + s.dOf c))).length
  (s.ch[c].frame + later + 2 ^ 32 - l.frame) % 2 ^ 32

/-! ## Boundaries -/

/-- What the channel's new frame is given (R60, R63, R72, R78). -/
def State.startFrame (s : State) (c : Channel) (len plain : Nat) (valley : Bool) : State :=
  let x := s.ch[c]
  let b := x.nextBoundary
  let target := valley && decide ((x.valleys + 1) % s.nDiv c = 0)
  s.modCh c (fun x => { x with
    frame := (x.frame + 1) % 2 ^ 32
    boundary := b
    frameLen := len
    atValley := valley
    refInstant := b - s.tsu c
    refPrev := x.refInstant
    resyncFrame := false
    sampled := false
    skipped := false
    cutoffDone := false
    measValid := none
    nextLen := none
    recent := ((b, len) :: x.recent).take 8
    lfsr := if s.dithers c then s.nextLfsr c else x.lfsr
    ditherActive := s.dithers c
    corr := if x.sync = .acquire ∨ x.sync = .track then x.corr - ((len : Int) - (plain : Int)) else 0
    valleys := if valley then x.valleys + 1 else x.valleys
    lastTarget := if target then b else x.lastTarget
    lastCount := if target then x.valleys + 1 else x.lastCount
    targets := if target then x.targets.filter (fun t => decide (x.valleys + 1 ≤ t.count)) else x.targets })

/-- The frame that starts at the present boundary is one of invalid current, or ends the run of them; one in which SENSE makes no delivery on a rung below RUN neither counts nor resets (R87, R604). -/
def State.judgeCurrent (s : State) (c : Channel) (x0 : ChanTime) : State :=
  if (if x0.sampled then x0.skipped else s.unmeasured s.ch[c].frame) then s
  else if x0.measValid = some true then (if x0.iInvalid = 0 then s else s.setInvalid c 0)
  else s.setInvalid c (x0.iInvalid + 1)

/-- What happens at a frame boundary of a channel. A commanded resync that it releases, or one due at this very instant, makes the frame that begins here the resync frame (R89): the frame's own set is then not applied. -/
def State.boundary (s : State) (c : Channel) : State :=
  let x0 := s.ch[c]
  let b := x0.nextBoundary
  let jumps := s.settingsDue c && (s.withSettings c).source c == 2   -- at t_x, a valley of the leader plus D
  let len := s.lenNext c
  let s1 := if s.settingsDue c then s.applySettings c ((x0.frame + 1) % 2 ^ 32) else s
  let s2 := s1.startFrame c len (s1.plainLen c) (s1.nextAtValley c || jumps)
  let s3 := if jumps then s2.modCh c (fun x => { x with lead := s2.leadAt c b }) else s2
  let s4 := s3.judgeCurrent c x0
  let s5 := if s4.ch[c].atValley ∧ s4.source c ≠ 2 then s4.markJumps c b else s4
  let s6 := (s5.judgeTelem c x0.boundary).publishFrame c
  let l := if s6.source c = 2 then s6.leader c else c
  let s7 := if x0.iInvalid ≠ 0 ∧ s6.ch[c].iInvalid = 0 then s6.releaseResync l b else s6
  match s7.ch[c].resyncAt.filter (fun r => r.1 == b) with
  | some (tb, e, cmd) => (s7.atBoundary c b).resyncAtTb c tb e cmd
  | none => ((s7.publishMod c b).atBoundary c b).announce c

/-! ## Carrying out -/

/-- HARD_RESYNC (R84, R89): at t_b the running frame ends and the carrier restarts at a valley; where t_b is the channel's own next boundary, that boundary becomes the resync boundary. -/
def execHardResync (ch : Channel) (s : State) : Out :=
  match s.ch[ch].resyncAt with
  | some (tb, e, commanded) =>
    if tb ≤ s.now ∧ s.ch[ch].running then
      .next (if s.ch[ch].nextBoundary = tb then s.boundary ch else s.resyncAtTb ch tb e commanded)
    else .next s
  | none => .next s

/-- RESYNC_HOLD_END (R85): 1.0 µs after t_b the hold ends; the repeated set drives the restarted carrier. -/
def execResyncHoldEnd (ch : Channel) (s : State) : Out :=
  match s.ch[ch].holdEnd with
  | some t => if t ≤ s.now then .next (s.modCh ch (fun x => { x with holdEnd := none })) else .next s
  | none => .next s

/-- PHASE_JUMP (R723): a follower reaches t_x, which is no boundary under its old settings, and moves by a hard resync; while its run or its leader's of invalid current is not zero, the jump waits for a later valley of the leader. Where t_x is the boundary at which its present frame began, the frame runs on, with the length of its new match. -/
def execPhaseJump (ch : Channel) (s : State) : Out :=
  match s.ch[ch].jumpAt with
  | some t =>
    if ¬ (t ≤ s.now ∧ s.ch[ch].running ∧ t ≠ s.ch[ch].nextBoundary) then .next s
    else if t = s.ch[ch].boundary then
      let s1 := s.applySettings ch s.ch[ch].frame
      .next ((s1.modCh ch (fun x => { x with frameLen := s1.matchLen ch (t - s1.dOf ch), lead := s1.leadAt ch t })).publishFrame ch)
    else if s.ch[ch].iInvalid ≠ 0 ∨ s.ch[(s.withSettings ch).leader ch].iInvalid ≠ 0 then .next (s.modCh ch (fun x => { x with jumpAt := none }))
    else
      let s1 := (s.applySettings ch ((s.ch[ch].frame + 1) % 2 ^ 32)).resyncAtTb ch t 0 true
      .next (s1.modCh ch (fun x => { x with lead := s1.leadAt ch t }))
  | none => .next s

/-! ## Commanded resync -/

/-- Arms a commanded resync (R83): answers whether it was taken. A further command while one is armed joins it and its count of intervals, which the rule does not start afresh (DESIGN CHOICE, assumption 102). -/
def State.commandResync (s : State) (c : Channel) (desc : Option (Nat × Nat)) : State :=
  let descs := desc.toList
  let s1 := s.modCh c (fun x => { x with armed := true, armedDescs := x.armedDescs ++ descs })
  s1.releaseResync c s.now

/-- CH_RESYNC (R83): a write of 1 to HARD. Of a FREE or SYNC_IN channel whose carrier does not run it is ignored: no rule speaks of it (DESIGN CHOICE, assumption 80). -/
def execChResync (ch : Channel) (value : BitVec 32) (s : State) : Out :=
  if bitAt value 0 ∧ s.hasChannel ch then
    if s.source ch = 2 then .next (s.raise 0x1014 ch.val 5 [])
    else if s.ch[ch].running then .next (s.commandResync ch none)
    else .next s
  else .next s

/-- RESYNC_DROPPED (R83): no edge within four sync intervals. -/
def execResyncDropped (ch : Channel) (s : State) : Out :=
  match s.ch[ch].armed, s.ch[ch].armedFrom with
  | true, some t =>
    if t + 4 * s.nDiv ch * s.period ch ≤ s.now ∧ s.ch[ch].resyncAt.isNone then
      .next ((s.raise 0x1014 ch.val 5 []).completeArmed ch 1 1 0)
    else .next s
  | _, _ => .next s

/-! ## SYNC_IN -/

/-- The last sync target and the next two, each with its number and its time, predicted with undithered lengths (R75). -/
def State.syncTargets (s : State) (c : Channel) : List (Nat × Nat) :=
  let x := s.ch[c]
  let n := s.nDiv c
  let p := if x.sync = .hold then x.heldPeriod else s.period c
  let valley := if s.nextAtValley c then x.nextBoundary else x.nextBoundary + p / 2
  let m := (x.valleys / n + 1) * n
  let t := valley + (m - x.valleys - 1) * p
  [(x.lastCount, x.lastTarget), (m, t), (m + n, t + n * p)]

/-- What has become of a sync target. -/
def ChanTime.target (x : ChanTime) (m : Nat) : SyncTarget := (x.targets.find? (fun t => t.count == m)).getD ⟨m, false, false⟩

/-- Notes what has become of a sync target. -/
def ChanTime.setTarget (x : ChanTime) (t : SyncTarget) : ChanTime := { x with targets := x.targets.filter (fun u => u.count != t.count) ++ [t] }

/-- The target whose expected edge time is nearest to an edge, the earlier among equals, with the edge's offset e (R75). -/
def State.nearestTarget (s : State) (c : Channel) (t : Nat) : Nat × Int :=
  let off := fun (q : Nat × Nat) => (q.1, (t : Int) - ((q.2 : Int) - (s.dOf c : Nat)))
  match (s.syncTargets c).map off with
  | [] => (0, 0)
  | q :: qs => qs.foldl (fun b r => if r.2.natAbs < b.2.natAbs then r else b) q

/-- The held period (R80): an even number of ticks within P ± P/32. Where an end of the band is odd or no whole number of ticks, the limit is the nearest even number inside it; the rule does not say so (DESIGN CHOICE, assumption 101). -/
def State.heldPeriodOf (s : State) (c : Channel) : Nat :=
  let p := s.period c
  match s.ch[c].sync, s.ch[c].edges with
  | .track, a :: b :: _ =>
    let d := s.nDiv c
    -- nearest even number to (a − b) / d, a tie going up
    let h := 2 * ((a - b + d) / (2 * d))
    max ((p - p / 32 + 1) / 2 * 2) (min ((p + p / 32) / 2 * 2) h)
  | _, _ => p

/-- SYNC_LOST (R77, R80): HOLD at the held period. -/
def State.loseSync (s : State) (c : Channel) : State :=
  let h := s.heldPeriodOf c
  ((s.modCh c (fun x => { x with sync := .hold, syncLost := true, heldPeriod := h, corr := 0 })).raise 0x1011 c.val 8 [w32 h]).publishSync c

/-- A missed edge or target (R76, R77). -/
def State.missEdge (s : State) (c : Channel) (payload : Word) : State :=
  let n := s.ch[c].missed + 1
  let s1 := (s.modCh c (fun x => { x with missed := min 4 n })).raise 0x1010 c.val 2 [payload]
  if n = 4 then s1.loseSync c else s1

/-- An edge steers (R78). -/
def State.steer (s : State) (c : Channel) (e : Int) : State :=
  s.modCh c (fun x => { x with corr := roundAway e (2 ^ s.fld (Reg.chSync c.val) 24 2), missed := 0 })

/-- A target is missed, by an edge too far from it or by none; it counts once (R76, R77, R89). R76 names a late edge and its absence before; the model takes them as one missed edge (DEDUCED, assumption 81). -/
def State.missTarget (s : State) (c : Channel) (m : Nat) (payload : Word) : State :=
  let t := s.ch[c].target m
  if t.missed then s else (s.modCh c (fun x => x.setTarget { t with missed := true })).missEdge c payload

/-- One channel's part of an accepted edge on SYNC_IN (R75, R76, R82, R83, R89). -/
def State.syncEdge (s : State) (c : Channel) (t : Nat) : State :=
  let x := s.ch[c]
  if ¬ x.running ∨ s.source c ≠ 1 ∨ x.resyncAt.isSome then s
  else
    let p := s.period c
    let (m, e) := s.nearestTarget c t
    let mark := fun (s : State) => (s.modCh c (fun x => { x.setTarget { x.target m with matched := true } with offset := e })).publishSync c
    let tb := max (t + s.dOf c) s.now
    if x.armed ∧ x.armedFrom.isSome then (mark s).armResync c tb e true
    else if (x.target m).matched then s
    else
      let s1 := mark s
      let s2 := if x.sync = .hold then s1.modCh c (fun x => { x with sync := .acquire, missed := 0 }) else s1
      if bitAt (s.reg (Reg.chSync c.val)) 26 ∧ p < 4 * e.natAbs then
        if s2.resyncHeld c then s2.missTarget c m (i32 e) else s2.armResync c tb e false
      else if s2.ch[c].sync = .acquire then
        let s3 := s2.steer c e
        if 8 * e.natAbs ≤ p then
          ((s3.modCh c (fun x => { x with sync := .track, syncLost := false, edges := [] })).raise 0x1012 c.val 3 [i32 e]).publishSync c
        else s3.publishSync c
      else if 8 * e.natAbs ≤ p then (s2.steer c e).modCh c (fun x => { x with edges := (t :: x.edges).take 2 })
      else s2.missTarget c m (i32 e)

/-- The filter time of SYNC_IN in ticks (IN_FILTER). -/
def State.syncFilter (s : State) : Nat := [2, 8, 32, 128].getD (s.fld Reg.syncPins 8 2) 2

/-- SYNC_EDGE (R74 to R78, R82): SYNC_IN took a new level at the edge time. An edge of the polarity of IN_POL is accepted once the level has stood for the filter time. -/
def execSyncEdge (edge : PinEdge) (s : State) : Out :=
  if edge.rising = bitAt (s.reg Reg.syncPins) 0 ∨ s.now < edge.time + s.syncFilter then .next s
  else .next ((idxs 8).foldl (fun s c => s.syncEdge c edge.time) s)

/-- A sync target whose window has passed without an edge, no edge within it being still in the input filter. -/
def State.passedTarget (s : State) (c : Channel) (window : Nat) : Option Nat :=
  ((s.syncTargets c).find? (fun q =>
    let t := s.ch[c].target q.1
    !t.matched && !t.missed && decide (q.2 + window + s.syncFilter < s.now + s.dOf c))).map (fun q => q.1)

/-- MISSED_EDGE (R76). -/
def execMissedEdge (ch : Channel) (s : State) : Out :=
  if s.ch[ch].running ∧ s.source ch = 1 ∧ s.ch[ch].sync = .track then
    match s.passedTarget ch (s.period ch / 8) with
    | some m => .next (s.missTarget ch m 0x80000000)
    | none => .next s
  else .next s

/-- MISSED_TARGET (R77). -/
def execMissedTarget (ch : Channel) (s : State) : Out :=
  if s.ch[ch].running ∧ s.source ch = 1 ∧ s.ch[ch].sync = .acquire then
    match s.passedTarget ch (s.nDiv ch * s.period ch / 2) with
    | some m => .next (s.missTarget ch m 0x80000000)
    | none => .next s
  else .next s

/-- SYNC_OUT_PULSE_END (R81). -/
def execSyncOutPulseEnd (s : State) : Out :=
  match s.syncOutEnd with
  | some t => if t ≤ s.now then .next { s with syncOutEnd := none } else .next s
  | none => .next s

/-- FRAME_BOUNDARY (R60, R63, R66): the channel's boundary has come, and no hard resync comes first. -/
def execFrameBoundary (ch : Channel) (s : State) : Out :=
  let x := s.ch[ch]
  if x.running ∧ x.nextBoundary ≤ s.now ∧ (match x.resyncAt with
      | some (tb, _, _) => decide (x.nextBoundary ≤ tb)
      | none => true) = true then .next (s.boundary ch)
  else .next s

/-- SETTINGS_EFFECT (R67, R558): the valley at which accepted settings take effect has come. -/
def execSettingsEffect (ch : Channel) (s : State) : Out :=
  if s.ch[ch].running ∧ s.ch[ch].nextBoundary ≤ s.now ∧ s.settingsDue ch then .next (s.boundary ch) else .next s

/-- One channel's carrier starts at boundary 0, a valley (R64, R67, R69, R72, R75): settings accepted before it take effect, and its frame is processed like any other (R370, R386). -/
def State.startCarrier (s : State) (c : Channel) : State :=
  let n := s.withSettings c
  let b := s.tStart + if n.source c = 2 then n.dOf c else 0
  if s.ch[c].running ∨ ¬ s.ch[c].enabled ∨ s.now < b then s
  else
    let s := if s.ch[c].settings.any (fun t => t.accepted) then s.applySettings c (if s.ch[c].resumed then (s.ch[c].frame + 1) % 2 ^ 32 else 0) else s
    let s1 := s.modCh c (fun x => { x with sync := if s.source c = 1 then .acquire else .free })
    let len := if s1.source c = 2 then (match s1.ch[s1.leader c].recent.find? (fun r => r.1 == s1.tStart) with
      | some r => r.2
      | none => s1.nNom c) else s1.ownLen c
    let s2 := s1.modCh c (fun x => { x with
      running := true
      frame := if x.resumed then (x.frame + 1) % 2 ^ 32 else 0
      resumed := false
      boundary := b
      frameLen := len
      atValley := true
      refInstant := b - s1.tsu c
      recent := [(b, len)]
      sampled := false
      skipped := false
      cutoffDone := false
      measValid := none
      nextLen := none
      lfsr := if s1.dithers c then s1.nextLfsr c else x.lfsr
      ditherActive := s1.dithers c
      lastTarget := b
      lastCount := 0
      targets := []
      valleys := 0 })
    let s3 := (s2.processFrame c false (halvesOf (s2.doubleUpdate c) true b len) none s2.mod[c].applied false (s2.freewheels c) none).sendEdges c |>.publishMod c b
    let s4 := s3.publishFrame c
    let s5 := if s4.unmeasured s4.ch[c].frame then s4 else s4.setInvalid c (s4.ch[c].iInvalid + 1)
    let s6 := if s5.source c = 2 then s5 else s5.markJumps c b
    (s6.atBoundary c b).announce c

/-- CARRIER_START (R64, R65): the enabled channels start their carriers at T_start, a follower D later, and at one instant each leader before its followers, whose lengths are its own (R69); on YARD and SHED none runs. -/
def execCarrierStart (s : State) : Out :=
  if s.glb.locked ∧ s.glb.checked ∧ s.pwr.rung ≤ 3 then
    let follows := fun (c : Channel) => s.source c == 2
    .next (((idxs 8).filter (fun c => !follows c) ++ (idxs 8).filter follows).foldl State.startCarrier s)
  else .next s

/-! ## Sample instants -/

/-- Runs of a frame in which programs do not run (R604): NOT_RUN, no miss. From CHEW down no window is open and nothing is folded (R605). -/
def State.skipRuns (s : State) (c : Channel) (k ref : Nat) : State :=
  (idxs 128).foldl (fun s slot =>
    let x := s.slotOf .a slot
    let skip := fun (y : Slot) => { y with readyFrame := some k, doneFrame := some k }
    if 2 ≤ s.pwr.rung then (if x.state = .active ∧ x.channel = c ∧ x.runsIn k ∧ ¬ x.isDone k then (s.modSlot .a slot skip).modSlot .b slot skip else s)
    else if x.state = .active ∧ x.channel = c ∧ x.runsIn k ∧ ¬ x.isDone k then (s.notRun .a slot k ref).verdict slot k 7 else s) s

/-- No copy of the FRAME message passed (R55): the die makes no trigger and no delivery, marks every member late and raises TIME_CODE_MISMATCH. -/
def State.lostSchedule (s : State) (c : Channel) (k t : Nat) : State :=
  (s.modMeas c (fun m => { m with
    sample := t
    frame := k
    sent := true
    sentM := true
    members := m.members.map (fun y => { y with ready := true, reason := 4 }) })).raise 0x1004 (senseDie (senseOf c)).code 6 [0]

/-- Whether the sample instant qualifies for the phase-loss check (R416): a window in which one does not is discarded there. -/
def State.qualify (s : State) (c : Channel) : State :=
  let q := s.prot[c].state == .run && s.mod[c].switching
  s.modProt c (fun p => { p with qualifies := q, window := if q then p.window else none })

/-- SAMPLE_INSTANT (R35, R55, R86, R246, R308, R604): the sample instant of the channel's next frame. `bits`: for each bitstream input of the die, the bits since its last command; the filters take them, and a mark of R86 is used up, whatever SENSE delivers. In a frame that is not delivered on GRAZE the converters are triggered all the same. -/
def execSampleInstant (ch : Channel) (bits : List (List Bool)) (s : State) : Out :=
  if ¬ s.hasChannel ch then .next s
  else
    let x := s.ch[ch]
    if ¬ x.running ∨ x.sampled ∨ ¬ s.nextSample ch ≤ s.now then .next s
    else
      let k := (x.frame + 1) % 2 ^ 32
      let t := s.nextSample ch
      let u := s.unmeasured k
      let s1 := (s.modCh ch (fun x => { x with sampled := true, skipped := u, measValid := none, schedule := none })).qualify ch |>.sampleBits ch bits
      let s2 :=
        if ¬ x.schedule = some ⟨k, t⟩ then s1.lostSchedule ch k t
        else if u then s1.sampleTriggers ch t
        else ((s1.sampleMembers ch k t).sampleTriggers ch t).askPosfb ch t
      let s3 := s2.countMark ch
      .next (if u then s3.skipRuns ch k t else s3)

/-! ## DIE_FAULT -/

/-- The channels that an asserted DIE_FAULT wire takes to their safe state (R29, R49): those of the failed links into the die; every channel for a failed time base. -/
def State.faultChannels (s : State) (d : Die) : List Channel :=
  let links := ((idxs 27).filter (fun l => s.links[l].failed && linkReceiver.getD l.val .link == d)).map (fun l => linkChannels.getD l.val 0)
  (idxs 8).filter (fun c => links.any (fun m => m.testBit c.val) || (d == .link && s.tb.failed))

/-- The drive channels react to a DIE_FAULT wire (R29, R49, R413 cause 11). -/
def State.dieFaultDrives (s : State) (d : Die) : State :=
  (s.faultChannels d).foldl (fun s c =>
    (s.modProt c (fun p => { p with dieFaults := p.dieFaults ||| BitVec.ofNat 8 (2 ^ d.ix.val) })).protCause c 11 f32NaN) s

end Sys2Proof.Machine
end

