-- ==== Sys2Proof/Machine/Lockstep.lean ====
section
/-! DEFINITION. Lockstep (13_lockstep.md, R444 to R463): the commit of a run as the frame supervisor sees it, moves and swaps at boundaries, closing windows, and the comparator on SAFE. -/

namespace Sys2Proof.Machine

/-! ## Runs at their end and at boundaries -/

/-- Bits of a status word that change from 0 to 1. -/
def risen (old new : Word) : Word := new &&& ~~~old

/-- DS_OSCILLATION for a status bit that rises (R347, R350): loop, last frequency, and what REACT did. -/
def State.dsOsc (s : State) (slot : SlotCode) (loop freq win : Nat) (wasFallback : Bool) : State :=
  let react := (oscWindow (s.sig win)).2.2
  s.raise 0x4003 slot.val 8 [w32 loop, s.sig freq, w32 (if wasFallback then 2 else react)]

/-- DS_PARAM_CLAMPED: at most once per second per slot. -/
def State.dsClamped (s : State) (slot : SlotCode) (group : Nat) (status : Word) : State :=
  if rateOk (s.slotOf .a slot).lastClamped s.now sTicks then
    (s.raise 0x4001 slot.val 5 [w32 group, w32 (bitsAt status 16 5)]).modSlot .a slot (fun x => { x with lastClamped := some s.now })
  else s

/-- DS_FALLBACK_CLEARED: a change of osc_ack has cleared latches, also one that the same run has set again (R347, R350). -/
def State.dsCleared (s : State) (slot : SlotCode) (before after : DsState) (old : Word) (mask : Word) : State :=
  let m := old &&& mask
  if before.ackSeen ≠ after.ackSeen ∧ m ≠ 0 then s.raise 0x4004 slot.val 3 [m] else s

/-- SS1_REQ rises (R350). -/
def State.dsSs1 (s : State) (c : Channel) (loop : Nat) : State :=
  (s.requestStop .ctrlA c false 1).raise 0x4006 c.val 12 [w32 loop]

/-- The frame supervisor compares the inner status word (R350). -/
def State.dsInnerStatus (s : State) (slot : SlotCode) (c : Channel) (before : DsState) (old : Word) : State :=
  let b := chBase c
  let new := s.sig (b + 0x95)
  let up := risen old new
  let s1 := if bitAt up 4 then
      (s.protCause c 9 f32NaN).raise 0x4005 c.val 12 [w32 (s.slotOf .a slot).dsState.posRun, w32 (bitsAt (s.sig (b + 0x44)) 8 8)]
    else s
  let s2 := if bitAt up 8 then s1.dsSs1 c (s.slotOf .a slot).dsState.ss1Loop else s1
  let kept := before.ackSeen == (s.slotOf .a slot).dsState.ackSeen   -- else the ack has cleared the fallback before the detectors ran (R347)
  let s3 := if bitAt up 5 then s2.dsOsc slot 0 (b + 0x93) (b + 0x200 + 29) (bitAt old 7 && kept) else s2
  let s4 := if bitAt up 6 then s3.dsOsc slot 1 (b + 0x94) (b + 0x200 + 29) (bitAt old 7 && kept) else s3
  let s5 := if bitAt up 9 then s4.raise 0x4002 slot.val 4 [0] else s4
  let s6 := if bitAt up 10 then s5.dsClamped slot 0 new else s5
  s6.dsCleared slot before (s.slotOf .a slot).dsState old 0x60

/-- The frame supervisor compares the outer status word (R350). -/
def State.dsOuterStatus (s : State) (slot : SlotCode) (c : Channel) (before : DsState) (old : Word) : State :=
  let b := chBase c
  let new := s.sig (b + 0x67)
  let up := risen old new
  let s1 := if bitAt up 2 then s.raise 0x4007 c.val 5 [before.tqLast] else s
  let s2 := if bitAt up 10 then s1.dsSs1 c (s.slotOf .a slot).dsState.ss1Loop else s1
  let kept := before.ackSeen == (s.slotOf .a slot).dsState.ackSeen
  let s3 := if bitAt up 6 then s2.dsOsc slot 2 (b + 0x6B) (b + 0x220 + 23) (bitAt old 8 && kept) else s2
  let s4 := if bitAt up 7 then s3.dsOsc slot 3 (b + 0x6C) (b + 0x220 + 27) (bitAt old 9 && kept) else s3
  let s5 := if bitAt up 11 then s4.raise 0x4002 slot.val 4 [1] else s4
  let s6 := if bitAt up 12 then s5.dsClamped slot 1 new else s5
  let s7 := if bitAt up 13 then s6.dsClamped slot 2 new else s6
  s7.dsCleared slot before (s.slotOf .a slot).dsState old 0xC0

/-- Where a run of CTRL-A has committed, its outcome filed last, the status words of a Drive Set program's channel are compared (R350). -/
def State.afterCommit (s0 s : State) (slot : SlotCode) : State :=
  let x := s0.slotOf .a slot
  let c := x.channel
  let b := chBase c
  let filed := (s.die .a).outcomes.drop (s0.die .a).outcomes.length
  if filed.any (fun o => o.outcome == 0) && x.ds != 0 then
    if x.ds ≤ 3 then s.dsInnerStatus slot c x.dsState (s0.sig (b + 0x95))
    else s.dsOuterStatus slot c x.dsState (s0.sig (b + 0x67))
  else s

/-- FEND (R142): the run's commit, the verdict, and what the frame supervisor sees of it. -/
def execFend (die : CtrlId) (engine : EngineNo) (s : State) : Out :=
  let s1 := s.fend die engine
  match die, (s.engine die engine).run with
  | .a, some r => .next (s.afterCommit s1 r.slot)
  | _, _ => .next s1

/-- PROGRAM_MOVE (R219, R220): at a boundary of its channel at which the program had no run in progress on either die; CTRL-B finishes first a run that CTRL-A has had. Its persistent registers stay with its slot. -/
def execProgramMove (slot : SlotCode) (s : State) : Out :=
  match (s.slotOf .a slot).moveTo, (s.slotOf .a slot).moveDue with
  | some _, true => if (s.die .b).running slot then .next s else .next (((s.moveBoth slot).setStep 2).cutLanes s.ch[(s.slotOf .a slot).channel].boundary)
  | _, _ => .next s

/-- SWAP_BOUNDARY (R234): the boundary of the bound channel at which the swap takes effect has come. -/
def execSwapBoundary (ch : Channel) (s : State) : Out :=
  match s.planner.swaps.find? (fun w => !w.done && w.due && w.channel == ch) with
  | none => .next s
  | some w => .next ((s.applySwap w).cutLanes s.ch[ch].boundary)

/-! ## Closing a window -/

/-- A lane's runs of a die with reference instants below `hi` that have no outcome there yet. -/
def State.openRuns (s : State) (d : CtrlId) (l : EngineNo) (hi : Nat) : List (SlotCode × Nat) :=
  let run := match (s.engine d l).run with
    | some r => if r.refInstant < hi then [(r.slot, r.frame)] else []
    | none => []
  run ++ (idxs 128).flatMap (fun c =>
    let x := s.slotOf d c
    let y := s.ch[x.channel]
    if x.state = .active ∧ x.engine = l ∧ y.running then
      [(y.frame + 2 ^ 32 - 1) % 2 ^ 32, y.frame, (y.frame + 1) % 2 ^ 32].filterMap (fun k =>
        let known := k != (y.frame + 1) % 2 ^ 32 || y.sampled
        let below := k == (y.frame + 2 ^ 32 - 1) % 2 ^ 32 || decide (s.refOf x.channel k < hi)
        if known && below && x.runsIn k && !x.isDone k then some (c, k) else none)
    else [])

/-- The window close word (R449). -/
def closeWord (l : EngineNo) (w : LockWindow) : Dword :=
  BitVec.ofNat 64 (0xF * 2 ^ 60 + w.channel.val * 2 ^ 48 + l.val * 2 ^ 32 + w.last % 2 ^ 32)

/-- Order of R454: reference instant, then slot code. -/
def outcomeBefore (a b : RunOutcome) : Bool :=
  decide (a.refInstant < b.refInstant) || (a.refInstant == b.refInstant && decide (a.slot ≤ b.slot))

/-- Inserts in that order, after its equals. -/
def insertOutcome (o : RunOutcome) : List RunOutcome → List RunOutcome
  | [] => [o]
  | p :: ps => if outcomeBefore p o then p :: insertOutcome o ps else o :: p :: ps

/-- The window signature (R454). -/
def windowSig (l : EngineNo) (w : LockWindow) (os : List RunOutcome) : Dword :=
  let sorted := os.foldl (fun acc o => insertOutcome o acc) []
  misrFold (sorted.foldl (fun sig o => misrFold sig o.sig) misrSeed) (closeWord l w)

/-- Outcomes of a die that belong to a window (R452). -/
def State.windowRuns (s : State) (d : CtrlId) (l : EngineNo) (w : LockWindow) : List RunOutcome :=
  (s.die d).outcomes.filter (fun o => o.lane == l && decide (w.lo ≤ o.refInstant ∧ o.refInstant < w.hi))

/-- Channels of the runs of a window (R460). -/
def runChannels (os : List RunOutcome) : BitVec 8 :=
  os.foldl (fun m o => if o.slot < 128 then m ||| BitVec.ofNat 8 (2 ^ o.channel.val) else m) 0

/-- Has the die closed the window? -/
def LockWindow.closed (w : LockWindow) : CtrlId → Bool
  | .a => w.closedA
  | .b => w.closedB

/-- The window as a die closes it. -/
def LockWindow.close (w : LockWindow) (d : CtrlId) (os : List RunOutcome) : LockWindow :=
  let w1 := { w with affected := w.affected ||| runChannels os, pseudo := w.pseudo || os.any (fun o => o.slot == 128) }
  match d with
  | .a => { w1 with closedA := true, runs := os.map (fun o => (o.slot, o.frame)) }
  | .b => { w1 with closedB := true }

/-- WINDOW_CLOSE (R454): the die has the outcome of every run of the lane's oldest window it has not closed: it sends lane, window channel, last frame and signature to SAFE. -/
def execWindowClose (die : CtrlId) (lane : EngineNo) (s : State) : Out :=
  match s.lock.lanes[lane].windows.find? (fun w => !w.closed die) with
  | none => .next s
  | some w =>
    if s.openRuns die lane w.hi = [] then
      let os := s.windowRuns die lane w
      let sig := windowSig lane w os
      let s1 := s.modCtrl die (fun d => { d with outcomes := d.outcomes.filter (fun o => o.lane != lane || !decide (o.refInstant < w.hi)) })
      let s2 := s1.modLane lane (fun k => { k with windows := k.windows.map (fun v => if v = w then w.close die os else v) })
      .next (s2.sendDie die.die .safe "window" [lane.val, w.channel.val, w.last, sig.toNat])
    else .next s

/-! ## The comparator -/

/-- LANE_PLAN (R455): SAFE takes the plan CTRL-A sent for a lane over DL_12; none crosses the link once it has failed (R32). -/
def execLanePlan (lane : EngineNo) (s : State) : Out :=
  .next (if ¬ s.linkUp .ctrlA .safe then s else s.modLane lane (fun k => { k with
    plan := k.channel.map (fun w => (w, s.winN, s.wMax w k.progs))
    lastDecision := if k.plan.isSome then k.lastDecision else s.now }))

/-- WINDOW_RECORD (R456): a signature record reaches the comparator over DL_12 or DL_13; one that meets no undecided window is ignored, and none crosses a failed link (R32). -/
def execWindowRecord (die : CtrlId) (lane : EngineNo) (ch : Channel) (frame : BitVec 32) (sig : BitVec 64) (s : State) : Out :=
  .next (if ¬ s.linkUp die.die .safe then s else s.modLane lane (fun k => { k with windows := k.windows.map (fun w =>
    if w.channel = ch ∧ w.last = frame.toNat then
      (match die with
       | .a => { w with recA := some sig }
       | .b => { w with recB := some sig })
    else w) }))

/-- Enabled channels, as a mask. -/
def State.enabledMask (s : State) : BitVec 8 :=
  (idxs 8).foldl (fun m c => if s.ch[c].enabled then m ||| BitVec.ofNat 8 (2 ^ c.val) else m) 0

/-- LOCK_REACT of the safety configuration (R460): 0 SS1, 1 STO, 2 ASC; 3 is taken as STO, and so is a device without a configuration. -/
def State.lockReact (s : State) : Nat :=
  match s.tahr.image with
  | none => 1
  | some im => if fieldLe im 0x40 1 % 4 = 3 then 1 else fieldLe im 0x40 1 % 4

/-- The lockstep reaction is due on the affected channels: Tahr's next cycle starts it and holds its stop until the next cold start (R460, R461, R465). -/
def State.lockstepStop (s : State) (mask : BitVec 8) : State :=
  (idxs 8).foldl (fun s c =>
    if mask.getLsbD c.val then s.modTahrCh c (fun t => { t with lockStop := true }) else s) s

/-- A MISMATCH or a MISSING (R460, R461): the registers, the event, the reaction. -/
def State.lockEvent (s : State) (l : EngineNo) (w : Channel) (frame : Nat) (missing : Bool) (mask : BitVec 8) (last : Nat) : State :=
  let k := s.lock
  let s1 : State := { s with lock := { k with
    failed := true
    bad := k.bad ||| BitVec.ofNat 16 (2 ^ l.val)
    mismatches := if missing then k.mismatches else holdInc 0xFFFF k.mismatches
    missing := if missing then holdInc 0xFFFF k.missing else k.missing
    last := packFields [(28, l.val), (25, w.val), (24, b2n missing), (0, frame % 2 ^ 24)] } }
  let s2 := if missing then s1.raise 0x7002 l.val 14 [w32 w.val, w32 frame, w32 last]
    else s1.raise 0x7001 l.val 14 [w32 w.val, w32 frame, mask.zeroExtend 32, w32 last]
  s2.lockstepStop mask

/-- Which record of a window is absent: 1 CTRL-A's, 2 CTRL-B's, 3 both; 0 none. -/
def LockWindow.absent (w : LockWindow) : Nat := b2n w.recA.isNone + 2 * b2n w.recB.isNone

/-- Removes a decided window. -/
def State.dropWindow (s : State) (l : EngineNo) (w : LockWindow) : State :=
  s.modLane l (fun k => { k with windows := k.windows.filter (· != w), lastDecision := s.now })

/-- The channels a window's decision affects (R460). -/
def State.windowMask (s : State) (l : EngineNo) (w : LockWindow) : BitVec 8 :=
  let os := s.windowRuns .a l w ++ s.windowRuns .b l w
  let left := (s.openRuns .a l w.hi).foldl (fun m p => m ||| BitVec.ofNat 8 (2 ^ (s.slotOf .a p.1).channel.val)) (0 : BitVec 8)
  if w.pseudo || os.any (fun o => o.slot == 128) then s.enabledMask else w.affected ||| runChannels os ||| left

/-- Has 2 µs passed since the deadline of a run (R208, R456)? The deadlines of frames before the last one lie further back, and so does that of a pseudo-run, which has none. -/
def State.deadlinePast (s : State) (slot frame : Nat) : Bool :=
  if h : slot < 128 then
    let c := s.ch[(s.slotOf .a ⟨slot, h⟩).channel]
    let near := [(c.frame + 2 ^ 32 - 1) % 2 ^ 32, c.frame, (c.frame + 1) % 2 ^ 32].contains frame
    if c.running && near then
      match s.deadlineOf ⟨slot, h⟩ frame with
      | some t => decide (t + 800 ≤ s.now)
      | none => false
    else true
  else true

/-- Has 2 µs passed since the close instant (R454, R456): the ending boundary and the deadlines of its runs? -/
def State.decisionDue (s : State) (l : EngineNo) (w : LockWindow) : Bool :=
  decide (w.endAt + 800 ≤ s.now)
    && (s.openRuns .a l w.hi).all (fun p => s.deadlinePast p.1 p.2)
    && (w.runs ++ (s.windowRuns .a l w).map (fun o => (o.slot, o.frame))).all (fun p => s.deadlinePast p.1 p.2)

/-- What the comparator finds of two records (R456). -/
inductive Decision where
  | match_ | mismatch | missing
  deriving DecidableEq, Repr

/-- The comparator (R456): MISSING where a record is absent, else whether the signatures are equal. -/
def compareRecords (a b : Option Dword) : Decision :=
  match a, b with
  | some x, some y => if x = y then .match_ else .mismatch
  | _, _ => .missing

/-- WINDOW_DECISION (R456): the lane's oldest window is decided. -/
def execWindowDecision (lane : EngineNo) (s : State) : Out :=
  match s.lock.lanes[lane].windows with
  | [] => .next s
  | w :: _ =>
    if s.decisionDue lane w then
      let s1 := s.dropWindow lane w
      match compareRecords w.recA w.recB with
      | .missing => .next (s1.lockEvent lane w.channel w.last true (s.windowMask lane w) w.absent)
      | .match_ => .next s1
      | .mismatch => .next (s1.lockEvent lane w.channel w.last false (s.windowMask lane w) 0)
    else .next s

/-- LANE_TIMEOUT (R457): an active lane without a decision within W_max + 2 µs of its last one is MISSING for the window that was due. -/
def execLaneTimeout (lane : EngineNo) (s : State) : Out :=
  let k := s.lock.lanes[lane]
  match k.plan with
  | none => .next s
  | some (ch, n, wmax) =>
    if k.lastDecision + wmax + 800 ≤ s.now then
      match k.windows with
      | w :: _ => .next ((s.dropWindow lane w).lockEvent lane w.channel w.last true s.enabledMask w.absent)
      | [] => .next ((s.modLane lane (fun k => { k with lastDecision := s.now })).lockEvent lane ch ((k.first + n + 2 ^ 32 - 1) % 2 ^ 32) true s.enabledMask 3)
    else .next s

/-- A mismatch of every lane (R458), with cause 1. It is the decision of no window: the frame number it reports is a free value. -/
def State.mismatchAll (s : State) : State :=
  (idxs 16).foldl (fun s l =>
    let (f, s1) := s.fresh 32
    s1.lockEvent l ((s.lock.lanes[l].channel).getD 0) f.toNat false s.enabledMask 1) s

/-- Links whose failure ends the comparison: into or out of CTRL-B, and DL_12 and DL_13 (R30, R458). -/
def lockLinks : List Nat := linkCtrlB ++ [12]

/-- What R458 treats as a mismatch of every lane and has not been treated so yet. -/
def State.lockLost (s : State) : State :=
  let links := (idxs 27).filterMap (fun l => if s.links[l].failed && lockLinks.contains l.val && !s.lock.seenLinks.contains l.val then some l.val else none)
  let wires : BitVec 8 := BitVec.ofNat 8 (b2n s.wires.dieFault[(0 : Fin 8)] + 2 * b2n s.wires.dieFault[(1 : Fin 8)]) &&& ~~~s.lock.seenWires
  if links = [] ∧ wires = 0 then s
  else (({ s with lock := { s.lock with seenLinks := s.lock.seenLinks ++ links, seenWires := s.lock.seenWires ||| wires } } : State)).mismatchAll

/-- LOCK_STATUS. -/
def State.lockStatusReg (s : State) : Word := packFields [(31, b2n s.lock.failed), (30, b2n s.lock.testPass), (0, s.lock.bad.toNat)]
/-- LOCK_COUNT. -/
def State.lockCountReg (s : State) : Word := packFields [(16, s.lock.mismatches), (0, s.lock.missing)]

end Sys2Proof.Machine
end

