-- ==== Sys2Proof/Machine/Deliveries.lean ====
section
/-! DEFINITION. SSI requests (08_position_and_speed.md, R295 to R297), deliveries of SENSE as LINK and the control dies take them, and the DIE_FAULT wires (01_dies_and_paths.md, R29, R31; 07_current_and_voltage_sensing.md, R258, R273, R274; 12_protection_and_discharge.md, R413). -/

namespace Sys2Proof.Machine

/-- Is a request due (R296)? Its mark: the frame it is made for, or its number with CH 7. With a long lead the request for the frame after the next comes before the next boundary. A sample instant that a resync takes away makes no request. -/
def State.ssiDue (s : State) (d : Fin 2) (k : Fin 4) : Option Nat :=
  match s.pifChan d k with
  | none =>
    let n := s.now / (s.mono d k * 2)
    if (s.pif d k).lastReq = some n then none else some n
  | some c =>
    let f := (s.ch[c].frame + 1) % 2 ^ 32
    let g := (s.ch[c].frame + 2) % 2 ^ 32
    let last := (s.pif d k).lastReq
    let by_ := s.now + min 80 (s.fld (Reg.ssiTim d.val k.val) 0 8) * 100
    if ¬ s.ch[c].running ∨ last = some g ∨ s.ch[c].resyncAt.any (fun r => decide (r.1 ≤ s.nextSample c)) then none
    else if s.nextSample c ≤ by_ ∧ last ≠ some f then some f
    else if s.nextSample c + s.lenNext c ≤ by_ then some g
    else none

/-- SSI_REQUEST (R295 to R297): a request is made, or skipped with reason 5. -/
def execSsiRequest (die : Fin 2) (pif : Fin 4) (dataHigh : Bool) (s : State) : Out :=
  s.onPif die pif 2 (fun s =>
    match s.ssiDue die pif with
    | none => s
    | some n =>
      let s1 := s.modPif die pif (fun p => { p with lastReq := some n })
      if !dataHigh || decide (s.now < (s.pif die pif).busyUntil) || (s.pif die pif).wordAt.isSome then s1.rejectPos die pif 5
      else
        let last := s.now + s.ssiCycles die pif * s.ssiClk die pif   -- where R310's example and R319 count MONO from (assumption 85)
        s1.modPif die pif (fun q => { q with wordAt := some s.now, monoAt := some (last + s.mono die pif), busyUntil := last + s.mono die pif }))

/-- The temperatures that a finished conversion of an entry has updated are judged (R413 cause 5). -/
def State.judgeNtc (s : State) (d : Fin 2) (c e : Nat) : State :=
  (List.range 16).foldl (fun s k =>
    let w := s.reg (Reg.ntcCfg d.val k)
    if bitAt w 31 && bitsAt w 28 3 == c && bitsAt w 23 5 == e then s.otMotor d k else s) s

/-- CONVERSION_END (R258, R263, R265, R267): the conversion in hand, other than an urgent one, ends with the held voltage. -/
def execConversionEnd (die : Fin 2) (conv : Fin 6) (nanovolts : Int) (s : State) : Out :=
  if ¬ s.hasDie (senseDie die) then .next s
  else
    let s1 := s.conversionEnd die conv nanovolts
    match (s.conv die conv).work with
    | .pass p => if s.now < p.convStart + convTicks (s.acq die conv p.entry) then .next s1 else .next (s1.judgeNtc die conv.val p.entry)
    | _ => .next s1

/-- MEAS_DELIVERY (R273, R274, R276, R308): a group whose members are ready and whose turn has come is delivered; the first group reaches the protection unit, and the position feedback of the instant follows the last one. -/
def execMeasDelivery (ch : Channel) (second : Bool) (s : State) : Out :=
  if ¬ s.hasChannel ch then .next s
  else if s.groupReady ch second ∧ s.groupTurn ch second ∧ s.groupUnsent ch second then
    let s1 := s.sendGroup ch second
    let s2 := if second then s1 else s1.protOnMeas ch
    let before := fun (q : Channel) => (s2.die .a).stampOf (chBase q + 0x40)
    let s3 := s2.sendPosfbs ch
    .next ((idxs 8).foldl (fun s q =>
      if senseOf q == senseOf ch && (s3.die .a).stampOf (chBase q + 0x40) != before q then s.protOnPosfb q else s) s3)
  else .next s

/-- Chamois's loss latch (R481): until the next cold start. -/
def State.chamoisLoss (s : State) (cause : Nat) : State :=
  if s.chamois.loss then s
  else (({ s with chamois := { s.chamois with loss := true } } : State).raise 0x7122 6 15 [w32 cause]).settle

/-- DIE_FAULT (R29, R30, R49, R458, R481): the wire of a die asserts at SAFE and LINK. -/
def execDieFault (die : Die) (s : State) : Out :=
  if ¬ s.hasDie die then .next s
  else
    let s1 : State := { s with wires := { s.wires with dieFault := vUpd s.wires.dieFault die.ix (fun _ => true) } }
    let s2 := (s1.dieFaultDrives die).lockLost
    .next (if die = .safe then s2.chamoisLoss 1 else s2)

end Sys2Proof.Machine
end

