-- ==== Sys2Proof/Machine/Tahr.lean ====
section
/-! DEFINITION. Tahr and Chamois (14_functional_safety.md, R465 to R498): safety inputs, pairs, functions, Chamois latches, drive functions, diverse measurements, torque monitoring, safety outputs, BLEAT and the safety mirror. -/

namespace Sys2Proof.Machine

/-! ## The safety configuration in force (R499) -/

/-- The confirmed image; no byte while there is none. -/
def State.sImg (s : State) : List Byte := s.tahr.image.getD []
/-- A field of the global block. -/
def State.sGlobal (s : State) (off n : Nat) : Nat := fieldLe s.sImg (0x40 + off) n
/-- A field of pair record k. -/
def State.sPair (s : State) (k off n : Nat) : Nat := fieldLe s.sImg (0x80 + 16 * k + off) n
/-- A field of function record f. -/
def State.sFn (s : State) (f off n : Nat) : Nat := fieldLe s.sImg (0x180 + 16 * f + off) n
/-- A field of output record k. -/
def State.sOut (s : State) (k off n : Nat) : Nat := fieldLe s.sImg (0x280 + 16 * k + off) n
/-- A field of the channel record of CH_n. -/
def State.sChan (s : State) (c off n : Nat) : Nat := fieldLe s.sImg (0x400 + 1184 * c + off) n
/-- An F32 field of a channel record. -/
def State.sChanF (s : State) (c : Channel) (off : Nat) : Word := w32 (s.sChan c.val off 4)

/-- Updates Tahr. -/
def State.modTahr (s : State) (f : Tahr → Tahr) : State := { s with tahr := f s.tahr }
/-- Updates a pair. -/
def State.modSiPair (s : State) (k : Fin 16) (f : SiPair → SiPair) : State := s.modTahr (fun t => { t with pairs := vUpd t.pairs k f })
/-- Updates a function. -/
def State.modFn (s : State) (k : Fin 16) (f : SafetyFn → SafetyFn) : State := s.modTahr (fun t => { t with fns := vUpd t.fns k f })
/-- Updates a safety output. -/
def State.modSo (s : State) (k : Fin 4) (f : SafetyOut → SafetyOut) : State := s.modTahr (fun t => { t with outs := vUpd t.outs k f })
/-- Updates Chamois. -/
def State.modChamois (s : State) (f : Chamois → Chamois) : State := { s with chamois := f s.chamois }

/-- Is the input at run level (R467)? `mode` 2 is ANTIV. -/
def atRun (mode : Nat) (isB high : Bool) : Bool := high != (mode == 2 && isB)

/-- The pairs of a function (R472): two for TWO_HAND. -/
def fnPairs (type p1 p2 : Nat) : List (Fin 16) := if type = 4 then [finOf 15 p1, finOf 15 p2] else [finOf 15 p1]

/-- Sets one bit of a level register. -/
def setBit (m : BitVec 32) (i : Nat) (on : Bool) : BitVec 32 := if on then m ||| BitVec.ofNat 32 (2 ^ i) else m &&& ~~~(BitVec.ofNat 32 (2 ^ i))

/-- Sets one bit of a mask. -/
def setBit16 (m : BitVec 16) (i : Nat) (on : Bool) : BitVec 16 := if on then m ||| BitVec.ofNat 16 (2 ^ i) else m &&& ~~~(BitVec.ofNat 16 (2 ^ i))

/-! ## Chamois -/

/-- Every input of a function is at run level on Chamois's own comparators (R478). -/
def State.chamoisRun (s : State) (ps : List Byte) (f : Nat) : Bool :=
  (fnPairs (chamoisFn ps f 0 1) (chamoisFn ps f 1 1) (chamoisFn ps f 2 1)).all (fun k =>
    let m := chamoisPair ps k.val 0 1
    atRun m false (s.chamois.levels.getLsbD (2 * k.val)) && atRun m true (s.chamois.levels.getLsbD (2 * k.val + 1)))

/-- Does Chamois evaluate this function: ESTOP, GUARD, OSSD or TWO_HAND? -/
def chamoisActs (ps : List Byte) (f : Nat) : Bool := decide (1 ≤ chamoisFn ps f 0 1 ∧ chamoisFn ps f 0 1 ≤ 4)

/-- Chamois latches a function (R477): its stop is asserted at once for CAT 0, T_CH later for CAT 1. -/
def State.latchFn (s : State) (f : Fin 16) (atOnce : Bool) : State :=
  s.modChamois (fun x => { x with
    latched := vUpd x.latched f (fun _ => some s.now)
    stopped := setBit16 x.stopped f.val (atOnce || x.stopped.getLsbD f.val)
    released := setBit16 x.released f.val false })

/-- Chamois clears a latch (R478). -/
def State.unlatchFn (s : State) (f : Fin 16) : State :=
  s.modChamois (fun x => { x with latched := vUpd x.latched f (fun _ => none), stopped := setBit16 x.stopped f.val false, released := setBit16 x.released f.val false })

/-- Chamois judges its latches after a change of its inputs or a release (R477, R478): a latch clears once both conditions hold, in whichever order they came. -/
def State.chamoisEval (s : State) : State :=
  match s.chamois.params with
  | none => s
  | some ps =>
    ((idxs 16).foldl (fun s f =>
      if !chamoisActs ps f.val then s
      else if !s.chamoisRun ps f.val then
        (if s.chamois.latched[f].isSome then s else s.latchFn f (chamoisFn ps f.val 3 1 == 0))
      else if s.chamois.latched[f].isSome && s.chamois.released.getLsbD f.val then s.unlatchFn f
      else s) s).settle

/-- The switch point in mV of a threshold type at the SAFE input stage or at Chamois's comparator (R466). -/
def switchPoint (chamois : Bool) (type : Nat) : Option Nat :=
  if type = 1 then some (if chamois then 9000 else 10000)
  else if type = 3 then some (if chamois then 7000 else 8000)
  else none

/-- THRESH of the pair of an input, as the stage that reads it holds it. -/
def State.thresh (s : State) (chamois : Bool) (input : Fin 32) : Nat :=
  if chamois then s.chamois.params.elim 0 (fun ps => chamoisPair ps (input.val / 2) 1 1) else s.sPair (input.val / 2) 1 1

/-- Does a level lie between the OFF and ON limits of IEC 61131-2 for a threshold type (R466)? -/
def betweenLimits (type : Nat) (millivolts : Int) : Bool := decide (5000 < millivolts ∧ millivolts < if type = 1 then 15000 else 11000)

/-- How an input of this voltage is read: high above its switch point, but low anywhere between the limits of IEC 61131-2 (R466; assumption 83); none where its pair has no threshold type. -/
def State.readsHigh (s : State) (chamois : Bool) (input : Fin 32) (millivolts : Int) : Option Bool :=
  let type := s.thresh chamois input
  (switchPoint chamois type).map (fun p => decide ((p : Int) < millivolts) && !betweenLimits type millivolts)

/-- The level of an input; that of a pair without a threshold type is a free value. -/
def State.inputLevel (s : State) (chamois : Bool) (input : Fin 32) (millivolts : Int) : Bool × State :=
  match s.readsHigh chamois input millivolts with
  | some b => (b, s)
  | none =>
    let (v, s1) := s.fresh 1
    (v == 1, s1)

/-- The SAFE stage or Chamois accepts the level of an input (R467, R477). -/
def State.acceptLevel (s : State) (chamois : Bool) (input : Fin 32) (high : Bool) : State :=
  if chamois then (s.modChamois (fun x => { x with levels := setBit x.levels input.val high })).chamoisEval
  else if s.tahr.levels.getLsbD input.val = high then s
  else s.modTahr (fun t => { t with levels := setBit t.levels input.val high, levelAt := vUpd t.levelAt input (fun _ => s.now) })

/-- FILT of the pair of an input in ticks, as the stage that reads it holds it (R467). -/
def State.inputFilt (s : State) (chamois : Bool) (input : Fin 32) : Nat :=
  4000 * (if chamois then s.chamois.params.elim 0 (fun ps => chamoisPair ps (input.val / 2) 4 2) else s.sPair (input.val / 2) 4 2)

/-- SAFE_LEVEL_CHANGE (R466, R467, R477): an input has stood at a voltage for `ticks`; once that is FILT, the SAFE stage or Chamois accepts the level it reads. -/
def execSafeLevelChange (chamois : Bool) (input : Fin 32) (millivolts : Held Int) (s : State) : Out :=
  let (high, s1) := s.inputLevel chamois input millivolts.value
  .next (if millivolts.ticks < s.inputFilt chamois input then s else s1.acceptLevel chamois input high)

/-- T_CH_EXPIRY (R477): T_CH after a CAT 1 latch Chamois asserts STO_A_n. -/
def execTChExpiry (f : Fin 16) (s : State) : Out :=
  match s.chamois.params, s.chamois.latched[f] with
  | some ps, some t =>
    if t + chamoisFn ps f.val 8 2 * 10 * msTicks ≤ s.now then
      .next ((s.modChamois (fun x => { x with stopped := setBit16 x.stopped f.val true })).settle)
    else .next s
  | _, _ => .next s

/-- FUNCTION_RELEASE (R32, R478): Chamois takes a release Tahr sent over DL_26. -/
def execFunctionRelease (f : Fin 16) (s : State) : Out :=
  if s.chamois.releases.contains f.val ∧ s.linkUp .safe .link then
    .next ((s.modChamois (fun x => { x with releases := x.releases.filter (· != f.val), released := setBit16 x.released f.val true })).chamoisEval)
  else .next s

/-- CHAMOIS_FAULT (R480, R482): every channel is held in STO until the next cold start. -/
def State.chamoisFaultAt (s : State) (reason : Nat) : State :=
  if s.tahr.chamoisFault then s else (s.modTahr (fun t => { t with chamoisFault := true })).raise 0x7121 3 15 [w32 reason]

/-- CHAMOIS_PARAMETERS (R480): Chamois takes its block from Tahr over DL_26 and returns it over DL_25; neither crosses a failed link (R32). `equal`: what came back is what was sent. Every function starts latched, so that a release of Tahr ends each (assumption 41). -/
def execChamoisParameters (equal : Bool) (s : State) : Out :=
  match s.tahr.image with
  | none => .next s
  | some im =>
    if ¬ s.linkUp .safe .link then .next s
    else if equal then
      let ps := (im.drop 0x80).take 512
      let s1 := s.modChamois (fun x => { x with
        params := some ps
        latched := Vector.ofFn (fun f => if chamoisActs ps f.val then some s.now else none)
        stopped := (idxs 16).foldl (fun m f => setBit16 m f.val (chamoisActs ps f.val)) 0
        released := 0 })
      .next s1.chamoisEval
    else .next (if s.linkUp .link .safe then s.chamoisFaultAt 1 else s)

/-- TAHR_STATUS (R481): a status message arrives at Chamois over DL_26. -/
def execTahrStatus (valid : Bool) (s : State) : Out :=
  if valid ∧ s.linkUp .safe .link then .next (s.modChamois (fun x => { x with lastStatus := s.now })) else .next s

/-- TAHR_LOST (R481): no valid status for 1 ms. -/
def execTahrLost (s : State) : Out :=
  if s.pwr.started ∧ s.pwr.rung ≤ 3 ∧ s.chamois.lastStatus + msTicks ≤ s.now then .next (s.chamoisLoss 0) else .next s

/-! ## Test pulses -/

/-- TP_PERIOD and TP_WIDTH in ticks. -/
def State.tpPeriod (s : State) : Nat := max 1 (s.sGlobal 2 1) * 10 * msTicks
/-- TP_WIDTH in ticks. -/
def State.tpWidth (s : State) : Nat := s.sGlobal 1 1 * 4000

/-- Start of the last pulse of TPO_t at or before now (R468). -/
def State.pulseStart (s : State) (t : Fin 4) : Option Nat :=
  let p := s.tpPeriod
  let off := t.val * p / 4
  if s.now < off then none else some ((s.now - off) / p * p + off)

/-- TEST_PULSE (R468). -/
def execTestPulse (t : Fin 4) (s : State) : Out :=
  match s.tahr.image, s.pulseStart t with
  | some _, some at_ =>
    if s.tahr.pulseAt[t] = some at_ ∨ at_ + s.tpWidth ≤ s.now then .next s
    else .next (s.modTahr (fun x => { x with tpoLow := x.tpoLow ||| BitVec.ofNat 4 (2 ^ t.val), pulseAt := vUpd x.pulseAt t (fun _ => some at_) }))
  | _, _ => .next s

/-- TEST_PULSE_SAMPLE (R466, R468): the unfiltered voltages of SI_00 to SI_31 in mV. -/
def execTestPulseSample (t : Fin 4) (millivolts : List Int) (s : State) : Out :=
  match s.tahr.pulseAt[t] with
  | none => .next s
  | some at_ =>
    if s.tahr.tpoLow.getLsbD t.val ∧ at_ + s.tpWidth - 8000 ≤ s.now then
      .next ((idxs 16).foldl (fun s k =>
        let bad := fun (j : Nat) => s.sPair k.val (2 + j) 1 == t.val && s.tahr.levels.getLsbD (2 * k.val + j)
          && s.readsHigh false (finOf 31 (2 * k.val + j)) (millivolts.getD (2 * k.val + j) 0) == some true
        if s.sPair k.val 0 1 ≠ 0 ∧ (bad 0 || bad 1) then s.modSiPair k (fun p => { p with testFault := true }) else s) s)
    else .next s

/-- TEST_PULSE_END (R468). -/
def execTestPulseEnd (t : Fin 4) (s : State) : Out :=
  match s.tahr.pulseAt[t] with
  | none => .next s
  | some at_ =>
    if at_ + s.tpWidth ≤ s.now then .next (s.modTahr (fun x => { x with tpoLow := x.tpoLow &&& ~~~(BitVec.ofNat 4 (2 ^ t.val)) })) else .next s

/-! ## Pairs -/

/-- What one cycle makes of a pair (R470). -/
def pairStep (p : SiPair) (a b : Bool) (ta tb discT now : Nat) : SiPair :=
  let level := fun (r : Bool) => if r then PairState.run else PairState.safe
  let fault := fun (n : Nat) => { p with state := .fault, cause := n }
  let differ := fun (fromRun : Bool) =>
    let first := a != fromRun
    { p with state := .disc, cause := 0, firstA := first, fromRun := fromRun, discAt := if first then ta else tb }
  if p.testFault ∧ p.state ≠ .fault then { fault 3 with testFault := false }
  else
    let q := { p with testFault := false }
    match p.state with
    | .run => if a && b then q else if a || b then differ true else { q with state := .safe, cause := 0 }
    | .safe => if a && b then { q with state := .run, cause := 0 } else if a || b then differ false else q
    | .disc =>
      let first := if p.firstA then a else b
      let other := if p.firstA then b else a
      let tOther := if p.firstA then tb else ta
      if first = p.fromRun then fault 2
      else if other = first ∧ tOther ≤ p.discAt + discT then { q with state := level first, cause := 0 }
      else if p.discAt + discT ≤ now then fault 1
      else q
    | .fault => if a || b then q else { q with state := .safe, cause := 0 }

/-- One pair in a cycle: its state, SI_PAIR_FAULT, and whether it gives a valid reset (R470, R474). -/
def State.pairCycle (s : State) (k : Fin 16) : State × Bool :=
  let mode := s.sPair k.val 0 1
  if mode = 0 then (s, false)
  else
    let t := s.tahr
    let p := t.pairs[k]
    let ia : Fin 32 := ⟨2 * k.val, by omega⟩
    let ib : Fin 32 := ⟨2 * k.val + 1, by omega⟩
    let q := pairStep p (atRun mode false (t.levels.getLsbD ia.val)) (atRun mode true (t.levels.getLsbD ib.val)) t.levelAt[ia] t.levelAt[ib]
      (s.sPair k.val 6 2 * 10 * msTicks) s.now
    let ran := if p.state = .run ∧ q.state ≠ .run then some (s.now - p.runAt) else p.ranFor
    let reset := q.state == .safe && p.state != .safe && ran.any (fun d => decide (40000000 ≤ d ∧ d ≤ 1200000000))
    let q1 := { q with
      runAt := if q.state = .run ∧ p.state ≠ .run then s.now else p.runAt
      ranFor := if q.state = .disc then ran else none }
    let s1 := s.modSiPair k (fun _ => q1)
    (if q.state = .fault ∧ p.state ≠ .fault then s1.raise 0x7101 3 10 [w32 k.val, w32 q.cause] else s1, reset)

/-- Every pair of a cycle; the pairs that give a reset. -/
def State.pairsCycle (s : State) : State × List Nat :=
  (idxs 16).foldl (fun x k =>
    let (s1, r) := x.1.pairCycle k
    (s1, if r then x.2 ++ [k.val] else x.2)) (s, [])

/-! ## Functions -/

/-- A function enters STOPPED (R473, R476). -/
def State.fnStop (s : State) (f : Fin 16) : State :=
  if s.tahr.fns[f].state = .stopped then s
  else (s.modFn f (fun x => { x with state := .stopped })).raise 0x7102 3 8 [w32 f.val, w32 (s.sFn f.val 0 1), w32 (s.sFn f.val 4 1)]

/-- A function enters PERMIT: its release goes to Chamois (R473, R478). -/
def State.fnPermit (s : State) (f : Fin 16) : State :=
  let s1 := (s.modFn f (fun x => { x with state := .permit, needReset := false, armed := false })).raise 0x7103 3 3 [w32 f.val]
  if s1.linkUp .safe .link then
    (s1.modChamois (fun x => { x with releases := x.releases.filter (· != f.val) ++ [f.val] })).sendDie .safe .link "function_release" [f.val]
  else s1

/-- A TWO_HAND function in a cycle (R475). -/
def State.twoHand (s : State) (f : Fin 16) (p q : SiPair) : State :=
  let s0 := if p.state = .safe ∧ q.state = .safe then s.modFn f (fun x => { x with armed := true }) else s
  if p.state ≠ .run ∨ q.state ≠ .run then s0.fnStop f
  else if s0.tahr.fns[f].state = .permit ∨ ¬ s0.tahr.fns[f].armed then s0
  else
    let dt := (p.runAt - q.runAt) + (q.runAt - p.runAt)
    if dt ≤ 200000000 then s0.fnPermit f
    else (s0.modFn f (fun x => { x with armed := false })).raise 0x7104 3 5 [w32 f.val, w32 (dt / msTicks)]

/-- The RESET function that a function names has given a valid reset (R474). -/
def State.resetOf (s : State) (f : Nat) (resets : List Nat) : Bool :=
  let r := s.sFn f 6 1
  decide (r < 16) && s.sFn r 0 1 == 5 && resets.contains (s.sFn r 1 1 % 16)

/-- A function in a cycle (R472 to R475). -/
def State.fnCycle (s : State) (f : Fin 16) (resets : List Nat) : State :=
  let ty := s.sFn f.val 0 1
  let pair := fun (k : Fin 16) => s.tahr.pairs[k]
  if ty = 0 ∨ 5 ≤ ty then s
  else
    match fnPairs ty (s.sFn f.val 1 1) (s.sFn f.val 2 1) with
    | [p, q] => s.twoHand f (pair p) (pair q)
    | [p] =>
      if (pair p).state ≠ .run then s.fnStop f
      else
        let manual := (s.sFn f.val 5 1).testBit 0 || s.tahr.fns[f].needReset
        match s.tahr.fns[f].state with
        | .permit => s
        | .stopped => if ¬ manual ∨ s.resetOf f.val resets then s.fnPermit f else s.modFn f (fun x => { x with state := .waitReset })
        | .waitReset => if s.resetOf f.val resets then s.fnPermit f else s
    | _ => s

/-- Tahr's demand of a function against Chamois's latch as DL_25 reports it (R32, R482): they may differ for FILT + 1 ms. -/
def State.compareLatch (s : State) (f : Fin 16) : State :=
  let ty := s.sFn f.val 0 1
  if ty = 0 ∨ 5 ≤ ty ∨ s.chamois.params.isNone ∨ ¬ s.linkUp .link .safe then s
  else if s.chamois.latched[f].isSome = (s.tahr.fns[f].state != .permit) then s.modFn f (fun x => { x with differs := none })
  else
    let since := s.tahr.fns[f].differs.getD s.now
    let filt := (fnPairs ty (s.sFn f.val 1 1) (s.sFn f.val 2 1)).foldl (fun m k => max m (s.sPair k.val 4 2 * 4000)) 0
    let s1 := s.modFn f (fun x => { x with differs := some since })
    if since + filt + msTicks < s.now then s1.chamoisFaultAt 3 else s1

/-! ## Diverse measurements (R489 to R491) -/

/-- The tag number of quantity i of a channel: 0 ia, 1 ib, 2 ic, 3 udc. -/
def State.tagOf (s : State) (c : Channel) (i : Nat) : Nat := s.sChan c.val (4 + i) 1

/-- MISS_T in ticks. -/
def State.missT (s : State) (c : Channel) : Nat := s.sChan c.val 68 2 * 40000

/-- Tahr's own correction word of an input of SENSE-d, numbered 32 c + j (R34, R648); the reset value where kind 1 is empty (R646). -/
def State.tahrCorr (s : State) (d : Fin 2) (input : Nat) : Word :=
  if s.tahr.cal.isEmpty then 0x8000 else wordLe s.tahr.cal (0x100 + 4 * (192 * d.val + input))

/-- The values of one tag that have arrived since the last cycle: time and corrected code (R489). -/
def State.tagValues (s : State) (c : Channel) (i : Nat) : List (Nat × Int) :=
  let d := senseOf c
  let t := s.tagOf c i
  if t = 0 then []
  else (s.sense[d]).tags.filterMap (fun v => if v.1 = t then some (v.2.2.1, (correct (s.tahrCorr d v.2.2.2.1) v.2.1).1) else none)

/-- When the last value of one tag arrived since the last cycle (R490). -/
def State.tagArrival (s : State) (c : Channel) (i : Nat) : Option Nat :=
  ((s.sense[senseOf c]).tags.filterMap (fun v => if v.1 = s.tagOf c i then some v.2.2.2.2 else none)).getLast?

/-- SAFE_DATA_LOST of a quantity (R490). -/
def State.dataLostAt (s : State) (c : Channel) (kind tag : Nat) : State :=
  (s.modTahrCh c (fun t => { t with dataLost := true })).raise 0x7114 c.val 12 [w32 kind, w32 tag]

/-- Arrivals and losses of the tags of a channel (R490). -/
def State.tagCycle (s : State) (c : Channel) : State :=
  (idxs 4).foldl (fun s i =>
    let tag := s.tagOf c i.val
    if tag = 0 then s
    else
      let vs := s.tagValues c i.val
      let x := s.tahr.ch[c]
      match vs.getLast? with
      | some v => s.modTahrCh c (fun t => { t with
          tagAt := vUpd t.tagAt i (fun _ => (s.tagArrival c i.val).getD s.now)
          tagLost := vUpd t.tagLost i (fun _ => false)
          udc := if i = 3 then v.2 else t.udc })
      | none =>
        if ¬ x.tagLost[i] ∧ x.tagAt[i] + s.missT c ≤ s.now then
          (s.modTahrCh c (fun t => { t with tagLost := vUpd t.tagLost i (fun _ => true) })).dataLostAt c 1 tag
        else s) s

/-- Valid sensor angles of the channel's source since the last cycle, oldest first: time and angle in 2^-32 turn (R491). -/
def State.sourceAngles (s : State) (c : Channel) : List (Nat × Nat) :=
  match s.sChan c.val 0 1, s.pifOf c with
  | 1, some k =>
    let lo := s.sChan c.val 70 2
    let hi := s.sChan c.val 72 2
    (s.pif (senseOf c) k).bSafe.filterMap (fun v =>
      let m := (v.1 * v.1 + v.2.1 * v.2.1).toNat
      if lo * lo ≤ m ∧ m ≤ hi * hi then some (v.2.2, (fatan2 (f32OfInt v.1) (f32OfInt v.2.1)).val.toNat) else none)
  | 2, some k => (s.pif (senseOf c) k).ssiSafe.filterMap (fun w => if w.good then some (w.tR, (w.theta % 2 ^ 32).toNat) else none)
  | _, _ => []

/-- The unwrapped angle that follows a history (R491). -/
def unwrap (hist : List (Nat × Int)) (t a : Nat) : List (Nat × Int) :=
  match hist with
  | [] => [(t, (a : Int))]
  | (_, u) :: _ =>
    let d := (w32 a - BitVec.ofInt 32 u).toInt
    (t, u + d) :: hist

/-- A history keeps everything less than 1 ms before its latest value, and one value before that (R491). -/
def trimAngles (hist : List (Nat × Int)) : List (Nat × Int) :=
  let recent := hist.takeWhile (fun p => decide ((hist.head?.elim 0 (·.1)) < p.1 + msTicks))
  recent ++ (hist.drop recent.length).take 1

/-- The rate over the last millisecond: change of the unwrapped angle and the ticks it took. -/
def angleRate (hist : List (Nat × Int)) : Option (Int × Nat) :=
  match hist with
  | [] => none
  | (t1, u1) :: _ =>
    match hist.find? (fun p => decide (p.1 + msTicks ≤ t1)) with
    | some (t0, u0) => some (u1 - u0, t1 - t0)
    | none => none

/-- v in mechanical rpm (R491), rounded once. -/
def rateRpm (r : Int × Nat) (cycles : Nat) : Word := f32OfRat (r.1 * 60 * 400000000) (2 ^ 32 * r.2 * max 1 cycles)

/-- The speed source of a channel in a cycle (R491). -/
def State.sourceCycle (s : State) (c : Channel) : State :=
  if s.sChan c.val 0 1 = 0 then s.modTahrCh c (fun t => { t with speedOk := false, angles := [], sourceLost := false })
  else
    let as := s.sourceAngles c
    let x := s.tahr.ch[c]
    let hist := trimAngles (as.foldl (fun h a => unwrap h a.1 a.2) x.angles)
    let at_ := (as.getLast?).elim x.sourceAt (·.1)
    let lost := decide (at_ + s.missT c ≤ s.now)
    let rate := angleRate hist
    let s1 := s.modTahrCh c (fun t => { t with
      angles := if lost then [] else hist
      sourceAt := at_
      sourceLost := lost
      speedOk := !lost && rate.isSome
      speed := rate.elim t.speed (fun r => rateRpm r (s.sChan c.val 9 1)) })
    if lost ∧ ¬ x.sourceLost then s1.dataLostAt c 2 0 else s1

/-- v, or NaN when it is not valid. -/
def TahrChan.v (t : TahrChan) : Word := if t.speedOk then t.speed else f32NaN

/-! ## Torque monitoring (R492, R493) -/

/-- Electrical angle of the channel at a time, extrapolated by v (R333, R491, R492). -/
def State.thetaAt (s : State) (c : Channel) (t : Nat) : Word :=
  let x := s.tahr.ch[c]
  let pp := s.sChan c.val 8 1
  let cy := max 1 (s.sChan c.val 9 1)
  match x.angles with
  | [] => w32 (s.sChan c.val 12 4)
  | (t1, u1) :: _ =>
    let u := match angleRate x.angles with
      | some (d, n) => u1 + Int.fdiv (d * ((t : Int) - (t1 : Int))) (n : Int)
      | none => u1
    let m := (Int.fmod u ((cy * 2 ^ 32 : Nat) : Int)).toNat
    w32 (pp * m / cy + s.sChan c.val 12 4)

/-- The current samples of a cycle in A, with their times (R489): the values of the three current tags in the order of arrival. -/
def State.currentSamples (s : State) (c : Channel) : List (Nat × Word × Word × Word) :=
  let amp := fun (v : Int) => fTimes (f32OfInt v) (s.sChanF c 16)
  let a := s.tagValues c 0
  ((a.zip (s.tagValues c 1)).zip (s.tagValues c 2)).map (fun p => (p.1.1.1, amp p.1.1.2, amp p.1.2.2, amp p.2.2))

/-- Place on a table axis of 16 points: index at most 14 and the fraction, clamped at the edges. -/
def tqPlace (v v0 dv : Word) : Nat × Word :=
  let x := fLimit (fOver (fMinus v v0) dv) 0 0x41700000
  let i := min 14 (f32Floor x)
  (i, fMinus x (limF i))

/-- Linear interpolation. -/
def tqLerp (a b f : Word) : Word := fPlus a (fTimes f (fMinus b a))

/-- TQ(id, iq), bilinear and clamped (R492). -/
def State.tqAt (s : State) (c : Channel) (id iq : Word) : Word :=
  let (i, fi) := tqPlace id (s.sChanF c 48) (s.sChanF c 52)
  let (j, fj) := tqPlace iq (s.sChanF c 56) (s.sChanF c 60)
  let e := fun (i j : Nat) => s.sChanF c (160 + 4 * (16 * j + i))
  tqLerp (tqLerp (e i j) (e (i + 1) j) fi) (tqLerp (e i (j + 1)) (e (i + 1) (j + 1)) fi) fj

/-- Mean of a list of F32 values; of none, no value is stated. -/
def meanOf (vs : List Word) : Word := fOver (vs.foldl fPlus 0) (cvtuf (w32 vs.length)).val

/-- The estimate of one set: the mean over the cycle (R492). -/
def State.setEstimate (s : State) (c : Channel) : Word :=
  meanOf ((s.currentSamples c).map (fun x =>
    let (al, be, _) := clarke x.2.1 x.2.2.1 x.2.2.2
    let (id, iq) := park al be (s.thetaAt c x.1)
    s.tqAt c id iq))

/-- The current mean of method 2. -/
def State.currentMean (s : State) (c : Channel) : Word :=
  meanOf ((s.currentSamples c).map (fun x =>
    let (al, be, _) := clarke x.2.1 x.2.2.1 x.2.2.2
    fRoot (fPlus (fTimes al al) (fTimes be be))))

/-- The set 1 channel of a pair, and its sets (R493). -/
def State.torqueSets (s : State) (c : Channel) : Channel × List Channel :=
  let n := if s.sChan c.val 10 1 = 1 ∧ c.val % 2 = 1 then pairMate c else c
  if n.val % 2 = 0 ∧ s.sChan (pairMate n).val 10 1 = 1 then (n, [n, pairMate n]) else (n, [n])

/-- IMAX at |t_cmd| (R492). -/
def State.imaxAt (s : State) (c : Channel) (t : Word) : Word :=
  let top := s.sChanF c 64
  let e := fun (j : Nat) => s.sChanF c (80 + 4 * j)
  if fBelow top t then e 15
  else
    let (j, f) := tqPlace t 0 (fOver top 0x41700000)
    tqLerp (e j) (e (j + 1)) f

/-- Torque monitoring of a channel in a cycle (R492, R493). A cycle without a current sample has a free quantity. -/
def State.torqueCycle (s : State) (c : Channel) : State :=
  let m := s.sChan c.val 1 1
  let st := s.tahr.ch[c].prot
  if m = 0 ∨ ¬ (st = .run ∨ st = .ss1) then s.modTahrCh c (fun t => { t with violations := 0 })
  else
    let (n, sets) := s.torqueSets c
    let cmd := s.tahr.ch[n].cmdTorque
    let empty := sets.any (fun q => (s.currentSamples q).isEmpty)
    let (fv, sf) := s.fresh 32
    let q := if empty then fv
      else if m = 1 then (sets.map s.setEstimate).foldl fPlus 0
      else s.currentMean c
    let s1 := if empty then sf else s
    let bad :=
      if m = 1 then fBelow (fPlus (s.sChanF c 20) (fTimes (s.sChanF c 24) (fMagn cmd))) (fMagn (fMinus q cmd))
      else fBelow (s.imaxAt c (fMagn cmd)) q
    let old := s.tahr.ch[n].irefAt.elim true (fun t => decide (t + s.sChan c.val 30 2 * msTicks < s.now))
    let v := if bad ∨ (st = .run ∧ old) then s.tahr.ch[c].violations + 1 else 0
    let s2 := s1.modTahrCh c (fun t => { t with tEst := q, tCmd := cmd, violations := v })
    if s.sChan c.val 28 2 ≤ v ∧ 0 < v ∧ ¬ s.tahr.ch[c].tmFault then
      (s2.modTahrCh c (fun t => { t with tmFault := true })).raise 0x7113 c.val 13 [q, cmd]
    else s2

/-! ## Drive functions (R483 to R488) -/

/-- What a channel is held by: an ASC, an STO, an SS1 with its source of 0x7110 (R484). -/
structure Holds where
  asc : Bool
  sto : Bool
  ss1 : Option Nat

/-- Is this a function of a category that does not permit a channel (R476)? -/
def State.fnStops (s : State) (c : Channel) (cat : Nat) (f : Fin 16) : Bool :=
  let ty := s.sFn f.val 0 1
  decide (1 ≤ ty ∧ ty ≤ 4) && (s.sFn f.val 4 1).testBit c.val && s.sFn f.val 3 1 == cat && s.tahr.fns[f].state != .permit

/-- Functions of a category that do not permit a channel (R476). -/
def State.fnHolds (s : State) (c : Channel) (cat : Nat) : Bool := (idxs 16).any (fun f => s.fnStops c cat f)

/-- The causes of R484 that stand, with recovery and an empty calibration record (R646, R668). -/
def State.holds (s : State) (c : Channel) : Holds :=
  let t := s.tahr
  let x := t.ch[c]
  let fr := s.sChan c.val 3 1
  let tm := s.sChan c.val 2 1
  let react := s.lockReact
  { asc := ((x.dataLost || x.rampFault) && fr == 1) || (x.tmFault && tm == 2) || (x.lockStop && react == 2)
    sto := s.store.recovery || s.store.empty.getLsbD 1 || t.image.isNone || t.hold || t.held || t.chamoisFault || t.testFail || t.blocked || !t.healthy || x.soStop || x.wantSto
      || ((x.dataLost || x.rampFault) && fr != 1) || (x.tmFault && tm == 1) || (x.lockStop && react == 1) || s.fnHolds c 0
    ss1 := if s.fnHolds c 1 then some 0 else if x.wantSs1.isSome then x.wantSs1 else if x.lockStop && react == 0 then some 3
      else if x.tmFault && tm == 0 then some 4 else none }

/-- Tahr drives STO_B_n and requests STO_A_n over DL_26 (R32, R483). -/
def State.driveSto (s : State) (c : Channel) (on : Bool) : State :=
  let m : BitVec 8 := BitVec.ofNat 8 (2 ^ c.val)
  (({ s with sw := { s.sw with stoB := if on then s.sw.stoB ||| m else s.sw.stoB &&& ~~~m } } : State).modChamois (fun x =>
    { x with tahrReq := if ¬ s.linkUp .safe .link then x.tahrReq else if on then x.tahrReq ||| m else x.tahrReq &&& ~~~m })).settle

/-- Tahr drives ASC_REQ_n (R426, R483): LINK takes the channel to its safe state under R420 where it is in none, and repeats its choice. -/
def State.driveAscReq (s : State) (c : Channel) (on : Bool) : State :=
  let m : BitVec 8 := BitVec.ofNat 8 (2 ^ c.val)
  let s1 : State := { s with sw := { s.sw with ascReq := if on then s.sw.ascReq ||| m else s.sw.ascReq &&& ~~~m } }
  if on && !s.prot[c].state.isSafe then s1.protCause c 14 f32NaN else s1.repeatChoice c

/-- A stop is carried out on a channel (R483, R488): ASC_REQ_n first for ASC, then STO_B_n with the request of STO_A_n, and the report to LINK over DL_26 (R32). -/
def State.carryStop (s : State) (c : Channel) (asc ss1End : Bool) : State :=
  let x := s.tahr.ch[c]
  if x.stopped ∧ (x.asc || !asc) ∧ s.sw.stoB.getLsbD c.val then s.modTahrCh c (fun t => { t with ss1 := none })
  else
    let s1 := if asc then s.driveAscReq c true else s
    let s2 := s1.modTahrCh c (fun t => { t with
      stopped := true
      asc := t.asc && t.stopped || asc
      ss1 := none
      vEnv := 0
      stoAAt := t.stoAAt <|> some s.now })
    let s3 := s2.driveSto c true
    if ¬ s.linkUp .safe .link then s3 else if ss1End then s3.onSs1End c else s3.onSto c

/-- SS1 of a channel starts (R486). -/
def State.startSs1 (s : State) (c : Channel) (source : Nat) : State :=
  let v0 := s.tahr.ch[c].v
  let s1 := (s.modTahrCh c (fun t => { t with ss1 := some ⟨s.now, fMagn v0, 0⟩, vEnv := 0 })).raise 0x7110 c.val 10 [w32 source, v0]
  if s.linkUp .safe .link then s1.onSs1 c else s1

/-- A cycle of a running SS1 (R488). -/
def State.ss1Cycle (s : State) (c : Channel) (r : Ss1) : State :=
  let x := s.tahr.ch[c]
  let dt := s.now - r.t0
  let timeUp := decide (s.sChan c.val 44 2 * 10 * msTicks ≤ dt)
  let finish := fun (s : State) (why : Nat) => (s.raise 0x7111 c.val 8 [w32 why]).carryStop c false true
  if s.sChan c.val 0 1 = 0 then (if timeUp then finish s 1 else s)
  else
    let env := fPlus (fHigh 0 (fMinus r.v0 (fTimes (s.sChanF c 32) (f32OfRat dt 400000000)))) (s.sChanF c 36)
    let v := fMagn x.speed
    let s1 := s.modTahrCh c (fun t => { t with vEnv := env })
    if ¬ x.speedOk ∨ fBelow env v then
      ((s1.modTahrCh c (fun t => { t with rampFault := true })).raise 0x7112 c.val 13 [x.v, env]).carryStop c (s.sChan c.val 3 1 == 1) false
    else
      let n := if fBelow (s.sChanF c 40) v then 0 else r.zeros + 1
      if 4 ≤ n then finish s1 0
      else if timeUp then finish s1 1
      else s1.modTahrCh c (fun t => { t with ss1 := some { r with zeros := n } })

/-- The stops of a channel end: the wires are released (R484, R485). ASC_REQ_n follows its own rule. -/
def State.liftStop (s : State) (c : Channel) : State :=
  (s.modTahrCh c (fun t => { t with stopped := false, asc := false, stoAAt := none })).driveSto c false

/-- Tahr releases ASC_REQ_n when its speed has been valid and below ASC_OFF for 100 ms (R483). -/
def State.ascReqCycle (s : State) (c : Channel) : State :=
  let x := s.tahr.ch[c]
  if ¬ s.sw.ascReq.getLsbD c.val then s
  else if x.speedOk ∧ fBelow (fMagn x.speed) (limF (s.sChan c.val 46 2)) then
    let since := x.ascOk.getD s.now
    if since + 100 * msTicks ≤ s.now then (s.modTahrCh c (fun t => { t with ascOk := none })).driveAscReq c false
    else s.modTahrCh c (fun t => { t with ascOk := some since })
  else s.modTahrCh c (fun t => { t with ascOk := none })

/-- The SS1 requests that stand on a channel (R486): bits 0 to 15 its CAT 1 functions that do not permit it, bit 16 + n the request of source n. -/
def State.ss1Asks (s : State) (c : Channel) : BitVec 32 :=
  let x := s.tahr.ch[c]
  let fns := (idxs 16).foldl (fun m f => if s.fnStops c 1 f then m ||| 1#32 <<< f.val else m) 0
  let want := x.wantSs1.elim 0 (fun n => 1#32 <<< (16 + min n 15))
  fns ||| want ||| (if x.lockStop && s.lockReact == 0 then 1#32 <<< 19 else 0) ||| (if x.tmFault && s.sChan c.val 2 1 == 0 then 1#32 <<< 20 else 0)

/-- The source that SS1_START names for these requests: a function first, then the lowest. -/
def askSource (m : BitVec 32) : Nat :=
  if m.toNat % 2 ^ 16 ≠ 0 then 0 else ((List.range 16).find? (fun n => m.getLsbD (16 + n))).getD 0

/-- SS1 starts, and its first cycle is checked as every other (R486, R488). -/
def State.beginSs1 (s : State) (c : Channel) (source : Nat) : State :=
  let s1 := s.startSs1 c source
  s1.ss1Cycle c ⟨s.now, fMagn s.tahr.ch[c].v, 0⟩

/-- The drive functions of a channel in a cycle (R483 to R488). A request that first stands in this cycle starts SS1, also on a channel that is stopped already and stays so. -/
def State.channelCycle (s : State) (c : Channel) : State :=
  let h := s.holds c
  let x := s.tahr.ch[c]
  let asks := s.ss1Asks c
  let s := s.modTahrCh c (fun t => { t with asked := asks })
  let s1 :=
    if h.asc || h.sto then s.carryStop c h.asc false
    else match x.ss1 with
      | some r => s.ss1Cycle c r
      | none =>
        if asks &&& ~~~x.asked ≠ 0 then s.beginSs1 c (askSource (asks &&& ~~~x.asked))
        else if asks ≠ 0 then (if x.stopped then s else s.beginSs1 c (askSource asks))
        else if x.stopped then s.liftStop c
        else s
  s1.ascReqCycle c

/-- The die that a request with this source comes from: the frame supervisor on CTRL-A, or LINK. -/
def requestDie (source : Nat) : Die := if source = 1 then .ctrlA else .link

/-- SS1_REQUEST (R484, R486): a request of LINK or of the frame supervisor, on its way over DL_25 or DL_12, reaches Tahr; its next cycle carries it out. -/
def execSs1Request (ch : Channel) (sto : Bool) (source : BitVec 32) (s : State) : Out :=
  if s.tahr.requests.contains (ch, sto, source.toNat) ∧ s.linkUp (requestDie source.toNat) .safe then
    .next ((s.modTahr (fun t => { t with requests := t.requests.erase (ch, sto, source.toNat) })).modTahrCh ch (fun t => { t with
      request := true
      wantSto := t.wantSto || sto
      wantSs1 := if sto then t.wantSs1 else t.wantSs1 <|> some source.toNat }))
  else .next s

/-! ## Safety outputs (R494, R495) -/

/-- Is the output to be on (R494)? -/
def State.soOn (s : State) (k : Fin 4) : Bool :=
  let o := s.tahr.outs[k]
  let mode := s.sOut k.val 0 1
  let ch : Channel := finOf 7 (s.sOut k.val 1 1)
  !o.latchedOff && (
    if mode = 1 then (idxs 16).all (fun f => !(s.sOut k.val 2 2).testBit f.val || s.tahr.fns[f].state == .permit)
    else if mode = 2 then
      (if s.stoB ch then o.stoBAt.any (fun t => decide (s.now < t + s.sOut k.val 4 2 * msTicks)) && (o.a || o.b || o.testA.isSome || o.testB.isSome) else true)
    else false)

/-- SO_FAULT of a switch: the output latches off (R495); a BRAKE output's channel is held (R484). -/
def State.soFault (s : State) (k : Fin 4) (switchB : Bool) : State :=
  let s1 := (s.modSo k (fun o => { o with latchedOff := true, a := false, b := false, testA := none, testB := none })).raise 0x7120 3 12
    [w32 k.val, w32 (b2n switchB)]
  if s.sOut k.val 0 1 = 2 then s1.modTahrCh (finOf 7 (s.sOut k.val 1 1)) (fun t => { t with soStop := true }) else s1

/-- An output in a cycle: `back`, bits 2k and 2k + 1: what its switches read back (R494, R495). -/
def State.soCycle (s : State) (k : Fin 4) (back : BitVec 8) : State :=
  let mode := s.sOut k.val 0 1
  let ch : Channel := finOf 7 (s.sOut k.val 1 1)
  let s0 := s.modSo k (fun o => { o with stoBAt := if mode == 2 && s.stoB ch then o.stoBAt <|> some s.now else none })
  let on := s0.soOn k
  let o := s0.tahr.outs[k]
  let a := on && o.testA.isNone
  let b := on && o.testB.isNone
  let late := fun (d : Option Nat) => d.any (fun t => decide (t + msTicks < s.now))
  let da := if o.testA.isNone ∧ back.getLsbD (2 * k.val) ≠ o.a then o.diffA <|> some s.now else none
  let db := if o.testB.isNone ∧ back.getLsbD (2 * k.val + 1) ≠ o.b then o.diffB <|> some s.now else none
  let s1 := s0.modSo k (fun o => { o with a := a, b := b, diffA := da, diffB := db })
  if mode = 0 ∨ o.latchedOff then s1
  else if late da then s1.soFault k false
  else if late db then s1.soFault k true
  else s1

/-- SO_TEST (R495): a switch goes off for its test once per second, A, and B 500 ms later. -/
def execSoTest (out : Fin 4) (second : Bool) (s : State) : Out :=
  let o := s.tahr.outs[out]
  if ¬ (s.sOut out.val 6 1).testBit 0 ∨ o.latchedOff then .next s
  else if second then
    match o.lastTestA with
    | some t =>
      if t + 500 * msTicks ≤ s.now ∧ rateOk o.lastTestB s.now sTicks then
        .next (s.modSo out (fun o => { o with testB := some s.now, lastTestB := some s.now, b := false, diffB := none }))
      else .next s
    | none => .next s
  else if rateOk o.lastTestA s.now sTicks then
    .next (s.modSo out (fun o => { o with testA := some s.now, lastTestA := some s.now, a := false, diffA := none }))
  else .next s

/-- SO_TEST_END (R495): 300 µs later the test ends; `on`: the switch still read back on during it. -/
def execSoTestEnd (out : Fin 4) (second : Bool) (on : Bool) (s : State) : Out :=
  let o := s.tahr.outs[out]
  match (if second then o.testB else o.testA) with
  | none => .next s
  | some t =>
    if t + 120000 ≤ s.now then
      let s1 := s.modSo out (fun o => if second then { o with testB := none } else { o with testA := none })
      if on then .next (s1.soFault out second)
      else .next (s1.modSo out (fun o => if second then { o with b := s1.soOn out } else { o with a := s1.soOn out }))
    else .next s

/-! ## The mirror (R498) and the cycle (R465) -/

/-- Code of a function state. -/
def FnState.code : FnState → Nat
  | .stopped => 0
  | .waitReset => 1
  | .permit => 2

/-- Code of a pair state. -/
def PairState.code : PairState → Nat
  | .run => 0
  | .safe => 1
  | .disc => 2
  | .fault => 3

/-- ch_n.safe.state. -/
def State.safeState (s : State) (c : Channel) : Nat :=
  let x := s.tahr.ch[c]
  if x.ss1.isSome then 1 else if x.stopped then (if x.asc then 3 else 2) else 0

/-- ch_n.safe.flags. -/
def State.safeFlags (s : State) (c : Channel) : Word :=
  let x := s.tahr.ch[c]
  packFields [(0, b2n x.ss1.isSome), (1, b2n (s.stoB c)), (2, b2n (s.tahr.stoABack.getLsbD c.val)), (3, b2n (s.sw.ascReq.getLsbD c.val)),
    (4, b2n x.tmFault), (5, b2n x.dataLost), (6, b2n x.rampFault), (7, b2n x.request)]

/-- CRC and SERIAL of an image. -/
def imageCrc (im : Option (List Byte)) : Word := im.elim 0 (fun b => wordLe b 16)
/-- SERIAL of an image. -/
def imageSerial (im : Option (List Byte)) : Word := im.elim 0 (fun b => wordLe b 12)

/-- SAFE_STATUS; the bits of an absent channel are 0 (R5). -/
def State.safeStatus (s : State) : Word :=
  let t := s.tahr
  let mask := fun (p : Channel → Bool) => (idxs 8).foldl (fun m c => m + b2n (s.hasChannel c && p c) * 2 ^ c.val) 0
  packFields [(31, b2n t.image.isSome), (30, b2n t.hold), (29, b2n t.unbound), (28, b2n t.chamoisFault), (27, b2n t.lockout.isSome),
    (24, t.pwFails % 8), (8, mask s.stoB), (0, mask (fun c => t.stoABack.getLsbD c.val))]

/-- Levels of the safety outputs: bit k: SO_k on. -/
def State.soLevels (s : State) : Nat := (idxs 4).foldl (fun m k => m + b2n (s.tahr.outs[k].a && s.tahr.outs[k].b) * 2 ^ k.val) 0

/-- The device signals of the mirror. -/
def State.mirrorWords (s : State) : Kv Word :=
  [(0x14000, s.safeStatus >>> 27), (0x14001, imageCrc s.tahr.image), (0x14002, s.tahr.levels), (0x14003, w32 s.soLevels)] ++
  (idxs 16).map (fun f => (0x14010 + f.val, w32 s.tahr.fns[f].state.code)) ++
  (idxs 16).map (fun k => (0x14020 + k.val, packFields [(0, s.tahr.pairs[k].state.code), (8, s.tahr.pairs[k].cause)]))

/-- The mirror is written: the channels every cycle, the device signals at every change and at least every 10 ms (R498). -/
def State.mirrorCycle (s : State) : State :=
  let s1 := (idxs 8).foldl (fun s c =>
    if s.hasChannel c then
      let a := 0x14100 + 0x10 * c.val
      let x := s.tahr.ch[c]
      s.hwCommit 0x0002 s.now [(a, w32 (s.safeState c)), (a + 1, s.safeFlags c), (a + 2, x.v), (a + 3, x.tEst), (a + 4, x.tCmd),
        (a + 5, if x.ss1.isSome then x.vEnv else 0)]
    else s) s
  let words := s1.mirrorWords
  if words ≠ s.tahr.mirror ∨ 39 ≤ s.tahr.mirrorAge then
    (s1.hwCommit 0x0002 s.now words).modTahr (fun t => { t with mirror := words, mirrorAge := 0 })
  else s1.modTahr (fun t => { t with mirrorAge := t.mirrorAge + 1 })

/-- AUX_OFF_B (R438, R476): asserted with a stopped AUX function, released once every AUX function permits. -/
def State.auxCycle (s : State) : State :=
  let on := s.tahr.image.isNone || s.chamois.shutAux || (idxs 16).any (fun f =>
    let ty := s.sFn f.val 0 1
    decide (1 ≤ ty ∧ ty ≤ 4) && (s.sFn f.val 5 1).testBit 1 && s.tahr.fns[f].state != .permit)
  { s with sw := { s.sw with auxOffB := on } }

/-- A wire that Tahr requested, with its own STO_B_n, has not read back 1 ms after the request (R482). -/
def State.wireCycle (s : State) (back : BitVec 8) : State :=
  (idxs 8).foldl (fun s c =>
    if back.getLsbD c.val ∨ ¬ s.sw.stoB.getLsbD c.val then s.modTahrCh c (fun t => { t with stoAAt := none })
    else
      let since := s.tahr.ch[c].stoAAt.getD s.now
      let s1 := s.modTahrCh c (fun t => { t with stoAAt := some since })
      if since + msTicks ≤ s.now then s1.chamoisFaultAt 2 else s1) s

/-- The values of a cycle have been used. -/
def State.clearTags (s : State) : State :=
  { s with sense := s.sense.map (fun d => { d with tags := [] })
           pos := s.pos.map (fun d => { d with pif := d.pif.map (fun p => { p with bSafe := [], ssiSafe := [] }) }) }

/-- TAHR_CYCLE (R465): one evaluation. `checks`: Tahr's memory and flash checks pass (R496), which counts for nothing in the first cycle after one that did not complete; `stoABack`: STO_A_n as read back over DL_25; `soBack`: the safety outputs' switches as read back. -/
def execTahrCycle (checks : Bool) (stoABack : BitVec 8) (soBack : BitVec 8) (s : State) : Out :=
  let t := s.tahr
  if t.running ∧ t.lastCycle.elim true (fun l => decide (l / 100000 < s.now / 100000)) = true then
    let back := if s.linkUp .link .safe then stoABack else t.stoABack
    let s0 := (s.modTahr (fun t => { t with lastCycle := some s.now, healthy := checks && t.lastCycle.elim true (fun l => decide (s.now / 100000 = l / 100000 + 1)), stoABack := back })).lockLost
    let (s1, resets) := s0.pairsCycle
    let s2 := (idxs 16).foldl (fun s f => (s.fnCycle f resets).compareLatch f) s1
    let s3 := s2.wireCycle back
    let s4 := (idxs 8).foldl (fun s c => if s.hasChannel c then (((s.tagCycle c).sourceCycle c).torqueCycle c).channelCycle c else s) s3
    let s5 := (idxs 4).foldl (fun s k => s.soCycle k soBack) s4
    .next (((s5.auxCycle.clearTags).mirrorCycle).sendDie .safe .link "tahr_status" [])
  else .next s

/-- Every Tahr cycle completes: the one due last has run (R465, R496). -/
def Tahr.cyclesRun (t : Tahr) (now : Nat) : Bool := t.lastCycle.any (fun l => decide (now / 100000 ≤ l / 100000 + 1))

/-- BLEAT (R496): the level changes every 5 ms while every cycle completes and the checks pass; once a cycle that was due has not, Tahr holds every channel in STO. -/
def execBleat (s : State) : Out :=
  if s.tahr.running ∧ s.tahr.lastCycle.isSome ∧ ¬ s.tahr.cyclesRun s.now then
    .next ((idxs 8).foldl (fun s c => if s.hasChannel c then s.carryStop c false false else s) (s.modTahr (fun t => { t with healthy := false })))
  else if s.tahr.running ∧ s.tahr.healthy ∧ s.tahr.cyclesRun s.now ∧ s.tahr.lastBleat + 5 * msTicks ≤ s.now then
    .next ({ s with sw := { s.sw with bleat := !s.sw.bleat }, tahr := { s.tahr with lastBleat := s.now } })
  else .next s

/-! ## Registers -/

/-- SAFE_PAIR_k. -/
def State.safePairReg (s : State) (k : Fin 16) : Word := packFields [(8, s.tahr.pairs[k].cause), (0, s.tahr.pairs[k].state.code)]
/-- SAFE_CH_n. -/
def State.safeChReg (s : State) (c : Channel) : Word := packFields [(30, s.safeState c), (0, (s.safeFlags c).toNat % 256)]
/-- SAFE_SO. -/
def State.safeSoReg (s : State) : Word :=
  let lv := (idxs 4).foldl (fun m k => m + (b2n s.tahr.outs[k].a + 2 * b2n s.tahr.outs[k].b) * 4 ^ k.val) 0
  let fl := (idxs 4).foldl (fun m k => m + b2n s.tahr.outs[k].latchedOff * 2 ^ k.val) 0
  packFields [(8, fl), (0, lv)]

end Sys2Proof.Machine
end

