-- ==== Sys2Proof/Machine/SafetyConfig.lean ====
section
/-! DEFINITION. SAFETY_CONFIG (14_functional_safety.md, R499 to R504): the checks of an image, the password, the requests, the change log. -/

namespace Sys2Proof.Machine

/-! ## The checks of an image (R499, R500) -/

/-- Length of an image. -/
def imageLen : Nat := 10496

/-- The part code (R534). -/
def State.partCode (s : State) : Nat := match s.part with
  | .nb7808 => 0x7808
  | .nb7806 => 0x7806

/-- Channels of the part. -/
def State.nChannels (s : State) : Nat := match s.part with
  | .nb7808 => 8
  | .nb7806 => 4

/-- A part of an image with bytes [a, b) taken as zero. -/
def zeroBytes (bs : List Byte) (a b : Nat) : List Byte := bs.take a ++ List.replicate (min b bs.length - a) 0 ++ bs.drop b

/-- CRC of an image: CRC and SERIAL taken as zero (R499). -/
def safetyCrc (im : List Byte) : Nat := crc32c (zeroBytes im 12 20)

/-- Are bytes [a, b) of a string zero? -/
def allZero (bs : List Byte) (a b : Nat) : Bool := ((bs.drop a).take (b - a)).all (· == 0)

/-- Is a number within a range? -/
def within (v lo hi : Nat) : Bool := decide (lo ≤ v ∧ v ≤ hi)

/-- Reason 2 for pair record k. -/
def pairBad (im : List Byte) (k : Nat) : Bool :=
  let b := 0x80 + 16 * k
  let f := fun (o n : Nat) => fieldLe im (b + o) n
  let tpo := fun (v : Nat) => v == 0xFF || decide (v ≤ 3)
  if f 0 1 = 0 then !allZero im b (b + 16)
  else !(within (f 0 1) 0 2 && (f 1 1 == 1 || f 1 1 == 3) && tpo (f 2 1) && tpo (f 3 1) && within (f 4 2) 20 2550
    && within (f 6 2) 1 200 && within (f 8 2) 0 100 && allZero im (b + 10) (b + 16))

/-- Reason 2 for function record f. -/
def fnBad (im : List Byte) (k : Nat) : Bool :=
  let b := 0x180 + 16 * k
  let f := fun (o n : Nat) => fieldLe im (b + o) n
  if f 0 1 = 0 then !allZero im b (b + 16)
  else !(within (f 0 1) 0 5 && within (f 1 1) 0 15 && (f 0 1 != 4 || within (f 2 1) 0 15) && within (f 3 1) 0 1 && within (f 5 1) 0 7
    && (f 3 1 != 1 || within (f 8 2) 1 6000) && allZero im (b + 7) (b + 8) && allZero im (b + 10) (b + 16))

/-- Reason 2 for output record k. -/
def outBad (im : List Byte) (k : Nat) : Bool :=
  let b := 0x280 + 16 * k
  let f := fun (o n : Nat) => fieldLe im (b + o) n
  if f 0 1 = 0 then !allZero im b (b + 16)
  else !(within (f 0 1) 0 2 && within (f 1 1) 0 7 && within (f 4 2) 0 1000 && within (f 6 1) 0 1 && allZero im (b + 7) (b + 16))

/-- Reason 2 for channel record n. -/
def chanBad (im : List Byte) (n : Nat) : Bool :=
  let b := 0x400 + 1184 * n
  let f := fun (o m : Nat) => fieldLe im (b + o) m
  if allZero im b (b + 1184) then false
  else !(within (f 0 1) 0 2 && within (f 1 1) 0 2 && within (f 2 1) 0 2 && within (f 3 1) 0 1
    && (List.range 4).all (fun i => within (f (4 + i) 1) 0 31)
    && within (f 8 1) 1 32 && within (f 9 1) 1 255 && within (f 10 1) 0 1 && within (f 28 2) 1 400 && within (f 30 2) 1 100
    && within (f 44 2) 1 6000 && within (f 68 2) 2 100
    && allZero im (b + 11) (b + 12) && allZero im (b + 74) (b + 80) && allZero im (b + 144) (b + 160))

/-- Pairs that the functions other than number f name. -/
def pairsNamed (im : List Byte) (f : Nat) : List Nat :=
  (List.range 16).flatMap (fun g =>
    let t := fieldLe im (0x180 + 16 * g) 1
    if g = f ∨ t = 0 then [] else fieldLe im (0x180 + 16 * g + 1) 1 :: (if t = 4 then [fieldLe im (0x180 + 16 * g + 2) 1] else []))

/-- Reason 3 for function f. -/
def fnRefsBad (im : List Byte) (f : Nat) : Bool :=
  let g := fun (o n : Nat) => fieldLe im (0x180 + 16 * f + o) n
  let t := g 0 1
  let mine := g 1 1 :: (if t = 4 then [g 2 1] else [])
  let rf := g 6 1
  decide (t ≠ 0) &&
    (mine.any (fun p => fieldLe im (0x80 + 16 * p) 1 == 0 || (pairsNamed im f).contains p)
      || (t != 4 && g 2 1 != 0)
      || (decide (1 ≤ t ∧ t ≤ 3) && rf != 0xFF && !(decide (rf < 16) && fieldLe im (0x180 + 16 * rf) 1 == 5)))

/-- Reason 4 for pair k. -/
def pairTimesBad (im : List Byte) (k : Nat) : Bool :=
  let g := fun (o n : Nat) => fieldLe im (0x80 + 16 * k + o) n
  let ta := g 2 1
  let tb := g 3 1
  decide (g 0 1 ≠ 0) &&
    ((ta == tb && ta != 0xFF) || ((ta != 0xFF || tb != 0xFF) && decide (g 4 2 ≤ fieldLe im 0x41 1 + 10)) || decide (g 4 2 ≤ g 8 2))

/-- Reason 5 for function f. -/
def fnKindBad (im : List Byte) (f : Nat) : Bool :=
  let g := fun (o n : Nat) => fieldLe im (0x180 + 16 * f + o) n
  let p := fun (k o n : Nat) => fieldLe im (0x80 + 16 * k + o) n
  let a := g 1 1
  let t := g 0 1
  (t == 1 && !(g 5 1).testBit 0)
    || (t == 4 && (p a 0 1 != 2 || p (g 2 1) 0 1 != 2))
    || (t == 3 && (p a 2 1 != 0xFF || p a 3 1 != 0xFF || p a 8 2 == 0))

/-- Reason 6 for function f. -/
def fnTimeBad (im : List Byte) (f : Nat) : Bool :=
  let g := fun (o n : Nat) => fieldLe im (0x180 + 16 * f + o) n
  g 0 1 != 0 && g 3 1 == 1 &&
    (List.range 8).any (fun c => (g 4 1).testBit c && decide (g 8 2 < fieldLe im (0x400 + 1184 * c + 44) 2 + 10))

/-- Tags of a channel record, zero for none. -/
def chanTags (im : List Byte) (n : Nat) : List Nat := (List.range 4).map (fun i => fieldLe im (0x400 + 1184 * n + 4 + i) 1)

/-- A list holds something other than zero twice. -/
def hasTwice : List Nat → Bool
  | [] => false
  | a :: as => (a != 0 && as.contains a) || hasTwice as

/-- Reason 7. -/
def tagsBad (im : List Byte) : Bool :=
  (List.range 8).any (fun n =>
    let m := fieldLe im (0x400 + 1184 * n + 1) 1
    (m == 1 && fieldLe im (0x400 + 1184 * n) 1 == 0) || (m != 0 && ((chanTags im n).take 3).contains 0))
  || hasTwice ((List.range 4).flatMap (chanTags im)) || hasTwice ((List.range 4).flatMap (fun n => chanTags im (n + 4)))

/-- Reason 8 on a part with n channels. -/
def absentBad (im : List Byte) (n : Nat) : Bool :=
  (List.range 16).any (fun f => fieldLe im (0x180 + 16 * f) 1 != 0 && decide (2 ^ n ≤ fieldLe im (0x180 + 16 * f + 4) 1))
  || (List.range 4).any (fun k => fieldLe im (0x280 + 16 * k) 1 == 2 && decide (n ≤ fieldLe im (0x280 + 16 * k + 1) 1))
  || (List.range 8).any (fun c => fieldLe im (0x400 + 1184 * c + 10) 1 == 1 && (c % 2 == 0 || decide (n ≤ c)))

/-- The lowest reason of R500 for which an image is refused; 0: none. -/
def State.imageReason (s : State) (im : List Byte) : Nat :=
  let all16 := fun (p : Nat → Bool) => (List.range 16).any p
  if im.length ≠ imageLen ∨ fieldLe im 0 4 ≠ 0x47464353 ∨ fieldLe im 4 2 ≠ 1 ∨ fieldLe im 6 2 ≠ s.partCode ∨ fieldLe im 8 4 ≠ imageLen
      ∨ fieldLe im 16 4 ≠ safetyCrc im then 1
  else if !allZero im 52 64 || !allZero im 0x43 0x80 || !allZero im 0x2C0 0x400 || !within (fieldLe im 0x40 1) 0 3
      || !within (fieldLe im 0x41 1) 10 100 || !within (fieldLe im 0x42 1) 1 100 || all16 (pairBad im) || all16 (fnBad im)
      || (List.range 4).any (outBad im) || (List.range 8).any (chanBad im) then 2
  else if all16 (fnRefsBad im) then 3
  else if all16 (pairTimesBad im) then 4
  else if all16 (fnKindBad im) then 5
  else if all16 (fnTimeBad im) then 6
  else if tagsBad im then 7
  else if absentBad im s.nChannels then 8
  else 0

/-! ## Password and log (R501, R504) -/

/-- A wrong password or a refused credential counts (R501, R655): five in a row start the lockout. -/
def State.countWrong (s : State) : State :=
  let n := min 5 (s.tahr.pwFails + 1)
  s.modTahr (fun t => { t with pwFails := n, lockout := if n = 5 then some (s.now + 60 * sTicks) else t.lockout })

/-- LOCKOUT_EXPIRY (R501): 60 s of powered time have passed. -/
def execLockoutExpiry (s : State) : Out :=
  match s.tahr.lockout with
  | some t => if t ≤ s.now then .next (s.modTahr (fun x => { x with lockout := none })) else .next s
  | none => .next s

/-- The change log with entry i replaced. -/
def logPut (log : List (List Byte)) (i : Nat) (e : List Byte) : List (List Byte) :=
  (log ++ List.replicate (i + 1 - log.length) (List.replicate 32 0)).set i e

/-- One entry of the change log (R504). -/
def State.logChange (s : State) (serial action result oldCrc arg origin : Nat) : State :=
  let e := leBytes 4 s.poweredS ++ leBytes 4 serial ++ leBytes 1 action ++ leBytes 1 result ++ [0, 0] ++ leBytes 4 oldCrc ++
    leBytes 4 (imageCrc s.tahr.image).toNat ++ leBytes 4 arg ++ leBytes 1 origin ++ List.replicate 7 0
  s.modTahr (fun t => { t with log := logPut t.log (t.logCount % 256) e, logCount := (t.logCount + 1) % 2 ^ 32 })

/-! ## Requests (R502, R503) -/

/-- A channel is in STO (R502). -/
def State.inSto (s : State) (c : Channel) : Bool := s.stoA c && s.stoB c

/-- Every channel of the part named by a mask is in STO. -/
def State.allSto (s : State) (mask : Nat) : Bool := (idxs 8).all (fun c => !s.hasChannel c || !mask.testBit c.val || s.inSto c)

/-- Printable ASCII (R501). -/
def printable (bs : List Byte) : Bool := bs.all (fun b => decide (0x20 ≤ b.toNat ∧ b.toNat ≤ 0x7E))

/-- Length of a request block by its SUBOP (R552). -/
def blockLen (sub : Nat) : Nat := if sub = 1 ∨ sub = 2 then 72 + imageLen else 72

/-- A malformed block (R502). -/
def blockBad (b : List Byte) : Bool :=
  let f := fun (o n : Nat) => fieldLe b o n
  let sub := f 0 1
  let pw := f 1 1
  let nw := f 2 1
  let arg := f 4 4
  !within sub 1 7 || f 3 1 != 0 || !(pw == 0 || within pw 8 32) || (if sub = 4 then !within nw 8 32 else nw != 0)
    || !printable ((b.drop 8).take pw) || !printable ((b.drop 40).take nw) || !allZero b (8 + pw) 40 || !allZero b (40 + nw) 72
    || ((sub == 1 || sub == 7) && decide (1 < arg)) || ((sub == 2 || sub == 4) && arg != 0)

/-- An ACK_FAULT whose mask names a channel the part does not have (R3). -/
def State.acksAbsent (s : State) (b : List Byte) : Bool :=
  fieldLe b 0 1 == 6 && (idxs 8).any (fun c => (fieldLe b 4 4).testBit c.val && !s.hasChannel c)

/-- How a SAFETY_CONFIG ends: STATUS, DETAIL, RESULT, and the bytes to be written into IMAGE. -/
structure SafetyAnswer where
  status : Nat
  detail : Nat
  result : Nat
  image : List Byte := []

/-- WRITE (R503): answers the RESULT byte. -/
def State.writeImage (s : State) (im : List Byte) : State × Nat :=
  let r := s.imageReason im
  if r ≠ 0 then (s, r)
  else
    let serial := (s.tahr.serial + 1) % 2 ^ 32
    let stored := im.take 12 ++ leBytes 4 serial ++ im.drop 16
    ((s.modTahr (fun t => { t with serial := serial, pendingImage := some stored })).raise 0x7130 3 6 [w32 serial, wordLe im 16], 0)

/-- A newly confirmed configuration starts (R480, R503): every function STOPPED, the Chamois block on its way. -/
def State.startConfig (s : State) : State :=
  let s1 := s.modTahr (fun t => { t with
    pairs := Vector.replicate 16 {}
    fns := Vector.ofFn (fun f => { needReset := (s.sFn f.val 5 1).testBit 2 })
    outs := t.outs.map (fun o => { o with testA := none, testB := none, diffA := none, diffB := none })
    tpoLow := 0
    pulseAt := Vector.replicate 4 none
    ch := t.ch.map (fun x => { x with
      tagAt := Vector.replicate 4 s.now
      tagLost := Vector.replicate 4 false
      sourceAt := s.now
      sourceLost := false
      angles := []
      speedOk := false
      violations := 0 }) })
  s1.sendDie .safe .link "chamois_parameters" []

/-- CONFIRM (R503): the stops of function demands start afresh, SS1 of CAT 1 with them. A CRC that is not the pending image's has RESULT 1. -/
def State.confirmImage (s : State) (arg : Nat) : State × Nat :=
  match s.tahr.pendingImage with
  | none => (s, 1)
  | some im =>
    if fieldLe im 16 4 ≠ arg then (s, 1)
    else
      let s1 := s.modTahr (fun t => { t with image := some im, pendingImage := none })
      let s2 := s1.startConfig.modTahr (fun t => { t with ch := t.ch.map (fun x => { x with asked := x.asked &&& 0xFFFF0000 }) })
      (s2.raise 0x7131 3 6 [wordLe im 12, wordLe im 16], 0)

/-- ACK_FAULT (R484): torque and ramp faults end, and lost data that is valid again. -/
def State.ackFaults (s : State) (mask : Nat) : State :=
  ((idxs 8).foldl (fun s c =>
    if mask.testBit c.val then s.modTahrCh c (fun t => { t with
      tmFault := false
      rampFault := false
      violations := 0
      dataLost := t.dataLost && (t.sourceLost || t.tagLost.toList.any id) }) else s) s).raise 0x7115 3 5 [w32 (mask % 256)]

/-- SET_PASSWORD (R501): the salt is random. -/
def State.setPassword (s : State) (pw : List Byte) : State :=
  let (salt, s1) := s.fresh 128
  let bytes := leBytes 16 salt.toNat
  s1.modTahr (fun t => { t with password := some (bytes, pbkdf2 pw bytes), pwFails := 0 })

/-- Does a password match? -/
def State.passwordOk (s : State) (pw : List Byte) : Bool :=
  match s.tahr.password with
  | none => false
  | some (salt, h) => pbkdf2 pw salt == h

/-- What the password and the STO of the channels allow (R501, R502): the RESULT byte of a refusal, and a request's own effect otherwise. -/
def State.safetyAct (s : State) (b : List Byte) : State × Nat :=
  let sub := fieldLe b 0 1
  let arg := fieldLe b 4 4
  let pw := (b.drop 8).take (fieldLe b 1 1)
  let needs := sub == 2 || sub == 3 || sub == 7 || (sub == 4 && s.tahr.password.isSome)
  let act := fun (s : State) =>
    if (sub == 2 || sub == 3) && !s.allSto 0xFF then (s, 0x82)
    else if sub == 6 && !s.allSto arg then (s, 0x82)
    else if sub = 2 then s.writeImage ((b.drop 72).take imageLen)
    else if sub = 3 then s.confirmImage arg
    else if sub = 4 then (s.setPassword ((b.drop 40).take (fieldLe b 2 1)), 0)
    else if sub = 6 then (s.ackFaults arg, 0)
    else (s.modTahr (fun t => { t with hold := arg == 1 }), 0)
  if needs && s.tahr.password.isNone then (s, 0x80)
  else if needs && s.tahr.lockout.isSome then (s, 0x81)
  else if needs && !s.passwordOk pw then
    let s1 := s.countWrong
    (s1.raise 0x7133 3 9 [w32 s1.tahr.pwFails], 0x80)
  else if needs then act (s.modTahr (fun t => { t with pwFails := 0 }))
  else act s

/-- A SAFETY_CONFIG request (R502 to R504). `origin`: 0 host ring, 1 service port. -/
def State.safetyRequest (s : State) (b : List Byte) (origin : Nat) : State × SafetyAnswer :=
  let sub := fieldLe b 0 1
  let arg := fieldLe b 4 4
  if blockBad b then (s, ⟨2, 2, 0, []⟩)
  else if b.length ≠ blockLen sub then (s, ⟨2, 4, 0, []⟩)
  else if s.acksAbsent b then (s, ⟨2, 6, 0, []⟩)
  else if sub = 1 then
    match (if arg = 1 then s.tahr.pendingImage else s.tahr.image) with
    | some im => (s, ⟨0, 0, 0, im⟩)
    | none => let (v, s1) := s.fresh (8 * imageLen)
      (s1, ⟨0, 0, 0, leBytes imageLen v.toNat⟩)
  else if sub = 5 then
    (s, ⟨0, 0, 0, (List.range 8).flatMap (fun i => fitBytes 32 (s.tahr.log.getD ((arg + i) % 256) []))⟩)
  else
    let old := (imageCrc s.tahr.image).toNat
    let (s1, r) := s.safetyAct b
    let serial := if sub = 2 ∨ sub = 3 then (s1.tahr.pendingImage <|> s1.tahr.image) else s1.tahr.image
    let s2 := s1.logChange (imageSerial serial).toNat sub r old arg origin
    if r = 0 then (s2, ⟨0, 0, 0, []⟩) else (s2.raise 0x7132 3 8 [w32 sub, w32 r], ⟨6, r, r, []⟩)

/-- Does a request change what kind 6 holds, so that it completes with its record written (R504)? -/
def State.safetyWrites (s : State) (b : List Byte) : Bool := !blockBad b && !s.acksAbsent b && b.length == blockLen (fieldLe b 0 1) && fieldLe b 0 1 != 1 && fieldLe b 0 1 != 5

end Sys2Proof.Machine
end

