-- ==== Sys2Proof/Machine/Loader.lean ====
section
/-! DEFINITION. The program loader (04_oryx_engines.md, R127, R128, R135, R136, R146 to R158, R165, R171): the checks of an image, its relocation, and the worst-case counts of R153 and R155. -/

namespace Sys2Proof.Machine

/-- Use of a register field of an instruction form (R147). -/
inductive RegUse where
  | gen
  | scratch
  | none
  deriving DecidableEq, Repr

/-- What the IMM field holds (R147, R149, R151, R152, R158). -/
inductive ImmUse where
  | zero
  | oper
  | any
  | sig
  | sigv
  | disp
  | lps
  | lpe
  | rinfo
  | xrd
  | table
  deriving DecidableEq, Repr

/-- What the MOD field holds (R148). -/
inductive ModUse where
  | zero
  | imm
  | qint
  | ix
  | regC
  deriving DecidableEq, Repr

/-- One row of the instruction tables (R150). -/
structure OpForm where
  d : RegUse
  a : RegUse
  b : RegUse
  imm : ImmUse
  mod : ModUse
  weight : Nat
  deriving DecidableEq, Repr

/-- A two-operand form. -/
def formTwo (w : Nat) : OpForm := ⟨.gen, .gen, .gen, .oper, .imm, w⟩
/-- A one-operand form. -/
def formOne (w : Nat) : OpForm := ⟨.gen, .gen, .none, .zero, .zero, w⟩
/-- A three-operand form. -/
def formThree (w : Nat) : OpForm := ⟨.gen, .gen, .gen, .zero, .regC, w⟩

/-- The control and signal rows of R150's tables. -/
def opFormA (op : Nat) : Option OpForm :=
  match op with
  | 0x00 => some ⟨.none, .none, .none, .zero, .zero, 1⟩
  | 0x01 => some ⟨.none, .none, .none, .zero, .zero, 4⟩
  | 0x02 => some ⟨.none, .none, .gen, .sig, .ix, 2⟩
  | 0x03 => some ⟨.none, .none, .none, .disp, .zero, 1⟩
  | 0x04 => some ⟨.none, .gen, .none, .disp, .zero, 1⟩
  | 0x05 => some ⟨.none, .gen, .none, .disp, .zero, 1⟩
  | 0x06 => some ⟨.none, .gen, .none, .lps, .zero, 1⟩
  | 0x07 => some ⟨.none, .none, .none, .lpe, .zero, 1⟩
  | 0x08 => some ⟨.gen, .none, .none, .rinfo, .zero, 1⟩
  | 0x22 => some (formThree 1)
  | 0x23 => some ⟨.gen, .none, .none, .any, .zero, 1⟩
  | 0x25 => some ⟨.gen, .gen, .gen, .oper, .qint, 2⟩
  | 0x60 => some ⟨.gen, .none, .gen, .sig, .ix, 1⟩
  | 0x61 => some ⟨.gen, .none, .gen, .sigv, .ix, 0⟩
  | 0x62 => some ⟨.none, .gen, .gen, .sig, .ix, 1⟩
  | 0x63 => some ⟨.none, .gen, .gen, .sigv, .ix, 0⟩
  | 0x68 => some ⟨.gen, .gen, .none, .table, .zero, 10⟩
  | 0x69 => some ⟨.gen, .gen, .gen, .zero, .zero, 10⟩
  | 0x6A => some ⟨.gen, .gen, .gen, .table, .zero, 16⟩
  | 0x6B => some (formThree 16)
  | 0x70 => some ⟨.scratch, .none, .none, .xrd, .zero, 1⟩
  | 0x71 => some ⟨.scratch, .gen, .none, .zero, .zero, 1⟩
  | 0x72 => some ⟨.scratch, .scratch, .scratch, .zero, .zero, 1⟩
  | 0x73 => some ⟨.scratch, .scratch, .scratch, .zero, .zero, 1⟩
  | 0x74 => some ⟨.none, .scratch, .none, .sig, .zero, 1⟩
  | _ => none

/-- The row of an opcode; none for a reserved one (R150). -/
def opForm (op : Nat) : Option OpForm :=
  if [0x10, 0x11].contains op ∨ (0x15 ≤ op ∧ op ≤ 0x21) ∨ [0x28, 0x29, 0x52, 0x53].contains op then some (formTwo 1)
  else if [0x12, 0x13, 0x14, 0x24, 0x30, 0x31, 0x32, 0x39, 0x3A, 0x3D, 0x3E, 0x3F].contains op then some (formTwo 2)
  else if op = 0x36 then some (formTwo 14)
  else if [0x33, 0x34, 0x35].contains op then some (formThree 3)
  else if op = 0x40 then some (formThree 2)
  else if op = 0x37 then some (formOne 14)
  else if op = 0x38 then some (formOne 9)
  else if op = 0x3B ∨ op = 0x3C then some (formOne 1)
  else if (0x41 ≤ op ∧ op ≤ 0x45) ∨ op = 0x54 ∨ op = 0x55 then some (formOne 2)
  else if op = 0x50 then some (formOne 8)
  else if op = 0x51 then some ⟨.gen, .gen, .gen, .zero, .zero, 10⟩
  else opFormA op

/-- MOD as a word. -/
def fMod (w : Dword) : Nat := (fC w).toNat

/-- COUNT of a vector form (R149). -/
def OpForm.count (f : OpForm) (w : Dword) : Nat := if f.imm = .sigv then bitsAt (fImm w) 18 6 + 1 else 1

/-- One register field obeys its use (R147). -/
def RegUse.ok (u : RegUse) (v : Nat) : Bool :=
  match u with
  | .gen => true
  | .scratch => decide (v ≤ 7)
  | .none => v == 0

/-- The IMM field is as its use allows (R147, R149, R158, and the defined selectors of R171). -/
def ImmUse.ok (u : ImmUse) (mod : Nat) (imm : Word) : Bool :=
  match u with
  | .zero => imm == 0
  | .oper => mod % 2 == 1 || imm == 0
  | .any => true
  | .sig => bitsAt imm 18 14 == 0
  | .sigv => bitsAt imm 24 8 == 0
  | .disp => true
  | .lps => true
  | .lpe => true
  | .rinfo => decide (imm.toNat ≤ 7)
  | .xrd => decide (imm.toNat ≤ 5)
  | .table => bitsAt imm 20 12 == 0 && imm.toNat % 8 == 0

/-- The MOD field is as its use allows (R148). -/
def ModUse.ok (u : ModUse) (v : Nat) : Bool :=
  match u with
  | .zero => v == 0
  | .imm => decide (v ≤ 1)
  | .qint => decide (v ≤ 3)
  | .ix => decide (v ≤ 1)
  | .regC => true

/-- Does the word use register B? Not in a two-operand form with IMM set, nor in a signal form with IX clear. -/
def OpForm.bUse (f : OpForm) (mod : Nat) : RegUse :=
  match f.mod with
  | .imm => if mod % 2 = 1 then .none else f.b
  | .qint => if mod % 2 = 1 then .none else f.b
  | .ix => if mod % 2 = 0 then .none else f.b
  | _ => f.b

/-- The field checks of one instruction word (R147 to R150, R154, R155, R158). -/
def instrOk (w : Dword) : Bool :=
  match opForm (opOf w) with
  | none => false
  | some f =>
    f.d.ok (fD w).toNat && f.a.ok (fA w).toNat && (f.bUse (fMod w)).ok (fB w).toNat && f.mod.ok (fMod w) && f.imm.ok (fMod w) (fImm w)
      && (opOf w != 0x50 || decide ((fD w).toNat ≤ 62))
      && (opOf w != 0x61 || decide ((fD w).toNat + f.count w ≤ 64))
      && (opOf w != 0x63 || decide ((fA w).toNat + f.count w ≤ 64))

/-- A static signal address moved for channel n (R136); none when it leaves its region. -/
def relocate (n a : Nat) : Option Nat :=
  if 0x01000 ≤ a ∧ a ≤ 0x08FFF then (if a + n * 0x1000 ≤ 0x08FFF then some (a + n * 0x1000) else none)
  else if 0x09000 ≤ a ∧ a ≤ 0x0EFFF then (if a + n * 0x0C00 ≤ 0x0EFFF then some (a + n * 0x0C00) else none)
  else some a

/-- Relocation where RELOC is set. -/
def relocIf (reloc : Bool) (n a : Nat) : Option Nat := if reloc then relocate n a else some a

/-- A directory entry of an image (R96, R97), relocated; none when it breaks a check. Entries in the regions of channels and aux slots that the part does not have are taken like any other: no rule refuses them (DESIGN CHOICE, assumption 99). -/
def imageEntry (reloc : Bool) (n own : Nat) (w0 w1 : Word) : Option DirEntry :=
  let base := bitsAt w0 0 18
  let len := bitsAt w0 18 12 + 1
  let type := bitsAt w1 16 3
  let owner := bitsAt w1 0 16
  let group := bitAt w1 19
  let act := bitAt w1 20
  if bitsAt w0 30 2 = 0 ∧ bitsAt w1 23 9 = 0 ∧ type ≤ 5 ∧ (owner = own ∨ owner = 0x200) ∧ base + len - 1 ≤ 0x3FFFF
      ∧ (group = true → len ≤ 32 ∧ base / 32 = (base + len - 1) / 32) ∧ (act = true → type = 0) then
    (relocIf reloc n base).map (fun b =>
      { base := b, len := len, hostR := bitAt w1 22, trace := bitAt w1 21, act := act, group := group, type := type,
        owner := owner, pending := false, sharers := [], firmware := false })
  else none

/-- An instruction word with its static signal address relocated (R136); none when the address leaves its region. -/
def relocWord (reloc : Bool) (n : Nat) (w : Dword) : Option Dword :=
  match opForm (opOf w) with
  | some f =>
    if f.imm = .sig ∨ f.imm = .sigv then
      (relocIf reloc n (bitsAt (fImm w) 0 18)).map (fun a => (w &&& ~~~(0x3FFFF : Dword)) ||| BitVec.ofNat 64 a)
    else some w
  | none => some w

/-- The static addresses an access touches (R149). -/
def staticAddrs (w : Dword) : List Nat :=
  match opForm (opOf w) with
  | some f => (List.range (f.count w)).map (fun j => (bitsAt (fImm w) 0 18 + j) % 2 ^ 18)
  | none => []

/-- Is the signal access indexed? -/
def indexed (w : Dword) : Bool := decide (fMod w % 2 = 1)

/-- Is the opcode a load or WAIT of signals; a store by STS or STV; a table lookup? -/
def isLoad (w : Dword) : Bool := [0x60, 0x61].contains (opOf w)
def isWait (w : Dword) : Bool := opOf w == 0x02
def isStore (w : Dword) : Bool := [0x62, 0x63].contains (opOf w)
def isXst (w : Dword) : Bool := opOf w == 0x74
def isLookup (w : Dword) : Bool := [0x68, 0x69, 0x6A, 0x6B].contains (opOf w)
def isBranch (w : Dword) : Bool := [0x03, 0x04, 0x05].contains (opOf w)

/-- The entry the image declares for a signal. -/
def entryFor (es : List DirEntry) (a : Nat) : Option DirEntry := es.find? (fun e => e.covers a)

/-- The group of a signal, by the image's entries first, then by the directory. -/
def groupFor (es dir : List DirEntry) (a : Nat) : Option DirEntry :=
  match entryFor es a with
  | some e => if e.group then some e else none
  | none => dir.find? (fun e => !e.pending && e.group && e.covers a)

/-- What a latch is counted for (R155): a coherent group by its base, or an aligned block of 32 outside groups, above the groups. -/
def latchKey (es dir : List DirEntry) (a : Nat) : Nat :=
  match groupFor es dir a with
  | some e => e.base
  | none => 2 ^ 18 + a / 32

/-- Static stores and exempt signals (R157, R165, R167). -/
def accessOk (es : List DirEntry) (own : Nat) (w : Dword) : Bool :=
  let owned (a : Nat) : Bool := (entryFor es a).elim false (fun e => e.owner == own)
  if isXst w then
    (staticAddrs w).all (fun a => decide (0x3F000 ≤ a) && (entryFor es a).elim false (fun e => e.owner == own && !e.group && !e.act))
  else if isStore w then indexed w || (staticAddrs w).all (fun a => owned a && decide (a < 0x3F000))
  else if isLoad w || isWait w then indexed w || (staticAddrs w).all (fun a => decide (a < 0x3F000))
  else true

/-- The loop of each instruction (R153): the innermost LPS whose body holds it, LPE included; the open loops, innermost first; none on a nesting that breaks R151 to R153. -/
def nesting (n : Nat) : Nat → List Nat → List (Dword) → List Dword → Option (List (Option Nat))
  | _, open_, _, [] => if open_.isEmpty then some [] else none
  | i, open_, all, w :: ws =>
    let here := open_.head?
    if opOf w = 0x06 then
      if bitsAt (fImm w) 16 16 = 0 ∨ n ≤ i + bitsAt (fImm w) 0 16 ∨ 4 ≤ open_.length then none
      else (nesting n (i + 1) (i :: open_) all ws).map (here :: ·)
    else if opOf w = 0x07 then
      match open_ with
      | [] => none
      | l :: rest =>
        let lw := all.getD l 0
        if l + bitsAt (fImm lw) 0 16 = i ∧ (i : Int) + 1 + (fImm w).toInt = (l : Int) + 1 then
          (nesting n (i + 1) rest all ws).map (here :: ·)
        else none
    else (nesting n (i + 1) open_ all ws).map (here :: ·)

/-- Branches stay forward, inside the program and inside their loop body (R151, R153); the last instruction is FEND. -/
def structureOk (ws : List Dword) : Bool :=
  match nesting ws.length 0 [] ws ws with
  | none => false
  | some bodies =>
    (ws.zipIdx).all (fun p =>
      if isBranch p.1 then
        let t : Int := (p.2 : Int) + 1 + (fImm p.1).toInt
        decide (0 ≤ (fImm p.1).toInt) && decide (t < (ws.length : Int)) && bodies.getD t.toNat none == bodies.getD p.2 none
      else true)
    && (ws.getLast?).elim false (fun w => opOf w == 0x01)

/-- A path under analysis: the next instruction, what it has latched, its sum. -/
structure PathPt where
  next : Nat
  latched : List Nat
  sum : Nat
  deriving DecidableEq, Repr

/-- Adds a key to a latched set, kept in rising order. -/
def addKey (k : Nat) : List Nat → List Nat
  | [] => [k]
  | x :: xs => if k < x then k :: x :: xs else if k = x then x :: xs else x :: addKey k xs

/-- Adds keys. -/
def addKeys (ks l : List Nat) : List Nat := ks.foldl (fun l k => addKey k l) l

/-- Adds a path, keeping the largest sum of those alike. -/
def addPath (p : PathPt) : List PathPt → List PathPt
  | [] => [p]
  | q :: qs => if q.next = p.next ∧ q.latched = p.latched then { q with sum := max q.sum p.sum } :: qs else q :: addPath p qs

/-- The larger of two sums, where there are any. -/
def maxSum : Option Nat → Option Nat → Option Nat
  | none, b => b
  | a, none => a
  | some a, some b => some (max a b)

/-- The keys of a static load or WAIT: a WAIT outside any group latches nothing (R110). -/
def loadKeys (es dir : List DirEntry) (w : Dword) : List Nat :=
  if indexed w then []
  else if isWait w then (staticAddrs w).filterMap (fun a => (groupFor es dir a).map (fun e => e.base))
  else (staticAddrs w).foldl (fun l a => addKey (latchKey es dir a) l) []

/-- Which sum is formed: 0 WCOUNT, 1 WBOARD, 2 WTABLE. -/
abbrev SumKind := Fin 3

/-- First latches of a load on a path (R155); in a later pass of a loop body static loads are latched already. -/
def firstLatches (es dir : List DirEntry) (w : Dword) (latched : List Nat) (later : Bool) : Nat :=
  if isLoad w then
    (if indexed w then (staticAddrs w).length
     else if later then 0 else ((loadKeys es dir w).filter (fun k => !latched.contains k)).length)
  else 0

/-- What one instruction adds to the sum (R150, R153, R155); `fend` is E + ⌈W / 32⌉. -/
def instrCost (es dir : List DirEntry) (fend : Nat) (k : SumKind) (w : Dword) (latched : List Nat) (later : Bool) : Nat :=
  let l := firstLatches es dir w latched later
  let n := (staticAddrs w).length
  let weight := (opForm (opOf w)).elim 1 (fun f => f.weight)
  if k = 0 then
    (if opOf w = 0x60 then (if l = 0 then 1 else 2) else if opOf w = 0x61 then n + l else if opOf w = 0x63 then n else weight)
  else if k = 1 then (if isLoad w then l else if isWait w then 1 else if opOf w = 0x01 then fend else 0)
  else b2n (isLookup w)

/-- Paths from instruction lo to hi (R153): the largest sum that ends in FEND, and the paths that leave the region at hi. Fuel is the number of instructions from lo on, plus one. -/
def walkPaths (es dir : List DirEntry) (ws : List Dword) (fend : Nat) (k : SumKind) (hi : Nat) (later : Bool) :
    Nat → Nat → List PathPt → Option Nat × List PathPt
  | 0, _, ps => (none, ps)
  | fuel + 1, i, ps =>
    if hi ≤ i then (none, ps)
    else
      let here := ps.filter (fun p => p.next == i)
      let rest := ps.filter (fun p => p.next != i)
      let w := ws.getD i 0
      let cost (p : PathPt) : Nat := instrCost es dir fend k w p.latched later
      let keys := if isLoad w || isWait w then loadKeys es dir w else []
      let go (p : PathPt) (upto : Nat) : PathPt := ⟨upto, addKeys keys p.latched, p.sum + cost p⟩
      if here.isEmpty then walkPaths es dir ws fend k hi later fuel (i + 1) rest
      else if opOf w = 0x01 then
        let (f, out) := walkPaths es dir ws fend k hi later fuel (i + 1) rest
        (maxSum (here.foldl (fun m p => maxSum m (some (p.sum + cost p))) none) f, out)
      else if opOf w = 0x06 then
        let e := i + bitsAt (fImm w) 0 16
        let bound := bitsAt (fImm w) 16 16
        let skip := here.foldl (fun l p => addPath (go p (e + 1)) l) rest
        let one := walkPaths es dir ws fend k (e + 1) later fuel (i + 1) (here.foldl (fun l p => addPath (go p (i + 1)) l) [])
        let more := if bound ≤ 1 then (none, []) else walkPaths es dir ws fend k (e + 1) true fuel (i + 1) [⟨i + 1, [], 0⟩]
        let pass := more.2.foldl (fun m p => max m p.sum) 0
        let ended := one.2.foldl (fun m p => maxSum m (more.1.map (fun f => p.sum + (bound - 2) * pass + f))) one.1
        let outs := one.2.foldl (fun l p =>
          if bound ≤ 1 then addPath p l
          else more.2.foldl (fun l q => addPath ⟨e + 1, addKeys q.latched p.latched, p.sum + (bound - 1) * q.sum⟩ l) l) skip
        let (f, out) := walkPaths es dir ws fend k hi later fuel (i + 1) outs
        (maxSum ended f, out)
      else if isBranch w then
        let t := ((i : Int) + 1 + (fImm w).toInt).toNat
        let ps1 := here.foldl (fun l p => addPath (go p t) l) rest
        let ps2 := if opOf w = 0x03 then ps1 else here.foldl (fun l p => addPath (go p (i + 1)) l) ps1
        walkPaths es dir ws fend k hi later fuel (i + 1) ps2
      else walkPaths es dir ws fend k hi later fuel (i + 1) (here.foldl (fun l p => addPath (go p (i + 1)) l) rest)

/-- W of R153: 256 when any store is indexed, else the distinct static store addresses. -/
def storeCount (ws : List Dword) : Nat :=
  if ws.any (fun w => isStore w && indexed w) then 256
  else (ws.foldl (fun l w => if isStore w || isXst w then addKeys (staticAddrs w) l else l) []).length

/-- WCOUNT, WBOARD or WTABLE as the loader computes it (R153). -/
def worstSum (es dir : List DirEntry) (own : Nat) (groups : List Nat) (ws : List Dword) (k : SumKind) : Nat :=
  let fend := (es.filter (fun e => e.owner == own)).length + (storeCount ws + 31) / 32
  let r := walkPaths es dir ws fend k ws.length false (ws.length + 1) 0 [⟨0, groups, 0⟩]
  r.1.getD 0 + (if k = 1 then groups.length else 0)

/-- Signals of one aligned block that a static access touches outside groups. -/
def blockSpan (es dir : List DirEntry) (w : Dword) (a : Nat) : Nat :=
  ((staticAddrs w).filter (fun b => latchKey es dir b == latchKey es dir a)).length

/-- m_q of the image (R212): the largest input group, latched group, block or commit grant. -/
def maxBoardGrant (es dir : List DirEntry) (own : Nat) (inputs : List DirEntry) (ws : List Dword) : Nat :=
  let a := inputs.foldl (fun m e => max m e.len) 1
  let b := ws.foldl (fun m w =>
    if isLoad w || isWait w then
      (if indexed w then max m 32
       else (staticAddrs w).foldl (fun m x => max m ((groupFor es dir x).elim (blockSpan es dir w x) (fun e => e.len))) m)
    else m) a
  if storeCount ws = 0 then b else (es.filter (fun e => e.owner == own)).foldl (fun m e => max m (min 32 e.len)) b

/-- m'_q of the image (R212): 8 header words and the entries of its largest lookup. -/
def maxTableGrant (ws : List Dword) : Nat :=
  ws.foldl (fun m w => if opOf w = 0x6A ∨ opOf w = 0x6B then max m 12 else if isLookup w then max m 10 else m) 0

/-- All of a list of options. -/
def allSome : List (Option α) → Option (List α)
  | [] => some []
  | none :: _ => none
  | some a :: as => (allSome as).map (a :: ·)

/-- The 64-bit word at byte offset o. -/
def dwordLe (bs : List Byte) (o : Nat) : Dword := BitVec.ofNat 64 (fieldLe bs o 8)

/-- Replaces four bytes by zeros, as a CRC field counts in its own check. -/
def zeroCrc (bs : List Byte) (o : Nat) : List Byte := bs.take o ++ List.replicate 4 0 ++ bs.drop (o + 4)

/-- MAGIC, FORMAT, CRC, counts and limits of a header (R135, R171), with the length and the gap of the image. -/
def headerOk (bs : List Byte) : Bool :=
  let nInstr := fieldLe bs 8 4
  let nDir := fieldLe bs 0x0C 2
  let nIn := fieldLe bs 0x0E 2
  let div := fieldLe bs 0x10 2
  let fb := fieldLe bs 0x12 2
  let flags := fieldLe bs 6 2
  let gap := 64 + 8 * nDir + 4 * nIn
  let code := (gap + 7) / 8 * 8
  decide (64 ≤ bs.length) && fieldLe bs 0 4 == 0x5859524F && fieldLe bs 4 2 == 1 && decide (flags ≤ 3)
    && decide (1 ≤ nInstr ∧ nInstr ≤ 16384) && decide (nDir ≤ 1024) && decide (nIn ≤ 16) && decide (1 ≤ div ∧ div ≤ 256)
    && (fb == 0 || (fb % div == 0 && decide (2 * div ≤ fb ∧ fb ≤ 256))) && (flags % 2 == 0 || div == 1)
    && ((bs.drop 0x30).take 16).all (· == 0) && bs.length == code + 8 * nInstr && ((bs.drop gap).take (code - gap)).all (· == 0)
    && crc32c (zeroCrc bs 0x1C) == fieldLe bs 0x1C 4

/-- The declared inputs after relocation (R107, R135, R136, R167); none when one breaks a check. -/
def imageInputs (reloc : Bool) (n : Nat) (es dir : List DirEntry) (ws : List Word) : Option (List (Nat × DirEntry)) :=
  allSome (ws.map (fun w =>
    if bitsAt w 18 14 ≠ 0 then none
    else match relocIf reloc n (bitsAt w 0 18) with
      | none => none
      | some a => if 0x3F000 ≤ a then none else (groupFor es dir a).map (fun e => (a, e))))

/-- What R323 gives an image of the Drive Set in its header: SAMPLE_PATH, DIV, FALLBACK_DIV, N_INSTR, WCOUNT, WBOARD, WTABLE; RELOC is set in each. -/
structure DsHeader where
  samplePath : Bool
  div : Nat
  fallbackDiv : Nat
  nInstr : Nat
  wcount : Nat
  wboard : Nat
  wtable : Nat
  deriving DecidableEq, Repr

/-- The images of the Drive Set, DS-PM-IN to DS-OUT-4, as 1 to 6 (R323). -/
def dsHeaders : List DsHeader :=
  [⟨true, 1, 0, 702, 640, 9, 2⟩, ⟨true, 1, 0, 760, 714, 9, 1⟩, ⟨true, 1, 0, 1296, 1188, 12, 2⟩,
   ⟨false, 1, 4, 884, 1016, 8, 3⟩, ⟨false, 2, 8, 884, 1016, 8, 3⟩, ⟨false, 4, 16, 884, 1016, 8, 3⟩]

/-- Groups of the declared inputs of image k on a channel (R323). -/
def dsInputs (k : Nat) (n : Channel) : List Nat :=
  let b := chBase n
  if k = 3 then [b + 0x20, b + 0x1020, b + 0x40] else if k < 3 then [b + 0x20, b + 0x40] else []

/-- The groups whose entries image k carries on a channel (R327): first signal, length, host entry, ACT. -/
def dsGroups (k : Nat) (n : Channel) : List (Nat × Nat × Bool × Bool) :=
  let b := chBase n
  if k ≤ 3 then [(b + 0x80, 32, false, false), (b + 0x100, 4, false, true), (b + 0x200, 32, true, false)]
    ++ (if k = 3 then [(b + 0x1100, 4, false, true)] else [])
  else [(b + 0x50, 4, true, false), (b + 0x60, 16, false, false), (b + 0x220, 32, true, false)]

/-- An entry is the one that R327 gives this group: HOST_R, TRACE and GROUP set. -/
def DirEntry.isDsGroup (e : DirEntry) (own : Nat) (g : Nat × Nat × Bool × Bool) : Bool :=
  e.base == g.1 && e.len == g.2.1 && e.owner == (if g.2.2.1 then 0x200 else own) && e.act == g.2.2.2 && e.group && e.hostR && e.trace

/-- Which image of the Drive Set this is, 0 none: its code is that image's (assumption 28), and its header, inputs and directory entries are those of R323 and R327. -/
def dsImage (raw : List Dword) (reloc : Bool) (h : DsHeader) (own : Nat) (n : Channel) (es : List DirEntry) (ins : List Nat) : Nat :=
  let k := Config.driveSetImage raw
  let gs := dsGroups k n
  if 1 ≤ k ∧ dsHeaders[k - 1]? = some h ∧ reloc ∧ es.length = gs.length ∧ gs.all (fun g => es.any (fun e => e.isDsGroup own g)) ∧
      ins.length = (dsInputs k n).length ∧ (dsInputs k n).all (fun a => ins.contains a) then k else 0

/-- The image the loader makes of its bytes, relocated for channel n and owned by a slot; none when a check of R171 fails. -/
def parseImage (dir : List DirEntry) (slot : SlotCode) (n : Channel) (bs : List Byte) : Option Image :=
  if headerOk bs then
    let nDir := fieldLe bs 0x0C 2
    let nIn := fieldLe bs 0x0E 2
    let flags := fieldLe bs 6 2
    let reloc := decide (flags / 2 % 2 = 1)
    let own := 0x100 + slot.val
    let code := (64 + 8 * nDir + 4 * nIn + 7) / 8 * 8
    let raw := (List.range (fieldLe bs 8 4)).map (fun i => dwordLe bs (code + 8 * i))
    match allSome ((List.range nDir).map (fun i => imageEntry reloc n.val own (wordLe bs (64 + 8 * i)) (wordLe bs (68 + 8 * i)))) with
    | none => none
    | some es =>
      match imageInputs reloc n.val es dir ((List.range nIn).map (fun i => wordLe bs (64 + 8 * nDir + 4 * i))) with
      | none => none
      | some ins =>
        if raw.all instrOk then
          match allSome (raw.map (relocWord reloc n.val)) with
          | none => none
          | some ws =>
            let groups := addKeys (ins.map (fun p => p.2.base)) []
            if structureOk ws && ws.all (accessOk es own)
                && worstSum es dir own groups ws 0 == fieldLe bs 0x14 4
                && worstSum es dir own groups ws 1 == fieldLe bs 0x18 2
                && worstSum es dir own groups ws 2 == fieldLe bs 0x1A 2 then
              some { samplePath := decide (flags % 2 = 1), div := fieldLe bs 0x10 2, fallbackDiv := fieldLe bs 0x12 2
                     wcount := fieldLe bs 0x14 4, wboard := fieldLe bs 0x18 2, wtable := fieldLe bs 0x1A 2
                     boardGrant := maxBoardGrant es dir own (ins.map (·.2)) ws, tableGrant := maxTableGrant ws
                     dir := es, inputs := ins.map (·.1), code := ws
                     ds := dsImage raw reloc ⟨decide (flags % 2 = 1), fieldLe bs 0x10 2, fieldLe bs 0x12 2, raw.length, fieldLe bs 0x14 4,
                       fieldLe bs 0x18 2, fieldLe bs 0x1A 2⟩ own n es (ins.map (fun p => p.2.base)) }
            else none
        else none
  else none

/-- The programs resident in a bank: first word and length, in rising order (R128). -/
def CtrlDie.resident (d : CtrlDie) (bank : Nat) : List (Nat × Nat) :=
  ((idxs 128).filterMap (fun c =>
    let x := d.slots[c]
    if c.val / 64 = bank ∧ x.state ≠ .empty then some (x.place, x.nInstr) else none)).foldl
      (fun l p => l.takeWhile (fun q => decide (q.1 < p.1)) ++ p :: l.dropWhile (fun q => decide (q.1 < p.1))) []

/-- The free runs of a bank's 131,072 instruction words, lowest first. -/
def freeRuns (at_ : Nat) : List (Nat × Nat) → List (Nat × Nat)
  | [] => [(at_, 131072 - at_)]
  | (p, n) :: rest => (at_, p - at_) :: freeRuns (p + n) rest

/-- What a LOAD_PROGRAM comes to (R3, R98, R128, R130, R134, R171). -/
inductive LoadResult where
  | bad (status detail : Nat)
  | full (bank words largest : Nat)
  | dirFull (requested free : Nat)
  | ok (place : Nat) (image : Image)

/-- Judges a LOAD_PROGRAM of an image into a slot for a channel. The spec does not say which completion stands when several apply; the model takes the absent channel (R548 step 4), the slot's state, the channel's state, the image check, memory full, overlap and directory full in that order (DESIGN CHOICE, assumption 73). -/
def State.judgeLoad (s : State) (slot : SlotCode) (ch : Channel) (bs : List Byte) : LoadResult :=
  let d := s.die .a
  if ¬ s.hasChannel ch then .bad 2 6
  else if (s.slotOf .a slot).state ≠ .empty then .bad 1 1
  else if ¬ s.ch[ch].enabled then .bad 1 1
  else match parseImage d.dir slot ch bs with
    | none => .bad 2 9
    | some im =>
      let runs := freeRuns 0 (d.resident (slot.val / 64))
      match runs.find? (fun r => decide (im.code.length ≤ r.2)) with
      | none => .full (slot.val / 64) im.code.length (runs.foldl (fun m r => max m r.2) 0)
      | some r =>
        match addEntries d.dir slot.val im.dir with
        | none => .bad 4 3
        | some dir => if 16384 < dir.length then .dirFull (dir.length - d.dir.length) (16384 - d.dir.length) else .ok r.1 im

end Sys2Proof.Machine
end

