-- ==== Sys2Proof/Machine/Rings.lean ====
section
/-! DEFINITION. Rings, doorbells, descriptor fetch, completions, interrupts and the loss of the host (16_host_rings.md, R534 to R552, R560 to R575). -/

namespace Sys2Proof.Machine

/-- Updates the ring engine. -/
def State.modRe (s : State) (f : RingUnit → RingUnit) : State := { s with re := f s.re }

/-- A ring by its number (R538). -/
def State.ring (s : State) (k : Nat) : Ring := kvGet {} s.re.rings k

/-- Updates a ring. -/
def State.modRing (s : State) (k : Nat) (f : Ring → Ring) : State := s.modRe (fun r => { r with rings := kvSet {} r.rings k (f (s.ring k)) })

/-- TYPE: 0 CMD, 1 PARAM, 2 STREAM, 3 EVENT, 4 COMPLETION (R538). -/
def Ring.type (r : Ring) : Nat := bitsAt r.ctx[0] 29 3
/-- N entries. -/
def Ring.n (r : Ring) : Nat := 2 ^ bitsAt r.ctx[0] 24 5
/-- WEIGHT. -/
def Ring.weight (r : Ring) : Nat := bitsAt r.ctx[0] 20 4 + 1
/-- CRING. -/
def Ring.cring (r : Ring) : Nat := bitsAt r.ctx[0] 0 16
/-- BASE. -/
def Ring.base (r : Ring) : Nat := r.ctx[2].toNat * 2 ^ 32 + bitsAt r.ctx[1] 12 20 * 4096
/-- MOD_COUNT, 0 taken as 1. -/
def Ring.modCount (r : Ring) : Nat := max 1 (bitsAt r.ctx[4] 0 8)
/-- A submission ring. -/
def Ring.submits (r : Ring) : Bool := decide (r.type ≤ 2)
/-- Occupancy (R540). -/
def Ring.occ (r : Ring) : Nat :=
  if r.submits then (r.host + 2 ^ 32 - r.dev) % 2 ^ 32 else (r.dev + 2 ^ 32 - r.host) % 2 ^ 32
/-- PHASE of index i (R561). -/
def Ring.phase (r : Ring) (i : Nat) : Bool := decide (i / r.n % 2 = 0)
/-- Code of a ring's state (16_host_rings.md, RING_STATE). -/
def RingState.code : RingState → Nat
  | .off => 0
  | .active => 1
  | .draining => 2
  | .error => 3

/-- An event ring takes the event (R566). -/
def Ring.takes (r : Ring) (e : Event) : Bool :=
  r.state == .active && r.type == 3 && bitAt r.ctx[4] (16 + e.code / 4096 % 16) && decide (bitsAt r.ctx[4] 12 4 ≤ e.sev)

/-- Descriptors in flight of a ring (R569). -/
def State.inFlight (s : State) (k : Nat) : Nat := (s.re.taken.filter (fun t => t.ring == k)).length

/-! ## Interrupts (R567) -/

/-- Sends the MSI-X message of a vector, or leaves it pending under its mask bit. -/
def State.msix (s : State) (v : Nat) : State :=
  if bitAt (s.reg (0x98000 + 16 * v + 12)) 0 then s.modRe (fun r => { r with pba := if r.pba.contains v then r.pba else r.pba ++ [v] })
  else s.emit (.msix v)

/-- A ring signals its vector. -/
def State.fire (s : State) (k : Nat) : State :=
  let r := s.ring k
  (s.modRing k (fun r => { r with unsignalled := 0, first := none })).msix (bitsAt r.ctx[3] 16 11)

/-- An entry has been written to a completion or event ring; `now` when it signals at once. -/
def State.wrote (s : State) (k : Nat) (now : Bool) : State :=
  let r := s.ring k
  if bitAt r.ctx[3] 31 then
    let s1 := s.modRing k (fun r => { r with unsignalled := r.unsignalled + 1, first := r.first.orElse (fun _ => some s.now) })
    if now || decide (r.modCount ≤ r.unsignalled + 1) then s1.fire k else s1
  else s

/-- MOD_TIME_EXPIRY (R567): MOD_TIME µs since the first unsignalled entry. -/
def execModTimeExpiry (ring : BitVec 16) (s : State) : Out :=
  let r := s.ring ring.toNat
  let t := bitsAt r.ctx[3] 0 16
  match r.first with
  | some f => if t ≠ 0 ∧ f + t * usTicks ≤ s.now then .next (s.fire ring.toNat) else .next s
  | none => .next s

/-! ## Event rings (R566, R682) -/

/-- Writes one record of the queue to an event ring. -/
def State.writeRecord (s : State) (k : Nat) (q : Queued) : State :=
  let r := s.ring k
  let i := r.dev
  let s1 := s.emit (.hostWrite (r.base + 32 * (i % r.n)) (eventRecord q.ev q.eseq (r.phase i)))
  let s2 := s1.modRing k (fun r => { r with dev := (i + 1) % 2 ^ 32 })
  let s3 : State := { s2 with ev := { s2.ev with queue := s2.ev.queue.map (fun p => if p.eseq = q.eseq then { p with written := p.written ++ [k] } else p) } }
  s3.wrote k (decide (bitsAt r.ctx[3] 27 4 ≤ q.ev.sev))

/-- An event ring takes what it can, in queue order: a full ring stops only its own delivery. -/
def State.deliver (s : State) (k : Nat) : State :=
  s.ev.queue.foldl (fun s q =>
    let r := s.ring k
    if r.takes q.ev && !q.written.contains k && decide (r.occ < r.n) then s.writeRecord k q else s) s

/-- Entries that every ACTIVE event ring whose filter takes them has written leave the queue (R682); after a disconnect they wait (R574). -/
def State.purgeQueue (s : State) : State :=
  if s.ev.held then s
  else
    let takers := fun (e : Event) => s.re.rings.filter (fun p => p.2.takes e)
    { s with ev := { s.ev with queue := s.ev.queue.filter (fun q => (takers q.ev).any (fun p => !q.written.contains p.1)) } }

/-- Delivery to every event ring, while the ring engine runs: on RUN and GRAZE (R601). -/
def State.deliverAll (s : State) : State :=
  if 1 < s.pwr.rung then s.purgeQueue else (s.re.rings.foldl (fun s p => s.deliver p.1) s).purgeQueue

/-! ## Contexts and RING_OP (R539 to R543) -/

/-- A ring enters ERROR (R543). -/
def State.ringError (s : State) (k cause : Nat) (value : Word) : State :=
  ((s.modRing k (fun r => { r with state := .error, cause := cause })).modRe (fun r => { r with fetched := kvSet 0 r.fetched k 0 })).raise 0x9003 k 8 [w32 cause, w32 (s.ring k).dev, value]

/-- The staged context has a field outside its range (R539, R541). -/
def ctxBad (cw : Vector Word 5) : Bool :=
  let t := bitsAt cw[0] 29 3
  let l := bitsAt cw[0] 24 5
  decide (4 < t) || decide (l < 4) || decide (16 < l) || bitsAt cw[0] 16 4 != 0
    || (t != 1 && t != 2 && bitsAt cw[0] 20 4 != 0) || (decide (2 < t) && bitsAt cw[0] 0 16 != 0)
    || bitsAt cw[1] 0 12 != 0 || bitsAt cw[4] 8 4 != 0

/-- Ends a RING_OP with its error code. -/
def State.ringOpEnd (s : State) (err : Nat) : State := s.modRe (fun r => { r with opErr := err })

/-- The ring RING_SEL names. -/
def State.selRing (s : State) : Nat := s.fld Reg.ringSel 0 16

/-- ENABLE (R541). -/
def execEnable (s : State) : Out :=
  let k := s.selRing
  let cw : Vector Word 5 := Vector.ofFn (fun i => s.reg (Reg.ringCtx i.val))
  let t := bitsAt cw[0] 29 3
  let cr := s.ring (bitsAt cw[0] 0 16)
  if (s.ring k).state ≠ .off then .next (s.ringOpEnd 1)
  else if ctxBad cw then .next (s.ringOpEnd 2)
  else if t ≤ 2 ∧ ¬ (cr.state = .active ∧ cr.type = 4) then .next (s.ringOpEnd 3)
  else
    let s1 := ((s.modRing k (fun r => { r with
      ctx := cw
      state := .active
      cause := 0
      dev := 0
      host := 0
      fence := none
      unsignalled := 0
      first := none })).modRe (fun r => { r with fetched := kvSet 0 r.fetched k 0 })).ringOpEnd 0
    if t = 3 then
      .next ({ s1 with ev := { s1.ev with held := false, queue := s1.ev.queue.map (fun q => { q with written := q.written.filter (· != k) }) } } : State).deliverAll
    else .next s1

/-- DISABLE (R542). -/
def execDisable (s : State) : Out :=
  let k := s.selRing
  let r := s.ring k
  if r.state = .off then .next (s.ringOpEnd 0)
  else if r.submits then
    .next ((s.modRing k (fun r => { r with state := if s.inFlight k = 0 then .off else .draining })).ringOpEnd 0)
  else if r.type = 4 ∧ s.re.rings.any (fun p => p.2.submits && p.2.cring == k && (p.2.state == .active || p.2.state == .draining)) = true then
    .next (s.ringOpEnd 4)
  else .next ((s.modRing k (fun r => { r with state := .off, unsignalled := 0, first := none })).ringOpEnd 0).purgeQueue

/-- READ_CONTEXT (R539): the context of the selected ring into RING_CTX. -/
def execReadContext (s : State) : Out :=
  let cw := (s.ring s.selRing).ctx
  .next (((idxs 5).foldl (fun s i => s.setReg (Reg.ringCtx i.val) cw[i]) s).ringOpEnd 0)

/-! ## Doorbells (R544 to R546) -/

/-- A doorbell to a ring that is not ACTIVE (R546). -/
def State.doorbellIgnored (s : State) (k : Nat) (value : Word) : State :=
  let r := s.ring k
  if rateOk r.lastIgnored s.now sTicks then
    (s.raise 0x9004 k 3 [value, w32 r.state.code]).modRing k (fun r => { r with lastIgnored := some s.now })
  else s

/-- DOORBELL_TAIL (R544, R546). -/
def execDoorbellTail (ring : BitVec 16) (value : Word) (s : State) : Out :=
  let k := ring.toNat
  let r := s.ring k
  if r.state ≠ .active then .next (s.doorbellIgnored k value)
  else if r.submits then
    if (value.toNat + 2 ^ 32 - r.host) % 2 ^ 32 ≤ r.n - r.occ then .next (s.modRing k (fun r => { r with host := value.toNat }))
    else .next (s.ringError k 1 value)
  else .next s

/-- DOORBELL_HEAD (R545, R546). -/
def execDoorbellHead (ring : BitVec 16) (value : Word) (s : State) : Out :=
  let k := ring.toNat
  let r := s.ring k
  if r.state ≠ .active then .next (s.doorbellIgnored k value)
  else if r.submits then .next s
  else if (value.toNat + 2 ^ 32 - r.host) % 2 ^ 32 ≤ r.occ then
    let s1 := s.modRing k (fun r => { r with host := value.toNat })
    .next (if r.type = 3 ∧ s.pwr.rung ≤ 1 then (s1.deliver k).purgeQueue else s1)
  else .next (s.ringError k 1 value).purgeQueue

/-- What a read of a doorbell answers (R546). -/
def State.doorbellRead (s : State) (k : Nat) : Word := if (s.ring k).state = .off then 0 else w32 (s.ring k).dev

/-! ## Fetch (R548 to R551, R568, R569) -/

/-- The 64 bytes of a descriptor, byte 0 in bits 7 to 0. -/
def descBytes (bits : BitVec 512) : List Byte := leBytes 64 bits.toNat

/-- Reads a descriptor's fields (R547). -/
def parseDesc (bs : List Byte) : Desc :=
  let w0 := wordLe bs 0
  { op := bitsAt w0 0 8, crcFlag := bitAt w0 8, inline_ := bitAt w0 9, quiet := bitAt w0 10, irq := bitAt w0 11, flagsHi := bitsAt w0 12 4
    seq := bitsAt w0 16 16, sig := bitsAt (wordLe bs 4) 0 18, count := bitsAt (wordLe bs 4) 18 14
    addr := fieldLe bs 8 8, length := fieldLe bs 16 4, crc := fieldLe bs 20 4, w := Vector.ofFn (fun i => wordLe bs (24 + 4 * i.val)) }

/-- The opcodes of R552. -/
def opcodes : List Nat := [0x00, 0x01, 0x10, 0x11, 0x12, 0x20, 0x21, 0x22, 0x30, 0x31, 0x32, 0x40, 0x41, 0x50, 0x51, 0x60, 0x70]

/-- Is the opcode accepted by a ring of the type, with its length (R550)? -/
def classBad (type : Nat) (d : Desc) : Option Nat :=
  if type = 0 then
    (if ¬ [0x00, 0x01, 0x10, 0x11, 0x12, 0x21, 0x40, 0x41].contains d.op then some 3 else if 128 < d.length then some 4 else none)
  else if type = 1 then (if [0x31, 0x32].contains d.op then some 3 else none)
  else none

/-- Payload words from a number on are zero. -/
def Desc.zeroFrom (d : Desc) (k : Nat) : Bool := (d.w.toList.drop k).all (· == 0)
/-- SIG and COUNT are zero. -/
def Desc.noSig (d : Desc) : Bool := d.sig == 0 && d.count == 0
/-- ADDR and LENGTH are zero. -/
def Desc.noMem (d : Desc) : Bool := d.addr == 0 && d.length == 0
/-- One check: its detail unless it holds. -/
def orBad (ok : Bool) (detail : Nat) : Option Nat := if ok then none else some detail
/-- The first failure of a list of checks. -/
def firstBad : List (Option Nat) → Option Nat
  | [] => none
  | some d :: _ => some d
  | none :: rest => firstBad rest

/-- ADDR is a multiple of 4 (R549); log entry 42 on the detail. -/
def Desc.aligned (d : Desc) : Option Nat := orBad (d.addr % 4 == 0) 5

/-- The fields of a signal opcode (R549, R552): `first` payload words before its inline data, at most `inl` values inline. -/
def Desc.sigFields (d : Desc) (first inl : Nat) : Option Nat :=
  firstBad [orBad (decide (1 ≤ d.count ∧ d.count ≤ if d.inline_ then inl else 4096)) 4,
    (if d.inline_ then firstBad [orBad d.noMem 2, orBad (d.zeroFrom (first + d.count)) 2]
     else firstBad [orBad (d.zeroFrom first) 2, d.aligned, orBad (d.length == 4 * d.count) 4]),
    orBad (decide (d.sig + d.count ≤ 2 ^ 18)) 5]

/-- The flags of CHANNEL_MODE (R558): no flag, RESYNC or RELEASE beside another, several channels where one is asked for, words its flags do not use. -/
def Desc.modeFields (d : Desc) : Option Nat :=
  let w0 := d.w[0]
  let fl := bitsAt w0 8 6
  let n := ((List.range 8).filter (fun i => bitAt w0 i)).length
  let single := fl == 0x10 || fl == 0x20 || decide (fl < 0x10)
  firstBad [orBad (d.noSig && d.noMem && d.zeroFrom 9 && bitsAt w0 14 18 == 0) 2, orBad (fl != 0 && single && n != 0) 2,
    orBad (decide (n ≤ 1) || fl % 32 / 2 == 0) 2,
    orBad ((bitAt w0 8 || d.w[1] == 0) && (bitAt w0 9 || d.w[2] == 0) && (bitAt w0 10 || d.w[3] == 0) &&
      (bitAt w0 11 || ((d.w.toList.drop 4).take 5).all (· == 0))) 2]

/-- The fields of SET_STATE (R559): no credential block and no arguments for a shutdown (R438); a rung code 0 to 5 for a rung (R611); an operation 1 to 7 with its 160-byte block for a lifecycle state (R653, R656). -/
def Desc.requestFields (d : Desc) : Option Nat :=
  let r := d.w[0].toNat
  firstBad [orBad d.noSig 2, orBad (decide (1 ≤ r ∧ r ≤ 3)) 2, d.aligned, orBad (d.length == if r = 3 then 160 else 0) 4,
    orBad ((r == 3 || d.addr == 0) && d.zeroFrom r) 2,
    orBad (if r = 2 then decide (d.w[1].toNat ≤ 5) else if r = 3 then decide (1 ≤ d.w[1].toNat ∧ d.w[1].toNat ≤ 7) else true) 2]

/-- The fields of an opcode that are judged from the descriptor alone (R548 step 4, R549, R552, R556, R559). -/
def Desc.fields (d : Desc) : Option Nat :=
  if d.inline_ ∧ d.op ≠ 0x10 ∧ d.op ≠ 0x12 then some 2
  else match d.op with
  | 0x00 => orBad (d.noSig && d.noMem && d.zeroFrom 0) 2
  | 0x01 => orBad (d.noSig && d.noMem && d.zeroFrom 0) 2
  | 0x10 => d.sigFields 0 10
  | 0x11 => firstBad [orBad (decide (1 ≤ d.count ∧ d.count ≤ 4096)) 4, orBad (d.zeroFrom 0) 2,
      (if d.noMem then orBad (d.count == 1) 4 else firstBad [d.aligned, orBad (d.length == 4 * d.count) 4]),
      orBad (decide (d.sig + d.count ≤ 2 ^ 18)) 5]
  | 0x12 => firstBad [orBad (bitsAt d.w[0] 3 29 == 0) 2, d.sigFields 2 8]
  | 0x20 => firstBad [orBad (d.noSig && d.zeroFrom 2 && bitsAt d.w[0] 7 25 == 0 && bitsAt d.w[1] 3 29 == 0) 2, d.aligned]
  | 0x21 => firstBad [orBad (d.noSig && d.noMem && d.zeroFrom 1 && bitsAt d.w[0] 16 16 == 0) 2,
      orBad ([bitsAt d.w[0] 0 8, bitsAt d.w[0] 8 8].all (fun c => decide (c < 128) || c == 0xFF)) 6]
  | 0x22 => firstBad [orBad (d.noSig && d.zeroFrom 1 && bitsAt d.w[0] 20 12 == 0) 2, d.aligned,
      orBad (d.length % 4 == 0 && decide (d.length ≤ 4194304)) 4, orBad (d.w[0].toNat % 8 == 0 && decide (d.w[0].toNat + d.length / 4 ≤ 2 ^ 20)) 5]
  | 0x30 => firstBad [orBad (d.sig == 0 && d.zeroFrom 5 && bitsAt d.w[0] 3 29 == 0) 2, d.aligned,
      orBad (decide (d.count ≤ 1024) && d.length == 4 * d.count && (!bitAt d.w[0] 2 || d.count == 0)) 4]
  | 0x31 => firstBad [orBad (d.noSig && d.zeroFrom 0) 2, d.aligned, orBad (d.length % 16 == 0) 4]
  | 0x32 => firstBad [orBad (d.noSig && d.zeroFrom 1 && bitsAt d.w[0] 6 26 == 0) 2, d.aligned, orBad (d.length % 4 == 0) 4]
  | 0x40 => d.requestFields
  | 0x41 => d.modeFields
  | 0x50 => firstBad [orBad (d.noSig && d.zeroFrom 2 && bitsAt d.w[0] 4 28 == 0) 2, d.aligned]
  | 0x51 => firstBad [orBad (d.noSig && d.zeroFrom 2 && bitsAt d.w[0] 4 28 == 0) 2, d.aligned]
  | 0x60 => firstBad [orBad (d.noSig && d.zeroFrom 0) 2, d.aligned, orBad (d.length == 72 || d.length == 10568) 4]
  | _ => firstBad [orBad (d.noSig && d.zeroFrom 8) 2, d.aligned]

/-- The checks of R548 in their order: status and detail of the first that fails. -/
def descBad (type : Nat) (bs : List Byte) : Option (Nat × Nat) :=
  let d := parseDesc bs
  if d.crcFlag ∧ crc32c (zeroCrc bs 20) ≠ d.crc then some (3, 0)
  else if ¬ opcodes.contains d.op then some (2, 1)
  else match classBad type d with
    | some x => some (2, x)
    | none =>
      if d.flagsHi ≠ 0 ∨ (d.crcFlag = false ∧ d.crc ≠ 0) then some (2, 2)
      else (d.fields).map (fun x => (2, x))

/-- A descriptor that names a channel or a port the part lacks (R3): of WRITE_SIGNALS_AT_FRAME and LOAD_PROGRAM the channel, of CHANNEL_MODE any channel of MASK, of ACK_SATELLITE the port. -/
def State.namesAbsent (s : State) (d : Desc) : Bool :=
  let ch := fun (n : Nat) => decide (8 * s.nPorts ≤ 48 * n)
  match d.op with
  | 0x12 => ch d.w[0].toNat
  | 0x20 => ch d.w[1].toNat
  | 0x41 => (List.range 8).any (fun i => bitAt d.w[0] i && ch i)
  | 0x40 => d.w[0] == 3 && d.w[1] == 5 && decide (s.nPorts ≤ d.w[2].toNat)
  | _ => false

/-- The checks of R548 in their order, the resources the part lacks last (R3): status and detail of the first that fails. -/
def State.descBad (s : State) (type : Nat) (bs : List Byte) : Option (Nat × Nat) :=
  Sys2Proof.Machine.descBad type bs <|> if s.namesAbsent (parseDesc bs) then some (2, 6) else none

/-- Completions bound for a completion ring. -/
def State.boundFor (s : State) (cring : Nat) : List Completion := s.done.filter (fun c => (s.ring c.ring).cring == cring)

/-- A completion is held back for want of room (R563). -/
def State.stalled (s : State) (cring : Nat) : Bool :=
  let c := s.ring cring
  (c.state != .active || decide (c.n ≤ c.occ)) && !(s.boundFor cring).isEmpty

/-- May a submission ring take a descriptor now (R541, R551, R563, R569; on RUN and GRAZE, R601)? -/
def State.mayTake (s : State) (k : Nat) : Bool :=
  let r := s.ring k
  let cmd := fun (t : Taken) => (s.ring t.ring).type == 0
  bitAt (s.reg Reg.reCtrl) 31 && decide (s.pwr.rung ≤ 1) && r.submits && r.state == .active && r.occ != 0 && r.fence.isNone
    && !(s.re.taken.any (fun t => t.ring == k && !t.executed)) && !s.stalled r.cring && decide (s.re.taken.length < 4096)
    && (r.type == 0 || decide ((s.re.taken.filter (fun t => !cmd t)).length < 4032))

/-- The CMD ring whose turn it is (R568): the next above the last one, else the lowest. -/
def State.cmdNext (s : State) : Option Nat :=
  let ks := (s.re.rings.filter (fun p => p.2.type == 0 && s.mayTake p.1)).map (·.1)
  match ks.find? (fun k => decide (s.re.cmdTurn < k)) with
  | some k => some k
  | none => ks.head?

/-- Fetches a PARAM or STREAM ring is given in one weighted round (R568). -/
def Ring.roundShare (r : Ring) : Nat := r.weight

/-- Is a new weighted round due? Every ring that waits has had its share. -/
def State.roundOver (s : State) : Bool :=
  s.re.rings.all (fun p => p.2.type == 0 || !s.mayTake p.1 || decide (p.2.roundShare ≤ kvGet 0 s.re.given p.1))

/-- Does the ring engine select this ring (R568)? The rest of a fetch is taken without a new one. -/
def State.selects (s : State) (k : Nat) : Bool :=
  s.mayTake k &&
    (match s.cmdNext with
     | some c => c == k
     | none => s.roundOver || decide (0 < kvGet 0 s.re.fetched k) || decide (kvGet 0 s.re.given k < (s.ring k).roundShare))

/-- Notes the selection: a CMD ring takes one descriptor in a fetch, another ring at most four (R568). -/
def State.noteTurn (s : State) (k : Nat) : State :=
  if (s.ring k).type = 0 then s.modRe (fun r => { r with cmdTurn := k })
  else if 0 < kvGet 0 s.re.fetched k then s.modRe (fun r => { r with fetched := kvSet 0 r.fetched k (kvGet 0 r.fetched k - 1) })
  else
    let g := if s.roundOver then [] else s.re.given
    s.modRe (fun r => { r with
      given := kvSet 0 g k (kvGet 0 g k + 1)
      fetched := kvSet 0 r.fetched k (min 4 (s.ring k).occ - 1) })

/-- In recovery only NOP, READ_RECORD and STORE_RECORD of kind 7 are taken (R668). -/
def State.recoveryBad (s : State) (d : Desc) : Option (Nat × Nat) :=
  if s.store.recovery ∧ ¬ (d.op = 0x00 ∨ d.op = 0x51 ∨ (d.op = 0x50 ∧ d.w[0] = 7)) then some (1, 1) else none

/-- DESCRIPTOR_FETCH (R543, R548, R551, R668): the ring selected takes the descriptor at its head, which a failed check completes without effect; a read that ended badly puts the ring in ERROR. -/
def execDescriptorFetch (ring : BitVec 16) (good : Bool) (bytes : BitVec 512) (s : State) : Out :=
  let k := ring.toNat
  if s.selects k then
    let r := s.ring k
    if good then
      let bs := descBytes bytes
      let bad := s.descBad r.type bs <|> s.recoveryBad (parseDesc bs)
      let s1 := (s.noteTurn k).modRing k (fun r => { r with dev := (r.dev + 1) % 2 ^ 32 })
      let s2 := s1.modRe (fun x => { x with taken := x.taken ++ [⟨k, r.dev, parseDesc bs, bad.isSome⟩] })
      match bad with
      | none => .next s2
      | some (st, det) => .next (s2.complete k r.dev st det 0)
    else .next (s.ringError k 2 (w32 r.dev))
  else .next s

/-- COMPLETION_TIMEOUT (R543): a descriptor fetch gets no completion. -/
def execCompletionTimeout (ring : BitVec 16) (s : State) : Out :=
  let k := ring.toNat
  if s.selects k then .next (s.ringError k 2 (w32 (s.ring k).dev)) else .next s

/-! ## Completions (R560 to R563) -/

/-- The bytes of a completion entry (R560). -/
def completionEntry (c : Completion) (d : Desc) (phase : Bool) (head : Nat) : List Byte :=
  leBytes 2 d.seq ++ leBytes 1 c.status ++ leBytes 1 d.op ++ leBytes 2 c.ring ++ leBytes 1 c.detail ++ leBytes 1 (b2n phase) ++
    leBytes 4 head ++ leBytes 4 c.result.toNat

/-- A descriptor is no longer in flight; a DRAINING ring whose last it was becomes OFF (R542). -/
def State.releaseDesc (s : State) (c : Completion) : State :=
  let s1 := s.modRe (fun r => { r with taken := r.taken.filter (fun t => t.ring != c.ring || t.index != c.index) })
  let s2 : State := { s1 with done := s1.done.filter (fun d => d.ring != c.ring || d.index != c.index) }
  if (s2.ring c.ring).state = .draining ∧ s2.inFlight c.ring = 0 then s2.modRing c.ring (fun r => { r with state := .off }) else s2

/-- A descriptor in flight. -/
def State.descOf (s : State) (ring index : Nat) : Option Taken := s.re.taken.find? (fun t => t.ring == ring && t.index == index)

/-- COMPLETION_STALL (R563), at most once per second per ring. -/
def State.stallEvent (s : State) (cring : Nat) : State :=
  if rateOk (s.ring cring).lastStall s.now sTicks then
    (s.raise 0x9008 cring 5 [w32 (s.boundFor cring).length]).modRing cring (fun r => { r with lastStall := some s.now })
  else s

/-- The oldest completion bound for a completion ring is written, or held back for want of room; QUIET and OK takes no entry (R560 to R563). -/
def State.writeCompletion (s : State) (k : Nat) : State :=
  let c := s.ring k
  match s.boundFor k with
  | [] => s
  | x :: _ =>
    match s.descOf x.ring x.index with
    | none => s.releaseDesc x
    | some t =>
      if t.desc.quiet ∧ x.status = 0 then s.releaseDesc x
      else if c.state = .off then s.releaseDesc x
      else if c.state = .active ∧ c.occ < c.n then
        let s1 := s.emit (.hostWrite (c.base + 16 * (c.dev % c.n)) (completionEntry x t.desc (c.phase c.dev) (s.ring x.ring).dev))
        ((s1.modRing k (fun r => { r with dev := (r.dev + 1) % 2 ^ 32 })).releaseDesc x).wrote k t.desc.irq
      else s.stallEvent k

/-- DESCRIPTOR_COMPLETION (R560 to R563): below GRAZE no completion is written (R601, R613). -/
def execDescriptorCompletion (cring : BitVec 16) (s : State) : Out := .next (if s.pwr.rung ≤ 1 then s.writeCompletion cring.toNat else s)

/-- Completions that have come are written before the ring engine halts (R613). -/
def State.flushDone (s : State) : State := s.done.foldl (fun s x => s.writeCompletion (s.ring x.ring).cring) s

/-! ## Taking an opcode -/

/-- The descriptor of a ring that has been taken and waits for its effect, when it holds the opcode and what else the command names; it counts as executed from here on. -/
def State.take (s : State) (ring op : Nat) (p : Desc → Bool) : Option (Taken × State) :=
  match s.re.taken.find? (fun t => t.ring == ring && !t.executed) with
  | none => none
  | some t =>
    if t.desc.op = op ∧ p t.desc then
      some (t, s.modRe (fun r => { r with taken := r.taken.map (fun u => if u = t then { u with executed := true } else u) }))
    else none

/-- Completes a taken descriptor. -/
def State.finish (s : State) (t : Taken) (status detail : Nat) (result : Word) : State := s.complete t.ring t.index status detail result

/-- The host data of a descriptor, as many bytes as it asks for; none when the read failed (R549). -/
def dataOf (t : Taken) (data : Option (List Byte)) : Option (List Byte) :=
  if t.desc.length = 0 then some [] else data.filter (fun bs => bs.length == t.desc.length)

/-- Runs the effect of an opcode on the descriptor that waits for it; none waiting, nothing happens (assumption 2). -/
def State.onDesc (s : State) (ring : BitVec 16) (op : Nat) (p : Desc → Bool) (f : Taken → State → State) : State :=
  match s.take ring.toNat op p with
  | none => s
  | some (t, s1) => f t s1

/-- The same for every descriptor of the opcode. -/
def State.onOp (s : State) (ring : BitVec 16) (op : Nat) (f : Taken → State → State) : State := s.onDesc ring op (fun _ => true) f

/-- The same with the host data of the descriptor: a failed read ends it with detail 12 and no effect (R549). -/
def State.onData (s : State) (ring : BitVec 16) (op : Nat) (p : Desc → Bool) (data : Option (List Byte)) (f : Taken → List Byte → State → State) : State :=
  s.onDesc ring op p (fun t s => match dataOf t data with
    | none => s.complete t.ring t.index 2 12 0
    | some bs => f t bs s)

/-- DESCRIPTOR_NOP (R552). -/
def execDescriptorNop (ring : BitVec 16) (s : State) : Out := .next (s.onOp ring 0x00 (fun t s => s.finish t 0 0 0))

/-- FENCE (R551): the ring takes nothing more until it completes. -/
def execFence (ring : BitVec 16) (s : State) : Out :=
  .next (s.onOp ring 0x01 (fun t s => s.modRing t.ring (fun r => { r with fence := some t.index })))

/-- FENCE_COMPLETION (R551): every earlier descriptor of the ring has completed. -/
def execFenceCompletion (ring : BitVec 16) (s : State) : Out :=
  let k := ring.toNat
  match (s.ring k).fence with
  | none => .next s
  | some i =>
    if s.re.taken.all (fun t => t.ring != k || t.index == i || s.done.any (fun c => c.ring == k && c.index == t.index)) then
      .next ((s.modRing k (fun r => { r with fence := none })).complete k i 0 0 0)
    else .next s

/-! ## Endpoint, disconnect and connect (R534, R574, R575) -/

/-- The ring number of a descriptor the host has lost: none of the 65,536. -/
def noRing : Nat := 65536

/-- Descriptors the part still works on no longer have a ring (R574): what they started runs on and reports to nobody. -/
def State.orphan (s : State) : State :=
  let st := s.store
  let by_ := fun (b : WriteBy) => match b with
    | .ring _ i => WriteBy.ring noRing i
    | x => x
  { s with
    planner := { s.planner with
      pending := []
      swaps := s.planner.swaps.map (fun w => { w with ring := noRing }) }
    ch := s.ch.map (fun c => { c with
      settings := c.settings.map (fun g => { g with desc := (noRing, g.desc.2) })
      armedDescs := []
      effected := c.effected.map (fun e => ((noRing, e.1.2), e.2)) })
    shut := { s.shut with desc := none }
    pwr := { s.pwr with
      descent := s.pwr.descent.map (fun q => { q with desc := none })
      climb := s.pwr.climb.map (fun q => { q with request := { q.request with desc := none } })
      heldReq := s.pwr.heldReq.map (fun q => { q with desc := none }) }
    store := { st with
      write := st.write.filter (fun w => match w.by_ with
        | .ring _ _ => decide (w.kind = 6 ∨ w.kind = 4)
        | _ => true)
      waiting := st.waiting.filter (fun w => match w.by_ with
        | .ring _ _ => decide (w.kind = 6 ∨ w.kind = 4)
        | _ => true)
      safetyDone := st.safetyDone.map (fun p => (by_ p.1, { p.2 with ring := noRing })) }
    tahr := { s.tahr with updating := s.tahr.updating && !(st.write.toList ++ st.waiting).any (fun w => w.kind == 7 && (match w.by_ with
      | .ring _ _ => true
      | _ => false)) }
    done := [] }

/-- What a disconnect does to the rings (R574, R608, R631): every ring OFF, nothing taken, RE_CTRL.EN clear. -/
def State.ringsOff (s : State) : State :=
  let s1 := s.orphan.modRe (fun r => { r with
    rings := r.rings.map (fun p => (p.1, { p.2 with
      state := .off
      fence := none
      unsignalled := 0
      first := none }))
    taken := []
    timed := []
    given := []
    fetched := [] })
  let s2 := s1.setReg Reg.reCtrl 0
  { s2 with ev := { s2.ev with held := true } }

/-- DISCONNECT (R574): causes 1 link down, 2 hot reset, 3 FLR, 4 Bus Master Enable cleared. -/
def execDisconnect (cause : Nat) (s : State) : Out :=
  let untaken := s.re.rings.foldl (fun n p => if p.2.submits && p.2.state != .off then n + p.2.occ else n) 0
  let s1 := s.ringsOff.modRe (fun r => { r with
    speed := if cause = 1 then 0 else r.speed
    width := if cause = 1 then 0 else r.width })
  .next (s1.raise 0x9005 1 10 [w32 cause, w32 untaken])

/-- HOST_CONNECT (R575). -/
def execHostConnect (speed width : BitVec 4) (s : State) : Out :=
  .next ((s.modRe (fun r => { r with speed := speed.toNat, width := width.toNat })).raise 0x9006 1 3 [w32 speed.toNat, w32 width.toNat])

/-- RE_CTRL (R575): a write of EN. -/
def execReCtrl (value : Word) (s : State) : Out := .next (s.setReg Reg.reCtrl (value &&& 0x80000000))

/-- PCIE_ERROR (R534): the endpoint's AER status words. -/
def execPcieError (uncorrectable correctable : Word) (s : State) : Out := .next (s.raise 0x900A 1 8 [uncorrectable, correctable])

/-! ## Registers (16_host_rings.md) -/

/-- RE_STATUS. -/
def State.reStatus (s : State) : Word := packFields [(16, min 4096 s.re.taken.length), (4, s.re.width % 16), (0, s.re.speed % 16)]
/-- RING_OP_STATUS. -/
def State.ringOpStatus (s : State) : Word := w32 (s.re.opErr % 256)
/-- RING_STATE of the selected ring. -/
def State.ringStateReg (s : State) : Word :=
  let r := s.ring s.selRing
  packFields [(16, s.inFlight s.selRing), (8, r.cause % 256), (0, r.state.code)]

end Sys2Proof.Machine
end

