-- ==== Sys2Proof/Machine/RegWrite.lean ====
section
/-! DEFINITION. Host writes to the set-up window (22_setup_registers.md, R688 to R692, R695, R697; 00_scope.md, R13, R14; the ranges of the register tables). -/

namespace Sys2Proof.Machine

/-- A field takes the nearest end of its range (R287, R321, R371, R410, R443, R533, R594). -/
def FieldDef.take (f : FieldDef) (old v : Word) : Word := putBits old f.lo f.width (max f.least (min f.most (bitsAt v f.lo f.width)))

/-- The word after a write to the fields of some access types; the others stay (R14). -/
def RegDef.take (r : RegDef) (ok : Access → Bool) (old v : Word) : Word :=
  r.fields.foldl (fun w f => if ok f.access then f.take w v else w) old

/-- Does the register hold a field of an access type? -/
def RegDef.holds (r : RegDef) (a : Access) : Bool := r.fields.any (fun f => f.access == a)

/-- An F32 field limited to a range, a NaN taken as its lower end. -/
def f32Range (lo hi v : Word) : Word := if f32IsNaN v then lo else if f32Less v lo then lo else if f32Less hi v then hi else v

/-- A register of a family at `base` + stride × i + sub. -/
def inFamily (off base stride count : Nat) : Bool := decide (base ≤ off) && (off - base) % stride == 0 && decide ((off - base) / stride < count)

/-- What the register tables say of single fields beyond their range: bit 0 of PERIOD and of DT reads zero, F32 ranges, R239, R443, bit 4 of GLB_FAULT_MASK. -/
def specialWord (off : Nat) (v : Word) : Word :=
  if inFamily off (Reg.chCarrier 0) 0x20 8 then v &&& ~~~1
  else if (List.range 3).any (fun l => inFamily off (Reg.modDt 0 l) 0x20 8) then v &&& ~~~1
  else if inFamily off (Reg.modIband 0) 0x20 8 then f32Range 0x3DCCCCCD 0x447A0000 v
  else if inFamily off (Reg.dischI 0) 0x40 8 then f32Range 0x3F800000 0x447A0000 v
  else if off = Reg.planVdd then
    let mx := min 900 (max 680 (bitsAt v 16 16 / 5 * 5))
    let mn := min 900 (max 680 (bitsAt v 0 16 / 5 * 5))
    packFields [(16, mx), (0, min mx mn)]
  else if [0x70124, 0x70128].any (fun b => inFamily off b 0x80 16) then (if f32IsNaN v ∨ bitAt v 31 then 0 else v)
  else if [0x70134, 0x70138, 0x7013C, 0x70140].any (fun b => inFamily off b 0x80 16) then
    (if f32IsNaN v ∨ f32Less v 0x3F800000 then 0x3F800000 else v)
  else if inFamily off (Reg.protSpeed 0) 0x40 8 then
    (if bitsAt v 0 16 > bitsAt v 16 16 then packFields [(16, bitsAt v 16 16), (0, bitsAt v 16 16)] else v)
  else if off = Reg.glbFaultMask then v &&& ~~~0x10
  else v

/-- The word a register holds after its configuration fields have taken v; reserved bits read zero. -/
def cleanWord (off : Nat) (old v : Word) : Word :=
  match regAt off with
  | none => 0
  | some r => specialWord off (r.take (fun a => a == .rw || a == .rwl) old v)

/-- Registers of CH_4 to CH_7, of TP_24 to TP_47 and of the aux slots (R5): the channel blocks of LINK, the ports, CH_MISS and SAFE_CH, FRESH_CFG to FRESH_ALT, in every window. -/
def absentReg (off : Nat) : Bool :=
  [(0x60180, 0x60200), (0x60480, 0x60500), (0x60900, 0x60A00), (0x60D80, 0x60F00), (0x61100, 0x61200), (0x10E30, 0x10E40), (0x20E30, 0x20E40),
    (0x300B0, 0x300C0), (0x90110, 0x90120), (0x90130, 0x90140), (0x90150, 0x90160)].any (fun r => decide (r.1 ≤ off ∧ off < r.2))

/-- Is the offset in a window the host cannot write (R690), or of a part the NB-7806 lacks (R2, R5)? -/
def State.windowShut (s : State) (off : Nat) : Bool :=
  let w := off / 0x10000
  w == 2 || w == 3 || (s.part == .nb7806 && (w == 5 || w == 7 || absentReg off))

/-- Registers whose writes have a row of their own. -/
def ownRow (off : Nat) : Bool :=
  [Reg.reCtrl, Reg.ringOp, Reg.setupCtrl, Reg.pwrCtrl, Reg.pwrStatus, Reg.pwrTimerHi, Reg.stCtrl].contains off
    || inFamily off (Reg.chResync 0) 0x20 8 || inFamily off (Reg.smpRptr 0) 0x10 64 || inFamily off (Reg.gaUnretire 0) 0x40 8
    || inFamily off (Reg.protCmd 0) 0x40 8 || inFamily off (Reg.canCmd 0) 0x4000 4 || inFamily off (Reg.canObjSel 0) 0x4000 4
    || (idxs 2).any (fun d => off == Reg.owStatus0 d.val || off == Reg.owStatus1 d.val
        || inFamily off (Reg.cmpCtrl d.val 0) 0x20 4
        || (idxs 4).any (fun u => inFamily off (Reg.cmpList d.val u.val 0) 4 128))

/-- SETUP_WRITE_IGNORED (R697), at most once per second, with the writes ignored since the last. -/
def State.writeIgnored (s : State) (off : Nat) (value : Word) : State :=
  let g := s.glb
  if rateOk g.lastIgnored s.now sTicks then
    ({ s with glb := { g with lastIgnored := some s.now, ignoredCount := 0 } } : State).raise 0x0402 1 4 [w32 off, value, w32 (g.ignoredCount + 1)]
  else { s with glb := { g with ignoredCount := g.ignoredCount + 1 } }

/-- A write to the MSI-X table (R534, R567): a vector unmasked while it is pending sends its message. -/
def State.writeMsix (s : State) (off : Nat) (v : Word) : State :=
  let k := (off - 0x98000) / 16
  if off % 16 = 12 then
    let s1 := s.setReg off (v &&& 1)
    if ¬ bitAt v 0 ∧ s.re.pba.contains k then (s1.modRe (fun r => { r with pba := r.pba.filter (· != k) })).emit (.msix k) else s1
  else s.setReg off v

/-- A word of a SENSE, LINK or AUX register that takes effect after SETUP_LOCKED travels there at once, a pseudo-run (R28, R450, R695); before it, with the set-up that SETUP_LOCKED sends. -/
def State.setupSent (s : State) (off : Nat) (v : Word) : State := if s.glb.checked && setupFlit off then s.pseudoRun [(off, v)] else s

/-- What a register write causes beyond its word: a SYNC_OUT pulse under way ends where OUT_EN is cleared or OUT_CH names another channel (R81). -/
def State.writeWord (s : State) (off : Nat) (v : Word) : State :=
  let s1 := (s.setReg off v).setupSent off v
  if off = Reg.syncPins ∧ (¬ bitAt v 28 ∨ bitsAt v 29 3 ≠ bitsAt (s.reg off) 29 3) then { s1 with syncOutEnd := none } else s1

/-- REGISTER_WRITE (R689, R690, R695, R697): an aligned 32-bit write to a register with no row of its own. -/
def execRegisterWrite (offset : BitVec 20) (value : BitVec 32) (s : State) : Out :=
  let off := offset.toNat
  if off % 4 ≠ 0 ∨ s.windowShut off ∨ ownRow off then .next s
  else if 0x98000 ≤ off ∧ off < 0xA0000 then .next (s.writeMsix off value)
  else match regAt off with
  | none => .next s
  | some r =>
    let old := s.reg off
    if s.glb.locked then
      let kept := r.take (fun a => a == .rw) old value
      let would := r.take (fun a => a == .rw || a == .rwl) old value
      let s1 := if r.holds .rwl && (kept != would || !r.holds .rw) then s.writeIgnored off value else s
      .next (if r.holds .rw then s1.writeWord off (specialWord off kept) else s1)
    else if r.holds .rw || r.holds .rwl then .next (s.writeWord off (cleanWord off old value))
    else .next s

/-! ## Compare units -/

/-- A write of CMP_CTRL_u (R314): enabling sets PTR to 0. -/
def State.writeCmpCtrl (s : State) (d : Fin 2) (u : Fin 4) (v : Word) : State :=
  let s1 := (s.setReg (Reg.cmpCtrl d.val u.val) (v &&& 0xFC3FFFFF)).setupSent (Reg.cmpCtrl d.val u.val) (v &&& 0xFC3FFFFF)
  if bitAt v 31 && !bitAt (s.cmpReg d u) 31 then s1.modCmp d u (fun x => { x with ptr := 0, stopped := false, prev := none }) else s1

/-- CMP_CTRL (R314). -/
def execCmpCtrl (die : Fin 2) (unit : Fin 4) (value : BitVec 32) (s : State) : Out :=
  if s.hasDie (senseDie die) then .next (s.writeCmpCtrl die unit value) else .next s

/-- A write of the compare list (R314): ignored while EN is 1. -/
def State.writeCmpList (s : State) (d : Fin 2) (u : Fin 4) (p : Nat) (high : Bool) (v : Word) : State :=
  let off := if high then Reg.cmpListHi d.val u.val p else Reg.cmpList d.val u.val p
  if bitAt (s.cmpReg d u) 31 then s else (s.setReg off v).setupSent off v

/-- CMP_LIST (R314). -/
def execCmpList (die : Fin 2) (unit : Fin 4) (entry : Fin 64) (high : Bool) (value : BitVec 32) (s : State) : Out :=
  if s.hasDie (senseDie die) then .next (s.writeCmpList die unit entry.val high value) else .next s

end Sys2Proof.Machine
end

