-- ==== Sys2Proof/Machine/Descriptors.lean ====
section
/-! DEFINITION. The descriptors of signals, programs, tables, trace, samples and channel settings (16_host_rings.md, R552 to R558). -/

namespace Sys2Proof.Machine

/-- Words of a byte string. -/
def wordsLe (bs : List Byte) : List Word := (List.range (bs.length / 4)).map (fun i => wordLe bs (4 * i))

/-- Consecutive addresses with their values. -/
def numbered (a : Nat) (ws : List Word) : Kv Word := (ws.zipIdx).map (fun p => (a + p.2, p.1))

/-! ## Signals (R553 to R555) -/

/-- The checks of R101, R113 and R165 (only XST writes an exempt signal) on a host write: status and detail of the failure. An exempt signal that a host entry covers gives NOT_OWNER 1 too; the rules name no completion for it (DESIGN CHOICE, assumption 103). -/
def CtrlDie.hostWriteBad (d : CtrlDie) (ws : Kv Word) : Option (Nat × Nat) :=
  if ws.any (fun w => (d.entryOf w.1).elim true (fun e => e.owner != 0x200) || decide (0x3F000 ≤ w.1)) then some (4, 1)
  else if ws.any (fun w => (d.entryOf w.1).elim false (fun e => e.act) && f32NonFinite w.2) then some (2, 7)
  else none

/-- A host write of signals (R104, R553): checked as a whole, then committed with one stamp; ends its descriptor. -/
def State.hostWrite (s : State) (ring index sig : Nat) (vals : List Word) (stamp : Nat) (result : Word) : State :=
  let ws := numbered sig vals
  match (s.die .a).hostWriteBad ws with
  | some (st, det) => s.complete ring index st det 0
  | none => (s.doEffect none (.commit 0x200 stamp ws)).complete ring index 0 0 result

/-- WRITE_SIGNALS (R553). -/
def execWriteSignals (ring : BitVec 16) (data : Option (List (BitVec 8))) (s : State) : Out :=
  .next (s.onOp ring 0x10 (fun t s =>
    let d := t.desc
    if d.inline_ then s.hostWrite t.ring t.index d.sig (d.w.toList.take d.count) s.now (w32 d.count)
    else match dataOf t data with
      | none => s.finish t 2 12 0
      | some bs => s.hostWrite t.ring t.index d.sig (wordsLe bs) s.now (w32 d.count)))

/-- A host read of signals (R95, R101, R116, R118, R119): none when a signal is not for the host; a poisoned signal reads zero. -/
def State.hostRead (s : State) (sig count : Nat) : Option (List Word × State) :=
  let as := (List.range count).map (sig + ·)
  let d := s.die .a
  if as.any (fun a => (d.entryOf a).elim false (fun e => !e.hostR)) then none
  else
    let (vs, d1, ev) := d.readMany .a s.now 0x200 as
    some ((as.zip vs).map (fun p => if d1.poisoned.contains p.1 then 0 else p.2), (s.modCtrl .a (fun _ => d1)).raiseAll ev)

/-- READ_SIGNALS (R555). -/
def execReadSignals (ring : BitVec 16) (s : State) : Out :=
  .next (s.onOp ring 0x11 (fun t s =>
    let d := t.desc
    match s.hostRead d.sig d.count with
    | none => s.finish t 4 2 0
    | some (vs, s1) =>
      if d.noMem then s1.finish t 0 0 (vs.headD 0)
      else (s1.emit (.hostWrite d.addr (vs.flatMap (fun v => leBytes 4 v.toNat)))).finish t 0 0 (w32 d.count)))

/-- The sample instant of a frame that lies ahead, or a time before it: exact for the next two frames, and for the first of a carrier that does not run yet. -/
def State.sampleAhead (s : State) (c : Channel) (ahead : Nat) : Nat :=
  if ¬ s.ch[c].running then s.firstSample c + (ahead - (if s.ch[c].resumed then 1 else 0)) * 2000
  else if ahead ≤ 1 then s.nextSample c else s.ch[c].nextBoundary + s.lenNext c - s.tsu c + (ahead - 2) * 2000

/-- WRITE_SIGNALS_AT_FRAME (R554). -/
def execWriteSignalsAtFrame (ring : BitVec 16) (data : Option (List (BitVec 8))) (s : State) : Out :=
  .next (s.onOp ring 0x12 (fun t s =>
    let d := t.desc
    let c : Channel := finOf 7 d.w[0].toNat
    let f := d.w[1].toNat
    let ahead := (f + 2 ^ 32 - s.ch[c].frame % 2 ^ 32) % 2 ^ 32
    if ¬ s.hasChannel c then s.finish t 2 6 0
    else if ¬ s.ch[c].enabled then s.finish t 1 1 0
    else if 2 ^ 31 ≤ ahead then s.finish t 1 3 0
    else if 65536 < ahead then s.finish t 2 4 0
    else if (ahead = 0 ∧ (s.ch[c].running ∨ s.ch[c].resumed)) ∨ ((s.ch[c].running ∨ s.glb.locked) ∧ s.sampleAhead c ahead < s.now + 5 * usTicks) then s.finish t 1 3 0
    else if 256 ≤ s.re.timed.length then s.finish t 5 3 0
    else
      let vals := if d.inline_ then some ((d.w.toList.drop 2).take d.count) else (dataOf t data).map wordsLe
      match vals with
      | none => s.finish t 2 12 0
      | some vs => (s.modRe (fun r => { r with timed := r.timed ++ [⟨c, f, d.sig, vs, t.ring, t.index, none⟩] })).armTimer c))

/-- TIMED_WRITE_COMMIT (R57, R554): the request that a timer raised for a channel commits a write that waits for it, with the programmed time as stamp; the last such write uses the request up. A write whose frame is no longer ahead and had no sample instant ends with REJECTED_STATE. -/
def execTimedWriteCommit (ch : Channel) (s : State) : Out :=
  let drop := fun (t : TimedWrite) => s.modRe (fun r => { r with timed := r.timed.filter (· != t) })
  let served := fun (s : State) (q : TimerRequest) => { s with timerReqs := vUpd s.timerReqs 0 (fun l => l.filter (· != q)) }
  match s.timerReqs[0].find? (fun q => q.purpose == ch.val) with
  | some q =>
    match s.re.timed.filter (fun t => t.channel == ch && t.due == some q.stamp) with
    | [] => .next (served s q)
    | t :: rest =>
      let s1 := drop t
      .next ((if rest = [] then served s1 q else s1).hostWrite t.ring t.index t.sig t.values q.stamp (w32 t.frame))
  | none =>
    match s.re.timed.find? (fun t => t.channel == ch && t.due.isNone && frameGe s.ch[ch].frame t.frame) with
    | none => .next s
    | some t => .next ((drop t).complete t.ring t.index 1 3 0)

/-! ## Programs and tables -/

/-- LOAD_PROGRAM (R98, R128, R130, R171). -/
def execLoadProgram (ring : BitVec 16) (data : Option (List (BitVec 8))) (s : State) : Out :=
  .next (s.onData ring 0x20 (fun _ => true) data (fun t bs s =>
    let slot : SlotCode := finOf 127 t.desc.w[0].toNat
    let ch : Channel := finOf 7 t.desc.w[1].toNat
    match s.judgeLoad slot ch bs with
    | .dirFull n free => (s.raise 0x0116 1 6 [w32 n, w32 free]).finish t 2 10 0
    | .bad st det => s.finish t st det 0
    | .full bank words largest => (s.raise 0x1021 1 6 [w32 bank, w32 words, w32 largest]).finish t 2 11 0
    | .ok place im => (s.doEffect (some ch) (.load slot ch place im)).finish t 0 0 (w32 place)))

/-- A slot that SWAP_PROGRAM names; 0xFF: none. -/
def slotNamed (n : Nat) : Option SlotCode := if n = 0xFF then none else some (finOf 127 n)

/-- Is the slot the old or the new slot of a swap that is pending or not yet complete (R131)? -/
def State.inSwap (s : State) (c : SlotCode) : Bool :=
  s.planner.swaps.any (fun w => w.old == some c || w.new == some c)
    || s.planner.pending.any (fun p => match p with
      | .swap old new _ _ => old == some c || new == some c
      | .mode _ _ => false)

/-- Two SAMPLE_PATH programs would be ACTIVE on one channel (R137), swaps under way counted as made. -/
def State.twoSamplePaths (s : State) (old : Option SlotCode) (new : SlotCode) : Bool :=
  let x := s.slotOf .a new
  let moving := s.planner.swaps.map (fun w => (w.old, w.new)) ++ s.planner.pending.filterMap (fun p => match p with
    | .swap o n _ _ => some (o, n)
    | .mode _ _ => none)
  x.samplePath && (idxs 128).any (fun c =>
    c != new && (s.slotOf .a c).samplePath && (s.slotOf .a c).channel == x.channel && some c != old
      && ((s.slotOf .a c).state == .active || moving.any (fun m => m.2 == some c)) && !moving.any (fun m => m.1 == some c))

/-- A swap is refused in its present state (R131, R137). A swap that names one slot as old and as new is refused too: no rule speaks of it (DESIGN CHOICE, assumption 42). -/
def State.swapBad (s : State) (old new : Option SlotCode) : Bool :=
  let st := fun (c : SlotCode) => (s.slotOf .a c).state
  (new.elim false (fun n => st n != .loaded || s.inSwap n || s.claimBlocked old n || s.twoSamplePaths old n))
    || (old.elim false (fun o => (st o != .active && st o != .loaded) || s.inSwap o))
    || (match old, new with
        | some o, some n => (s.slotOf .a o).channel != (s.slotOf .a n).channel || o == n
        | none, none => true
        | _, _ => false)

/-- SWAP_PROGRAM (R131, R132, R439): a LOADED slot with no new one is emptied at once; every other swap waits for the planner. -/
def execSwapProgram (ring : BitVec 16) (s : State) : Out :=
  .next (s.onOp ring 0x21 (fun t s =>
    let old := slotNamed (bitsAt t.desc.w[0] 0 8)
    let new := slotNamed (bitsAt t.desc.w[0] 8 8)
    if s.shut.active then s.finish t 1 4 0
    else if s.swapBad old new then s.finish t 1 1 0
    else match old, new with
      | some o, none =>
        if (s.slotOf .a o).state = .loaded then (s.emptyBoth o).finish t 0 0 0
        else { s with planner := { s.planner with pending := s.planner.pending ++ [.swap old new t.ring t.index] } }
      | _, _ => { s with planner := { s.planner with pending := s.planner.pending ++ [.swap old new t.ring t.index] } }))

/-- Adds the 4 KiB pages of table memory that a run of words touches (R609). -/
def notePages (pages : List Nat) (a n : Nat) : List Nat :=
  if n = 0 then pages else addKeys ((List.range ((a + n - 1) / 1024 + 1 - a / 1024)).map (a / 1024 + ·)) pages

/-- LOAD_TABLE (R552). -/
def execLoadTable (ring : BitVec 16) (data : Option (List (BitVec 8))) (s : State) : Out :=
  .next (s.onData ring 0x22 (fun _ => true) data (fun t bs s =>
    let a := t.desc.w[0].toNat
    let ws := wordsLe bs
    let s1 := s.doEffect none (.tables a ws)
    ({ s1 with pwr := { s1.pwr with tablePages := notePages s1.pwr.tablePages a ws.length } } : State).finish t 0 0 (w32 ws.length)))

/-! ## Trace and samples (R556, R557) -/

/-- ARM_TRACE (R115, R556): w0 without DISARM. -/
def execArmTrace (ring : BitVec 16) (data : Option (List (BitVec 8))) (s : State) : Out :=
  .next (s.onData ring 0x30 (fun d => !bitAt d.w[0] 2) data (fun t bs s =>
    let d := t.desc
    let taps := (wordsLe bs).map (·.toNat)
    if s.trace.active then s.finish t 5 1 0
    else if ¬ taps.all (fun a => ((s.die .a).entryOf a).elim false (fun e => e.trace)) then s.finish t 2 5 0
    else
      let trig : Option TraceTrigger := if bitAt d.w[0] 1 then some ⟨d.w[1].toNat, d.w[2], d.w[3], d.w[4].toNat⟩ else none
      let arm := fun (u : TraceUnit) => { u with
        active := true
        taps := taps
        wrap := bitAt d.w[0] 0
        trig := trig
        left := none
        records := []
        read := 0
        lost := false }
      ({ s with
        trace := arm s.trace
        traceB := arm s.traceB } : State).finish t 0 0 (w32 d.count)))

/-- DISARM (R23, R556): capture stops on both control dies. -/
def execDisarm (ring : BitVec 16) (s : State) : Out :=
  .next (s.onDesc ring 0x30 (fun d => bitAt d.w[0] 2) (fun t s =>
    let s1 : State := { s with traceB := { s.traceB with active := false } }
    (if s.trace.active then s1.stopTrace 2 else s1).finish t 0 0 0))

/-- The 16 bytes of a trace record. -/
def traceBytes (r : Nat × Nat × Word) : List Byte := leBytes 8 r.1 ++ leBytes 4 r.2.1 ++ leBytes 4 r.2.2.toNat

/-- DRAIN_TRACE (R556): the oldest unread records, in capture order. -/
def execDrainTrace (ring : BitVec 16) (s : State) : Out :=
  .next (s.onOp ring 0x31 (fun t s =>
    let recs := (s.trace.records.drop s.trace.read).take (t.desc.length / 16)
    let s1 := s.emit (.hostWrite t.desc.addr (recs.flatMap traceBytes))
    ({ s1 with trace := { s1.trace with read := s1.trace.read + recs.length, lost := false } } : State).finish t 0 (b2n s.trace.lost) (w32 recs.length)))

/-- DRAIN_SAMPLES (R282, R557). -/
def execDrainSamples (ring : BitVec 16) (s : State) : Out :=
  .next (s.onOp ring 0x32 (fun t s =>
    let b : Fin 64 := finOf 63 t.desc.w[0].toNat
    let len := 2 ^ s.smpLog b
    let diff := s.smpUnread b
    let excess := decide (len < diff)
    let from_ := if excess then (s.smp[b].wptr + 2 ^ 32 - len) % 2 ^ 32 else (s.reg (Reg.smpRptr b.val)).toNat
    let n := min (min diff len) (t.desc.length / 4)
    let ws := (List.range n).map (fun i => kvGet 0 s.sampleMem ((s.smpSpan b).1 + (from_ + i) % len))
    ((s.emit (.hostWrite t.desc.addr (ws.flatMap (fun w => leBytes 4 w.toNat)))).setRptr b (w32 (from_ + n))).finish t 0 (b2n excess) (w32 n)))

/-! ## CHANNEL_MODE (R558) -/

/-- R70 on a channel: the lowest reason that holds, 0 none. -/
def State.carrierReason (s : State) (c : Channel) : Nat :=
  let l := s.leader c
  if s.source c ≠ 2 then 0
  else if l = c then 1
  else if s.source l = 2 then 2
  else if s.period l ≠ s.period c ∨ s.doubleUpdate l ≠ s.doubleUpdate c then 3
  else if ¬ s.ch[l].enabled then 4
  else 0

/-- R437 on a channel: METHOD is not NONE and N_max exceeds 98 µs. -/
def State.dischTooSlow (s : State) (c : Channel) : Bool := s.dischMethod c != 0 && decide (98 * usTicks < s.nMax c)

/-- The set-up of a channel breaks R70, R286, R320, R369 or R437. -/
def State.modeBad (s : State) (c : Channel) : Bool :=
  s.carrierReason c != 0 || s.filterTooSlow c (s.nMin c) (s.tsu c) || s.posModeBad c (s.nNom c) (s.nMin c) || !(s.modErrors c).isEmpty || s.dischTooSlow c

/-- The settings a CHANNEL_MODE carries for a channel, limited as its registers are. Reserved bits of its register words are dropped as a register write drops them, where R15 could be read to refuse them (DESIGN CHOICE, assumption 100). -/
def State.modeSettings (s : State) (t : Taken) (c : Channel) : ChanSettings :=
  let w := t.desc.w
  let clean := fun (off : Nat) (v : Word) => cleanWord off (s.reg off) v
  { carrier := if bitAt w[0] 8 then some (clean (Reg.chCarrier c.val) w[1]) else none
    sync := if bitAt w[0] 9 then some (clean (Reg.chSync c.val) w[2]) else none
    dither := if bitAt w[0] 10 then some (clean (Reg.chDither c.val) w[3]) else none
    modulator := if bitAt w[0] 11 then [clean (Reg.modCfg c.val) w[4], clean (Reg.modDt c.val 0) w[5], clean (Reg.modDt c.val 1) w[6],
      clean (Reg.modDt c.val 2) w[7], clean (Reg.modIband c.val) w[8]] else []
    accepted := false
    desc := (t.ring, t.index) }

/-- What every CHANNEL_MODE is judged by: status and detail of its end, the channels the part lacks first (R3, R548). -/
def State.modeStop (s : State) (t : Taken) : Option (Nat × Nat) :=
  let cs := maskChans (BitVec.ofNat 8 (bitsAt t.desc.w[0] 0 8))
  if cs.any (fun c => !s.hasChannel c) then some (2, 6)
  else if s.shut.active then some (1, 4)
  else if cs.any (fun c => !s.ch[c].enabled) then some (1, 1)
  else none

/-- CHANNEL_MODE_SETTINGS (R67, R558): the settings go to the planner as one change. -/
def execChannelModeSettings (ring : BitVec 16) (s : State) : Out :=
  .next (s.onDesc ring 0x41 (fun d => bitsAt d.w[0] 12 2 == 0) (fun t s =>
    let mask : BitVec 8 := BitVec.ofNat 8 (bitsAt t.desc.w[0] 0 8)
    let cs := maskChans mask
    if bitAt t.desc.w[0] 8 ∧ cs.any (fun c => bitAt t.desc.w[1] 31 != bitAt (s.reg (Reg.chCarrier c.val)) 31) = true then s.finish t 2 8 0
    else match s.modeStop t with
    | some (st, det) => s.finish t st det 0
    | none =>
      let trial := cs.foldl (fun u c => (u.modCh c (fun x => { x with settings := some (s.modeSettings t c) })).withSettings c) s
      if (idxs 8).any (fun c => s.ch[c].enabled && trial.modeBad c) = true then s.finish t 2 8 0
      else { s with planner := { s.planner with pending := s.planner.pending ++ [.mode mask (s.modeSettings t (cs.headD 0))] } }))

/-- CHANNEL_MODE_RESYNC (R83, R558). -/
def execChannelModeResync (ring : BitVec 16) (s : State) : Out :=
  .next (s.onDesc ring 0x41 (fun d => bitAt d.w[0] 12) (fun t s =>
    let c := (maskChans (BitVec.ofNat 8 (bitsAt t.desc.w[0] 0 8))).headD 0
    match s.modeStop t with
    | some (st, det) => s.finish t st det 0
    | none => if s.source c = 2 ∨ ¬ s.ch[c].running then s.finish t 1 1 0 else s.commandResync c (some (t.ring, t.index))))

/-- CHANNEL_MODE_RELEASE (R427, R558, R695): RESULT is the mask of channels granted. A channel that is not enabled is granted none, and each other is judged by R427 alone, a shutdown being its reason 6. -/
def execChannelModeRelease (ring : BitVec 16) (s : State) : Out :=
  .next (s.onDesc ring 0x41 (fun d => bitAt d.w[0] 13) (fun t s =>
    let mask := bitsAt t.desc.w[0] 0 8
    if (maskChans (BitVec.ofNat 8 mask)).any (fun c => !s.hasChannel c) then s.finish t 2 6 0
    else if ¬ s.glb.locked then s.finish t 1 1 0
    else
      let (s1, granted) := (maskChans (BitVec.ofNat 8 mask)).foldl (fun (p : State × Nat) c =>
        if ¬ s.ch[c].enabled then p
        else
          let (u, ok) := p.1.requestRelease c
          (u, if ok then p.2 + 2 ^ c.val else p.2)) (s, 0)
      if granted = mask then s1.finish t 0 0 (w32 granted) else s1.finish t 1 5 (w32 granted)))

end Sys2Proof.Machine
end

