-- ==== Sys2Proof/Machine/Can.lean ====
section
/-! DEFINITION. The CAN FD controllers (17_can.md, R576 to R594). -/

namespace Sys2Proof.Machine

/-- A controller. -/
def State.ctl (s : State) (k : Fin 4) : CanCtl := s.can[k]
/-- Updates a controller. -/
def State.modCan (s : State) (k : Fin 4) (f : CanCtl → CanCtl) : State := { s with can := vUpd s.can k f }
/-- An object. -/
def CanCtl.obj (c : CanCtl) (j : Nat) : CanObj := kvGet {} c.objs j
/-- Updates an object. -/
def State.modObj (s : State) (k : Fin 4) (j : Nat) (f : CanObj → CanObj) : State :=
  s.modCan k (fun c => { c with objs := kvSet {} c.objs j (f (c.obj j)) })

/-- The controller is enabled and powered (R593, R601, R695). -/
def State.canOn (s : State) (k : Fin 4) : Bool :=
  bitAt (s.reg (Reg.canCtrl k.val)) 31 && s.glb.checked && !(s.ctl k).disabled && decide (s.pwr.rung ≤ 3)
/-- MODE: 0 NORMAL, 1 LISTEN, 2 LOOPBACK; 3 is taken as 1. -/
def State.canMode (s : State) (k : Fin 4) : Nat := let m := s.fld (Reg.canCtrl k.val) 28 2
  if m = 3 then 1 else m
/-- The object is enabled (R593, R695). -/
def State.objOn (s : State) (k : Fin 4) (j : Nat) : Bool :=
  s.canOn k && bitAt (s.reg (Reg.canObjId k.val j)) 31 && !(s.ctl k).objOff.contains j
/-- KIND: 0 receive, 1 transmit, 2 event transmit; 3 is taken as 0. -/
def State.objKind (s : State) (k : Fin 4) (j : Nat) : Nat := s.fld (Reg.canObjMode k.val j) 30 2 % 3
/-- MIRROR. -/
def State.objMirror (s : State) (k : Fin 4) (j : Nat) : Bool := bitAt (s.reg (Reg.canObjMode k.val j)) 29
/-- First signal of a mirror block (R579). -/
def mirrorBase (blk : Nat) : Nat := 0x18000 + 32 * blk
/-- The object's block. -/
def State.objBase (s : State) (k : Fin 4) (j : Nat) : Nat := mirrorBase (s.fld (Reg.canObjMode k.val j) 20 9)

/-- Code of STATE; 3 disabled. -/
def State.canState (s : State) (k : Fin 4) : Nat :=
  if !s.canOn k then 3
  else match (s.ctl k).mode with
    | .active => 0
    | .passive => 1
    | .busOff => 2

/-- Commits the status group (R592). -/
def State.canStatusCommit (s : State) (k : Fin 4) : State :=
  let c := s.ctl k
  let b := mirrorBase (508 + k.val)
  s.hwCommit (0x10 + k.val) s.now [(b, w32 (s.canState k)), (b + 1, w32 (min 255 c.tec)), (b + 2, w32 (min 255 c.rec_)),
    (b + 3, w32 c.unmatched), (b + 4, w32 c.evtDropped)]

/-- The enabled controllers have left DISABLED: a change of STATE (R592), as the set-up ends or the ladder powers LINK again. -/
def State.canStarts (s : State) : State := (idxs 4).foldl (fun s k => if s.canOn k then s.canStatusCommit k else s) s

/-! ## Reception -/

/-- Data bytes a DLC stands for. -/
def dlcLen (fdf : Bool) (dlc : Nat) : Nat :=
  if fdf then [0, 1, 2, 3, 4, 5, 6, 7, 8, 12, 16, 20, 24, 32, 48, 64].getD dlc 64 else min 8 dlc

/-- Data bytes as 16 words (R580). -/
def dataWords (bs : List Byte) : List Word := (List.range 16).map (fun i => wordLe (fitBytes 64 bs) (4 * i))

/-- Word +1 with LOST replaced. -/
def withLost (ws : List Word) (lost : Bool) : List Word := ws.set 1 (putBits (ws.getD 1 0) 12 1 (b2n lost))

/-- Stores a frame in an object (R582 to R584): in the buffer, or in the shadow while the object is locked; a mirrored object's frame is committed. -/
def State.storeFrame (s : State) (k : Fin 4) (j : Nat) (ws : List Word) (sof : Nat) : State :=
  let o := (s.ctl k).obj j
  let n := (o.count + 1) % 2 ^ 32
  let locked := (s.ctl k).locked.any (fun l => l.1 == j)
  let lost := if locked then o.shadow.isSome else o.lost || o.new
  let words := withLost (ws ++ [w32 n]) lost
  let s1 := s.modObj k j (fun o =>
    if locked then { o with count := n, shadow := some words }
    else { o with count := n, buf := words, new := true, lost := lost })
  if s.objMirror k j then s1.hwCommit (0x10 + k.val) sof (numbered (s.objBase k j) words) else s1

/-- The first receive object that takes an identifier (R581). -/
def State.objectFor (s : State) (k : Fin 4) (id : Nat) (ide : Bool) : Option Nat :=
  (List.range 1024).find? (fun j =>
    let w := s.reg (Reg.canObjId k.val j)
    let m := s.fld (Reg.canObjMode k.val j) 12 6
    let mask : Word := if m = 0 then 0x1FFFFFFF else s.reg (Reg.canMask k.val m) &&& 0x1FFFFFFF
    let own : Word := if ide then w &&& 0x1FFFFFFF else w &&& 0x7FF
    s.objOn k j && s.objKind k j == 0 && bitAt w 30 == ide && (w32 id ^^^ own) &&& mask == 0)

/-- A valid frame is offered to the receive objects (R577, R581). `head` is word +0 and `ctl` word +1 without LOST. -/
def State.offerFrame (s : State) (k : Fin 4) (head ctl : Word) (data : List Byte) (remote : Bool) (sof : Nat) : State :=
  let id := bitsAt head 0 29
  match (if remote then none else s.objectFor k id (bitAt head 29)) with
  | some j => s.storeFrame k j ([head, ctl] ++ timeWords sof ++ dataWords data) sof
  | none => s.modCan k (fun c => { c with unmatched := holdInc 0xFFFF c.unmatched })

/-- Word +0 of R580. -/
def canHead (id : Nat) (ide fdf brs : Bool) : Word :=
  packFields [(0, if ide then id % 2 ^ 29 else id % 2 ^ 11), (29, b2n ide), (30, b2n fdf), (31, b2n brs)]

/-! ## Errors (R590; counting as ISO 11898-1 has it, assumption 45) -/

/-- The controller's STATE after its counters have moved: ERROR_PASSIVE from 128 on, BUS_OFF from 256 on. -/
def State.confine (s : State) (k : Fin 4) : State :=
  let c := s.ctl k
  let m : CanMode := if 256 ≤ c.tec then .busOff else if 128 ≤ c.tec ∨ 128 ≤ c.rec_ then .passive else .active
  if c.mode = .busOff ∨ c.mode = m then s
  else
    let s1 := s.modCan k (fun c => { c with mode := m })
    let s2 := match m with
      | .busOff =>
        let n := (c.objs.filter (fun (p : Nat × CanObj) => p.2.pending.isSome)).length + (if c.records.isEmpty then 0 else 1)
        (s1.modCan k (fun c => { c with onBus := none, recovering := bitAt (s.reg (Reg.canCtrl k.val)) 27 })).raise 0x9101 k.val 9
          [w32 (min 255 c.tec), w32 n]
      | .passive => s1.raise 0x9103 k.val 6 [w32 (min 255 c.tec), w32 (min 255 c.rec_)]
      | .active => s1
    s2.canStatusCommit k

/-- A successful reception lowers REC; from the error passive range it falls to a value of 119 to 127 that ISO 11898-1 leaves open. -/
def State.recDown (s : State) (k : Fin 4) : State :=
  let r := (s.ctl k).rec_
  if r = 0 then s
  else if r ≤ 127 then (s.modCan k (fun c => { c with rec_ := r - 1 })).confine k
  else
    let (v, s1) := s.fresh 32
    (s1.modCan k (fun c => { c with rec_ := 119 + v.toNat % 9 })).confine k

/-- CAN_FRAME_RECEIVED (R577, R581 to R584): a frame of another node has become valid. -/
def execCanFrameReceived (k : Fin 4) (id : BitVec 29) (ide fdf brs esi remote : Bool) (dlc : BitVec 4) (data : List (BitVec 8)) (sof : Nat) (s : State) : Out :=
  if s.canOn k ∧ s.canMode k ≠ 2 ∧ (s.ctl k).mode ≠ .busOff then
    let n := dlcLen fdf dlc.toNat
    let ctl := packFields [(0, n), (7, b2n esi), (8, dlc.toNat)]
    .next ((s.offerFrame k (canHead id.toNat ide fdf brs) ctl (fitBytes n data) remote sof).recDown k)
  else .next s

/-- CAN_RECEIVE_ERROR (R590): a bus error while receiving; `dominant`: a dominant bit follows the error flag, which counts 8. -/
def execCanReceiveError (k : Fin 4) (dominant : Bool) (s : State) : Out :=
  if s.canOn k ∧ s.canMode k ≠ 2 ∧ (s.ctl k).mode ≠ .busOff then
    let s1 := if s.canMode k = 1 then s else s.emit (.canError k.val)
    .next ((s1.modCan k (fun c => { c with rec_ := min 255 (c.rec_ + if dominant then 8 else 1) })).confine k)
  else .next s

/-! ## Locked reads (R584, R585) -/

/-- Unlocks the locked object. -/
def State.canUnlock (s : State) (k : Fin 4) : State :=
  match (s.ctl k).locked with
  | none => s
  | some (j, _) =>
    (s.modCan k (fun c => { c with locked := none })).modObj k j (fun o =>
      match o.shadow with
      | some ws => { o with buf := ws, new := true, lost := bitAt (ws.getD 1 0) 12, shadow := none }
      | none => { o with new := false, lost := false })

/-- OBJECT_LOCK (R584, R585): a write of CAN_OBJ_SEL_k with LOCK 1. -/
def execObjectLock (k : Fin 4) (object : Fin 1024) (s : State) : Out :=
  let same := (s.ctl k).locked.any (fun l => l.1 == object.val)
  let s1 := if same then s else s.canUnlock k
  let s2 := s1.setReg (Reg.canObjSel k.val) (packFields [(31, b2n (s.objKind k object.val == 0)), (0, object.val)])
  if same ∨ s.objKind k object.val ≠ 0 then .next s2
  else .next (s2.modCan k (fun c => { c with locked := some (object.val, s.now) }))

/-- OBJECT_UNLOCK (R585): a write of CAN_OBJ_SEL_k with LOCK 0. -/
def execObjectUnlock (k : Fin 4) (object : Fin 1024) (s : State) : Out :=
  .next ((s.canUnlock k).setReg (Reg.canObjSel k.val) (w32 object.val))

/-- CAN_LOCK_TIMEOUT (R585): 10 ms since the lock. -/
def execCanLockTimeout (k : Fin 4) (s : State) : Out :=
  match (s.ctl k).locked with
  | none => .next s
  | some (j, t) =>
    if t + 10 * msTicks ≤ s.now then .next (((s.canUnlock k).setReg (Reg.canObjSel k.val) (w32 j)).raise 0x9104 k.val 4 [w32 j])
    else .next s

/-! ## Transmission (R586 to R591) -/

/-- The identifier of a transmit object as word +0; a classical frame switches no bit rate. -/
def State.txHead (s : State) (k : Fin 4) (j : Nat) : Word :=
  let w := s.reg (Reg.canObjId k.val j)
  let m := s.reg (Reg.canObjMode k.val j)
  let fdf := s.objKind k j == 2 || bitAt m 19
  canHead (bitsAt w 0 29) (bitAt w 30) fdf (fdf && bitAt m 18)

/-- Rank on the bus: the lower wins arbitration; a standard frame before an extended one of the same base identifier. -/
def busRank (head : Word) : Nat :=
  if bitAt head 29 then bitsAt head 18 11 * 2 ^ 19 + 2 ^ 18 + bitsAt head 0 18 else bitsAt head 0 11 * 2 ^ 19

/-- A length an FD frame can have, raised to the next valid one; above 64 it is 64. -/
def fdLen (n : Nat) : Nat := (([0, 1, 2, 3, 4, 5, 6, 7, 8, 12, 16, 20, 24, 32, 48, 64].filter (fun m => decide (n ≤ m))).head?).getD 64

/-- The data bytes of a committed transmit group (R586, R587). -/
def txData (fdf : Bool) (ws : List Word) : List Byte :=
  let n := bitsAt (ws.getD 1 0) 0 7
  let bytes := ((ws.drop 4).take 16).flatMap (fun w => leBytes 4 w.toNat)
  if fdf then fitBytes (fdLen n) (bytes.take n) else bytes.take (min 8 n)

/-- The group of a transmit object has an owner: a program image (R586). -/
def State.txOwned (s : State) (k : Fin 4) (j : Nat) : Bool :=
  ((s.die .a).groupOf (s.objBase k j)).elim false (fun e => decide (0x100 ≤ e.owner ∧ e.owner ≤ 0x17F))

/-- The pending objects of a controller, with what each would send. -/
def State.txReady (s : State) (k : Fin 4) : List CanAttempt :=
  let c := s.ctl k
  let plain := c.objs.filterMap (fun p => match p.2.pending with
    | some ws => if s.objOn k p.1 && s.objKind k p.1 == 1 && s.txOwned k p.1 then
        some (⟨p.1, (s.txHead k p.1).toNat, txData (bitAt (s.txHead k p.1) 30) ws, false⟩ : CanAttempt) else none
    | none => none)
  let ev := match c.records, (List.range 1024).find? (fun j => s.objOn k j && s.objKind k j == 2) with
    | r :: _, some j => [(⟨j, (s.txHead k j).toNat, r, false⟩ : CanAttempt)]
    | _, _ => []
  plain ++ ev

/-- A free controller starts the object whose frame would win arbitration, among equal identifiers the lowest object (R588); a listener sends nothing. -/
def State.startTx (s : State) (k : Fin 4) : State :=
  if !s.canOn k || s.canMode k == 1 || (s.ctl k).mode == .busOff || (s.ctl k).onBus.isSome then s
  else
    let best := (s.txReady k).foldl (fun (b : Option CanAttempt) a => match b with
      | none => some a
      | some x =>
        let ra := busRank (w32 a.id)
        let rx := busRank (w32 x.id)
        if ra < rx ∨ (ra = rx ∧ a.obj < x.obj) then some a else some x) none
    s.modCan k (fun c => { c with onBus := best })

/-- TRANSMIT_COMMIT (R586, R587): LINK takes the newest commit of an object's group that CTRL-A has sent it. -/
def execTransmitCommit (k : Fin 4) (object : Fin 1024) (s : State) : Out :=
  let j := object.val
  let b := s.objBase k j
  match s.canSent.find? (fun p => p.1 == b) with
  | none => .next s
  | some p =>
    if s.objOn k j ∧ s.objKind k j = 1 ∧ s.objMirror k j = true ∧ s.txOwned k j = true then
      .next ((({ s with canSent := s.canSent.filter (fun q => q.1 != b) } : State).modObj k j (fun o => { o with
        pending := some p.2.2
        taken := some p.2.1 })).startTx k)
    else .next s

/-- What a success leaves (R589, R591): the pending state ends, and the status words of a transmit object are committed. R105 gives a CAN controller's stamp for received frames only; the status words carry the time of their commit (DESIGN CHOICE, assumption 60). -/
def State.txDone (s : State) (k : Fin 4) (a : CanAttempt) (sof : Nat) : State :=
  if s.objKind k a.obj = 2 then s.modCan k (fun c => { c with records := c.records.drop 1 })
  else
    let n := (((s.ctl k).obj a.obj).count + 1) % 2 ^ 32
    let b := s.objBase k a.obj
    (s.modObj k a.obj (fun o => { o with pending := none, count := n })).hwCommit (0x10 + k.val) s.now
      ([(b + 20, w32 n)] ++ numbered (b + 21) (timeWords sof))

/-- An object on the bus at a TX_FLUSH ends its pending state with the attempt. -/
def State.txFlushed (s : State) (k : Fin 4) (a : CanAttempt) : State :=
  if ¬ a.flushed then s
  else if s.objKind k a.obj = 2 then s.modCan k (fun c => { c with records := c.records.drop 1 })
  else s.modObj k a.obj (fun o => { o with pending := none })

/-- The transmitter delay a frame with a bit-rate switch has measured (R578), an open value: CAN_TDC_k.DELAY. -/
def State.measureTdc (s : State) (k : Fin 4) (head : Word) : State :=
  if bitAt head 31 ∧ bitAt (s.reg (Reg.canDbt k.val)) 13 then
    let (v, s1) := s.fresh 7
    s1.modCan k (fun c => { c with tdc := v.toNat })
  else s

/-- TRANSMISSION_END (R577, R589, R590): `outcome` 0 success, 1 lost arbitration, 2 error, 3 an error that leaves TEC as it is; `sof` the start of frame. -/
def execTransmissionEnd (k : Fin 4) (outcome : Fin 4) (sof : Nat) (s : State) : Out :=
  match s.canOn k, (s.ctl k).onBus with
  | true, some a =>
    let head := w32 a.id
    let s0 := (s.measureTdc k head).modCan k (fun c => { c with onBus := none })
    if outcome = 0 then
      let s1 := if s.canMode k = 2 then
          let dlc := ((List.range 16).find? (fun i => dlcLen (bitAt head 30) i == a.data.length)).getD 0
          s0.offerFrame k head (packFields [(0, a.data.length), (8, dlc)]) a.data false sof
        else s0.emit (.can k.val a.id a.data)
      .next ((((s1.txDone k a sof).modCan k (fun c => { c with tec := c.tec - 1 })).confine k).startTx k)
    else if outcome = 2 then
      .next ((((((s0.emit (.canError k.val)).txFlushed k a).modCan k (fun c => { c with tec := c.tec + 8 })).confine k)).startTx k)
    else .next ((s0.txFlushed k a).startTx k)
  | _, _ => .next s

/-- RECOVER (R590): a write of CAN_CMD_k.RECOVER. -/
def execRecover (k : Fin 4) (s : State) : Out :=
  if (s.ctl k).mode = .busOff then .next (s.modCan k (fun c => { c with recovering := true })) else .next s

/-- CAN_BUS_ON (R590): recovery ends. -/
def execCanBusOn (k : Fin 4) (s : State) : Out :=
  if (s.ctl k).mode = .busOff ∧ (s.ctl k).recovering then
    .next ((((s.modCan k (fun c => { c with mode := .active, tec := 0, rec_ := 0, recovering := false })).raise 0x9102 k.val 3 []).canStatusCommit k).startTx k)
  else .next s

/-- TX_FLUSH (R590): objects not on the bus are no longer pending. -/
def execTxFlush (k : Fin 4) (s : State) : Out :=
  let on := (s.ctl k).onBus.map (fun a => a.obj)
  let keep := (s.ctl k).onBus.elim false (fun a => s.objKind k a.obj == 2)
  .next (s.modCan k (fun c => { c with
    objs := c.objs.filterMap (fun p => if some p.1 = on then some p else
      let o := { p.2 with pending := none }
      if o = {} then none else some (p.1, o))
    records := if keep then c.records.take 1 else []
    onBus := c.onBus.map (fun a => { a with flushed := true }) }))

/-- CAN_STATUS_COMMIT (R592). -/
def execCanStatusCommit (k : Fin 4) (s : State) : Out :=
  if bitAt (s.reg (Reg.canCtrl k.val)) 31 ∧ s.glb.checked then .next (s.canStatusCommit k) else .next s

/-- An event record reaches the event transmit objects (R591): into a queue of 16, the oldest record not on the bus dropped when it is full. -/
def State.canEvent (s : State) (e : Event) (record : List Byte) : State :=
  (idxs 4).foldl (fun s k =>
    match (List.range 1024).find? (fun j => s.objOn k j && s.objKind k j == 2) with
    | none => s
    | some j =>
      if bitAt (s.reg (Reg.canEvtArea k.val)) (e.code / 4096 % 16) ∧ s.fld (Reg.canObjMode k.val j) 0 4 ≤ e.sev then
        (s.modCan k (fun c =>
          if c.records.length < 16 then { c with records := c.records ++ [record] }
          else
            let rest := if c.onBus.any (fun a => a.obj == j) then c.records.take 1 ++ c.records.drop 2 else c.records.drop 1
            { c with records := rest ++ [record], evtDropped := holdInc 0xFFFF c.evtDropped })).startTx k
      else s) s

/-! ## Set-up (R580, R593) -/

/-- R593 reason 1; NTSEG1_M1 is at least 1 (R594). -/
def State.canRateBad (s : State) (k : Fin 4) : Bool :=
  let n := s.reg (Reg.canNbt k.val)
  let d := s.reg (Reg.canDbt k.val)
  decide ((bitsAt n 24 8 + 1) * (3 + max 1 (bitsAt n 16 8) + bitsAt n 9 7) < 80) || decide ((bitsAt d 27 5 + 1) * (3 + bitsAt d 22 5 + bitsAt d 18 4) < 10)
    || decide (bitsAt n 9 7 < bitsAt n 2 7) || decide (bitsAt d 18 4 < bitsAt d 14 4)

/-- An object with EN on an enabled controller. -/
def State.objAsked (s : State) (k : Fin 4) (j : Nat) : Bool := bitAt (s.reg (Reg.canCtrl k.val)) 31 && bitAt (s.reg (Reg.canObjId k.val j)) 31

/-- The object uses a mirror block. -/
def State.objBlock (s : State) (k : Fin 4) (j : Nat) : Option Nat :=
  if s.objAsked k j && s.objKind k j != 2 && s.objMirror k j then some (s.fld (Reg.canObjMode k.val j) 20 9) else none

/-- The reasons of R593 that hold for an object. -/
def State.objReasons (s : State) (k : Fin 4) (j : Nat) : List Nat :=
  let kind := s.objKind k j
  let m := s.reg (Reg.canObjMode k.val j)
  let two := match s.objBlock k j with
    | none => false
    | some b => decide (507 < b) || (idxs 4).any (fun q => (List.range 1024).any (fun i => (q != k || i != j) && s.objBlock q i == some b))
  let msel := bitsAt m 12 6
  (if !bitAt (s.reg (Reg.canCtrl k.val)) 30 && ((kind == 1 && bitAt m 19) || kind == 2) then [2] else [])
    ++ (if two then [3] else [])
    ++ (if (kind == 1 && !bitAt m 29) || (kind == 2 && (List.range j).any (fun i => s.objAsked k i && s.objKind k i == 2)) then [4] else [])
    ++ (if kind == 0 && msel != 0 && !bitAt (s.reg (Reg.canObjId k.val j)) 30 && bitsAt (s.reg (Reg.canMask k.val msel)) 11 18 != 0 then [5] else [])

/-- The set-up checks of LINK on the controllers (R593). -/
def State.canChecks (s : State) : State :=
  (idxs 4).foldl (fun u k =>
    if !bitAt (s.reg (Reg.canCtrl k.val)) 31 then u
    else
      let u1 := if s.canRateBad k then (u.modCan k (fun c => { c with disabled := true })).raise 0x9105 k.val 10 [1, 0xFFFF] else u
      (List.range 1024).foldl (fun u j =>
        if s.objAsked k j then
          (s.objReasons k j).foldl (fun u r => (u.modCan k (fun c => { c with objOff := if c.objOff.contains j then c.objOff else c.objOff ++ [j] })).raise
            0x9105 k.val 10 [w32 r, w32 j]) u
        else u) u1) s

/-- A fixed group of U32 signals that the firmware enters for a controller (R580, R589). -/
def canEntry (k : Fin 4) (base len : Nat) : DirEntry :=
  { base := base, len := len, hostR := true, trace := true, act := false, group := true, type := 3, owner := 0x10 + k.val,
    pending := false, sharers := [], firmware := true }

/-- The directory entries of the enabled objects (R580, R589, R696). -/
def State.canEntries (s : State) : List DirEntry :=
  (idxs 4).flatMap (fun k => (List.range 1024).filterMap (fun j =>
    if bitAt (s.reg (Reg.canCtrl k.val)) 31 && !(s.ctl k).disabled && !(s.ctl k).objOff.contains j && (s.objBlock k j).isSome then
      (if s.objKind k j = 0 then some (canEntry k (s.objBase k j) 21)
       else some (canEntry k (s.objBase k j + 20) 3))
    else none))

/-- CAN_STATUS_k. -/
def State.canStatusReg (s : State) (k : Fin 4) : Word :=
  packFields [(30, s.canState k), (8, min 255 (s.ctl k).tec), (0, min 255 (s.ctl k).rec_)]
/-- CAN_COUNT_k. -/
def State.canCountReg (s : State) (k : Fin 4) : Word := packFields [(16, (s.ctl k).unmatched), (0, (s.ctl k).evtDropped)]
/-- CAN_OBJ_FLAGS_k of the selected object. -/
def State.canFlagsReg (s : State) (k : Fin 4) : Word :=
  let o := (s.ctl k).obj (s.fld (Reg.canObjSel k.val) 0 10)
  packFields [(2, b2n o.shadow.isSome), (1, b2n o.lost), (0, b2n o.new)]
/-- CAN_OBJ_DATA_k_w of the selected buffer. -/
def State.canDataReg (s : State) (k : Fin 4) (w : Nat) : Word := ((s.ctl k).obj (s.fld (Reg.canObjSel k.val) 0 10)).buf.getD w 0

end Sys2Proof.Machine
end

