-- ==== Sys2Proof/Machine/AuxDie.lean ====
section
/-! DEFINITION. The AUX die: slots, legs, supplies, DC and BLDC motors, steppers and their profile generators (15_aux_drives.md, R505 to R533). -/

namespace Sys2Proof.Machine

/-- A slot. -/
def State.slot (s : State) (n : AuxSlot) : SlotUnit := s.aux.slots[n]
/-- Updates a slot. -/
def State.modAux (s : State) (n : AuxSlot) (f : SlotUnit → SlotUnit) : State :=
  { s with aux := { s.aux with slots := vUpd s.aux.slots n f } }
/-- PERIOD in ticks. -/
def State.slotPeriod (s : State) (n : AuxSlot) : Nat := s.fld (Reg.slotPwm n.val) 16 16
/-- Legs of a type. -/
def legsOfType (ty : Nat) : Nat := if ty = 0 then 0 else ty + 1
/-- Number of legs. -/
def State.slotLegs (s : State) (n : AuxSlot) : Nat := legsOfType (s.slotType n)
/-- First half-bridge. -/
def State.slotBase (s : State) (n : AuxSlot) : Nat := s.fld (Reg.slotCfg n.val) 16 6

/-- DL_16, DL_17 or DL_18 has failed (R506). -/
def State.auxLinkFail (s : State) : Bool := s.links[16].failed || s.links[17].failed || s.links[18].failed
/-- A cause of R506 stands. -/
def State.auxStop (s : State) : Bool := s.auxOffA || s.auxOffB || s.auxLinkFail
/-- A VM_AUX or VDD_AUX monitor holds every switch off (R511). -/
def AuxUnit.supplyOut (a : AuxUnit) : Bool := a.vmUv || a.vmOv || a.vddUv
/-- Switches of a leg of the slot that the monitors hold off (R511). -/
def State.monitorHold (s : State) (n : AuxSlot) : BitVec 8 :=
  let all : Nat := if s.aux.supplyOut then 0xFF else 0
  let high : Nat := if s.aux.cpUv then 0x55 else 0
  let boot : Nat := ((List.range 4).map (fun l => b2n (s.aux.bst.getLsbD (s.slotBase n + l)) * 4 ^ l)).sum
  BitVec.ofNat 8 all ||| BitVec.ofNat 8 high ||| BitVec.ofNat 8 boot

/-- Every leg off; the loops start again from zero (R525). -/
def SlotUnit.legsOff (x : SlotUnit) : SlotUnit :=
  { x with
    drive := Vector.replicate 4 none
    duty := 0
    xi := 0
    xiB := 0
    nRef := 0
    drivenAt := none }

/-- When the switches of a leg change within a period, in ticks after its valley: the high switch is on from `highOn` to `highOff`, the low one up to `lowOff` and from `lowOn` on (R507). -/
structure LegTimes where
  highOn : Nat
  highOff : Nat
  lowOff : Nat
  lowOn : Nat
  deriving DecidableEq, Repr

/-- The switch times of a leg whose high switch is on for `t` ticks: centred on the peak; both are off for DT at each change, which the low switch gives up (R507; DEDUCED, assumption 96). -/
def legTimes (period dt t : Nat) : LegTimes :=
  let a := (period - t) / 2
  if t = 0 then ⟨period, period, period, period⟩ else ⟨a, a + t, a - dt, a + t + dt⟩

/-- Is the high switch of leg l on, `k` ticks after a valley (R507, R510, R511)? -/
def SlotUnit.highOn (x : SlotUnit) (period dt : Nat) (l : Fin 4) (k : Nat) : Bool :=
  (match x.drive[l] with
    | some t => decide ((legTimes period dt t).highOn ≤ k ∧ k < (legTimes period dt t).highOff)
    | none => false) && !x.legOff.getLsbD (2 * l.val) && !x.held.getLsbD (2 * l.val)

/-- Is the low switch of leg l on, `k` ticks after a valley (R507, R510, R511)? -/
def SlotUnit.lowOn (x : SlotUnit) (period dt : Nat) (l : Fin 4) (k : Nat) : Bool :=
  (match x.drive[l] with
    | some t => decide (k < (legTimes period dt t).lowOff ∨ (legTimes period dt t).lowOn ≤ k)
    | none => false) && !x.legOff.getLsbD (2 * l.val + 1) && !x.held.getLsbD (2 * l.val + 1)

/-- The high switch of leg l has been on, `k` ticks after a valley, for the blanking time of 1 µs and the 1 µs of the detection (R510); one that stays on through the whole period has been. -/
def SlotUnit.highSeen (x : SlotUnit) (period dt : Nat) (l : Fin 4) (k : Nat) : Bool :=
  x.highOn period dt l k && (x.drive[l] == some period || decide (2 * usTicks ≤ k) && x.highOn period dt l (k - 2 * usTicks))

/-- Ticks for which the low switch of leg l has been on at the valley that ends a period (R507, R508). -/
def SlotUnit.lowTicks (x : SlotUnit) (period dt : Nat) (l : Fin 4) : Nat :=
  if x.lowOn period dt l (period - 1) then
    (match x.drive[l] with
      | some t => if t = 0 then period else period - (legTimes period dt t).lowOn
      | none => 0)
  else 0

/-- STATE (R517, R533): a slot that is not enabled reads OFF. -/
def State.slotState (s : State) (n : AuxSlot) : Nat :=
  if !s.slotOn n then 0
  else if s.aux.supplyOut then 5
  else match (s.slot n).mode with
    | .off => 0
    | .run => 1
    | .stopping => 2
    | .fault => 3
    | .wireOff => 4

/-- The slot drives its legs now. -/
def State.slotDrives (s : State) (n : AuxSlot) : Bool :=
  let x := s.slot n
  s.slotOn n && !s.auxStop && !s.aux.off && !s.aux.supplyOut &&
    (x.mode == .run && (!x.stale || s.slotType n == 3) || x.mode == .stopping)

/-- I, the coil current amplitude in A (R531). -/
def State.coilAmp (s : State) (n : AuxSlot) : Word :=
  let run : Nat := s.fld (Reg.slotIstep n.val) 16 16
  let hold : Nat := s.fld (Reg.slotIstep n.val) 0 16
  match (s.slot n).reducing with
  | none => f32OfRat run 100
  | some t =>
    let d := min (s.now - t) (100 * msTicks)
    f32OfRat ((run : Int) * (100 * msTicks : Nat) + ((hold : Int) - run) * d) (100 * (100 * msTicks))

/-- The signed applied duty, or the coil current amplitude (R517). -/
def State.slotApplied (s : State) (n : AuxSlot) : Word :=
  if s.slotType n = 3 then (if s.slotDrives n then s.coilAmp n else 0)
  else fTimes (s.slot n).duty (s.slot n).factor

/-- HOLD_REDUCED (R531). -/
def State.holdReduced (s : State) (n : AuxSlot) : Bool :=
  match (s.slot n).reducing with
  | some t => decide (t + 100 * msTicks ≤ s.now)
  | none => false

/-- The flags word (R517). -/
def State.slotFlags (s : State) (n : AuxSlot) : Word :=
  let x := s.slot n
  packFields [(0, b2n (s.slotType n == 3 && x.vel == 0)), (1, b2n (s.holdReduced n)), (2, b2n x.limit), (3, b2n x.inBad),
    (4, b2n x.cmdBad), (5, b2n x.stale), (6, b2n x.posUnsure), (7, b2n (x.factor != f32One)), (8, b2n x.sine), (9, b2n x.on),
    (10, x.level)]

/-- Mean of each leg's samples, the last value where there are none. -/
def SlotUnit.legMean (x : SlotUnit) (l : Fin 4) : Word :=
  if x.samples.isEmpty then x.iLeg[l] else meanOf (x.samples.map (fun v => v.getD l.val 0))

/-- Speed in full steps/s from the generator's velocity. -/
def stepSpeed (v : Int) : Word := f32OfRat (v * 100000) (256 * 2 ^ 64)

/-- Commits the group aux_s.st (R517). -/
def State.slotCommit (s : State) (n : AuxSlot) : State :=
  let x := s.slot n
  let ty := s.slotType n
  s.hwCommit 0x0006 s.now (numbered (slotSignals n + 0x10)
    ([w32 (s.slotState n), s.slotFlags n, x.legOff.setWidth 32, w32 x.cause, if ty = 1 then 0 else i32 x.pos,
      if ty = 1 then 0 else if ty = 3 then stepSpeed x.vel else x.speed]
      ++ (idxs 4).map (fun l => if l.val < s.slotLegs n then x.legMean l else 0)
      ++ [x.load, s.slotApplied n, x.seq]))

/-- The slot enters FAULT (R512, R519, R526); one in WIRE_OFF stays there and keeps the cause, since only its two commits take it out (R506; DEDUCED, assumption 95). -/
def State.slotFault (s : State) (n : AuxSlot) (cause code sev : Nat) (payload : List Word) : State :=
  ((s.modAux n (fun x => { x.legsOff with
    mode := if x.mode = .wireOff then .wireOff else .fault
    cause := cause
    sine := false
    vel := 0
    acc := 0 })).raise code n.val sev payload).slotCommit n

/-- Enabled slots. -/
def State.slotsOn (s : State) : List AuxSlot := (idxs 16).filter (fun n => s.slotOn n)

/-- AUX_OFF (R506, R29): a wire asserts or a link of AUX fails. -/
def execAuxOff (s : State) : Out :=
  if ¬ s.hasDie .aux then .next s
  else if ¬ s.auxStop ∨ s.aux.off then .next s
  else
    let s0 : State := { s with aux := { s.aux with off := true } }
    let s1 := (s.slotsOn).foldl (fun s n => (s.modAux n (fun x => { x.legsOff with
      mode := .wireOff
      armed := false
      posUnsure := true
      vel := 0
      acc := 0 })).slotCommit n) s0
    .next (s1.raise 0x8003 7 10 [packFields [(0, b2n s.auxOffA), (1, b2n s.auxOffB), (2, b2n s.auxLinkFail)]])

/-- AUX_OFF_RELEASE (R506): both wires are released; a failed link keeps the legs off. -/
def execAuxOffRelease (s : State) : Out :=
  if ¬ s.hasDie .aux then .next s
  else if s.auxStop then .next s
  else .next { s with aux := { s.aux with off := false } }

/-! ## Faults, supplies, thermal load -/

/-- LEG_FAULT (R510): low side with the shunt current in mA, high side with V_DS in mV, above its limit for its time; the high side is judged only while its switch is on. -/
def execLegFault (slot : AuxSlot) (leg : Fin 4) (high : Bool) (measured : Nat) (s : State) : Out :=
  let x := s.slot slot
  let bit : Nat := 2 * leg.val + b2n (!high)
  let excess : Bool := if high then decide (s.fld (Reg.slotShunt slot.val) 16 8 * 10 < measured)
    else decide (s.fld (Reg.slotIlim slot.val) 16 16 * 100 < measured)
  let seen : Bool := !high || x.highSeen (s.slotPeriod slot) (s.fld (Reg.slotPwm slot.val) 0 9) leg (s.now % s.slotPeriod slot)
  if ¬ s.hasDie .aux then .next s
  else if ¬ s.slotOn slot ∨ s.slotLegs slot ≤ leg.val ∨ ¬ seen ∨ x.legOff.getLsbD bit ∨ ¬ excess then .next s
  else
    .next (((s.modAux slot (fun x => { x with legOff := x.legOff ||| BitVec.ofNat 8 (2 ^ bit) })).raise 0x8001 slot.val 8
      [w32 leg.val, w32 (b2n (!high)), if high then 2 else 1]).slotCommit slot)

/-- Off below `lo`, on above `hi`. -/
def hystUnder (old : Bool) (lo hi v : Nat) : Bool := if v < lo then true else if hi < v then false else old

/-- Every slot keeps off what the monitors hold off; what they release resumes at its next valley (R511). -/
def State.takeHolds (s : State) : State :=
  (idxs 16).foldl (fun s n => s.modAux n (fun x => { x with held := x.held ||| s.monitorHold n })) s

/-- The supply event of monitor m and its entry or exit (R511). -/
def State.supplyEvent (s : State) (m : Nat) (entered : Bool) : State := s.raise 0x8002 7 8 [w32 m, w32 (b2n entered)]

/-- SUPPLY_MONITOR (R511): monitor 0 the bootstrap of HB_k, 1 the charge pump, 2 VM_AUX, 3 VDD_AUX, at a voltage in mV. -/
def execSupplyMonitor (monitor : Fin 4) (hb : Fin 48) (millivolts : Nat) (s : State) : Out :=
  if ¬ s.hasDie .aux then .next s
  else
    let a := s.aux
    let a1 : AuxUnit := match monitor with
      | 0 =>
        let m : BitVec 48 := BitVec.ofNat 48 (2 ^ hb.val)
        if hystUnder (a.bst.getLsbD hb.val) 4000 4400 millivolts then { a with bst := a.bst ||| m } else { a with bst := a.bst &&& ~~~m }
      | 1 => { a with cpUv := hystUnder a.cpUv 7000 7500 millivolts }
      | 2 => { a with
          vmMv := millivolts
          vmUv := hystUnder a.vmUv 8000 8500 millivolts
          vmOv := if 62000 < millivolts then true else if millivolts < 61000 then false else a.vmOv }
      | 3 => { a with vddUv := hystUnder a.vddUv 4300 4500 millivolts }
    let s1 := ({ s with aux := a1 } : State).takeHolds
    let changed := [(0, a.vmUv, a1.vmUv), (1, a.vmOv, a1.vmOv), (2, a.vddUv, a1.vddUv)].filter (fun (e : Nat × Bool × Bool) => e.2.1 != e.2.2)
    let s2 := changed.foldl (fun (s : State) e => s.supplyEvent e.1 e.2.2) s1
    if changed.isEmpty then .next s2
    else .next ((s2.slotsOn).foldl (fun s n => (s.modAux n (fun x =>
      if changed.any (fun e => e.2.2) then { x.legsOff with
        posUnsure := true
        vel := 0
        acc := 0 }
      else x)).slotCommit n) s2)

/-- The square the thermal load follows (R512). -/
def thermalSquare (ty : Nat) (v : List Word) : Word :=
  let i := fun (k : Nat) => v.getD k 0
  let sq := fun (w : Word) => fTimes w w
  let half := fun (w : Word) => fTimes w 0x3F000000
  if ty = 1 then sq (i 0)
  else if ty = 2 then half (fPlus (fPlus (sq (i 0)) (sq (i 1))) (sq (i 2)))
  else half (fPlus (sq (half (fMinus (i 0) (i 1)))) (sq (half (fMinus (i 2) (i 3)))))

/-- L after 100 µs (R512). -/
def State.nextLoad (s : State) (n : AuxSlot) : Word :=
  let x := s.slot n
  let v := if x.samples.isEmpty then [x.iLeg.toList] else x.samples
  let q := meanOf (v.map (thermalSquare (s.slotType n)))
  let rated := f32OfRat (max 1 (s.fld (Reg.slotTh n.val) 16 16)) 10
  let k := f32OfRat 1 (1000 * s.fld (Reg.slotTh n.val) 0 16)
  fPlus x.load (fTimes k (fMinus (fOver q (fTimes rated rated)) x.load))

/-- THERMAL_UPDATE (R512, R517): every 100 µs. -/
def execThermalUpdate (slot : AuxSlot) (s : State) : Out :=
  if ¬ s.hasDie .aux then .next s
  else if ¬ s.slotOn slot ∨ s.now < (s.slot slot).thermAt + 100 * usTicks then .next s
  else
    let l := s.nextLoad slot
    let s1 := s.modAux slot (fun x => { x with
      load := l
      thermAt := s.now })
    let s2 := if fBelow l 0x3FA00000 ∨ (s.slot slot).cause = 1 then s1.slotCommit slot
      else s1.slotFault slot 1 0x8007 9 [l]
    .next (s2.modAux slot (fun x => { x with samples := [] }))

/-! ## Commands -/

/-- aux_s.value as taken (R516), and whether it was bad. -/
def takeAuxValue (ty : Nat) (v : Word) : Word × Bool :=
  if f32NonFinite v then (0, true)
  else if ty = 3 then (v, false)
  else
    let w := fLimit v (if ty = 1 then 0xBF800000 else 0) f32One
    (w, !((feq w v).val != 0))

/-- What a CLEAR releases (R513): the latched switches and the FAULT, but not a THERMAL fault while L is 0.9 or more. In WIRE_OFF it releases the cause alone. -/
def SlotUnit.clear (x : SlotUnit) : SlotUnit :=
  let y := { x with legOff := 0 }
  if x.cause = 1 ∧ ¬ fBelow x.load 0x3F666666 then y
  else { y with
    mode := if x.mode = .fault then .off else x.mode
    cause := 0 }

/-- The state that ENABLE leads to (R506, R513, R515, R518, R525, R531); `released` where this very commit has released a FAULT. The legs follow at the next valley. -/
def SlotUnit.enable (x : SlotUnit) (ty : Nat) (en off released : Bool) : SlotUnit :=
  match x.mode, en with
  | .wireOff, true => if !off && x.armed then { x with mode := if x.cause = 0 then .run else .fault } else x
  | .wireOff, false => if off then x else { x with armed := true }
  | .off, true => if released then x else { x with mode := .run }
  | .stopping, true => { x with mode := .run }
  | .run, false => { x with mode := if ty = 3 then .stopping else .off }
  | .off, false | .run, true | .stopping, false | .fault, _ => x

/-- The target of position mode, or the position, lies outside the limits: LIMIT (R528). -/
def SlotUnit.beyond (x : SlotUnit) : Bool :=
  let out := fun (p : Int) => decide (p < x.limLo ∨ x.limHi < p)
  !bitAt x.ctrl 3 && out x.target.toInt || out x.pos

/-- The commit of aux_s.cmd as the slot takes it (R513 to R516, R528). -/
def SlotUnit.take (x : SlotUnit) (ty : Nat) (off : Bool) (now : Nat) (ctrl value target lo hi seq : Word) : SlotUnit :=
  let (v, bad) := takeAuxValue ty value
  let badLim : Bool := decide (hi.toInt < lo.toInt)
  let y := if bitAt ctrl 1 && !bitAt x.ctrl 1 then x.clear else x
  let z := y.enable ty (bitAt ctrl 0) off (x.mode == .fault && y.mode == .off)
  let lims : Int × Int := if badLim then (x.limLo, x.limHi) else (lo.toInt, hi.toInt)
  let out : Bool := decide (x.pos < lims.1 ∨ lims.2 < x.pos)
  let sets : Bool := ty == 3 && bitAt ctrl 4 && x.vel == 0
  let r : SlotUnit := { z with
    ctrl := ctrl
    value := v
    target := target
    limLo := lims.1
    limHi := lims.2
    seq := seq
    cmdAt := some now
    cmdBad := bad || badLim
    stale := false
    limStop := z.limStop || (ty == 3 && out && x.vel != 0)
    pos := if sets then target.toInt else z.pos
    fine := if sets then target.toInt * 2 ^ 64 else z.fine
    posUnsure := z.posUnsure && !sets }
  { r with limit := ty == 3 && r.beyond }

/-- SLOT_COMMAND (R506, R513 to R516, R528): AUX takes the oldest commit of aux_s.cmd that it has been sent; a Hall fault whose state still stands latches again. -/
def execSlotCommand (slot : AuxSlot) (s : State) : Out :=
  let x := s.slot slot
  if ¬ s.hasDie .aux ∨ ¬ s.slotOn slot then .next s
  else match x.inbox with
    | [] => .next s
    | (stamp, ws) :: rest =>
      let w := fun (i : Nat) => ws.getD i 0
      let y := x.take (s.slotType slot) (s.auxStop || s.aux.off) s.now (w 0) (w 1) (w 2) (w 3) (w 4) (w 5)
      let s1 := s.modAux slot (fun _ => { y with
        stamp := some stamp
        inbox := rest })
      let hallBad : Bool := s.slotType slot == 2 && (y.hall == some 0 || y.hall == some 7)
      if x.cause ≠ 0 ∧ y.cause = 0 ∧ hallBad = true then .next (s1.slotFault slot 2 0x8004 9 [(y.hall.getD 0).setWidth 32])
      else .next (if y.mode = x.mode then s1 else s1.slotCommit slot)

/-- CMD_TMO_EXPIRY (R514). -/
def execCmdTmoExpiry (slot : AuxSlot) (s : State) : Out :=
  let x := s.slot slot
  let tmo := s.fld (Reg.slotCfg slot.val) 0 16
  if ¬ s.hasDie .aux then .next s
  else if ¬ s.slotOn slot ∨ tmo = 0 ∨ x.stale ∨ s.now < x.cmdAt.getD s.glb.lockedAt + tmo * msTicks then .next s
  else
    .next (((s.modAux slot (fun x =>
      let y := if s.slotType slot = 3 then x else x.legsOff
      { y with stale := true })).raise 0x8008 slot.val 5 [x.seq]).slotCommit slot)

/-! ## Valleys -/

/-- The current of one leg (R508). -/
def State.legCurrent (s : State) (n : AuxSlot) (code : BitVec 12) : Word :=
  let g : Nat := 5 * 2 ^ s.fld (Reg.slotShunt n.val) 30 2
  f32OfRat ((2048 - (code.toNat : Int)) * 2500000) (4096 * g * s.fld (Reg.slotShunt n.val) 0 16)

/-- Samples the legs whose low switch has been on for 1 µs (R508). -/
def State.sampleLegs (s : State) (n : AuxSlot) (codes : Vector (BitVec 12) 4) : State :=
  let p := s.slotPeriod n
  let dt := s.fld (Reg.slotPwm n.val) 0 9
  s.modAux n (fun x =>
    let i := Vector.ofFn (fun l => if l.val < s.slotLegs n && decide (usTicks ≤ x.lowTicks p dt l) then s.legCurrent n codes[l] else x.iLeg[l])
    { x with
      iLeg := i
      samples := x.samples ++ [i.toList] })

/-- The limit factor at a valley (R509). -/
def State.limitFactor (s : State) (n : AuxSlot) : State :=
  let lim := f32OfRat (s.fld (Reg.slotIlim n.val) 0 16) 10
  s.modAux n (fun x =>
    let excess := (idxs 4).any (fun l => decide (l.val < s.slotLegs n) && fBelow lim (fMagn x.iLeg[l]))
    { x with factor := if excess then fTimes x.factor 0x3F700000 else (fmin f32One (fPlus x.factor 0x3B800000)).val })

/-- The ticks a duty keeps the high switch on: pulses of either switch shorter than 2 × DT are dropped (R507). -/
def dutyTicks (period dt : Nat) (d : Word) : Nat :=
  let t := min period (cvtfi (fTimes (fLimit d 0 f32One) (f32OfInt period))).val.toNat
  if t < 2 * dt then 0 else if period - t < 2 * dt then period else t

/-- Moves a value toward a goal by at most a step. -/
def fToward (cur goal step : Word) : Word :=
  let d := fMinus goal cur
  if !fBelow step (fMagn d) then goal else if f32Neg d then fMinus cur step else fPlus cur step

/-- Both low switches, or all three, on (R518, R525). -/
def lowsOn (n : Nat) : Vector (Option Nat) 4 := Vector.ofFn (fun l => if l.val < n then some 0 else none)

/-- A DC slot at a valley (R518). -/
def State.valleyDc (s : State) (n : AuxSlot) : SlotUnit :=
  let x := s.slot n
  let p := s.slotPeriod n
  let dt := s.fld (Reg.slotPwm n.val) 0 9
  if bitAt x.ctrl 2 then { x.legsOff with drive := lowsOn 2 }
  else
    let slew := s.fld (Reg.slotRamp n.val) 0 16
    let d := if slew = 0 then x.value else fToward x.duty x.value (f32OfRat (slew * p) (1000 * msTicks))
    let t := dutyTicks p dt (fTimes (fMagn d) x.factor)
    let neg := f32Neg d && f32Mag d != 0
    { x with
      duty := d
      drive := Vector.ofFn (fun l => if l.val = b2n neg then some t else if l.val < 2 then some 0 else none) }

/-- A finite F32 as an exact fraction; 0 for the rest. -/
def f32Frac (w : Word) : Int × Nat :=
  match f32Exact w with
  | some (m, e) => if 0 ≤ e then (m * 2 ^ e.toNat, 1) else (m, 2 ^ (-e).toNat)
  | none => (0, 1)

/-- Linear interpolation in a table of points at the fraction xn / xd, clamped to the first and last points (R521, R525); a fraction. -/
def lerpPoints (xn : Int) (xd : Nat) : List (Int × Int) → Int × Nat
  | [] => (0, 1)
  | [p] => (p.2, 1)
  | p :: q :: ps =>
    if xn ≤ p.1 * xd then (p.2, 1)
    else if xn < q.1 * xd then
      let den : Int := (q.1 - p.1) * xd
      (p.2 * den + (q.2 - p.2) * (xn - p.1 * xd), den.toNat)
    else lerpPoints xn xd (q :: ps)

/-- The speed curve: X × 65,535 and rpm. -/
def State.slotCurvePts (s : State) (n : AuxSlot) : List (Int × Int) :=
  (List.range 16).map (fun j =>
    let w := s.reg (Reg.slotCurve n.val j)
    (bitsAt w 16 16, (w.setWidth 16).toInt))
/-- The advance table: rpm and 0.01 °e, at most 30 °e. -/
def State.slotAdvPts (s : State) (n : AuxSlot) : List (Int × Int) :=
  (List.range 16).map (fun j =>
    let w := s.reg (Reg.slotAdv n.val j)
    (bitsAt w 16 16, min 3000 (bitsAt w 0 16)))

/-- The advance angle in 0.01 °e, as a fraction (R521). -/
def State.slotAdvance (s : State) (n : AuxSlot) : Int × Nat :=
  let v := f32Frac (fMagn (s.slot n).speed)
  lerpPoints v.1 v.2 (s.slotAdvPts n)

/-- XSRC; 3 is taken as 0. -/
def State.slotSrc (s : State) (n : AuxSlot) : Nat := s.fld (Reg.slotCfg n.val) 26 2 % 3
/-- XIN. -/
def State.slotIn (s : State) (n : AuxSlot) : Fin 8 := finOf 7 (s.fld (Reg.slotCfg n.val) 23 3)

/-- The input X and whether it is bad (R524); an analogue input in µV. -/
def State.slotInput (s : State) (n : AuxSlot) (ain : Nat) : Word × Bool :=
  let k := s.slotIn n
  let p := s.aux.pwm[k]
  if s.slotSrc n = 1 then
    let bad := bitAt (s.reg (Reg.auxAinCfg k.val)) 31 && (decide (ain < 100000) || decide (4900000 < ain))
    (if bad then 0 else f32OfRat ain 5000000, bad)
  else if s.slotSrc n = 2 then
    if p.bad || p.period == 0 then (0, p.bad)
    else (f32OfRat (if bitAt (s.reg (Reg.auxPwmCfg k.val)) 31 then p.period - p.high else p.high) p.period, false)
  else ((s.slot n).value, false)

/-- ON at the input X (R525). -/
def State.slotOnBit (s : State) (n : AuxSlot) (input : Word) : Bool :=
  let v := f32Frac input
  let hyst := s.reg (Reg.slotXhyst n.val)
  if (bitsAt hyst 16 16 : Int) * v.2 ≤ v.1 * 65535 then true
  else if v.1 * 65535 ≤ (bitsAt hyst 0 16 : Int) * v.2 then false else (s.slot n).on

/-- A BLDC slot's loop at a valley (R525): the reference and the PI loop while ON is 1. -/
def State.bldcLoop (s : State) (n : AuxSlot) (y : SlotUnit) (input : Word) : SlotUnit :=
  if !y.on then y.legsOff
  else
    let v := f32Frac input
    let x := y
    let p := s.slotPeriod n
    let goal := lerpPoints (v.1 * 65535) v.2 (s.slotCurvePts n)
    let nr := fToward x.nRef (f32OfRat goal.1 goal.2) (f32OfRat (s.fld (Reg.slotRamp n.val) 16 16 * p) sTicks)
    let e := fMinus nr x.speed
    let t := f32OfRat p sTicks
    let xi := fLimit (fPlus x.xi (fTimes (fTimes (s.reg (Reg.slotKi n.val)) t) e)) 0xBF800000 f32One
    let d := fLimit (fPlus (fTimes (s.reg (Reg.slotKp n.val)) e) xi) 0xBF800000 f32One
    { y with
      nRef := nr
      xi := xi
      duty := d
      drivenAt := if fBelow 0x3D4CCCCD (fMagn d) then x.drivenAt.orElse (fun _ => some s.now) else none }

/-- Sector of a Hall state (R519). -/
def hallSector (h : BitVec 3) : Option Nat := findIx (· == h.toNat) [5, 4, 6, 2, 3, 1]

/-- High and low leg of each block vector (R522). -/
def blockLegs (j : Nat) : Nat × Nat := [(0, 2), (1, 2), (1, 0), (2, 0), (2, 1), (0, 1)].getD (j % 6) (0, 2)

/-- The block vector in force: of the sector for the sign of d, one further in the direction of rotation once it has advanced (R522). -/
def SlotUnit.blockVector (x : SlotUnit) (k : Nat) : Nat :=
  let base := if f32Neg x.duty then k + 4 else k + 1
  if x.advanced then (if x.forward then base + 1 else base + 5) else base

/-- The rotor angle of sine mode as an ANG (R523). -/
def State.slotTheta (s : State) (n : AuxSlot) (k : Nat) : Int :=
  let x := s.slot n
  let off : Int := (s.reg (Reg.slotHalloff n.val)).toNat
  let t : Nat := max 1 (x.tSec.getD 1)
  let d : Int := if x.tSec.isSome then min (s.now - x.hallAt.getD s.now) t else 0
  let num : Int := if x.forward then (2 * (k : Int) - 1) * t + 2 * d else (2 * (k : Int) + 1) * t - 2 * d
  off + 2 ^ 32 * num / (12 * t)

/-- The three duties of sine mode (R523). -/
def State.sineDuties (s : State) (n : AuxSlot) (x : SlotUnit) (k : Nat) : List Word :=
  let adv := s.slotAdvance n
  let a : Int := 2 ^ 30 + adv.1 * 2 ^ 32 / (36000 * adv.2)
  let th : Int := if f32Neg x.duty then s.slotTheta n k - a else s.slotTheta n k + a
  let m := fOver (fTimes (fMagn x.duty) x.factor) (fRoot 0x40400000)
  let ph := [0, 1, 2].map (fun i => fTimes m (cosAng (BitVec.ofInt 32 (th - (i * 2 ^ 32 : Int) / 3))))
  let p := fun (i : Nat) => ph.getD i 0
  let hi := (fmax (p 0) (fmax (p 1) (p 2)).val).val
  let lo := (fmin (p 0) (fmin (p 1) (p 2)).val).val
  ph.map (fun v => fMinus (fPlus 0x3F000000 v) (fTimes 0x3F000000 (fPlus hi lo)))

/-- Sine mode ends on a sector longer than 100 ms, whether or not the slot drives (R523). -/
def SlotUnit.slowSector (x : SlotUnit) (now : Nat) : SlotUnit :=
  if x.hallAt.getD 0 + 100 * msTicks < now then { x with
    sine := false
    hallRun := 0 } else x

/-- A BLDC slot at a valley (R522 to R525). -/
def State.valleyBldc (s : State) (n : AuxSlot) (input : Word) : SlotUnit :=
  let x := s.slot n
  let p := s.slotPeriod n
  let dt := s.fld (Reg.slotPwm n.val) 0 9
  if bitAt x.ctrl 2 then { x.legsOff with drive := lowsOn 3 }
  else
    let y := s.bldcLoop n x input
    match y.on, x.hall.bind hallSector with
    | true, some k =>
      if x.sine then
        let ds := s.sineDuties n y k
        { y with drive := Vector.ofFn (fun l => if l.val < 3 then some (dutyTicks p dt (ds.getD l.val 0)) else none) }
      else
        let legs := blockLegs (y.blockVector k)
        let t := dutyTicks p dt (fTimes (fMagn y.duty) y.factor)
        { y with drive := Vector.ofFn (fun l => if l.val = legs.1 then some t else if l.val = legs.2 then some 0 else none) }
    | _, _ => y.legsOff

/-- A stepper slot at a valley (R530): one PI loop for each coil. -/
def State.valleyStepper (s : State) (n : AuxSlot) : SlotUnit :=
  let x := s.slot n
  let p := s.slotPeriod n
  let dt := s.fld (Reg.slotPwm n.val) 0 9
  let i := s.coilAmp n
  let phi : Word := BitVec.ofInt 32 (x.pos * 2 ^ 22)
  let t := f32OfRat p sTicks
  let half := fun (w : Word) => fTimes w 0x3F000000
  let loop := fun (ref xi i0 i1 : Word) =>
    let e := fMinus ref (half (fMinus i0 i1))
    let xi' := fLimit (fPlus xi (fTimes (fTimes (s.reg (Reg.slotKi n.val)) t) e)) 0xBF800000 f32One
    (fLimit (fPlus (fTimes (s.reg (Reg.slotKp n.val)) e) xi') 0xBF800000 f32One, xi')
  let ua := loop (fTimes i (cosAng phi)) x.xi x.iLeg[0] x.iLeg[1]
  let ub := loop (fTimes i (sinAng phi)) x.xiB x.iLeg[2] x.iLeg[3]
  let d := [fPlus 0x3F000000 (half ua.1), fMinus 0x3F000000 (half ua.1), fPlus 0x3F000000 (half ub.1), fMinus 0x3F000000 (half ub.1)]
  { x with
    xi := ua.2
    xiB := ub.2
    drive := Vector.ofFn (fun l => some (dutyTicks p dt (d.getD l.val 0))) }

/-- A measured period of the slot's PWM input ends: high ticks, period. -/
def State.takePwm (s : State) (n : AuxSlot) (pwm : Option (Nat × Nat)) : State :=
  match pwm with
  | none => s
  | some (h, p) => { s with aux := { s.aux with pwm := vUpd s.aux.pwm (s.slotIn n) (fun x => { x with
      edgeAt := s.now
      high := min h p
      period := p
      bad := false }) } }

/-- VALLEY (R507 to R509, R511, R518, R521 to R525, R530): the shunt codes, the voltage of the slot's analogue input in µV, and the period of its PWM input that has ended since the last valley. -/
def execValley (slot : AuxSlot) (codes : Vector (BitVec 12) 4) (ain : Nat) (pwm : Option (Nat × Nat)) (s : State) : Out :=
  if ¬ s.hasDie .aux then .next s
  else if ¬ s.slotOn slot ∨ s.slotPeriod slot = 0 ∨ s.now / s.slotPeriod slot ≤ (s.slot slot).valley then .next s
  else
    let ty := s.slotType slot
    let s1 := (s.takePwm slot pwm).sampleLegs slot codes
    let s2 := if ty = 3 then s1 else s1.limitFactor slot
    let inp := s2.slotInput slot ain
    let bad : Bool := ty == 2 && inp.2
    let newBad : Bool := bad && !(s2.slot slot).inBad
    let s3 := s2.modAux slot (fun x => { x.slowSector s.now with
      valley := s.now / s.slotPeriod slot
      inBad := bad
      on := ty == 2 && s2.slotOnBit slot inp.1
      held := s2.monitorHold slot })
    let s4 := if newBad then s3.raise 0x8009 slot.val 6 [w32 (s.slotSrc slot), w32 (s.slotIn slot).val] else s3
    let y := if !s4.slotDrives slot then (s4.slot slot).legsOff
      else if ty = 1 then s4.valleyDc slot
      else if ty = 2 then s4.valleyBldc slot inp.1
      else s4.valleyStepper slot
    .next (s4.modAux slot (fun _ => y))

/-! ## Hall inputs -/

/-- Mechanical speed from T_sec (R520). -/
def hallSpeed (forward : Bool) (t pp : Nat) : Word := f32OfRat (if forward then 10 * sTicks else -(10 * sTicks : Nat)) (max 1 t * max 1 pp)

/-- An accepted change to sector k (R519, R520, R522, R523). -/
def SlotUnit.hallTo (x : SlotUnit) (now pp : Nat) (sineSet : Bool) (h : BitVec 3) (old k : Nat) : SlotUnit :=
  let step := (k + 6 - old) % 6
  let adj : Bool := step == 1 || step == 5
  let fwd : Bool := if adj then step == 1 else x.forward
  let t := x.hallAt.map (fun a => now - a)
  let short : Bool := (t.map (fun v => decide (v < 100 * msTicks))).getD false
  let notLong : Bool := (t.map (fun v => decide (v ≤ 100 * msTicks))).getD false
  let run := if !adj then 0 else if fwd == x.forward && short then x.hallRun + 1 else 1
  { x with
    hall := some h
    hallAt := some now
    tSec := t
    forward := fwd
    hallRun := run
    advanced := false
    pos := if step = 1 then x.pos + 1 else if step = 5 then x.pos - 1 else x.pos
    speed := (t.map (fun v => hallSpeed fwd v pp)).getD 0
    sine := sineSet && adj && fwd == x.forward && (x.sine && notLong || decide (6 ≤ run)) }

/-- HALL_CHANGE (R519, R520, R522, R523): a Hall state has held for this many ticks; it is accepted once that is HALL_FILT. -/
def execHallChange (slot : AuxSlot) (hall : Held (BitVec 3)) (s : State) : Out :=
  let h := hall.value
  let x := s.slot slot
  let w := s.reg (Reg.slotBldc slot.val)
  if ¬ s.hasDie .aux then .next s
  else if ¬ s.slotOn slot ∨ s.slotType slot ≠ 2 ∨ x.hall = some h ∨ hall.ticks < bitsAt w 8 8 * 40 then .next s
  else match hallSector h with
    | none => .next ((s.modAux slot (fun x => { x with hall := some h })).slotFault slot 2 0x8004 9 [h.setWidth 32])
    | some k => match x.hall.bind hallSector with
      | none => .next (s.modAux slot (fun x => { x with
          hall := some h
          hallAt := some s.now
          tSec := none
          hallRun := 0
          advanced := false
          sine := false }))
      | some old =>
        let s1 := s.modAux slot (fun x => x.hallTo s.now (bitsAt w 26 5) (bitAt w 31) h old k)
        let step := (k + 6 - old) % 6
        .next (if step = 1 ∨ step = 5 then s1 else s1.raise 0x8005 slot.val 4 [(x.hall.getD 0).setWidth 32, h.setWidth 32])

/-- HALL_TIMEOUT (R520, R526): no Hall change for HALL_TMO ms. -/
def execHallTimeout (slot : AuxSlot) (s : State) : Out :=
  let x := s.slot slot
  let tmo := s.fld (Reg.slotBldc slot.val) 16 10 * msTicks
  if ¬ s.hasDie .aux then .next s
  else if ¬ s.slotOn slot ∨ s.slotType slot ≠ 2 ∨ s.now < x.hallAt.getD 0 + tmo then .next s
  else
    let s1 := s.modAux slot (fun x => { x with speed := 0 })
    match x.drivenAt with
    | some t => if s.now < max t (x.hallAt.getD 0) + tmo then .next s1 else .next (s1.slotFault slot 3 0x8006 9 [x.duty])
    | none => .next s1

/-- BLOCK_ADVANCE (R522): the last change + (1 − adv / 60 °e) × T_sec. -/
def execBlockAdvance (slot : AuxSlot) (s : State) : Out :=
  let x := s.slot slot
  let adv := s.slotAdvance slot
  if ¬ s.hasDie .aux then .next s
  else match x.hallAt, x.tSec with
    | some a, some t =>
      if s.slotOn slot ∧ s.slotType slot = 2 ∧ x.sine = false ∧ x.advanced = false ∧
          (a : Int) * (6000 * adv.2) + (6000 * adv.2 - adv.1) * t ≤ (s.now : Int) * (6000 * adv.2) then
        .next (s.modAux slot (fun x => { x with advanced := true }))
      else .next s
    | _, _ => .next s

/-- PWM_IN_TIMEOUT (R524): no edge for TMO ms. -/
def execPwmInTimeout (input : Fin 8) (s : State) : Out :=
  let p := s.aux.pwm[input]
  if ¬ s.hasDie .aux then .next s
  else if p.bad ∨ s.now < p.edgeAt + s.fld (Reg.auxPwmCfg input.val) 0 16 * msTicks then .next s
  else
    let s1 : State := { s with aux := { s.aux with pwm := vUpd s.aux.pwm input (fun x => { x with bad := true }) } }
    .next ((s.slotsOn).foldl (fun s n =>
      if s.slotType n = 2 ∧ s.slotSrc n = 2 ∧ s.slotIn n = input ∧ (s.slot n).inBad = false then
        ((s.modAux n (fun x => { x with inBad := true })).raise 0x8009 n.val 6 [2, w32 input.val]).slotCommit n
      else s) s1)

end Sys2Proof.Machine
end

