-- ==== Sys2Proof/Machine/Profile.lean ====
section
/-! DEFINITION. The stepper profile generators and the set-up checks of the slots (15_aux_drives.md, R515, R527 to R532). -/

namespace Sys2Proof.Machine

/-- A point of motion: position, velocity and acceleration in 2^−64 of a unit for each update of 10 µs. -/
structure Motion where
  x : Int
  v : Int
  a : Int
  deriving DecidableEq, Repr

/-- A part of a motion: an acceleration to start from (none: as it is), a constant jerk, a duration in 2^−32 updates. -/
structure Seg where
  acc : Option Int
  jerk : Int
  dur : Nat
  deriving DecidableEq, Repr

/-- The bounds of R527 for each update: VMAX, AMAX, DMAX, and JMAX where JERK is set. -/
structure Bounds where
  v : Int
  a : Int
  d : Int
  j : Option Int
  deriving DecidableEq, Repr

/-- The motion after t / 2^32 updates under constant jerk. -/
def Motion.glide (m : Motion) (jerk : Int) (t : Nat) : Motion :=
  let t1 : Int := t
  { x := m.x + m.v * t1 / 2 ^ 32 + m.a * t1 * t1 / 2 ^ 65 + jerk * t1 * t1 * t1 / (6 * 2 ^ 96)
    v := m.v + m.a * t1 / 2 ^ 32 + jerk * t1 * t1 / 2 ^ 65
    a := m.a + jerk * t1 / 2 ^ 32 }

/-- The motion along the parts, for at most t / 2^32 updates. -/
def Motion.along (m : Motion) (t : Nat) : List Seg → Motion
  | [] => m.glide 0 t
  | g :: gs =>
    let m1 := { m with a := g.acc.getD m.a }
    if t ≤ g.dur then m1.glide g.jerk t else (m1.glide g.jerk g.dur).along (t - g.dur) gs

/-- Total duration. -/
def segTime (gs : List Seg) : Nat := (gs.map (·.dur)).sum

/-- Velocity v0 with acceleration a0 to velocity v1 in the least time: at constant acceleration `lim`, or within the jerk j. -/
def velSegs (j : Option Int) (v0 a0 v1 lim : Int) : List Seg :=
  match j with
  | none =>
    let up : Bool := decide (v0 ≤ v1)
    [⟨some (if up then lim else -lim), 0, (v1 - v0).natAbs * 2 ^ 32 / lim.natAbs⟩, ⟨some 0, 0, 0⟩]
  | some j =>
    let vz := v0 + a0 * a0.natAbs / (2 * j)
    let s : Int := if vz ≤ v1 then 1 else -1
    let sq : Int := j * s * (v1 - v0) + a0 * a0 / 2
    let ap : Int := min lim (isqrt sq.toNat : Nat)
    let rest : Int := s * (v1 - v0) - (2 * ap * ap - a0 * a0) / (2 * j)
    let d1 := ap - s * a0
    [⟨none, if 0 ≤ d1 then s * j else -(s * j), d1.natAbs * 2 ^ 32 / j.natAbs⟩,
      ⟨some (s * ap), 0, if ap = lim then rest.toNat * 2 ^ 32 / lim.natAbs else 0⟩,
      ⟨some (s * ap), -(s * j), ap.natAbs * 2 ^ 32 / j.natAbs⟩, ⟨some 0, 0, 0⟩]

/-- To rest: |v| falls within DMAX. -/
def Bounds.stop (b : Bounds) (m : Motion) : List Seg := velSegs b.j m.v m.a 0 b.d

/-- Distance covered along the parts. -/
def Motion.dist (m : Motion) (gs : List Seg) : Int := (m.along (segTime gs) gs).x - m.x

/-- From a motion with v ≥ 0 to velocity vp, and from there to rest. -/
def Bounds.peak (b : Bounds) (m : Motion) (vp : Int) : List Seg × List Seg :=
  (velSegs b.j m.v m.a vp (if m.v ≤ vp then b.a else b.d), velSegs b.j vp 0 0 b.d)

/-- Distance of a motion with the peak vp. -/
def Bounds.peakDist (b : Bounds) (m : Motion) (vp : Int) : Int :=
  let p := b.peak m vp
  m.dist p.1 + ({ x := 0, v := vp, a := 0 } : Motion).dist p.2

/-- The greatest peak velocity whose motion does not pass the distance, by halving the range. -/
def Bounds.findPeak (b : Bounds) (m : Motion) (dist : Int) : Nat → Int → Int → Int
  | 0, lo, _ => lo
  | n + 1, lo, hi =>
    let mid := (lo + hi) / 2
    if b.peakDist m mid ≤ dist then b.findPeak m dist n mid hi else b.findPeak m dist n lo mid

/-- The velocity at which the acceleration has come back to zero. -/
def Bounds.easedV (b : Bounds) (m : Motion) : Int :=
  match b.j with
  | none => m.v
  | some j => m.v + m.a * m.a.natAbs / (2 * j)

/-- The plan that brings a motion to rest at a distance ahead (dist ≥ 0), and whether it ends there: a motion away, or one that can not stop in time, first comes to rest; a braking motion eases off while it still stops in time (R527). -/
def Bounds.toPoint (b : Bounds) (m : Motion) (dist : Int) : List Seg × Bool :=
  let st := b.stop m
  let vz := max 0 (b.easedV m)
  if m.v < 0 ∨ dist < m.dist st then (st, false)
  else if b.peakDist m vz ≤ dist then
    let vp := b.findPeak m dist (Nat.log2 (b.v - vz).toNat + 1) vz (max vz b.v)
    let p := b.peak m vp
    let left := dist - b.peakDist m vp
    (p.1 ++ [⟨some 0, 0, if 0 < vp then left.toNat * 2 ^ 32 / vp.natAbs else 0⟩] ++ p.2, true)
  else
    let g : Seg := ⟨none, b.j.getD 0, 2 ^ 32⟩
    let e := m.glide g.jerk (2 ^ 32)
    if e.a ≤ 0 ∧ e.x - m.x + e.dist (b.stop e) ≤ dist then (g :: b.stop e, false) else (st, false)

/-- The mirror image. -/
def Motion.flip (m : Motion) : Motion := { x := -m.x, v := -m.v, a := -m.a }

/-- One update of a plan: its end, exactly, where it ends within the update. -/
def Motion.step (m : Motion) (gs : List Seg) (atEnd : Motion) : Motion :=
  if segTime gs ≤ 2 ^ 32 then atEnd else m.along (2 ^ 32) gs

/-- One update toward rest. -/
def Bounds.rest (b : Bounds) (m : Motion) : Motion :=
  let gs := b.stop m
  m.step gs { x := m.x + m.dist gs, v := 0, a := 0 }

/-- One update toward a position; coming to rest less than a unit beyond it is coming to rest on it. -/
def Bounds.toward (b : Bounds) (m : Motion) (goal : Int) : Motion :=
  let f : Bool := decide (m.x ≤ goal)
  let n := if f then m else m.flip
  let d := if f then goal - m.x else m.x - goal
  let (gs, ends) := b.toPoint n d
  let r := n.step gs { x := n.x + (if ends then d else n.dist gs), v := 0, a := 0 }
  let r1 : Motion := if d < r.x - n.x ∧ r.x - n.x < d + 2 ^ 64 ∧ r.v = 0 then { x := n.x + d, v := 0, a := 0 } else r
  if f then r1 else r1.flip

/-- One update toward a velocity: through rest where the direction changes. -/
def Bounds.speedTo (b : Bounds) (m : Motion) (goal : Int) : Motion :=
  let g := max (-b.v) (min b.v goal)
  let through : Bool := decide (m.v * g < 0)
  let v1 := if through then 0 else g
  let lim := if v1.natAbs ≥ m.v.natAbs then b.a else b.d
  let gs := velSegs b.j m.v m.a v1 lim
  m.step gs { x := m.x + (m.v + v1) / 2, v := v1, a := 0 }

/-- A bound in 2^−64 of a unit for each update to the power k: full steps times 256 units, an update being 10^−5 s. An infinite bound is the greatest finite one. -/
def perUpdate (w : Word) (k : Nat) : Int :=
  let f := f32Frac (if f32Mag w = 0x7F800000 then w - 1 else w)
  f.1 * (256 * 2 ^ 64) / ((f.2 : Int) * (10 ^ 5) ^ k)

/-- The slot's bounds (R527). -/
def State.slotBounds (s : State) (n : AuxSlot) : Bounds :=
  { v := perUpdate (s.reg (Reg.slotVmax n.val)) 1
    a := max 1 (perUpdate (s.reg (Reg.slotAmax n.val)) 2)
    d := max 1 (perUpdate (s.reg (Reg.slotDmax n.val)) 2)
    j := if bitAt (s.reg (Reg.slotStep n.val)) 31 then some (max 1 (perUpdate (s.reg (Reg.slotJmax n.val)) 3)) else none }

/-- A position in the generator's parts. -/
def fineOf (p : Int) : Int := p * 2 ^ 64

/-- Where one update takes the motion (R527, R528, R514, R531): a stop, a position, or a velocity whose limit ahead is a position. -/
def State.slotMotion (s : State) (n : AuxSlot) : Motion :=
  let x := s.slot n
  let b := s.slotBounds n
  let m : Motion := ⟨x.fine, x.vel, x.acc⟩
  let lo := fineOf x.limLo
  let hi := fineOf x.limHi
  if x.mode ≠ .run ∨ x.stale ∨ x.limStop then b.rest m
  else if bitAt x.ctrl 3 then
    let g := perUpdate x.value 1
    if 0 < g then
      let r := b.speedTo m g
      if hi ≤ m.x then b.rest m
      else if 0 ≤ r.v ∧ hi < r.x + r.dist (b.stop r) then b.toward m hi
      else r
    else if g < 0 then
      let r := b.speedTo m g
      if m.x ≤ lo then b.rest m
      else if r.v ≤ 0 ∧ r.x + r.dist (b.stop r) < lo then b.toward m lo
      else r
    else b.rest m
  else b.toward m (max lo (min hi (fineOf x.target.toInt)))

/-- Increment of a microstep level (R529). -/
def stepIncrement (level : Nat) : Int := [1, 4, 16, 64, 128, 256].getD level 256

/-- V_L in full steps/s (R529). -/
def State.slotV (s : State) (n : AuxSlot) (level : Nat) : Nat :=
  match level with
  | 1 => s.fld (Reg.slotMsA n.val) 0 16
  | 2 => s.fld (Reg.slotMsA n.val) 16 16
  | 3 => s.fld (Reg.slotMsB n.val) 0 16
  | 4 => s.fld (Reg.slotMsB n.val) 16 16
  | _ => s.fld (Reg.slotMsC n.val) 0 16

/-- Falls of the level, at once (R529). -/
def State.levelFall (s : State) (n : AuxSlot) (v : Int) : Nat → Nat
  | 0 => 0
  | l + 1 =>
    if (v.natAbs : Int) * 100 < 94 * perUpdate (f32OfInt (s.slotV n (l + 1))) 1 then s.levelFall n v l else l + 1

/-- Is there a multiple of inc at x0, or between it and x1? -/
def crosses (inc x0 x1 : Int) : Bool :=
  let g := fineOf inc
  x0 % g == 0 || x0 / g != x1 / g

/-- The level after a motion from x0 to x1 (R529). -/
def State.nextLevel (s : State) (n : AuxSlot) (x0 x1 v : Int) : Nat :=
  if v = 0 then 0
  else
    let l := s.levelFall n v (s.slot n).level
    if l < (s.slot n).level ∨ l = 5 then l
    else if perUpdate (f32OfInt (s.slotV n (l + 1))) 1 ≤ (v.natAbs : Int) ∧ crosses (stepIncrement (l + 1)) x0 x1 then l + 1
    else l

/-- The position in increments of the level, not beyond the generator's (R529). -/
def quantised (level : Nat) (x v : Int) : Int :=
  let g := stepIncrement level
  let u := if v < 0 then -((-x) / 2 ^ 64) else x / 2 ^ 64
  if v < 0 then -((-u) / g * g) else u / g * g

/-- PROFILE_UPDATE (R527 to R529, R531): every 10 µs. -/
def execProfileUpdate (slot : AuxSlot) (s : State) : Out :=
  let x := s.slot slot
  if ¬ s.hasDie .aux then .next s
  else if ¬ s.slotOn slot ∨ s.slotType slot ≠ 3 ∨ s.now / 4000 ≤ x.profAt then .next s
  else if ¬ s.slotDrives slot then
    .next (s.modAux slot (fun x => { x with
      profAt := s.now / 4000
      vel := 0
      acc := 0
      level := 0
      limit := x.beyond }))
  else
    let m := s.slotMotion slot
    let lev := s.nextLevel slot x.fine m.x m.v
    let pos := if m.v = 0 then m.x / 2 ^ 64 else quantised lev m.x m.v
    let still : Bool := m.v == 0 && m.x == x.fine
    let ended : Bool := x.mode == .stopping && m.v == 0
    let y : SlotUnit := { x with
      profAt := s.now / 4000
      fine := m.x
      vel := m.v
      acc := m.a
      level := lev
      pos := pos
      limStop := x.limStop && m.v != 0
      limit := ({ x with pos := pos } : SlotUnit).beyond
      stillAt := if still then x.stillAt.orElse (fun _ => some s.now) else none
      reducing := if still then x.reducing else none }
    let z : SlotUnit := if ended then { y.legsOff with
      mode := .off
      posUnsure := true } else y
    let s1 := s.modAux slot (fun _ => z)
    .next (if ended then s1.slotCommit slot else s1)

/-- HOLD_REDUCTION (R531). -/
def execHoldReduction (slot : AuxSlot) (s : State) : Out :=
  let x := s.slot slot
  let w := s.reg (Reg.slotStep slot.val)
  if ¬ s.hasDie .aux then .next s
  else match x.stillAt with
    | none => .next s
    | some t =>
      if s.slotOn slot ∧ s.slotType slot = 3 ∧ x.reducing = none ∧ t + bitsAt w 16 14 * msTicks ≤ s.now ∧
          (bitAt w 30 ∨ fBelow x.load f32One = false) then
        .next (s.modAux slot (fun x => { x with reducing := some s.now }))
      else .next s

/-! ## Set-up -/

/-- Strictly ascending. -/
def ascending : List Int → Bool
  | a :: b :: l => decide (a < b) && ascending (b :: l)
  | _ => true

/-- Half-bridges of a slot. -/
def State.slotBridges (s : State) (n : AuxSlot) : List Nat := (List.range (s.slotLegs n)).map (s.slotBase n + ·)

/-- The slot is enabled by its register. -/
def State.slotAsked (s : State) (n : AuxSlot) : Bool := bitAt (s.reg (Reg.slotCfg n.val)) 31 && s.slotType n != 0

/-- The first reason of R532 for which a slot fails. -/
def State.slotBad (s : State) (n : AuxSlot) : Option Nat :=
  let hb := s.slotBridges n
  let shared := (idxs 16).any (fun m => m != n && s.slotAsked m && (s.slotBridges m).any (fun h => hb.contains h))
  let hyst := s.reg (Reg.slotXhyst n.val)
  let ilim := s.reg (Reg.slotIlim n.val)
  let g := 5 * 2 ^ s.fld (Reg.slotShunt n.val) 30 2
  let r := s.fld (Reg.slotShunt n.val) 0 16
  if hb.any (fun h => 47 < h) ∨ shared then some 1
  else if s.slotType n = 2 ∧ (¬ ascending ((s.slotCurvePts n).map (·.1)) ∨ bitsAt hyst 16 16 ≤ bitsAt hyst 0 16 ∨
      ¬ ascending ((s.slotAdvPts n).map (·.1))) then some 2
  else if s.slotType n = 3 ∧ (s.slotV n 1 = 0 ∨ ¬ ascending (([1, 2, 3, 4, 5] : List Nat).map (fun l => (s.slotV n l : Int)))) then some 3
  else if bitsAt ilim 16 16 ≤ bitsAt ilim 0 16 ∨ 1250000 * 10 < bitsAt ilim 16 16 * (g * r) then some 4
  else none

/-- The checks of R532 at SETUP_LOCK. -/
def State.slotChecks (s : State) : State :=
  if ¬ s.hasDie .aux then s
  else
    let bad := (idxs 16).filterMap (fun n => if s.slotAsked n then (s.slotBad n).map (fun r => (n, r)) else none)
    bad.foldl (fun (s : State) (b : AuxSlot × Nat) =>
      (({ s with glb := { s.glb with slotsDisabled := s.glb.slotsDisabled ||| BitVec.ofNat 16 (2 ^ b.1.val) } } : State).raise 0x800A b.1.val 10 [w32 b.2])) s

/-- A fixed entry of AUX, HOST_R and TRACE set. -/
def slotEntry (base len owner : Nat) : DirEntry :=
  { base := base, len := len, hostR := true, trace := true, act := false, group := true, type := 0, owner := owner, pending := false,
    sharers := [], firmware := true }

/-- The fixed entries of the enabled slots (R515, R517). -/
def State.slotEntries (s : State) : List DirEntry :=
  if ¬ s.hasDie .aux then []
  else ((idxs 16).filter (fun n => s.slotAsked n && !s.glb.slotsDisabled.getLsbD n.val)).flatMap (fun n =>
    let a := slotSignals n
    let st := slotEntry (a + 0x10) 13 0x0006
    let cmd := slotEntry a 6 0x0200
    if bitAt (s.reg (Reg.slotCfg n.val)) 28 then [st] else [cmd, st])

/-! ## Registers -/

/-- AUX_STATUS. -/
def State.auxStatus (s : State) : Word :=
  packFields [(31, b2n s.auxOffA), (30, b2n s.auxOffB), (29, b2n s.auxLinkFail), (3, b2n s.aux.vmOv), (2, b2n s.aux.vmUv),
    (1, b2n s.aux.vddUv), (0, b2n s.aux.cpUv)]
/-- SLOT_STATUS_s. -/
def State.slotStatusReg (s : State) (n : AuxSlot) : Word :=
  packFields [(29, s.slotState n), (8, (s.slot n).legOff.toNat), (0, (s.slot n).cause)]

end Sys2Proof.Machine
end

