-- ==== Sys2Proof/Machine/SafetyCmd.lean ====
section
/-! DEFINITION. The SAFETY_CONFIG descriptors (14_functional_safety.md, R502 to R504; 16_host_rings.md, R552, R562). -/

namespace Sys2Proof.Machine

/-- A SAFETY_CONFIG runs, from a ring or over the service port (R562). -/
def State.safetyBusy (s : State) : Bool := s.store.safetyDone.isSome

/-- Kind 6 is to be written; the request `c` completes once it is (R504). -/
def State.safetyStore (s : State) (by_ : WriteBy) (c : Completion) : State :=
  (s.modStore (fun x => { x with safetyDone := some (by_, c) })).askWrite ⟨6, 0, [], by_⟩

/-- A request block of a taken descriptor: a second request is BUSY, judged before what it asks for (DESIGN CHOICE, assumption 98); one that changes nothing completes at once, the others when their record is written. In RETIRED nothing is written (R657). A request that a failed link keeps from Tahr or from STORE ends with an error (R29, R33); no rule names its status (DESIGN CHOICE, assumption 94). -/
def State.runSafety (s : State) (t : Taken) (b : List Byte) : State :=
  if s.safetyBusy then s.finish t 5 2 0
  else if (s.safetyWrites b ∧ s.lifecycle = 4) ∨ ¬ s.tahrReached (s.safetyWrites b) then s.finish t 1 1 0
  else
    let (s1, a) := s.safetyRequest b 0
    if s.safetyWrites b then s1.safetyStore (.ring t.ring t.index) ⟨t.ring, t.index, a.status, a.detail, w32 a.result⟩
    else
      let s2 := if a.image.isEmpty then s1 else s1.emit (.hostWrite (t.desc.addr + 72) a.image)
      s2.finish t a.status a.detail (w32 a.result)

/-- SAFETY_CONFIG with this SUBOP; a block whose SUBOP is none of R502's belongs to each of the commands. -/
def safetyConfig (sub : Nat) (ring : BitVec 16) (data : Option (List Byte)) (s : State) : State :=
  match s.take ring.toNat 0x60 (fun _ => true) with
  | none => s
  | some (t, s1) =>
    match dataOf t data with
    | none => s1.finish t 2 12 0
    | some b => if fieldLe b 0 1 = sub ∨ ¬ within (fieldLe b 0 1) 1 7 then s1.runSafety t b else s

/-- READ (R502). -/
def execRead (ring : BitVec 16) (data : Option (List (BitVec 8))) (s : State) : Out := .next (safetyConfig 1 ring data s)
/-- WRITE (R503). -/
def execWrite (ring : BitVec 16) (data : Option (List (BitVec 8))) (s : State) : Out := .next (safetyConfig 2 ring data s)
/-- CONFIRM (R503). -/
def execConfirm (ring : BitVec 16) (data : Option (List (BitVec 8))) (s : State) : Out := .next (safetyConfig 3 ring data s)
/-- SET_PASSWORD (R501). -/
def execSetPassword (ring : BitVec 16) (data : Option (List (BitVec 8))) (s : State) : Out := .next (safetyConfig 4 ring data s)
/-- READ_LOG (R504). -/
def execReadLog (ring : BitVec 16) (data : Option (List (BitVec 8))) (s : State) : Out := .next (safetyConfig 5 ring data s)
/-- ACK_FAULT (R484). -/
def execAckFault (ring : BitVec 16) (data : Option (List (BitVec 8))) (s : State) : Out := .next (safetyConfig 6 ring data s)
/-- HOLD (R484). -/
def execHold (ring : BitVec 16) (data : Option (List (BitVec 8))) (s : State) : Out := .next (safetyConfig 7 ring data s)

end Sys2Proof.Machine
end

