-- ==== Sys2Proof/Machine/Lifecycle.lean ====
section
/-! DEFINITION. The lifecycle, credentials, the owner and the satellite binding (20_store_update_identity.md, R652 to R659). -/

namespace Sys2Proof.Machine

/-- A new LC_NONCE, random (R655). -/
def State.renewNonce (s : State) : State :=
  let (v, s1) := s.fresh 64
  s1.modStore (fun x => { x with nonce := v })

/-- Does a credential block hold (R654, R655)? -/
def State.credentialOk (s : State) (op arg : Nat) (b : List Byte) : Bool :=
  let f := fun (o n : Nat) => fieldLe b o n
  let key := (b.drop 32).take 64
  b.length == 160 && f 0 4 == 0x44434C4F && f 4 2 == op && f 8 8 == Config.deviceId.toNat && f 16 8 == s.store.nonce.toNat && f 24 4 == arg
    && ecdsaVerify key (b.take 96) ((b.drop 96).take 64) && (op == 3 || sha256 key == s.store.ident.ownerHash)

/-- State and BOUND as the operation requires them (R653). -/
def State.lifeAllowed (s : State) (op : Nat) : Bool :=
  let l := s.lifecycle
  let bound := s.store.ident.bound
  match op with
  | 1 => (l == 1 || l == 3) && bound && s.tahr.image.isSome
  | 2 => l == 2
  | 3 => (l == 1 || l == 3) && !bound
  | 4 => l == 3 && bound
  | 5 => (l == 1 || l == 2 || l == 3) && bound
  | 6 => (l == 2 || l == 3) && bound
  | 7 => (l == 1 || l == 2 || l == 3) && bound
  | _ => false

/-- The channels the operation requires in STO are in STO (R653). -/
def State.lifeSto (s : State) (op arg : Nat) : Bool :=
  if op = 6 then true else if op = 5 then s.inSto (portChannel (finOf 47 arg)) else s.allSto 0xFF

/-- Changes the identity record. -/
def State.modIdent (s : State) (f : IdentityRec → IdentityRec) : State := s.modStore (fun x => { x with ident := f x.ident })

/-- A port in FOREIGN whose ID is recorded goes to TIME (R379, R658, R659). -/
def State.knownPort (s : State) (t : Port) : State :=
  if s.ports[t].state = .foreign ∧ s.store.ident.satIds[t] = s.ports[t].satId ∧ s.ports[t].satId ≠ 0 then s.enterTime t else s

/-- BIND (R658). -/
def State.bind (s : State) (key : List Byte) : State :=
  let s1 := s.modIdent (fun r => { r with
    bound := true
    bindCount := (r.bindCount + 1) % 2 ^ 32
    ownerHash := sha256 key
    satIds := Vector.ofFn (fun t => if s.ports[t].identified then s.ports[t].satId else 0) })
  let s2 := (s1.modTahr (fun t => { t with unbound := false })).raise 0xA303 3 6 [w32 s1.store.ident.bindCount]
  (idxs 48).foldl State.knownPort s2

/-- ACK_SATELLITE (R659). -/
def State.ackSatellite (s : State) (t : Port) : State :=
  let id := s.ports[t].satId
  let s1 := s.modIdent (fun r => { r with satIds := vUpd r.satIds t (fun _ => id) })
  (s1.raise 0xA305 t.val 6 (timeWords id.toNat)).knownPort t

/-- The effect of an accepted operation (R653). -/
def State.lifeAct (s : State) (op arg : Nat) (key : List Byte) : State :=
  match op with
  | 1 => s.modIdent (fun r => { r with phase := 1 })
  | 2 => s.modIdent (fun r => { r with phase := 2 })
  | 3 => s.bind key
  | 4 => ((s.modIdent (fun r => { r with
      bound := false
      ownerHash := List.replicate 32 0 })).modTahr (fun t => { t with unbound := true })).raise 0xA304 3 10 [1]
  | 5 => s.ackSatellite (finOf 47 arg)
  | 6 => s.modIdent (fun r => { r with ownerLock := arg.testBit 0 })
  | _ => (s.modStore (fun x => { x with lc1 := true })).modTahr (fun t => { t with retired := true })

/-- A refused request (R656). -/
def State.lifeRefuse (s : State) (op arg result origin status : Nat) : State × Nat × Nat × Nat :=
  let crc := (imageCrc s.tahr.image).toNat
  ((s.logChange (imageSerial s.tahr.image).toNat (0x10 + op) result crc arg origin).raise 0xA302 3 6 [w32 op, w32 result],
    status, result, result)

/-- A lifecycle request: by a credential block, or by the key of a service session (R653, R655, R656, R663). Answers STATUS, DETAIL and RESULT; the change-log entry is made, its record still to be written. -/
def State.lifeRequest (s : State) (op arg origin : Nat) (cred : Option (List Byte)) (key : List Byte) : State × Nat × Nat × Nat :=
  if ¬ within op 1 7 then s.lifeRefuse op arg 2 origin 2
  else if op = 5 ∧ 6 * s.nChannels ≤ arg then (s, 2, 6, 0)
  else if ¬ s.lifeAllowed op then s.lifeRefuse op arg 1 origin 1
  else if cred.isSome ∧ s.tahr.lockout.isSome then s.lifeRefuse op arg 0x81 origin 6
  else
    let good := cred.elim true (fun b => s.credentialOk op arg b)
    let s1 := if cred.isSome then s.renewNonce else s
    if ¬ good then s1.countWrong.lifeRefuse op arg 0x80 origin 6
    else if ¬ s1.lifeSto op arg then s1.lifeRefuse op arg 0x82 origin 6
    else
      let s2 := if cred.isSome then s1.modTahr (fun t => { t with pwFails := 0 }) else s1
      let s3 := s2.lifeAct op arg (cred.elim key (fun b => (b.drop 32).take 64))
      let crc := (imageCrc s.tahr.image).toNat
      let s4 := s3.logChange (imageSerial s.tahr.image).toNat (0x10 + op) 0 crc arg origin
      let s5 := if s4.lifecycle = s.lifecycle then s4 else s4.raise 0xA301 3 8 [w32 s.lifecycle, w32 s4.lifecycle, w32 op]
      (if op = 7 then s5 else s5.writeKind 4, 0, 0, s5.lifecycle)

/-- SET_STATE request 3 with the operation `op` in w1; an operation outside 1 to 7 belongs to each of the commands. It completes when its change-log entry is written (R504). -/
def lifecycleRow (op : Nat) (ring : BitVec 16) (data : Option (List Byte)) (s : State) : State :=
  s.onDesc ring 0x40 (fun d => d.w[0] == 3 && (d.w[1].toNat == op || !within d.w[1].toNat 1 7)) (fun t s =>
    let o := t.desc.w[1].toNat
    if t.desc.length ≠ 160 then s.finish t 2 4 0
    else if ¬ t.desc.zeroFrom 3 then s.finish t 2 2 0
    else if o = 5 ∧ s.nPorts ≤ t.desc.w[2].toNat then s.finish t 2 6 0
    else if s.shut.active then s.finish t 1 4 0
    else match dataOf t data with
      | none => s.finish t 2 12 0
      | some b =>
        if s.safetyBusy then s.finish t 5 2 0
        else if ¬ s.tahrReached true then s.finish t 1 1 0
        else
          let (s1, st, det, r) := s.lifeRequest o t.desc.w[2].toNat 0 (some b) []
          if det = 6 ∨ s.lifecycle = 4 then s1.finish t st det (w32 r)
          else s1.safetyStore (.ring t.ring t.index) ⟨t.ring, t.index, st, det, w32 r⟩)

/-- ENTER_FIELD. -/
def execEnterField (ring : BitVec 16) (data : Option (List (BitVec 8))) (s : State) : Out := .next (lifecycleRow 1 ring data s)
/-- ENTER_MAINTAIN. -/
def execEnterMaintain (ring : BitVec 16) (data : Option (List (BitVec 8))) (s : State) : Out := .next (lifecycleRow 2 ring data s)
/-- BIND. -/
def execBind (ring : BitVec 16) (data : Option (List (BitVec 8))) (s : State) : Out := .next (lifecycleRow 3 ring data s)
/-- UNBIND. -/
def execUnbind (ring : BitVec 16) (data : Option (List (BitVec 8))) (s : State) : Out := .next (lifecycleRow 4 ring data s)
/-- ACK_SATELLITE. -/
def execAckSatellite (ring : BitVec 16) (data : Option (List (BitVec 8))) (s : State) : Out := .next (lifecycleRow 5 ring data s)
/-- OWNER_LOCK. -/
def execOwnerLock (ring : BitVec 16) (data : Option (List (BitVec 8))) (s : State) : Out := .next (lifecycleRow 6 ring data s)
/-- RETIRE. -/
def execLifecycleRetire (ring : BitVec 16) (data : Option (List (BitVec 8))) (s : State) : Out := .next (lifecycleRow 7 ring data s)

/-- DEV_ID_LO (R693): the read latches DEV_ID_HI. -/
def execDevIdLo (s : State) : Out :=
  .next ((s.modStore (fun x => { x with idHi := w32 (Config.deviceId.toNat / 2 ^ 32) })).emit (.regRead Reg.devIdLo (w32 Config.deviceId.toNat)))

/-- LC_NONCE_LO (R693): the read latches LC_NONCE_HI. -/
def execLcNonceLo (s : State) : Out :=
  .next ((s.modStore (fun x => { x with nonceHi := w32 (s.store.nonce.toNat / 2 ^ 32) })).emit (.regRead Reg.lcNonceLo (w32 s.store.nonce.toNat)))

/-- LC_STATUS. -/
def State.lcStatus (s : State) : Word :=
  packFields [(29, s.lifecycle), (28, b2n s.store.ident.bound), (27, b2n s.store.ident.ownerLock)]

end Sys2Proof.Machine
end

