-- ==== Sys2Proof/Machine/StoreOps.lean ====
section
/-! DEFINITION. STORE at work: host records, the end of a bank write, firmware images, the event log, ageing records, the identity response (20_store_update_identity.md, R638 to R651, R661, R664 to R666; 06_planning_and_ageing.md, R237). -/

namespace Sys2Proof.Machine

/-- CTRL-A reaches STORE (R28, R29). -/
def State.storeUp (s : State) : Bool := !s.links[19].failed && !s.links[20].failed && !s.wires.dieFault[Die.store.ix]

/-! ## Firmware slots -/

/-- VERSION and ARB of a firmware slot. -/
def State.fwVersion (s : State) (b : Fin 2) : Nat := fieldLe (s.bank 7 b).content 8 4
/-- ARB of a firmware slot. -/
def State.fwArb (s : State) (b : Fin 2) : Nat := fieldLe (s.bank 7 b).content 12 1

/-- A channel of the part lacks a stop wire. -/
def State.notAllSto (s : State) : Bool := !s.allSto 0xFF

/-- An enabled position interface reads more than STILL (R665 reason 2). -/
def State.notStill (s : State) : Bool :=
  let lim := fmul (f32OfRat (s.fld Reg.updCfg 0 16) 10) (fdiv f32TwoPi 0x42700000).val
  (idxs 2).any (fun d => (idxs 4).any (fun k => s.pifOn d k && fBelow lim.val (fMagn (s.pifSpeed d k))))

/-- VSUP_SENSE is below the low-battery threshold (R665 reason 3). -/
def State.lowBattery (s : State) : Bool :=
  let c := s.fld Reg.updCfg 16 16
  fBelow (s.sig (senseBase 0 + 0x317)) (f32OfRat (if c ≠ 0 then c else if s.store.vsupHigh then 210 else 105) 10)

/-- Reasons 1 to 4 of R665. -/
def State.updateHeld (s : State) : Option Nat :=
  if s.notAllSto then some 1 else if s.notStill then some 2 else if s.lowBattery then some 3
  else if s.store.ident.ownerLock then some 4 else none

/-- Reason 5 of R665: not in recovery (R668), but in RETIRED every update is refused (R657). -/
def State.updateClosed (s : State) : Bool := s.lifecycle == 4 || (s.lifecycle != 2 && s.lifecycle != 3 && !s.store.recovery)

/-- Every reason of R665 for an image: the lowest. Reason 5 does not apply in recovery (R668). -/
def State.updateReason (s : State) (im : List Byte) : Option Nat :=
  s.updateHeld <|>
    (if s.updateClosed then some 5
     else if s.store.life.boot.trial ≠ 0xFF ∨ s.shut.active ∨ s.safetyBusy then some 6
     else s.imageBad im)

/-- STATUS and DETAIL of a refused update. -/
def updateStatus (reason : Nat) : Nat × Nat := if reason ≤ 6 then (1, 1) else (2, 9)

/-! ## STORE_RECORD and READ_RECORD -/

/-- Content of kind 1 with a new user section (R645, R648). -/
def State.calContent (s : State) (user : List Byte) : List Byte :=
  match s.inForce 1 with
  | none => user
  | some b => fitBytes 0x1000 user ++ ((s.bank 1 b).content).drop 0x1000

/-- What a write of a host kind comes to (R638, R644, R648, R657, R665): the content to write, or STATUS, DETAIL and the reason of R665. -/
def State.judgeRecord (s : State) (kind : Nat) (bs : List Byte) : Except (Nat × Nat × Option Nat) (List Byte) :=
  if kind = 0 ∨ 7 < kind then .error (2, 6, none)
  else if kind ≠ 1 ∧ kind ≠ 7 then .error (4, 4, none)
  else if s.kindBusy kind then .error (5, 4, none)
  else if ¬ s.storeUp then .error (1, 1, none)
  else if kind = 1 then
    if s.lifecycle ≠ 0 ∧ s.lifecycle ≠ 1 ∧ s.lifecycle ≠ 3 then .error (1, 1, none)
    else if bs.length ≠ 1856 then .error (2, 4, none)
    else .ok (s.calContent bs)
  else match s.updateReason bs with
    | some r => .error ((updateStatus r).1, (updateStatus r).2, some r)
    | none => .ok bs

/-- Starts the write of a host kind; a firmware write holds STO_B_n on every channel (R666). -/
def State.startRecord (s : State) (kind : Nat) (content : List Byte) (by_ : WriteBy) : State :=
  (if kind = 7 then s.modTahr (fun t => { t with updating := true }) else s).askWrite ⟨kind, 0, content, by_⟩

/-- STORE_RECORD (R642, R644, R648, R665). -/
def execStoreRecord (ring : BitVec 16) (data : Option (List (BitVec 8))) (s : State) : Out :=
  .next (s.onData ring 0x50 (fun _ => true) data (fun t bs s =>
    let kind := t.desc.w[0].toNat
    if t.desc.w[1] ≠ 0 then s.finish t 2 2 0
    else match s.judgeRecord kind bs with
      | .error (st, det, r) => (match r with
        | some r => s.raise 0xA201 1 6 [w32 r]
        | none => s).finish t st det 0
      | .ok content => s.startRecord kind content (.ring t.ring t.index)))

/-- What READ_RECORD returns of a kind (R639): header and content from an offset, at most n bytes; what a bank that holds less returns beyond its end is stated nowhere. -/
def State.readRecord (s : State) (kind w1 n : Nat) : Except (Nat × Nat) (List Byte × State) :=
  let sel := w1 % 4
  let off := w1 / 256 * 256
  let cut := fun (b : Fin 2) =>
    let bs := (s.bank kind b).bytes kind
    (bs.take 32 ++ (bs.drop 32).drop off).take n
  if kind = 0 ∨ 7 < kind then .error (2, 6)
  else if kind = 6 then .error (4, 4)
  else if w1 / 4 % 64 ≠ 0 ∨ sel = 3 then .error (2, 2)
  else if ¬ s.storeUp then .error (1, 1)
  else if sel = 0 then
    match s.inForce kind with
    | none => .error (1, 1)
    | some b => .ok (cut b, s)
  else
    let b : Fin 2 := if sel = 1 then 0 else 1
    let bs := cut b
    let want := min n (32 + (bankSize kind - 32 - off))
    let (v, s1) := s.fresh (8 * (want - bs.length))
    .ok (bs ++ leBytes (want - bs.length) v.toNat, s1)

/-- READ_RECORD (R639). -/
def execReadRecord (ring : BitVec 16) (s : State) : Out :=
  .next (s.onOp ring 0x51 (fun t s =>
    match s.readRecord t.desc.w[0].toNat t.desc.w[1].toNat t.desc.length with
    | .error (st, det) => s.finish t st det 0
    | .ok (bs, s1) => (s1.emit (.hostWrite t.desc.addr bs)).finish t 0 0 (w32 bs.length)))

/-- The response to an identity challenge (R661). -/
def State.identityResponse (s : State) (challenge : List Byte) : List Byte :=
  let head := leBytes 4 0x50534449 ++ leBytes 8 Config.deviceId.toNat ++ leBytes 2 s.partCode ++ leBytes 1 s.lifecycle ++
    leBytes 1 (b2n s.store.ident.bound) ++ leBytes 4 (s.fwVersion s.runningSlot) ++ fitBytes 32 challenge ++ leBytes 8 s.now ++ leBytes 4 0
  fitBytes 1024 (head ++ fitBytes 64 (Config.deviceSign head) ++ leBytes 2 Config.deviceCert.length ++ leBytes 2 0 ++ fitBytes 512 Config.deviceCert)

/-- IDENTITY_CHALLENGE (R661). -/
def execIdentityChallenge (ring : BitVec 16) (s : State) : Out :=
  .next (s.onOp ring 0x70 (fun t s =>
    if t.desc.length ≠ 1024 then s.finish t 2 4 0
    else (s.emit (.hostWrite t.desc.addr (s.identityResponse ((t.desc.w.toList.take 8).flatMap (fun w => leBytes 4 w.toNat))))).finish t 0 0 0))

/-! ## The end of a write -/

/-- A response of the service port: STATUS, DETAIL, RESULT, data (R662, R663). -/
def State.svcRespond (s : State) (x : SvcSession) (seq status detail result : Nat) (data : List Byte) : State :=
  let body := leBytes 1 status ++ leBytes 1 detail ++ leBytes 4 result ++ data
  let head := [1, 0x11] ++ leBytes 2 x.number ++ leBytes 4 seq ++ leBytes 2 body.length ++ [0, 0]
  let frame := head ++ body ++ leBytes 4 (crc32c (head ++ body))
  (s.modStore (fun st => { st with svc := { st.svc with
    session := some { x with lastResponse := frame }
    waiting := none } })).svcOut frame

/-- The answer to a REQUEST that has waited for its write. -/
def State.svcAnswer (s : State) (status detail result : Nat) : State :=
  match s.store.svc.session, s.store.svc.waiting with
  | some x, some seq => s.svcRespond x seq status detail result []
  | _, _ => s.modStore (fun st => { st with svc := { st.svc with waiting := none } })

/-- Completes the request behind a write. -/
def State.answerBy (s : State) (by_ : WriteBy) (status detail result : Nat) : State :=
  match by_ with
  | .ring r i => s.complete r i status detail (w32 result)
  | .service => s.svcAnswer status detail result
  | .device => s

/-- The BOOT section changes (R664). -/
def State.modBoot (s : State) (f : BootRec → BootRec) : State :=
  s.modStore (fun x => { x with life := { x.life with boot := f x.life.boot } })

/-- A firmware slot has been written: its Tahr section stands in the flash slot of the same number, and it goes on trial (R664, R666). -/
def State.fwWritten (s : State) (b : Fin 2) : State :=
  let s0 := s.modStore (fun x => { x with tahrFlash := vUpd x.tahrFlash b (fun _ => tahrSection (s.bank 7 b).content) })
  let s1 := s0.modBoot (fun r => { r with
    trial := b.val
    trialBoots := 0
    trialFirstS := 0 })
  ((s1.modTahr (fun t => { t with updating := false })).writeKind 3).raise 0xA202 1 6 [w32 b.val, w32 (s.fwVersion b), w32 (s.fwArb b)]

/-- A write ends without effect: its request completes with an error (R29, R665); a firmware write releases its hold. -/
def State.failWrite (s : State) (w : BankWrite) : State :=
  let s1 := s.abortWrite
  let s2 := if w.kind = 7 then s1.modTahr (fun t => { t with updating := false }) else s1
  match (if w.kind = 6 then s2.store.safetyDone else none) with
  | some (b, _) => (s2.modStore (fun x => { x with safetyDone := none })).answerBy b 1 1 0
  | none => s2.answerBy w.by_ 1 1 0

/-- BANK_WRITE_DONE (R642, R665, R666, R504): the running write reaches step 5, and the next one starts; one whose link has failed ends with an error (R29), and a firmware write that meets reason 1 to 4 first is aborted. -/
def execBankWriteDone (s : State) : Out :=
  match s.store.write with
  | none => .next s.nextWrite
  | some w =>
    let held := if w.kind = 7 then s.updateHeld else none
    if s.writeCut w then .next (s.failWrite w).nextWrite
    else match held with
    | some r =>
      let s1 := (s.abortWrite.modTahr (fun t => { t with updating := false })).raise 0xA201 1 6 [w32 r]
      .next ((s1.answerBy w.by_ 1 1 0).nextWrite)
    | none =>
      let seq := s.nextSeq w.kind
      let s1 := s.abortWrite.putBank w
      let s2 := if w.kind = 7 then s1.fwWritten w.bank else s1
      let s3 := if w.kind = 6 then
          match s.store.safetyDone with
          | some (b, c) => (s2.modStore (fun x => { x with safetyDone := none })).answerBy b c.status c.detail c.result.toNat
          | none => s2
        else s2.answerBy w.by_ 0 0 seq
      .next s3.nextWrite

/-! ## The device's own records -/

/-- The events that wait in the log buffer enter the log (R651). -/
def State.flushLog (s : State) : State :=
  let ev := s.store.evlog
  if ev.buffer.isEmpty then s
  else
    let r := ev.buffer.foldl (fun (r : Nat × Kv (List Byte)) (x : Event × Nat) =>
      ((r.1 + 1) % 2 ^ 32, kvPut r.2 (r.1 % 8190) (eventRecord x.1 x.2 false))) (ev.count, ev.entries)
    (s.modStore (fun x => { x with evlog := { x.evlog with
      count := r.1
      entries := r.2
      buffer := []
      since := none } })).writeKind 5

/-- EVENT_LOG_FLUSH (R651). -/
def execEventLogFlush (s : State) : Out := .next (if s.pwr.rung ≤ 3 ∧ s.storeUp = true then s.flushLog else s)

/-- One ageing record (R237), with the seconds the die has been above 125 °C. -/
def State.ageEntry (s : State) (d : CtrlId) (hot : Word) : State :=
  let p := s.plan[d.ix]
  let e := fitBytes 32 (leBytes 4 s.poweredS ++ leBytes 4 p.lossShown ++ leBytes 2 p.vddMv ++ leBytes 2 d.code ++ leBytes 4 hot.toNat ++
    leBytes 4 (p.hiTicks s.now / sTicks))
  (s.modStore (fun x => { x with life := { x.life with
    ageing := kvPut x.life.ageing (x.life.ageCount % 4096) e
    ageCount := (x.life.ageCount + 1) % 2 ^ 32 } })).modPlan d (fun p => { p with
      poweredS := s.poweredS
      hotS := hot.toNat })

/-- An ageing record of each control die goes to STORE, over its own links (R28, R29, R237). -/
def State.ageRecordsWith (s : State) (due : CtrlId → Bool) (hotA hotB : Word) : State :=
  let entry := fun (s : State) (d : CtrlId) (hot : Word) =>
    if due d ∧ s.linkUp d.die .store ∧ s.linkUp .store d.die then s.ageEntry d hot else s
  (entry (entry s .a hotA) .b hotB).writeKind 3

/-- HOT_S of a die as no command says it: what the last record showed and at most the seconds powered since (a free value within that bound, assumption 16). -/
def State.hotSince (s : State) (d : CtrlId) (free : Word) : Word :=
  let p := s.plan[d.ix]
  w32 (p.hotS + free.toNat % (s.poweredS - p.poweredS + 1))

/-- The ageing records of a descent or a shutdown (R237). -/
def State.ageRecords (s : State) : State :=
  let (a, s1) := s.fresh 32
  let (b, s2) := s1.fresh 32
  s2.ageRecordsWith (fun _ => true) (s.hotSince .a a) (s.hotSince .b b)

/-- 8 powered hours have passed since a die's last ageing record (R237). -/
def State.ageRecordDue (s : State) (d : CtrlId) : Bool := decide ((s.plan[d.ix]).poweredS + 28800 ≤ s.poweredS)

/-- AGEING_RECORD (R237): every 8 powered hours of each die; the seconds each has been above 125 °C are the planner's reading. -/
def execAgeingRecord (hotA hotB : BitVec 32) (s : State) : Out :=
  if (s.ageRecordDue .a ∨ s.ageRecordDue .b) ∧ s.pwr.rung ≤ 1 then
    .next (s.ageRecordsWith s.ageRecordDue hotA hotB)
  else .next s

/-! ## Registers -/

/-- STORE_STATUS; EMPTY says which kinds are empty now. -/
def State.storeStatus (s : State) : Word :=
  packFields [(31, b2n s.store.write.isSome), (28, s.store.write.elim 0 (fun w => w.kind)), (8, ((List.range 7).map (fun i => if (s.inForce (i + 1)).isSome then 0 else 2 ^ (i + 1))).sum)]
/-- STORE_KIND_k. -/
def State.storeKind (s : State) (k : Nat) : Word :=
  packFields [(30, (s.inForce k).elim 3 (fun b => b.val)), (28, b2n ((s.bank k 0).valid k) + 2 * b2n ((s.bank k 1).valid k))]
/-- STORE_SEQ_k. -/
def State.storeSeq (s : State) (k : Nat) : Word := (s.inForce k).elim 0 (fun b => w32 (s.bank k b).seq)
/-- FW_STATUS. -/
def State.fwStatus (s : State) : Word :=
  let b := s.store.life.boot
  packFields [(30, s.store.running % 4), (28, b.active % 4), (26, if b.trial = 0xFF then 3 else b.trial % 4), (24, b.trialBoots % 4),
    (23, b2n s.store.recovery), (8, s.store.arbFuses), (0, min 255 b.fallbacks)]

end Sys2Proof.Machine
end

