-- ==== Sys2Proof/Machine/FixedEntries.lean ====
section
/-! DEFINITION. The fixed directory entries (03_signal_board.md, R93, R96 to R98; 22_setup_registers.md, R696 step 3): those that stand from the cold start on, and those of the objects that SETUP_LOCK enables. Where the spec leaves the HOST_R and TRACE flags open they are set, and the one entry of a group of several types has TYPE 0 (assumption 46). -/

namespace Sys2Proof.Machine

/-- A fixed entry with HOST_R and TRACE set. -/
def fixedEntry (owner base len type : Nat) (group : Bool) : DirEntry :=
  { base := base, len := len, hostR := true, trace := true, act := false, group := group, type := type, owner := owner, pending := false,
    sharers := [], firmware := true }

/-- The device-wide entries: re-sends of the links (R27), flags of the slots (05_engine_arithmetic.md). -/
def deviceEntries : List DirEntry :=
  fixedEntry 0x0001 0x100 27 3 false :: (List.range 128).map (fun c => fixedEntry 0x0001 (0x300 + 2 * c) 2 5 true)

/-- The entries of a SENSE die's block (R283, R318). -/
def senseEntries (d : Fin 2) : List DirEntry :=
  let o := 3 + d.val
  let b := 0x10000 + d.val * 0x1000
  [fixedEntry o b 24 4 false, fixedEntry o (b + 0x20) 24 4 false]
    ++ (List.range 6).flatMap (fun c => [fixedEntry o (b + 0x100 + 0x20 * c) 24 4 false, fixedEntry o (b + 0x118 + 0x20 * c) 3 3 false,
      fixedEntry o (b + 0x200 + 0x20 * c) 24 4 false])
    ++ [fixedEntry o (b + 0x300) 16 0 false, fixedEntry o (b + 0x310) 3 4 false, fixedEntry o (b + 0x314) 5 0 false,
        fixedEntry o (b + 0x320) 2 5 false]
    ++ (List.range 4).flatMap (fun k => [fixedEntry o (b + 0x400 + 0x20 * k) 5 0 true, fixedEntry o (b + 0x405 + 0x20 * k) 1 0 false,
      fixedEntry o (b + 0x406 + 0x20 * k) 3 3 false])

/-- The fixed entries of a channel's region: its timing (02), supervision (06), measurement (R271), position (R308), modulation (R366, R370), protection (R441) and position groups (R397). -/
def channelEntries (c : Channel) : List DirEntry :=
  let b := 0x1000 + c.val * 0x1000
  let o := if c.val < 4 then 3 else 4
  [fixedEntry 0x0005 (b + 0x10) 1 3 false, fixedEntry 0x0005 (b + 0x12) 3 3 false, fixedEntry 0x0005 (b + 0x15) 1 4 false,
   fixedEntry 0x0005 (b + 0x16) 1 5 false, fixedEntry 0x0001 (b + 0x17) 3 3 false, fixedEntry 0x0005 (b + 0x1A) 1 0 false,
   fixedEntry 0x0001 (b + 0x1B) 1 5 false, fixedEntry 0x0005 (b + 0x1C) 1 5 false, fixedEntry o (b + 0x20) 8 0 true,
   fixedEntry o (b + 0x28) 4 0 true, fixedEntry o (b + 0x32) 2 4 true, fixedEntry o (b + 0x40) 5 0 true, fixedEntry 0x0005 (b + 0xA0) 6 0 true,
   fixedEntry 0x0005 (b + 0xB0) 5 0 true]
    ++ (List.range 6).map (fun p => fixedEntry 0x0005 (b + 0x300 + 0x10 * p) 5 0 true)

/-- The safety mirror (R498). -/
def mirrorEntries (cs : List Channel) : List DirEntry :=
  [fixedEntry 0x0002 0x14000 1 5 false, fixedEntry 0x0002 0x14001 1 3 false, fixedEntry 0x0002 0x14002 2 5 false,
   fixedEntry 0x0002 0x14010 16 3 false, fixedEntry 0x0002 0x14020 16 3 false]
    ++ cs.map (fun c => fixedEntry 0x0002 (0x14100 + 0x10 * c.val) 6 0 true)

/-- The status groups of the CAN controllers (R579, R592). -/
def canStatusEntries : List DirEntry := (List.range 4).map (fun k => fixedEntry (0x10 + k) (0x18000 + 32 * (508 + k)) 5 3 true)

/-- The write pointers of the sample buffers, each written by the SENSE die that SMP_CTRL_b.DIE names (R280, R283). -/
def State.pointerEntries (s : State) : List DirEntry :=
  (idxs 64).map (fun b => fixedEntry (if bitAt (s.reg (Reg.smpCtrl b.val)) 30 then 4 else 3) (0x12000 + b.val) 1 3 true)

/-- SETUP_LOCK fixes which die writes each pointer. -/
def State.namePointers (s : State) : State :=
  let put := fun (d : CtrlDie) => { d with dir := d.dir.map (fun e => (s.pointerEntries.find? (fun p => p.base == e.base)).getD e) }
  (s.modCtrl .a put).modCtrl .b put

/-- The entries that stand from the cold start on. -/
def State.coldEntries (s : State) : List DirEntry :=
  let cs := (idxs 8).filter (fun c => s.hasChannel c)
  deviceEntries ++ ((idxs 2).filter (fun d => s.hasDie (senseDie d))).flatMap senseEntries ++ cs.flatMap channelEntries ++ mirrorEntries cs
    ++ canStatusEntries ++ s.pointerEntries

/-- Adds entries to both directories. -/
def State.addFixed (s : State) (es : List DirEntry) : State :=
  let add := fun (d : CtrlDie) => { d with dir := d.dir ++ es }
  (s.modCtrl .a add).modCtrl .b add

/-- The groups of the fitted dies of the channels with gate arrays, LINK's and the host's (R397). -/
def State.dieEntries (s : State) : List DirEntry :=
  ((idxs 48).filter (fun t => s.ch[portChannel t].enabled && s.gaOn (portChannel t))).flatMap (fun t =>
    (List.range (s.diesOf (portChannel t))).flatMap (fun d =>
      [fixedEntry 0x0005 (dieBase t d) 8 0 true, fixedEntry 0x0005 (dieBase t d + 8) 1 3 false, fixedEntry 0x0200 (dieBase t d + 0x10) 3 4 true]))

/-- Adds the entries of the enabled objects to both directories. One that would share a signal with an entry a program has brought in meanwhile is not added, since a signal is covered by at most one entry (R94); which of the two stands no rule says, nor which entries are left out where images have filled the directory to its 16,384 entries (R93) meanwhile: the last ones here (DESIGN CHOICE, assumption 77). -/
def State.addLate (s : State) (es : List DirEntry) : State :=
  let add := fun (d : CtrlDie) => { d with dir := d.dir ++ (es.filter (fun e => !d.dir.any (fun f => f.overlaps e))).take (16384 - d.dir.length) }
  (s.modCtrl .a add).modCtrl .b add

/-- The entries of the enabled objects (R397, R515, R580, R696). -/
def State.lockEntries (s : State) : List DirEntry := s.dieEntries ++ s.slotEntries ++ s.canEntries

end Sys2Proof.Machine
end

