-- ==== Sys2Proof/Machine/Boot.lean ====
section
/-! DEFINITION. Cold starts (18_power_ladder.md, R599, R619 to R621; 20_store_update_identity.md, R643, R646 to R651, R660, R667, R668, R670): what survives one, the records read again from STORE, the boot loader, and the start of Tahr. -/

namespace Sys2Proof.Machine

/-! ## Records as STORE holds them -/

/-- Content of the bank in force of a kind. -/
def State.inForceContent (s : State) (k : Nat) : Option (List Byte) := (s.inForce k).map (fun b => (s.bank k b).content)

/-- Consecutive fields of a byte string. -/
def fieldsLe (bs : List Byte) (o size n : Nat) : List Nat := (List.range n).map (fun i => fieldLe bs (o + size * i) size)

/-- Entries of a ring of records: places that read all zero hold none. -/
def slotsOf (bs : List Byte) (o size n : Nat) : Kv (List Byte) :=
  (List.range n).filterMap (fun i =>
    let e := (bs.drop (o + size * i)).take size
    if e.all (· == 0) then none else some (i, e))

/-- The record of kind 3 (R409, R649, R664). -/
def lifeOf (bs : List Byte) : LifeRec :=
  { poweredS := fieldLe bs 0 4
    coldStarts := fieldLe bs 4 4
    boot :=
      { active := fieldLe bs 0x40 1
        trial := fieldLe bs 0x41 1
        trialBoots := fieldLe bs 0x42 1
        lastRejected := fieldLe bs 0x43 1
        trialFirstS := fieldLe bs 0x44 4
        fallbacks := fieldLe bs 0x48 4 }
    shedTime := fieldLe bs 0x80 8
    shedValid := fieldLe bs 0x88 4 == 1
    retire :=
      { masks := Vector.ofFn (fun t => BitVec.ofNat 16 (fieldLe bs (0x100 + 2 * t.val) 2))
        count := fieldLe bs 0x160 4
        log := slotsOf bs 0x164 16 64 }
    repair := (fieldsLe bs 0x808 8 (min 4095 (fieldLe bs 0x800 4))).map (fun v => BitVec.ofNat 64 v)
    ageCount := fieldLe bs 0x8800 4
    ageing := slotsOf bs 0x8808 32 4096 }

/-- The record of kind 4 (R650). -/
def identOf (bs : List Byte) : IdentityRec :=
  { phase := fieldLe bs 8 1
    bound := fieldLe bs 9 1 == 1
    ownerLock := fieldLe bs 10 1 == 1
    bindCount := fieldLe bs 12 4
    ownerHash := (bs.drop 16).take 32
    satIds := Vector.ofFn (fun t => BitVec.ofNat 64 (fieldLe bs (48 + 8 * t.val) 8)) }

/-- The record of kind 5 (R651). -/
def evlogOf (bs : List Byte) : EventLog :=
  { count := fieldLe bs 0 4, dropped := fieldLe bs 4 4, entries := slotsOf bs 32 32 8190 }

/-- The device reads its records again (R646, R649 to R651); a kind that is empty gives the record of a part that has written none. -/
def State.loadRecords (s : State) : State :=
  s.modStore (fun x => { x with
    life := (s.inForceContent 3).elim {} lifeOf
    ident := (s.inForceContent 4).elim {} identOf
    evlog := (s.inForceContent 5).elim {} evlogOf })

/-- The safety configuration record comes from the bank in force over DL_23 and DL_24 (R28, R29, R503); an empty kind holds no confirmed configuration (R646). -/
def State.loadSafety (s : State) : State :=
  match if s.linkUp .safe .store && s.linkUp .store .safe then (s.inForce 6).bind (fun b => s.store.safety[b]) else none with
  | none => s
  | some r => s.modTahr (fun t => { t with
      image := r.image
      pendingImage := r.pendingImage
      serial := r.serial
      password := r.password
      log := r.log
      logCount := r.logCount })

/-! ## The groups of rails (R595, R596) -/

/-- Drives the enable ball of a group. -/
def State.enableGroup (s : State) (group : Nat) (high : Bool) : State :=
  let p := s.pwr
  if (if group = 1 then p.enAon else if group = 2 then p.enMain else p.enCore) = high then s
  else ({ s with pwr :=
    if group = 1 then { p with enAon := high }
    else if group = 2 then { p with enMain := high }
    else { p with enCore := high } } : State).emit (.enable group high)

/-- Lowers the groups above one, in the order 3, 2, 1 (R596). -/
def State.lowerGroups (s : State) (keep : Nat) : State :=
  ([3, 2, 1].filter (fun g => decide (keep < g))).foldl (fun s g => s.enableGroup g false) s

/-- A rail bit of PWR_RAILS is set for each of these rails (R599, in the order of its table from 1). -/
def railsUp (rails : BitVec 9) (rs : List Nat) : Bool := rs.all (fun r => rails.getLsbD r)

/-- The rails of group 2 (R595). -/
def State.group2 (s : State) : List Nat := [3, 4, 5] ++ if s.hasDie .aux then [6] else []

/-- The rails as measured: EN_CORE_A and EN_CORE_B rise once every rail of group 2 lies within ±5 % (R596); on a climb from YARD the planner then writes 680 mV (R607, R615). -/
def State.noteRails (s : State) (rails : BitVec 9) : State :=
  let s1 : State := { s with pwr := { s.pwr with rails := rails } }
  if s1.pwr.enMain && !s1.pwr.enCore && railsUp rails s1.group2 then
    let s2 := s1.enableGroup 3 true
    if s2.pwr.climb.isSome && s2.pwr.rung == 4 then (s2.avsWrite .a 680).avsWrite .b 680 else s2
  else s1

/-! ## The beginning of a cold start (R619) -/

/-- A gate satellite while LINK is down: 40 µs without a message, and it is in link loss (R395); its latches, marks of retirement and trims go: LINK begins with copies of zero, and a retirement the record does not hold is not kept, and its die is in service again (R408; DEDUCED, assumption 106). -/
def Satellite.orphan (x : Satellite) : Satellite :=
  { x.enterLoss false with
    retired := 0
    latched := 0
    causes := Vector.replicate 16 0
    trims := Vector.replicate 2 (Vector.replicate 16 0)
    tset := 0
    skew := 0
    slew := 0
    slewAt := 0
    time := 0
    lastDown := 0
    t2 := 0
    lastMark := none
    repeat_ := [] }

/-- STORE through a cold start: banks and fuses stay, a running write is cut off (R643). -/
def Store.kept (x : Store) : Store := { banks := x.banks, safety := x.safety, arbFuses := x.arbFuses, tahrFlash := x.tahrFlash, lc0 := x.lc0, lc1 := x.lc1 }

/-- A cold start begins (R596, R619): every register, memory and unit is as after reset but for what is not volatile; groups 3 and 2 go low, and EN_MAIN rises once reset is released. -/
def State.coldBegin (s : State) (cause rail : Nat) : State :=
  let r := State.reset
  let s1 : State := { r with
    pending := s.pending
    part := s.part
    freeCtr := s.freeCtr
    outs := (s.lowerGroups 1).outs
    sats := s.sats.map Satellite.orphan
    tb := { r.tb with refSel := s.tb.refSel }
    store := s.store.kept
    tahr := { r.tahr with
      pwFails := s.tahr.pwFails
      lockout := s.tahr.lockout.map (fun t => t - s.now) }
    pwr := { r.pwr with
      coldCause := cause
      coldRail := rail
      io18 := s.pwr.io18
      rails := s.pwr.rails
      enMain := false
      resetLow := s.pwr.resetLow
      powerOn := s.pwr.powerOn }
    st := { r.st with fused := s.st.fused } }
  ((if s.pwr.resetLow then s1 else s1.enableGroup 2 true).loadRecords).settle

/-- POWER_ON (R619): VDD_LINK rises through its threshold; the part waits for RESET_N. -/
def execPowerOn (s : State) : Out :=
  .next ((({ s with pwr := { s.pwr with resetLow := true, powerOn := true } } : State).enableGroup 1 true).coldBegin 1 0)

/-- RESET_N_LOW (R596, R619): EN_CORE_A, EN_CORE_B and EN_MAIN go low, and the holding stages assert every STO and AUX_OFF level. -/
def execResetNLow (s : State) : Out := .next (({ s with pwr := { s.pwr with resetLow := true } } : State).lowerGroups 1).settle

/-- RESET_N (R43, R597, R619): RESET_N rises after having been low; from 10 µs on a cold start begins, with REF_SEL and VDD_IO as they read now. -/
def execResetN (lowTicks : Nat) (refSel : Bool) (ioMillivolts : Nat) (s : State) : Out :=
  if ¬ s.pwr.resetLow then .next s
  else if lowTicks < 4000 then .next ((({ s with pwr := { s.pwr with resetLow := false } } : State).enableGroup 2 true).noteRails s.pwr.rails).settle
  else
    let cause := if s.pwr.powerOn then 1 else 2
    .next (({ s with
      tb := { s.tb with refSel := refSel }
      pwr := { s.pwr with resetLow := false, powerOn := false, io18 := decide (ioMillivolts < 2500) } } : State).coldBegin cause 0)

/-- Limits of a rail in mV (R599), in the order of its table. -/
def State.railLimits (s : State) (rail : Fin 8) : Nat × Nat :=
  match rail.val with
  | 0 => (900, 1100)
  | 1 => if s.pwr.io18 then (1620, 1980) else (2970, 3630)
  | 2 => (990, 1210)
  | 3 => (1080, 1320)
  | 4 => (2970, 3630)
  | 5 => (4500, 5500)
  | 6 => ((s.plan[(0 : Fin 2)]).vddMv - 60, (s.plan[(0 : Fin 2)]).vddMv + 60)
  | _ => ((s.plan[(1 : Fin 2)]).vddMv - 60, (s.plan[(1 : Fin 2)]).vddMv + 60)

/-- Does the rung need the rail (R599, R601)? Group 1 down to YARD, the others down to BED; VDD_AUX where AUX is. -/
def State.railNeeded (s : State) (rail : Fin 8) : Bool :=
  decide (s.pwr.rung ≤ if rail.val ≤ 1 then 4 else 3) && (rail.val != 5 || s.hasDie .aux)

/-- RAIL_FAULT (R599): a rail has stayed at this value, beyond a limit, for 10 µs. -/
def execRailFault (rail : Fin 8) (millivolts : Nat) (s : State) : Out :=
  let (lo, hi) := s.railLimits rail
  if s.railNeeded rail ∧ ¬ s.pwr.resetLow ∧ (millivolts < lo ∨ hi < millivolts) then .next (s.coldBegin 3 (rail.val + 1)) else .next s

/-! ## The boot loader (R667, R668) -/

/-- The trial ends (R667). -/
def State.endTrial (s : State) (why : Nat) : State :=
  let b := s.store.life.boot
  ((s.modBoot (fun r => { r with
    lastRejected := r.trial
    trial := 0xFF
    fallbacks := (r.fallbacks + 1) % 2 ^ 32 })).writeKind 3).raise 0xA204 1 12 [w32 b.trial, w32 (s.fwVersion (finOf 1 b.trial)), w32 why]

/-- Boots the ACTIVE slot, or the other one, or recovery. -/
def State.bootActive (s : State) : State :=
  let a := finOf 1 s.store.life.boot.active
  if s.slotGood a then s.modStore (fun x => { x with running := a.val })
  else if s.slotGood (1 - a) then
    (((s.modBoot (fun r => { r with active := (1 - a).val })).writeKind 3).modStore (fun x => { x with running := (1 - a).val })).raise 0xA205 1 14
      [w32 a.val, 1]
  else (s.modStore (fun x => { x with running := a.val, recovery := true })).raise 0xA205 1 14 [w32 a.val, 0]

/-- The boot loader chooses and boots a slot (R667). -/
def State.boot (s : State) : State :=
  let b := s.store.life.boot
  if b.trial = 0xFF then s.bootActive
  else if b.trialBoots = 3 then (s.endTrial 1).bootActive
  else if b.trialFirstS ≠ 0 ∧ b.trialFirstS + 600 ≤ s.poweredS then (s.endTrial 2).bootActive
  else
    let s1 := (s.modBoot (fun r => { r with
      trialBoots := r.trialBoots + 1
      trialFirstS := if r.trialFirstS = 0 then s.poweredS else r.trialFirstS })).writeKind 3
    let t := finOf 1 b.trial
    if s1.slotGood t then s1.modStore (fun x => { x with running := t.val })
    else (s1.endTrial 3).bootActive

/-! ## Steps 7 and 8 of a cold start (R621) -/

/-- An empty kind found at the cold start raises STORE_EMPTY (R646). -/
def State.findEmpty (s : State) : State :=
  (List.range 7).foldl (fun s i =>
    let k := i + 1
    if (s.inForce k).isSome then s
    else (s.modStore (fun x => { x with empty := x.empty ||| BitVec.ofNat 8 (2 ^ k) })).raise 0xA101 8 10 [w32 k]) s

/-- The ladder image no longer counts (R609, R647). -/
def State.dropLadderImage (s : State) : State :=
  let clear := fun (x : Bank) => { x with header := List.replicate 4 0 ++ x.header.drop 4 }
  (s.modBank 2 0 clear).modBank 2 1 clear

/-- The correction registers of a SENSE die, from the calibration record (R269, R322, R648). -/
def State.loadCorr (s : State) (c : List Byte) (d : Nat) : State :=
  let s1 := (List.range 24).foldl (fun s i => s.setReg (Reg.sdmCorr d i) (wordLe c (0x10 + 4 * (24 * d + i)))) s
  let s2 := (List.range 192).foldl (fun s i => s.setReg (Reg.adcCorr d (i / 32) (i % 32)) (wordLe c (0x100 + 4 * (192 * d + i)))) s1
  (List.range 4).foldl (fun s k =>
    (s.setReg (Reg.resCorrSin d k) (wordLe c (0x700 + 4 * (8 * d + 2 * k)))).setReg (Reg.resCorrCos d k) (wordLe c (0x704 + 4 * (8 * d + 2 * k)))) s2

/-- The firmware loads calibration and retirements (R269, R322, R408). -/
def State.loadTables (s : State) : State :=
  let s1 := match s.inForceContent 1 with
    | none => s
    | some c =>
      let s1 := ({ s with calibration := c } : State).loadCorr c 0
      if s.hasDie .sense1 then s1.loadCorr c 1 else s1
  { s1 with gates := Vector.ofFn (fun t => { s1.gates[t] with retired := s.store.life.retire.masks[t] }) }

/-- Tahr starts (R480, R481, R610, R621, R660): it loads the confirmed configuration, every function STOPPED, with its own copy of the calibration (R34), and the comparator test is due. `ok`: the test of its own SRAM and flash has passed (R628). -/
def State.startTahr (s : State) (ok : Bool) : State :=
  let s1 := (s.loadSafety).modTahr (fun t => { t with
    running := ok
    unbound := !s.store.ident.bound
    retired := s.store.lc1
    cal := if s.linkUp .safe .store && s.linkUp .store .safe then (s.inForceContent 1).getD [] else [] })
  let s2 := s1.modChamois (fun x => { x with
    params := none
    lastStatus := s.now })
  let s3 : State := { s2 with pwr := { s2.pwr with testPending := true } }
  let s4 := (if ok ∧ s3.tahr.image.isSome then s3.startConfig else s3)
  (s4.modTahr (fun t => { t with ch := Vector.ofFn (fun c => { t.ch[c] with asked := s4.ss1Asks c }) })).settle

/-- Powered seconds of the last ageing record (R237). -/
def State.lastAge (s : State) : Nat :=
  let r := s.store.life
  if r.ageCount = 0 then 0 else fieldLe (kvGet [] r.ageing ((r.ageCount + 4095) % 4096)) 0 4

/-- The last ageing record of a control die (R237); a record of zeros where there is none. -/
def State.lastAgeOf (s : State) (d : CtrlId) : List Byte :=
  let r := s.store.life
  let at_ := fun (back : Nat) => kvGet [] r.ageing ((r.ageCount + 4096 - back) % 4096)
  (([1, 2].filter (fun b => decide (b ≤ r.ageCount))).map at_).find? (fun e => fieldLe e 10 2 == d.code) |>.getD []

/-- The seconds that the ageing records count go on from the last record through a cold start (R237). -/
def State.resumeAge (s : State) (d : CtrlId) : State :=
  let e := s.lastAgeOf d
  s.modPlan d (fun p => { p with
    poweredS := s.lastAge
    hotS := fieldLe e 12 4
    vddHi := fieldLe e 16 4 * sTicks
    vddAt := s.now })

/-- COLD_START (R621): steps 7 and 8, once the time base runs and the start-up self-test has ended. `vsup`: VSUP_SENSE in mV (R665); `tahrOk`: Tahr's own start-up tests (R625, R628). -/
def execColdStart (vsup : Nat) (tahrOk : Bool) (s : State) : Out :=
  if s.pwr.started ∨ s.pwr.resetLow ∨ ¬ s.tb.running ∨ ¬ s.st.startDone then .next s
  else
    let s1 := ((((s.noteRails 0x1FE).addFixed s.coldEntries).avsWrite .a 800).avsWrite .b 800).findEmpty.dropLadderImage
    let s2 := s1.modStore (fun x => { x with
      life := { x.life with coldStarts := (x.life.coldStarts + 1) % 2 ^ 32 }
      vsupHigh := decide (18000 < vsup) })
    let s3 := ((((s2.writeKind 3).boot.loadTables).renewNonce).resumeAge .a).resumeAge .b
    let s4 : State := { s3 with
      pwr := { s3.pwr with started := true }
      st := { s3.st with passDue := s3.st.startPassed } }
    let s5 := s4.startTahr tahrOk
    let s6 := if s5.store.ident.bound then s5 else s5.raise 0xA304 3 10 [0]
    .next (s6.raise 0xA005 6 3 [w32 s.pwr.coldCause, w32 s.pwr.coldRail])

/-- TRIAL_TIMER (R670): 600 s of an unconfirmed trial; the cold start comes as soon as every channel is in STO. -/
def execTrialTimer (s : State) : Out :=
  let b := s.store.life.boot
  if b.trial ≠ 0xFF ∧ b.trialFirstS ≠ 0 ∧ b.trialFirstS + 600 ≤ s.poweredS ∧ ¬ s.store.confirmed then
    if s.allSto 0xFF then .next (s.coldBegin 7 0) else .next s
  else .next s

end Sys2Proof.Machine
end

