-- ==== Sys2Proof/Machine/SelfTest.lean ====
section
/-! DEFINITION. Self-test and repair (19_self_test.md, R623 to R637), and the end of the comparator test (13_lockstep.md, R462, R463) with what a trial image makes of it (R669). -/

namespace Sys2Proof.Machine

/-- Updates self-test and repair. -/
def State.modTest (s : State) (f : SelfTest → SelfTest) : State := { s with st := f s.st }

/-! ## The repair map (R634, R649) -/

/-- DIE of a repair entry. -/
def repDie (e : Dword) : Nat := e.toNat / 2 ^ 60
/-- UNIT. -/
def repUnit (e : Dword) : Nat := e.toNat / 2 ^ 56 % 16
/-- TYPE: 0 spare row, 1 spare bit line, 2 region retired. -/
def repType (e : Dword) : Nat := e.toNat / 2 ^ 54 % 4
/-- SPARE. -/
def repSpare (e : Dword) : Nat := e.toNat / 2 ^ 52 % 4
/-- ARRAY. -/
def repArray (e : Dword) : Nat := e.toNat / 2 ^ 24 % 2 ^ 16
/-- INDEX. -/
def repIndex (e : Dword) : Nat := e.toNat % 2 ^ 11
/-- A repair entry. -/
def repEntry (die unit type spare array index : Nat) : Dword :=
  BitVec.ofNat 64 (die * 2 ^ 60 + unit * 2 ^ 56 + type * 2 ^ 54 + spare * 2 ^ 52 + array * 2 ^ 24 + index)

/-- Changes the repair map. -/
def State.modRepair (s : State) (f : List Dword → List Dword) : State :=
  s.modStore (fun x => { x with life := { x.life with repair := f x.life.repair } })

/-- A new entry of the repair map, in effect at once; the control die writes it over its own link to STORE (R634), an entry of another die's memory over CTRL-A's. One that a failed link keeps from STORE is not recorded (R29). -/
def State.addRepair (s : State) (die : Nat) (e : Dword) : State :=
  let s1 := s.modRepair (fun m => m ++ [e])
  if s.linkUp (if die = 2 then .ctrlB else .ctrlA) .store then s1
  else s1.modStore (fun x => { x with life := { x.life with unsaved := x.life.unsaved ++ [e] } })

/-- Spares of a type in use in an array: fused, or in the map. -/
def State.spared (s : State) (die unit array type : Nat) : List Dword :=
  (s.st.fused ++ s.store.life.repair).filter (fun e => repDie e == die && repUnit e == unit && repArray e == array && repType e == type)

/-- A free spare of a type in an array, four in all (R633). -/
def State.freeSpare (s : State) (die unit array type : Nat) : Option Nat :=
  (List.range 4).find? (fun i => !(s.spared die unit array type).any (fun e => repSpare e == i))

/-- Regions of a memory that are retired (R636): memory 5 trace, 4 samples. -/
def State.retiredRegions (s : State) (unit : Nat) : List Nat :=
  (s.store.life.repair.filter (fun e => repType e == 2 && repUnit e == unit)).map repIndex |>.eraseDups

/-- Trace memory skips its retired regions (R636). -/
def State.sizeTrace (s : State) : State :=
  let n := 524288 - 4096 * (s.retiredRegions 5).length
  { s with
    trace := { s.trace with capacity := n }
    traceB := { s.traceB with capacity := n } }

/-- Words of a sample buffer that lie in a retired region (R636). -/
def State.regionRetired (s : State) (base len : Nat) : Bool :=
  (s.retiredRegions 4).any (fun r => decide (base < (r + 1) * 16384) && decide (r * 16384 < base + len))

/-! ## The allocator (R633, R636) -/

/-- A failing cell: die, unit, codeword, bit. -/
structure BadCell where
  die : Nat
  unit : Nat
  word : Nat
  bit : Nat
  deriving DecidableEq, Repr

/-- Array of the cell. -/
def BadCell.array (c : BadCell) : Nat := c.word / 8192
/-- Row in its array. -/
def BadCell.row (c : BadCell) : Nat := c.word % 8192 / 32
/-- Bit line in its array. -/
def BadCell.line (c : BadCell) : Nat := c.word % 32 * 39 + c.bit
/-- Do two cells lie in one array? -/
def BadCell.together (c d : BadCell) : Bool := c.die == d.die && c.unit == d.unit && c.array == d.array

/-- One failure with its outcome: 0 repaired, 1 region retired, 2 unrepaired; its kind, and the map entry that repairs it. -/
structure Failure where
  cell : BadCell
  kind : Nat
  outcome : Nat
  deriving DecidableEq, Repr

/-- Repairs one failing line or row with a spare, where one is free. -/
def State.useSpare (s : State) (c : BadCell) (type index : Nat) : State × Bool :=
  match s.freeSpare c.die c.unit c.array type with
  | some i =>
    if s.store.life.repair.length < 4095 then (s.addRepair c.die (repEntry c.die c.unit type i c.array index), true) else (s, false)
  | none => (s, false)

/-- Retires the region of a cell of trace or sample memory (R636). -/
def State.retireRegion (s : State) (c : BadCell) : State :=
  let r := c.word / 16384
  if (s.retiredRegions c.unit).contains r then s else s.addRepair c.die (repEntry c.die c.unit 2 0 0 r)

/-- What remains of a failure no spare repairs (R636, R637). -/
def State.unrepaired (s : State) (c : BadCell) (kind : Nat) : State × Failure :=
  if (c.die = 1 ∨ c.die = 2) ∧ (c.unit = 4 ∨ c.unit = 5) then (s.retireRegion c, ⟨c, kind, 1⟩) else (s, ⟨c, kind, 2⟩)

/-- Step 1 of R633 on a list of cells: bit lines that fail in more rows than there are free spare rows get a spare bit line. Answers the cells left for step 2. -/
def State.repairLines (s : State) (cells : List BadCell) : List BadCell → State × List Failure × List BadCell
  | [] => (s, [], cells)
  | c :: cs =>
    if cells.contains c then
      let mine := cells.filter (fun d => d.together c && d.line == c.line)
      let rows := (mine.map BadCell.row).eraseDups.length
      let free := 4 - (s.spared c.die c.unit c.array 0).length
      if free < rows then
        let rest := cells.filter (fun d => !mine.contains d)
        let kind := if 1 < rows then 1 else 0
        let (s1, ok) := s.useSpare c 1 c.line
        let (s2, f) := if ok then (s1, (⟨c, kind, 0⟩ : Failure)) else s1.unrepaired c kind
        let (s3, fs, left) := s2.repairLines rest cs
        (s3, f :: fs, left)
      else s.repairLines cells cs
    else s.repairLines cells cs

/-- Step 2 of R633: each remaining failing row gets a spare row. -/
def State.repairRows (s : State) : List BadCell → State × List Failure
  | [] => (s, [])
  | c :: cs =>
    let done := s.store.life.repair.any (fun e => repType e == 0 && repDie e == c.die && repUnit e == c.unit && repArray e == c.array && repIndex e == c.row)
    let (s1, ok) := if done then (s, true) else s.useSpare c 0 c.row
    let (s2, f) := if ok then (s1, (⟨c, 0, 0⟩ : Failure)) else s1.unrepaired c 0
    let (s3, fs) := s2.repairRows cs
    (s3, f :: fs)

/-- The failures named by `repeats` fail their retest: they are unrepaired (R633, R636). -/
def State.retest (s : State) (fs : List Failure) (repeats : List Nat) : State × List Failure :=
  (fs.zipIdx).foldl (fun p x =>
    if repeats.contains x.2 ∧ x.1.outcome = 0 then
      let (s1, f) := p.1.unrepaired x.1.cell x.1.kind
      (s1, p.2 ++ [f])
    else (p.1, p.2 ++ [x.1])) (s, [])

/-- A region in which every failure of the test was repaired with a spare comes back (R637). -/
def State.restoreRegions (s : State) (fs : List Failure) : State :=
  let touches := fun (e : Dword) (f : Failure) => f.cell.unit == repUnit e && decide (f.cell.die ≤ 2) && f.cell.word / 16384 == repIndex e
  s.modRepair (fun m => m.filter (fun e => !(repType e == 2 && fs.any (touches e) && fs.all (fun f => !touches e f || f.outcome == 0))))

/-! ## Results (R632) -/

/-- The result entry of a memory failure. -/
def Failure.entry (f : Failure) : Word × Word :=
  (packFields [(28, f.cell.die % 16), (24, f.cell.unit % 16), (22, f.kind), (0, f.cell.word % 2 ^ 22)], packFields [(26, f.cell.bit % 64), (24, f.outcome)])

/-- The result entry of a logic (KIND 2) or analogue (KIND 3) failure. -/
def plainEntry (kind die addr item : Nat) : Word × Word :=
  (packFields [(28, die % 16), (24, if kind = 2 then 15 else 14), (22, kind), (0, addr % 2 ^ 22)], packFields [(26, item % 64), (24, 3)])

/-- One result entry: stored, counted, raised. -/
def State.testEntry (s : State) (e : Word × Word) : State :=
  (s.modTest (fun t => { t with
    log := if t.log.length < 64 then t.log ++ [e] else t.log
    entries := holdInc 255 t.entries })).raise 0x0204 (bitsAt e.1 28 4) 6 [e.1, e.2]

/-! ## The ends of a test -/

/-- A trace unit disarmed and empty. -/
def TraceUnit.cleared (t : TraceUnit) : TraceUnit := { capacity := t.capacity }

/-- Trace is disarmed and empty on both control dies (R23, R607, R630). -/
def State.clearTrace (s : State) : State :=
  { s with
    trace := s.trace.cleared
    traceB := s.traceB.cleared }

/-- Sample memory is zero and every buffer restarts (R607, R630). -/
def State.restartBuffers (s : State) : State :=
  let s1 : State := { s with
    sampleMem := []
    sampleMemB := []
    smp := s.smp.map (fun b => { b with wptr := 0, fresh := true, wmRaised := false }) }
  (List.range 64).foldl (fun s b => s.setReg (Reg.smpRptr b) 0) s1

/-- Ring state as it is when powered again or tested: every context zero (R607, R631). -/
def State.clearRings (s : State) : State := { s with re := { s.re with rings := [] } }

/-- What the end of an extended test does to the part (R630). A cold start is answered apart. -/
def State.testEffects (s : State) : State :=
  let sel := s.st.sel
  let s1 := if sel.testBit 1 then s.ringsOff.clearRings else s
  let s2 := if sel.testBit 2 then s1.clearTrace else s1
  if sel.testBit 3 then s2.restartBuffers else s2

/-- The end of the extended test owes a cold start (R630, R631). -/
def State.testCold (s : State) : Bool := s.st.sel.testBit 0 || s.st.sel.testBit 4

/-- A test has failed or was aborted: SELFTEST_FAIL, and after the start-up test RUN_BLOCKED (R627, R628). -/
def State.testFails (s : State) (extended : Bool) (why : Nat) : State :=
  let s1 := s.raise 0x0202 1 14 [w32 (b2n extended), w32 s.st.entries, w32 why]
  if extended then s1
  else (s1.modTahr (fun t => { t with testFail := true, blocked := true })).raise 0x0205 3 15 [1]

/-- The extended test is over: Tahr's hold ends, and the part is as R630 says. -/
def State.endExtended (s : State) (cold : Bool) : State :=
  let s1 := (s.modTahr (fun t => { t with testing := false })).testEffects
  if cold ∧ s.testCold then s1.coldBegin 6 0 else s1

/-- An extended test runs. -/
def State.extendedRuns (s : State) : Bool := s.tahr.testing

/-- Every rail the part has lies within ±5 % (R6, R599, R623). -/
def State.railsReady (s : State) (rails : BitVec 9) : Bool := railsUp rails ([1, 2] ++ s.group2 ++ [7, 8])

/-- Do the preconditions of R623 hold? `tickOk`: the tick lies within ±200 ppm; `rails`: PWR_RAILS. -/
def State.testReady (s : State) (rails : BitVec 9) (tickOk : Bool) : Bool :=
  s.tb.locked && !s.tb.holdover && tickOk && s.railsReady rails

/-- Half of a free value as the words of one control die's sample memory. -/
def sampleWords {n : Nat} (v : BitVec n) (half : Nat) : List Word := (List.range 0x80000).map (fun i => v.extractLsb' (32 * (half * 0x80000 + i)) 32)

/-- Both sample memories hold these words from address 0 on. -/
def State.setSamples (s : State) (a b : List Word) : State := { s with sampleMem := kvSetMany 0 [] 0 a, sampleMemB := kvSetMany 0 [] 0 b }

/-- Sample memory after an aborted test of it: undefined data (R624), a free value. -/
def State.spoilSamples (s : State) : State :=
  if s.st.sel.testBit 3 then
    let (v, s1) := s.fresh (64 * 0x80000)
    s1.setSamples (sampleWords v 0) (sampleWords v 1)
  else s

/-- The running test is aborted (R624, R631). `cold`: an extended test of R630's bits 0 and 4 ends in its cold start now. -/
def State.abortTest (s : State) (cold : Bool) : State :=
  if s.extendedRuns then
    let s1 := ((s.modTest (fun t => { t with state := .aborted })).testFails true 2).endExtended cold
    if cold && s.testCold then s1 else s1.spoilSamples
  else s

/-- A host write to a kind of STORE, a firmware update or a SAFETY_CONFIG runs (R612, R630). -/
def State.storeTakes (s : State) : Bool := s.tahr.updating || s.safetyBusy || s.kindBusy 1 || s.kindBusy 7

/-- Every slot of AUX is in OFF or WIRE_OFF (R630). -/
def State.slotsIdle (s : State) : Bool := (idxs 16).all (fun k => s.slotState k == 0 || s.slotState k == 4)

/-- Reasons of R630: the lowest that holds; until the start-up test has ended it is the self-test that runs. -/
def State.testRefused (s : State) (rails : BitVec 9) (tickOk : Bool) : Option Nat :=
  if s.lifecycle ≠ 0 ∧ s.lifecycle ≠ 1 ∧ s.lifecycle ≠ 3 then some 1
  else if ¬ s.allSto 0xFF ∨ ¬ s.slotsIdle then some 2
  else if ¬ s.tb.locked ∨ s.tb.holdover ∨ ¬ tickOk then some 3
  else if ¬ s.railsReady rails then some 4
  else if s.shut.active ∨ s.storeTakes then some 5
  else if s.extendedRuns ∨ s.st.fusing ∨ ¬ s.st.startDone then some 6
  else none

/-- A test or a fuse repair is refused. -/
def State.refuseTest (s : State) (r : Nat) : State :=
  (s.modTest (fun t => { t with state := .refused, reason := r })).raise 0x0203 1 5 [w32 r]

/-- START (R630, R631): ST_CTRL.START, with PWR_RAILS and the tick as measured. -/
def execStart (rails : BitVec 9) (tickOk : Bool) (s : State) : Out :=
  let s0 := s.noteRails rails
  match s0.testRefused rails tickOk with
  | some r => .next (s0.refuseTest r)
  | none =>
    .next ((s0.modTest (fun t => { t with
      state := .running
      extended := true
      reason := 0
      entries := 0
      log := []
      sel := s.fld Reg.stSel 0 7 })).modTahr (fun t => { t with testing := true }))

/-- FUSE (R635). -/
def execFuse (s : State) : Out :=
  if s.lifecycle ≠ 3 then .next (s.refuseTest 1)
  else if ¬ s.allSto 0xFF then .next (s.refuseTest 2)
  else if s.extendedRuns ∨ s.st.fusing then .next (s.refuseTest 6)
  else .next (s.modTest (fun t => { t with state := .fusing, fusing := true }))

/-- FUSE_DONE (R635): every spare of the map is burnt, and burnt entries leave the map in one write. -/
def execFuseDone (s : State) : Out :=
  if s.st.fusing then
    let burns := fun (e : Dword) => repType e != 2 && !s.store.life.unsaved.contains e
    let burnt := s.store.life.repair.filter burns
    let left := s.store.life.repair.filter (fun e => !burns e)
    let s1 := (s.modTest (fun t => { t with state := .idle, fusing := false, fused := t.fused ++ burnt })).modRepair (fun _ => left)
    .next ((s1.writeKind 3).raise 0x0206 1 4 [w32 burnt.length, w32 left.length])
  else .next s

/-! ## The comparator test -/

/-- A trial image confirms its health (R669): it becomes ACTIVE, and the ARB fuses follow its count. -/
def State.confirmTrial (s : State) : State :=
  let b := s.store.life.boot
  if b.trial = 0xFF ∨ s.store.running ≠ b.trial then s
  else
    let t := finOf 1 b.trial
    let s1 := ((s.modBoot (fun r => { r with active := r.trial, trial := 0xFF })).modStore (fun x => { x with
      confirmed := true
      arbFuses := max x.arbFuses (s.fwArb t) })).writeKind 3
    s1.raise 0xA203 1 6 [w32 b.trial, w32 (s.fwVersion t), w32 s1.store.arbFuses]

/-- The test record of a lane that reaches the comparator from a control die in a case of R462: cases 1 to 2,048 invert one bit on one die and one lane, in the order of the table; none arrives over a failed link. -/
def State.lockTestRecord (s : State) (case_ : Nat) (d : CtrlId) (lane : EngineNo) : Option Dword :=
  let n := case_ - 1
  let hit := decide (case_ ≤ 2048 ∧ n / 128 = lane.val ∧ n / 64 % 2 = (match d with
    | .a => 0
    | .b => 1))
  if s.linkUp d.die .safe then some (if hit then Config.lockTestSig ^^^ (1#64 <<< (n % 64)) else Config.lockTestSig) else none

/-- Does a case give the expected result on all 16 lanes (R462)? -/
def State.lockTestOk (s : State) (case_ : Nat) : Bool :=
  (idxs 16).all (fun l => compareRecords (s.lockTestRecord case_ .a l) (s.lockTestRecord case_ .b l) ==
    (if case_ ≤ 2048 ∧ (case_ - 1) / 128 = l.val then Decision.mismatch else Decision.match_))

/-- The first of the 2,049 cases that the comparator of the model does not answer as expected (R462). -/
def State.lockTestFirst (s : State) : Option Nat := ((List.range 2049).map (· + 1)).find? (fun n => !s.lockTestOk n)

/-- COMPARATOR_TEST (R462, R463, R627, R628, R669): the test of the cold start or of a climb ends; the 2,049 cases run through the comparator of R456 over DL_12 and DL_13; `failing` is the first failing case, with the result obtained, that a defect of the hardware causes. -/
def execComparatorTest (failing : Option (BitVec 32 × BitVec 32)) (s : State) : Out :=
  if s.pwr.testPending then
    let s0 : State := { s with pwr := { s.pwr with testPending := false } }
    match s.lockTestFirst.elim failing (fun n => some (w32 n, Config.lockTestResult n)) with
    | none =>
      let s1 := ({ s0 with lock := { s0.lock with testPass := true } } : State).raise 0x7003 3 2 [2049]
      if s.st.passDue then .next (((s1.modTest (fun t => { t with passDue := false })).raise 0x0201 1 2 [0, w32 s.st.entries]).confirmTrial)
      else .next s1
    | some (case_, result) =>
      let s1 : State := { s0 with tahr := { s0.tahr with testFail := true, blocked := true } }
      let s2 := ((s1.raise 0x7004 3 15 [case_, result]).raise 0x0202 1 14 [0, w32 s.st.entries, 1]).raise 0x0205 3 15 [2]
      .next (s2.modTest (fun t => { t with passDue := false }))
  else .next s

/-! ## Registers -/

/-- Code of STATE. -/
def TestState.code : TestState → Nat
  | .idle => 0
  | .running => 1
  | .passed => 2
  | .failed => 3
  | .refused => 4
  | .aborted => 5
  | .fusing => 6

/-- ST_STATUS. -/
def State.stStatus (s : State) : Word :=
  packFields [(29, s.st.state.code), (28, b2n s.tahr.blocked), (27, b2n s.st.extended), (24, s.st.reason % 8), (16, s.st.entries)]
/-- ST_CAPACITY. -/
def State.stCapacity (s : State) : Word := packFields [(24, (s.retiredRegions 5).length), (16, (s.retiredRegions 4).length)]
/-- ST_LOG_0 and ST_LOG_1 of the selected entry. -/
def State.stLog (s : State) : Word × Word := s.st.log.getD (s.fld Reg.stLogSel 0 6) (0, 0)
/-- 32 regions of a memory as a mask. -/
def State.regionMask (s : State) (unit base : Nat) : Word :=
  w32 ((List.range 32).foldl (fun m r => if (s.retiredRegions unit).contains (base + r) then m + 2 ^ r else m) 0)

end Sys2Proof.Machine
end

