-- ==== Sys2Proof/Machine/Power.lean ====
section
/-! DEFINITION. The power ladder (18_power_ladder.md, R595 to R618, R622): descents, wakes, climbs and the ladder image; and the orderly shutdown (12_protection_and_discharge.md, R438 to R440), whose last step is a descent. -/

namespace Sys2Proof.Machine

/-- Updates the power ladder. -/
def State.modPwr (s : State) (f : Power → Power) : State := { s with pwr := f s.pwr }

/-- The part stands on a rung: its holds apply, and RUNG_CHANGED is raised (R602). -/
def State.onRung (s : State) (rung source : Nat) : State :=
  (((s.modPwr (fun p => { p with rung := rung })).settle).raise 0xA001 6 2 [w32 s.pwr.rung, w32 rung, w32 source])

/-! ## The ladder image (R609) -/

/-- Is a signal of the image: its owner is a program's or the host's? -/
def imageOwner (e : DirEntry) : Bool := decide (0x100 ≤ e.owner ∧ e.owner ≤ 0x17F) || e.owner == 0x200

/-- The image of the part as it stands. -/
def State.ladderImage (s : State) : LadderImage :=
  let d := s.die .a
  { regs := s.regs
    locked := s.glb.locked
    dir := d.dir
    slots := d.slots
    prog := d.prog.filter (fun p => (idxs 128).any (fun c =>
      let x := d.slots[c]
      x.state != .empty && decide (progAddr c x.place 0 ≤ p.1 ∧ p.1 < progAddr c x.place 0 + x.nInstr)))
    tables := d.tables.filter (fun p => s.pwr.tablePages.contains (p.1 / 1024))
    board := d.board.filter (fun p => (d.entryOf p.1).any imageOwner) }

/-- Least size of the image in bytes: the words it must hold (R609; its layout is internal to the firmware, R647). -/
def State.imageBytes (s : State) : Nat :=
  let d := s.die .a
  4096 * s.pwr.tablePages.length + 4 * ((d.dir.filter imageOwner).foldl (fun n e => n + e.len) 0) +
    (idxs 128).foldl (fun n c => if (d.slots[c]).state = .empty then n else n + 8 * (d.slots[c]).nInstr + 128) 0

/-! ## Requests (R611, R612, R614, R617) -/

/-- Reasons of R612: the lowest that holds. -/
def State.descentRefused (s : State) (target : Nat) : Option Nat :=
  let on := (idxs 8).filter (fun c => s.ch[c].enabled)
  if on.any (fun c => s.prot[c].state != .sto && s.prot[c].state != .safeOpen) then some 1
  else if on.any (fun c => (s.pifOf c).isSome && !bitAt (s.sig (chBase c + 0x44)) 3) then some 2
  else if s.shut.active then some 3
  else if s.storeTakes then some 4
  else if 4 ≤ target ∧ bankSize 2 - 32 < s.imageBytes then some 5
  else if s.pwr.heldReq.any (fun q => q.source != 0) then some 6
  else none

/-- Completes the SET_STATE behind a rung request. -/
def State.endRequest (s : State) (q : RungRequest) (status detail : Nat) : State :=
  match q.desc with
  | some (r, i) => s.complete r i status detail (if status = 0 then w32 q.target else 0)
  | none => s

/-- A request waits; a newer one replaces it (R617). -/
def State.holdRequest (s : State) (q : RungRequest) : State :=
  let s1 := match s.pwr.heldReq with
    | some old => s.endRequest old 1 1
    | none => s
  s1.modPwr (fun p => { p with heldReq := some q })

/-! ## Entry actions of a descent -/

/-- GRAZE (R601, R602). -/
def State.enterGraze (s : State) : State := s.onRung 1 0

/-- CHEW (R601, R605): the cores go to 680 mV, the Tolpel transmitters stop and their ports go DOWN without an event, the service session ends, and with it the hold of a firmware write it has not finished (R663). -/
def State.enterChew (s : State) : State :=
  let s1 := s.modPwr (fun p => { p with keptMv := Vector.ofFn (fun d => s.plan[d].vddMv) })
  let s2 := (s1.avsWrite .a 680).avsWrite .b 680
  let s3 := (idxs 48).foldl State.portDown s2
  let open_ := s3.store.svc.session.any (fun x => x.writing.any (fun w => w.1 == 7))
  let s4 := s3.modTahr (fun t => { t with updating := t.updating && !open_ })
  (s4.modStore (fun x => { x with svc := { x.svc with
    hello := none
    session := none
    waiting := none } })).onRung 2 0

/-- BED (R608, R682): the rings as after a disconnect, the event queue empty. -/
def State.enterBed (s : State) : State :=
  let s0 := s.ringsOff
  ({ s0 with ev := { s0.ev with queue := [] } } : State).onRung 3 0

/-- One rung down from the present one. -/
def State.stepDown (s : State) : State :=
  match s.pwr.rung with
  | 0 => s.enterGraze
  | 1 => s.enterChew
  | 2 => s.enterBed
  | _ => s

/-- A SET_STATE that has been met is written before the ring engine halts (R613). -/
def State.meetDescent (s : State) : State :=
  match s.pwr.descent with
  | some q =>
    if s.pwr.rung ≠ 2 then s
    else ((s.endRequest q 0 0).flushDone).modPwr (fun p => { p with descent := some { q with desc := none } })
  | none => s

/-- Rung by rung down to a target no lower than BED. -/
def State.goDown (target : Nat) : Nat → State → State
  | 0, s => s
  | n + 1, s => if s.pwr.rung < min target 3 then State.goDown target n (s.stepDown.meetDescent) else s

/-! ## Climbs (R614 to R618) -/

/-- First actions of the step from the present rung to the one above (R596, R607, R615): the groups it needs; where the cores are up already, the voltage write again. -/
def State.stepActions (s : State) : State :=
  match s.pwr.rung with
  | 5 => s.enableGroup 1 true
  | 4 => if s.pwr.enCore then (s.avsWrite .a 680).avsWrite .b 680 else s.enableGroup 2 true
  | 2 => (s.avsWrite .a s.pwr.keptMv[0]).avsWrite .b s.pwr.keptMv[1]
  | _ => s

/-- A wake starts its climb (R614). -/
def State.startClimb (s : State) (q : RungRequest) : State :=
  (s.modPwr (fun p => { p with
    climb := some { request := q, stepAt := s.now }
    source := q.source })).stepActions

/-- A wake: it waits behind a descent or a climb, and starts at once otherwise (R617). -/
def State.wake (s : State) (q : RungRequest) : State :=
  if s.pwr.descent.isSome ∨ s.pwr.climb.isSome then s.holdRequest q
  else if q.target < s.pwr.rung then s.startClimb q
  else s.endRequest q 0 0

/-- A descent to BED or above is complete, or waits in BED for the ladder image; on the way to YARD or SHED the ageing and event records go to STORE (R237, R651). -/
def State.startDescent (s : State) (q : RungRequest) : State :=
  let s1 := State.goDown q.target 3 (s.modPwr (fun p => { p with descent := some q }))
  if q.target ≤ 3 then
    let s2 := if q.target = 1 then s1.endRequest q 0 0 else s1
    let s3 := s2.modPwr (fun p => { p with descent := none })
    match s3.pwr.heldReq with
    | some h => (s3.modPwr (fun p => { p with heldReq := none })).wake h
    | none => s3
  else s1.ageRecords.flushLog

/-- A descent is asked for (R611, R612, R617, R631). -/
def State.askDescent (s : State) (q : RungRequest) : State :=
  match s.descentRefused q.target with
  | some r => (s.raise 0xA002 6 5 [w32 q.target, w32 r]).endRequest q 1 1
  | none =>
    if s.pwr.descent.isSome ∨ s.pwr.climb.isSome ∨ s.extendedRuns then s.holdRequest q else s.startDescent q

/-- The held request is taken up (R617, R631). -/
def State.takeHeld (s : State) : State :=
  match s.pwr.heldReq with
  | none => s
  | some q =>
    let s1 := s.modPwr (fun p => { p with heldReq := none })
    if q.target < s.pwr.rung then s1.wake q
    else if s.pwr.rung < q.target ∧ q.source = 0 then s1.askDescent q
    else s1.endRequest q 0 0

/-- RUNG_REQUEST (R611 to R614): SET_STATE request 2. -/
def execRungRequest (ring : BitVec 16) (s : State) : Out :=
  .next (s.onDesc ring 0x40 (fun d => d.w[0] == 2) (fun t s =>
    let target := t.desc.w[1].toNat
    let q : RungRequest := { target := target, source := 0, desc := some (t.ring, t.index) }
    if t.desc.length ≠ 0 then s.finish t 2 4 0
    else if t.desc.addr ≠ 0 ∨ ¬ t.desc.zeroFrom 2 ∨ 5 < target then s.finish t 2 2 0
    else if s.shut.active then s.finish t 1 4 0
    else if s.pwr.rung < target then s.askDescent q
    else if target < s.pwr.rung then s.wake { q with source := 4 }
    else s.finish t 0 0 (w32 target)))

/-- TARGET_DESCENT (R611): a write of a lower rung to PWR_CTRL.TARGET. -/
def execTargetDescent (value : Word) (s : State) : Out :=
  let t := bitsAt value 0 3
  let s1 := if t ≤ 5 then s.setReg Reg.pwrCtrl (w32 t) else s
  if s.pwr.rung < t ∧ t ≤ 5 then .next (s1.askDescent { target := t, source := 0 }) else .next s1

/-- TARGET_WAKE (R614): a write of a higher rung to PWR_CTRL.TARGET, on GRAZE, CHEW or BED. -/
def execTargetWake (value : Word) (s : State) : Out :=
  let t := bitsAt value 0 3
  let s1 := if t ≤ 5 then s.setReg Reg.pwrCtrl (w32 t) else s
  if t < s.pwr.rung ∧ s.pwr.rung ≤ 3 then .next (s1.wake { target := t, source := 3 }) else .next s1

/-- PWR_CFG.WAKE_TARGET: 5 and above taken as 4. -/
def State.wakeTarget (s : State) : Nat := min 4 (s.fld Reg.pwrCfg 25 3)

/-- WAKE_N (R614): held low for WAKE_FILT ms, on every rung. -/
def execWakeN (s : State) : Out :=
  if s.wakeTarget < s.pwr.rung ∨ s.pwr.descent.isSome then .next (s.wake { target := s.wakeTarget, source := 1 }) else .next s

/-- WAKE_TIMER (R614, R622): device time reaches PWR_TIMER while TIMER_EN is set, from GRAZE to YARD. -/
def execWakeTimer (s : State) : Out :=
  if bitAt (s.reg Reg.pwrCfg) 31 ∧ s.pwr.timer ≤ s.now ∧ ¬ s.pwr.timerFired ∧ 1 ≤ s.pwr.rung ∧ s.pwr.rung ≤ 4 then
    let s1 := s.modPwr (fun p => { p with timerFired := true })
    if s.wakeTarget < s.pwr.rung ∨ s.pwr.descent.isSome then .next (s1.wake { target := s.wakeTarget, source := 2 }) else .next s1
  else .next s

/-! ## YARD and SHED -/

/-- A bank of a kind is written at once, as part of an entry; STORE takes none in RETIRED (R657). -/
def State.writeNow (s : State) (k : Nat) (content : List Byte) : State := if s.lifecycle = 4 then s else s.putBank ⟨k, s.target k, content, .device⟩

/-- The wake time does not survive SHED (R622): its registers read their reset value, also in the ladder image; nothing fires until it is written again. -/
def State.forgetTimer (s : State) : State :=
  let clear := fun (m : Kv Word) => kvSet 0 (kvSet 0 m Reg.pwrTimerLo 0) Reg.pwrTimerHi 0
  { s with
    regs := clear s.regs
    pwr := { s.pwr with
      timer := 0
      timerFired := true
      image := s.pwr.image.map (fun m => { m with regs := clear m.regs }) } }

/-- The time base stops; device time holds its value, kept in STORE (R46, R603). -/
def State.holdTime (s : State) : State :=
  let s1 := s.modStore (fun x => { x with life := { x.life with shedTime := s.now, shedValid := true } })
  let s2 := s1.writeNow 3 s1.lifeContent
  { s2 with
    tb := { s2.tb with running := false, locked := false, holdover := false, refPresent := false } }

/-- SHED (R603). -/
def State.enterShed (s : State) : State :=
  (s.forgetTimer.holdTime.onRung 5 0).lowerGroups 0

/-- YARD (R596, R601, R606, R608): the link goes down, the carriers stop, groups 3 and 2 go low. -/
def State.enterYard (s : State) : State :=
  let s1 := (s.modRe (fun r => { r with speed := 0, width := 0 })).raise 0x9005 1 10 [1, 0]
  (({ s1 with
    ch := s1.ch.map (fun c => { c with running := false, resumed := c.resumed || c.running, sync := .free })
    ev := { s1.ev with queue := [], stage := [] }
    timers := Vector.replicate 2 []
    timerReqs := Vector.replicate 2 [] } : State).onRung 4 0).lowerGroups 1

/-- LADDER_IMAGE_WRITTEN (R609, R611): the image is in STORE and the part enters YARD, and SHED where that is the target. -/
def execLadderImageWritten (s : State) : Out :=
  match s.pwr.descent with
  | none => .next s
  | some q =>
    if s.pwr.rung ≠ 3 ∨ q.target < 4 ∨ s.store.write.isSome ∨ ¬ s.store.queue.isEmpty ∨ ¬ s.store.waiting.isEmpty ∨ ¬ s.storeUp then .next s
    else
      let (v, s1) := s.fresh (8 * s.imageBytes)
      let s2 := (s1.writeNow 2 (leBytes s.imageBytes v.toNat)).modPwr (fun p => { p with image := some s.ladderImage })
      let s3 := s2.enterYard
      let s4 := if q.target = 5 then s3.enterShed else s3
      .next ((s4.modPwr (fun p => { p with descent := none })).takeHeld)

/-! ## The way up -/

/-- Each fitted gate array after LINK has been off: its retirements stand, and with them a position below its floor (R407, R408). -/
def GatePos.afterOff (g : GatePos) : GatePos := { retired := g.retired, latched := g.latched, held := g.held, belowFloor := g.belowFloor }

/-- A control die as the ladder image restores it (R610). -/
def LadderImage.die (m : LadderImage) : CtrlDie :=
  { board := m.board
    dir := m.dir
    tables := m.tables
    prog := m.prog
    slots := m.slots.map (fun x => { x with readyFrame := none, doneFrame := none, divChange := none, moveTo := none }) }

/-- The part as it stands on BED after a climb from YARD (R606, R610): the image restored, everything else that was off as after reset. What the set-up checks and the safety faults have found stays. -/
def State.bedFrom (s : State) (m : LadderImage) : State :=
  let r := State.reset
  { r with
    pending := s.pending
    part := s.part
    now := s.now
    freeCtr := s.freeCtr
    outs := s.outs
    regs := m.regs
    sats := s.sats.map Satellite.orphan
    links := s.links.map (fun l => { failed := l.failed, resends := l.resends })
    tb := s.tb
    wires := s.wires
    ch := s.ch.map (fun c => ({ enabled := c.enabled, frame := c.frame, resumed := c.resumed, missRun := c.missRun, missTotal := c.missTotal } : ChanTime))
    ctrl := #v[m.die, if s.linkUp .ctrlB .store && s.linkUp .store .ctrlB then m.die else r.ctrl[1]]
    plan := Vector.ofFn (fun d =>
      let p := s.plan[d]
      { engines := p.engines.map (fun v => { failed := v.failed })
        memories := p.memories.map (fun v => { failed := v.failed })
        vddMv := p.vddMv, avs := p.avs, avsMatched := p.avsMatched, avsFailed := p.avsFailed, lastStep := p.lastStep
        warned := p.warned, budget := p.budget, lossPpm := p.lossPpm, lossShown := p.lossShown
        poweredS := p.poweredS, hotS := p.hotS, vddHi := p.vddHi, vddAt := p.vddAt })
    planner := { refused := s.planner.refused }
    ev := { s.ev with queue := [], stage := [], held := true }
    glb := { s.glb with locked := m.locked, startFrom := s.now }
    sense := s.sense.map (fun d => { cmpOff := d.cmpOff })
    smp := s.smp.map (fun b => { disabled := b.disabled })
    pos := s.pos.map (fun d => { pif := d.pif.map (fun p => { disabled := p.disabled }), cmp := d.cmp.map (fun u => { disabled := u.disabled }), emu := { disabled := d.emu.disabled } })
    gates := s.gates.map GatePos.afterOff
    prot := s.prot.map (fun p => { p with discharge := none, inSafe := false, window := none, lopsided := 0 })
    chamois := { linkReq := s.chamois.linkReq }
    tahr := { r.tahr with
      pwFails := s.tahr.pwFails
      lockout := s.tahr.lockout
      chamoisFault := s.tahr.chamoisFault
      testFail := s.tahr.testFail
      blocked := s.tahr.blocked
      ch := s.tahr.ch.map (fun t => { prot := t.prot, tmFault := t.tmFault, dataLost := t.dataLost, rampFault := t.rampFault, lockStop := t.lockStop, soStop := t.soStop }) }
    pwr := { s.pwr with image := none }
    store := s.store
    lock := { failed := s.lock.failed, bad := s.lock.bad, mismatches := s.lock.mismatches, missing := s.lock.missing, last := s.lock.last, pseudo := s.lock.pseudo
              seenLinks := s.lock.seenLinks, seenWires := s.lock.seenWires }
    trace := s.trace.cleared
    traceB := s.traceB.cleared
    regsB := if s.glb.checked then m.regs.filter (fun w => decide (0x10000 ≤ w.1 ∧ w.1 < 0x20000)) else []
    calibration := s.calibration
    can := s.can.map (fun c => { disabled := c.disabled, objOff := c.objOff })
    st := s.st }

/-- An AVSBus write has been read back at its setpoint (R228, R615). -/
def State.readsBack (s : State) (mV : Fin 2 → Nat) : Bool := (idxs 2).all (fun d => (s.plan[d]).avs.isNone && (s.plan[d]).vddMv == mV d)

/-- The conditions of R615 for the step from the present rung to the one above: met or not, in the order of its row. -/
def State.stepConditions (s : State) (rails : BitVec 9) : List Bool :=
  match s.pwr.rung with
  | 5 => [railsUp rails [1, 2], s.tb.locked, s.tb.running]
  | 4 => [s.pwr.enCore && railsUp rails (s.group2 ++ [7, 8]), s.readsBack (fun _ => 680), true]
  | 3 => [true]
  | 2 => [s.readsBack (fun d => s.pwr.keptMv[d]), true]
  | _ => [s.dieFits .a s.planSet s.guard && s.dieFits .b s.planSet s.guard]

/-- The unmet conditions, bit n for the nth. -/
def unmetBits (cs : List Bool) : Nat := (cs.zipIdx 1).foldl (fun m c => if c.1 then m else m + 2 ^ c.2) 0

/-- What the part does as it reaches a rung on the way up. -/
def State.reach (s : State) (rung : Nat) : State :=
  match rung with
  | 3 => (s.startTahr true).canStarts
  | 2 => s.clearTrace.restartBuffers.clearRings
  | 1 => State.deliverAll { s with
      sense := s.sense.map (fun d => { d with sdm := d.sdm.map SdmInput.restart })
      pos := s.pos.map (fun d => { d with pif := d.pif.map (fun p => { p with
        obs := { p.obs with good := 0 }
        dirSet := false
        win := []
        wordAt := none
        monoAt := none
        homed := false }) }) }
  | 0 => s.modChamois (fun x => { x with shutAux := false })
  | _ => s

/-- A climb has reached its target (R616, R617). -/
def State.endClimb (s : State) (q : RungRequest) : State :=
  ((s.modPwr (fun p => { p with climb := none, wakeFail := false })).endRequest q 0 0).takeHeld

/-- The part stands on the rung above (R615, R618); the ladder image must be valid on the way to BED (R610). -/
def State.stepUp (s : State) (c : Climb) : State :=
  let r := s.pwr.rung
  let valid := r != 4 || (s.pwr.image.isSome && (s.inForce 2).isSome && s.storeUp)
  if ¬ valid then s.coldBegin 5 0
  else
    let s0 := match r, s.pwr.image with
      | 4, some m => s.bedFrom m
      | _, _ => s
    let s1 := (s0.onRung (r - 1) c.request.source).reach (r - 1)
    if r - 1 = c.request.target then s1.endClimb c.request
    else (s1.modPwr (fun p => { p with climb := some { c with stepAt := s1.now, repeated := false } })).stepActions

/-- CLIMB_STEP_READY (R615). -/
def execClimbStepReady (rails : BitVec 9) (s : State) : Out :=
  let s0 := s.noteRails rails
  match s.pwr.climb with
  | none => .next s0
  | some c => if (s0.stepConditions rails).all id then .next (s0.stepUp c) else .next s0

/-- Ready timeout of a step from a rung, in ticks (R600). -/
def readyTicks (rung : Nat) : Nat :=
  match rung with
  | 1 => 12 * usTicks
  | 2 => 120 * usTicks
  | 3 => 1200 * usTicks
  | 4 => 12 * msTicks
  | _ => 120 * msTicks

/-- The part returns to the rung from which a failed step began (R616): in SHED with its time base stopped again (R46). -/
def State.stepBack (s : State) : State :=
  match s.pwr.rung with
  | 5 => (if s.tb.running then s.holdTime else s).lowerGroups 0
  | 4 => s.lowerGroups 1
  | 2 => (s.avsWrite .a 680).avsWrite .b 680
  | _ => s

/-- READY_TIMEOUT (R616): repeated once, then WAKE_FAIL. In SHED device time does not count the timeout. -/
def execReadyTimeout (rails : BitVec 9) (s : State) : Out :=
  let s0 := s.noteRails rails
  match s.pwr.climb with
  | none => .next s0
  | some c =>
    let r := s.pwr.rung
    let unmet := unmetBits (s0.stepConditions rails)
    if unmet = 0 ∨ ¬ (c.stepAt + readyTicks r ≤ s.now ∨ ¬ s.tb.running) then .next s0
    else if c.repeated then
      let s1 := (s0.modPwr (fun p => { p with climb := none, wakeFail := true })).raise 0xA004 6 12 [w32 (r - 1), w32 r, w32 unmet]
      .next (((s1.stepBack).endRequest c.request 1 1).takeHeld)
    else
      let s1 := (s0.modPwr (fun p => { p with climb := some { c with stepAt := s.now, repeated := true } })).raise 0xA003 6 6 [w32 r, w32 (r - 1)]
      .next s1.stepActions

/-! ## Registers of the ladder -/

/-- PWR_STATUS (R616): a write of 1 clears WAKE_FAIL. -/
def execPwrStatus (value : Word) (s : State) : Out :=
  .next (if bitAt value 27 then s.modPwr (fun p => { p with wakeFail := false }) else s)

/-- PWR_TIMER_HI (R622): the wake time takes effect with the last write of PWR_TIMER_LO. -/
def execPwrTimerHi (value : Word) (s : State) : Out :=
  .next ((s.setReg Reg.pwrTimerHi value).modPwr (fun p => { p with
    timer := value.toNat * 2 ^ 32 + (s.reg Reg.pwrTimerLo).toNat
    timerFired := false }))

/-- PWR_STATUS. -/
def State.pwrStatusReg (s : State) : Word :=
  let p := s.pwr
  packFields [(29, p.rung), (28, b2n (p.climb.isSome || p.descent.isSome)), (27, b2n p.wakeFail), (24, p.source % 8), (8, p.coldRail % 16), (0, p.coldCause % 16)]

/-! ## The orderly shutdown (R438 to R440) -/

/-- Channels of the part. -/
def State.partChannels (s : State) : List Channel := (idxs 8).filter (fun c => s.hasChannel c)

/-- Updates the shutdown. -/
def State.modShut (s : State) (f : Shutdown → Shutdown) : State := { s with shut := f s.shut }

/-- Step 1 (R438): STALE in every ch_n.setpoint_state; a running extended self-test is aborted (R631). -/
def State.startShutdown (s : State) (byVsup : Bool) (desc : Option (Nat × Nat)) : State :=
  let cold := s.extendedRuns && s.testCold
  let s1 := s.abortTest false
  let s2 := (s1.modTest (fun t => { t with coldOwed := cold })).modShut (fun _ => { active := true, step := 1, start := s.now, byVsup := byVsup, below := byVsup, desc := desc })
  (s2.partChannels.foldl (fun s c => s.hwCommit 0x0001 s.now [(chBase c + 0x1B, 1)]) s2).raise 0x6020 6 8 [w32 (b2n byVsup)]

/-- SHUTDOWN_REQUEST (R438, R439): SET_STATE request 1. -/
def execShutdownRequest (ring : BitVec 16) (s : State) : Out :=
  .next (s.onDesc ring 0x40 (fun d => d.w[0] == 1) (fun t s =>
    if t.desc.length ≠ 0 then s.finish t 2 4 0
    else if t.desc.addr ≠ 0 ∨ ¬ t.desc.zeroFrom 1 then s.finish t 2 2 0
    else if s.shut.active then s.finish t 1 4 0
    else s.startShutdown false (some (t.ring, t.index))))

/-- SHUT_V in mV. -/
def State.shutV (s : State) : Nat := s.fld Reg.shutCfg 0 16 * 100

/-- SHUTDOWN_VSUP (R438, R439): VSUP_SENSE has stayed at this value, below SHUT_V, for 10 ms. -/
def execShutdownVsup (millivolts : Nat) (s : State) : Out :=
  if s.shut.active ∨ s.shutV = 0 ∨ s.shutV ≤ millivolts ∨ 3 < s.pwr.rung ∨ ¬ s.pwr.started then .next s
  else .next (s.startShutdown true none)

/-- A channel enters its safe state in the shutdown, by cause 15 (R413). -/
def State.shutSafe (s : State) (c : Channel) : State := s.protCause c 15 f32NaN

/-- SD_RAMP_EXPIRY (R438, R439): steps 2 and 3; cause 15 is recorded for each channel on which the shutdown acts here, and a channel that a cause has taken to its safe state before stays there (DEDUCED, assumption 93). -/
def execSdRampExpiry (s : State) : Out :=
  if s.shut.active ∧ s.shut.step = 1 ∧ s.shut.start + min 60000 (s.fld Reg.shutCfg 16 16) * msTicks ≤ s.now then
    let cs := (idxs 8).filter (fun c => s.ch[c].enabled)
    let s1 := cs.foldl (fun s c => match s.prot[c].state with
      | .zeroVector | .freewheel => s.shutSafe c
      | _ => s) s
    let s2 := cs.foldl (fun t c =>
      if s.shut.early.getLsbD c.val then t
      else if s.dischMethod c ≠ 0 then (t.causeOn c 15 f32NaN).startDischarge c true
      else t.shutSafe c) s1
    .next (s2.modShut (fun x => { x with step := 3 }))
  else .next s

/-- SHUTDOWN_DISCHARGES_ENDED (R438): steps 4 and 5: no discharge runs any more. -/
def execShutdownDischargesEnded (s : State) : Out :=
  if s.shut.active ∧ s.shut.step = 3 ∧ (idxs 8).all (fun c => s.prot[c].state != .discharge) = true then
    let s1 := ((idxs 8).filter (fun c => s.ch[c].enabled)).foldl (fun s c => s.shutSafe c) s
    let s2 := s1.partChannels.foldl (fun s c => s.askSafe c true) s1
    let s3 := s2.modChamois (fun x => { x with shutAux := true })
    let s4 : State := { s3 with sw := { s3.sw with auxOffB := true } }
    .next ((s4.settle.ageRecords.flushLog).modShut (fun x => { x with step := 5 }))
  else .next s

/-- PWR_CFG.SHUT_RUNG: 1 to 5. -/
def State.shutRung (s : State) : Nat := max 1 (min 5 (s.fld Reg.pwrCfg 28 3))

/-- SHUTDOWN_DONE (R438, R440, R611, R631): step 6. -/
def execShutdownDone (s : State) : Out :=
  if s.shut.active ∧ s.shut.step = 5 ∧ ((s.store.write.isNone ∧ s.store.queue.isEmpty ∧ s.store.waiting.isEmpty) ∨ ¬ s.storeUp) then
    let s1 := s.raise 0x6021 6 8 [w32 (b2n s.shut.dipSeen)]
    let s2 := match s.shut.desc with
      | some (r, i) => (s1.complete r i 0 0 0).flushDone
      | none => s1
    let s3 := s2.modShut (fun _ => {})
    if s.shut.dipSeen then .next (s3.coldBegin 4 0)
    else if s.st.coldOwed then .next (s3.coldBegin 6 0)
    else if s.pwr.rung < s.shutRung then .next (s3.startDescent { target := s.shutRung, source := 0 })
    else .next s3
  else .next s

/-- VSUP_DIP (R440): VSUP_SENSE at this value during a shutdown: it has fallen below SHUT_V, or risen above SHUT_V + 0.5 V after a shutdown that it started. -/
def execVsupDip (millivolts : Nat) (s : State) : Out :=
  let dip : Bool := (decide (millivolts < s.shutV) && !s.shut.below) || (s.shut.byVsup && decide (s.shutV + 500 < millivolts))
  if s.shut.active then .next (s.modShut (fun x => { x with dipSeen := x.dipSeen || dip, below := decide (millivolts < s.shutV) }))
  else .next s

/-- SHUT_STATUS. -/
def State.shutStatusReg (s : State) : Word := packFields [(31, b2n s.shut.active), (30, b2n s.shut.dipSeen), (0, s.shut.step)]

end Sys2Proof.Machine
end

