-- ==== Sys2Proof/Machine/TestEnd.lean ====
section
/-! DEFINITION. How a self-test ends (19_self_test.md, R624, R627, R630 to R637): its results, its repairs, and the rung request it has held (R631). -/

namespace Sys2Proof.Machine

/-- The start-up test ends FAILED without its results: a precondition has failed, or the time base had not locked in time (R45, R624). -/
def State.failStart (s : State) : State :=
  (s.modTest (fun t => { t with
    state := .failed
    startDone := true
    startPassed := false })).testFails false 2

/-- The time base meets R623 for the start-up test: locked in time, and not in holdover (R45). -/
def State.startClock (s : State) : Bool := s.tb.locked && !s.tb.holdover && !s.tb.noLock

/-- SELF_TEST_END (R627, R630 to R637): a test ends with the failing cells (die, unit, codeword, bit), logic signatures (die, engine, signature word) and analogue checks (die, check, item) it found; `repeats` names the repairs, in order, whose retest failed. -/
def execSelfTestEnd (cells : List (BitVec 4 × BitVec 4 × BitVec 22 × Fin 39)) (logic analogue : List (BitVec 4 × BitVec 22 × BitVec 6)) (repeats : List Nat)
    (s : State) : Out :=
  let ext := s.extendedRuns
  if ¬ ext ∧ (s.st.startDone ∨ ¬ s.tb.running) then .next s
  else if ¬ ext ∧ ¬ s.startClock then .next s.failStart
  else
    let bad := (cells.map (fun c => (⟨c.1.toNat, c.2.1.toNat, c.2.2.1.toNat, c.2.2.2.val⟩ : BadCell))).eraseDups
    -- a test has run, so every rail has lain within ±5 % (R599)
    let s0 := (if ext then s else s.noteRails 0x1FE).modTest (fun t => { t with log := [], entries := 0, extended := ext })
    let (s1, lines, left) := s0.repairLines bad bad
    let (s2, rows) := s1.repairRows left
    let (s3, fs) := s2.retest (lines ++ rows) repeats
    let s4 := s3.restoreRegions fs
    let plain := logic.map (fun x => plainEntry 2 x.1.toNat x.2.1.toNat x.2.2.toNat) ++ analogue.map (fun x => plainEntry 3 x.1.toNat x.2.1.toNat x.2.2.toNat)
    let s5 := ((fs.map Failure.entry) ++ plain).foldl State.testEntry s4
    let s6 := (if s5.store.life.repair = s.store.life.repair then s5 else s5.writeKind 3).sizeTrace
    let pass := plain.isEmpty && fs.all (fun f => f.outcome != 2)
    let s7 := s6.modTest (fun t => { t with
      state := if pass then .passed else .failed
      startDone := true
      startPassed := if ext then t.startPassed else pass })
    if ext then
      let s8 := if pass then s7.raise 0x0201 1 2 [1, w32 s7.st.entries] else s7.testFails true 1
      .next (s8.endExtended true).takeHeld
    else .next (if pass then s7 else s7.testFails false 1)

/-- SELF_TEST_ABORT (R623, R624): a precondition fails while a test runs; an aborted start-up test ends FAILED. -/
def execSelfTestAbort (rails : BitVec 9) (tickOk : Bool) (s : State) : Out :=
  let s0 := s.noteRails rails
  if s.testReady rails tickOk ∧ (s.extendedRuns ∨ s.startClock) then .next s0
  else if s.extendedRuns then .next (s0.abortTest true).takeHeld
  else if s.st.startDone ∨ s.pwr.started then .next s0
  else .next s0.failStart

end Sys2Proof.Machine
end

