-- ==== Sys2Proof/Machine/Service.lean ====
section
/-! DEFINITION. The service port (20_store_update_identity.md, R662, R663): its frames, the session handshake, and the requests of a session. -/

namespace Sys2Proof.Machine

/-- Updates the service port. -/
def State.modSvc (s : State) (f : Service → Service) : State := s.modStore (fun x => { x with svc := f x.svc })

/-- The port takes frames: enabled, on RUN or GRAZE, once the part has started (R662, R663). -/
def State.svcOpen (s : State) : Bool := s.pwr.started && decide (s.pwr.rung ≤ 1) && bitAt (s.reg Reg.svcCfg) 31

/-- A frame with its header and a CRC-32C (R662). -/
def svcFrame (type session seq : Nat) (payload : List Byte) : List Byte :=
  let body := [1, BitVec.ofNat 8 type] ++ leBytes 2 session ++ leBytes 4 seq ++ leBytes 2 payload.length ++ [0, 0] ++ payload
  body ++ leBytes 4 (crc32c body)

/-- A frame that arrives: its TYPE, SESSION, SEQ, payload. -/
structure SvcFrame where
  type : Nat
  session : Nat
  seq : Nat
  payload : List Byte
  deriving DecidableEq, Repr

/-- What a frame says: none where its CRC fails or its header is not one of R662. -/
def parseSvc (bs : List Byte) : Option SvcFrame :=
  let n := bs.length
  if n < 16 ∨ crc32c (bs.take (n - 4)) ≠ fieldLe bs (n - 4) 4 ∨ fieldLe bs 8 2 ≠ n - 16 ∨ 1440 < n - 16 ∨ fieldLe bs 0 1 ≠ 1 ∨ fieldLe bs 10 2 ≠ 0 then none
  else some ⟨fieldLe bs 1 1, fieldLe bs 2 2, fieldLe bs 4 4, (bs.drop 12).take (n - 16)⟩

/-- A frame of a TYPE: a bad one is dropped and counted, one of another TYPE belongs to another command. -/
def State.onFrame (s : State) (type : Nat) (bs : List Byte) (f : SvcFrame → State → State) : State :=
  if ¬ s.svcOpen then s
  else match parseSvc bs with
    | none => s.modSvc (fun v => { v with crcErrors := holdInc 0xFFFF v.crcErrors })
    | some x => if x.type = type then f x s else s

/-- Sends a frame. -/
def State.svcSend (s : State) (type session seq : Nat) (payload : List Byte) : State := s.svcOut (svcFrame type session seq payload)

/-- ERROR: 1 busy, 2 sequence, 3 session, 4 level. -/
def State.svcError (s : State) (x : SvcFrame) (code : Nat) : State := s.svcSend 0x20 x.session x.seq (leBytes 1 code)

/-- Level of a session: 0 GUEST, 1 OWNER. -/
def SvcSession.level (x : SvcSession) : Nat := b2n x.owner

/-! ## Sessions -/

/-- HELLO: a handshake opens with a CHALLENGE; during a session it is ERROR 1. -/
def execHello (frame : List (BitVec 8)) (s : State) : Out :=
  .next (s.onFrame 0x01 frame (fun x s =>
    if s.store.svc.session.isSome then s.svcError x 1
    else if x.payload.length ≠ 64 then s
    else
      let (v, s1) := s.fresh 256
      let nonce := leBytes 32 v.toNat
      let id := leBytes 8 Config.deviceId.toNat
      let sig := fitBytes 64 (Config.deviceSign (id ++ nonce ++ x.payload))
      (s1.modSvc (fun v => { v with hello := some (x.payload, nonce, s.now) })).svcSend 0x02 0 x.seq (id ++ nonce ++ sig)))

/-- AUTH: the session opens as OWNER or GUEST, or the attempt counts as a failure (R501). -/
def execAuth (frame : List (BitVec 8)) (s : State) : Out :=
  .next (s.onFrame 0x03 frame (fun x s =>
    match s.store.svc.hello with
    | none => s.svcError x 3
    | some (key, nonce, _) =>
      let s1 := s.modSvc (fun v => { v with hello := none })
      if s.tahr.lockout.isSome ∨ ¬ ecdsaVerify key (nonce ++ leBytes 8 Config.deviceId.toNat ++ key) (x.payload.take 64) then
        let s2 := if s.tahr.lockout.isSome then s1 else s1.countWrong
        s2.raise 0xA402 6 8 [w32 s2.tahr.pwFails]
      else
        let n := if s.store.svc.lastNumber % 2 ^ 16 = 0xFFFF then 1 else s.store.svc.lastNumber + 1
        let owner := s.store.ident.bound && sha256 key == s.store.ident.ownerHash
        let s2 := s1.modSvc (fun v => { v with
          session := some { number := n, owner := owner, clientKey := key, lastAt := s.now }
          lastNumber := n
          waiting := none })
        (s2.raise 0xA401 6 3 [w32 (b2n owner), 0]).svcSend 0x04 n x.seq (leBytes 2 n ++ leBytes 1 (b2n owner))))

/-- A session ends: `how` 1 closed, 2 timed out. A write between WRITE_BEGIN and WRITE_END leaves its target invalid. -/
def State.endSession (s : State) (x : SvcSession) (how : Nat) : State :=
  let s1 := s.modSvc (fun v => { v with session := none, waiting := none })
  let s2 := if x.writing.any (fun w => w.1 == 7) then s1.modTahr (fun t => { t with updating := false }) else s1
  s2.raise 0xA401 6 3 [w32 x.level, w32 how]

/-- CLOSE. -/
def execClose (frame : List (BitVec 8)) (s : State) : Out :=
  .next (s.onFrame 0x1F frame (fun f s =>
    match s.store.svc.session with
    | some x => if f.session = x.number then s.endSession x 1 else s.svcError f 3
    | none => s.svcError f 3))

/-- SESSION_TIMEOUT: 30 s without a valid frame of the client. -/
def execSessionTimeout (s : State) : Out :=
  match s.store.svc.session with
  | some x => if x.lastAt + 30 * sTicks ≤ s.now then .next (s.endSession x 2) else .next s
  | none => .next s

/-! ## Requests -/

/-- A REQUEST of an operation (R663): sequence, session and level are judged; `f` answers with the session as it stands. An operation outside 1 to 7 belongs to each of the commands. -/
def State.onRequest (s : State) (op : Nat) (bs : List Byte) (guest : SvcFrame → State → Bool) (f : SvcSession → Nat → List Byte → State → State) : State :=
  s.onFrame 0x10 bs (fun x s =>
    let o := fieldLe x.payload 0 1
    if o ≠ op ∧ within o 1 7 then s
    else match s.store.svc.session with
    | none => s.svcError x 3
    | some y =>
      if x.session ≠ y.number then s.svcError x 3
      else
        let y1 := { y with lastAt := s.now }
        let s1 := s.modSvc (fun v => { v with session := some y1 })
        if x.seq = y.lastSeq ∧ y.lastSeq ≠ 0 then (if s.store.svc.waiting.isSome then s1 else s1.svcOut y.lastResponse)
        else if x.seq ≠ y.lastSeq + 1 then s1.svcError x 2
        else if s.store.svc.waiting.isSome then s1.svcError x 1
        else if ¬ y.owner ∧ ¬ guest x s then s1.svcError x 4
        else
          let y2 := { y1 with lastSeq := x.seq }
          let s2 := s1.modSvc (fun v => { v with session := some y2, lastSeq := x.seq })
          if o ≠ op then s2.svcRespond y2 x.seq 2 1 0 []
          else if s.store.recovery ∧ ¬ within o 2 5 then s2.svcRespond y2 x.seq 1 1 0 []
          else f y2 x.seq (x.payload.drop 1) s2)

/-- No operation for a GUEST. -/
def ownerOnly : SvcFrame → State → Bool := fun _ _ => false

/-- SVC_READ_SIGNALS (R555). -/
def execSvcReadSignals (frame : List (BitVec 8)) (s : State) : Out :=
  .next (s.onRequest 1 frame ownerOnly (fun y seq args s =>
    let sig := fieldLe args 0 4
    let n := fieldLe args 4 4
    if ¬ within n 1 360 then s.svcRespond y seq 2 4 0 []
    else if 2 ^ 18 < sig + n then s.svcRespond y seq 2 5 0 []
    else match s.hostRead sig n with
      | none => s.svcRespond y seq 4 2 0 []
      | some (vs, s1) => s1.svcRespond y seq 0 0 n (vs.flatMap (fun v => leBytes 4 v.toNat))))

/-- SVC_READ_RECORD (R639). -/
def execSvcReadRecord (frame : List (BitVec 8)) (s : State) : Out :=
  .next (s.onRequest 2 frame ownerOnly (fun y seq args s =>
    let n := fieldLe args 8 4
    if 1400 < n then s.svcRespond y seq 2 4 0 []
    else match s.readRecord (fieldLe args 0 4) (fieldLe args 4 4) n with
      | .error (st, det) => s.svcRespond y seq st det 0 []
      | .ok (bs, s1) => s1.svcRespond y seq 0 0 bs.length bs))

/-- The checks of a kind before its content is known (R644, R657, R665 reasons 1 to 6). -/
def State.beginBad (s : State) (kind total : Nat) : Option (Nat × Nat × Option Nat) :=
  if 7 < kind then some (2, 6, none)
  else if kind ≠ 0 ∧ kind ≠ 1 ∧ kind ≠ 7 then some (4, 4, none)
  else if s.store.recovery ∧ kind ≠ 7 then some (1, 1, none)
  else if kind = 0 then (if s.safetyBusy then some (5, 2, none) else if total ≠ 72 ∧ total ≠ 72 + imageLen then some (2, 4, none) else none)
  else if s.kindBusy kind then some (5, 4, none)
  else if ¬ s.storeUp then some (1, 1, none)
  else if kind = 1 then
    (if s.lifecycle ≠ 0 ∧ s.lifecycle ≠ 1 ∧ s.lifecycle ≠ 3 then some (1, 1, none) else if total ≠ 1856 then some (2, 4, none) else none)
  else if bankSize 7 - 32 < total then some (2, 4, none)
  else match s.updateHeld with
    | some r => some (1, 1, some r)
    | none =>
      if s.updateClosed then some (1, 1, some 5)
      else if s.store.life.boot.trial ≠ 0xFF ∨ s.shut.active ∨ s.safetyBusy then some (1, 1, some 6)
      else none

/-- UPDATE_REFUSED with its reason (R665). -/
def State.updateRefused (s : State) (r : Option Nat) : State :=
  match r with
  | some r => s.raise 0xA201 1 6 [w32 r]
  | none => s

/-- WRITE_BEGIN: the target of the kind is no longer valid (R642 steps 1 and 2); what a byte that no WRITE_DATA writes holds is stated nowhere. -/
def execWriteBegin (frame : List (BitVec 8)) (s : State) : Out :=
  .next (s.onRequest 3 frame ownerOnly (fun y seq args s =>
    let kind := fieldLe args 0 4
    let total := fieldLe args 4 4
    if y.writing.isSome then s.svcRespond y seq 1 1 0 []
    else match s.beginBad kind total with
      | some (st, det, r) => (s.updateRefused r).svcRespond y seq st det 0 []
      | none =>
        let (v, s1) := s.fresh (8 * total)
        let s2 := if kind = 0 then s1
          else s1.modBank kind (s1.target kind) (fun x => { header := List.replicate 4 0 ++ x.header.drop 4, content := [], factory := false })
        let s3 := if kind = 7 then s2.modTahr (fun t => { t with updating := true }) else s2
        s3.svcRespond { y with writing := some (kind, total, leBytes total v.toNat) } seq 0 0 0 []))

/-- WRITE_DATA (R642 step 3). -/
def execWriteData (frame : List (BitVec 8)) (s : State) : Out :=
  .next (s.onRequest 4 frame ownerOnly (fun y seq args s =>
    let off := fieldLe args 0 4
    let bs := args.drop 4
    match y.writing with
    | none => s.svcRespond y seq 1 1 0 []
    | some (kind, total, buf) =>
      if 1400 < bs.length ∨ total < off + bs.length then s.svcRespond y seq 2 4 0 []
      else s.svcRespond { y with writing := some (kind, total, buf.take off ++ bs ++ buf.drop (off + bs.length)) } seq 0 0 0 []))

/-- A request that answers when its record has been written. -/
def State.svcWait (s : State) (y : SvcSession) (seq : Nat) : State := s.modSvc (fun v => { v with session := some y, waiting := some seq })

/-- WRITE_END: the content as STORE_RECORD takes it, or a SAFETY_CONFIG with ORIGIN 1 (R504). -/
def execWriteEnd (frame : List (BitVec 8)) (s : State) : Out :=
  .next (s.onRequest 5 frame ownerOnly (fun y seq _ s =>
    match y.writing with
    | none => s.svcRespond y seq 1 1 0 []
    | some (kind, _, buf) =>
      let y1 := { y with writing := none }
      let s1 := s.modSvc (fun v => { v with session := some y1 })
      if kind = 0 then
        if s1.safetyBusy then s1.svcRespond y1 seq 5 2 0 []
        else if (s1.safetyWrites buf ∧ s1.lifecycle = 4) ∨ ¬ s1.tahrReached (s1.safetyWrites buf) then s1.svcRespond y1 seq 1 1 0 []
        else
          let (s2, a) := s1.safetyRequest buf 1
          if s1.safetyWrites buf then (s2.svcWait y1 seq).safetyStore .service ⟨noRing, 0, a.status, a.detail, w32 a.result⟩
          else s2.svcRespond y1 seq a.status a.detail a.result (a.image.take 1434)
      else match s1.judgeRecord kind buf with
        | .error (st, det, r) =>
          ((s1.modTahr (fun t => { t with updating := if kind = 7 then false else t.updating })).updateRefused r).svcRespond y1 seq st det 0 []
        | .ok content => (s1.svcWait y1 seq).startRecord kind content .service))

/-- LIFECYCLE (R653, R663): the session stands as the credential; a GUEST may BIND while the device is UNBOUND. -/
def execLifecycle (frame : List (BitVec 8)) (s : State) : Out :=
  .next (s.onRequest 6 frame (fun x s => fieldLe x.payload 1 4 == 3 && !s.store.ident.bound) (fun y seq args s =>
    if s.shut.active then s.svcRespond y seq 1 4 0 []
    else if s.safetyBusy then s.svcRespond y seq 5 2 0 []
    else if ¬ s.tahrReached true then s.svcRespond y seq 1 1 0 []
    else
      let (s1, st, det, r) := s.lifeRequest (fieldLe args 0 4) (fieldLe args 4 4) 1 none y.clientKey
      if det = 6 ∨ s.lifecycle = 4 then s1.svcRespond y seq st det r []
      else (s1.svcWait y seq).safetyStore .service ⟨noRing, 0, st, det, w32 r⟩))

/-- IDENTITY (R661). -/
def execIdentity (frame : List (BitVec 8)) (s : State) : Out :=
  .next (s.onRequest 7 frame (fun _ _ => true) (fun y seq args s => s.svcRespond y seq 0 0 0 (s.identityResponse (args.take 32))))

/-! ## Registers -/

/-- SVC_STATUS. -/
def State.svcStatus (s : State) : Word :=
  packFields [(30, s.store.svc.session.elim 0 (fun x => if x.owner then 2 else 1)), (0, s.store.svc.crcErrors)]

end Sys2Proof.Machine
end

