-- ==== Sys2Proof/Machine/Events.lean ====
section
/-! DEFINITION. The device event queue (21_guarantees.md, R679 to R687), with the always-on buffer of R618 and the taking of the event log (R651). -/

namespace Sys2Proof.Machine

/-- Updates the event queue. -/
def State.modEv (s : State) (f : EventUnit → EventUnit) : State := { s with ev := f s.ev }

/-- Places of the queue, the reorder stage included (R684). -/
def eventPlaces : Nat := 4096

/-- The delay of the reorder stage: 20 µs (R679). -/
def reorderTicks : Nat := 20 * usTicks

/-- Is CTRL-A running: the part has started and stands on BED or above (R601, R618)? -/
def State.ctrlAOn (s : State) : Bool := s.pwr.started && decide (s.pwr.rung ≤ 3)

/-- Does x come before y in the order of R679: TIME, SOURCE, CODE, order of raising? -/
def Staged.before (x y : Staged) : Bool :=
  if x.ev.time ≠ y.ev.time then decide (x.ev.time < y.ev.time)
  else if x.ev.source ≠ y.ev.source then decide (x.ev.source < y.ev.source)
  else if x.ev.code ≠ y.ev.code then decide (x.ev.code < y.ev.code)
  else decide (x.order < y.order)

/-- Puts an entry into the stage, which stays in the order of R679. -/
def stagePut (x : Staged) : List Staged → List Staged
  | [] => [x]
  | y :: ys => if x.before y then x :: y :: ys else y :: stagePut x ys

/-- EVQ_STATUS.FILL (R687). -/
def EventUnit.fill (u : EventUnit) : Nat := u.queue.length + (u.stage.filter (fun x => !x.dropped)).length

/-- Does the log take the event (R651)? -/
def State.logTakes (s : State) (e : Event) : Bool :=
  decide (s.fld Reg.evlogCfg 0 4 ≤ e.sev) || e.code == 0x9005 || e.code == 0xA005 || decide (0xA100 ≤ e.code ∧ e.code ≤ 0xA4FF)

/-- Least severity of a list of events. -/
def leastSev (es : List Nat) : Nat := es.foldl min 15

/-- Removes the first element with a property. -/
def dropFirst {α : Type} (p : α → Bool) : List α → List α
  | [] => []
  | x :: xs => if p x then xs else x :: dropFirst p xs

/-- An event enters the log's buffer: a full buffer drops its oldest entry of the lowest severity (R651). -/
def State.logEvent (s : State) (e : Event) (eseq : Nat) : State :=
  if ¬ s.logTakes e then s
  else s.modStore (fun x =>
    let b := x.evlog.buffer ++ [(e, eseq)]
    let since := some (x.evlog.since.getD s.now)
    if b.length ≤ 256 then { x with evlog := { x.evlog with buffer := b, since := since } }
    else
      let low := leastSev (b.map (fun (p : Event × Nat) => p.1.sev))
      { x with evlog := { x.evlog with
        buffer := dropFirst (fun (p : Event × Nat) => p.1.sev == low) b
        dropped := x.evlog.dropped + 1
        since := since } })

/-- An event is released into the queue: it takes its ESEQ, and reaches the log, the CAN transmit objects and the event rings (R566, R591, R651, R681, R682). -/
def State.enterQueue (s : State) (e : Event) : State :=
  let n := s.ev.eseq
  let s1 := s.modEv (fun u => { u with
    eseq := (n + 1) % 2 ^ 24
    queue := u.queue ++ [⟨e, n, []⟩] })
  ((s1.logEvent e n).canEvent e (eventRecord e n false)).deliverAll

/-- A place is taken from the queue: the oldest entry of the lowest severity, the arriving one counted, released entries being older than staged ones (R684). Answers the state and whether the arriving entry is the one dropped, with the severity dropped. -/
def State.makeRoom (s : State) (e : Event) : State × Bool × Nat :=
  let staged := s.ev.stage.filter (fun x => !x.dropped)
  let low := leastSev (e.sev :: (s.ev.queue.map (fun q => q.ev.sev) ++ staged.map (fun x => x.ev.sev)))
  let count := fun (u : EventUnit) => { u with dropped := holdInc 0xFFFFFFFF u.dropped }
  if s.ev.queue.any (fun q => q.ev.sev == low) then
    (s.modEv (fun u => count { u with queue := dropFirst (fun q => q.ev.sev == low) u.queue }), false, low)
  else
    match staged.find? (fun x => x.ev.sev == low) with
    | some x => (s.modEv (fun u => count { u with stage := u.stage.map (fun y => if y.order = x.order then { y with dropped := true } else y) }), false, low)
    | none => (s.modEv count, true, low)

/-- EVQ_DROPPING after 1 s without drops (R684). -/
def State.noteDrop (s : State) (sev : Nat) : State :=
  let s1 := s.modEv (fun u => { u with lastDrop := some s.now })
  if rateOk s.ev.lastDrop s.now sTicks then s1.raise 0x0301 1 14 [w32 s1.ev.dropped, w32 sev] else s1

/-- A late event enters at once; dropped, it only takes its ESEQ (R680, R681). -/
def State.arriveLate (s : State) (e : Event) (gone : Bool) : State :=
  let s1 := s.modEv (fun u => { u with late := holdInc 0xFFFF u.late })
  if gone then s1.modEv (fun u => { u with eseq := (u.eseq + 1) % 2 ^ 24 }) else s1.enterQueue e

/-- An event reaches CTRL-A (R679, R680, R684). -/
def State.arrive (s : State) (e : Event) (order : Nat) : State :=
  let r := if s.ev.fill < eventPlaces then (s, false, 0) else s.makeRoom e
  let s1 := if e.time + reorderTicks < s.now then r.1.arriveLate e r.2.1
    else r.1.modEv (fun u => { u with stage := stagePut ⟨e, order, r.2.1⟩ u.stage })
  if s.ev.fill < eventPlaces then s1 else s1.noteDrop r.2.2

/-- EVENT_ARRIVAL (R618, R679 to R681, R684): one of the events on their way, those of the always-on domain first, reaches CTRL-A; with CTRL-A off it waits in the always-on domain, which drops the newest when it is full. -/
def execEventArrival (index : Nat) (s : State) : Out :=
  let held := s.ev.aon.length
  match (s.ev.aon ++ s.ev.raised)[index]? with
  | none => .next s
  | some (e, order) =>
    if s.ctrlAOn then
      .next ((s.modEv (fun u => { u with
        aon := u.aon.eraseIdx index
        raised := if index < held then u.raised else u.raised.eraseIdx (index - held) })).arrive e order)
    else if index < held then .next s
    else
      let s1 := s.modEv (fun u => { u with raised := u.raised.eraseIdx (index - held) })
      .next (s1.modEv (fun u => if held < 8 then { u with aon := u.aon ++ [(e, order)] } else { u with aonDropped := holdInc 0xFFFF u.aonDropped }))

/-- EVENT_RELEASE (R566, R591, R651, R679, R681, R682): the first entry of the reorder stage is released once its time has come. -/
def execEventRelease (s : State) : Out :=
  match s.ev.stage with
  | [] => .next s
  | x :: xs =>
    if ¬ s.ctrlAOn ∨ s.now < x.ev.time + reorderTicks then .next s
    else
      let s1 := s.modEv (fun u => { u with stage := xs })
      if x.dropped then .next (s1.modEv (fun u => { u with eseq := (u.eseq + 1) % 2 ^ 24 }))
      else .next (s1.enterQueue x.ev)

/-- EVQ_STATUS (R687). -/
def State.evqStatus (s : State) : Word := w32 s.ev.fill
/-- EVQ_LATE. -/
def State.evqLate (s : State) : Word := packFields [(16, s.ev.aonDropped), (0, s.ev.late)]

end Sys2Proof.Machine
end

