-- ==== Sys2Proof/Machine/Setup.lean ====
section
/-! DEFINITION. SETUP_LOCK (22_setup_registers.md, R695 to R698): the set-up checks, and what the firmware does once they have ended. -/

namespace Sys2Proof.Machine

/-- Updates the global registers' state. -/
def State.modGlb (s : State) (f : GlobalUnit → GlobalUnit) : State := { s with glb := f s.glb }

/-- Channels of the part with CH_CARRIER.EN set. -/
def State.askedChannels (s : State) : List Channel := (idxs 8).filter (fun c => s.hasChannel c && bitAt (s.reg (Reg.chCarrier c.val)) 31)

/-- Channels found bad, added without repetition. -/
def joinChannels (a b : List Channel) : List Channel := a ++ b.filter (fun c => !a.contains c)

/-- R369: MOD_CONFIG_BAD for each leg that does not fit; the channels that fail. -/
def State.modChecks (s : State) : State × List Channel :=
  let bad := s.askedChannels.filter (fun c => !(s.modErrors c).isEmpty)
  (bad.foldl (fun s c => (s.modErrors c).foldl (fun s e => s.raise 0x5103 c.val 10 [w32 e.1, w32 e.2]) s) s, bad)

/-- R410: the first position whose counts do not fit. -/
def State.gaBadPort (s : State) (c : Channel) : Option Port :=
  if s.gaOn c then ((idxs 6).map (fun p => portOf c p)).find? (fun t => !decide (s.nFloor t ≤ s.nRated t ∧ s.nRated t ≤ s.diesOf c)) else none

/-- R410: GA_CONFIG_BAD with reason 1; the channels that fail. -/
def State.gaChecks (s : State) : State × List Channel :=
  let bad := (idxs 8).filterMap (fun c => if s.hasChannel c then (s.gaBadPort c).map (fun t => (c, t)) else none)
  (bad.foldl (fun s (b : Channel × Port) => s.raise 0x501A b.1.val 10 [1, w32 b.2.val]) s, bad.map (fun b => b.1))

/-- R437: METHOD kept as NONE where a discharge could not stop in time. -/
def State.dischChecks (s : State) : State :=
  ((idxs 8).filter (fun c => s.hasChannel c && s.dischTooSlow c)).foldl (fun s c =>
    (s.modProt c (fun p => { p with noDischarge := true })).raise 0x6006 c.val 10 [1]) s

/-- R573: reason of the first error of a freshness set-up. -/
def State.freshBad (s : State) (c : Channel) : Option Nat :=
  let w := s.reg (Reg.freshCfg c.val)
  let g := bitsAt w 0 18
  let a := s.fld (Reg.freshAlt c.val) 0 18
  let within := decide (chBase c ≤ g ∧ g < chBase c + 0x1000) || decide (0x20000 ≤ g) || decide (0x1C000 ≤ g ∧ g < 0x20000)
  if ¬ bitAt w 31 then none
  else if ¬ within then some 1
  else if bitAt w 30 ∧ ¬ s.canEntries.any (fun e => e.len == 21 && e.covers a) = true then some 2
  else none

/-- R573: HOST_CONFIG_BAD, and freshness off for the channel. -/
def State.freshChecks (s : State) : State :=
  (idxs 8).foldl (fun u c =>
    match (if s.hasChannel c then s.freshBad c else none) with
    | none => u
    | some r => (u.modGlb (fun g => { g with freshOff := g.freshOff ||| BitVec.ofNat 8 (2 ^ c.val) })).raise 0x9009 c.val 8 [w32 r]) s

/-- Enables the channels that no check has found bad. -/
def State.enableChannels (s : State) (bad : List Channel) : State :=
  (s.askedChannels.filter (fun c => !bad.contains c)).foldl (fun s c => s.modCh c (fun x => { x with enabled := true })) s

/-- R70: a follower is judged after every other check of its leader. -/
def State.leaderChecks (s : State) : State × List Channel :=
  let bad := s.askedChannels.filter (fun c => s.carrierReason c != 0)
  (bad.foldl (fun u c => u.raise 0x1016 c.val 10 [w32 (s.carrierReason c)]) s, bad)

/-- Is the position side of a SENSE die checked: its die is in the part. -/
def State.posAll (s : State) : State × List Channel :=
  ((idxs 2).filter (fun d => s.hasDie (senseDie d))).foldl (fun (r : State × List Channel) d =>
    let q := r.1.posChecks d
    (q.1, joinChannels r.2 q.2)) (s, [])

/-- Step 2 of R696: every check; its failures leave their objects disabled. -/
def State.setupChecks (s : State) : State :=
  let r1 := s.senseChecks (fun base len => s.regionRetired base len)
  let r2 := r1.1.posAll
  let r3 := r2.1.modChecks
  let r4 := r3.1.gaChecks
  let s5 := (r4.1.dischChecks).slotChecks
  let s6 := s5.canChecks.freshChecks
  let bad := joinChannels r1.2 (joinChannels r2.2 (joinChannels r3.2 r4.2))
  let s7 := s6.enableChannels bad
  let r8 := s7.leaderChecks
  let off := (s.askedChannels.filter (fun c => bad.contains c || r8.2.contains c))
  let s8 := r8.2.foldl (fun s c => s.modCh c (fun x => { x with enabled := false })) r8.1
  s8.modGlb (fun g => { g with chDisabled := off.foldl (fun m c => m ||| BitVec.ofNat 8 (2 ^ c.val)) 0 })

/-- SETUP_LOCK (R696 steps 1 and 2): a write of 1 to SETUP_CTRL.SETUP_LOCK, once; any other write changes nothing. -/
def execSetupLock (value : BitVec 32) (s : State) : Out :=
  if s.glb.locked ∨ ¬ bitAt value 0 then .next s
  else
    let s1 := (s.modGlb (fun g => { g with
      locked := true
      lockedAt := s.now
      startFrom := s.now })).setReg Reg.setupCtrl 1
    .next s1.namePointers.setupChecks.judgeFloors

/-- SETUP_STATUS. -/
def State.setupStatusReg (s : State) : Word :=
  packFields [(31, b2n s.glb.checked), (16, s.glb.chDisabled.toNat), (0, s.glb.slotsDisabled.toNat)]

/-- SETUP_LOCKED (R696 step 3): the entries of the enabled objects, CHECKED, and the event. The set-up words of SENSE, LINK and AUX travel there as one pseudo-run (R28, R450). -/
def execSetupLocked (s : State) : Out :=
  if ¬ s.glb.locked ∨ s.glb.checked then .next s
  else
    let s1 := ((s.addLate s.lockEntries).applyToB).modGlb (fun g => { g with checked := true })
    .next ((s1.pseudoRun (s.regs.filter (fun w => setupFlit w.1))).raise 0x0401 1 3 [w32 s.glb.chDisabled.toNat, w32 s.glb.slotsDisabled.toNat]).canStarts

end Sys2Proof.Machine
end

