-- ==== Sys2Proof/Machine/Views.lean ====
section
/-! DEFINITION. What a read of each register of the set-up window shows (22_setup_registers.md, R689 to R694, and the register tables of the other chapters), and the status pins FAULT_N and SAFE_STATE_N (R442, R699). -/

namespace Sys2Proof.Machine

/-! ## Global registers -/

/-- GLB_ID. -/
def State.glbId (s : State) : Word := match s.part with
  | .nb7808 => 0x78080101
  | .nb7806 => 0x78060101

/-- Dies in the order of their numbers 1 to 8. -/
def dieList : List Die := [.ctrlA, .ctrlB, .safe, .sense0, .sense1, .link, .aux, .store]

/-- GLB_DIES. -/
def State.glbDies (s : State) : Word :=
  packFields ((dieList.map (fun d => (8 + d.code, b2n s.wires.dieFault[d.ix]))) ++ dieList.map (fun d => (d.code, b2n (s.hasDie d))))

/-- Any DIE_FAULT wire is asserted. -/
def State.anyDieFault (s : State) : Bool := dieList.any (fun d => s.wires.dieFault[d.ix])

/-- GLB_FAULT. -/
def State.glbFault (s : State) : Word :=
  packFields [(31, b2n (!s.pwr.started)), (8, b2n ((idxs 2).any (fun d => s.plan[d].avsFailed))), (7, b2n s.tahr.chamoisFault),
    (6, b2n s.tahr.unbound), (5, b2n s.store.recovery), (4, b2n s.pwr.wakeFail), (3, b2n s.lock.failed), (2, b2n s.tahr.blocked),
    (1, b2n (s.tb.holdover || s.tb.failed)), (0, b2n s.anyDieFault)]

/-- FAULT_N is low (R699): until STARTING clears, then while an unmasked cause is active; cause 4 is never masked. -/
def State.faultLow (s : State) : Bool :=
  !s.pwr.started || (s.glbFault &&& 0x1FF &&& ~~~(s.reg Reg.glbFaultMask &&& ~~~0x10)) != 0

/-! ## CTRL-A and CTRL-B -/

/-- Code of a slot's state. -/
def SlotState.code : SlotState → Nat
  | .empty => 0
  | .loaded => 1
  | .active => 2
  | .retiring => 3

/-- Code of an engine's phase. -/
def EngPhase.code : EngPhase → Nat
  | .idle => 0
  | .starting => 1
  | .running => 2
  | .waiting => 3
  | .committing => 4

/-- ENG_STATUS_n. -/
def Engine.status (e : Engine) : Word :=
  packFields [(29, e.phase.code), (16, e.run.elim 0xFF (fun r => r.slot.val)), (0, min 0xFFFF e.fails)]

/-- PROG_SLOT_c. -/
def Slot.status (x : Slot) : Word :=
  packFields [(30, x.state.code), (27, x.channel.val), (23, x.engine.val), (15, (x.div - 1) % 256), (14, b2n x.samplePath), (0, (x.nInstr - 1) % 2 ^ 14)]

/-- A register family: first offset, stride, members, and what member i shows. -/
structure RegView where
  base : Nat
  stride : Nat
  count : Nat
  value : Nat → Word

/-- Is the offset a member's? -/
def RegView.has (v : RegView) (off : Nat) : Bool := decide (v.base ≤ off) && (off - v.base) % v.stride == 0 && decide ((off - v.base) / v.stride < v.count)

/-- What the views show at an offset. -/
def viewAt (vs : List RegView) (off : Nat) : Option Word := (vs.find? (fun v => v.has off)).map (fun v => v.value ((off - v.base) / v.stride))

/-- Status registers of a control die, by their offset within its window. -/
def State.ctrlViews (s : State) (d : CtrlId) : List RegView :=
  let x := s.die d
  let p := s.plan[d.ix]
  [⟨0x400, 4, 1, fun _ => x.dirStatus⟩, ⟨0x404, 4, 1, fun _ => w32 x.eccCorr⟩, ⟨0x408, 4, 1, fun _ => x.eccUncorrReg⟩,
   ⟨0x800, 4, 16, fun i => (x.engines[finOf 15 i]).status⟩, ⟨0xA00, 4, 128, fun i => (x.slots[finOf 127 i]).status⟩,
   ⟨0xD00, 4, 16, fun i => velvetEngReg p.engines[finOf 15 i]⟩,
   ⟨0xD40, 4, 8, fun i => packFields [(31, b2n p.memories[finOf 7 i].failed), (0, min 0xFFFF (s.rho d (finOf 7 i)))]⟩,
   ⟨0xD60, 4, 1, fun _ => w32 (min 0xFFFFF p.lossShown)⟩, ⟨0xE08, 4, 1, fun _ => p.status⟩]

/-! ## The other windows -/

/-- CH_SYNC_STATUS. -/
def State.chSyncStatus (s : State) (c : Channel) : Word :=
  let o := s.ch[s.syncOwner c]
  packFields [(9, b2n o.armed), (8, b2n o.syncLost), (4, min 4 o.missed), (0, o.sync.code)]

/-- LOCK_STATUS, SAFE and the others of SAFE's window, with PART's global, LINK's, AUX's, STORE's and the ring engine's status registers. -/
def State.fixedViews (s : State) : List RegView :=
  let one := fun (off : Nat) (v : Word) => (⟨off, 4, 1, fun _ => v⟩ : RegView)
  [one Reg.glbId s.glbId, one Reg.glbDies s.glbDies, one Reg.glbFault s.glbFault, one Reg.setupStatus s.setupStatusReg,
   one Reg.pwrStatus s.pwrStatusReg, one 0x10C (s.pwr.rails.zeroExtend 32), one 0x208 s.stStatus, one 0x20C s.stCapacity,
   one 0x214 s.stLog.1, one 0x218 s.stLog.2, ⟨0x220, 4, 4, fun i => s.regionMask 5 (32 * i)⟩, one 0x230 (s.regionMask 4 0),
   one 0x30000 s.safeStatus, one 0x30004 (imageCrc s.tahr.image), one 0x30008 (imageSerial s.tahr.image), one 0x30010 s.tahr.levels,
   one 0x30014 s.chamois.levels, ⟨0x30020, 4, 16, fun k => s.safePairReg (finOf 15 k)⟩,
   ⟨0x30060, 4, 16, fun f => w32 (s.tahr.fns[finOf 15 f]).state.code⟩, ⟨0x300A0, 4, 8, fun c => s.safeChReg (finOf 7 c)⟩, one 0x300C0 s.safeSoReg,
   one 0x30200 s.lockStatusReg, one 0x30204 s.lockCountReg, one 0x30208 s.lock.last]

/-- Status registers of the SENSE dies. -/
def State.senseViews (s : State) : List RegView :=
  (idxs 2).flatMap (fun d =>
    let b := 0x40000 + 0x10000 * d.val
    [(⟨b + 0x8E0, 4, 1, fun _ => (s.sense[d]).owLo⟩ : RegView), ⟨b + 0x8E4, 4, 1, fun _ => (s.sense[d]).owHi⟩,
     ⟨b + 0x1104, 0x20, 4, fun u => ((s.pos[d]).cmp[finOf 3 u]).status⟩])

/-- Status registers of LINK. -/
def State.linkViews (s : State) : List RegView :=
  [⟨0x60000, 4, 1, fun _ => s.tbStatus⟩, ⟨0x60008, 4, 1, fun _ => w32 s.now⟩, ⟨0x6000C, 4, 1, fun _ => s.tb.hiLatch⟩,
   ⟨0x60110, 0x20, 8, fun c => s.chSyncStatus (finOf 7 c)⟩, ⟨0x60414, 0x20, 8, fun c => s.modStatus (finOf 7 c)⟩]
    ++ (List.range 6).map (fun p => ⟨0x60820 + 4 * p, 0x40, 8, fun c => (s.gates[finOf 47 (6 * c + p)]).retired.zeroExtend 32⟩)
    ++ [⟨0x60C00, 0x10, 48, fun t => s.tpStatus (finOf 47 t)⟩, ⟨0x60C04, 0x10, 48, fun t => s.tpTime (finOf 47 t)⟩,
        ⟨0x60C08, 0x10, 48, fun t => (s.ports[finOf 47 t]).satId.extractLsb' 0 32⟩, ⟨0x60C0C, 0x10, 48, fun t => (s.ports[finOf 47 t]).idHi⟩,
        ⟨0x61024, 0x40, 8, fun c => s.protStatus (finOf 7 c)⟩, ⟨0x61204, 4, 1, fun _ => s.shutStatusReg⟩]

/-- Status registers of AUX and of STORE. -/
def State.storeViews (s : State) : List RegView :=
  [⟨0x70000, 4, 1, fun _ => s.auxStatus⟩, ⟨0x70004, 4, 1, fun _ => w32 (min 0xFFFF s.aux.vmMv)⟩, ⟨0x70008, 4, 1, fun _ => s.aux.bst.extractLsb' 0 32⟩,
   ⟨0x7000C, 4, 1, fun _ => (s.aux.bst.extractLsb' 32 16).zeroExtend 32⟩, ⟨0x70150, 0x80, 16, fun n => s.slotStatusReg (finOf 15 n)⟩,
   ⟨0x80000, 4, 1, fun _ => s.storeStatus⟩, ⟨0x80018, 8, 7, fun k => s.storeKind (k + 1)⟩, ⟨0x8001C, 8, 7, fun k => s.storeSeq (k + 1)⟩,
   ⟨0x80100, 4, 1, fun _ => s.fwStatus⟩, ⟨0x80104, 4, 1, fun _ => w32 (s.fwVersion s.runningSlot)⟩, ⟨0x80200, 4, 1, fun _ => s.lcStatus⟩,
   ⟨0x80204, 4, 1, fun _ => w32 s.store.nonce.toNat⟩, ⟨0x80208, 4, 1, fun _ => s.store.nonceHi⟩, ⟨0x8020C, 4, 1, fun _ => w32 Config.deviceId.toNat⟩,
   ⟨0x80210, 4, 1, fun _ => s.store.idHi⟩]

/-- Status registers of the ring engine, the CAN controllers and the service port. -/
def State.hostViews (s : State) : List RegView :=
  let r := s.ring s.selRing
  [⟨0x90004, 4, 1, fun _ => s.reStatus⟩, ⟨0x90040, 4, 1, fun _ => 0⟩, ⟨0x90044, 4, 1, fun _ => s.ringOpStatus⟩, ⟨0x90048, 4, 1, fun _ => w32 r.dev⟩,
   ⟨0x9004C, 4, 1, fun _ => w32 r.host⟩, ⟨0x90050, 4, 1, fun _ => s.ringStateReg⟩, ⟨0x90060, 4, 1, fun _ => s.evqStatus⟩,
   ⟨0x90064, 4, 1, fun _ => w32 s.ev.dropped⟩, ⟨0x90068, 4, 1, fun _ => s.evqLate⟩,
   ⟨0x97F00, 4, 64, fun i => w32 ((List.range 32).foldl (fun m b => if s.re.pba.contains (32 * i + b) then m + 2 ^ b else m) 0)⟩,
   ⟨0xA0010, 0x4000, 4, fun k => s.canStatusReg (finOf 3 k)⟩, ⟨0xA0014, 0x4000, 4, fun k => s.canCountReg (finOf 3 k)⟩,
   ⟨0xA0018, 0x4000, 4, fun k => w32 (s.ctl (finOf 3 k)).tdc⟩, ⟨0xA0204, 0x4000, 4, fun k => s.canFlagsReg (finOf 3 k)⟩]
    ++ (List.range 21).map (fun w => ⟨0xA0240 + 4 * w, 0x4000, 4, fun k => s.canDataReg (finOf 3 k) w⟩)
    ++ [⟨0xB0004, 4, 1, fun _ => s.svcStatus⟩, ⟨0xB0008, 4, 1, fun _ => w32 s.store.svc.lastSeq⟩]

/-- Every status register but those of the control dies. -/
def State.views (s : State) : List RegView := s.fixedViews ++ s.senseViews ++ s.linkViews ++ s.storeViews ++ s.hostViews

/-- What a read at an offset shows, 0 where it is no aligned word (R537): (R689, R690, R694): a status register its present state, a field the host writes its stored value, an offset the map does not name zero. In CTRL-B's window a configuration field reads the value applied to CTRL-B; what belongs to a die, channel or port the part lacks reads zero (R2, R5). The latching of R51 and R693 is the effect of the rows that read DEV_TIME_LO, TP_ID_LO, DEV_ID_LO and LC_NONCE_LO. -/
def State.readReg (s : State) (off : Nat) : Word :=
  let w := off / 0x10000
  if off % 4 ≠ 0 then 0
  else if s.part = .nb7806 ∧ (w = 5 ∨ w = 7 ∨ absentReg off = true) then 0
  else if w = 1 then (viewAt (s.ctrlViews .a) (off - 0x10000)).getD (s.reg off)
  else if w = 2 then
    if (regAt (off - 0x10000)).isNone then 0 else (viewAt (s.ctrlViews .b) (off - 0x20000)).getD (s.ctrlReg .b (off - 0x10000))
  else (viewAt s.views off).getD (s.reg off)

end Sys2Proof.Machine
end

