-- ==== Sys2Proof/Machine/Dispatch.lean ====
section
/-! DEFINITION. One arm per command: each calls its meaning directly. -/

namespace Sys2Proof.Machine

def exec (i : Instr) (s : State) : Host.Outcome State Fault Refusal :=
  match i with
  | .flit link bits => Sys2Proof.Machine.execFlit link bits s
  | .negativeAcknowledgement link seq => Sys2Proof.Machine.execNegativeAcknowledgement link seq s
  | .acknowledgementTimeout link => Sys2Proof.Machine.execAcknowledgementTimeout link s
  | .forwardedEffect => Sys2Proof.Machine.execForwardedEffect s
  | .dieFault die => Sys2Proof.Machine.execDieFault die s
  | .referenceSet ch => Sys2Proof.Machine.execReferenceSet ch s
  | .cutOffInstant ch => Sys2Proof.Machine.execCutOffInstant ch s
  | .timeBaseLock => Sys2Proof.Machine.execTimeBaseLock s
  | .lockTimeout => Sys2Proof.Machine.execLockTimeout s
  | .referenceLost lastEdge => Sys2Proof.Machine.execReferenceLost lastEdge s
  | .referenceReturn => Sys2Proof.Machine.execReferenceReturn s
  | .holdoverTimeout => Sys2Proof.Machine.execHoldoverTimeout s
  | .devTimeLo => Sys2Proof.Machine.execDevTimeLo s
  | .timeCode die code crc => Sys2Proof.Machine.execTimeCode die code crc s
  | .frameMessage die message => Sys2Proof.Machine.execFrameMessage die message s
  | .resyncMessage die message => Sys2Proof.Machine.execResyncMessage die message s
  | .timerMatch die index => Sys2Proof.Machine.execTimerMatch die index s
  | .sampleInstant ch bits => Sys2Proof.Machine.execSampleInstant ch bits s
  | .frameBoundary ch => Sys2Proof.Machine.execFrameBoundary ch s
  | .carrierStart => Sys2Proof.Machine.execCarrierStart s
  | .syncEdge edge => Sys2Proof.Machine.execSyncEdge edge s
  | .missedEdge ch => Sys2Proof.Machine.execMissedEdge ch s
  | .missedTarget ch => Sys2Proof.Machine.execMissedTarget ch s
  | .syncOutPulseEnd => Sys2Proof.Machine.execSyncOutPulseEnd s
  | .chResync ch value => Sys2Proof.Machine.execChResync ch value s
  | .resyncDropped ch => Sys2Proof.Machine.execResyncDropped ch s
  | .hardResync ch => Sys2Proof.Machine.execHardResync ch s
  | .resyncHoldEnd ch => Sys2Proof.Machine.execResyncHoldEnd ch s
  | .phaseJump ch => Sys2Proof.Machine.execPhaseJump ch s
  | .scrub die upsets => Sys2Proof.Machine.execScrub die upsets s
  | .runReady die slot => Sys2Proof.Machine.execRunReady die slot s
  | .runStart die engine => Sys2Proof.Machine.execRunStart die engine s
  | .nop die engine => Sys2Proof.Machine.execNop die engine s
  | .fend die engine => Sys2Proof.Machine.execFend die engine s
  | .wait die engine => Sys2Proof.Machine.execWait die engine s
  | .waitCompletion die engine => Sys2Proof.Machine.execWaitCompletion die engine s
  | .br die engine => Sys2Proof.Machine.execBr die engine s
  | .bz die engine => Sys2Proof.Machine.execBz die engine s
  | .bnz die engine => Sys2Proof.Machine.execBnz die engine s
  | .lps die engine => Sys2Proof.Machine.execLps die engine s
  | .lpe die engine => Sys2Proof.Machine.execLpe die engine s
  | .rinfo die engine => Sys2Proof.Machine.execRinfo die engine s
  | .add die engine => Sys2Proof.Machine.execAdd die engine s
  | .sub die engine => Sys2Proof.Machine.execSub die engine s
  | .mul die engine => Sys2Proof.Machine.execMul die engine s
  | .mulh die engine => Sys2Proof.Machine.execMulh die engine s
  | .mulhu die engine => Sys2Proof.Machine.execMulhu die engine s
  | .and die engine => Sys2Proof.Machine.execAnd die engine s
  | .or die engine => Sys2Proof.Machine.execOr die engine s
  | .xor die engine => Sys2Proof.Machine.execXor die engine s
  | .shl die engine => Sys2Proof.Machine.execShl die engine s
  | .shr die engine => Sys2Proof.Machine.execShr die engine s
  | .sar die engine => Sys2Proof.Machine.execSar die engine s
  | .min die engine => Sys2Proof.Machine.execMin die engine s
  | .max die engine => Sys2Proof.Machine.execMax die engine s
  | .minu die engine => Sys2Proof.Machine.execMinu die engine s
  | .maxu die engine => Sys2Proof.Machine.execMaxu die engine s
  | .seq die engine => Sys2Proof.Machine.execSeq die engine s
  | .slt die engine => Sys2Proof.Machine.execSlt die engine s
  | .sltu die engine => Sys2Proof.Machine.execSltu die engine s
  | .sel die engine => Sys2Proof.Machine.execSel die engine s
  | .movi die engine => Sys2Proof.Machine.execMovi die engine s
  | .qmul die engine => Sys2Proof.Machine.execQmul die engine s
  | .qint die engine => Sys2Proof.Machine.execQint die engine s
  | .sadd die engine => Sys2Proof.Machine.execSadd die engine s
  | .ssub die engine => Sys2Proof.Machine.execSsub die engine s
  | .fadd die engine => Sys2Proof.Machine.execFadd die engine s
  | .fsub die engine => Sys2Proof.Machine.execFsub die engine s
  | .fmul die engine => Sys2Proof.Machine.execFmul die engine s
  | .fma die engine => Sys2Proof.Machine.execFma die engine s
  | .fms die engine => Sys2Proof.Machine.execFms die engine s
  | .fnma die engine => Sys2Proof.Machine.execFnma die engine s
  | .fdiv die engine => Sys2Proof.Machine.execFdiv die engine s
  | .fsqrt die engine => Sys2Proof.Machine.execFsqrt die engine s
  | .frsq die engine => Sys2Proof.Machine.execFrsq die engine s
  | .fmin die engine => Sys2Proof.Machine.execFmin die engine s
  | .fmax die engine => Sys2Proof.Machine.execFmax die engine s
  | .fabs die engine => Sys2Proof.Machine.execFabs die engine s
  | .fneg die engine => Sys2Proof.Machine.execFneg die engine s
  | .feq die engine => Sys2Proof.Machine.execFeq die engine s
  | .flt die engine => Sys2Proof.Machine.execFlt die engine s
  | .fle die engine => Sys2Proof.Machine.execFle die engine s
  | .fclamp die engine => Sys2Proof.Machine.execFclamp die engine s
  | .cvtfi die engine => Sys2Proof.Machine.execCvtfi die engine s
  | .cvtif die engine => Sys2Proof.Machine.execCvtif die engine s
  | .cvtuf die engine => Sys2Proof.Machine.execCvtuf die engine s
  | .cvtfq die engine => Sys2Proof.Machine.execCvtfq die engine s
  | .cvtqf die engine => Sys2Proof.Machine.execCvtqf die engine s
  | .sincos die engine => Sys2Proof.Machine.execSincos die engine s
  | .atan2 die engine => Sys2Proof.Machine.execAtan2 die engine s
  | .aadd die engine => Sys2Proof.Machine.execAadd die engine s
  | .asub die engine => Sys2Proof.Machine.execAsub die engine s
  | .cvtaf die engine => Sys2Proof.Machine.execCvtaf die engine s
  | .cvtfa die engine => Sys2Proof.Machine.execCvtfa die engine s
  | .lds die engine => Sys2Proof.Machine.execLds die engine s
  | .ldv die engine => Sys2Proof.Machine.execLdv die engine s
  | .sts die engine => Sys2Proof.Machine.execSts die engine s
  | .stv die engine => Sys2Proof.Machine.execStv die engine s
  | .tl1 die engine => Sys2Proof.Machine.execTl1 die engine s
  | .tl1r die engine => Sys2Proof.Machine.execTl1r die engine s
  | .tl2 die engine => Sys2Proof.Machine.execTl2 die engine s
  | .tl2r die engine => Sys2Proof.Machine.execTl2r die engine s
  | .xrd die engine => Sys2Proof.Machine.execXrd die engine s
  | .xmov die engine => Sys2Proof.Machine.execXmov die engine s
  | .xadd die engine => Sys2Proof.Machine.execXadd die engine s
  | .xsub die engine => Sys2Proof.Machine.execXsub die engine s
  | .xst die engine => Sys2Proof.Machine.execXst die engine s
  | .velvetReading die delays => Sys2Proof.Machine.execVelvetReading die delays s
  | .programMove slot => Sys2Proof.Machine.execProgramMove slot s
  | .ageingPairReading die stressed unstressed => Sys2Proof.Machine.execAgeingPairReading die stressed unstressed s
  | .eolMargin => Sys2Proof.Machine.execEolMargin s
  | .ageingRecord hotA hotB => Sys2Proof.Machine.execAgeingRecord hotA hotB s
  | .planDecision => Sys2Proof.Machine.execPlanDecision s
  | .avsReadback die mV => Sys2Proof.Machine.execAvsReadback die mV s
  | .avsTimeout die => Sys2Proof.Machine.execAvsTimeout die s
  | .runDeadline slot => Sys2Proof.Machine.execRunDeadline slot s
  | .swapBoundary ch => Sys2Proof.Machine.execSwapBoundary ch s
  | .sdmStuck die input bits => Sys2Proof.Machine.execSdmStuck die input bits s
  | .sdmRestored die input bits => Sys2Proof.Machine.execSdmRestored die input bits s
  | .filterSettled die input bits => Sys2Proof.Machine.execFilterSettled die input bits s
  | .sinc1Trip die input bits => Sys2Proof.Machine.execSinc1Trip die input bits s
  | .ocTripRelease ch => Sys2Proof.Machine.execOcTripRelease ch s
  | .adcTimerTrigger die conv => Sys2Proof.Machine.execAdcTimerTrigger die conv s
  | .conversionEnd die conv nanovolts => Sys2Proof.Machine.execConversionEnd die conv nanovolts s
  | .urgentRequest ch => Sys2Proof.Machine.execUrgentRequest ch s
  | .urgentConversionEnd die conv nanovolts => Sys2Proof.Machine.execUrgentConversionEnd die conv nanovolts s
  | .plausibilityPeriod die pair => Sys2Proof.Machine.execPlausibilityPeriod die pair s
  | .housekeeping die => Sys2Proof.Machine.execHousekeeping die s
  | .measDelivery ch second => Sys2Proof.Machine.execMeasDelivery ch second s
  | .measLate ch => Sys2Proof.Machine.execMeasLate ch s
  | .smpRptr buffer value => Sys2Proof.Machine.execSmpRptr buffer value s
  | .owStatus die index value => Sys2Proof.Machine.execOwStatus die index value s
  | .resolverSample die pif aSin aCos bSin bCos => Sys2Proof.Machine.execResolverSample die pif aSin aCos bSin bCos s
  | .ssiRequest die pif dataHigh => Sys2Proof.Machine.execSsiRequest die pif dataHigh s
  | .ssiWord die pif bits => Sys2Proof.Machine.execSsiWord die pif bits s
  | .monoflopEnd die pif dataHigh => Sys2Proof.Machine.execMonoflopEnd die pif dataHigh s
  | .encoderEdge die pif a b => Sys2Proof.Machine.execEncoderEdge die pif a b s
  | .indexPulse die z => Sys2Proof.Machine.execIndexPulse die z s
  | .countDelivery die pif => Sys2Proof.Machine.execCountDelivery die pif s
  | .observerTimeout die pif => Sys2Proof.Machine.execObserverTimeout die pif s
  | .interfaceSignals die pif => Sys2Proof.Machine.execInterfaceSignals die pif s
  | .compareEvaluation die unit => Sys2Proof.Machine.execCompareEvaluation die unit s
  | .compOutPulseEnd die unit => Sys2Proof.Machine.execCompOutPulseEnd die unit s
  | .cmpCtrl die unit value => Sys2Proof.Machine.execCmpCtrl die unit value s
  | .cmpList die unit entry high value => Sys2Proof.Machine.execCmpList die unit entry high value s
  | .emulatorUpdate die => Sys2Proof.Machine.execEmulatorUpdate die s
  | .characterLockLoss port => Sys2Proof.Machine.execCharacterLockLoss port s
  | .idleLock port => Sys2Proof.Machine.execIdleLock port s
  | .identReqPeriod port => Sys2Proof.Machine.execIdentReqPeriod port s
  | .ident port body valid => Sys2Proof.Machine.execIdent port body valid s
  | .timeMarkSend port => Sys2Proof.Machine.execTimeMarkSend port s
  | .timeMark port frac => Sys2Proof.Machine.execTimeMark port frac s
  | .mark port body valid => Sys2Proof.Machine.execMark port body valid s
  | .satelliteTimeMark port => Sys2Proof.Machine.execSatelliteTimeMark port s
  | .upstreamTimeMark port frac => Sys2Proof.Machine.execUpstreamTimeMark port frac s
  | .echo port body valid => Sys2Proof.Machine.execEcho port body valid s
  | .edge port body valid => Sys2Proof.Machine.execEdge port body valid s
  | .trim port body valid => Sys2Proof.Machine.execTrim port body valid s
  | .config port body valid => Sys2Proof.Machine.execConfig port body valid s
  | .retire port body valid => Sys2Proof.Machine.execRetire port body valid s
  | .clear port body valid => Sys2Proof.Machine.execClear port body valid s
  | .identReq port body valid => Sys2Proof.Machine.execIdentReq port body valid s
  | .resume port body valid => Sys2Proof.Machine.execResume port body valid s
  | .holdSet port data => Sys2Proof.Machine.execHoldSet port data s
  | .holdDeadline port => Sys2Proof.Machine.execHoldDeadline port s
  | .dieSwitch port die => Sys2Proof.Machine.execDieSwitch port die s
  | .halfEnd port meas => Sys2Proof.Machine.execHalfEnd port meas s
  | .satelliteLinkLoss port => Sys2Proof.Machine.execSatelliteLinkLoss port s
  | .desaturation port die supply => Sys2Proof.Machine.execDesaturation port die supply s
  | .overtemperatureCheck port temps => Sys2Proof.Machine.execOvertemperatureCheck port temps s
  | .faultSetRepeat port => Sys2Proof.Machine.execFaultSetRepeat port s
  | .faultSet port data => Sys2Proof.Machine.execFaultSet port data s
  | .faultDecision port => Sys2Proof.Machine.execFaultDecision port s
  | .telem port body valid => Sys2Proof.Machine.execTelem port body valid s
  | .upstreamSilence port => Sys2Proof.Machine.execUpstreamSilence port s
  | .gaUnretire ch value => Sys2Proof.Machine.execGaUnretire ch value s
  | .tpIdLo port => Sys2Proof.Machine.execTpIdLo port s
  | .ocTrip ch => Sys2Proof.Machine.execOcTrip ch s
  | .ocHoldExpiry ch => Sys2Proof.Machine.execOcHoldExpiry ch s
  | .phaseLossWindow ch => Sys2Proof.Machine.execPhaseLossWindow ch s
  | .tAscExpiry ch => Sys2Proof.Machine.execTAscExpiry ch s
  | .release ch => Sys2Proof.Machine.execRelease ch s
  | .disch ch => Sys2Proof.Machine.execDisch ch s
  | .dischStop ch => Sys2Proof.Machine.execDischStop ch s
  | .dischargeTimeout ch => Sys2Proof.Machine.execDischargeTimeout ch s
  | .shutdownVsup millivolts => Sys2Proof.Machine.execShutdownVsup millivolts s
  | .sdRampExpiry => Sys2Proof.Machine.execSdRampExpiry s
  | .shutdownDischargesEnded => Sys2Proof.Machine.execShutdownDischargesEnded s
  | .shutdownDone => Sys2Proof.Machine.execShutdownDone s
  | .vsupDip millivolts => Sys2Proof.Machine.execVsupDip millivolts s
  | .verdict slot => Sys2Proof.Machine.execVerdict slot s
  | .windowClose die lane => Sys2Proof.Machine.execWindowClose die lane s
  | .lanePlan lane => Sys2Proof.Machine.execLanePlan lane s
  | .windowRecord die lane ch frame sig => Sys2Proof.Machine.execWindowRecord die lane ch frame sig s
  | .windowDecision lane => Sys2Proof.Machine.execWindowDecision lane s
  | .laneTimeout lane => Sys2Proof.Machine.execLaneTimeout lane s
  | .comparatorTest failing => Sys2Proof.Machine.execComparatorTest failing s
  | .tahrCycle checks stoABack soBack => Sys2Proof.Machine.execTahrCycle checks stoABack soBack s
  | .safeLevelChange chamois input millivolts => Sys2Proof.Machine.execSafeLevelChange chamois input millivolts s
  | .tChExpiry f => Sys2Proof.Machine.execTChExpiry f s
  | .functionRelease f => Sys2Proof.Machine.execFunctionRelease f s
  | .testPulse t => Sys2Proof.Machine.execTestPulse t s
  | .testPulseSample t millivolts => Sys2Proof.Machine.execTestPulseSample t millivolts s
  | .testPulseEnd t => Sys2Proof.Machine.execTestPulseEnd t s
  | .chamoisParameters equal => Sys2Proof.Machine.execChamoisParameters equal s
  | .tahrStatus valid => Sys2Proof.Machine.execTahrStatus valid s
  | .tahrLost => Sys2Proof.Machine.execTahrLost s
  | .ss1Request ch sto source => Sys2Proof.Machine.execSs1Request ch sto source s
  | .soTest out second => Sys2Proof.Machine.execSoTest out second s
  | .bleat => Sys2Proof.Machine.execBleat s
  | .lockoutExpiry => Sys2Proof.Machine.execLockoutExpiry s
  | .read ring data => Sys2Proof.Machine.execRead ring data s
  | .write ring data => Sys2Proof.Machine.execWrite ring data s
  | .confirm ring data => Sys2Proof.Machine.execConfirm ring data s
  | .setPassword ring data => Sys2Proof.Machine.execSetPassword ring data s
  | .readLog ring data => Sys2Proof.Machine.execReadLog ring data s
  | .ackFault ring data => Sys2Proof.Machine.execAckFault ring data s
  | .hold ring data => Sys2Proof.Machine.execHold ring data s
  | .auxOff => Sys2Proof.Machine.execAuxOff s
  | .auxOffRelease => Sys2Proof.Machine.execAuxOffRelease s
  | .valley slot codes ain pwm => Sys2Proof.Machine.execValley slot codes ain pwm s
  | .legFault slot leg high measured => Sys2Proof.Machine.execLegFault slot leg high measured s
  | .supplyMonitor monitor hb millivolts => Sys2Proof.Machine.execSupplyMonitor monitor hb millivolts s
  | .thermalUpdate slot => Sys2Proof.Machine.execThermalUpdate slot s
  | .slotCommand slot => Sys2Proof.Machine.execSlotCommand slot s
  | .cmdTmoExpiry slot => Sys2Proof.Machine.execCmdTmoExpiry slot s
  | .hallChange slot hall => Sys2Proof.Machine.execHallChange slot hall s
  | .hallTimeout slot => Sys2Proof.Machine.execHallTimeout slot s
  | .blockAdvance slot => Sys2Proof.Machine.execBlockAdvance slot s
  | .pwmInTimeout input => Sys2Proof.Machine.execPwmInTimeout input s
  | .profileUpdate slot => Sys2Proof.Machine.execProfileUpdate slot s
  | .holdReduction slot => Sys2Proof.Machine.execHoldReduction slot s
  | .doorbellTail ring value => Sys2Proof.Machine.execDoorbellTail ring value s
  | .doorbellHead ring value => Sys2Proof.Machine.execDoorbellHead ring value s
  | .enable => Sys2Proof.Machine.execEnable s
  | .disable => Sys2Proof.Machine.execDisable s
  | .readContext => Sys2Proof.Machine.execReadContext s
  | .descriptorFetch ring good bytes => Sys2Proof.Machine.execDescriptorFetch ring good bytes s
  | .descriptorNop ring => Sys2Proof.Machine.execDescriptorNop ring s
  | .fence ring => Sys2Proof.Machine.execFence ring s
  | .fenceCompletion ring => Sys2Proof.Machine.execFenceCompletion ring s
  | .writeSignals ring data => Sys2Proof.Machine.execWriteSignals ring data s
  | .readSignals ring => Sys2Proof.Machine.execReadSignals ring s
  | .writeSignalsAtFrame ring data => Sys2Proof.Machine.execWriteSignalsAtFrame ring data s
  | .timedWriteCommit ch => Sys2Proof.Machine.execTimedWriteCommit ch s
  | .loadProgram ring data => Sys2Proof.Machine.execLoadProgram ring data s
  | .swapProgram ring => Sys2Proof.Machine.execSwapProgram ring s
  | .loadTable ring data => Sys2Proof.Machine.execLoadTable ring data s
  | .armTrace ring data => Sys2Proof.Machine.execArmTrace ring data s
  | .disarm ring => Sys2Proof.Machine.execDisarm ring s
  | .drainTrace ring => Sys2Proof.Machine.execDrainTrace ring s
  | .drainSamples ring => Sys2Proof.Machine.execDrainSamples ring s
  | .channelModeSettings ring => Sys2Proof.Machine.execChannelModeSettings ring s
  | .channelModeResync ring => Sys2Proof.Machine.execChannelModeResync ring s
  | .channelModeRelease ring => Sys2Proof.Machine.execChannelModeRelease ring s
  | .settingsEffect ch => Sys2Proof.Machine.execSettingsEffect ch s
  | .shutdownRequest ring => Sys2Proof.Machine.execShutdownRequest ring s
  | .rungRequest ring => Sys2Proof.Machine.execRungRequest ring s
  | .storeRecord ring data => Sys2Proof.Machine.execStoreRecord ring data s
  | .readRecord ring => Sys2Proof.Machine.execReadRecord ring s
  | .identityChallenge ring => Sys2Proof.Machine.execIdentityChallenge ring s
  | .descriptorCompletion cring => Sys2Proof.Machine.execDescriptorCompletion cring s
  | .modTimeExpiry ring => Sys2Proof.Machine.execModTimeExpiry ring s
  | .disconnect cause => Sys2Proof.Machine.execDisconnect cause s
  | .hostConnect speed width => Sys2Proof.Machine.execHostConnect speed width s
  | .reCtrl value => Sys2Proof.Machine.execReCtrl value s
  | .canFrameReceived k id ide fdf brs esi remote dlc data sof => Sys2Proof.Machine.execCanFrameReceived k id ide fdf brs esi remote dlc data sof s
  | .transmitCommit k object => Sys2Proof.Machine.execTransmitCommit k object s
  | .transmissionEnd k outcome sof => Sys2Proof.Machine.execTransmissionEnd k outcome sof s
  | .recover k => Sys2Proof.Machine.execRecover k s
  | .canBusOn k => Sys2Proof.Machine.execCanBusOn k s
  | .txFlush k => Sys2Proof.Machine.execTxFlush k s
  | .objectLock k object => Sys2Proof.Machine.execObjectLock k object s
  | .objectUnlock k object => Sys2Proof.Machine.execObjectUnlock k object s
  | .canLockTimeout k => Sys2Proof.Machine.execCanLockTimeout k s
  | .canStatusCommit k => Sys2Proof.Machine.execCanStatusCommit k s
  | .targetDescent value => Sys2Proof.Machine.execTargetDescent value s
  | .targetWake value => Sys2Proof.Machine.execTargetWake value s
  | .wakeN => Sys2Proof.Machine.execWakeN s
  | .wakeTimer => Sys2Proof.Machine.execWakeTimer s
  | .ladderImageWritten => Sys2Proof.Machine.execLadderImageWritten s
  | .climbStepReady rails => Sys2Proof.Machine.execClimbStepReady rails s
  | .readyTimeout rails => Sys2Proof.Machine.execReadyTimeout rails s
  | .pwrStatus value => Sys2Proof.Machine.execPwrStatus value s
  | .pwrTimerHi value => Sys2Proof.Machine.execPwrTimerHi value s
  | .powerOn => Sys2Proof.Machine.execPowerOn s
  | .resetN lowTicks refSel ioMillivolts => Sys2Proof.Machine.execResetN lowTicks refSel ioMillivolts s
  | .railFault rail millivolts => Sys2Proof.Machine.execRailFault rail millivolts s
  | .coldStart vsup tahrOk => Sys2Proof.Machine.execColdStart vsup tahrOk s
  | .setupLock value => Sys2Proof.Machine.execSetupLock value s
  | .setupLocked => Sys2Proof.Machine.execSetupLocked s
  | .registerWrite offset value => Sys2Proof.Machine.execRegisterWrite offset value s
  | .start rails tickOk => Sys2Proof.Machine.execStart rails tickOk s
  | .fuse => Sys2Proof.Machine.execFuse s
  | .selfTestEnd cells logic analogue repeats => Sys2Proof.Machine.execSelfTestEnd cells logic analogue repeats s
  | .selfTestAbort rails tickOk => Sys2Proof.Machine.execSelfTestAbort rails tickOk s
  | .fuseDone => Sys2Proof.Machine.execFuseDone s
  | .bankWriteDone => Sys2Proof.Machine.execBankWriteDone s
  | .eventLogFlush => Sys2Proof.Machine.execEventLogFlush s
  | .enterField ring data => Sys2Proof.Machine.execEnterField ring data s
  | .enterMaintain ring data => Sys2Proof.Machine.execEnterMaintain ring data s
  | .bind ring data => Sys2Proof.Machine.execBind ring data s
  | .unbind ring data => Sys2Proof.Machine.execUnbind ring data s
  | .ackSatellite ring data => Sys2Proof.Machine.execAckSatellite ring data s
  | .ownerLock ring data => Sys2Proof.Machine.execOwnerLock ring data s
  | .lifecycleRetire ring data => Sys2Proof.Machine.execLifecycleRetire ring data s
  | .devIdLo => Sys2Proof.Machine.execDevIdLo s
  | .lcNonceLo => Sys2Proof.Machine.execLcNonceLo s
  | .trialTimer => Sys2Proof.Machine.execTrialTimer s
  | .hello frame => Sys2Proof.Machine.execHello frame s
  | .auth frame => Sys2Proof.Machine.execAuth frame s
  | .close frame => Sys2Proof.Machine.execClose frame s
  | .sessionTimeout => Sys2Proof.Machine.execSessionTimeout s
  | .svcReadSignals frame => Sys2Proof.Machine.execSvcReadSignals frame s
  | .svcReadRecord frame => Sys2Proof.Machine.execSvcReadRecord frame s
  | .writeBegin frame => Sys2Proof.Machine.execWriteBegin frame s
  | .writeData frame => Sys2Proof.Machine.execWriteData frame s
  | .writeEnd frame => Sys2Proof.Machine.execWriteEnd frame s
  | .lifecycle frame => Sys2Proof.Machine.execLifecycle frame s
  | .identity frame => Sys2Proof.Machine.execIdentity frame s
  | .eventArrival index => Sys2Proof.Machine.execEventArrival index s
  | .eventRelease => Sys2Proof.Machine.execEventRelease s
  | .sdmSampleRecord die input bits => Sys2Proof.Machine.execSdmSampleRecord die input bits s
  | .soTestEnd out second on => Sys2Proof.Machine.execSoTestEnd out second on s
  | .completionTimeout ring => Sys2Proof.Machine.execCompletionTimeout ring s
  | .canReceiveError k dominant => Sys2Proof.Machine.execCanReceiveError k dominant s
  | .resetNLow => Sys2Proof.Machine.execResetNLow s
  | .pcieError uncorrectable correctable => Sys2Proof.Machine.execPcieError uncorrectable correctable s

end Sys2Proof.Machine
end

