-- ==== Sys2Proof/Safety.lean ====
section
/-! DEFINITION. What claims are stated in: the canonical form of the sparse memories, what a good state is, and when an engine stands on an instruction. -/

namespace Sys2Proof.Machine

/-- Board, error masks, table memory and program memory of a control die are in canonical form. -/
def CtrlDie.memWf (d : CtrlDie) : Bool :=
  kvWf (fun _ => 0) d.board && kvWf (fun _ => 0) d.eccBad && kvWf (fun _ => 0) d.tables && kvWf (fun _ => 0) d.prog

/-- The memories the host reaches by address are in canonical form: the set-up registers, also as CTRL-B holds them and as the ladder image keeps them, and sample memory of both control dies. -/
def State.memWf (s : State) : Bool :=
  kvWf regReset s.regs && kvWf regReset s.regsB && kvWf (fun _ => 0) s.sampleMem && kvWf (fun _ => 0) s.sampleMemB && (s.pwr.image.elim true (fun m => kvWf regReset m.regs))

/-- Every sparse memory with an address space of the spec is in canonical form. -/
def State.allMemWf (s : State) : Bool := s.memWf && (s.die .a).memWf && (s.die .b).memWf

/-- An engine of a control die is RUNNING the run r, which stands on the instruction word w of a user's program (the Drive Set's own programs are assumption 28). -/
abbrev State.standsOn (s : State) (d : CtrlId) (e : EngineNo) (r : Run) (w : Dword) : Prop :=
  (s.engine d e).phase = .running ∧ (s.engine d e).run = some r ∧ s.instrAt d r = w ∧ (s.slotOf d r.slot).ds = 0

/-- The run after an instruction that writes v to gD, ORs the flags fl into the sticky flags and moves on to the next instruction. -/
def Run.wrote (r : Run) (w : Dword) (v : Word) (fl : FlagSet) : Run :=
  { r with
    g := r.g.set (fD w).toNat v (fD w).isLt
    pc := r.pc + 1
    flags := r.flags ||| fl }

/-- The run after an instruction that writes v to scratch register D and moves on. -/
def Run.wroteX (r : Run) (w : Dword) (v : Word) : Run :=
  { r with
    x := r.x.set ((fD w).toNat % 8) v (Nat.mod_lt _ (by decide))
    pc := r.pc + 1 }

end Sys2Proof.Machine
end

