-- ==== Sys2Proof/Certificates/Slice0/Obligations.lean ====
section
/-! DEFINITION. The statements for the provers. Each says for its commands under which conditions they complete and the next state they answer; a statement marked derived rests on a choice of the model or on an inference, as its text says. -/

open Sys2Proof Sys2Proof.Machine

/-- For every command c, queue cs and state s, a step of s with c at the front of the queue is exec of c on s with the queue's rest. The queue is the model's own (assumption 1). (spec/opcode_table.json, assumption 1.) -/
def Obligations.StepRunsFrontCommand : Prop :=
  ∀ (s : State) (c : Instr) (cs : List Instr),
    step { s with pending := c :: cs } = exec c { s with pending := cs }

/-- On an empty queue a step answers the state one tick later (the model's choice, assumption 1): while the time base runs device time advances modulo 2^64 by one, in YARD by the 16 of a reference edge (R603), and it stands while the time base does not run. While device time does not run, a lock starts it at zero, or on the way up from SHED at the held value, and, except in SHED, a lock timeout starts it at zero with NO_LOCK and FAILED set, TB_FAIL raised with payload 1 and LINK's die fault wire asserted. While it runs locked, a lost reference enters holdover and raises TB_REF_LOST; in holdover a return or a lock locks again, ends the holdover, raises TB_REF_RESTORED with the ticks in holdover and leaves device time, FAILED and the wire alone, and so does a first lock after NO_LOCK, with the ticks since device time 0; 10 s of a holdover set FAILED, raise TB_FAIL with payload 0 and assert LINK's wire, once in that holdover. Nothing else changes. That the ticks fill two payload words is the model's choice (assumption 76). For a SENSE die of the part, a message of type 1 whose CRC passes schedules the sample instant TIME for the next frame FRAME of the channel it names on that die, unless a first copy has already scheduled that frame, and one of type 2 the filter restart at t_b; a message whose CRC fails changes nothing. (02_time_base_and_frames.md R44, 02_time_base_and_frames.md R46, 18_power_ladder.md R603, assumption 1, 02_time_base_and_frames.md R45, 02_time_base_and_frames.md R47, 02_time_base_and_frames.md R48, 02_time_base_and_frames.md R49, assumption 76, 02_time_base_and_frames.md R55.) -/
def Obligations.TimeBaseEvents : Prop :=
  (
    ∀ s : State, s.pending = [] → ∃ t, step s = .next t ∧ t = s.tick
      ∧ t.now = (if s.tb.running then (s.now + if s.pwr.rung = 4 then 16 else 1) % 2 ^ 64 else s.now))
  ∧
  (
    ∀ (s : State) (t : Nat),
      let restored := fun (since : Nat) => State.raise { s with tb := { s.tb with locked := true, refPresent := true, holdover := false } }
        0x1002 6 3 [w32 (s.now - since), w32 ((s.now - since) / 2 ^ 32)]
      (s.tb.running = false → exec .timeBaseLock s = .next { s with
        now := if s.pwr.rung = 5 then s.store.life.shedTime else 0
        tb := { s.tb with running := true, locked := true, refPresent := true, holdover := false } })
      ∧ (s.tb.running = true → s.tb.locked = false → s.tb.holdover = true → exec .timeBaseLock s = .next (restored s.tb.holdoverAt))
      ∧ (s.tb.running = true → s.tb.locked = false → s.tb.holdover = false → s.tb.noLock = true → exec .timeBaseLock s = .next (restored 0))
      ∧ (s.tb.running = false → s.pwr.rung ≠ 5 → exec .lockTimeout s =
          .next ((State.raise { s with
            now := 0
            tb := { s.tb with running := true, noLock := true, failed := true } } 0x1003 6 15 [1]).assertDieFault .link))
      ∧ (s.tb.running = true → s.tb.locked = true → exec (.referenceLost t) s =
          .next (State.raise { s with tb := { s.tb with locked := false, refPresent := false, holdover := true, holdoverAt := s.now, timedOut := false } }
            0x1001 6 8 [w32 t, w32 (t / 2 ^ 32)]))
      ∧ (s.tb.holdover = true → exec .referenceReturn s = .next (restored s.tb.holdoverAt))
      ∧ (s.tb.holdover = true → s.tb.timedOut = false → s.tb.holdoverAt + 4000000000 ≤ s.now → exec .holdoverTimeout s =
          .next ((State.raise { s with tb := { s.tb with failed := true, timedOut := true } } 0x1003 6 15 [0]).assertDieFault .link)))
  ∧
  (
    ∀ (s : State) (d : Fin 2) (m : BitVec 128), s.hasDie (senseDie d) = true →
      let v := m.toNat
      let time := v / 2 ^ 48 % 2 ^ 64
      let c := chanOf d (v / 2 ^ 118)
      (scheduleCrcOk m = true → v / 2 ^ 120 = 1 →
        (s.ch[c].schedule.any (fun x => x.frame == v / 2 ^ 16 % 2 ^ 32) = false → exec (.frameMessage d m) s = .next (s.modCh c (fun x => { x with schedule := some ⟨v / 2 ^ 16 % 2 ^ 32, time⟩ })))
        ∧ (s.ch[c].schedule.any (fun x => x.frame == v / 2 ^ 16 % 2 ^ 32) = true → exec (.frameMessage d m) s = .next s))
      ∧ (scheduleCrcOk m = true → v / 2 ^ 120 = 2 → exec (.resyncMessage d m) s = .next (s.modCh c (fun x => { x with senseResync := some time })))
      ∧ (scheduleCrcOk m = false → exec (.frameMessage d m) s = .next s ∧ exec (.resyncMessage d m) s = .next s))

/-- For a running engine that stands on an integer instruction with operands A = gA and B = gB or the immediate, ADD, SUB, MUL, MULH, MULHU, AND, OR, XOR, SHL, SHR, SAR, MIN, MAX, MINU, MAXU, SEQ, SLT, SLTU, SEL and MOVI answer the state whose only change is the engine's run: gD holds the row's result, no flag is added and the run is at the next instruction. For a running engine that stands on the instruction, FADD to CVTQF write the value of the binary32 operation of that name on gA, gB or the immediate and gC to gD, OR its flags into the sticky flags and go on; nothing but the engine's run changes. The rules of single operations are the statements Binary32Comparisons and Binary32NaNs. For a running engine that stands on the instruction: SINCOS writes the sine to gD and the cosine to the next register, ATAN2 the angle of (gB, gA), AADD and ASUB the wrapped sum and difference, CVTAF and CVTFA the converted angle, with their flags; nothing but the engine's run changes. Inside the bounds of R194 and R196 the sine and the angle are free values (assumptions 6 and 7). (04_oryx_engines.md R150, 04_oryx_engines.md R148, 05_engine_arithmetic.md R185, 05_engine_arithmetic.md R173, 05_engine_arithmetic.md R179, 05_engine_arithmetic.md R194, 05_engine_arithmetic.md R196, 05_engine_arithmetic.md R197, 05_engine_arithmetic.md R198.) -/
def Obligations.EngineArithmeticResults : Prop :=
  (
    ∀ (s : State) (d : CtrlId) (e : EngineNo) (r : Run) (w : Dword), s.standsOn d e r w →
      let a := r.reg (fA w)
      let b := r.opB w
      let to_ := fun v : Word => s.setRun d e (r.wrote w v 0)
      (opOf w = 0x10 → exec (.add d e) s = .next (to_ (a + b)))
      ∧ (opOf w = 0x11 → exec (.sub d e) s = .next (to_ (a - b)))
      ∧ (opOf w = 0x12 → exec (.mul d e) s = .next (to_ (a * b)))
      ∧ (opOf w = 0x13 → exec (.mulh d e) s = .next (to_ (BitVec.ofInt 32 (a.toInt * b.toInt / 2 ^ 32))))
      ∧ (opOf w = 0x14 → exec (.mulhu d e) s = .next (to_ (BitVec.ofNat 32 (a.toNat * b.toNat / 2 ^ 32))))
      ∧ (opOf w = 0x15 → exec (.and d e) s = .next (to_ (a &&& b)))
      ∧ (opOf w = 0x16 → exec (.or d e) s = .next (to_ (a ||| b)))
      ∧ (opOf w = 0x17 → exec (.xor d e) s = .next (to_ (a ^^^ b)))
      ∧ (opOf w = 0x18 → exec (.shl d e) s = .next (to_ (a <<< (b.toNat % 32))))
      ∧ (opOf w = 0x19 → exec (.shr d e) s = .next (to_ (a >>> (b.toNat % 32))))
      ∧ (opOf w = 0x1A → exec (.sar d e) s = .next (to_ (a.sshiftRight (b.toNat % 32))))
      ∧ (opOf w = 0x1B → exec (.min d e) s = .next (to_ (if a.toInt ≤ b.toInt then a else b)))
      ∧ (opOf w = 0x1C → exec (.max d e) s = .next (to_ (if a.toInt ≤ b.toInt then b else a)))
      ∧ (opOf w = 0x1D → exec (.minu d e) s = .next (to_ (if a.toNat ≤ b.toNat then a else b)))
      ∧ (opOf w = 0x1E → exec (.maxu d e) s = .next (to_ (if a.toNat ≤ b.toNat then b else a)))
      ∧ (opOf w = 0x1F → exec (.seq d e) s = .next (to_ (if a = b then 1 else 0)))
      ∧ (opOf w = 0x20 → exec (.slt d e) s = .next (to_ (if a.toInt < b.toInt then 1 else 0)))
      ∧ (opOf w = 0x21 → exec (.sltu d e) s = .next (to_ (if a.toNat < b.toNat then 1 else 0)))
      ∧ (opOf w = 0x22 → exec (.sel d e) s = .next (to_ (if r.reg (fC w) ≠ 0 then a else r.reg (fB w))))
      ∧ (opOf w = 0x23 → exec (.movi d e) s = .next (to_ (fImm w))))
  ∧
  (
    ∀ (s : State) (d : CtrlId) (e : EngineNo) (r : Run) (w : Dword), s.standsOn d e r w →
      let a := r.reg (fA w)
      let b := r.opB w
      let b3 := r.reg (fB w)
      let c := r.reg (fC w)
      let to_ := fun v : FRes => s.setRun d e (r.wrote w v.val v.fl)
      (opOf w = 0x30 → exec (.fadd d e) s = .next (to_ (fadd a b)))
      ∧ (opOf w = 0x31 → exec (.fsub d e) s = .next (to_ (fsub a b)))
      ∧ (opOf w = 0x32 → exec (.fmul d e) s = .next (to_ (fmul a b)))
      ∧ (opOf w = 0x33 → exec (.fma d e) s = .next (to_ (ffma a b3 c)))
      ∧ (opOf w = 0x34 → exec (.fms d e) s = .next (to_ (ffms a b3 c)))
      ∧ (opOf w = 0x35 → exec (.fnma d e) s = .next (to_ (ffnma a b3 c)))
      ∧ (opOf w = 0x36 → exec (.fdiv d e) s = .next (to_ (fdiv a b)))
      ∧ (opOf w = 0x37 → exec (.fsqrt d e) s = .next (to_ (fsqrt a)))
      ∧ (opOf w = 0x38 → exec (.frsq d e) s = .next (to_ (frsq a)))
      ∧ (opOf w = 0x39 → exec (.fmin d e) s = .next (to_ (fmin a b)))
      ∧ (opOf w = 0x3A → exec (.fmax d e) s = .next (to_ (fmax a b)))
      ∧ (opOf w = 0x3B → exec (.fabs d e) s = .next (to_ ⟨a &&& 0x7FFFFFFF, 0⟩))
      ∧ (opOf w = 0x3C → exec (.fneg d e) s = .next (to_ ⟨a ^^^ 0x80000000, 0⟩))
      ∧ (opOf w = 0x3D → exec (.feq d e) s = .next (to_ (feq a b)))
      ∧ (opOf w = 0x3E → exec (.flt d e) s = .next (to_ (flt a b)))
      ∧ (opOf w = 0x3F → exec (.fle d e) s = .next (to_ (fle a b)))
      ∧ (opOf w = 0x40 → exec (.fclamp d e) s = .next (to_ (fclamp a b3 c)))
      ∧ (opOf w = 0x41 → exec (.cvtfi d e) s = .next (to_ (cvtfi a)))
      ∧ (opOf w = 0x42 → exec (.cvtif d e) s = .next (to_ (cvtif a)))
      ∧ (opOf w = 0x43 → exec (.cvtuf d e) s = .next (to_ (cvtuf a)))
      ∧ (opOf w = 0x44 → exec (.cvtfq d e) s = .next (to_ (cvtfq a)))
      ∧ (opOf w = 0x45 → exec (.cvtqf d e) s = .next (to_ (cvtqf a))))
  ∧
  (
    ∀ (s : State) (d : CtrlId) (e : EngineNo) (r : Run) (w : Dword), s.standsOn d e r w →
      let a := r.reg (fA w)
      let b := r.opB w
      let to_ := fun v : FRes => s.setRun d e (r.wrote w v.val v.fl)
      (opOf w = 0x50 → exec (.sincos d e) s = .next (s.setRun d e ((r.wrote w (sinAng a) (sincosFlags a)).setReg (fD w + 1) (cosAng a))))
      ∧ (opOf w = 0x51 → exec (.atan2 d e) s = .next (to_ (fatan2 a b)))
      ∧ (opOf w = 0x52 → exec (.aadd d e) s = .next (to_ ⟨a + b, 0⟩))
      ∧ (opOf w = 0x53 → exec (.asub d e) s = .next (to_ ⟨a - b, 0⟩))
      ∧ (opOf w = 0x54 → exec (.cvtaf d e) s = .next (to_ (cvtaf a)))
      ∧ (opOf w = 0x55 → exec (.cvtfa d e) s = .next (to_ (cvtfa a))))

/-- For a running engine that stands on the instruction: QMUL writes floor((A × B + 0x8000) / 2^16), QINT adds that rounded and saturated product to gD and wraps modulo 2^32 with MOD bit 33 clear or clamps with it set, SADD and SSUB write A ± B; a result outside −2^31 to 2^31 − 1 is saturated to 0x80000000 or 0x7FFFFFFF and sets SAT (R193's last sentence is the statement EngineIntegerResults). Nothing but the engine's run changes. (05_engine_arithmetic.md R191, 05_engine_arithmetic.md R192.) -/
def Obligations.EngineQ16Results : Prop :=
  ∀ (s : State) (d : CtrlId) (e : EngineNo) (r : Run) (w : Dword), s.standsOn d e r w →
    let a := r.reg (fA w)
    let b := r.opB w
    let sat : Int → Word × FlagSet := fun v =>
      if v < -(2 ^ 31) then (0x80000000, flagSAT) else if 2 ^ 31 - 1 < v then (0x7FFFFFFF, flagSAT) else (BitVec.ofInt 32 v, 0)
    let q := sat ((a.toInt * b.toInt + 0x8000) / 2 ^ 16)
    let sum := (r.reg (fD w)).toInt + q.1.toInt
    let to_ := fun v : Word × FlagSet => s.setRun d e (r.wrote w v.1 v.2)
    (opOf w = 0x24 → exec (.qmul d e) s = .next (to_ q))
    ∧ (opOf w = 0x25 → exec (.qint d e) s =
        .next (to_ (if w.getLsbD 33 then ((sat sum).1, q.2 ||| (sat sum).2) else (BitVec.ofInt 32 sum, q.2))))
    ∧ (opOf w = 0x28 → exec (.sadd d e) s = .next (to_ (sat (a.toInt + b.toInt))))
    ∧ (opOf w = 0x29 → exec (.ssub d e) s = .next (to_ (sat (a.toInt - b.toInt))))

/-- For every pair of words: FEQ, FLT and FLE deliver 0 when an operand is a NaN; FEQ then raises invalid exactly when one is signalling, FLT and FLE always; without a NaN they raise nothing and −0 and +0 compare equal. FMIN and FMAX take the other operand beside one NaN, the default NaN for two, order −0 below +0, and raise invalid exactly for a signalling NaN. (05_engine_arithmetic.md R180, 05_engine_arithmetic.md R181.) -/
def Obligations.Binary32Comparisons : Prop :=
  (∀ a b : Word, (f32IsNaN a ∨ f32IsNaN b) →
      (feq a b).val = 0 ∧ (flt a b).val = 0 ∧ (fle a b).val = 0 ∧ (flt a b).fl = flagNV ∧ (fle a b).fl = flagNV
      ∧ ((feq a b).fl = if f32IsSNaN a ∨ f32IsSNaN b then flagNV else 0))
  ∧ (∀ a b : Word, ¬ f32IsNaN a → ¬ f32IsNaN b → (feq a b).fl = 0 ∧ (flt a b).fl = 0 ∧ (fle a b).fl = 0
      ∧ ((fle a b).val = 1 ↔ (flt a b).val = 1 ∨ (feq a b).val = 1) ∧ ((flt a b).val = 1 ↔ (fle b a).val = 0))
  ∧ (feq 0x80000000 0 = ⟨1, 0⟩ ∧ flt 0x80000000 0 = ⟨0, 0⟩ ∧ fle 0 0x80000000 = ⟨1, 0⟩)
  ∧ (∀ a b : Word, ((fmin a b).fl = if f32IsSNaN a ∨ f32IsSNaN b then flagNV else 0) ∧ ((fmax a b).fl = (fmin a b).fl))
  ∧ (∀ a b : Word, f32IsNaN a → ¬ f32IsNaN b → (fmin a b).val = b ∧ (fmax a b).val = b ∧ (fmin b a).val = b ∧ (fmax b a).val = b)
  ∧ (∀ a b : Word, f32IsNaN a → f32IsNaN b → (fmin a b).val = 0x7FC00000 ∧ (fmax a b).val = 0x7FC00000)
  ∧ (fmin 0 0x80000000 = ⟨0x80000000, 0⟩ ∧ fmax 0x80000000 0 = ⟨0, 0⟩)
  ∧ (∀ a b : Word, ¬ f32IsNaN a → ¬ f32IsNaN b → (flt a b).val = 1 → (fmin a b).val = a ∧ (fmax a b).val = b ∧ (fmin b a).val = a ∧ (fmax b a).val = b)

/-- For every word FABS and FNEG keep bits 30 to 0 and raise nothing; FADD, FSUB, FMUL, FDIV, FSQRT, FRSQ, FMA, FMS, FNMA, FMIN, FMAX, FCLAMP and the conversions to F32 and the table lookups deliver no NaN but the default NaN 0x7FC00000; a NaN is signalling exactly when its bit 22 is 0. (05_engine_arithmetic.md R177.) -/
def Obligations.Binary32NaNs : Prop :=
  (∀ a : Word, (fabs a).fl = 0 ∧ (fneg a).fl = 0 ∧ (fabs a).val.getLsbD 31 = false ∧ (fneg a).val.getLsbD 31 = !a.getLsbD 31
      ∧ ∀ i, i < 31 → (fabs a).val.getLsbD i = a.getLsbD i ∧ (fneg a).val.getLsbD i = a.getLsbD i)
  ∧ (∀ a : Word, f32IsNaN a → (f32IsSNaN a = true ↔ a.getLsbD 22 = false))
  ∧ (∀ (d : CtrlDie) (k : Nat) (a b : Word), ∀ v ∈ [(lookup1 d k a).val, (lookup2 d k a b).val], f32IsNaN v → v = 0x7FC00000)
  ∧ ∀ a b c : Word, ∀ v ∈ [(fadd a b).val, (fsub a b).val, (fmul a b).val, (fdiv a b).val, (fsqrt a).val, (frsq a).val, (ffma a b c).val,
      (ffms a b c).val, (ffnma a b c).val, (fclamp a b c).val, (cvtif a).val, (cvtuf a).val, (cvtqf a).val],
      f32IsNaN v → v = 0x7FC00000

/-- For a running engine that stands on the instruction: XRD loads the die code, the engine number, device time as the die shows it, the issue interval or the ticks since the run's start, XMOV copies gA, XADD and XSUB form xA ± xB, each into scratch register D; XST adds the store of xA to the exempt signal to the run's exempt stores. Nothing but the engine's run changes and no general register does. For a running engine that stands on the instruction: NOP goes on; BR jumps by the signed displacement from the next instruction, BZ when gA is zero, BNZ when it is not, else they go on; LPS jumps by SKIP on a count of 0, fails the run with cause 1 on a count above BOUND, else pushes the count; LPE decrements the top counter, jumps while it is not zero and pops it at zero; RINFO writes the selected run information. But for the failure, nothing but the engine's run changes. (04_oryx_engines.md R150, 04_oryx_engines.md R165, 04_oryx_engines.md R166, 04_oryx_engines.md R151, 04_oryx_engines.md R152, 04_oryx_engines.md R153.) -/
def Obligations.EngineControlResults : Prop :=
  (
    ∀ (s : State) (d : CtrlId) (e : EngineNo) (r : Run) (w : Dword), s.standsOn d e r w →
      (opOf w = 0x70 → (fImm w).toNat = 0 → exec (.xrd d e) s = .next (s.setRun d e (r.wroteX w (BitVec.ofNat 32 d.code))))
      ∧ (opOf w = 0x70 → (fImm w).toNat = 1 → exec (.xrd d e) s = .next (s.setRun d e (r.wroteX w (BitVec.ofNat 32 e.val))))
      ∧ (opOf w = 0x70 → (fImm w).toNat = 2 → exec (.xrd d e) s = .next (s.setRun d e (r.wroteX w (BitVec.ofNat 32 (s.localTime d)))))
      ∧ (opOf w = 0x70 → (fImm w).toNat = 3 → exec (.xrd d e) s = .next (s.setRun d e (r.wroteX w (BitVec.ofNat 32 (s.localTime d / 2 ^ 32)))))
      ∧ (opOf w = 0x70 → (fImm w).toNat = 4 →
          exec (.xrd d e) s = .next (s.setRun d e (r.wroteX w (BitVec.ofNat 32 ((s.plan[d.ix]).engines[e].filtered / 65536)))))
      ∧ (opOf w = 0x70 → (fImm w).toNat = 5 → exec (.xrd d e) s = .next (s.setRun d e (r.wroteX w (BitVec.ofNat 32 (s.now - r.startTime)))))
      ∧ (opOf w = 0x71 → exec (.xmov d e) s = .next (s.setRun d e (r.wroteX w (r.reg (fA w)))))
      ∧ (opOf w = 0x72 → exec (.xadd d e) s = .next (s.setRun d e (r.wroteX w (r.xreg (fA w) + r.xreg (fB w)))))
      ∧ (opOf w = 0x73 → exec (.xsub d e) s = .next (s.setRun d e (r.wroteX w (r.xreg (fA w) - r.xreg (fB w)))))
      ∧ (opOf w = 0x74 → exec (.xst d e) s = .next (s.setRun d e { r with
          xbuf := kvPut r.xbuf ((fImm w).toNat % 2 ^ 18) (r.xreg (fA w))
          pc := r.pc + 1 })))
  ∧
  (
    ∀ (s : State) (d : CtrlId) (e : EngineNo) (r : Run) (w : Dword), s.standsOn d e r w →
      let a := r.reg (fA w)
      let on := s.setRun d e { r with pc := r.pc + 1 }
      let target := ((r.pc : Int) + 1 + (fImm w).toInt).toNat
      let jumped := s.setRun d e { r with pc := target }
      (opOf w = 0x00 → exec (.nop d e) s = .next on)
      ∧ (opOf w = 0x03 → exec (.br d e) s = .next jumped)
      ∧ (opOf w = 0x04 → exec (.bz d e) s = .next (if a = 0 then jumped else on))
      ∧ (opOf w = 0x05 → exec (.bnz d e) s = .next (if a ≠ 0 then jumped else on))
      ∧ (opOf w = 0x06 → a = 0 → exec (.lps d e) s = .next (s.setRun d e { r with pc := r.pc + 1 + (fImm w).toNat % 2 ^ 16 }))
      ∧ (opOf w = 0x06 → a ≠ 0 → a.toNat ≤ (fImm w).toNat / 2 ^ 16 →
          exec (.lps d e) s = .next (s.setRun d e { r with
            pc := r.pc + 1
            loops := a :: r.loops }))
      ∧ (opOf w = 0x06 → (fImm w).toNat / 2 ^ 16 < a.toNat → exec (.lps d e) s = .next (s.failRun d e r 1))
      ∧ (opOf w = 0x07 → ∀ c cs, r.loops = c :: cs → c ≠ 1 →
          exec (.lpe d e) s = .next (s.setRun d e { r with
            pc := target
            loops := (c - 1) :: cs }))
      ∧ (opOf w = 0x07 → ∀ cs, r.loops = 1 :: cs →
          exec (.lpe d e) s = .next (s.setRun d e { r with
            pc := r.pc + 1
            loops := cs }))
      ∧ (opOf w = 0x08 → exec (.rinfo d e) s = .next (s.setRun d e (r.wrote w (r.info (fImm w).toNat) 0))))

/-- For a running engine on LDS (one signal) or LDV (COUNT signals) whose effective addresses stay below the exempt signals: when each signal is in the run's write buffer, or latched and not poisoned, the instruction completes, the registers from gD on hold the buffered value where there is one and the latched value otherwise, every other register is as before, and nothing but the run's registers and place changes. (03_signal_board.md R102, 03_signal_board.md R108, 04_oryx_engines.md R149, 04_oryx_engines.md R155.) -/
def Obligations.EngineSignalLoads : Prop :=
  ∀ (s : State) (d : CtrlId) (e : EngineNo) (r : Run) (w : Dword) (c : Instr) (n : Nat), s.standsOn d e r w →
    ((c = .lds d e ∧ opOf w = 0x60 ∧ n = 1) ∨ (c = .ldv d e ∧ opOf w = 0x61 ∧ n = fCount w)) →
    (fD w).toNat + n ≤ 64 → r.ea w + n ≤ 0x3F000 →
    (∀ i < n, kvHas r.wbuf (r.ea w + i) = true ∨ (kvHas r.latch (r.ea w + i) = true ∧ r.latchBad.contains (r.ea w + i) = false)) →
    ∃ g : Vector Word 64,
      exec c s = .next (s.setRun d e { r with
        g := g
        pc := r.pc + 1 })
      ∧ (∀ i < n, g[(fD w).toNat + i]? = some (if kvHas r.wbuf (r.ea w + i) then kvGet 0 r.wbuf (r.ea w + i) else kvGet 0 r.latch (r.ea w + i)))
      ∧ ∀ k : Fin 64, (k.val < (fD w).toNat ∨ (fD w).toNat + n ≤ k.val) → g[k] = r.g[k]

/-- For a running engine on LDS, a signal below the exempt signals that is neither buffered nor latched, lies in an entry and outside every group, has no wrong codeword bit, is not poisoned and finds room in the latch: the load completes, gD holds the signal's value on the die's board, the run's latch holds that value, and nothing else changes but the run. (Inside a group the whole group is latched, from one commit.) (03_signal_board.md R108.) -/
def Obligations.EngineFirstLatch : Prop :=
  ∀ (s : State) (d : CtrlId) (e : EngineNo) (r : Run) (w : Dword), s.standsOn d e r w → opOf w = 0x60 →
    let a := r.ea w
    a < 0x3F000 → kvHas r.wbuf a = false → kvHas r.latch a = false → ((s.die d).entryOf a).isSome →
    (s.die d).groupOf a = none → kvGet 0 (s.die d).eccBad a = 0 → (s.die d).poisoned.contains a = false →
    r.latch.length < 1024 →
    exec (.lds d e) s = .next (s.setRun d e ({ r with
      latch := kvPut r.latch a (kvGet 0 (s.die d).board a)
      latchBad := r.latchBad.filter (fun b => b != a) }.wrote w (kvGet 0 (s.die d).board a) 0))

/-- For a running engine on STS (one signal) or STV (COUNT signals) whose write buffer has room for them: the instruction completes, the write buffer gives the registers from gA on for the signals from EA on and is as before for every other signal, and nothing but the run's buffer and place changes: no signal of the board does. (03_signal_board.md R102, 03_signal_board.md R109, 04_oryx_engines.md R149, 04_oryx_engines.md R156.) -/
def Obligations.EngineSignalStores : Prop :=
  ∀ (s : State) (d : CtrlId) (e : EngineNo) (r : Run) (w : Dword) (c : Instr) (n : Nat), s.standsOn d e r w →
    ((c = .sts d e ∧ opOf w = 0x62 ∧ n = 1) ∨ (c = .stv d e ∧ opOf w = 0x63 ∧ n = fCount w)) →
    (fA w).toNat + n ≤ 64 → r.ea w + n ≤ 2 ^ 18 → r.wbuf.length + n ≤ 256 →
    ∃ b : Kv Word,
      exec c s = .next (s.setRun d e { r with
        wbuf := b
        pc := r.pc + 1 })
      ∧ (∀ i < n, kvHas b (r.ea w + i) = true ∧ some (kvGet 0 b (r.ea w + i)) = r.g[(fA w).toNat + i]?)
      ∧ ∀ a, (a < r.ea w ∨ r.ea w + n ≤ a) → kvHas b a = kvHas r.wbuf a ∧ kvGet 0 b a = kvGet 0 r.wbuf a

/-- For a running engine that stands on the instruction, with the table at IMM (TL1, TL2), at gB (TL1R) or at gC (TL2R) modulo 2^20: when the header is good for the instruction's kind, gD gets the lookup of gA (and gB) with its flags and nothing but the engine's run changes; when it is bad, the run fails with cause 4. (04_oryx_engines.md R160, 04_oryx_engines.md R161, 04_oryx_engines.md R162, 04_oryx_engines.md R143.) -/
def Obligations.EngineTableLookups : Prop :=
  ∀ (s : State) (d : CtrlId) (e : EngineNo) (r : Run) (w : Dword), s.standsOn d e r w →
    let t := s.die d
    let x := r.reg (fA w)
    let y := r.reg (fB w)
    let at_ := (fImm w).toNat % 2 ^ 20
    let to_ := fun v : FRes => s.setRun d e (r.wrote w v.val v.fl)
    (opOf w = 0x68 → tableBad t 1 at_ = false → exec (.tl1 d e) s = .next (to_ (lookup1 t at_ x)))
    ∧ (opOf w = 0x69 → tableBad t 1 (y.toNat % 2 ^ 20) = false → exec (.tl1r d e) s = .next (to_ (lookup1 t (y.toNat % 2 ^ 20) x)))
    ∧ (opOf w = 0x6A → tableBad t 2 at_ = false → exec (.tl2 d e) s = .next (to_ (lookup2 t at_ x y)))
    ∧ (opOf w = 0x6B → tableBad t 2 ((r.reg (fC w)).toNat % 2 ^ 20) = false →
        exec (.tl2r d e) s = .next (to_ (lookup2 t ((r.reg (fC w)).toNat % 2 ^ 20) x y)))
    ∧ (opOf w = 0x68 → tableBad t 1 at_ = true → exec (.tl1 d e) s = .next (s.failRun d e r 4))
    ∧ (opOf w = 0x69 → tableBad t 1 (y.toNat % 2 ^ 20) = true → exec (.tl1r d e) s = .next (s.failRun d e r 4))
    ∧ (opOf w = 0x6A → tableBad t 2 at_ = true → exec (.tl2 d e) s = .next (s.failRun d e r 4))
    ∧ (opOf w = 0x6B → tableBad t 2 ((r.reg (fC w)).toNat % 2 ^ 20) = true → exec (.tl2r d e) s = .next (s.failRun d e r 4))

/-- For a running engine on WAIT at a signal below the exempt signals that is not poisoned: outside any group it completes at once and only the run's place changes; in a group that is not fresh for the run's frame the engine waits there; in a fresh group it finishes as WAIT_COMPLETION does. A WAIT that reaches an exempt signal fails the run with cause 5. A waiting engine whose group has become fresh finishes the WAIT: the group is latched again from its commit and the run goes on, unless the latch overflows (cause 2) or the signal is poisoned (cause 3). (03_signal_board.md R110.) -/
def Obligations.EngineWaits : Prop :=
  ∀ (s : State) (d : CtrlId) (e : EngineNo) (r : Run) (w : Dword),
    let t := s.die d
    (s.standsOn d e r w → opOf w = 0x02 → 0x3F000 ≤ r.ea w → exec (.wait d e) s = .next (s.failRun d e r 5))
    ∧ (s.standsOn d e r w → opOf w = 0x02 → r.ea w < 0x3F000 → t.poisoned.contains (r.ea w) = false → t.groupOf (r.ea w) = none →
        exec (.wait d e) s = .next (s.setRun d e { r with pc := r.pc + 1 }))
    ∧ (s.standsOn d e r w → opOf w = 0x02 → r.ea w < 0x3F000 → t.poisoned.contains (r.ea w) = false → t.freshFor (r.ea w) r.refInstant = false →
        exec (.wait d e) s = .next ((s.setRun d e { r with waitAt := r.ea w }).modEngine d e (fun g => { g with phase := .waiting })))
    ∧ (s.standsOn d e r w → opOf w = 0x02 → r.ea w < 0x3F000 → t.poisoned.contains (r.ea w) = false → t.freshFor (r.ea w) r.refInstant = true →
        exec (.wait d e) s = .next (s.finishWait d e r (r.ea w)))
    ∧ ((s.engine d e).phase = .waiting → (s.engine d e).run = some r → t.freshFor r.waitAt r.refInstant = true →
        exec (.waitCompletion d e) s = .next (s.finishWait d e r r.waitAt))
    ∧ ∀ a, (t.groupOf a).isSome →
        let l := latchAddrs r t d s.now (t.latchSet a)
        l.1.latch.length ≤ 1024 → l.1.latchBad.contains a = false →
        s.finishWait d e r a = ((((s.modCtrl d (fun _ => l.2.1)).modEngine d e (fun g => { g with phase := .running })).raiseAll l.2.2).setRun d e
          { l.1 with pc := l.1.pc + 1 })

/-- A read of DEV_TIME_LO latches device time [63:32] into DEV_TIME_HI and answers the low word; nothing else changes. A timer of a control die whose programmed time has come on that die is removed and its request is raised, stamped with the programmed time, not with the time of the match; nothing else changes. (02_time_base_and_frames.md R51, 02_time_base_and_frames.md R57.) -/
def Obligations.DeviceTimeReadsAndTimers : Prop :=
  (∀ s : State, exec .devTimeLo s = .next (State.emit { s with tb := { s.tb with hiLatch := BitVec.ofNat 32 (s.now / 2 ^ 32) } }
      (.regRead Reg.devTimeLo (BitVec.ofNat 32 s.now))))
  ∧ ∀ (s : State) (d : CtrlId) (i : Nat) (t : Timer), (s.timers[d.ix])[i]? = some t → t.at_ ≤ s.localTime d →
      exec (.timerMatch d i) s = .next { s with
        timers := s.timers.set d.ix.val ((s.timers[d.ix]).eraseIdx i) d.ix.isLt
        timerReqs := s.timerReqs.set d.ix.val (s.timerReqs[d.ix] ++ [⟨t.purpose, t.at_⟩]) d.ix.isLt }

/-- For a die of the part and the code of the present period: a code that passes its CRC and equals the die's copy only ends a series of bad codes. A code that passes its CRC and differs reloads the copy to the code's time and raises TIME_CODE_MISMATCH unless one was raised within the last millisecond; when it is the second bad code in a row, the die asserts its DIE_FAULT wire as well. Nothing else changes. (02_time_base_and_frames.md R53.) -/
def Obligations.TimeCodeChecks : Prop :=
  ∀ (s : State) (d : Die) (code : BitVec 64) (crc : BitVec 16), s.hasDie d = true →
    let k := s.clocks[d.ix]
    let start := s.now - s.now % 4096
    let diff : Int := (start : Int) + k.skew - (code.toNat : Int)
    let say := rateOk k.lastEvent s.now msTicks
    let after : State := { s with clocks := s.clocks.set d.ix.val { k with
      skew := (code.toNat : Int) - (start : Int)
      badCodes := k.badCodes + 1
      lastEvent := if say then some s.now else k.lastEvent } d.ix.isLt }
    let told := if say then after.raise 0x1004 d.code 6 [i32 diff] else after
    crc16 (msbBits 64 code.toNat) = crc.toNat →
    (diff = 0 → exec (.timeCode d code crc) s = .next { s with clocks := s.clocks.set d.ix.val { k with badCodes := 0 } d.ix.isLt })
    ∧ (diff ≠ 0 → k.badCodes = 0 → exec (.timeCode d code crc) s = .next told)
    ∧ (diff ≠ 0 → 1 ≤ k.badCodes → exec (.timeCode d code crc) s = .next (told.assertDieFault d))

/-- RUN_READY: when of the channel's open frames (the present one, and the next from its sample instant on) k is the first that is one of the ACTIVE program's frames, whose run is neither ready nor done, whose deadline has not passed on CTRL-A and for which every declared input group is fresh, the run of frame k is appended to the die's ready runs and nothing else changes but the slot's ready frame. RUN_START: an idle engine with a first ready run q starts it RUNNING with each declared input latched from the commit that made it fresh, unless the latch overflows. FEND of a user's program: CTRL-B's engine is COMMITTING until the verdict; CTRL-A's commits and the frame supervisor sees it. (04_oryx_engines.md R138, 04_oryx_engines.md R139, 04_oryx_engines.md R140, 04_oryx_engines.md R142, 13_lockstep.md R445.) -/
def Obligations.RunLifecycle : Prop :=
  (∀ (s : State) (d : CtrlId) (c : SlotCode) (k ref : Nat),
    let x := s.slotOf d c
    (s.openFrames x.channel).find? (fun f => x.state == .active && x.runsIn f.1 && !x.isReady f.1 && !x.isDone f.1
      && (d == .b || !s.deadlinePassed c f.1) && x.inputs.all (fun a => (s.die d).freshFor a f.2)) = some (k, ref) →
    exec (.runReady d c) s = .next ((s.modCtrl d (fun y => { y with ready := y.ready ++ [⟨c, k, ref⟩] })).modSlot d c (fun y => { y with readyFrame := some k })))
  ∧ (∀ (s : State) (d : CtrlId) (e : EngineNo) (q : ReadyRun), (s.engine d e).phase = .idle → s.pickRun d e = some q →
    let x := s.slotOf d q.slot
    let r0 : Run := { slot := q.slot, channel := x.channel, frame := q.frame, refInstant := q.refInstant, frameLen := s.ch[x.channel].frameLen,
                      runNo := x.runNo, div := x.divNow, startTime := s.now, g := startRegs x.persist }
    let l := x.inputs.foldl (latchInput q.refInstant d s.now) (r0, s.die d, [])
    l.1.latch.length ≤ 1024 →
    exec (.runStart d e) s = .next (((s.modCtrl d (fun _ => { l.2.1 with ready := l.2.1.ready.filter (fun z => z != q) })).raiseFor d l.2.2).modEngine d e
      (fun g => { g with
        phase := .running
        run := some l.1 })))
  ∧ (∀ (s : State) (e : EngineNo) (r : Run) (w : Dword), s.standsOn .b e r w → opOf w = 0x01 →
    exec (.fend .b e) s = .next (s.modEngine .b e (fun g => { g with
      phase := .committing
      run := some r })))
  ∧ (∀ (s : State) (e : EngineNo) (r : Run) (w : Dword), s.standsOn .a e r w → opOf w = 0x01 →
    exec (.fend .a e) s = .next (s.afterCommit (s.commitA e r) r.slot))

/-- For a running engine of CTRL-A on FEND of a user's program that no swap is to replace, with the link to CTRL-B in order: the command completes; then the engine is IDLE without a run, the slot's persistent registers are g32 to g63 of the run, its run counter is one higher modulo 2^32, and the verdicts on their way to CTRL-B end with COMMIT for this run. CTRL-B's engines are as before. (04_oryx_engines.md R142, 13_lockstep.md R444.) -/
def Obligations.CtrlACommitKeepsPersistents : Prop :=
  ∀ (s : State) (e : EngineNo) (r : Run) (w : Dword), s.standsOn .a e r w → opOf w = 0x01 →
    (∀ v ∈ s.planner.swaps, v.old ≠ some r.slot) → s.linkUp .ctrlA .ctrlB = true →
    ∃ t, exec (.fend .a e) s = .next t
      ∧ (t.engine .a e).phase = .idle ∧ (t.engine .a e).run = none
      ∧ (∀ i : Fin 32, (t.slotOf .a r.slot).persist[i] = r.g[(⟨i.val + 32, by omega⟩ : Fin 64)])
      ∧ (t.slotOf .a r.slot).runNo = ((s.slotOf .a r.slot).runNo + 1) % 2 ^ 32
      ∧ t.verdicts = s.verdicts ++ [⟨r.slot, r.frame, 0⟩]
      ∧ (t.die .b).engines = (s.die .b).engines

/-- For every run and failure cause on CTRL-B, failing the run leaves the board, the stamps, the directory, table and program memory and every slot's persistent registers as they were, frees the engine and counts the failure. On CTRL-A it does the same to the engine and the persistent registers, and the only signals written are the miss counters of the program's channel and, for DS-D3-IN, of its mate. (04_oryx_engines.md R143.) -/
def Obligations.FailedRunCommitsNothing : Prop :=
  (∀ (s : State) (e : EngineNo) (r : Run) (cause : Nat),
    let t := s.failRun .b e r cause
    (t.die .b).board = (s.die .b).board ∧ (t.die .b).stamps = (s.die .b).stamps ∧ (t.die .b).dir = (s.die .b).dir
    ∧ (t.die .b).tables = (s.die .b).tables ∧ (t.die .b).prog = (s.die .b).prog ∧ t.die .a = s.die .a
    ∧ (∀ c, (t.slotOf .b c).persist = (s.slotOf .b c).persist)
    ∧ (t.engine .b e).phase = .idle ∧ (t.engine .b e).run = none ∧ (t.engine .b e).fails = if (s.engine .b e).fails < 0xFFFF then (s.engine .b e).fails + 1 else 0xFFFF)
  ∧ (∀ (s : State) (e : EngineNo) (r : Run) (cause : Nat),
    let t := s.failRun .a e r cause
    (∀ c, (t.slotOf .a c).persist = (s.slotOf .a c).persist) ∧ (t.engine .a e).phase = .idle ∧ (t.engine .a e).run = none
    ∧ ∀ a, a ∉ [chBase r.channel + 0x18, chBase r.channel + 0x19, chBase (pairMate r.channel) + 0x18, chBase (pairMate r.channel) + 0x19] →
        kvGet 0 (t.die .a).board a = kvGet 0 (s.die .a).board a)

/-- On a link of the part that has not failed: a flit whose CRC fails is discarded and answered with a negative acknowledgement that names the expected number; a flit with another number is acknowledged again and not delivered; the expected flit is delivered, leaves the replay buffer, is acknowledged, advances the expected number modulo 16 and lets waiting flits leave. A negative acknowledgement re-sends from the named flit on, and every flit is re-sent once 2 µs have passed since it was sent; a flit that was re-sent three times fails the link instead. A failed link takes no flit. An effect forwarded to CTRL-B is applied there in order, at the position at which CTRL-A applied it. For a die of the part, DIE_FAULT sets its wire, lets LINK take the affected channels to their safe state, lets the comparator judge the wires and links of R458 and, when the die is SAFE, ends with Chamois's loss of SAFE of cause 1. SENSE-1 and AUX do not exist on an NB-7806: there the command changes nothing. With the scrubber enabled, no fresh upset and, at the first word of a pass, PERIOD_MS gone since the pass before, SCRUB reads the word the scrubber stands at and moves on modulo 2^18: a sound word changes nothing else; a single wrong bit is corrected and counted; more wrong bits poison the word, count and give its address, and raise the uncorrectable event. With EN 0 only the upsets enter the memory. (01_dies_and_paths.md R24, 01_dies_and_paths.md R25, 01_dies_and_paths.md R26, 01_dies_and_paths.md R29, 01_dies_and_paths.md R30, 01_dies_and_paths.md R31, 12_protection_and_discharge.md R424, 14_functional_safety.md R481, 03_signal_board.md R118, 03_signal_board.md R119, 03_signal_board.md R120.) -/
def Obligations.LinksAndScrubbing : Prop :=
  (
    (∀ (s : State) (l : Fin 27) (b : BitVec 128),
      let k := s.links[l]
      let v := b.toNat
      let seq := v / 2 ^ 120 % 16
      let good := crc16 (msbBits 112 (v / 2 ^ 16)) = v % 2 ^ 16
      (k.failed = true ∨ s.hasLink l = false → exec (.flit l b) s = .next s)
      ∧ (k.failed = false → s.hasLink l = true → ¬ good → exec (.flit l b) s = .next (s.emit (.linkAck l.val true k.rxExpected)))
      ∧ (k.failed = false → s.hasLink l = true → good → seq ≠ k.rxExpected → exec (.flit l b) s = .next (s.emit (.linkAck l.val false ((k.rxExpected + 15) % 16))))
      ∧ (k.failed = false → s.hasLink l = true → good → seq = k.rxExpected → exec (.flit l b) s = .next (State.sendWaiting (State.emit { s with
        links := s.links.set l.val { k with
          rxExpected := (k.rxExpected + 1) % 16
          delivered := k.delivered ++ [(v / 2 ^ 124, v / 2 ^ 116 % 16, BitVec.ofNat 96 (v / 2 ^ 16))]
          replay := k.replay.filter (fun f => f.seq != seq) } l.isLt } (.linkAck l.val false seq)) l)))
    ∧ (∀ (s : State) (l : Fin 27) (q : BitVec 4) (before rest : List SentFlit) (f : SentFlit),
      let k := s.links[l]
      k.failed = false → s.hasLink l = true → k.replay = before ++ f :: rest → f.seq = q.toNat → (∀ g ∈ before, g.seq ≠ q.toNat) →
      exec (.negativeAcknowledgement l q) s = .next ((State.resend { s with
        links := s.links.set l.val { k with replay := f :: rest } l.isLt } l (f :: rest)).sendWaiting l))
    ∧ (∀ (s : State) (l : Fin 27) (f : SentFlit) (rest : List SentFlit), (s.links[l]).failed = false → (s.links[l]).replay = f :: rest → f.sentAt + 800 ≤ s.now →
      exec (.acknowledgementTimeout l) s = .next (s.resend l (f :: rest.filter (fun g => decide (g.sentAt + 800 ≤ s.now)))))
    ∧ (∀ (s : State) (l : Fin 27) (f : SentFlit) (fs : List SentFlit), f ∈ fs → 3 ≤ f.retries → s.resend l fs = s.failLink l)
    ∧ (∀ (s : State) (f : Forwarded) (fs : List Forwarded), s.forward = f :: fs → s.linkUp .ctrlA .ctrlB = true →
      ((s.die .b).atPosition f.started = true → exec .forwardedEffect s = .next (State.applyEffect { s with forward := fs } .b f.effect))
      ∧ ((s.die .b).atPosition f.started = false → exec .forwardedEffect s = .next s)))
  ∧
  (
    ∀ (s : State) (d : Die),
      let s1 : State := { s with wires := { s.wires with dieFault := s.wires.dieFault.set d.ix.val true d.ix.isLt } }
      (s.hasDie d = true → d ≠ .safe → exec (.dieFault d) s = .next (s1.dieFaultDrives d).lockLost)
      ∧ (d = .safe → exec (.dieFault d) s = .next ((s1.dieFaultDrives d).lockLost.chamoisLoss 1))
      ∧ (s.hasDie d = false → exec (.dieFault d) s = .next s))
  ∧
  (
    ∀ (s : State) (d : CtrlId),
      let x := s.die d
      let a := x.scrubAt
      let mask := kvGet 0 x.eccBad a
      let next := fun y : CtrlDie => { y with
        scrubAt := (a + 1) % 2 ^ 18
        scrubPass := if a = 0 then some s.now else x.scrubPass }
      let on := bitAt (s.scrubWord d) 31
      let turn := a ≠ 0 ∨ rateOk x.scrubPass s.now (bitsAt (s.scrubWord d) 0 16 * 400000) = true
      (on = true → turn → mask = 0 → exec (.scrub d []) s = .next (s.modCtrl d next))
      ∧ (∀ b, on = true → turn → mask = 2 ^ b → ∃ t, exec (.scrub d []) s = .next t
          ∧ (t.die d).scrubAt = (a + 1) % 2 ^ 18 ∧ (t.die d).eccBad = kvDel x.eccBad a ∧ (t.die d).board = x.board ∧ (t.die d).poisoned = x.poisoned
          ∧ ((t.die d).eccCorr = if x.eccCorr < 0xFFFFFFFF then x.eccCorr + 1 else 0xFFFFFFFF))
      ∧ (on = true → turn → mask ≠ 0 → (∀ b, mask ≠ 2 ^ b) → ∃ t, exec (.scrub d []) s = .next t
          ∧ (t.die d).scrubAt = (a + 1) % 2 ^ 18 ∧ (t.die d).poisoned.contains a = true ∧ (t.die d).eccLast = a ∧ (t.die d).board = x.board
          ∧ t.ev.raised = s.ev.raised ++ [(⟨s.now, 0x0114, d.code, 12, [w32 a]⟩, s.ev.nextOrder)])
      ∧ (on = false ∨ ¬ turn → ∀ u : Nat × Nat, exec (.scrub d [u]) s =
          .next (s.modCtrl d (fun y => { y with eccBad := kvSet 0 x.eccBad (u.1 % 2 ^ 18) (kvGet 0 x.eccBad (u.1 % 2 ^ 18) ^^^ (u.2 % 2 ^ 39)) }))))

/-- While a voltage write waits: the read-back of its setpoint ends it and dates the match; another value, or 100 µs without a response, sends the write once more, and after that retry ends it with AVS_FAILED set and AVS_FAIL raised. Nothing else changes. A Velvet reading of a die that is due on FULL or BED updates the filtered values, shows the slack and moves the programs of unusable engines, which ends the step. Where none had to move, a fit on that die that fails takes the voltage step of 5 mV if the voltage can rise. Where every fit of CTRL-B holds, its reading considers only R225's lowering. Where both dies have been read since the last step, every fit holds and none is unfit, a reading of CTRL-A restores divisors, then considers the lowering. A reading within 20 µs of a matching read-back only notes that it was due. An ageing reading that is due enters the 60 s history, and the loss follows from the calibration record. Once per powered hour the end-of-life check runs. After 8 more powered hours of a die its ageing record is written. (06_planning_and_ageing.md R218, 06_planning_and_ageing.md R226, 06_planning_and_ageing.md R228, 06_planning_and_ageing.md R201, 06_planning_and_ageing.md R202, 06_planning_and_ageing.md R207, 06_planning_and_ageing.md R217, 06_planning_and_ageing.md R220, 06_planning_and_ageing.md R225, 06_planning_and_ageing.md R236, 06_planning_and_ageing.md R237.) -/
def Obligations.PlannerReadings : Prop :=
  (
    ∀ (s : State) (d : CtrlId) (w : AvsWrite) (mV : Nat), (s.plan[d.ix]).avs = some w →
      let again := (s.modPlan d (fun p => { p with avs := some { w with
        retried := true
        sentAt := s.now } })).emit (.avs d.code w.mV)
      let failed := (s.modPlan d (fun p => { p with
        avs := none
        avsFailed := true })).raise 0x1049 d.code 12 [w32 w.mV]
      (mV = w.mV → exec (.avsReadback d mV) s = .next (s.modPlan d (fun p => { p with
        avs := none
        avsMatched := some s.now })))
      ∧ (mV ≠ w.mV → w.retried = false → exec (.avsReadback d mV) s = .next again)
      ∧ (mV ≠ w.mV → w.retried = true → exec (.avsReadback d mV) s = .next failed)
      ∧ (w.sentAt + 40000 ≤ s.now → w.retried = false → exec (.avsTimeout d) s = .next again)
      ∧ (w.sentAt + 40000 ≤ s.now → w.retried = true → exec (.avsTimeout d) s = .next failed))
  ∧
  (
    (∀ (s : State) (d : CtrlId) (rs : List (Nat × Nat)),
      let s0 := s.modPlan d (fun p => { p with lastReading := some s.now })
      let s1 := s0.takeReading d rs
      let before := s1.leastSlack d s1.planSet
      let s2 := (s1.modPlan d (fun p => { p with slack := before })).evacuate
      s.pwr.started = true → s.pwr.rung ≤ 1 → s.readingDue (s.plan[d.ix]).lastReading = true →
      (rateOk (s.plan[d.ix]).avsMatched s.now 8000 = true → (s2.plan[d.ix]).checked = false → exec (.velvetReading d rs) s = .next s2)
      ∧ (rateOk (s.plan[d.ix]).avsMatched s.now 8000 = true → (s2.plan[d.ix]).checked = true → s2.dieFits d s1.planSet s2.guard = false → s2.canRaise d = true →
        exec (.velvetReading d rs) s = .next (s2.raiseVdd d before))
      ∧ (rateOk (s.plan[d.ix]).avsMatched s.now 8000 = true → (s2.plan[d.ix]).checked = true → d = .b → s2.dieFits d s1.planSet s2.guard = true →
        exec (.velvetReading d rs) s = .next (s2.lowerVdd .b))
      ∧ (rateOk (s.plan[d.ix]).avsMatched s.now 8000 = true → d = .a → s2.planSettled = true → s2.proved s1.planSet s2.guard = true → s2.unfit s2.planSet = [] →
        exec (.velvetReading d rs) s = .next (s2.restoreDiv.lowerVdd .a))
      ∧ (rateOk (s.plan[d.ix]).avsMatched s.now 8000 = false → exec (.velvetReading d rs) s = .next s0))
    ∧ (∀ (s : State) (d : CtrlId) (fs fu : Nat), s.ageingDue (s.plan[d.ix]).lastAgeing = true → ∃ t, exec (.ageingPairReading d fs fu) s = .next t
        ∧ (t.plan[d.ix]).ageHist = (s.plan[d.ix]).ageHist.filter (fun h => decide (s.now ≤ h.1 + 24000000000)) ++ [(s.now, fs, fu)]
        ∧ (t.plan[d.ix]).lossPpm = lossPpm (s.ageingCal d).1 (s.ageingCal d).2 (t.plan[d.ix]).ageHist ∧ (t.plan[d.ix]).lastAgeing = some s.now
        ∧ (t.plan[d.ix]).vddMv = (s.plan[d.ix]).vddMv ∧ t.ctrl = s.ctrl ∧ t.regs = s.regs)
    ∧ (∀ s : State, rateOk s.planner.lastEol s.now 1440000000000 = true →
        exec .eolMargin s = .next (State.raiseAll { s with planner := { s.planner with lastEol := some s.now } } (s.eolEvents s.planSet)))
    ∧ (∀ (s : State) (a b : BitVec 32) (d : CtrlId), (s.plan[d.ix]).poweredS + 28800 ≤ s.poweredS → s.pwr.rung ≤ 1 →
        exec (.ageingRecord a b) s = .next (s.ageRecordsWith (fun d => decide ((s.plan[d.ix]).poweredS + 28800 ≤ s.poweredS)) a b)))

/-- While no re-plan is under way the oldest pending change is decided. A swap that only stops a program is accepted when the rest is proved with every accepted change; where it is not, a step that may still prove it is taken, or the swap is refused. One that brings a program is accepted when an engine serves it; where none does, a step is taken or it is refused; it ends in REJECTED_STATE 1 when the channel has another SAMPLE_PATH program or an entry it claims is taken. Settings of channels that have no earlier ones to take effect and whose cut-off has not passed are decided together. A move that is due takes effect on both dies with step 2 and the lanes cut at the channel's boundary, once CTRL-B has no run of the program; so does a swap that is due. A run in progress past its deadline is aborted as a miss of cause 1; a due run not started never takes place, a miss of cause 2. (04_oryx_engines.md R141, 06_planning_and_ageing.md R220, 06_planning_and_ageing.md R223, 06_planning_and_ageing.md R224, 06_planning_and_ageing.md R229, 06_planning_and_ageing.md R230, 06_planning_and_ageing.md R234.) -/
def Obligations.ProgramChanges : Prop :=
  (∀ (s : State) (old : Option SlotCode) (ring index : Nat) (rest : List PlanChange), s.planSettled = true → s.planner.pending = .swap old none ring index :: rest →
    exec .planDecision s = .next (if s.asAccepted.proved (s.asAccepted.swapSet old none 0) s.asAccepted.guard then s.acceptSwap old none ring index none
      else (s.decideStep s.asAccepted (s.asAccepted.swapSet old none 0) none old).getD (s.refuseSwap old none ring index)))
  ∧ (∀ (s : State) (old : Option SlotCode) (n : SlotCode) (ring index : Nat) (rest : List PlanChange),
    s.planSettled = true → s.planner.pending = .swap old (some n) ring index :: rest →
    (∀ e, s.samplePathTaken old n = false → s.claimTaken old n = false → s.asAccepted.engineFor old n = some e →
      exec .planDecision s = .next (s.acceptSwap old (some n) ring index (some e)))
    ∧ (s.samplePathTaken old n = false → s.claimTaken old n = false → s.asAccepted.engineFor old n = none →
      exec .planDecision s = .next ((s.decideStep s.asAccepted (s.asAccepted.swapSet old (some n) (s.asAccepted.tryEngine old n)) (some n) old).getD
        (s.refuseSwap old (some n) ring index)))
    ∧ (s.samplePathTaken old n = true ∨ s.claimTaken old n = true → exec .planDecision s = .next (s.dropChange.complete ring index 1 1 0)))
  ∧ (∀ (s : State) (mask : BitVec 8) (g : ChanSettings) (rest : List PlanChange), s.planSettled = true → s.planner.pending = .mode mask g :: rest →
    (∀ c ∈ maskChans mask, s.ch[c].settings = none ∧ (s.ch[c].running = false ∨ s.ch[c].cutoffDone = false)) →
    exec .planDecision s = .next (s.decideMode mask g))
  ∧ (∀ (s : State) (c : SlotCode) (e : EngineNo), (s.slotOf .a c).moveTo = some e → (s.slotOf .a c).moveDue = true → (s.die .b).running c = false →
    exec (.programMove c) s = .next (((s.moveBoth c).setStep 2).cutLanes s.ch[(s.slotOf .a c).channel].boundary)
    ∧ ((s.moveBoth c).slotOf .a c).engine = e ∧ ((s.moveBoth c).slotOf .a c).moveTo = none)
  ∧ (∀ (s : State) (c : Channel) (w : Swap) (rest : List Swap), s.planner.swaps = w :: rest → w.done = false → w.channel = c →
    w.due = true → exec (.swapBoundary c) s = .next ((s.applySwap w).cutLanes s.ch[c].boundary))
  ∧ (∀ (s : State) (c : SlotCode) (e : EngineNo) (r : Run), (s.slotOf .a c).state = .active → (s.die .a).engineOf c = some (e, r) →
    s.deadlinePassed c r.frame = true → exec (.runDeadline c) s = .next (s.abortRun e r (some 1)))
  ∧ (∀ (s : State) (c : SlotCode), let x := s.slotOf .a c
    let k := s.ch[x.channel].frame
    x.state = .active → (s.die .a).engineOf c = none → x.isDone ((k + 2 ^ 32 - 1) % 2 ^ 32) = true → x.runsIn k = true → x.isDone k = false →
    s.deadlinePassed c k = true →
    exec (.runDeadline c) s = .next (((s.notRun .a c k (s.refOf x.channel k)).verdict c k 7).miss c x.channel k 2 0))

/-- A run of CTRL-B at FEND holds its commit. For the oldest verdict v of a slot: a run of CTRL-B that holds its commit for v's frame commits when v is COMMIT (outcome 0) and is discarded otherwise; a run of that frame still in progress is discarded at once on ABORT (6) or NOT_RUN (7); a run not yet started is marked as not to start on ABORT or NOT_RUN, its outcome the verdict's, and an ABORT counts as its run there too. The verdict is consumed in each of these cases. (13_lockstep.md R445.) -/
def Obligations.VerdictsOnCtrlB : Prop :=
  ∀ (s : State) (c : SlotCode) (v : Verdict) (vs : List Verdict), s.verdicts = v :: vs → v.slot = c →
    let s0 : State := { s with verdicts := s.verdicts.filter (fun u => u != v) }
    (∀ (e : EngineNo) (w : Dword) (r : Run), s.standsOn .b e r w → opOf w = 0x01 →
        exec (.fend .b e) s = .next (s.modEngine .b e (fun g => { g with
          phase := .committing
          run := some r })))
    ∧ (∀ (e : EngineNo) (r : Run), (s.die .b).engineOf c = some (e, r) → r.frame = v.frame → (s.engine .b e).phase = .committing → v.outcome = 0 →
        exec (.verdict c) s = .next (s0.endRun .b e r).1)
    ∧ (∀ (e : EngineNo) (r : Run), (s.die .b).engineOf c = some (e, r) → r.frame = v.frame → (s.engine .b e).phase = .committing → v.outcome ≠ 0 →
        exec (.verdict c) s = .next (s0.discardRun .b e r (if v.outcome = 6 ∨ v.outcome = 7 then v.outcome else 0)))
    ∧ (∀ (e : EngineNo) (r : Run), (s.die .b).engineOf c = some (e, r) → r.frame = v.frame → (s.engine .b e).phase ≠ .committing →
        v.outcome = 6 ∨ v.outcome = 7 → exec (.verdict c) s = .next (s0.discardRun .b e r v.outcome))
    ∧ ((s.die .b).engineOf c = none → (s.slotOf .b c).isDone v.frame = false → v.outcome = 6 ∨ v.outcome = 7 →
        exec (.verdict c) s = .next ((s0.fileUnstarted .b c v.frame (s.refOf (s.slotOf .b c).channel v.frame) v.outcome).modSlot .b c (fun x => { x with
          runNo := if v.outcome = 6 then (x.runNo + 1) % 2 ^ 32 else x.runNo })))

/-- A record of a die whose link to SAFE stands enters every undecided window of its lane with that channel and last frame, and no other window. The lane's oldest window, once due, is dropped without a fault when both records are present and equal, is a MISMATCH when they differ and a MISSING when one is absent. A record that meets no undecided window changes nothing. (13_lockstep.md R456.) -/
def Obligations.ComparatorDecisions : Prop :=
  (∀ (s : State) (d : CtrlId) (l : EngineNo) (c : Channel) (f : BitVec 32) (g : BitVec 64), s.linkUp d.die .safe = true →
    exec (.windowRecord d l c f g) s = .next (s.modLane l (fun k => { k with windows := k.windows.map (fun w =>
      if w.channel = c ∧ w.last = f.toNat then (if d = .a then { w with recA := some g } else { w with recB := some g }) else w) }))
    ∧ ((∀ w ∈ s.lock.lanes[l].windows, ¬ (w.channel = c ∧ w.last = f.toNat)) → exec (.windowRecord d l c f g) s = .next s))
  ∧ ∀ (s : State) (l : EngineNo) (w : LockWindow) (ws : List LockWindow), s.lock.lanes[l].windows = w :: ws → s.decisionDue l w = true →
    (∀ a, w.recA = some a → w.recB = some a → exec (.windowDecision l) s = .next (s.dropWindow l w))
    ∧ (∀ a b, w.recA = some a → w.recB = some b → a ≠ b →
        exec (.windowDecision l) s = .next ((s.dropWindow l w).lockEvent l w.channel w.last false (s.windowMask l w) 0))
    ∧ (w.recA = none ∨ w.recB = none →
        exec (.windowDecision l) s = .next ((s.dropWindow l w).lockEvent l w.channel w.last true (s.windowMask l w) w.absent))

/-- A die closes the oldest window it has not closed once every run of it has its outcome: it forgets those outcomes, marks the window and sends its signature to SAFE. LANE_PLAN: SAFE takes the plan while its link from CTRL-A stands. A lane without a decision within W_max + 2 µs is MISSING for the window due. The comparator test, when one is pending and the links of both control dies to SAFE stand, sets TEST_PASS and raises LOCK_TEST_PASS, unless the hardware's comparator fails a case: then, and over a failed link with case 1, it raises LOCK_TEST_FAIL with the first failing case and blocks the run. (13_lockstep.md R454, 13_lockstep.md R455, 13_lockstep.md R457, 13_lockstep.md R461, 13_lockstep.md R462, 13_lockstep.md R463.) -/
def Obligations.LanesAndTests : Prop :=
  (∀ (s : State) (d : CtrlId) (l : EngineNo) (w : LockWindow) (ws : List LockWindow), s.lock.lanes[l].windows = w :: ws → w.closed d = false → s.openRuns d l w.hi = [] →
    exec (.windowClose d l) s = .next (((s.modCtrl d (fun x => { x with outcomes := x.outcomes.filter (fun o => o.lane != l || !decide (o.refInstant < w.hi)) })).modLane l
      (fun k => { k with windows := k.windows.map (fun v => if v = w then w.close d (s.windowRuns d l w) else v) })).sendDie
      d.die .safe "window" [l.val, w.channel.val, w.last, (windowSig l w (s.windowRuns d l w)).toNat]))
  ∧ (∀ (s : State) (l : EngineNo), s.linkUp .ctrlA .safe = true → exec (.lanePlan l) s = .next (s.modLane l (fun k => { k with
      plan := k.channel.map (fun w => (w, s.winN, s.wMax w k.progs))
      lastDecision := if k.plan.isSome then k.lastDecision else s.now })))
  ∧ (∀ (s : State) (l : EngineNo) (c : Channel) (n wmax : Nat) (w : LockWindow) (ws : List LockWindow), s.lock.lanes[l].plan = some (c, n, wmax) →
    s.lock.lanes[l].lastDecision + wmax + 800 ≤ s.now → s.lock.lanes[l].windows = w :: ws →
    exec (.laneTimeout l) s = .next ((s.dropWindow l w).lockEvent l w.channel w.last true s.enabledMask w.absent))
  ∧ (∀ s : State, s.pwr.testPending = true → s.linkUp .ctrlA .safe = true → s.linkUp .ctrlB .safe = true → s.st.passDue = false → exec (.comparatorTest none) s =
    .next (State.raise { s with
      pwr := { s.pwr with testPending := false }
      lock := { s.lock with testPass := true } } 0x7003 3 2 [2049]))
  ∧ (∀ (s : State) (f : Option (BitVec 32 × BitVec 32)) (c r : BitVec 32), s.pwr.testPending = true →
    (s.linkUp .ctrlA .safe = true ∧ s.linkUp .ctrlB .safe = true ∧ f = some (c, r)
      ∨ (s.linkUp .ctrlA .safe = false ∨ s.linkUp .ctrlB .safe = false) ∧ c = 1 ∧ r = Config.lockTestResult 1) → ∃ t, exec (.comparatorTest f) s = .next t
    ∧ t.tahr.testFail = true ∧ t.tahr.blocked = true ∧ t.lock.testPass = s.lock.testPass ∧ t.pwr = { s.pwr with testPending := false }
    ∧ t.ev.raised.map (fun e => e.1) = s.ev.raised.map (fun e => e.1) ++ [⟨s.now, 0x7004, 3, 15, [c, r]⟩, ⟨s.now, 0x0202, 1, 14, [0, w32 s.st.entries, 1]⟩, ⟨s.now, 0x0205, 3, 15, [2]⟩])

/-- FRAME_BOUNDARY and SETTINGS_EFFECT of a running channel whose boundary has come, with no hard resync before it, run the channel's boundary. CARRIER_START after SETUP_LOCK on FULL to GRAZE starts every enabled channel in turn whose boundary 0 has come, the leaders and free channels before the followers: T_start is the first multiple of 4,096 at least 40,000 ticks after the lock. At a due sample instant the filters of SENSE take their bits and a mark of R86 is used up. Without its schedule message every member of the frame is marked not valid for reason 4 and the event is raised; with it a measured frame is sampled, its converters are triggered and its position group is asked for, while of a frame that is not measured only the converters are triggered; a frame that is not measured runs no program. An edge of IN_POL on SYNC_IN whose filter time has passed is judged by each channel in turn; another changes nothing, and a channel that does not run, does not follow SYNC_IN or has a resync due ignores it. A target whose window has passed in TRACK (P/8) or in ACQUIRE (N_DIV × P/2) counts once as missed with payload 0x80000000. A miss counts and raises SYNC_MISSED; the fourth in a row takes the channel to HOLD at the held period, with SYNC_LOST set and raised and the sync signals published. A due SYNC_OUT pulse ends. (02_time_base_and_frames.md R60, 02_time_base_and_frames.md R63, 02_time_base_and_frames.md R64, 02_time_base_and_frames.md R67, 02_time_base_and_frames.md R69, 16_host_rings.md R558, 02_time_base_and_frames.md R75, 02_time_base_and_frames.md R76, 02_time_base_and_frames.md R77, 02_time_base_and_frames.md R80, 02_time_base_and_frames.md R81.) -/
def Obligations.FrameBoundaries : Prop :=
  (
    (∀ (s : State) (c : Channel), s.ch[c].running = true → s.ch[c].nextBoundary ≤ s.now → s.ch[c].resyncAt = none →
        exec (.frameBoundary c) s = .next (s.boundary c)
        ∧ (s.settingsDue c = true → exec (.settingsEffect c) s = .next (s.boundary c)))
    ∧ (∀ (s : State) (c : Channel) (tb : Nat) (e : Int) (cmd : Bool), s.ch[c].running = true → s.ch[c].nextBoundary ≤ s.now → s.ch[c].resyncAt = some (tb, e, cmd) →
        (s.ch[c].nextBoundary ≤ tb → exec (.frameBoundary c) s = .next (s.boundary c)) ∧ (tb < s.ch[c].nextBoundary → exec (.frameBoundary c) s = .next s))
    ∧ (∀ s : State, s.glb.locked = true → s.glb.checked = true → s.pwr.rung ≤ 3 →
        exec .carrierStart s = .next (((List.finRange 8).filter (fun c => s.source c == 2)).foldl State.startCarrier (((List.finRange 8).filter (fun c => !(s.source c == 2))).foldl State.startCarrier s))
        ∧ s.tStart % 4096 = 0 ∧ s.glb.startFrom + 40000 ≤ s.tStart ∧ s.tStart < s.glb.startFrom + 44096)
    ∧ (∀ (s : State) (c : Channel) (bits : List (List Bool)), s.hasChannel c = true → s.ch[c].running = true → s.ch[c].sampled = false → s.nextSample c ≤ s.now →
        let k := (s.ch[c].frame + 1) % 2 ^ 32
        let t := s.nextSample c
        let s1 := ((s.modCh c (fun x => { x with
          sampled := true
          skipped := s.unmeasured k
          measValid := none
          schedule := none })).qualify c).sampleBits c bits
        let lost := (s1.modMeas c (fun m => { m with
            sample := t
            frame := k
            sent := true
            sentM := true
            members := m.members.map (fun y => { y with
              ready := true
              reason := 4 }) })).raise 0x1004 (senseDie (senseOf c)).code 6 [0]
        (s.unmeasured k = true → s.ch[c].schedule = some ⟨k, t⟩ → exec (.sampleInstant c bits) s = .next (((s1.sampleTriggers c t).countMark c).skipRuns c k t))
        ∧ (s.unmeasured k = true → s.ch[c].schedule ≠ some ⟨k, t⟩ → exec (.sampleInstant c bits) s = .next ((lost.countMark c).skipRuns c k t))
        ∧ (s.unmeasured k = false → s.ch[c].schedule = some ⟨k, t⟩ →
            exec (.sampleInstant c bits) s = .next ((((s1.sampleMembers c k t).sampleTriggers c t).askPosfb c t).countMark c))
        ∧ (s.unmeasured k = false → s.ch[c].schedule ≠ some ⟨k, t⟩ → exec (.sampleInstant c bits) s = .next (lost.countMark c))))
  ∧
  (
    (∀ (s : State) (t : Nat) (r : Bool),
        (r ≠ bitAt (s.reg Reg.syncPins) 0 → t + s.syncFilter ≤ s.now → exec (.syncEdge ⟨t, r⟩) s = .next ((List.finRange 8).foldl (fun s c => s.syncEdge c t) s))
        ∧ (r = bitAt (s.reg Reg.syncPins) 0 ∨ s.now < t + s.syncFilter → exec (.syncEdge ⟨t, r⟩) s = .next s))
    ∧ (∀ (s : State) (c : Channel) (t : Nat), s.ch[c].running = false ∨ s.source c ≠ 1 ∨ s.ch[c].resyncAt.isSome → s.syncEdge c t = s)
    ∧ (∀ (s : State) (c : Channel) (last : Nat), s.ch[c].running = true → s.source c = 1 →
        (s.ch[c].sync = .track → s.passedTarget c (s.period c / 8) = some last → exec (.missedEdge c) s = .next (s.missTarget c last 0x80000000))
        ∧ (s.ch[c].sync = .acquire → s.passedTarget c (s.nDiv c * s.period c / 2) = some last →
            exec (.missedTarget c) s = .next (s.missTarget c last 0x80000000)))
    ∧ (∀ (s : State) (c : Channel) (m : Nat) (p : Word),
        ((s.ch[c].target m).missed = true → s.missTarget c m p = s)
        ∧ ((s.ch[c].target m).missed = false → s.missTarget c m p = (s.modCh c (fun x => x.setTarget { x.target m with missed := true })).missEdge c p))
    ∧ (∀ (s : State) (c : Channel) (p : Word), s.ch[c].missed = 3 →
        let u := (s.modCh c (fun x => { x with missed := 4 })).raise 0x1010 c.val 2 [p]
        let h := u.heldPeriodOf c
        s.missEdge c p = ((u.modCh c (fun x => { x with
          sync := .hold
          syncLost := true
          heldPeriod := h
          corr := 0 })).raise 0x1011 c.val 8 [w32 h]).publishSync c)
    ∧ (∀ (s : State) (c : Channel) (p : Word), s.ch[c].missed < 3 →
        s.missEdge c p = (s.modCh c (fun x => { x with missed := s.ch[c].missed + 1 })).raise 0x1010 c.val 2 [p])
    ∧ (∀ (s : State) (t : Nat), s.syncOutEnd = some t → t ≤ s.now → exec .syncOutPulseEnd s = .next { s with syncOutEnd := none }))

/-- For a running channel whose boundary has come, with no resync armed, no settings due and no frame with invalid current before it: FRAME_BOUNDARY completes; then the channel's frame number is one higher modulo 2^32, its present frame starts at the boundary that was due and has the length fixed for it, the sample instant of the frame lies T_su before its start, and the next frame is not yet sampled. The channel still runs. (02_time_base_and_frames.md R60, 02_time_base_and_frames.md R63, 02_time_base_and_frames.md R66.) -/
def Obligations.BoundaryCountsFrame : Prop :=
  ∀ (s : State) (c : Channel), s.ch[c].running = true → s.ch[c].nextBoundary ≤ s.now → s.ch[c].resyncAt = none → s.ch[c].iInvalid = 0 →
    s.settingsDue c = false →
    ∃ t, exec (.frameBoundary c) s = .next t ∧ t.ch[c].frame = (s.ch[c].frame + 1) % 2 ^ 32 ∧ t.ch[c].boundary = s.ch[c].nextBoundary
      ∧ t.ch[c].frameLen = s.lenNext c ∧ t.ch[c].sampled = false ∧ t.ch[c].resyncFrame = false ∧ t.ch[c].running = true

/-- For every state and channel: N_nom is the carrier period with single update and half of it with double update, and the period as read is even; with a period of 4,000 to 200,000 the undithered length of a channel that is not in HOLD is N_nom, and a length with dither, in HOLD or with a pending correction lies between 2,000 and 200,000 ticks. (02_time_base_and_frames.md R61, 02_time_base_and_frames.md R62.) -/
def Obligations.FrameLengths : Prop :=
  (∀ (s : State) (c : Channel), s.nNom c = (if bitAt (s.reg (Reg.chCarrier c.val)) 30 then s.period c / 2 else s.period c) ∧ s.period c % 2 = 0)
  ∧ ∀ (s : State) (c : Channel), 4000 ≤ s.period c → s.period c ≤ 200000 →
      2000 ≤ s.nNom c ∧ s.nNom c ≤ 200000 ∧ 2000 ≤ s.plainLen c ∧ s.plainLen c ≤ 200000 ∧ 2000 ≤ s.ownLen c ∧ s.ownLen c ≤ 200000

/-- A write of 1 to CH_RESYNC.HARD of a running channel with none armed and no hard resync due arms a commanded resync: while its or a follower's run of frames with invalid current holds it, it only waits; else a FREE channel's is carried out now, and a SYNC_IN channel's four intervals begin. Of a follower it raises RESYNC_DROPPED; a write of 0 does nothing, nor (the model's choice, assumption 80) does one to a channel that does not run. An armed command without an edge in four sync intervals raises RESYNC_DROPPED and completes its descriptors with REJECTED_STATE. A due hard resync begins the resync frame at t_b, which is the next boundary where it falls on one. The switch hold ends 1 µs after t_b. A follower at its t_x that is no boundary jumps there while its run of frames with invalid current and its leader's are zero; otherwise the jump waits for a later valley. A set of four sound values published for the running channel's next frame, arriving over DL_08 before its cut-off, is taken with its arrival time and processed for the next frame; where LINK makes its own reference it is only noted. At a due cut-off instant: of a sample-path program whose frame it is, a set that is still to arrive is a miss of cause 1, a run of it in progress is aborted, and one that has not started never takes place, a miss of cause 2. Then an open phase-loss window without a delivery is dropped, a set that has not arrived is late, and, where LINK makes its own reference, its own frame is processed; otherwise, unless the next frame is already processed, the last applied set is processed as a repeat, or every die is commanded off when none has been applied. The EDGE messages of the next frame leave last. (02_time_base_and_frames.md R83, 02_time_base_and_frames.md R84, 02_time_base_and_frames.md R85, 02_time_base_and_frames.md R89, 02_time_base_and_frames.md R723, 01_dies_and_paths.md R37, 01_dies_and_paths.md R38, 06_planning_and_ageing.md R229, 06_planning_and_ageing.md R230, 10_modulation.md R365, 11_gate_arrays.md R387, 10_modulation.md R725.) -/
def Obligations.ResyncsAndReferences : Prop :=
  (
    (∀ (s : State) (c : Channel) (v : BitVec 32), s.hasChannel c = true → bitAt v 0 = true →
        (s.source c = 2 → exec (.chResync c v) s = .next (s.raise 0x1014 c.val 5 []))
        ∧ (s.source c ≠ 2 → s.ch[c].running = false → exec (.chResync c v) s = .next s)
        ∧ (s.source c ≠ 2 → s.ch[c].running = true → s.ch[c].armedFrom = none → s.ch[c].resyncAt = none →
            let held := s.ch[c].iInvalid ≠ 0 ∨ ∃ f ∈ s.followersOf c, s.ch[f].iInvalid ≠ 0
            let waiting := s.modCh c (fun x => { x with armed := true })
            (held → exec (.chResync c v) s = .next waiting)
            ∧ (¬ held → s.source c = 0 → exec (.chResync c v) s = .next (waiting.armResync c s.now 0 true))
            ∧ (¬ held → s.source c ≠ 0 → exec (.chResync c v) s = .next (waiting.modCh c (fun x => { x with armedFrom := some s.now })))))
    ∧ (∀ (s : State) (c : Channel) (v : BitVec 32), bitAt v 0 = false ∨ s.hasChannel c = false → exec (.chResync c v) s = .next s)
    ∧ (∀ (s : State) (c : Channel) (t : Nat), s.ch[c].armed = true → s.ch[c].armedFrom = some t → s.ch[c].resyncAt = none → t + 4 * s.nDiv c * s.period c ≤ s.now →
        exec (.resyncDropped c) s = .next ((s.ch[c].armedDescs).foldl (fun s d => s.complete d.1 d.2 1 1 0)
          ((s.raise 0x1014 c.val 5 []).modCh c (fun x => { x with
            armed := false
            armedFrom := none
            armedDescs := [] }))))
    ∧ (∀ (s : State) (c : Channel) (tb : Nat) (e : Int) (cmd : Bool), s.ch[c].running = true → s.ch[c].resyncAt = some (tb, e, cmd) → tb ≤ s.now →
        (s.ch[c].nextBoundary = tb → exec (.hardResync c) s = .next (s.boundary c))
        ∧ (s.ch[c].nextBoundary ≠ tb → exec (.hardResync c) s = .next (s.resyncAtTb c tb e cmd)))
    ∧ (∀ (s : State) (c : Channel) (t : Nat), s.ch[c].holdEnd = some t → t ≤ s.now → exec (.resyncHoldEnd c) s = .next (s.modCh c (fun x => { x with holdEnd := none })))
    ∧ (∀ (s : State) (c : Channel) (t : Nat), s.ch[c].running = true → s.ch[c].jumpAt = some t → t ≤ s.now → t ≠ s.ch[c].nextBoundary → t ≠ s.ch[c].boundary →
        let u := (s.applySettings c ((s.ch[c].frame + 1) % 2 ^ 32)).resyncAtTb c t 0 true
        let held := s.ch[c].iInvalid ≠ 0 ∨ s.ch[(s.withSettings c).leader c].iInvalid ≠ 0
        (held → exec (.phaseJump c) s = .next (s.modCh c (fun x => { x with jumpAt := none })))
        ∧ (¬ held → exec (.phaseJump c) s = .next (u.modCh c (fun x => { x with lead := u.leadAt c t })))))
  ∧
  (
    (∀ (s : State) (c : Channel) (slot : SlotCode) (v : Vector Word 4), s.ch[c].published = some ⟨slot, (s.ch[c].frame + 1) % 2 ^ 32, some v⟩ →
        s.ch[c].cutoffDone = false → s.ch[c].running = true → s.linkUp .ctrlA .link = true →
        let s1 := (s.modCh c (fun y => { y with published := none })).modMod c (fun m => { m with arrived := s.now })
        (s.ownReference c = true → exec (.referenceSet c) s = .next s1)
        ∧ (s.ownReference c = false → exec (.referenceSet c) s =
            .next (s1.processNext c (some ⟨v[0], v[1], v[2], v[3], s.now⟩) false false (some (slot, (s.ch[c].frame + 1) % 2 ^ 32)))))
    ∧ (∀ (s : State) (c : Channel), s.ch[c].running = true → s.ch[c].cutoffDone = false → s.nextCutOff c ≤ s.now →
        let k := (s.ch[c].frame + 1) % 2 ^ 32
        let taken := s.modCh c (fun y => { y with cutoffDone := true })
        let rest := fun u : State =>
          let w := u.modCh c (fun y => { y with published := none })
          let w := if s.ch[c].measValid = none then w.modProt c (fun p => { p with window := none }) else w
          let w := if s.ownReference c = true then w.ownFrame c else if s.mod[c].next.isSome then w
            else w.processNext c s.mod[c].applied s.mod[c].applied.isSome false none
          w.sendEdges c
        (s.samplePathOf c = none → exec (.cutOffInstant c) s = .next (rest taken))
        ∧ (∀ slot, s.samplePathOf c = some slot → (s.slotOf .a slot).runsIn k = false → exec (.cutOffInstant c) s = .next (rest taken))
        ∧ (∀ slot, s.samplePathOf c = some slot → (s.slotOf .a slot).runsIn k = true →
            (∀ p, s.ch[c].published = some p → p.frame = k → exec (.cutOffInstant c) s = .next (rest (taken.miss p.slot c k 1 0)))
            ∧ (s.ch[c].published = none → (s.slotOf .a slot).isDone k = true → exec (.cutOffInstant c) s = .next (rest taken))
            ∧ (s.ch[c].published = none → (s.slotOf .a slot).isDone k = false →
                (∀ e r, (s.die .a).engineOf slot = some (e, r) → r.frame = k → exec (.cutOffInstant c) s = .next (rest (taken.abortRun e r (some 1))))
                ∧ ((s.die .a).engineOf slot = none →
                  exec (.cutOffInstant c) s = .next (rest (((taken.notRun .a slot k (s.nextSample c)).verdict slot k 7).miss slot c k 2 0)))))))

/-- For an enabled input of a present SENSE die whose clock runs while SENSE measures, a bit b sampled at t = the latest bit time gives, under each of the five commands SDM_STUCK, SDM_RESTORED, FILTER_SETTLED, SINC1_TRIP and SDM_SAMPLE_RECORD, the state after the bit with the input's raw and corrected values shown on the board, stamped with the latest bit time of a clock that runs. The bit passes the stuck watch and the sinc3 filter, then with the comparator on the sinc1 comparator and its judgement, and each OSR bits of a settled filter enter the sample buffers. A group whose enabled members are ready, whose turn has come and that is unsent is sent with its sample instant as stamp; the first group reaches the protection unit; the position feedback of the instant that is then sent reaches it too. 200 ticks after the sample instant the enabled members still waiting are ready and not valid with reason 4, or 5 where the ball of a member has its open-wire bit set, with MEAS_LATE at most once per second. A W1C write of OW_STATUS clears the named bits of that word and publishes both words; for SENSE-1 of an NB-7806 it changes nothing. (07_current_and_voltage_sensing.md R243, 07_current_and_voltage_sensing.md R244, 07_current_and_voltage_sensing.md R245, 07_current_and_voltage_sensing.md R249, 07_current_and_voltage_sensing.md R250, 07_current_and_voltage_sensing.md R279, 07_current_and_voltage_sensing.md R271, 07_current_and_voltage_sensing.md R273, 07_current_and_voltage_sensing.md R274, 07_current_and_voltage_sensing.md R277.) -/
def Obligations.InputsAndGroups : Prop :=
  (
    (∀ (s : State) (d : Fin 2) (i : Fin 24) (b : Bool), s.hasDie (senseDie d) = true → bitAt (s.reg (Reg.sdmCfg d.val i.val)) 31 = true → s.clkOn d (s.sdmClk d i) = true →
      let done := (s.feedBit d i b (s.bitTime d i)).showBits d i [b]
      exec (.sdmStuck d i [b]) s = .next done ∧ exec (.sdmRestored d i [b]) s = .next done ∧ exec (.filterSettled d i [b]) s = .next done
      ∧ exec (.sinc1Trip d i [b]) s = .next done ∧ exec (.sdmSampleRecord d i [b]) s = .next done)
    ∧ (∀ (s : State) (d : Fin 2) (i : Fin 24) (b : Bool), bitAt (s.reg (Reg.sdmCfg d.val i.val)) 31 = true → s.clkOn d (s.sdmClk d i) = true →
      let t := s.bitTime d i
      let raw := (s.sdm d i).raw
      s.showBits d i [b] = s.hwCommit (3 + d.val) t [(0x10000 + d.val * 0x1000 + i.val, i32 raw),
        (0x10000 + d.val * 0x1000 + 0x20 + i.val, i32 (correct (s.reg (Reg.sdmCorr d.val i.val)) raw).1)])
    ∧ (∀ (s : State) (d : Fin 2) (i : Fin 24) (b : Bool) (t : Nat),
      let s1 := (s.stuckJudge d i b).modSdm d i (fun x => x.sinc3 (s.osr d i) b)
      let s2 := if s1.cmpOn d i then (s1.modSdm d i (fun x => x.sinc1 (s.reg (Reg.sdmCmp d.val i.val)) b)).sinc1Judge d i else s1
      let x := s2.sdm d i
      s.feedBit d i b t = if x.settled (s.osr d i) ∧ x.count % s.osr d i = 0 then
          (s2.smpAll (s2.smpOf d false 0 i.val) d x.restarted x.raw (correct (s.reg (Reg.sdmCorr d.val i.val)) x.raw).1 t).modSdm d i (fun y => { y with restarted := false })
        else s2))
  ∧
  (
    (∀ (s : State) (c : Channel) (second : Bool), s.hasChannel c = true → s.groupReady c second = true → s.groupTurn c second = true → s.groupUnsent c second = true →
        let s2 := if second then s.sendGroup c true else (s.sendGroup c false).protOnMeas c
        let s3 := s2.sendPosfbs c
        exec (.measDelivery c second) s = .next ((idxs 8).foldl (fun u q =>
          if senseOf q = senseOf c ∧ (s3.die .a).stampOf (chBase q + 0x40) ≠ (s2.die .a).stampOf (chBase q + 0x40) then u.protOnPosfb q else u) s3))
    ∧ (∀ (s : State) (c : Channel), s.hasChannel c = true →
        let late := (idxs 10).filter (fun m => memberOn (measReg s c m.val) && !(s.meas[c].members[m]).ready)
        let s1 := s.modMeas c (fun y => { y with members := Vector.ofFn (fun m => if late.contains m then { y.members[m] with
          ready := true
          reason := s.lateReason c m.val } else y.members[m]) })
        s.meas[c].sample + 200 ≤ s.now → late ≠ [] →
        exec (.measLate c) s = .next (if rateOk s.meas[c].lastLate s.now 400000000 then
          (s1.modMeas c (fun y => { y with lastLate := some s.now })).raise 0x2021 c.val 6 [packFields (late.map (fun m => (m.val, 1))), w32 s.meas[c].frame] else s1))
    ∧ (∀ (s : State) (d i : Fin 2) (v : BitVec 32), s.hasDie (senseDie d) = false → exec (.owStatus d i v) s = .next s)
    ∧ (∀ (s : State) (c : Channel) (m : Nat), let w := measReg s c m
        let k : Fin 6 := finOf 5 (bitsAt w 26 3)
        s.lateReason c m = if bitsAt w 29 2 = 1 ∧ (s.ballOf (senseOf c) k (bitsAt (s.adcSeq (senseOf c) k (bitsAt w 21 5)) 0 5)).any (fun b => (s.sense[senseOf c]).openWire b) = true then 5 else 4)
    ∧ (∀ (s : State) (d : Fin 2) (v : BitVec 32), s.hasDie (senseDie d) = true →
        let lo := (s.sense[d]).owLo
        let hi := (s.sense[d]).owHi
        let both := fun (a b : Word) => [(0x10320 + d.val * 0x1000, a), (0x10321 + d.val * 0x1000, b)]
        exec (.owStatus d 0 v) s = .next ((s.modSense d (fun x => { x with owLo := lo &&& ~~~v })).hwCommit (3 + d.val) s.now (both (lo &&& ~~~v) hi))
        ∧ exec (.owStatus d 1 v) s = .next ((s.modSense d (fun x => { x with owHi := hi &&& ~~~v })).hwCommit (3 + d.val) s.now (both lo (hi &&& ~~~v)))))

/-- For every state and input: the 128th equal bit in a row of an input not stuck makes it stuck and raises SDM_STUCK with the input and the bit; a bit that differs from the last of a stuck input ends it, clears the integrators and the history and raises SDM_RESTORED. Every bit adds 1 or −1 through the three integrators, raw is min(32767, floor((65536 y + OSR³) / (2 OSR³))) of the history of R245, and the filter is settled exactly when 3 × OSR bits have come since the restart. At a sample instant a stuck input's member is marked with reason 3, an unsettled one's with reason 2, any other is valid. (07_current_and_voltage_sensing.md R244, 07_current_and_voltage_sensing.md R245.) -/
def Obligations.StuckWatchAndFilter : Prop :=
  (∀ (s : State) (d : Fin 2) (i : Fin 24) (b : Bool), let x := s.sdm d i
    (x.run = 127 → x.lastBit = b → x.stuck = false → s.stuckJudge d i b = (s.modSdm d i (fun y => { y with
      stuck := true
      run := 128
      lastBit := b })).raise 0x2001 (4 + d.val) 8 [w32 i.val, if b then 1 else 0])
    ∧ (x.stuck = true → x.lastBit ≠ b → x.run ≠ 0 → s.stuckJudge d i b = (s.modSdm d i (fun y => { y.restart with
      stuck := false
      run := 1
      lastBit := b })).raise 0x2002 (4 + d.val) 3 [w32 i.val])
    ∧ (x.run < 127 → x.stuck = false → s.stuckJudge d i b = s.modSdm d i (fun y => { y with
      run := if x.run ≠ 0 ∧ x.lastBit = b then x.run + 1 else 1
      lastBit := b })))
  ∧ (∀ (x : SdmInput) (osr : Nat) (b : Bool), let y := x.sinc3 osr b
      y.i1 = x.i1 + (if b then 1 else -1) ∧ y.i2 = x.i2 + y.i1 ∧ y.i3 = x.i3 + y.i2 ∧ y.count = x.count + 1
      ∧ (x.restart.i1 = 0 ∧ x.restart.i2 = 0 ∧ x.restart.i3 = 0 ∧ x.restart.hist = [] ∧ x.restart.count = 0)
      ∧ (let h := y.i3 :: x.hist
         y.raw = min 32767 ((65536 * (y.i3 - 3 * h.getD osr 0 + 3 * h.getD (2 * osr) 0 - h.getD (3 * osr) 0) + osr ^ 3) / (2 * osr ^ 3)))
      ∧ (y.settled osr = true ↔ 3 * osr ≤ x.count + 1))
  ∧ (∀ (s : State) (d : Fin 2) (i : Fin 24) (m : MeasMember), (s.sdmMember d i false m).reason
      = if (s.sdm d i).stuck then 3 else if (s.sdm d i).settled (s.osr d i) then 0 else 2)

/-- A TIMER trigger that has not been taken for this multiple of PERIOD is taken and triggers the converter. A trigger of an enabled converter without low-priority work starts a pass when the converter is idle, is latched when it is busy with an empty latch, and is counted as an overrun, with the event at most once a millisecond, when the latch is full. The oldest urgent request on its way with a new number starts an urgent conversion at the next tick on an idle converter, suspends a pass, is held when an urgent conversion runs, and is dropped when one is already held; a number 0 or the last number is no request. An urgent conversion that has run 80 ticks commits its channel's result group stamped with the sampling time; then the pending request runs, else the suspended pass resumes at its entry, else the converter serves its other work. A conversion of a pass, a plausibility or a housekeeping conversion that has run its length ends as its kind says. The plausibility period begins at most once per PERIOD × 100 µs, and housekeeping once per millisecond. (07_current_and_voltage_sensing.md R256, 07_current_and_voltage_sensing.md R257, 07_current_and_voltage_sensing.md R259, 07_current_and_voltage_sensing.md R260, 07_current_and_voltage_sensing.md R261, 07_current_and_voltage_sensing.md R252, 07_current_and_voltage_sensing.md R258, 07_current_and_voltage_sensing.md R262, 07_current_and_voltage_sensing.md R263, 07_current_and_voltage_sensing.md R265, 07_current_and_voltage_sensing.md R267.) -/
def Obligations.Conversions : Prop :=
  (
    (∀ (s : State) (d : Fin 2) (c : Fin 6), s.hasDie (senseDie d) = true → s.fld (Reg.adcCtrl d.val c.val) 29 2 = 2 →
      let p := max 80 (s.fld (Reg.adcCtrl d.val c.val) 0 18)
      let t := s.now / p * p
      (s.conv d c).lastTimer ≠ some t → exec (.adcTimerTrigger d c) s = .next ((s.modConv d c (fun x => { x with lastTimer := some t })).trigger d c .timer t))
    ∧ (∀ (s : State) (d : Fin 2) (c : Fin 6) (g : Trigger) (t : Nat), s.adcOn d c = true →
        ((s.conv d c).work = .idle → s.trigger d c g t = ((s.beginPass d c g t t false).serve d c t).serve d (mateOf c) t)
        ∧ (∀ p, (s.conv d c).work = .pass p → (s.conv d c).latched = none → s.trigger d c g t = s.modConv d c (fun y => { y with latched := some (g, t) }))
        ∧ (∀ u b, (s.conv d c).work = .urgent u b → (s.conv d c).latched = none → s.trigger d c g t = s.modConv d c (fun y => { y with latched := some (g, t) }))
        ∧ (∀ p q, (s.conv d c).work = .pass p → (s.conv d c).latched = some q →
            let n := if (s.conv d c).overruns < 0xFFFFFFFF then (s.conv d c).overruns + 1 else 0xFFFFFFFF
            let s2 := (s.modConv d c (fun y => { y with overruns := n })).hwCommit (3 + d.val) s.now [(0x10119 + d.val * 0x1000 + 0x20 * c.val, w32 n)]
            s.trigger d c g t = if rateOk (s.conv d c).lastOverrunEvent s.now 400000 then
              (s2.modConv d c (fun y => { y with lastOverrunEvent := some s.now })).raise 0x2010 (4 + d.val) 5 [w32 c.val, w32 n] else s2))
    ∧ (∀ (s : State) (ch : Channel) (c : Fin 6) (w : Word) (ws : List Word), s.hasChannel ch = true → s.meas[ch].requests = w :: ws →
      let id := bitsAt w 16 16
      let d := senseOf ch
      let u : Urgent := ⟨ch, bitsAt w 3 5, id⟩
      let s0 := s.modMeas ch (fun m => { m with
        lastReqId := id
        requests := ws })
      (id = 0 ∨ id = s.meas[ch].lastReqId → exec (.urgentRequest ch) s = .next s0)
      ∧ (id ≠ 0 → id ≠ s.meas[ch].lastReqId → bitsAt w 0 3 = c.val → s.adcOn d c = true →
          ((s.conv d c).work = .idle → exec (.urgentRequest ch) s = .next ((s0.modConv d c (fun y => { y with work := .urgent u (s.now + 1) })).serve d (mateOf c) s.now))
          ∧ (∀ p, (s.conv d c).work = .pass p → exec (.urgentRequest ch) s = .next ((s0.modConv d c (fun y => { y with
              suspended := some { p with preempted := true }
              work := .urgent u (s.now + 1) })).serve d (mateOf c) s.now))
          ∧ (∀ v b, (s.conv d c).work = .urgent v b → (s.conv d c).pendingUrgent = none →
              exec (.urgentRequest ch) s = .next ((s0.modConv d c (fun y => { y with pendingUrgent := some u })).serve d (mateOf c) s.now))
          ∧ (∀ v b q, (s.conv d c).work = .urgent v b → (s.conv d c).pendingUrgent = some q → exec (.urgentRequest ch) s = .next ((s0.dropUrgent d c.val ch id).serve d (mateOf c) s.now)))
      ∧ (id ≠ 0 → id ≠ s.meas[ch].lastReqId → 6 ≤ bitsAt w 0 3 → exec (.urgentRequest ch) s = .next (s0.dropUrgent d (bitsAt w 0 3) ch id))))
  ∧
  (
    (∀ (s : State) (d : Fin 2) (c : Fin 6) (nv : Int) (u : Urgent) (b : Nat), s.hasDie (senseDie d) = true → (s.conv d c).work = .urgent u b → b + 80 ≤ s.now →
      let s1 := s.hwCommit (3 + d.val) (b + 16) [(chBase u.chan + 0x32, i32 (correct (s.reg (Reg.adcCorr d.val c.val u.mux)) (rawCode nv)).1), (chBase u.chan + 0x33, w32 u.reqId)]
      (∀ v, (s.conv d c).pendingUrgent = some v → exec (.urgentConversionEnd d c nv) s = .next (s1.modConv d c (fun x => { x with
        work := .urgent v (b + 80)
        pendingUrgent := none })))
      ∧ (∀ p, (s.conv d c).pendingUrgent = none → (s.conv d c).suspended = some p → exec (.urgentConversionEnd d c nv) s = .next (s1.modConv d c (fun x => { x with
        work := .pass { p with convStart := b + 80 }
        suspended := none })))
      ∧ ((s.conv d c).pendingUrgent = none → (s.conv d c).suspended = none →
          exec (.urgentConversionEnd d c nv) s = .next ((s1.modConv d c (fun x => { x with work := .idle })).serve d c (b + 80))))
    ∧ (∀ (s : State) (d : Fin 2) (c : Fin 6) (nv : Int), s.hasDie (senseDie d) = true →
        (∀ p, (s.conv d c).work = .pass p → p.convStart + 80 + 64 * s.acq d c p.entry ≤ s.now →
          exec (.conversionEnd d c nv) s = .next ((s.passConvEnd d c p nv).judgeNtc d c.val p.entry))
        ∧ (∀ b, (s.conv d c).work = .plaus b → b + 80 ≤ s.now →
          exec (.conversionEnd d c nv) s = .next (((s.plausConvEnd d c nv).modConv d c (fun x => { x with work := .idle })).serve d c (b + 80)))
        ∧ (∀ j b, (s.conv d c).work = .house j b → b + 80 ≤ s.now →
          exec (.conversionEnd d c nv) s = .next (((s.houseConvEnd d c j nv).modConv d c (fun x => { x with work := .idle })).serve d c (b + 80))))
    ∧ (∀ (s : State) (d : Fin 2) (k : Fin 3), s.hasDie (senseDie d) = true → bitAt (s.reg (Reg.plaus d.val k.val)) 31 = true → s.senseRuns = true →
        rateOk ((s.sense[d]).pairs[k]).lastPeriod s.now (max 1 (bitsAt (s.reg (Reg.plaus d.val k.val)) 16 8) * 40000) = true →
        exec (.plausibilityPeriod d k) s = .next (((if ((s.sense[d]).pairs[k]).want then s.skipPair d k else s).modPair d k (fun q => { q with
          want := true
          lastPeriod := some s.now })).servePair d k s.now))
    ∧ (∀ (s : State) (d : Fin 2), s.hasDie (senseDie d) = true → s.pwr.rung ≤ 1 → rateOk (s.sense[d]).lastHouse s.now 400000 = true →
        exec (.housekeeping d) s = .next (((s.modSense d (fun x => { x with lastHouse := some s.now })).modConv d 5 (fun x => { x with house := [24, 25, 26, 27, 28] })).serve d 5 s.now)))

/-- For every state and buffer: a host write of SMP_RPTR, with the registers in their canonical form (MemoriesStartCanonical), sets the read pointer, re-arms the watermark when that changes it, and judges the buffer. Judged after a move of a pointer, with u the records not yet consumed modulo 2^32: SAMPLE_WATERMARK is raised exactly when u has reached the watermark and it has not been raised since the read pointer last changed, SAMPLE_OVERRUN exactly when u exceeds 2^LOG2_LEN and none was raised within the last second. Judging never changes sample memory or a pointer: writing never stops. (07_current_and_voltage_sensing.md R281.) -/
def Obligations.SampleBufferPointers : Prop :=
  (∀ (s : State) (b : Fin 64) (v : BitVec 32), s.memWf = true → ∃ u t : State, exec (.smpRptr b v) s = .next t ∧ t = u.smpJudge b ∧ u.reg (Reg.smpRptr b.val) = v
      ∧ ((u.smp[b]).wmRaised = ((s.smp[b]).wmRaised && decide (s.reg (Reg.smpRptr b.val) = v))) ∧ t.reg (Reg.smpRptr b.val) = v ∧ t.sampleMem = s.sampleMem
      ∧ (t.smp[b]).wptr = (s.smp[b]).wptr ∧ t.ctrl = s.ctrl ∧ t.now = s.now)
  ∧ (∀ (s : State) (b : Fin 64), let u := s.smpUnread b
      let marks := decide (max 1 (s.fld (Reg.smpWm b.val) 0 20) ≤ u) && !(s.smp[b]).wmRaised
      let over_ := decide (2 ^ s.smpLog b < u) && rateOk (s.smp[b]).lastOverrun s.now sTicks
      let t := s.smpJudge b
      (t.smp[b]).wmRaised = ((s.smp[b]).wmRaised || marks) ∧ ((t.smp[b]).lastOverrun = if over_ then some s.now else (s.smp[b]).lastOverrun)
      ∧ t.ev.raised.map (fun e => e.1) = s.ev.raised.map (fun e => e.1)
          ++ (if marks then [⟨s.now, 0x2030, b.val, 2, [w32 (s.smp[b]).wptr]⟩] else [])
          ++ (if over_ then [⟨s.now, 0x2031, b.val, 5, [w32 (s.smp[b]).wptr, s.reg (Reg.smpRptr b.val)]⟩] else [])
      ∧ t.sampleMem = s.sampleMem ∧ (t.smp[b]).wptr = (s.smp[b]).wptr ∧ t.regs = s.regs)

/-- An OC_TRIP that LINK has not taken makes cause 0 active, asks Chamois for STO_A and enters the safe state held at SAFE_OPEN; where SAFE_ASC is held it only counts. Its release starts OC_HOLD and ends the cause; OC_HOLD later the choice applies again. A phase-loss window that has lasted PL_WIN is judged and counts as a cause at the second lopsided one. At T_ASC ASC is asserted and a channel held in SAFE_OPEN goes to SAFE_ASC, or after a release STO_A is released. RELEASE of an enabled channel without a reason against it is granted: the causes clear, the latched dies are cleared, RUN is entered, and ASC_n is released with STO_A to follow after T_ASC, or STO_A at once. With a reason it is refused with PROT_RELEASE_REFUSED, after GA_NOT_READY where a die is held. DISCH is refused with reason 1 where METHOD is NONE, 4 during a discharge, 3 during a shutdown, 2 where METHOD 1 finds no winding ready; else the discharge starts, with DISCH_n but for METHOD 1. DISCH_STOP stops a running one, and the timeout stops it with cause 13. The cause word of a commanded stop is a free value (assumption 11). (12_protection_and_discharge.md R415, 12_protection_and_discharge.md R416, 12_protection_and_discharge.md R420, 12_protection_and_discharge.md R427, 12_protection_and_discharge.md R428, 12_protection_and_discharge.md R429, 12_protection_and_discharge.md R430, 12_protection_and_discharge.md R435, 12_protection_and_discharge.md R436.) -/
def Obligations.ProtectionActs : Prop :=
  (∀ (s : State) (c : Channel), s.wires.ocTrip[c] = true → s.prot[c].ocTaken = false →
      let s0 := s.modProt c (fun p => { p with
        ocTaken := true
        ocClear := none })
      (s.safeHeld c = some true → exec (.ocTrip c) s = .next ((s0.modProt c (fun p => { p with ocInAsc := if p.ocInAsc < 0xFFF then p.ocInAsc + 1 else 0xFFF })).settle))
      ∧ (s.safeHeld c ≠ some true → exec (.ocTrip c) s = .next ((((s0.causeOn c 0 f32NaN).modProt c (fun p => { p with
          ocForce := true
          ascAt := none })).linkSto c true).enterSafe c 0)))
  ∧ (∀ (s : State) (c : Channel), (s.prot[c].state = .safeOpen → s.safeHeld c = some false) ∧ (s.prot[c].state = .safeAsc → s.safeHeld c = some true)
      ∧ (s.prot[c].state = .discharge → s.safeHeld c = if s.prot[c].inSafe then some (s.sw.asc.getLsbD c.val) else none)
      ∧ (s.prot[c].state = .run → s.safeHeld c = none)
      ∧ (∀ w, s.enterSafe c w = if (s.safeHeld c).isSome then s else s.goSafe c w))
  ∧ (∀ (s : State) (c : Channel), s.hasChannel c = true → s.wires.ocTrip[c] = true → (s.ocRelease c).wires.ocTrip[c] = false →
      exec (.ocTripRelease c) s = .next (((((s.ocRelease c).modProt c (fun p => { p with
        ocTaken := false
        ocClear := some s.now })).causeOff c 0)).settle))
  ∧ (∀ (s : State) (c : Channel) (u : Nat), s.prot[c].ocClear = some u → s.prot[c].ocForce = true → u + s.ocHold c ≤ s.now →
      exec (.ocHoldExpiry c) s = .next ((s.modProt c (fun p => { p with
        ocForce := false
        ocClear := none })).repeatChoice c))
  ∧ (∀ (s : State) (c : Channel) (w : PhaseWindow), let r := s.reg (Reg.protPl c.val)
      s.prot[c].window = some w → w.opened + max 10 (min 2000 (bitsAt r 20 11)) * 400000 ≤ s.now →
      let j := judgeWindow w (max 1 (min 100 (bitsAt r 12 8))) (max 1 (bitsAt r 0 12))
      let n := if j.2 then s.prot[c].lopsided + 1 else 0
      let s1 := s.modProt c (fun p => { p with
        window := none
        lopsided := n })
      exec (.phaseLossWindow c) s = .next (if 2 ≤ n then s1.protCause c 6 j.1 else s1))
  ∧ (∀ (s : State) (c : Channel) (u : Nat), u ≤ s.now →
      (s.prot[c].ascAt = some u → let s1 := (s.modProt c (fun p => { p with ascAt := none })).driveAsc c true
        exec (.tAscExpiry c) s = .next (if s.safeHeld c = some false then (s1.raise 0x6002 c.val 6 [1, s.rpmOrNaN c]).showSafe c .safeAsc else s1))
      ∧ (s.prot[c].ascAt = none → s.prot[c].stoReleaseAt = some u →
        exec (.tAscExpiry c) s = .next ((s.modProt c (fun p => { p with stoReleaseAt := none })).linkSto c false)))
  ∧ (∀ (s : State) (c : Channel), s.ch[c].enabled = true →
      (s.releaseReason c = none → exec (.release c) s = .next (s.grantRelease c))
      ∧ (∀ r, s.releaseReason c = some r →
          let held := (idxs 6).map (fun p => (s.heldDies (portOf c p)).zeroExtend 32)
          exec (.release c) s = .next ((if held.any (· != 0) then s.raise 0x5017 c.val 6 held else s).raise 0x6005 c.val 5 [w32 r])))
  ∧ (∀ (s : State) (c : Channel),
      let asc := s.sw.asc.getLsbD c.val
      let s1 := s.modProt c (fun p => { p with
        active := 0
        causes := 0
        ocForce := false
        ocClear := none
        ascAt := none
        dieFaults := 0
        dischPin := false
        inSafe := false
        stoReleaseAt := if asc then some (s.now + s.tAsc c) else none })
      let s2 := (s1.modMod c (fun m => { m with
        halted := false
        applied := none })).modTahrCh c (fun t => { t with
        request := false
        wantSs1 := none
        wantSto := false })
      let s3 := (idxs 6).foldl (fun u p => (u.clearLatched (portOf c p)).modGate (portOf c p) (fun g => { g with groupFault := false }))
        { s2 with tahr := { s2.tahr with requests := s2.tahr.requests.filter (fun q => q.1 != c) } }
      let s4 := (s3.raise 0x6004 c.val 3 [w32 s.prot[c].state.code]).setProt c .run
      s.grantRelease c = if asc then s4.driveAsc c false else s4.linkSto c false)
  ∧ (∀ (s : State) (c : Channel), s.ch[c].enabled = true →
      let m := s.dischMethod c
      let refused := fun (r : Word) => exec (.disch c) s = .next (s.raise 0x6014 c.val 5 [r])
      (m = 0 → refused 1)
      ∧ (m ≠ 0 → s.prot[c].state = .discharge → refused 4)
      ∧ (m ≠ 0 → s.prot[c].state ≠ .discharge → s.shut.active = true → refused 3)
      ∧ (m ≠ 0 → s.prot[c].state ≠ .discharge → s.shut.active = false → (m = 1 ∧ s.windingReady c = false → refused 2)
        ∧ (¬ (m = 1 ∧ s.windingReady c = false) →
            exec (.disch c) s = .next (((s.modProt c (fun p => { p with
              discharge := some ⟨s.now, s.windingReady c, 0, 0⟩
              inSafe := false
              uMin := p.udc
              dischPin := p.dischPin || m != 1
              ascAt := none })).raise 0x6010 c.val 3 [w32 (if m = 3 ∧ ¬ s.windingReady c then 2 else m), s.prot[c].udc]).setProt c .discharge))))
  ∧ (∀ (s : State) (c : Channel) (d : Discharge), s.prot[c].discharge = some d →
      exec (.dischStop c) s = .next ({ s.raise 0x6012 c.val 13 [s.prot[c].uMin, s.prot[c].udc] with freeCtr := s.freeCtr + 1 }.stopDischarge c (Config.free 32 s.freeCtr))
      ∧ (d.start + max 1 (s.fld (Reg.dischCfg c.val) 16 13) * 4000000 ≤ s.now →
          exec (.dischargeTimeout c) s = .next (((s.raise 0x6013 c.val 12 [s.prot[c].uMin]).causeOn c 13 f32NaN).stopDischarge c 13)))

/-- On a started part at BED or above with no shutdown running, a VSUP_SENSE value below a SHUT_V that is not 0 starts an orderly shutdown, and a SET_STATE request 1 with no data and no stray words starts one that keeps its descriptor; while one runs a further request completes with REJECTED_STATE. A start aborts a running self-test, sets step 1 and its time, sets STALE of every channel and raises SHUTDOWN_START. SD_RAMP after its start a shutdown in step 1 brings stopping channels to their safe state; then each enabled channel that has not entered one before records cause 15 and starts its discharge, or without a METHOD enters its safe state: step 3. With no discharge left, step 3 brings every enabled channel to its safe state, asks SAFE for every STO, asserts both AUX_OFF levels and has the records written: step 5. When STORE has nothing left to write, the shutdown raises its end, completes the descriptor, and leaves by a cold start (after a dip) or for the rung of SHUT_RUNG. A dip is remembered: a fall below SHUT_V, and for a shutdown by VSUP a rise beyond SHUT_V + 0.5 V. A write of a lower rung to PWR_CTRL.TARGET asks for the descent, which is refused with the reason that holds first, waits behind another request or a running self-test, or starts; a write of a higher rung at BED or above is a wake, and so are WAKE_N and, while TIMER_EN is set, the wake timer, once. A wake waits behind a descent or a climb, starts its climb, or ends at once on its rung. SET_STATE request 2 with its fields in order asks for the descent or the wake, completes at once on the rung it names, and with REJECTED_STATE during a shutdown. With the image written a descent to YARD or SHED goes on and its image is kept. A step of a climb whose conditions are met goes up; one that times out raises an event and starts again, and the second time the climb ends with WAKE_FAIL and the part stays. PWR_STATUS clears WAKE_FAIL by writing one; PWR_TIMER_HI puts the wake time in force. (12_protection_and_discharge.md R413, 12_protection_and_discharge.md R438, 12_protection_and_discharge.md R439, 12_protection_and_discharge.md R440, 18_power_ladder.md R609, 18_power_ladder.md R611, 18_power_ladder.md R612, 18_power_ladder.md R614, 18_power_ladder.md R615, 18_power_ladder.md R616, 18_power_ladder.md R617, 18_power_ladder.md R622.) -/
def Obligations.ShutdownAndLadder : Prop :=
  (
    (∀ (s : State) (mv : Nat), s.shut.active = false → s.shutV ≠ 0 → mv < s.shutV → s.pwr.rung ≤ 3 → s.pwr.started = true →
        exec (.shutdownVsup mv) s = .next (s.startShutdown true none))
    ∧ (∀ (s : State) (v : Bool) (d : Option (Nat × Nat)),
        let u := ((s.abortTest false).modTest (fun t => { t with coldOwed := s.extendedRuns && s.testCold })).modShut (fun _ =>
          { active := true, step := 1, start := s.now, byVsup := v, below := v, desc := d })
        s.startShutdown v d = (u.partChannels.foldl (fun u c => u.hwCommit 0x0001 u.now [(chBase c + 0x1B, 1)]) u).raise 0x6020 6 8 [w32 (b2n v)])
    ∧ (∀ (s s1 : State) (ring : BitVec 16) (t : Taken), s.take ring.toNat 0x40 (fun d => d.w[0] == 1) = some (t, s1) →
        t.desc.length = 0 → t.desc.addr = 0 → t.desc.zeroFrom 1 = true →
        (s1.shut.active = false → exec (.shutdownRequest ring) s = .next (s1.startShutdown false (some (t.ring, t.index))))
        ∧ (s1.shut.active = true → exec (.shutdownRequest ring) s = .next (s1.complete t.ring t.index 1 4 0)))
    ∧ (∀ (s : State), s.shut.active = true → s.shut.step = 1 → s.shut.start + min 60000 (s.fld Reg.shutCfg 16 16) * 400000 ≤ s.now →
        let cs := (idxs 8).filter (fun c => s.ch[c].enabled)
        let s1 := cs.foldl (fun u c => if u.prot[c].state = .zeroVector ∨ u.prot[c].state = .freewheel then u.protCause c 15 f32NaN else u) s
        let s2 := cs.foldl (fun u c => if s.shut.early.getLsbD c.val then u
          else if s.dischMethod c ≠ 0 then (u.causeOn c 15 f32NaN).startDischarge c true else u.protCause c 15 f32NaN) s1
        exec .sdRampExpiry s = .next (s2.modShut (fun x => { x with step := 3 })))
    ∧ (∀ (s : State), s.shut.active = true → s.shut.step = 3 → (∀ c : Channel, s.prot[c].state ≠ .discharge) →
        let s1 := ((idxs 8).filter (fun c => s.ch[c].enabled)).foldl (fun u c => u.protCause c 15 f32NaN) s
        let s2 := s1.partChannels.foldl (fun u c => u.askSafe c true) s1
        let s3 := s2.modChamois (fun x => { x with shutAux := true })
        let s4 : State := { s3 with sw := { s3.sw with auxOffB := true } }
        exec .shutdownDischargesEnded s = .next ((s4.settle.ageRecords.flushLog).modShut (fun x => { x with step := 5 })))
    ∧ (∀ (s : State), s.shut.active = true → s.shut.step = 5 → s.store.write = none → s.store.queue = [] → s.store.waiting = [] →
        let s1 := s.raise 0x6021 6 8 [w32 (b2n s.shut.dipSeen)]
        let s3 := (s.shut.desc.elim s1 (fun d => (s1.complete d.1 d.2 0 0 0).flushDone)).modShut (fun _ => {})
        exec .shutdownDone s = .next (if s.shut.dipSeen then s3.coldBegin 4 0 else if s.st.coldOwed then s3.coldBegin 6 0
          else if s.pwr.rung < s.shutRung then s3.startDescent { target := s.shutRung, source := 0 } else s3))
    ∧ (∀ (s : State) (mv : Nat), s.shut.active = true → ((mv < s.shutV ∧ s.shut.below = false) ∨ (s.shut.byVsup = true ∧ s.shutV + 500 < mv)) →
        exec (.vsupDip mv) s = .next (s.modShut (fun x => { x with
          dipSeen := true
          below := decide (mv < s.shutV) }))))
  ∧
  (
    (∀ (s : State) (v : Word), bitsAt v 0 3 ≤ 5 →
        (s.pwr.rung < bitsAt v 0 3 → exec (.targetDescent v) s = .next ((s.setReg Reg.pwrCtrl (w32 (bitsAt v 0 3))).askDescent { target := bitsAt v 0 3, source := 0 }))
        ∧ (bitsAt v 0 3 < s.pwr.rung → s.pwr.rung ≤ 3 → exec (.targetWake v) s = .next ((s.setReg Reg.pwrCtrl (w32 (bitsAt v 0 3))).wake { target := bitsAt v 0 3, source := 3 })))
    ∧ (∀ (s : State) (q : RungRequest),
        (∀ r, s.descentRefused q.target = some r → s.askDescent q = (s.raise 0xA002 6 5 [w32 q.target, w32 r]).endRequest q 1 1)
        ∧ (s.descentRefused q.target = none → s.askDescent q = if s.pwr.descent.isSome ∨ s.pwr.climb.isSome ∨ s.extendedRuns then s.holdRequest q else s.startDescent q)
        ∧ s.wake q = if s.pwr.descent.isSome ∨ s.pwr.climb.isSome then s.holdRequest q
            else if q.target < s.pwr.rung then (s.modPwr (fun p => { p with
              climb := some { request := q, stepAt := s.now }
              source := q.source })).stepActions
            else s.endRequest q 0 0)
    ∧ (∀ (s : State), s.wakeTarget < s.pwr.rung →
        exec .wakeN s = .next (s.wake { target := s.wakeTarget, source := 1 })
        ∧ (bitAt (s.reg Reg.pwrCfg) 31 = true → s.pwr.timer ≤ s.now → s.pwr.timerFired = false → 1 ≤ s.pwr.rung → s.pwr.rung ≤ 4 →
          exec .wakeTimer s = .next ((s.modPwr (fun p => { p with timerFired := true })).wake { target := s.wakeTarget, source := 2 })))
    ∧ (∀ (s s1 : State) (ring : BitVec 16) (t : Taken), s.take ring.toNat 0x40 (fun d => d.w[0] == 2) = some (t, s1) →
        t.desc.length = 0 → t.desc.addr = 0 → t.desc.zeroFrom 2 = true → t.desc.w[1].toNat ≤ 5 →
        let q : RungRequest := { target := t.desc.w[1].toNat, source := 0, desc := some (t.ring, t.index) }
        (s1.shut.active = true → exec (.rungRequest ring) s = .next (s1.complete t.ring t.index 1 4 0))
        ∧ (s1.shut.active = false → exec (.rungRequest ring) s = .next (if s1.pwr.rung < q.target then s1.askDescent q
            else if q.target < s1.pwr.rung then s1.wake { q with source := 4 } else s1.complete t.ring t.index 0 0 (w32 q.target))))
    ∧ (∀ (s : State) (q : RungRequest), s.pwr.descent = some q → s.pwr.rung = 3 → 4 ≤ q.target → s.store.write = none → s.store.queue = [] → s.store.waiting = [] → s.storeUp = true →
        let s1 : State := { s with freeCtr := s.freeCtr + 1 }
        let s2 := (s1.writeNow 2 (leBytes s.imageBytes (Config.free (8 * s.imageBytes) s.freeCtr).toNat)).modPwr (fun p => { p with image := some s.ladderImage })
        exec .ladderImageWritten s = .next ((((if q.target = 5 then s2.enterYard.enterShed else s2.enterYard)).modPwr (fun p => { p with descent := none })).takeHeld))
    ∧ (∀ (s : State) (rails : BitVec 9) (c : Climb), s.pwr.climb = some c → let s0 := s.noteRails rails
        ((s0.stepConditions rails).all id = true → exec (.climbStepReady rails) s = .next (s0.stepUp c))
        ∧ (unmetBits (s0.stepConditions rails) ≠ 0 → c.stepAt + readyTicks s.pwr.rung ≤ s.now →
          (c.repeated = false → exec (.readyTimeout rails) s = .next (((s0.modPwr (fun p => { p with
              climb := some { c with
                stepAt := s.now
                repeated := true } })).raise 0xA003 6 6 [w32 s.pwr.rung, w32 (s.pwr.rung - 1)]).stepActions))
          ∧ (c.repeated = true → exec (.readyTimeout rails) s = .next ((((((s0.modPwr (fun p => { p with
              climb := none
              wakeFail := true })).raise 0xA004 6 12 [w32 (s.pwr.rung - 1), w32 s.pwr.rung, w32 (unmetBits (s0.stepConditions rails))]).stepBack).endRequest c.request 1 1)).takeHeld))))
    ∧ (∀ (s : State) (v : Word), exec (.pwrTimerHi v) s = .next ((s.setReg Reg.pwrTimerHi v).modPwr (fun p => { p with
          timer := v.toNat * 2 ^ 32 + (s.reg Reg.pwrTimerLo).toNat
          timerFired := false }))
        ∧ exec (.pwrStatus v) s = .next (s.modPwr (fun p => { p with wakeFail := p.wakeFail && !bitAt v 27 }))))

/-- The rise of VDD_LINK, a rise of RESET_N after 10 µs low, a rail that a needed rung finds outside its limits, and 600 s of an unconfirmed trial with every channel in STO begin a cold start (causes 1 or 2, 3 with the rail, 7). It leaves no set-up register, device time 0, the part not started, the cause and the rail, the enable balls of groups 2 and 3 low but for EN_MAIN once reset is released, and the banks of STORE, the queue, the reset level and the fused spares as they were. A trial that ends elsewhere waits for every channel to be in STO. RESET_N low lowers groups 3 and 2; a shorter pulse lets the part go on. Once the time base runs and the start-up test has ended, the remaining steps add the fixed entries, write 800 mV to both dies, count the cold start, boot, load the tables and start Tahr; COLD_START is raised last, after DEVICE_UNBOUND on a part that is not bound. (18_power_ladder.md R596, 18_power_ladder.md R599, 18_power_ladder.md R619, 18_power_ladder.md R621, 20_store_update_identity.md R667, 20_store_update_identity.md R670.) -/
def Obligations.ColdStarts : Prop :=
  (∀ (s : State), exec .powerOn s = .next ((({ s with pwr := { s.pwr with resetLow := true, powerOn := true } } : State).enableGroup 1 true).coldBegin 1 0))
  ∧ (∀ (s : State), exec .resetNLow s = .next ((({ s with pwr := { s.pwr with resetLow := true } } : State).enableGroup 3 false).enableGroup 2 false).settle)
  ∧ (∀ (s : State) (n mv : Nat) (b : Bool), s.pwr.resetLow = true →
      (n < 4000 → exec (.resetN n b mv) s = .next ((({ s with pwr := { s.pwr with resetLow := false } } : State).enableGroup 2 true).noteRails s.pwr.rails).settle)
      ∧ (4000 ≤ n → exec (.resetN n b mv) s = .next (({ s with
          tb := { s.tb with refSel := b }
          pwr := { s.pwr with resetLow := false, powerOn := false, io18 := decide (mv < 2500) } } : State).coldBegin (if s.pwr.powerOn then 1 else 2) 0)))
  ∧ (∀ (s : State) (r : Fin 8) (mv : Nat), s.railNeeded r = true → s.pwr.resetLow = false → (mv < (s.railLimits r).1 ∨ (s.railLimits r).2 < mv) →
      exec (.railFault r mv) s = .next (s.coldBegin 3 (r.val + 1)))
  ∧ (∀ (s : State), s.store.life.boot.trial ≠ 0xFF → s.store.life.boot.trialFirstS ≠ 0 → s.store.life.boot.trialFirstS + 600 ≤ s.poweredS → s.store.confirmed = false →
      (s.allSto 0xFF = true → exec .trialTimer s = .next (s.coldBegin 7 0))
      ∧ (s.allSto 0xFF = false → exec .trialTimer s = .next s))
  ∧ (∀ (s : State) (cause rail : Nat), let t := s.coldBegin cause rail
      t.regs = [] ∧ t.now = 0 ∧ t.pwr.started = false ∧ t.pwr.coldCause = cause ∧ t.pwr.coldRail = rail ∧ t.pwr.resetLow = s.pwr.resetLow ∧ t.pwr.enCore = false
      ∧ t.pwr.enMain = !s.pwr.resetLow ∧ t.store.banks = s.store.banks ∧ t.pending = s.pending ∧ t.tb.refSel = s.tb.refSel ∧ t.tb.running = false ∧ t.st.fused = s.st.fused)
  ∧ (∀ (s : State) (v : Nat) (ok : Bool), s.pwr.started = false → s.pwr.resetLow = false → s.tb.running = true → s.st.startDone = true →
      let u := ((((s.noteRails 0x1FE).addFixed s.coldEntries).avsWrite .a 800).avsWrite .b 800).findEmpty.dropLadderImage
      let w := (((((u.modStore (fun x => { x with
        life := { x.life with coldStarts := (x.life.coldStarts + 1) % 2 ^ 32 }
        vsupHigh := decide (18000 < v) })).writeKind 3).boot.loadTables).renewNonce).resumeAge .a).resumeAge .b
      let x := ({ w with
        pwr := { w.pwr with started := true }
        st := { w.st with passDue := w.st.startPassed } } : State).startTahr ok
      exec (.coldStart v ok) s = .next ((if x.store.ident.bound then x else x.raise 0xA304 3 10 [0]).raise 0xA005 6 3 [w32 s.pwr.coldCause, w32 s.pwr.coldRail]))

/-- The first write of 1 to SETUP_LOCK locks the set-up, names the writers of the sample pointers, runs every check and judges the retirements; the checks done, the entries of the enabled objects are added, CTRL-A's RWL values go to CTRL-B, CHECKED is set, the set-up words leave as one pseudo-run, SETUP_LOCKED is raised and each enabled CAN controller commits its status. START is refused with the lowest reason that holds or starts the extended test, which holds STO on every channel. FUSE is refused with reason 1, 2 or 6, or burns; its end burns the saved spares of the map, removes them in one write and raises FUSE_DONE. A start-up test that found nothing ends PASSED; one that found a logic or an analogue failure enters each, ends FAILED and blocks every channel; one whose time base had not locked in time ends FAILED without results. With any failing cells too, the start-up test ends, and an extended one gives up its hold and takes up the held request. A precondition that fails aborts a running extended test; a start-up test it fails. (22_setup_registers.md R695, 22_setup_registers.md R696, 19_self_test.md R624, 19_self_test.md R627, 19_self_test.md R628, 19_self_test.md R630, 19_self_test.md R631, 19_self_test.md R635.) -/
def Obligations.SetupAndSelfTest : Prop :=
  (∀ (s : State) (v : BitVec 32), s.glb.locked = false → bitAt v 0 = true →
      exec (.setupLock v) s = .next (((s.modGlb (fun g => { g with
        locked := true
        lockedAt := s.now
        startFrom := s.now })).setReg Reg.setupCtrl 1).namePointers.setupChecks.judgeFloors))
  ∧ (∀ (s : State), s.glb.locked = true → s.glb.checked = false →
      exec .setupLocked s = .next (((((s.addLate s.lockEntries).applyToB).modGlb (fun g => { g with checked := true })).pseudoRun (s.regs.filter (fun w => setupFlit w.1))).raise
        0x0401 1 3 [w32 s.glb.chDisabled.toNat, w32 s.glb.slotsDisabled.toNat]).canStarts)
  ∧ (∀ (s : State) (rails : BitVec 9) (b : Bool), let s0 := s.noteRails rails
      (∀ r, s0.testRefused rails b = some r → exec (.start rails b) s = .next (s0.refuseTest r))
      ∧ (s0.testRefused rails b = none → exec (.start rails b) s = .next ((s0.modTest (fun t => { t with
        state := .running
        extended := true
        reason := 0
        entries := 0
        log := []
        sel := s.fld Reg.stSel 0 7 })).modTahr (fun t => { t with testing := true }))))
  ∧ (∀ (s : State), (∀ r, s.refuseTest r = (s.modTest (fun t => { t with
          state := .refused
          reason := r })).raise 0x0203 1 5 [w32 r])
      ∧ (s.lifecycle ≠ 3 → exec .fuse s = .next (s.refuseTest 1))
      ∧ (s.lifecycle = 3 → s.allSto 0xFF = false → exec .fuse s = .next (s.refuseTest 2))
      ∧ (s.lifecycle = 3 → s.allSto 0xFF = true → s.extendedRuns = true ∨ s.st.fusing = true → exec .fuse s = .next (s.refuseTest 6))
      ∧ (s.lifecycle = 3 → s.allSto 0xFF = true → s.extendedRuns = false → s.st.fusing = false →
        exec .fuse s = .next (s.modTest (fun t => { t with
          state := .fusing
          fusing := true })))
      ∧ (s.st.fusing = true →
        let burns := fun (e : Dword) => repType e != 2 && !s.store.life.unsaved.contains e
        let burnt := s.store.life.repair.filter burns
        let left := s.store.life.repair.filter (fun e => !burns e)
        exec .fuseDone s = .next ((((s.modTest (fun t => { t with
          state := .idle
          fusing := false
          fused := t.fused ++ burnt })).modRepair (fun _ => left)).writeKind 3).raise 0x0206 1 4 [w32 burnt.length, w32 left.length])))
  ∧ (∀ (s : State) (logic analogue : List (BitVec 4 × BitVec 22 × BitVec 6)) (rep : List Nat), s.extendedRuns = false → s.st.startDone = false → s.tb.running = true → s.startClock = true →
      let s0 := (s.noteRails 0x1FE).modTest (fun t => { t with
        log := []
        entries := 0
        extended := false })
      let found := (logic.map (fun x => plainEntry 2 x.1.toNat x.2.1.toNat x.2.2.toNat)) ++ (analogue.map (fun x => plainEntry 3 x.1.toNat x.2.1.toNat x.2.2.toNat))
      (found = [] → exec (.selfTestEnd [] logic analogue rep) s = .next (s0.sizeTrace.modTest (fun t => { t with
          state := .passed
          startDone := true
          startPassed := true })))
      ∧ (found ≠ [] → exec (.selfTestEnd [] logic analogue rep) s = .next (((found.foldl State.testEntry s0).sizeTrace.modTest (fun t => { t with
          state := .failed
          startDone := true
          startPassed := false })).testFails false 1)))
  ∧ (∀ (s : State) (cells : List (BitVec 4 × BitVec 4 × BitVec 22 × Fin 39)) (logic analogue : List (BitVec 4 × BitVec 22 × BitVec 6)) (rep : List Nat),
      (s.extendedRuns = true → ∃ u : State, exec (.selfTestEnd cells logic analogue rep) s = .next ((u.endExtended true).takeHeld))
      ∧ (s.extendedRuns = false → s.st.startDone = false → s.tb.running = true →
        (s.startClock = true → ∃ t, exec (.selfTestEnd cells logic analogue rep) s = .next t ∧ t.st.startDone = true)
        ∧ (s.startClock = false → exec (.selfTestEnd cells logic analogue rep) s = .next s.failStart)))
  ∧ (∀ (s : State), s.failStart = (s.modTest (fun t => { t with
          state := .failed
          startDone := true
          startPassed := false })).testFails false 2
      ∧ s.endExtended true = (let v := (s.modTahr (fun t => { t with testing := false })).testEffects; if s.testCold then v.coldBegin 6 0 else v)
      ∧ (∀ why, s.testFails false why = ((s.raise 0x0202 1 14 [0, w32 s.st.entries, w32 why]).modTahr (fun t => { t with
          testFail := true
          blocked := true })).raise 0x0205 3 15 [1]))
  ∧ (∀ (s : State) (rails : BitVec 9) (b : Bool), s.testReady rails b = false →
      (s.extendedRuns = true → exec (.selfTestAbort rails b) s = .next ((s.noteRails rails).abortTest true).takeHeld)
      ∧ (s.extendedRuns = false → s.st.startDone = false → s.pwr.started = false → exec (.selfTestAbort rails b) s = .next (s.noteRails rails).failStart))

/-- A new resolver sample enters the window of the last 32 with its corrected codes; sample 24 sends SAFE, while its link stands, the difference of the B codes, and every sample measures. A due SSI request is skipped with reason 5 on a busy line and starts a word otherwise; a complete word is sent to SAFE while its link stands, and is observed at its request time when good and rejected with its reason when not; a data line low at the monoflop's end is reason 6. Each of A and B is taken at its new level once that has held for FILT, and nothing changes while neither has. In quadrature an edge counts one step, by the order of states and the sense of INV, or is a state error; with step and direction a rising A counts by B; with two pulse inputs a rising A counts up and a rising B down. An accepted index of an INCREMENTAL interface homes, and later sets a count that has drifted by more than 2 back to 0. A counter delivers at each multiple of 400 ticks. Once 4 T_exp have passed since the last measurement was accepted the observer restarts with reason 9. At each new multiple of 10 µs VALID is judged and the signals are published. (08_position_and_speed.md R291, 08_position_and_speed.md R292, 08_position_and_speed.md R295, 08_position_and_speed.md R297, 08_position_and_speed.md R299, 08_position_and_speed.md R300, 08_position_and_speed.md R301, 08_position_and_speed.md R302, 08_position_and_speed.md R304, 08_position_and_speed.md R318.) -/
def Obligations.PositionInputs : Prop :=
  (∀ (s : State) (d : Fin 2) (k : Fin 4) (x : Int × Int × Int × Int), s.hasDie (senseDie d) = true → s.pifOn d k = true → s.pifMode d k = 1 →
      let p := s.resPeriod d k
      let dly := s.fld (Reg.resPh d.val k.val) 0 17
      let n := (s.now - dly) / (p / 32)
      let t := n * (p / 32) + dly
      let j := n % 32
      let s1 := s.modPif d k (fun q => { q with
        lastSample := some n
        win := ((j, (correct (s.reg (Reg.resCorrSin d.val k.val)) (rawCode x.1)).1, (correct (s.reg (Reg.resCorrCos d.val k.val)) (rawCode x.2.1)).1) :: q.win).take 32 })
      let b := (rawCode x.2.2.1, rawCode x.2.2.2)
      let v := ((s.pif d k).b8.1 - b.1, (s.pif d k).b8.2 - b.2)
      dly ≤ s.now → (s.pif d k).lastSample ≠ some n →
      (j = 8 → exec (.resolverSample d k x.1 x.2.1 x.2.2.1 x.2.2.2) s = .next ((s1.modPif d k (fun q => { q with b8 := b })).resolverMeasure d k t))
      ∧ (j = 24 → exec (.resolverSample d k x.1 x.2.1 x.2.2.1 x.2.2.2) s = .next ((if s.linkUp (senseDie d) .safe then (s1.modPif d k (fun q => { q with bSafe := q.bSafe ++ [(v.1, v.2, t)] })).sendDie
          (senseDie d) .safe "resolver" [k.val, (i32 v.1).toNat, (i32 v.2).toNat, t] else s1).resolverMeasure d k t))
      ∧ (j ≠ 8 → j ≠ 24 → exec (.resolverSample d k x.1 x.2.1 x.2.2.1 x.2.2.2) s = .next (s1.resolverMeasure d k t)))
  ∧ (∀ (s : State) (d : Fin 2) (k : Fin 4), s.hasDie (senseDie d) = true → s.pifOn d k = true → s.pifMode d k = 2 →
      (∀ (n : Nat) (b : Bool), s.ssiDue d k = some n →
        let s1 := s.modPif d k (fun p => { p with lastReq := some n })
        let last := s.now + s.ssiCycles d k * s.ssiClk d k
        ((b = false ∨ s.now < (s.pif d k).busyUntil ∨ (s.pif d k).wordAt.isSome) → exec (.ssiRequest d k b) s = .next (s1.rejectPos d k 5))
        ∧ (b = true → (s.pif d k).busyUntil ≤ s.now → (s.pif d k).wordAt = none → exec (.ssiRequest d k b) s = .next (s1.modPif d k (fun q => { q with
            wordAt := some s.now
            monoAt := some (last + s.mono d k)
            busyUntil := last + s.mono d k }))))
      ∧ (∀ (tr : Nat) (bits : BitVec 64), (s.pif d k).wordAt = some tr → s.ssiEnd d k tr ≤ s.now →
        let w := bits.toNat % 2 ^ (s.ssiLen d k + s.ssiCrcLen d k)
        let s0 := s.modPif d k (fun p => { p with wordAt := none })
        let s1 := if s.linkUp (senseDie d) .safe then (s0.modPif d k (fun p => { p with
          ssiSafe := p.ssiSafe ++ [⟨s.ssiTheta d k w, s.ssiBad d k w == 0, tr⟩] })).sendDie (senseDie d) .safe "ssi" [k.val, w, b2n (s.ssiBad d k w == 0), tr] else s0
        exec (.ssiWord d k bits) s = .next (if s.ssiBad d k w = 0 then s1.observe d k (s.ssiTheta d k w) tr else s1.rejectPos d k (s.ssiBad d k w)))
      ∧ (∀ (u : Nat) (b : Bool), (s.pif d k).monoAt = some u → u ≤ s.now → let s1 := s.modPif d k (fun p => { p with monoAt := none })
        exec (.monoflopEnd d k b) s = .next (if b then s1 else s1.rejectPos d k 6)))
  ∧ (∀ (s : State) (d : Fin 2) (k : Fin 4) (la lb : Held Bool), s.hasDie (senseDie d) = true → s.pifOn d k = true →
      let p := s.pif d k
      let a := if s.encAccepts d k la.ticks then la.value else p.a
      let b := if s.encAccepts d k lb.ticks then lb.value else p.b
      let heard := s.encAccepts d k la.ticks || s.encAccepts d k lb.ticks
      let cpr := s.cpr d k
      let inv := bitAt (s.posCfg d k) 24
      let lev := fun (q : Pif) => { q with
        a := a
        b := b }
      let dq := (quadIx a b + 4 - quadIx p.a p.b) % 4
      (3 ≤ s.pifMode d k → heard = false → exec (.encoderEdge d k la lb) s = .next s)
      ∧ (s.pifMode d k = 3 → heard = true → exec (.encoderEdge d k la lb) s = .next (if dq = 2 then (s.modPif d k lev).stateError d k
          else if dq = 1 then s.modPif d k (fun q => lev (q.count cpr (!inv))) else if dq = 3 then s.modPif d k (fun q => lev (q.count cpr inv)) else s))
      ∧ (s.pifMode d k = 4 → heard = true → exec (.encoderEdge d k la lb) s = .next (s.modPif d k (fun q => lev (if a && !q.a then q.count cpr (b != inv) else q))))
      ∧ (s.pifMode d k = 5 → heard = true → exec (.encoderEdge d k la lb) s = .next (s.modPif d k (fun q =>
          let r := if a && !q.a then q.count cpr (!inv) else q
          lev (if b && !q.b then r.count cpr inv else r)))))
  ∧ (∀ (s : State) (d : Fin 2) (k : Fin 4) (held : Nat), let p := s.pif d k
      let cfg := s.reg (Reg.encCfg d.val k.val)
      s.hasDie (senseDie d) = true → s.pifOn d k = true → s.pifMode d k = 3 → s.encAccepts d k held = true → bitAt cfg 27 = true → bitAt cfg 26 = true → zQualified (bitsAt cfg 24 2) p.a p.b = true →
      (p.homed = false → exec (.indexPulse d ⟨k, held⟩) s = .next ((s.modPif d k (fun q => { q with
        c := 0
        cycles := 0
        homed := true })).publishPif d k))
      ∧ (let dev : Int := if 2 * p.c ≤ s.cpr d k then (p.c : Int) else (p.c : Int) - s.cpr d k;
        p.homed = true → 2 < dev.natAbs → exec (.indexPulse d ⟨k, held⟩) s = .next (((s.modPif d k (fun q => { q with
          c := 0
          reason := 8 })).raise 0x3005 (senseSource d) 6 [w32 k.val, i32 dev]).publishPif d k)))
  ∧ (∀ (s : State) (d : Fin 2) (k : Fin 4), s.hasDie (senseDie d) = true →
      (s.pifOn d k = true → 3 ≤ s.pifMode d k → (s.pif d k).lastCount ≠ some (s.now / 400 * 400) → exec (.countDelivery d k) s
        = .next ((s.modPif d k (fun p => { p with lastCount := some (s.now / 400 * 400) })).observe d k ((s.pif d k).countTheta (s.cpr d k)) (s.now / 400 * 400)))
      ∧ (s.pifOn d k = true → 0 < (s.pif d k).obs.good → (s.pif d k).accepted + 4 * s.tExp d k < s.now →
        exec (.observerTimeout d k) s = .next (((s.restartObserver d k).rejectPos d k 9).judgeValid d k))
      ∧ ((s.pif d k).lastSignals ≠ some (s.now / 4000 * 4000) → exec (.interfaceSignals d k) s
        = .next (((s.judgeValid d k).modPif d k (fun p => { p with lastSignals := some (s.now / 4000 * 4000) })).publishPif d k)))

/-- At a new multiple of 100 ticks a working compare unit takes its position; with an earlier one, the entries the move has crossed fire in list order, each counted, and COMP_OUT is high until WIDTH ticks later. The pulse ends at its end. A write of CMP_CTRL that sets EN starts the unit at entry 0; a write of the list is ignored while EN is 1. A word written is read back, the registers being in their canonical form (MemoriesStartCanonical), and after the set-up checks it travels to its die as a pseudo-run. An emulator takes its first target, stands still while the observer is not settled, and otherwise follows by at most 2 counts an update, the second 50 ticks after the first; a lag beyond 64 counts raises EMU_LAG at most every 10 ms. (08_position_and_speed.md R311, 08_position_and_speed.md R312, 08_position_and_speed.md R313, 08_position_and_speed.md R314, 08_position_and_speed.md R315, 08_position_and_speed.md R317.) -/
def Obligations.CompareAndEmulator : Prop :=
  (∀ (s : State) (d : Fin 2) (u : Fin 4), s.hasDie (senseDie d) = true →
      let x := (s.pos[d]).cmp[u]
      let t := s.now / 100 * 100
      let pos := s.cmpPos d (s.cmpSrc d u) t
      let y := { x with
        lastEval := some t
        prev := some pos }
      bitAt (s.cmpReg d u) 31 = true → x.disabled = false → s.senseRuns = true → x.lastEval ≠ some t →
      (x.prev = none → exec (.compareEvaluation d u) s = .next (s.modCmp d u (fun _ => y)))
      ∧ (∀ q, x.prev = some q → let r := s.fireEntries d u q pos (bitsAt (s.cmpReg d u) 16 6 + 1) y
        (r.2 = 0 → exec (.compareEvaluation d u) s = .next (s.modCmp d u (fun _ => y)))
        ∧ (r.2 ≠ 0 → exec (.compareEvaluation d u) s = .next ((s.modCmp d u (fun _ => { r.1 with outEnd := some (t + max 1 (bitsAt (s.cmpReg d u) 0 16)) })).publishPif d u))))
  ∧ (∀ (s : State) (d : Fin 2) (u : Fin 4) (e : Nat), s.hasDie (senseDie d) = true → (s.pos[d]).cmp[u].outEnd = some e → e ≤ s.now →
      exec (.compOutPulseEnd d u) s = .next (s.modCmp d u (fun x => { x with outEnd := none })))
  ∧ (∀ (s : State) (d : Fin 2) (u : Fin 4) (e : Fin 64) (b : Bool) (v : BitVec 32), s.hasDie (senseDie d) = true →
      let off := if b then Reg.cmpListHi d.val u.val e.val else Reg.cmpList d.val u.val e.val
      let kept := v &&& 0xFC3FFFFF
      let s1 := (s.setReg (Reg.cmpCtrl d.val u.val) kept).setupSent (Reg.cmpCtrl d.val u.val) kept
      (bitAt v 31 = true → bitAt (s.cmpReg d u) 31 = false → exec (.cmpCtrl d u v) s = .next (s1.modCmp d u (fun x => { x with
          ptr := 0
          stopped := false
          prev := none })))
      ∧ (bitAt v 31 = false ∨ bitAt (s.cmpReg d u) 31 = true → exec (.cmpCtrl d u v) s = .next s1)
      ∧ (bitAt (s.cmpReg d u) 31 = true → exec (.cmpList d u e b v) s = .next s)
      ∧ (bitAt (s.cmpReg d u) 31 = false → exec (.cmpList d u e b v) s = .next ((s.setReg off v).setupSent off v))
      ∧ (s.memWf = true → (s.setReg off v).reg off = v ∧ (s.setReg (Reg.cmpCtrl d.val u.val) kept).reg (Reg.cmpCtrl d.val u.val) = kept)
      ∧ (∀ r w, s.setupSent r w = if s.glb.checked ∧ setupFlit r then s.pseudoRun [(r, w)] else s))
  ∧ (∀ (s : State) (d : Fin 2), s.hasDie (senseDie d) = true →
      let x := (s.pos[d]).emu
      let t := s.now / 100 * 100
      let nt := s.emuTarget d t
      let gap := nt - x.n
      let mv := fun (f : Emulator → Emulator) => s.modPos d (fun p => { p with emu := f p.emu })
      bitAt (s.reg (Reg.emuCfg d.val)) 31 = true → x.disabled = false → s.senseRuns = true → x.lastUpdate ≠ some t →
      (x.started = false → exec (.emulatorUpdate d) s = .next (mv (fun e => { e with
        started := true
        n := nt
        lastUpdate := some t })))
      ∧ (x.started = true → (s.pif d (s.emuSrc d)).obs.settled = false → exec (.emulatorUpdate d) s = .next (mv (fun e => { e with lastUpdate := some t })))
      ∧ (x.started = true → (s.pif d (s.emuSrc d)).obs.settled = true →
        let s1 := mv (fun e => { e with
          lastUpdate := some t
          n := x.n + max (-2) (min 2 gap)
          second := if gap.natAbs < 2 then none else some (t + 50, if 0 < gap then 1 else -1) })
        exec (.emulatorUpdate d) s = .next (if 64 < gap.natAbs ∧ rateOk x.lastLag s.now 4000000 = true then
          (s1.modPos d (fun p => { p with emu := { p.emu with lastLag := some s.now } })).raise 0x3006 (4 + d.val) 4 [w32 d.val, i32 gap] else s1)))

/-- A message whose CRC, TYPE and length pass is heard (satHeard: its SEQ, its gap, its time) and acts. EDGE, where edgeValid admits its count and BASE, does nothing in link loss, starts the resync half at once where a HOLD stands and its BASE is t_b, and else arms its half behind the others, without entries while a wire holds the satellite; one that edgeValid does not admit is discarded and counted and is not heard. MARK steps the copy, loading TIME while FREE, or slews it. TRIM writes its word into the set not in force and is discarded for the set in force. CONFIG sets the dies and the limit; RETIRE turns its dies off for good; CLEAR gives dies back and under an asserted ASC input turns every usable die on; IDENT_REQ is answered with the identity; RESUME leaves link loss. A message that fails is discarded and counted. A HOLD set that passes its CRC holds every edge from t_b on and drops the armed halves; one that fails is discarded. (11_gate_arrays.md R378, 11_gate_arrays.md R379, 11_gate_arrays.md R384, 11_gate_arrays.md R388, 11_gate_arrays.md R389, 11_gate_arrays.md R393, 11_gate_arrays.md R395, 11_gate_arrays.md R403, 11_gate_arrays.md R405, 12_protection_and_discharge.md R423.) -/
def Obligations.SatelliteMessages : Prop :=
  (∀ (s : State) (t : Port) (body p : List (BitVec 8)) (v : Bool) (q : Nat), let s1 := s.satHeard t q
      (judge 1 0 true body v = .take q p →
        let x := s1.sats[t]
        let h := fieldLe p 0 5
        let half := fun (b : Nat) => ({
          base := b
          len := h / 2 ^ 18 % 2 ^ 18
          tset := if h.testBit 37 then 1 else 0
          last := h.testBit 36
          entries := if s1.gateWire t = .follow then edgeEntries (p.drop 5) (h / 2 ^ 38) else [] } : Machine.Half)
        (s.edgeValid t p = false → exec (.edge t body v) s = .next (s.satDiscard t))
        ∧ (s.edgeValid t p = true → x.loss = true → exec (.edge t body v) s = .next s1)
        ∧ (s.edgeValid t p = true → x.loss = false → x.resyncHalf (h % 2 ^ 18) = true → exec (.edge t body v) s
            = .next (s1.modSat t (fun x => ({ x with
              hold := none
              afterLast := true } : Satellite).startHalf (half (x.hold.getD 0)))))
        ∧ (s.edgeValid t p = true → x.loss = false → x.resyncHalf (h % 2 ^ 18) = false → exec (.edge t body v) s
            = .next (s1.modSat t (fun x => { x with armed := x.armed ++ [half (resolveAfter 18 (s1.satNow t) (h % 2 ^ 18))] }))))
      ∧ (judge 2 0 true body v = .take q p →
        let time := fieldLe p 0 8
        let corr := (BitVec.ofNat 16 (fieldLe p 8 2)).toInt
        exec (.mark t body v) s = .next (s1.modSat t (fun x =>
          let load : Int := if x.time = 0 then ((32 * time : Nat) : Int) - x.t2 else 0
          if (fieldLe p 10 1).testBit 0 then { x with
            skew := x.skew + x.slew + load + corr
            slew := 0
            t2 := ((x.t2 : Int) + load + corr).toNat
            time := 1 }
          else { x with
            skew := x.skew + x.slew
            slew := corr
            slewAt := time
            time := 2 })))
      ∧ (judge 3 0 true body v = .take q p →
        let b := fieldLe p 0 1
        let set : Fin 2 := if b.testBit 0 then 1 else 0
        (set = s1.sats[t].tset → exec (.trim t body v) s = .next (s1.satDiscard t))
        ∧ (set ≠ s1.sats[t].tset → exec (.trim t body v) s = .next (s1.modSat t (fun x => { x with
            trims := vUpd x.trims set (fun w => w.set (b / 16 % 16) (w32 (fieldLe p 1 4)) (Nat.mod_lt _ (by decide))) }))))
      ∧ (judge 4 0 true body v = .take q p →
        let a := fieldLe p 1 4
        let m := BitVec.ofNat 16 a
        (fieldLe p 0 1 = 1 → exec (.config t body v) s = .next (s1.modSat t (fun x => { x with
          dies := a % 32
          otLimit := a / 256 % 256 })))
        ∧ (fieldLe p 0 1 = 2 → exec (.retire t body v) s = .next (s1.modSat t (fun x => { (x.switch (x.on &&& m) false (fun d => offStep (x.word d))) with
          retired := x.retired ||| m
          edges := x.edges.filter (fun e => !m.getLsbD e.die) })))
        ∧ (fieldLe p 0 1 = 3 →
          let given := fun (x : Satellite) => { x with
            retired := x.retired &&& ~~~m
            latched := x.latched &&& ~~~m
            causes := Vector.ofFn (fun d => if m.getLsbD d.val then 0 else x.causes[d]) }
          (s1.shorted t = false → exec (.clear t body v) s = .next (s1.modSat t given))
          ∧ (s1.shorted t = true → exec (.clear t body v) s = .next (s1.modSat t (fun x => (given x).shortOn))))
        ∧ (fieldLe p 0 1 = 4 → let x := s1.sats[t]
          exec (.identReq t body v) s = .next (s1.sendUp t 10 (leBytes 8 x.id.toNat ++ leBytes 2 x.model ++ leBytes 2 x.firmware ++ leBytes 1 x.fitted)))
        ∧ (fieldLe p 0 1 = 5 → exec (.resume t body v) s = .next (s1.modSat t (fun x => { x with
          loss := false
          missed := 0 })))))
  ∧ (∀ (s : State) (t : Port) (body : List (BitVec 8)) (v : Bool),
      (judge 1 0 true body v = .discard → exec (.edge t body v) s = .next (s.satDiscard t))
      ∧ (judge 2 0 true body v = .discard → exec (.mark t body v) s = .next (s.satDiscard t))
      ∧ (judge 3 0 true body v = .discard → exec (.trim t body v) s = .next (s.satDiscard t))
      ∧ (judge 4 0 true body v = .discard → exec (.config t body v) s = .next (s.satDiscard t)
        ∧ exec (.retire t body v) s = .next (s.satDiscard t) ∧ exec (.clear t body v) s = .next (s.satDiscard t)
        ∧ exec (.identReq t body v) s = .next (s.satDiscard t) ∧ exec (.resume t body v) s = .next (s.satDiscard t))
      ∧ (s.satDiscard t).sats[t].errors = holdInc 0xFFFF s.sats[t].errors)
  ∧ (∀ (s : State) (t : Port) (data : BitVec 32), let tb := resolveNear 18 (s.satNow t) (data.toNat % 2 ^ 18)
      (setOk data = true → exec (.holdSet t data) s = .next (s.modSat t (fun x => { x with
        hold := some tb
        armed := []
        edges := x.edges.filter (fun e => decide (e.at32 < 32 * tb)) })))
      ∧ (setOk data = false → exec (.holdSet t data) s = .next (s.satDiscard t)))

/-- A time mark of LINK is noted as t2. At its own mark instant the satellite, FREE or not, sends its mark and an ECHO with its time state and its loss. A die's earliest edge that is due is taken, and switches the die unless a wire holds the satellite, it is in link loss or the die is latched or retired. When a half ends, a TELEM is sent first where it was its frame's last; then, unless a HOLD stands, the next armed half that begins there starts, else a half is missed (Satellite.miss: its place in its frame is the model's inference, assumption 105); with no half in force an armed one starts at its BASE and a further missed one follows. An unanswered HOLD is a missed half from t_b on, 40 µs of silence is link loss. A missed half and a link loss cancel the edges and turn every die off, but for a satellite whose ASC input is asserted; the third missed half in a row is link loss. A desaturation, a lost gate supply or a die found too hot latches it off with a FAULT set, which goes out again 2 µs later. (11_gate_arrays.md R382, 11_gate_arrays.md R385, 11_gate_arrays.md R390, 11_gate_arrays.md R392, 11_gate_arrays.md R393, 11_gate_arrays.md R395, 11_gate_arrays.md R396, 11_gate_arrays.md R401, 12_protection_and_discharge.md R423.) -/
def Obligations.SatelliteEvents : Prop :=
  (∀ (s : State) (t : Port) (f : Fin 32), exec (.timeMark t f) s = .next (s.modSat t (fun x => { x with t2 := x.copy32 (32 * s.now + f.val) })))
  ∧ (∀ (s : State) (t : Port), let x := s.sats[t]
      let m := (s.satNow t + 2048) / 4096
      2048 ≤ s.satNow t → (∀ l, x.lastMark = some l → l < m) →
      exec (.satelliteTimeMark t) s = .next (((s.modSat t (fun x => { x with lastMark := some m })).emit (.timeMark t.val false s.now)).sendUp t 9
        (leBytes 4 x.t2 ++ leBytes 4 (s.sat32 t) ++ leBytes 1 (x.time + if x.loss then 128 else 0))))
  ∧ (∀ (s : State) (t : Port) (d : Fin 16) (e : DieEdge), firstEdge s.sats[t].edges d.val = some e → e.at32 ≤ s.sat32 t →
      let x := { s.sats[t] with edges := s.sats[t].edges.erase e }
      ((s.gateWire t = .follow ∧ x.loss = false ∧ (x.latched ||| x.retired).getLsbD d.val = false) →
        exec (.dieSwitch t d) s = .next (s.modSat t (fun _ => x.switch (BitVec.ofNat 16 (2 ^ d.val)) e.on (fun _ => e.step))))
      ∧ ((s.gateWire t ≠ .follow ∨ x.loss = true ∨ (x.latched ||| x.retired).getLsbD d.val = true) → exec (.dieSwitch t d) s = .next (s.modSat t (fun _ => x))))
  ∧ (∀ (s : State) (t : Port) (meas : List (BitVec 16 × BitVec 16 × BitVec 16 × Bool)) (h : Machine.Half), s.sats[t].loss = false → s.sats[t].current = some h → h.base + h.len ≤ s.satNow t →
      let s1 := if h.last then s.sendTelem t meas else s
      exec (.halfEnd t meas) s = .next (s1.modSat t (fun x =>
        let y := { x with
          current := none
          afterLast := h.last
          perFrame := if h.last then x.halfNo + 1 else x.perFrame }
        if y.hold.isSome then y else match y.armed with
          | n :: r => if n.base = h.base + h.len then ({ y with armed := r } : Satellite).startHalf n else y.miss (s.shorted t) (h.base + h.len)
          | [] => y.miss (s.shorted t) (h.base + h.len))))
  ∧ (∀ (s : State) (t : Port) (meas : List (BitVec 16 × BitVec 16 × BitVec 16 × Bool)), s.sats[t].loss = false → s.sats[t].current = none → s.sats[t].hold = none →
      (∀ (n : Machine.Half) (r : List Machine.Half), s.sats[t].armed = n :: r → n.base ≤ s.satNow t →
        exec (.halfEnd t meas) s = .next (s.modSat t (fun x => ({ x with armed := r } : Satellite).startHalf n)))
      ∧ (∀ e : Nat, s.sats[t].armed = [] → s.sats[t].halfEnd = some e → e ≤ s.satNow t → 0 < s.sats[t].lastLen →
        exec (.halfEnd t meas) s = .next (s.modSat t (fun x => x.miss (s.shorted t) e))))
  ∧ (∀ (s : State) (t : Port) (tb : Nat), s.sats[t].hold = some tb → tb + 400 ≤ s.satNow t →
      exec (.holdDeadline t) s = .next (s.modSat t (fun x => ({ x with
        hold := none
        afterLast := true } : Satellite).miss (s.shorted t) tb)))
  ∧ (∀ (s : State) (t : Port), s.sats[t].loss = false → s.sats[t].lastDown + 16000 ≤ s.now →
      exec (.satelliteLinkLoss t) s = .next (s.modSat t (fun x => { x.loseDies (s.shorted t) with
        loss := true
        armed := []
        current := none
        halfEnd := none
        afterLast := true
        hold := none })))
  ∧ (∀ (x : Satellite) (b : Bool) (u : Nat),
      ((x.miss b u).edges = [] ∧ (x.miss b u).current = none ∧ (b = false → (x.miss b u).on = 0) ∧ (b = true → (x.miss b u).on = x.on))
      ∧ (2 ≤ x.missed → (x.miss b u).loss = true ∧ (x.miss b u).armed = [] ∧ (x.miss b u).halfEnd = none)
      ∧ (x.missed < 2 → (x.miss b u).loss = x.loss ∧ (x.miss b u).armed = x.armed ∧ (x.miss b u).halfEnd = some (u + x.lastLen) ∧ (x.miss b u).missed = x.missed + 1)
      ∧ ((x.loseDies b).edges = [] ∧ (x.loseDies true).on = x.on ∧ (x.loseDies false).on = 0))
  ∧ (∀ (s : State) (t : Port) (d : Fin 16) (b : Bool), let m : BitVec 16 := BitVec.ofNat 16 (2 ^ d.val)
      let cause := if b then 2 else 1
      exec (.desaturation t d b) s = .next ((s.modSat t (fun x => { (x.switch (x.on &&& m) false (fun d => offStep (x.word d))) with
        latched := x.latched ||| m
        causes := Vector.ofFn (fun d => if m.getLsbD d.val then x.causes[d] ||| cause else x.causes[d])
        repeat_ := x.repeat_ ++ [(s.now + 800, m.toNat, cause)] })).emit (.tolpelSet t.val false (setData (m.toNat + 65536 * cause)))))
  ∧ (∀ (s : State) (t : Port) (temps : List (BitVec 16)), let x := s.sats[t]
      let hot := dieMask ((idxs 16).filter (fun d => decide (d.val < x.dies) && !x.retired.getLsbD d.val && !(x.causes[d]).testBit 2 && decide ((x.otLimit : Int) * 100 < (temps.getD d.val 0).toInt)))
      (hot = 0 → exec (.overtemperatureCheck t temps) s = .next s)
      ∧ (hot ≠ 0 → exec (.overtemperatureCheck t temps) s = .next ((s.modSat t (fun x => { (x.switch (x.on &&& hot) false (fun d => offStep (x.word d))) with
        latched := x.latched ||| hot
        causes := Vector.ofFn (fun d => if hot.getLsbD d.val then x.causes[d] ||| 4 else x.causes[d])
        repeat_ := x.repeat_ ++ [(s.now + 800, hot.toNat, 4)] })).emit (.tolpelSet t.val false (setData (hot.toNat + 65536 * 4))))))
  ∧ (∀ (s : State) (t : Port) (a m c : Nat) (r : List (Nat × Nat × Nat)), s.sats[t].repeat_ = (a, m, c) :: r → a ≤ s.now →
      exec (.faultSetRepeat t) s = .next ((s.modSat t (fun x => { x with repeat_ := r })).emit (.tolpelSet t.val false (setData (m + 65536 * c)))))

/-- Loss of character lock takes a port DOWN, and the channel of a READY one to its safe state. 16 idle pairs take a DOWN port of an enabled array to IDENT, which asks for the identity at once and every 100 µs. IDENT, ECHO and TELEM that pass are heard and taken (takeEcho, takeTelem); one that fails is discarded and counted. An IDENT in IDENT with too few dies is an event; else CONFIG goes out, and a known identity takes the port to TIME, any other to FOREIGN with an event. At each multiple of 4,096 ticks a port sends its mark and a MARK with the correction asked for: one of at most 1/32 tick in READY, a step in TIME, none before. The arrival of the satellite's mark is t4. 40 µs of silence is link loss with cause 1: event, DOWN, the channel's safe state. A FAULT set that passes its CRC is taken, and a fault is decided 10 µs after it. GA_UNRETIRE is applied in MAINTAIN with the channel in STO (masks, floor, CLEAR, kind 3, event) and refused otherwise. A read of TP_ID_LO answers the low word and latches the high one. (11_gate_arrays.md R379, 11_gate_arrays.md R380, 11_gate_arrays.md R382, 11_gate_arrays.md R383, 11_gate_arrays.md R384, 11_gate_arrays.md R394, 11_gate_arrays.md R396, 11_gate_arrays.md R402, 11_gate_arrays.md R403, 11_gate_arrays.md R409, 22_setup_registers.md R693.) -/
def Obligations.TolpelPorts : Prop :=
  (∀ (s : State) (t : Port), (s.ports[t].state = .ready → exec (.characterLockLoss t) s = .next ((s.portDown t).gateCause (portChannel t)))
      ∧ (s.ports[t].state ≠ .ready → exec (.characterLockLoss t) s = .next (s.portDown t))
      ∧ (s.portDown t).ports[t].state = .down ∧ (s.portDown t).ev = s.ev)
  ∧ (∀ (s : State) (t : Port), s.ports[t].state = .down → s.gaOn (portChannel t) = true → s.pwr.rung ≤ 1 →
      exec (.idleLock t) s = .next ((s.modPort t (fun p => { p with
        state := .ident
        lastIdentReq := some s.now })).sendCmd t 4 0))
  ∧ (∀ (s : State) (t : Port), s.ports[t].state = .ident → rateOk s.ports[t].lastIdentReq s.now 40000 = true →
      exec (.identReqPeriod t) s = .next ((s.modPort t (fun p => { p with lastIdentReq := some s.now })).sendCmd t 4 0))
  ∧ (∀ (s : State) (t : Port) (body p : List (BitVec 8)) (v : Bool) (q : Nat), s.ports[t].state ≠ .down → let n := s.diesOf (portChannel t)
      (judge 10 n false body v = .take q p →
        let c := portChannel t
        let id : BitVec 64 := BitVec.ofNat 64 (fieldLe p 0 8)
        let s1 := (s.portHeard t q).modPort t (fun x => { x with
          satId := id
          fitted := fieldLe p 12 1
          identified := true })
        let s2 := s1.sendCmd t 1 (s1.diesOf c + 256 * s1.fld (Reg.gaTemp c.val) 16 8)
        (s.ports[t].state ≠ .ident → exec (.ident t body v) s = .next s1)
        ∧ (s.ports[t].state = .ident → fieldLe p 12 1 < n → exec (.ident t body v) s = .next (s1.raise 0x501A c.val 10 [2, w32 t.val]))
        ∧ (s.ports[t].state = .ident → n ≤ fieldLe p 12 1 → s.store.ident.satIds[t] = id → id ≠ 0 → exec (.ident t body v) s = .next (s2.enterTime t))
        ∧ (s.ports[t].state = .ident → n ≤ fieldLe p 12 1 → (s.store.ident.satIds[t] ≠ id ∨ id = 0) → exec (.ident t body v) s
            = .next ((s2.modPort t (fun x => { x with state := .foreign })).raise 0x5004 t.val 10 (timeWords id.toNat))))
      ∧ (judge 9 n false body v = .take q p → exec (.echo t body v) s = .next ((s.portHeard t q).takeEcho t p))
      ∧ (judge 8 n false body v = .take q p → exec (.telem t body v) s = .next ((s.portHeard t q).takeTelem t p))
      ∧ (judge 8 n false body v = .discard → exec (.telem t body v) s = .next (s.portDiscard t))
      ∧ (judge 9 n false body v = .discard → exec (.echo t body v) s = .next (s.portDiscard t))
      ∧ (judge 10 n false body v = .discard → exec (.ident t body v) s = .next (s.portDiscard t))
      ∧ (s.portDiscard t).ports[t].errors = holdInc 0xFFFF s.ports[t].errors)
  ∧ (∀ (s : State) (t : Port), let m := s.now / 4096 * 4096
      let want := s.ports[t].offset2.elim 0 (fun o => -(roundAway o 2))
      let send := fun (corr : Int) (step : Bool) => (((s.modPort t (fun p => { p with
        marks := (m :: p.marks).take 4
        offset2 := none
        goodMarks := if step && corr != 0 then 0 else p.goodMarks })).emit (.timeMark t.val true m)).sendDown t 2
          (leBytes 8 m ++ leBytes 2 (BitVec.ofInt 16 corr).toNat ++ leBytes 1 (b2n step)))
      s.gaOn (portChannel t) = true → s.ports[t].marks.head? ≠ some m →
      (s.ports[t].state = .ready → exec (.timeMarkSend t) s = .next (send (max (-1) (min 1 want)) false))
      ∧ (s.ports[t].state = .time → exec (.timeMarkSend t) s = .next (send (max (-32768) (min 32767 want)) true))
      ∧ (s.ports[t].state = .ident ∨ s.ports[t].state = .foreign → exec (.timeMarkSend t) s = .next (send 0 true)))
  ∧ (∀ (s : State) (t : Port) (f : Fin 32), s.ports[t].state ≠ .down → exec (.upstreamTimeMark t f) s = .next (s.modPort t (fun p => { p with t4 := some (32 * s.now + f.val) })))
  ∧ (∀ (s : State) (t : Port), (s.ports[t].state = .time ∨ s.ports[t].state = .ready) → s.ports[t].lastUp + 16000 ≤ s.now → exec (.upstreamSilence t) s
      = .next (((((s.raise 0x5002 t.val 12 [w32 (portChannel t).val, 1]).modGate t (fun g => { g with linkLoss := true })).portDown t).publishPos t).gateCause (portChannel t)))
  ∧ (∀ (s : State) (t : Port) (data : BitVec 32), s.ports[t].state ≠ .down →
      (setOk data = true → exec (.faultSet t data) s = .next (s.takeFault t (data.extractLsb' 0 16) (data.toNat / 65536 % 8)))
      ∧ (setOk data = false → exec (.faultSet t data) s = .next (s.portDiscard t)))
  ∧ (∀ (s : State) (t : Port) (r : DieFaultRec) (rs : List DieFaultRec), s.gates[t].open_ = r :: rs → r.tf + 4000 ≤ s.now →
      exec (.faultDecision t) s = .next ((s.modGate t (fun g => { g with open_ := rs })).decideFault t r))
  ∧ (∀ (s : State) (c : Channel) (v : BitVec 32) (h : bitsAt v 16 3 < 6), let t := portOf c ⟨bitsAt v 16 3, h⟩
      let m : BitVec 16 := v.extractLsb' 0 16
      (s.hasChannel c = true → s.lifecycle = 3 → s.prot[c].state = .sto →
        let s1 := s.modGate t (fun g => { g with
          retired := g.retired &&& ~~~m
          latched := g.latched &&& ~~~m })
        let s2 := (s1.modGate t (fun g => { g with belowFloor := s1.floorBroken t })).sendCmd t 3 m.toNat
        let s3 : State := { s2 with store := { s2.store with life := { s2.store.life with retire := { s2.store.life.retire with
          masks := vUpd s2.store.life.retire.masks t (fun x => x &&& ~~~m) } } } }
        exec (.gaUnretire c v) s = .next (((s3.writeKind 3).publishPos t).raise 0x5018 c.val 6 [w32 (bitsAt v 16 3), m.zeroExtend 32]))
      ∧ (s.hasChannel c = true → (s.lifecycle ≠ 3 ∨ s.prot[c].state ≠ .sto) → exec (.gaUnretire c v) s = .next (s.raise 0x5019 c.val 5 [w32 (bitsAt v 16 3), m.zeroExtend 32])))
  ∧ (∀ (s : State) (t : Port), exec (.tpIdLo t) s = .next ((s.modPort t (fun p => { p with idHi := s.ports[t].satId.extractLsb' 32 32 })).emit
      (.regRead (Reg.tpIdLo t.val) (s.ports[t].satId.extractLsb' 0 32))))

/-- A voltage that has stood for FILT gives the level of its switch point, high above it and low between the limits of IEC 61131-2 (assumption 83; for a pair without a threshold type a free value); Chamois judges it at once, SAFE notes a new level with its time. A shorter one gives nothing. T_CH after a CAT 1 latch its stop is asserted. A release Chamois has been sent stands and is judged. The block that comes back equal is taken with every acting function latched (assumption 41); otherwise CHAMOIS_FAULT 1, once. Over a failed link nothing comes. A valid status renews Chamois's watch, 1 ms without one is the loss of Tahr. A test pulse pulls its output low once per period; an input of it that still reads high is a test fault of its pair; the pulse ends TP_WIDTH later. A cycle runs once per multiple of 250 µs, its parts in order, and ends with the status to LINK; its checks count for nothing after a cycle that did not complete. BLEAT changes every 5 ms while every cycle runs and the checks pass; once a due cycle has not run, Tahr holds every channel in STO. An SS1 or STO request on its way arrives and stands. A dark test of a switch takes it off at most once per second, the second at least 500 ms after the first, and 300 µs later a switch that still reads on is SO_FAULT, any other is on again. (14_functional_safety.md R465, 14_functional_safety.md R466, 14_functional_safety.md R467, 14_functional_safety.md R468, 14_functional_safety.md R477, 14_functional_safety.md R478, 14_functional_safety.md R480, 14_functional_safety.md R481, 14_functional_safety.md R484, 14_functional_safety.md R495, 14_functional_safety.md R496.) -/
def Obligations.SafetyInputsAndCycle : Prop :=
  (∀ (s : State) (i : Fin 32) (mV : Int) (held : Nat) (on : Bool),
      (∀ p ∈ [(1, 10000, 9000, 15000), (3, 8000, 7000, 11000)], s.thresh on i = p.1 →
        let b : Bool := decide (((if on then p.2.2.1 else p.2.1 : Nat) : Int) < mV) && !decide (5000 < mV ∧ mV < (p.2.2.2 : Int))
        (s.inputFilt on i ≤ held → on = true → exec (.safeLevelChange on i ⟨mV, held⟩) s = .next ((s.modChamois (fun x => { x with levels := setBit x.levels i.val b })).chamoisEval))
        ∧ (s.inputFilt on i ≤ held → on = false → s.tahr.levels.getLsbD i.val ≠ b → exec (.safeLevelChange on i ⟨mV, held⟩) s = .next (s.modTahr (fun t => { t with
            levels := setBit t.levels i.val b
            levelAt := vUpd t.levelAt i (fun _ => s.now) })))
        ∧ (on = false → s.tahr.levels.getLsbD i.val = b → exec (.safeLevelChange on i ⟨mV, held⟩) s = .next s))
      ∧ (s.thresh on i ≠ 1 → s.thresh on i ≠ 3 → s.inputFilt on i ≤ held → on = true →
        exec (.safeLevelChange on i ⟨mV, held⟩) s = .next (((s.fresh 1).2.modChamois (fun x => { x with levels := setBit x.levels i.val ((s.fresh 1).1 == 1) })).chamoisEval))
      ∧ (held < s.inputFilt on i → exec (.safeLevelChange on i ⟨mV, held⟩) s = .next s))
  ∧ (∀ (s : State) (f : Fin 16) (ps : List Byte) (u : Nat), s.chamois.params = some ps → s.chamois.latched[f] = some u → u + chamoisFn ps f.val 8 2 * 10 * 400000 ≤ s.now →
      exec (.tChExpiry f) s = .next ((s.modChamois (fun x => { x with stopped := setBit16 x.stopped f.val true })).settle))
  ∧ (∀ (s : State) (f : Fin 16), s.chamois.releases.contains f.val = true → s.linkUp .safe .link = true →
      exec (.functionRelease f) s = .next ((s.modChamois (fun x => { x with
        releases := x.releases.filter (· != f.val)
        released := setBit16 x.released f.val true })).chamoisEval))
  ∧ (∀ (s : State) (im : List Byte), s.tahr.image = some im →
      (s.linkUp .safe .link = true → let ps := (im.drop 0x80).take 512
        exec (.chamoisParameters true) s = .next ((s.modChamois (fun x => { x with
          params := some ps
          latched := Vector.ofFn (fun f => if chamoisActs ps f.val then some s.now else none)
          stopped := (idxs 16).foldl (fun m f => setBit16 m f.val (chamoisActs ps f.val)) 0
          released := 0 })).chamoisEval))
      ∧ (s.linkUp .safe .link = true → s.linkUp .link .safe = true → s.tahr.chamoisFault = false →
        exec (.chamoisParameters false) s = .next ((s.modTahr (fun t => { t with chamoisFault := true })).raise 0x7121 3 15 [1]))
      ∧ (∀ b : Bool, s.linkUp .safe .link = false → exec (.chamoisParameters b) s = .next s))
  ∧ (∀ (s : State), (s.linkUp .safe .link = true → exec (.tahrStatus true) s = .next (s.modChamois (fun x => { x with lastStatus := s.now })))
      ∧ (s.linkUp .safe .link = false → exec (.tahrStatus true) s = .next s) ∧ exec (.tahrStatus false) s = .next s
      ∧ (s.pwr.started = true → s.pwr.rung ≤ 3 → s.chamois.lastStatus + 400000 ≤ s.now → exec .tahrLost s = .next (s.chamoisLoss 0)))
  ∧ (∀ (s : State) (t : Fin 4) (a : Nat), s.tahr.image.isSome = true → s.pulseStart t = some a → s.tahr.pulseAt[t] ≠ some a → s.now < a + s.tpWidth →
      exec (.testPulse t) s = .next (s.modTahr (fun x => { x with
        tpoLow := x.tpoLow ||| BitVec.ofNat 4 (2 ^ t.val)
        pulseAt := vUpd x.pulseAt t (fun _ => some a) })))
  ∧ (∀ (s : State) (t : Fin 4) (a : Nat), s.tahr.pulseAt[t] = some a →
      (∀ raw : List Int, s.tahr.tpoLow.getLsbD t.val = true → a + s.tpWidth - 8000 ≤ s.now → ∃ ps, exec (.testPulseSample t raw) s = .next (s.modTahr (fun x => { x with pairs := ps }))
        ∧ ∀ k : Fin 16, ps[k] = { s.tahr.pairs[k] with testFault := ((s.tahr.pairs[k]).testFault || (s.sPair k.val 0 1 != 0 && (List.range 2).any (fun j =>
            s.sPair k.val (2 + j) 1 == t.val && s.tahr.levels.getLsbD (2 * k.val + j) && s.readsHigh false (finOf 31 (2 * k.val + j)) (raw.getD (2 * k.val + j) 0) == some true))) })
      ∧ (a + s.tpWidth ≤ s.now → exec (.testPulseEnd t) s = .next (s.modTahr (fun x => { x with tpoLow := x.tpoLow &&& ~~~(BitVec.ofNat 4 (2 ^ t.val)) }))))
  ∧ (∀ (s : State) (ok : Bool) (sto so : BitVec 8), s.tahr.running = true → (∀ l, s.tahr.lastCycle = some l → l / 100000 < s.now / 100000) →
      let back := if s.linkUp .link .safe then sto else s.tahr.stoABack
      let s0 := (s.modTahr (fun t => { t with
        lastCycle := some s.now
        healthy := ok && t.lastCycle.elim true (fun l => decide (s.now / 100000 = l / 100000 + 1))
        stoABack := back })).lockLost
      let s2 := (idxs 16).foldl (fun u f => (u.fnCycle f s0.pairsCycle.2).compareLatch f) s0.pairsCycle.1
      let s4 := (idxs 8).foldl (fun u c => if u.hasChannel c then (((u.tagCycle c).sourceCycle c).torqueCycle c).channelCycle c else u) (s2.wireCycle back)
      let s5 := (idxs 4).foldl (fun u k => u.soCycle k so) s4
      exec (.tahrCycle ok sto so) s = .next (((s5.auxCycle.clearTags).mirrorCycle).sendDie .safe .link "tahr_status" []))
  ∧ (∀ (s : State), s.tahr.running = true →
      (s.tahr.healthy = true → s.tahr.cyclesRun s.now = true → s.tahr.lastBleat + 5 * 400000 ≤ s.now → exec .bleat s = .next { s with
        sw := { s.sw with
          bleat := !s.sw.bleat }
        tahr := { s.tahr with
          lastBleat := s.now } })
      ∧ (s.tahr.lastCycle.isSome = true → s.tahr.cyclesRun s.now = false → exec .bleat s
        = .next ((idxs 8).foldl (fun u c => if u.hasChannel c then u.carryStop c false false else u) (s.modTahr (fun t => { t with healthy := false })))))
  ∧ (∀ (s : State) (c : Channel) (b : Bool) (v : BitVec 32), s.tahr.requests.contains (c, b, v.toNat) = true → s.linkUp (requestDie v.toNat) .safe = true →
      exec (.ss1Request c b v) s = .next ((s.modTahr (fun t => { t with requests := t.requests.erase (c, b, v.toNat) })).modTahrCh c (fun t => { t with
        request := true
        wantSto := t.wantSto || b
        wantSs1 := if b then t.wantSs1 else t.wantSs1 <|> some v.toNat })))
  ∧ (∀ (s : State) (o : Fin 4), (s.sOut o.val 6 1).testBit 0 = true → (s.tahr.outs[o]).latchedOff = false →
      (rateOk (s.tahr.outs[o]).lastTestA s.now 400000000 = true → exec (.soTest o false) s = .next (s.modSo o (fun x => { x with
        testA := some s.now
        lastTestA := some s.now
        a := false
        diffA := none })))
      ∧ (∀ u, (s.tahr.outs[o]).lastTestA = some u → u + 200000000 ≤ s.now → rateOk (s.tahr.outs[o]).lastTestB s.now 400000000 = true →
        exec (.soTest o true) s = .next (s.modSo o (fun x => { x with
          testB := some s.now
          lastTestB := some s.now
          b := false
          diffB := none }))))
  ∧ (∀ (s : State) (o : Fin 4) (b : Bool) (u : Nat), (if b then (s.tahr.outs[o]).testB else (s.tahr.outs[o]).testA) = some u → u + 120000 ≤ s.now →
      let s1 := s.modSo o (fun x => if b then { x with testB := none } else { x with testA := none })
      exec (.soTestEnd o b true) s = .next (s1.soFault o b)
      ∧ exec (.soTestEnd o b false) s = .next (s1.modSo o (fun x => if b then { x with b := s1.soOn o } else { x with a := s1.soOn o })))

/-- A SAFETY_CONFIG block of the right form and length (its ACK_FAULT mask naming no absent channel) whose SUBOP is the command's, taken while no other one runs and with its links up: READ and READ_LOG complete at once and write what they read behind the block; the others act under the password and the STO of their channels and complete when the record has been written, so outside RETIRED. A data read that failed ends with detail 12, a second request with BUSY 2 (assumption 98), one that a link or RETIRED keeps from its record with 1/1 (assumption 94), a bad form with detail 2, a wrong length with 4, an absent channel with 6. Without a password set, or with a wrong one, WRITE, CONFIRM, HOLD and a change of the password are refused with RESULT 0x80, in lockout with 0x81; WRITE and CONFIRM with a channel not in STO with 0x82, as is ACK_FAULT for its channels. WRITE holds an image that passes R500 as pending; CONFIRM puts the pending image whose CRC it names in force; HOLD sets or ends the hold; SET_PASSWORD stores a fresh salt, a free value (assumption 11), and the key. The lockout ends 60 s after it began. (14_functional_safety.md R484, 14_functional_safety.md R501, 14_functional_safety.md R502, 14_functional_safety.md R503, 14_functional_safety.md R504, 16_host_rings.md R549, 16_host_rings.md R552, 16_host_rings.md R562.) -/
def Obligations.SafetyConfigCommands : Prop :=
  (∀ (s s1 : State) (ring : BitVec 16) (t : Taken) (data : Option (List (BitVec 8))) (b : List Byte), s.take ring.toNat 0x60 (fun _ => true) = some (t, s1) → dataOf t data = some b →
      blockBad b = false → b.length = blockLen (fieldLe b 0 1) → s1.acksAbsent b = false → s1.safetyBusy = false →
      let a := s1.safetyRequest b 0
      let stored := a.1.safetyStore (.ring t.ring t.index) ⟨t.ring, t.index, a.2.status, a.2.detail, w32 a.2.result⟩
      let answered := (if a.2.image.isEmpty then a.1 else a.1.emit (.hostWrite (t.desc.addr + 72) a.2.image)).finish t a.2.status a.2.detail (w32 a.2.result)
      (s1.tahrReached false = true →
        (fieldLe b 0 1 = 1 → exec (.read ring data) s = .next answered ∧ a.2.status = 0 ∧ (∀ im, (if fieldLe b 4 4 = 1 then s1.tahr.pendingImage else s1.tahr.image) = some im → a.2.image = im))
        ∧ (fieldLe b 0 1 = 5 → exec (.readLog ring data) s = .next answered ∧ a.2.status = 0 ∧ a.1 = s1
            ∧ a.2.image = (List.range 8).flatMap (fun i => fitBytes 32 (s1.tahr.log.getD ((fieldLe b 4 4 + i) % 256) []))))
      ∧ (s1.tahrReached true = true → s1.lifecycle ≠ 4 → (fieldLe b 0 1 = 2 → exec (.write ring data) s = .next stored) ∧ (fieldLe b 0 1 = 3 → exec (.confirm ring data) s = .next stored)
        ∧ (fieldLe b 0 1 = 4 → exec (.setPassword ring data) s = .next stored) ∧ (fieldLe b 0 1 = 6 → exec (.ackFault ring data) s = .next stored)
        ∧ (fieldLe b 0 1 = 7 → exec (.hold ring data) s = .next stored)))
  ∧ (∀ (s s1 : State) (ring : BitVec 16) (t : Taken) (data : Option (List (BitVec 8))), s.take ring.toNat 0x60 (fun _ => true) = some (t, s1) →
      ∀ i ∈ [(1, Instr.read ring data), (2, Instr.write ring data), (3, Instr.confirm ring data), (4, Instr.setPassword ring data), (5, Instr.readLog ring data), (6, Instr.ackFault ring data), (7, Instr.hold ring data)],
      (dataOf t data = none → exec i.2 s = .next (s1.finish t 2 12 0))
      ∧ (∀ b : List Byte, dataOf t data = some b → fieldLe b 0 1 = i.1 →
        (s1.safetyBusy = true → exec i.2 s = .next (s1.finish t 5 2 0))
        ∧ (s1.safetyBusy = false → ((s1.safetyWrites b = true ∧ s1.lifecycle = 4) ∨ s1.tahrReached (s1.safetyWrites b) = false) → exec i.2 s = .next (s1.finish t 1 1 0))
        ∧ (s1.safetyBusy = false → s1.tahrReached false = true →
          (blockBad b = true → exec i.2 s = .next (s1.finish t 2 2 0))
          ∧ (blockBad b = false → b.length ≠ blockLen (fieldLe b 0 1) → exec i.2 s = .next (s1.finish t 2 4 0))
          ∧ (blockBad b = false → b.length = blockLen (fieldLe b 0 1) → s1.acksAbsent b = true → exec i.2 s = .next (s1.finish t 2 6 0)))))
  ∧ (∀ (s : State) (b : List Byte), let sub := fieldLe b 0 1
      let pw := (b.drop 8).take (fieldLe b 1 1)
      let needs := sub = 2 ∨ sub = 3 ∨ sub = 7 ∨ (sub = 4 ∧ s.tahr.password.isSome = true)
      (needs → s.tahr.password = none → s.safetyAct b = (s, 0x80))
      ∧ (needs → s.tahr.password.isSome = true → s.tahr.lockout.isSome = true → s.safetyAct b = (s, 0x81))
      ∧ (needs → s.tahr.password.isSome = true → s.tahr.lockout = none → s.passwordOk pw = false → (s.safetyAct b).2 = 0x80 ∧ (s.safetyAct b).1.tahr.pwFails = min 5 (s.tahr.pwFails + 1)
          ∧ (s.safetyAct b).1.tahr.image = s.tahr.image ∧ (s.safetyAct b).1.tahr.hold = s.tahr.hold)
      ∧ (needs → s.passwordOk pw = true → s.tahr.lockout = none →
          ((sub = 2 ∨ sub = 3) → s.allSto 0xFF = false → (s.safetyAct b).2 = 0x82)
          ∧ (sub = 2 → s.allSto 0xFF = true → let im := (b.drop 72).take imageLen
              (s.safetyAct b).2 = s.imageReason im
              ∧ (s.imageReason im = 0 → (s.safetyAct b).1.tahr.pendingImage = some (im.take 12 ++ leBytes 4 ((s.tahr.serial + 1) % 2 ^ 32) ++ im.drop 16) ∧ (s.safetyAct b).1.tahr.image = s.tahr.image))
          ∧ (sub = 3 → s.allSto 0xFF = true → ∀ im, s.tahr.pendingImage = some im → fieldLe im 16 4 = fieldLe b 4 4 →
              (s.safetyAct b).2 = 0 ∧ (s.safetyAct b).1.tahr.image = some im ∧ (s.safetyAct b).1.tahr.pendingImage = none)
          ∧ (sub = 7 → (s.safetyAct b).2 = 0 ∧ (s.safetyAct b).1.tahr.hold = decide (fieldLe b 4 4 = 1)))
      ∧ (sub = 4 → s.tahr.password = none → (s.safetyAct b).2 = 0 ∧ (s.safetyAct b).1.tahr.password
          = some (leBytes 16 (Config.free 128 s.freeCtr).toNat, pbkdf2 ((b.drop 40).take (fieldLe b 2 1)) (leBytes 16 (Config.free 128 s.freeCtr).toNat)))
      ∧ (sub = 6 → s.allSto (fieldLe b 4 4) = false → s.safetyAct b = (s, 0x82))
      ∧ (sub = 6 → s.allSto (fieldLe b 4 4) = true → (s.safetyAct b).2 = 0 ∧ ∀ c : Channel, (fieldLe b 4 4).testBit c.val = true →
          ((s.safetyAct b).1.tahr.ch[c]).tmFault = false ∧ ((s.safetyAct b).1.tahr.ch[c]).rampFault = false))
  ∧ (∀ (s : State) (u : Nat), s.tahr.lockout = some u → u ≤ s.now → exec .lockoutExpiry s = .next { s with tahr := { s.tahr with
      lockout := none } })

/-- On a part without AUX these commands change nothing. With AUX: a stop that stands takes every enabled slot to WIRE_OFF with its legs off, once, and raises AUX_OFF; the stop is over only after it has gone, and until then these two change nothing. A leg over its current limit, or a high switch that has been on through blanking and detection over its V_DS limit, latches that switch off. A monitor judges its voltage with hysteresis and keeps its switches off; a supply that leaves or comes back raises its event and publishes every enabled slot, one that leaves turns their legs off and sets POS_UNSURE. Every 100 µs the thermal load is renewed; from 1.25 on the slot faults unless that cause stands. The oldest commit of aux_s.cmd that the slot has been sent is taken; a Hall fault released while its state still stands latches again. CMD_TMO without a command makes it stale, with the legs off unless the slot is a stepper. A fault in WIRE_OFF keeps the slot there (assumption 95). (15_aux_drives.md R506, 15_aux_drives.md R510, 15_aux_drives.md R511, 15_aux_drives.md R512, 15_aux_drives.md R513, 15_aux_drives.md R514, 15_aux_drives.md R515, 15_aux_drives.md R516, 15_aux_drives.md R517.) -/
def Obligations.AuxSlots : Prop :=
  (∀ (s : State) (n : AuxSlot) (l : Fin 4) (high : Bool) (m : Nat) (k : Fin 4) (hb : Fin 48) (v : Nat), s.hasDie .aux = false →
      exec .auxOff s = .next s ∧ exec .auxOffRelease s = .next s ∧ exec (.legFault n l high m) s = .next s ∧ exec (.supplyMonitor k hb v) s = .next s
      ∧ exec (.thermalUpdate n) s = .next s ∧ exec (.slotCommand n) s = .next s ∧ exec (.cmdTmoExpiry n) s = .next s)
  ∧ (∀ (s : State), s.hasDie .aux = true →
      (s.auxStop = true → s.aux.off = false → exec .auxOff s = .next
        (((s.slotsOn).foldl (fun (u : State) n => (u.modAux n (fun x => { x.legsOff with
          mode := .wireOff
          armed := false
          posUnsure := true
          vel := 0
          acc := 0 })).slotCommit n) { s with aux := { s.aux with
            off := true } }).raise 0x8003 7 10 [packFields [(0, b2n s.auxOffA), (1, b2n s.auxOffB), (2, b2n s.auxLinkFail)]]))
      ∧ ((s.auxStop = false ∨ s.aux.off = true) → exec .auxOff s = .next s)
      ∧ (s.auxStop = false → exec .auxOffRelease s = .next { s with aux := { s.aux with
          off := false } })
      ∧ (s.auxStop = true → exec .auxOffRelease s = .next s))
  ∧ (∀ (s : State) (n : AuxSlot) (l : Fin 4) (high : Bool) (m : Nat), let bit := 2 * l.val + b2n (!high)
      let dt := s.fld (Reg.slotPwm n.val) 0 9
      let excess : Bool := if high then decide (s.fld (Reg.slotShunt n.val) 16 8 * 10 < m) else decide (s.fld (Reg.slotIlim n.val) 16 16 * 100 < m)
      let seen : Bool := !high || (s.slot n).highSeen (s.slotPeriod n) dt l (s.now % s.slotPeriod n)
      s.hasDie .aux = true → s.slotOn n = true → l.val < s.slotLegs n → (s.slot n).legOff.getLsbD bit = false →
      (excess = true → seen = true → exec (.legFault n l high m) s = .next (((s.modAux n (fun x => { x with legOff := x.legOff ||| BitVec.ofNat 8 (2 ^ bit) })).raise 0x8001 n.val 8
        [w32 l.val, w32 (b2n (!high)), if high then 2 else 1]).slotCommit n))
      ∧ (excess = false ∨ seen = false → exec (.legFault n l high m) s = .next s))
  ∧ (∀ (s : State) (hb : Fin 48) (v : Nat), s.hasDie .aux = true → let a := s.aux
      let under := fun (old : Bool) (lo hi : Nat) => if v < lo then true else if hi < v then false else old
      (exec (.supplyMonitor 0 hb v) s = .next (({ s with aux := (if under (a.bst.getLsbD hb.val) 4000 4400 then { a with bst := a.bst ||| BitVec.ofNat 48 (2 ^ hb.val) }
          else { a with bst := a.bst &&& ~~~(BitVec.ofNat 48 (2 ^ hb.val)) }) } : State).takeHolds))
      ∧ (exec (.supplyMonitor 1 hb v) s = .next (({ s with aux := { a with
          cpUv := under a.cpUv 7000 7500 } } : State).takeHolds))
      ∧ (∀ k : Fin 4, 2 ≤ k.val →
        let a1 : AuxUnit := if k = 2 then { a with
            vmMv := v
            vmUv := under a.vmUv 8000 8500
            vmOv := if 62000 < v then true else if v < 61000 then false else a.vmOv }
          else { a with vddUv := under a.vddUv 4300 4500 }
        let changed := [(0, a.vmUv, a1.vmUv), (1, a.vmOv, a1.vmOv), (2, a.vddUv, a1.vddUv)].filter (fun (e : Nat × Bool × Bool) => e.2.1 != e.2.2)
        let s2 := changed.foldl (fun (u : State) e => u.raise 0x8002 7 8 [w32 e.1, w32 (b2n e.2.2)]) ({ s with aux := a1 } : State).takeHolds
        (changed = [] → exec (.supplyMonitor k hb v) s = .next s2)
        ∧ (changed ≠ [] → exec (.supplyMonitor k hb v) s = .next ((s2.slotsOn).foldl (fun (u : State) n => (u.modAux n (fun x =>
            if changed.any (fun e => e.2.2) then { x.legsOff with
              posUnsure := true
              vel := 0
              acc := 0 }
            else x)).slotCommit n) s2))))
  ∧ (∀ (s : State) (n : AuxSlot), s.hasDie .aux = true → s.slotOn n = true → (s.slot n).thermAt + 40000 ≤ s.now →
      let s1 := s.modAux n (fun x => { x with
        load := s.nextLoad n
        thermAt := s.now })
      ((fBelow (s.nextLoad n) 0x3FA00000 = true ∨ (s.slot n).cause = 1) → exec (.thermalUpdate n) s = .next ((s1.slotCommit n).modAux n (fun x => { x with samples := [] })))
      ∧ (fBelow (s.nextLoad n) 0x3FA00000 = false → (s.slot n).cause ≠ 1 → exec (.thermalUpdate n) s
        = .next ((s1.slotFault n 1 0x8007 9 [s.nextLoad n]).modAux n (fun x => { x with samples := [] }))))
  ∧ (∀ (s : State) (n : AuxSlot), s.hasDie .aux = true → s.slotOn n = true →
      ((s.slot n).inbox = [] → exec (.slotCommand n) s = .next s)
      ∧ (∀ (u : Nat) (ws : List (BitVec 32)) (rest : List (Nat × List (BitVec 32))), (s.slot n).inbox = (u, ws) :: rest →
        let w := fun (i : Nat) => ws.getD i 0
        let y := (s.slot n).take (s.slotType n) (s.auxStop || s.aux.off) s.now (w 0) (w 1) (w 2) (w 3) (w 4) (w 5)
        let s1 := s.modAux n (fun _ => { y with
          stamp := some u
          inbox := rest })
        let hallBad := (s.slot n).cause ≠ 0 ∧ y.cause = 0 ∧ s.slotType n = 2 ∧ (y.hall = some 0 ∨ y.hall = some 7)
        (hallBad → exec (.slotCommand n) s = .next (s1.slotFault n 2 0x8004 9 [(y.hall.getD 0).setWidth 32]))
        ∧ (¬ hallBad → exec (.slotCommand n) s = .next (if y.mode = (s.slot n).mode then s1 else s1.slotCommit n))))
  ∧ (∀ (s : State) (n : AuxSlot), s.hasDie .aux = true → s.slotOn n = true → s.fld (Reg.slotCfg n.val) 0 16 ≠ 0 → (s.slot n).stale = false →
      (s.slot n).cmdAt.getD s.glb.lockedAt + s.fld (Reg.slotCfg n.val) 0 16 * 400000 ≤ s.now →
      exec (.cmdTmoExpiry n) s = .next (((s.modAux n (fun x => { (if s.slotType n = 3 then x else x.legsOff) with stale := true })).raise 0x8008 n.val 5 [(s.slot n).seq]).slotCommit n))

/-- On a part without AUX these commands change nothing. At a new valley of an enabled slot its leg currents are sampled, its input is read (INPUT_BAD is raised when it turns bad), ON follows the input, sine mode ends on a slow sector, the monitors' holds are renewed, and its legs follow the loop of its type, or are off while the slot does not drive. A Hall state counts once it has held for HALL_FILT; a shorter one changes nothing. A new one that names no sector is a HALL fault; the first known one is noted; a change to another sector is taken, and one that skips a sector raises HALL_SKIP. HALL_TMO without a change the speed is 0, and a slot that has driven for as long since stalls. A block commutation advances at its instant. TMO without an edge a PWM input turns bad, and so do the slots on it. Every 10 µs a stepper's generator moves by slotMotion, its position by nextLevel, and LIMIT follows; one that comes to rest while STOPPING is OFF with POS_UNSURE. At rest for HOLD_TIME the coil current falls, where the set-up or the thermal load asks for it. (15_aux_drives.md R507, 15_aux_drives.md R509, 15_aux_drives.md R511, 15_aux_drives.md R519, 15_aux_drives.md R520, 15_aux_drives.md R522, 15_aux_drives.md R524, 15_aux_drives.md R526, 15_aux_drives.md R527, 15_aux_drives.md R528, 15_aux_drives.md R529, 15_aux_drives.md R531.) -/
def Obligations.AuxMotors : Prop :=
  (∀ (s : State) (n : AuxSlot) (codes : Vector (BitVec 12) 4) (ain : Nat) (pwm : Option (Nat × Nat)) (h : BitVec 3) (held : Nat) (i : Fin 8), s.hasDie .aux = false →
      exec (.valley n codes ain pwm) s = .next s ∧ exec (.hallChange n ⟨h, held⟩) s = .next s ∧ exec (.hallTimeout n) s = .next s ∧ exec (.blockAdvance n) s = .next s
      ∧ exec (.pwmInTimeout i) s = .next s ∧ exec (.profileUpdate n) s = .next s ∧ exec (.holdReduction n) s = .next s)
  ∧ (∀ (s : State) (n : AuxSlot) (codes : Vector (BitVec 12) 4) (ain : Nat) (pwm : Option (Nat × Nat)), s.hasDie .aux = true → s.slotOn n = true → s.slotPeriod n ≠ 0 → (s.slot n).valley < s.now / s.slotPeriod n →
      let s1 := (s.takePwm n pwm).sampleLegs n codes
      let s2 := if s.slotType n = 3 then s1 else s1.limitFactor n
      let inp := s2.slotInput n ain
      let bad := s.slotType n == 2 && inp.2
      let s3 := s2.modAux n (fun x => { x.slowSector s.now with
        valley := s.now / s.slotPeriod n
        inBad := bad
        on := s.slotType n == 2 && s2.slotOnBit n inp.1
        held := s2.monitorHold n })
      let s4 := if bad && !(s2.slot n).inBad then s3.raise 0x8009 n.val 6 [w32 (s.slotSrc n), w32 (s.slotIn n).val] else s3
      (s4.slotDrives n = false → exec (.valley n codes ain pwm) s = .next (s4.modAux n (fun _ => (s4.slot n).legsOff)))
      ∧ (s4.slotDrives n = true →
          (s.slotType n = 1 → exec (.valley n codes ain pwm) s = .next (s4.modAux n (fun _ => s4.valleyDc n)))
          ∧ (s.slotType n = 2 → exec (.valley n codes ain pwm) s = .next (s4.modAux n (fun _ => s4.valleyBldc n inp.1)))
          ∧ (s.slotType n = 3 → exec (.valley n codes ain pwm) s = .next (s4.modAux n (fun _ => s4.valleyStepper n)))))
  ∧ (∀ (s : State) (n : AuxSlot) (h : BitVec 3) (held : Nat), s.hasDie .aux = true → s.slotOn n = true → s.slotType n = 2 → (s.slot n).hall ≠ some h →
      (held < s.fld (Reg.slotBldc n.val) 8 8 * 40 → exec (.hallChange n ⟨h, held⟩) s = .next s)
      ∧ (s.fld (Reg.slotBldc n.val) 8 8 * 40 ≤ held →
        (hallSector h = none → exec (.hallChange n ⟨h, held⟩) s = .next ((s.modAux n (fun x => { x with hall := some h })).slotFault n 2 0x8004 9 [h.setWidth 32]))
        ∧ (∀ k, hallSector h = some k → (s.slot n).hall.bind hallSector = none → exec (.hallChange n ⟨h, held⟩) s = .next (s.modAux n (fun x => { x with
            hall := some h
            hallAt := some s.now
            tSec := none
            hallRun := 0
            advanced := false
            sine := false })))
        ∧ (∀ k old, hallSector h = some k → (s.slot n).hall.bind hallSector = some old →
            let s1 := s.modAux n (fun x => x.hallTo s.now (bitsAt (s.reg (Reg.slotBldc n.val)) 26 5) (bitAt (s.reg (Reg.slotBldc n.val)) 31) h old k)
            (((k + 6 - old) % 6 = 1 ∨ (k + 6 - old) % 6 = 5) → exec (.hallChange n ⟨h, held⟩) s = .next s1)
            ∧ ((k + 6 - old) % 6 ≠ 1 → (k + 6 - old) % 6 ≠ 5 → exec (.hallChange n ⟨h, held⟩) s = .next (s1.raise 0x8005 n.val 4 [((s.slot n).hall.getD 0).setWidth 32, h.setWidth 32])))))
  ∧ (∀ (s : State) (n : AuxSlot), let tmo := s.fld (Reg.slotBldc n.val) 16 10 * 400000
      s.hasDie .aux = true → s.slotOn n = true → s.slotType n = 2 → (s.slot n).hallAt.getD 0 + tmo ≤ s.now → let s1 := s.modAux n (fun x => { x with speed := 0 })
      (((s.slot n).drivenAt = none ∨ ∃ u, (s.slot n).drivenAt = some u ∧ s.now < u + tmo) → exec (.hallTimeout n) s = .next s1)
      ∧ (∀ u, (s.slot n).drivenAt = some u → u + tmo ≤ s.now → exec (.hallTimeout n) s = .next (s1.slotFault n 3 0x8006 9 [(s.slot n).duty])))
  ∧ (∀ (s : State) (n : AuxSlot) (a u : Nat), s.hasDie .aux = true → s.slotOn n = true → s.slotType n = 2 → (s.slot n).sine = false → (s.slot n).advanced = false → (s.slot n).hallAt = some a → (s.slot n).tSec = some u →
      let adv := s.slotAdvance n
      (a : Int) * (6000 * adv.2) + (6000 * adv.2 - adv.1) * u ≤ (s.now : Int) * (6000 * adv.2) → exec (.blockAdvance n) s = .next (s.modAux n (fun x => { x with advanced := true })))
  ∧ (∀ (s : State) (i : Fin 8), s.hasDie .aux = true → (s.aux.pwm[i]).bad = false → (s.aux.pwm[i]).edgeAt + s.fld (Reg.auxPwmCfg i.val) 0 16 * 400000 ≤ s.now →
      exec (.pwmInTimeout i) s = .next ((s.slotsOn).foldl (fun (u : State) n => if u.slotType n = 2 ∧ u.slotSrc n = 2 ∧ u.slotIn n = i ∧ (u.slot n).inBad = false then
        ((u.modAux n (fun x => { x with inBad := true })).raise 0x8009 n.val 6 [2, w32 i.val]).slotCommit n else u) { s with aux := { s.aux with
          pwm := vUpd s.aux.pwm i (fun x => { x with bad := true }) } }))
  ∧ (∀ (s : State) (n : AuxSlot), s.hasDie .aux = true → s.slotOn n = true → s.slotType n = 3 → (s.slot n).profAt < s.now / 4000 →
      let x := s.slot n
      let m := s.slotMotion n
      let lev := s.nextLevel n x.fine m.x m.v
      let pos := if m.v = 0 then m.x / 2 ^ 64 else quantised lev m.x m.v
      let still : Bool := m.v == 0 && m.x == x.fine
      let y : SlotUnit := { x with
        profAt := s.now / 4000
        fine := m.x
        vel := m.v
        acc := m.a
        level := lev
        pos := pos
        limStop := x.limStop && m.v != 0
        limit := ({ x with pos := pos } : SlotUnit).beyond
        stillAt := if still then x.stillAt.orElse (fun _ => some s.now) else none
        reducing := if still then x.reducing else none }
      (s.slotDrives n = false → exec (.profileUpdate n) s = .next (s.modAux n (fun x => { x with
        profAt := s.now / 4000
        vel := 0
        acc := 0
        level := 0
        limit := x.beyond })))
      ∧ (s.slotDrives n = true → (x.mode ≠ .stopping ∨ m.v ≠ 0) → exec (.profileUpdate n) s = .next (s.modAux n (fun _ => y)))
      ∧ (s.slotDrives n = true → x.mode = .stopping → m.v = 0 → exec (.profileUpdate n) s = .next ((s.modAux n (fun _ => { y.legsOff with
          mode := .off
          posUnsure := true })).slotCommit n)))
  ∧ (∀ (s : State) (n : AuxSlot) (u : Nat), s.hasDie .aux = true → (s.slot n).stillAt = some u → s.slotOn n = true → s.slotType n = 3 → (s.slot n).reducing = none → (bitAt (s.reg (Reg.slotStep n.val)) 30 = true ∨ fBelow (s.slot n).load f32One = false) →
      u + s.fld (Reg.slotStep n.val) 16 14 * 400000 ≤ s.now → exec (.holdReduction n) s = .next (s.modAux n (fun x => { x with reducing := some s.now })))

/-- A tail or head that an ACTIVE ring of its kind can take moves the host's index, and one that runs past it puts the ring in ERROR 1; a doorbell to a ring that is not ACTIVE is reported at most once per second. ENABLE checks the state, the fields and the completion ring, in this order, and then starts the ring empty; DISABLE makes a submission ring OFF, or DRAINING while descriptors are in flight, refuses a completion ring in use, and makes any other OFF; READ_CONTEXT copies the context. MOD_TIME after the first unsignalled entry the ring signals, whatever its state. A disconnect turns every ring OFF, drops what was taken, holds the events and is reported with the descriptors not taken; a connect notes speed and width. RE_CTRL.EN is written as given. An AER error is reported. (16_host_rings.md R534, 16_host_rings.md R539, 16_host_rings.md R541, 16_host_rings.md R542, 16_host_rings.md R543, 16_host_rings.md R544, 16_host_rings.md R545, 16_host_rings.md R546, 16_host_rings.md R567, 16_host_rings.md R574, 16_host_rings.md R575.) -/
def Obligations.RingControl : Prop :=
  (∀ (s : State) (r : BitVec 16) (v : Word), let x := s.ring r.toNat
      (x.state ≠ .active → rateOk x.lastIgnored s.now 400000000 = true →
          let t := (s.raise 0x9004 r.toNat 3 [v, w32 x.state.code]).modRing r.toNat (fun y => { y with lastIgnored := some s.now })
          exec (.doorbellTail r v) s = .next t ∧ exec (.doorbellHead r v) s = .next t)
      ∧ (x.state ≠ .active → rateOk x.lastIgnored s.now 400000000 = false → exec (.doorbellTail r v) s = .next s ∧ exec (.doorbellHead r v) s = .next s)
      ∧ (x.state = .active → x.submits = true →
          ((v.toNat + 2 ^ 32 - x.host) % 2 ^ 32 ≤ x.n - x.occ → exec (.doorbellTail r v) s = .next (s.modRing r.toNat (fun y => { y with host := v.toNat })))
          ∧ (x.n - x.occ < (v.toNat + 2 ^ 32 - x.host) % 2 ^ 32 → exec (.doorbellTail r v) s = .next (s.ringError r.toNat 1 v))
          ∧ exec (.doorbellHead r v) s = .next s)
      ∧ (x.state = .active → x.submits = false → exec (.doorbellTail r v) s = .next s
          ∧ ((v.toNat + 2 ^ 32 - x.host) % 2 ^ 32 ≤ x.occ → let s1 := s.modRing r.toNat (fun y => { y with host := v.toNat })
            exec (.doorbellHead r v) s = .next (if x.type = 3 ∧ s.pwr.rung ≤ 1 then (s1.deliver r.toNat).purgeQueue else s1))
          ∧ (x.occ < (v.toNat + 2 ^ 32 - x.host) % 2 ^ 32 → exec (.doorbellHead r v) s = .next (s.ringError r.toNat 1 v).purgeQueue)))
  ∧ (∀ (s : State), let k := s.selRing
      let cw : Vector Word 5 := Vector.ofFn (fun i => s.reg (Reg.ringCtx i.val))
      let cr := s.ring (bitsAt cw[0] 0 16)
      ((s.ring k).state ≠ .off → exec .enable s = .next (s.ringOpEnd 1))
      ∧ ((s.ring k).state = .off → ctxBad cw = true → exec .enable s = .next (s.ringOpEnd 2))
      ∧ ((s.ring k).state = .off → ctxBad cw = false → bitsAt cw[0] 29 3 ≤ 2 → ¬ (cr.state = .active ∧ cr.type = 4) → exec .enable s = .next (s.ringOpEnd 3))
      ∧ ((s.ring k).state = .off → ctxBad cw = false → (bitsAt cw[0] 29 3 ≤ 2 → cr.state = .active ∧ cr.type = 4) →
        let s1 := ((s.modRing k (fun r => { r with
          ctx := cw
          state := .active
          cause := 0
          dev := 0
          host := 0
          fence := none
          unsignalled := 0
          first := none })).modRe (fun r => { r with fetched := kvSet 0 r.fetched k 0 })).ringOpEnd 0
        (bitsAt cw[0] 29 3 ≠ 3 → exec .enable s = .next s1)
        ∧ (bitsAt cw[0] 29 3 = 3 → exec .enable s = .next (State.deliverAll { s1 with ev := { s1.ev with
          held := false
          queue := s1.ev.queue.map (fun q => { q with written := q.written.filter (· != k) }) } }))))
  ∧ (∀ (s : State), let k := s.selRing
      let r := s.ring k
      (r.state = .off → exec .disable s = .next (s.ringOpEnd 0))
      ∧ (r.state ≠ .off → r.submits = true → exec .disable s = .next ((s.modRing k (fun x => { x with state := if s.inFlight k = 0 then .off else .draining })).ringOpEnd 0))
      ∧ (r.state ≠ .off → r.submits = false →
        let used := r.type = 4 ∧ s.re.rings.any (fun p => p.2.submits && p.2.cring == k && (p.2.state == .active || p.2.state == .draining)) = true
        (used → exec .disable s = .next (s.ringOpEnd 4))
        ∧ (¬ used → exec .disable s = .next ((s.modRing k (fun x => { x with
          state := .off
          unsignalled := 0
          first := none })).ringOpEnd 0).purgeQueue))
      ∧ exec .readContext s = .next (((idxs 5).foldl (fun (u : State) i => u.setReg (Reg.ringCtx i.val) r.ctx[i]) s).ringOpEnd 0))
  ∧ (∀ (s : State) (r : BitVec 16) (f : Nat), let x := s.ring r.toNat
      x.first = some f → bitsAt x.ctx[3] 0 16 ≠ 0 → f + bitsAt x.ctx[3] 0 16 * 400 ≤ s.now → exec (.modTimeExpiry r) s = .next (s.fire r.toNat))
  ∧ (∀ (s : State) (c : Nat), let u := s.ringsOff
      let untaken := s.re.rings.foldl (fun n p => if p.2.submits && p.2.state != .off then n + p.2.occ else n) 0
      (c = 1 → exec (.disconnect c) s = .next ((u.modRe (fun r => { r with
        speed := 0
        width := 0 })).raise 0x9005 1 10 [w32 c, w32 untaken]))
      ∧ (c ≠ 1 → exec (.disconnect c) s = .next (u.raise 0x9005 1 10 [w32 c, w32 untaken]))
      ∧ (∀ p ∈ u.re.rings, p.2.state = .off) ∧ u.re.taken = [] ∧ u.re.timed = [] ∧ u.done = [] ∧ u.ev.held = true)
  ∧ (∀ (s : State) (a b : BitVec 4) (u v : Word), exec (.hostConnect a b) s = .next ((s.modRe (fun r => { r with
        speed := a.toNat
        width := b.toNat })).raise 0x9006 1 3 [w32 a.toNat, w32 b.toNat])
      ∧ exec (.reCtrl u) s = .next (s.setReg Reg.reCtrl (u &&& 0x80000000)) ∧ exec (.pcieError u v) s = .next (s.raise 0x900A 1 8 [u, v]))

/-- The ring engine takes the descriptor at the head of the ring it selects: the device index moves on by one modulo 2^32, and the descriptor waits for its opcode, or completes without effect with the status and detail of the first check that fails (those of recovery after those of R548, a resource the part lacks last of these). A ring that is not selected takes nothing. A fetch that ends badly, or gets no completion, puts the ring in ERROR 2. NOP completes with OK. A FENCE holds the ring, and completes once every earlier descriptor of the ring has completed. At GRAZE and above the oldest completion bound for a completion ring with room is written as one 16-byte entry with the phase of its index, the descriptor is released and the index moves on; a QUIET one that is OK, or one for a ring that is OFF, is released without an entry; one without room stalls. Below GRAZE none is written. (16_host_rings.md R543, 16_host_rings.md R548, 16_host_rings.md R551, 16_host_rings.md R560, 16_host_rings.md R561, 16_host_rings.md R562, 16_host_rings.md R563, 16_host_rings.md R568, 18_power_ladder.md R601, 00_scope.md R3.) -/
def Obligations.DescriptorFlow : Prop :=
  (∀ (s : State) (r : BitVec 16) (b : BitVec 512), s.selects r.toNat = true →
      let bs := descBytes b
      let i := (s.ring r.toNat).dev
      let s1 := (s.noteTurn r.toNat).modRing r.toNat (fun x => { x with dev := (x.dev + 1) % 2 ^ 32 })
      let took := fun (bad : Bool) => s1.modRe (fun x => { x with taken := x.taken ++ [⟨r.toNat, i, parseDesc bs, bad⟩] })
      (s.descBad (s.ring r.toNat).type bs = none → s.recoveryBad (parseDesc bs) = none → exec (.descriptorFetch r true b) s = .next (took false))
      ∧ (∀ st det, s.descBad (s.ring r.toNat).type bs = some (st, det) → exec (.descriptorFetch r true b) s = .next ((took true).complete r.toNat i st det 0))
      ∧ (∀ st det, s.descBad (s.ring r.toNat).type bs = none → s.recoveryBad (parseDesc bs) = some (st, det) → exec (.descriptorFetch r true b) s = .next ((took true).complete r.toNat i st det 0))
      ∧ exec (.descriptorFetch r false b) s = .next (s.ringError r.toNat 2 (w32 i))
      ∧ exec (.completionTimeout r) s = .next (s.ringError r.toNat 2 (w32 i)))
  ∧ (∀ (s : State) (r : BitVec 16) (b : BitVec 512) (g : Bool), s.selects r.toNat = false → exec (.descriptorFetch r g b) s = .next s ∧ exec (.completionTimeout r) s = .next s)
  ∧ (∀ (s s1 : State) (r : BitVec 16) (t : Taken), (s.take r.toNat 0x00 (fun _ => true) = some (t, s1) → exec (.descriptorNop r) s = .next (s1.complete t.ring t.index 0 0 0))
      ∧ (s.take r.toNat 0x01 (fun _ => true) = some (t, s1) → exec (.fence r) s = .next (s1.modRing t.ring (fun x => { x with fence := some t.index }))))
  ∧ (∀ (s : State) (r : BitVec 16) (i : Nat), (s.ring r.toNat).fence = some i →
      ((∀ t ∈ s.re.taken, t.ring = r.toNat → t.index ≠ i → ∃ c ∈ s.done, c.ring = r.toNat ∧ c.index = t.index) →
        exec (.fenceCompletion r) s = .next ((s.modRing r.toNat (fun x => { x with fence := none })).complete r.toNat i 0 0 0))
      ∧ (∀ t ∈ s.re.taken, t.ring = r.toNat → t.index ≠ i → (∀ c ∈ s.done, c.ring = r.toNat → c.index ≠ t.index) → exec (.fenceCompletion r) s = .next s))
  ∧ (∀ (s : State) (r : BitVec 16) (x : Completion) (xs : List Completion) (t : Taken), let c := s.ring r.toNat
      s.pwr.rung ≤ 1 → s.boundFor r.toNat = x :: xs → s.descOf x.ring x.index = some t →
      (t.desc.quiet = true → x.status = 0 → exec (.descriptorCompletion r) s = .next (s.releaseDesc x))
      ∧ ((t.desc.quiet = false ∨ x.status ≠ 0) → c.state = .active → c.occ < c.n → exec (.descriptorCompletion r) s
        = .next ((((s.emit (.hostWrite (c.base + 16 * (c.dev % c.n)) (completionEntry x t.desc (c.phase c.dev) (s.ring x.ring).dev))).modRing r.toNat (fun y => { y with dev := (y.dev + 1) % 2 ^ 32 })).releaseDesc x).wrote
            r.toNat t.desc.irq))
      ∧ ((t.desc.quiet = false ∨ x.status ≠ 0) → c.state = .active → c.n ≤ c.occ → exec (.descriptorCompletion r) s = .next (s.stallEvent r.toNat))
      ∧ ((t.desc.quiet = false ∨ x.status ≠ 0) → c.state = .off → exec (.descriptorCompletion r) s = .next (s.releaseDesc x)))
  ∧ (∀ (s : State) (r : BitVec 16), 1 < s.pwr.rung → exec (.descriptorCompletion r) s = .next s)

/-- WRITE_SIGNALS commits its inline words or its host data with the present stamp after the checks of R101 and R113, or ends with their status; a failed read of its data ends it with detail 12. READ_SIGNALS answers a single word in RESULT or writes the words to host memory, and is refused where a signal is not for the host. WRITE_SIGNALS_AT_FRAME checks channel, enable, frame distance and room in this order (frame 0 still lies ahead until the carrier runs) and then waits, with a timer armed once its sample instant is fixed; the timer's request commits it with the programmed time as stamp, and a frame that has gone by without one ends it with REJECTED_STATE 3. LOAD_TABLE writes its words on both dies. ARM_TRACE arms an idle trace of both dies on taps that may be traced; DISARM stops one that runs; DRAIN_TRACE writes the oldest unread records; DRAIN_SAMPLES writes the oldest samples still in the buffer and moves the read pointer behind them. (16_host_rings.md R549, 16_host_rings.md R553, 16_host_rings.md R554, 16_host_rings.md R555, 16_host_rings.md R556, 16_host_rings.md R557, 03_signal_board.md R101, 03_signal_board.md R113, 02_time_base_and_frames.md R57.) -/
def Obligations.SignalDescriptors : Prop :=
  (∀ (s s1 : State) (r : BitVec 16) (t : Taken) (data : Option (List (BitVec 8))), s.take r.toNat 0x10 (fun _ => true) = some (t, s1) → let d := t.desc
      (d.inline_ = true → exec (.writeSignals r data) s = .next (s1.hostWrite t.ring t.index d.sig (d.w.toList.take d.count) s1.now (w32 d.count)))
      ∧ (d.inline_ = false → ∀ bs, dataOf t data = some bs → exec (.writeSignals r data) s = .next (s1.hostWrite t.ring t.index d.sig (wordsLe bs) s1.now (w32 d.count)))
      ∧ (d.inline_ = false → dataOf t data = none → exec (.writeSignals r data) s = .next (s1.finish t 2 12 0)))
  ∧ (∀ (s : State) (ring ix sig stamp : Nat) (vals : List Word) (res : Word), let ws := numbered sig vals
      (∀ st det, (s.die .a).hostWriteBad ws = some (st, det) → s.hostWrite ring ix sig vals stamp res = s.complete ring ix st det 0)
      ∧ ((s.die .a).hostWriteBad ws = none → s.hostWrite ring ix sig vals stamp res = (s.doEffect none (.commit 0x200 stamp ws)).complete ring ix 0 0 res))
  ∧ (∀ (s s1 : State) (r : BitVec 16) (t : Taken), s.take r.toNat 0x11 (fun _ => true) = some (t, s1) → let d := t.desc
      (s1.hostRead d.sig d.count = none → exec (.readSignals r) s = .next (s1.finish t 4 2 0))
      ∧ (∀ vs s2, s1.hostRead d.sig d.count = some (vs, s2) →
        (d.noMem = true → exec (.readSignals r) s = .next (s2.finish t 0 0 (vs.headD 0)))
        ∧ (d.noMem = false → exec (.readSignals r) s = .next ((s2.emit (.hostWrite d.addr (vs.flatMap (fun v => leBytes 4 v.toNat)))).finish t 0 0 (w32 d.count)))))
  ∧ (∀ (s s1 : State) (r : BitVec 16) (t : Taken) (data : Option (List (BitVec 8))), s.take r.toNat 0x12 (fun _ => true) = some (t, s1) →
      let d := t.desc
      let c : Channel := finOf 7 d.w[0].toNat
      let f := d.w[1].toNat
      let x := s1.ch[c]
      let ahead := (f + 2 ^ 32 - x.frame % 2 ^ 32) % 2 ^ 32
      let late := (ahead = 0 ∧ (x.running = true ∨ x.resumed = true)) ∨ ((x.running = true ∨ s1.glb.locked = true) ∧ s1.sampleAhead c ahead < s1.now + 2000)
      let vals := if d.inline_ then some ((d.w.toList.drop 2).take d.count) else (dataOf t data).map wordsLe
      (s1.hasChannel c = false → exec (.writeSignalsAtFrame r data) s = .next (s1.finish t 2 6 0))
      ∧ (s1.hasChannel c = true → x.enabled = false → exec (.writeSignalsAtFrame r data) s = .next (s1.finish t 1 1 0))
      ∧ (s1.hasChannel c = true → x.enabled = true →
        (2 ^ 31 ≤ ahead → exec (.writeSignalsAtFrame r data) s = .next (s1.finish t 1 3 0))
        ∧ (65536 < ahead → ahead < 2 ^ 31 → exec (.writeSignalsAtFrame r data) s = .next (s1.finish t 2 4 0))
        ∧ (ahead ≤ 65536 → late → exec (.writeSignalsAtFrame r data) s = .next (s1.finish t 1 3 0))
        ∧ (ahead ≤ 65536 → ¬ late → 256 ≤ s1.re.timed.length → exec (.writeSignalsAtFrame r data) s = .next (s1.finish t 5 3 0))
        ∧ (ahead ≤ 65536 → ¬ late → s1.re.timed.length < 256 →
          (vals = none → exec (.writeSignalsAtFrame r data) s = .next (s1.finish t 2 12 0))
          ∧ (∀ vs, vals = some vs → exec (.writeSignalsAtFrame r data) s = .next ((s1.modRe (fun y => { y with timed := y.timed ++ [⟨c, f, d.sig, vs, t.ring, t.index, none⟩] })).armTimer c)))))
  ∧ (∀ (s : State) (c : Channel),
      (∀ (t : TimedWrite) (q : TimerRequest) (rest : List TimedWrite), s.timerReqs[(0 : Fin 2)].find? (fun q => q.purpose == c.val) = some q →
        s.re.timed.filter (fun t => t.channel == c && t.due == some q.stamp) = t :: rest →
        let s1 := s.modRe (fun r => { r with timed := r.timed.filter (· != t) })
        let s2 : State := if rest = [] then { s1 with timerReqs := vUpd s1.timerReqs 0 (fun l => l.filter (· != q)) } else s1
        exec (.timedWriteCommit c) s = .next (s2.hostWrite t.ring t.index t.sig t.values q.stamp (w32 t.frame)))
      ∧ (∀ t : TimedWrite, s.timerReqs[(0 : Fin 2)].find? (fun q => q.purpose == c.val) = none →
        s.re.timed.find? (fun t => t.channel == c && t.due.isNone && frameGe s.ch[c].frame t.frame) = some t →
        exec (.timedWriteCommit c) s = .next ((s.modRe (fun r => { r with timed := r.timed.filter (· != t) })).complete t.ring t.index 1 3 0)))
  ∧ (∀ (s s1 : State) (r : BitVec 16) (t : Taken) (data : Option (List (BitVec 8))), s.take r.toNat 0x22 (fun _ => true) = some (t, s1) →
      (∀ bs : List (BitVec 8), dataOf t data = some bs → let ws := wordsLe bs
        let a := t.desc.w[0].toNat
        let s2 := s1.doEffect none (.tables a ws)
        exec (.loadTable r data) s = .next (({ s2 with pwr := { s2.pwr with
          tablePages := notePages s2.pwr.tablePages a ws.length } } : State).finish t 0 0 (w32 ws.length)))
      ∧ (dataOf t data = none → exec (.loadTable r data) s = .next (s1.finish t 2 12 0)))
  ∧ (∀ (s s1 : State) (r : BitVec 16) (t : Taken) (data : Option (List (BitVec 8))) (bs : List (BitVec 8)), s.take r.toNat 0x30 (fun d => !bitAt d.w[0] 2) = some (t, s1) → dataOf t data = some bs →
      let d := t.desc
      let taps := (wordsLe bs).map (·.toNat)
      let ok := taps.all (fun a => ((s1.die .a).entryOf a).elim false (fun e => e.trace)) = true
      let arm := fun (u : TraceUnit) => { u with
        active := true
        taps := taps
        wrap := bitAt d.w[0] 0
        trig := if bitAt d.w[0] 1 then some ⟨d.w[1].toNat, d.w[2], d.w[3], d.w[4].toNat⟩ else none
        left := none
        records := []
        read := 0
        lost := false }
      (s1.trace.active = true → exec (.armTrace r data) s = .next (s1.finish t 5 1 0))
      ∧ (s1.trace.active = false → ¬ ok → exec (.armTrace r data) s = .next (s1.finish t 2 5 0))
      ∧ (s1.trace.active = false → ok → exec (.armTrace r data) s = .next (({ s1 with
        trace := arm s1.trace
        traceB := arm s1.traceB } : State).finish t 0 0 (w32 d.count))))
  ∧ (∀ (s s1 : State) (r : BitVec 16) (t : Taken), (s.take r.toNat 0x30 (fun d => bitAt d.w[0] 2) = some (t, s1) →
        let s2 : State := { s1 with traceB := { s1.traceB with
          active := false } }
        (s1.trace.active = true → exec (.disarm r) s = .next ((s2.stopTrace 2).finish t 0 0 0))
        ∧ (s1.trace.active = false → exec (.disarm r) s = .next (s2.finish t 0 0 0)))
      ∧ (s.take r.toNat 0x31 (fun _ => true) = some (t, s1) → let recs := (s1.trace.records.drop s1.trace.read).take (t.desc.length / 16)
        let s2 := s1.emit (.hostWrite t.desc.addr (recs.flatMap traceBytes))
        exec (.drainTrace r) s = .next (({ s2 with trace := { s2.trace with
          read := s1.trace.read + recs.length
          lost := false } } : State).finish t 0 (b2n s1.trace.lost) (w32 recs.length)))
      ∧ (s.take r.toNat 0x32 (fun _ => true) = some (t, s1) →
        let b : Fin 64 := finOf 63 t.desc.w[0].toNat
        let len := 2 ^ s1.smpLog b
        let diff := s1.smpUnread b
        let from_ := if len < diff then (s1.smp[b].wptr + 2 ^ 32 - len) % 2 ^ 32 else (s1.reg (Reg.smpRptr b.val)).toNat
        let n := min (min diff len) (t.desc.length / 4)
        exec (.drainSamples r) s = .next (((s1.emit (.hostWrite t.desc.addr (((List.range n).map (fun i => kvGet 0 s1.sampleMem ((s1.smpSpan b).1 + (from_ + i) % len))).flatMap (fun w => leBytes 4 w.toNat)))).setRptr b
          (w32 (from_ + n))).finish t 0 (b2n (decide (len < diff))) (w32 n))))

/-- LOAD_PROGRAM judges the image: a directory or program memory without room is raised with what is free and ends with detail 10 or 11, a bad image with its status and detail, and a good one is loaded on both dies with its place as RESULT. SWAP_PROGRAM is refused in a shutdown and where the slots do not allow it, empties a LOADED slot that has no successor at once, and otherwise waits for the planner. CHANNEL_MODE's settings and RESYNC end with the first of missing channel, shutdown and channel not enabled that holds; settings are refused with detail 8 where they would change EN or the set-up they make would fail, and wait for the planner otherwise (reserved bits dropped, assumption 100); RESYNC needs a running channel of its own source. RELEASE asks each enabled channel in order by R427 alone, and answers the mask granted, with detail 5 where that is not the whole mask; before SETUP_LOCKED it is refused. (16_host_rings.md R552, 16_host_rings.md R558, 04_oryx_engines.md R128, 04_oryx_engines.md R130, 04_oryx_engines.md R131, 02_time_base_and_frames.md R83, 12_protection_and_discharge.md R427, 12_protection_and_discharge.md R439, 00_scope.md R3.) -/
def Obligations.ProgramAndModeDescriptors : Prop :=
  (∀ (s s1 : State) (r : BitVec 16) (t : Taken) (data : Option (List (BitVec 8))) (bs : List (BitVec 8)), s.take r.toNat 0x20 (fun _ => true) = some (t, s1) → dataOf t data = some bs →
      let slot : SlotCode := finOf 127 t.desc.w[0].toNat
      let ch : Channel := finOf 7 t.desc.w[1].toNat
      (∀ place im, s1.judgeLoad slot ch bs = .ok place im → exec (.loadProgram r data) s = .next ((s1.doEffect (some ch) (.load slot ch place im)).finish t 0 0 (w32 place)))
      ∧ (∀ st det, s1.judgeLoad slot ch bs = .bad st det → exec (.loadProgram r data) s = .next (s1.finish t st det 0))
      ∧ (∀ n free, s1.judgeLoad slot ch bs = .dirFull n free → exec (.loadProgram r data) s = .next ((s1.raise 0x0116 1 6 [w32 n, w32 free]).finish t 2 10 0))
      ∧ (∀ bank n big, s1.judgeLoad slot ch bs = .full bank n big → exec (.loadProgram r data) s = .next ((s1.raise 0x1021 1 6 [w32 bank, w32 n, w32 big]).finish t 2 11 0)))
  ∧ (∀ (s s1 : State) (r : BitVec 16) (t : Taken), s.take r.toNat 0x21 (fun _ => true) = some (t, s1) →
      let old := slotNamed (bitsAt t.desc.w[0] 0 8)
      let new := slotNamed (bitsAt t.desc.w[0] 8 8)
      let later : State := { s1 with planner := { s1.planner with
        pending := s1.planner.pending ++ [.swap old new t.ring t.index] } }
      (s1.shut.active = true → exec (.swapProgram r) s = .next (s1.finish t 1 4 0))
      ∧ (s1.shut.active = false → s1.swapBad old new = true → exec (.swapProgram r) s = .next (s1.finish t 1 1 0))
      ∧ (s1.shut.active = false → s1.swapBad old new = false →
          (∀ o, old = some o → new = none → (s1.slotOf .a o).state = .loaded → exec (.swapProgram r) s = .next ((s1.emptyBoth o).finish t 0 0 0))
          ∧ ((∀ o, old = some o → new = none → (s1.slotOf .a o).state ≠ .loaded) → exec (.swapProgram r) s = .next later)))
  ∧ (∀ (s s1 : State) (r : BitVec 16) (t : Taken), let mask := bitsAt t.desc.w[0] 0 8
      let cs := maskChans (BitVec.ofNat 8 mask)
      (s.take r.toNat 0x41 (fun d => bitsAt d.w[0] 12 2 == 0) = some (t, s1) →
        let enBad := bitAt t.desc.w[0] 8 = true ∧ ∃ c ∈ cs, bitAt t.desc.w[1] 31 ≠ bitAt (s1.reg (Reg.chCarrier c.val)) 31
        (enBad → exec (.channelModeSettings r) s = .next (s1.finish t 2 8 0))
        ∧ (¬ enBad → ∀ st det, s1.modeStop t = some (st, det) → exec (.channelModeSettings r) s = .next (s1.finish t st det 0))
        ∧ (¬ enBad → s1.modeStop t = none →
          let trial := cs.foldl (fun u c => (u.modCh c (fun x => { x with settings := some (s1.modeSettings t c) })).withSettings c) s1
          let bad := ∃ c : Channel, s1.ch[c].enabled = true ∧ trial.modeBad c = true
          (bad → exec (.channelModeSettings r) s = .next (s1.finish t 2 8 0))
          ∧ (¬ bad → exec (.channelModeSettings r) s = .next { s1 with planner := { s1.planner with
            pending := s1.planner.pending ++ [.mode (BitVec.ofNat 8 mask) (s1.modeSettings t (cs.headD 0))] } })))
      ∧ (s.take r.toNat 0x41 (fun d => bitAt d.w[0] 12) = some (t, s1) →
        (∀ st det, s1.modeStop t = some (st, det) → exec (.channelModeResync r) s = .next (s1.finish t st det 0))
        ∧ (s1.modeStop t = none → (s1.source (cs.headD 0) = 2 ∨ s1.ch[(cs.headD 0)].running = false) → exec (.channelModeResync r) s = .next (s1.finish t 1 1 0))
        ∧ (s1.modeStop t = none → s1.source (cs.headD 0) ≠ 2 → s1.ch[(cs.headD 0)].running = true →
          exec (.channelModeResync r) s = .next (s1.commandResync (cs.headD 0) (some (t.ring, t.index)))))
      ∧ (s.take r.toNat 0x41 (fun d => bitAt d.w[0] 13) = some (t, s1) →
        let g := cs.foldl (fun (p : State × Nat) c => if s1.ch[c].enabled = false then p else ((p.1.requestRelease c).1, if (p.1.requestRelease c).2 then p.2 + 2 ^ c.val else p.2)) (s1, 0)
        let all := cs.all (fun c => s1.hasChannel c)
        (all = false → exec (.channelModeRelease r) s = .next (s1.finish t 2 6 0))
        ∧ (all = true → s1.glb.locked = false → exec (.channelModeRelease r) s = .next (s1.finish t 1 1 0))
        ∧ (all = true → s1.glb.locked = true → (g.2 = mask → exec (.channelModeRelease r) s = .next (g.1.finish t 0 0 (w32 g.2)))
          ∧ (g.2 ≠ mask → exec (.channelModeRelease r) s = .next (g.1.finish t 1 5 (w32 g.2))))))
  ∧ (∀ (s : State) (t : Taken), let cs := maskChans (BitVec.ofNat 8 (bitsAt t.desc.w[0] 0 8))
      s.modeStop t = if cs.any (fun c => !s.hasChannel c) then some (2, 6) else if s.shut.active then some (1, 4) else if cs.any (fun c => !s.ch[c].enabled) then some (1, 1) else none)

/-- A write to a register with configuration fields stores the fields, each taken to the nearest end of its range (cleanWord), until SETUP_LOCK. After it a register of RW fields still takes them, and a register whose configuration fields are all RWL keeps its value, the write being counted or reported by SETUP_WRITE_IGNORED. A write of SYNC_PINS that clears OUT_EN or changes OUT_CH ends the SYNC_OUT pulse under way; any other write stores its word and no more, but that a word of a SENSE, LINK or AUX register written after SETUP_LOCKED also travels as a pseudo-run's flit (R450). An offset the map does not name, a window the host cannot write and an unaligned offset change nothing. (22_setup_registers.md R689, 22_setup_registers.md R690, 22_setup_registers.md R695, 22_setup_registers.md R697, 11_gate_arrays.md R410, 13_lockstep.md R450.) -/
def Obligations.RegisterWrites : Prop :=
  (∀ (s : State) (offset : BitVec 20) (v : Word) (r : RegDef), let off := offset.toNat
      off % 4 = 0 → s.windowShut off = false → ownRow off = false → (off < 0x98000 ∨ 0xA0000 ≤ off) → regAt off = some r →
      (s.glb.locked = false → (r.holds .rw = true ∨ r.holds .rwl = true) → exec (.registerWrite offset v) s = .next (s.writeWord off (cleanWord off (s.reg off) v)))
      ∧ (s.glb.locked = true → r.holds .rw = true → r.holds .rwl = false →
        exec (.registerWrite offset v) s = .next (s.writeWord off (specialWord off (r.take (fun a => a == .rw) (s.reg off) v))))
      ∧ (s.glb.locked = true → r.holds .rw = false → r.holds .rwl = true → exec (.registerWrite offset v) s = .next (s.writeIgnored off v) ∧ (s.writeIgnored off v).regs = s.regs))
  ∧ (∀ (s : State) (off : Nat) (w : Word), let ends := off = Reg.syncPins ∧ (bitAt w 28 = false ∨ bitsAt w 29 3 ≠ bitsAt (s.reg off) 29 3)
      (¬ ends → s.writeWord off w = (s.setReg off w).setupSent off w) ∧ (ends → s.writeWord off w = { (s.setReg off w).setupSent off w with syncOutEnd := none }))
  ∧ (∀ (s : State) (off : Nat) (w : Word),
      (s.glb.checked = true → setupFlit off = true → s.setupSent off w = s.pseudoRun [(off, w)])
      ∧ (s.glb.checked = false ∨ setupFlit off = false → s.setupSent off w = s))
  ∧ (∀ (s : State) (offset : BitVec 20) (v : Word), (offset.toNat % 4 ≠ 0 ∨ s.windowShut offset.toNat = true ∨ regAt offset.toNat = none ∧ (offset.toNat < 0x98000 ∨ 0xA0000 ≤ offset.toNat)) →
      exec (.registerWrite offset v) s = .next s)

/-- For every state after SETUP_LOCK whose set-up registers are in canonical form, every offset and every value: after the write, every RWL field of every register of the map holds what it held before. (22_setup_registers.md R695, 22_setup_registers.md R697.) -/
def Obligations.LockedConfigurationStays : Prop :=
  ∀ (s t : State) (offset : BitVec 20) (v : Word), s.glb.locked = true → kvWf regReset s.regs = true → exec (.registerWrite offset v) s = .next t →
    ∀ (off : Nat) (r : RegDef) (f : FieldDef), regAt off = some r → f ∈ r.fields → f.access = .rwl → bitsAt (t.reg off) f.lo f.width = bitsAt (s.reg off) f.lo f.width

/-- An event on its way reaches CTRL-A while CTRL-A is on: it takes its place in the reorder stage (R679), or, past its release time, enters the queue at once and counts as late (R680). With CTRL-A off the always-on domain holds eight events and counts the ones it drops (R618). At a full queue the oldest entry of the lowest severity goes (R684). The first entry of the stage is released once its TIME + 20 µs has come: it takes the next ESEQ and enters the queue, the log, the CAN buffers and the rings; one dropped in the stage only takes its ESEQ (R681, R682). The order in which events on their way arrive is the command's operand. (21_guarantees.md R679, 21_guarantees.md R680, 21_guarantees.md R681, 21_guarantees.md R682, 21_guarantees.md R684, 18_power_ladder.md R618.) -/
def Obligations.EventQueue : Prop :=
  (∀ (s : State) (i : Nat) (e : Event) (o : Nat), s.ctrlAOn = true → (s.ev.aon ++ s.ev.raised)[i]? = some (e, o) →
      let s1 := s.modEv (fun u => { u with
        aon := u.aon.eraseIdx i
        raised := if i < s.ev.aon.length then u.raised else u.raised.eraseIdx (i - s.ev.aon.length) })
      exec (.eventArrival i) s = .next (s1.arrive e o)
      ∧ (s.ev.fill < eventPlaces → s.now ≤ e.time + reorderTicks → s1.arrive e o = s1.modEv (fun u => { u with stage := stagePut ⟨e, o, false⟩ u.stage }))
      ∧ (s.ev.fill < eventPlaces → e.time + reorderTicks < s.now → s1.arrive e o = (s1.modEv (fun u => { u with late := holdInc 0xFFFF u.late })).enterQueue e))
  ∧ (∀ (s : State) (i : Nat) (e : Event) (o : Nat), s.ctrlAOn = false → s.ev.raised[i]? = some (e, o) →
      exec (.eventArrival (s.ev.aon.length + i)) s = .next (s.modEv (fun u => { u with
        raised := u.raised.eraseIdx i
        aon := if s.ev.aon.length < 8 then u.aon ++ [(e, o)] else u.aon
        aonDropped := if s.ev.aon.length < 8 then u.aonDropped else holdInc 0xFFFF u.aonDropped })))
  ∧ (∀ (s : State) (e : Event), let low := leastSev (e.sev :: (s.ev.queue.map (fun q => q.ev.sev) ++ (s.ev.stage.filter (fun x => !x.dropped)).map (fun x => x.ev.sev)))
      s.ev.queue.any (fun q => q.ev.sev == low) = true →
      s.makeRoom e = (s.modEv (fun u => { u with
        dropped := holdInc 0xFFFFFFFF u.dropped
        queue := dropFirst (fun q => q.ev.sev == low) u.queue }), false, low))
  ∧ (∀ (s : State) (x : Staged) (xs : List Staged), s.ctrlAOn = true → s.ev.stage = x :: xs → x.ev.time + reorderTicks ≤ s.now →
      let s1 := s.modEv (fun u => { u with stage := xs })
      let n := s.ev.eseq
      (x.dropped = true → exec .eventRelease s = .next (s1.modEv (fun u => { u with eseq := (n + 1) % 2 ^ 24 })))
      ∧ (x.dropped = false → exec .eventRelease s = .next (((s1.modEv (fun u => { u with
          eseq := (n + 1) % 2 ^ 24
          queue := u.queue ++ [⟨x.ev, n, []⟩] })).logEvent x.ev n |>.canEvent x.ev (eventRecord x.ev n false)).deliverAll)))

/-- Putting an entry into the reorder stage keeps every entry and adds exactly it, and a stage in which no later entry comes before an earlier one in the order of R679 stays so. (21_guarantees.md R679.) -/
def Obligations.ReorderStageSorted : Prop :=
  ∀ (x : Staged) (l : List Staged), (stagePut x l).Perm (x :: l)
    ∧ (l.Pairwise (fun a b => b.before a = false) → (stagePut x l).Pairwise (fun a b => b.before a = false))

/-- A valid frame goes to the first enabled receive object that takes its identifier (R581): into the buffer, setting NEW and, where NEW stood, LOST, or into the shadow while the object is locked; a mirrored object's frame is committed at its start of frame. A frame no object takes, a remote frame included, counts as unmatched. A receive error counts and, but for a listener, sends an error flag. A lock selects a receive object and unlocks the one locked before, unless it is the same; an unlock, or 10 ms, clears NEW and LOST or gives the buffer the shadow. How the counters move is ISO 11898-1's, as assumption 45 takes it. The newest commit of a transmit object's group that CTRL-A has sent makes it pending with that data, and a free controller starts the object that would win arbitration. A success ends the pending state, counts and stamps the frame, sends it out (in LOOPBACK offers it to its own receive objects) and lowers TEC; a lost arbitration leaves the object pending; an error raises TEC by 8 and may end in bus-off. RECOVER starts the recovery, which ends with the counters at zero and CAN_BUS_ON. TX_FLUSH ends the pending state of every object not on the bus and marks the one on it. The status group is committed as STATE, TEC, REC, RX_UNMATCHED, EVT_DROPPED. Error counting follows assumption 45. (17_can.md R577, 17_can.md R581, 17_can.md R582, 17_can.md R583, 17_can.md R584, 17_can.md R585, 17_can.md R590, 17_can.md R586, 17_can.md R587, 17_can.md R588, 17_can.md R589, 17_can.md R592.) -/
def Obligations.CanControllers : Prop :=
  (
    (∀ (s : State) (k : Fin 4) (id : BitVec 29) (ide fdf brs esi remote : Bool) (dlc : BitVec 4) (data : List (BitVec 8)) (sof : Nat),
        s.canOn k = true → s.canMode k ≠ 2 → (s.ctl k).mode ≠ .busOff →
        let n := dlcLen fdf dlc.toNat
        let head := canHead id.toNat ide fdf brs
        let ctl := packFields [(0, n), (7, b2n esi), (8, dlc.toNat)]
        exec (.canFrameReceived k id ide fdf brs esi remote dlc data sof) s = .next ((s.offerFrame k head ctl (fitBytes n data) remote sof).recDown k)
        ∧ (∀ j, remote = false → s.objectFor k (bitsAt head 0 29) (bitAt head 29) = some j →
          s.offerFrame k head ctl (fitBytes n data) remote sof = s.storeFrame k j ([head, ctl] ++ timeWords sof ++ dataWords (fitBytes n data)) sof)
        ∧ ((remote = true ∨ s.objectFor k (bitsAt head 0 29) (bitAt head 29) = none) →
          s.offerFrame k head ctl (fitBytes n data) remote sof = s.modCan k (fun c => { c with unmatched := holdInc 0xFFFF c.unmatched })))
    ∧ (∀ (s : State) (k : Fin 4) (j : Nat) (ws : List Word) (sof : Nat), let o := (s.ctl k).obj j
        let n := (o.count + 1) % 2 ^ 32
        ((∀ l, (s.ctl k).locked = some l → l.1 ≠ j) → s.objMirror k j = false →
          s.storeFrame k j ws sof = s.modObj k j (fun x => { x with
            count := n
            buf := withLost (ws ++ [w32 n]) (o.lost || o.new)
            new := true
            lost := o.lost || o.new }))
        ∧ (∀ t, (s.ctl k).locked = some (j, t) → s.objMirror k j = false →
          s.storeFrame k j ws sof = s.modObj k j (fun x => { x with
            count := n
            shadow := some (withLost (ws ++ [w32 n]) o.shadow.isSome) }))
        ∧ ((∀ l, (s.ctl k).locked = some l → l.1 ≠ j) → s.objMirror k j = true →
          s.storeFrame k j ws sof = (s.modObj k j (fun x => { x with
            count := n
            buf := withLost (ws ++ [w32 n]) (o.lost || o.new)
            new := true
            lost := o.lost || o.new })).hwCommit (0x10 + k.val) sof (numbered (s.objBase k j) (withLost (ws ++ [w32 n]) (o.lost || o.new)))))
    ∧ (∀ (s : State) (k : Fin 4) (dominant : Bool), s.canOn k = true → s.canMode k ≠ 2 → (s.ctl k).mode ≠ .busOff →
        exec (.canReceiveError k dominant) s = .next (((if s.canMode k = 1 then s else s.emit (.canError k.val)).modCan k (fun c => { c with
          rec_ := min 255 (c.rec_ + if dominant then 8 else 1) })).confine k))
    ∧ (∀ (s : State) (k : Fin 4) (j : Fin 1024), let sel := fun (u : State) => u.setReg (Reg.canObjSel k.val) (packFields [(31, b2n (s.objKind k j.val == 0)), (0, j.val)])
        (s.objKind k j.val = 0 → (∀ l, (s.ctl k).locked = some l → l.1 ≠ j.val) →
          exec (.objectLock k j) s = .next ((sel (s.canUnlock k)).modCan k (fun c => { c with locked := some (j.val, s.now) })))
        ∧ (∀ t, (s.ctl k).locked = some (j.val, t) → exec (.objectLock k j) s = .next (sel s))
        ∧ (s.objKind k j.val ≠ 0 → (s.ctl k).locked = none → exec (.objectLock k j) s = .next (sel s))
        ∧ exec (.objectUnlock k j) s = .next ((s.canUnlock k).setReg (Reg.canObjSel k.val) (w32 j.val)))
    ∧ (∀ (s : State) (k : Fin 4) (j t : Nat), (s.ctl k).locked = some (j, t) → t + 10 * msTicks ≤ s.now →
        exec (.canLockTimeout k) s = .next (((s.canUnlock k).setReg (Reg.canObjSel k.val) (w32 j)).raise 0x9104 k.val 4 [w32 j])
        ∧ s.canUnlock k = (s.modCan k (fun c => { c with locked := none })).modObj k j (fun o =>
          match o.shadow with
          | some ws => { o with
            buf := ws
            new := true
            lost := bitAt (ws.getD 1 0) 12
            shadow := none }
          | none => { o with
            new := false
            lost := false })))
  ∧
  (
    (∀ (s : State) (k : Fin 4) (j : Fin 1024) (b stamp : Nat) (ws : List Word), s.objOn k j.val = true → s.objKind k j.val = 1 → s.objMirror k j.val = true → s.txOwned k j.val = true →
        s.canSent.find? (fun p => p.1 == s.objBase k j.val) = some (b, stamp, ws) →
        exec (.transmitCommit k j) s = .next ((State.modObj { s with canSent := s.canSent.filter (fun q => q.1 != s.objBase k j.val) } k j.val (fun o => { o with
          pending := some ws
          taken := some stamp })).startTx k))
    ∧ (∀ (s : State) (k : Fin 4) (j : Fin 1024), s.canSent.find? (fun p => p.1 == s.objBase k j.val) = none → exec (.transmitCommit k j) s = .next s)
    ∧ (∀ (s : State) (k : Fin 4) (a : CanAttempt) (sof : Nat), s.canOn k = true → (s.ctl k).onBus = some a →
        let s0 := (s.measureTdc k (w32 a.id)).modCan k (fun c => { c with onBus := none })
        (s.canMode k ≠ 2 → exec (.transmissionEnd k 0 sof) s =
          .next (((((s0.emit (.can k.val a.id a.data)).txDone k a sof).modCan k (fun c => { c with tec := c.tec - 1 })).confine k).startTx k))
        ∧ (∀ dlc, s.canMode k = 2 → (List.range 16).find? (fun i => dlcLen (bitAt (w32 a.id) 30) i == a.data.length) = some dlc →
          exec (.transmissionEnd k 0 sof) s =
          .next (((((s0.offerFrame k (w32 a.id) (packFields [(0, a.data.length), (8, dlc)]) a.data false sof).txDone k a sof).modCan k (fun c => { c with tec := c.tec - 1 })).confine k).startTx k))
        ∧ exec (.transmissionEnd k 1 sof) s = .next ((s0.txFlushed k a).startTx k)
        ∧ exec (.transmissionEnd k 2 sof) s = .next (((((s0.emit (.canError k.val)).txFlushed k a).modCan k (fun c => { c with tec := c.tec + 8 })).confine k).startTx k)
        ∧ exec (.transmissionEnd k 3 sof) s = .next ((s0.txFlushed k a).startTx k))
    ∧ (∀ (s : State) (k : Fin 4), (s.ctl k).mode = .busOff →
        exec (.recover k) s = .next (s.modCan k (fun c => { c with recovering := true }))
        ∧ ((s.ctl k).recovering = true → exec (.canBusOn k) s = .next ((((s.modCan k (fun c => { c with
            mode := .active
            tec := 0
            rec_ := 0
            recovering := false })).raise 0x9102 k.val 3 []).canStatusCommit k).startTx k)))
    ∧ (∀ (s : State) (k : Fin 4), (s.ctl k).onBus = none → exec (.txFlush k) s = .next (s.modCan k (fun c => { c with
        objs := c.objs.filterMap (fun p => if ({ p.2 with pending := none } : CanObj) = {} then none else some (p.1, { p.2 with pending := none }))
        records := [] })))
    ∧ (∀ (s : State) (k : Fin 4) (a : CanAttempt), (s.ctl k).onBus = some a → exec (.txFlush k) s = .next (s.modCan k (fun c => { c with
        objs := c.objs.filterMap (fun p => if some p.1 = some a.obj then some p
          else if ({ p.2 with pending := none } : CanObj) = {} then none else some (p.1, { p.2 with pending := none }))
        records := if s.objKind k a.obj == 2 then c.records.take 1 else []
        onBus := c.onBus.map (fun a => { a with flushed := true }) })))
    ∧ (∀ (s : State) (k : Fin 4), bitAt (s.reg (Reg.canCtrl k.val)) 31 = true → s.glb.checked = true →
        exec (.canStatusCommit k) s = .next ((s.hwCommit (0x10 + k.val) s.now (numbered (mirrorBase (508 + k.val))
          [w32 (s.canState k), w32 (min 255 (s.ctl k).tec), w32 (min 255 (s.ctl k).rec_), w32 (s.ctl k).unmatched, w32 (s.ctl k).evtDropped])))))

/-- STORE_RECORD starts the write of what judgeRecord lets through and else ends with its status, raising UPDATE_REFUSED with the reason of R665; the user section of kind 1 goes in front of the factory section in force. READ_RECORD writes header and content of the bank in force from an offset, or ends with the status of the first check that fails. IDENTITY_CHALLENGE writes the signed response. A running write that ends puts its bank in force with the next SEQ and completes its request, and the next write starts; a firmware write goes on trial, or is aborted where a reason of R665 holds meanwhile; a write one of whose links has failed ends without effect; the record of a safety request completes that request. The buffered events enter the log, which is written. (20_store_update_identity.md R638, 20_store_update_identity.md R639, 20_store_update_identity.md R642, 20_store_update_identity.md R644, 20_store_update_identity.md R648, 20_store_update_identity.md R651, 20_store_update_identity.md R661, 20_store_update_identity.md R665, 20_store_update_identity.md R666.) -/
def Obligations.StoreRecords : Prop :=
  (∀ (s s1 : State) (r : BitVec 16) (t : Taken) (data : Option (List (BitVec 8))) (bs : List Byte), s.take r.toNat 0x50 (fun _ => true) = some (t, s1) → dataOf t data = some bs → t.desc.w[1] = 0 →
      let kind := t.desc.w[0].toNat
      (∀ content, s1.judgeRecord kind bs = .ok content → exec (.storeRecord r data) s = .next (s1.startRecord kind content (.ring t.ring t.index)))
      ∧ (∀ st det x, s1.judgeRecord kind bs = .error (st, det, some x) → exec (.storeRecord r data) s = .next ((s1.raise 0xA201 1 6 [w32 x]).finish t st det 0))
      ∧ (∀ st det, s1.judgeRecord kind bs = .error (st, det, none) → exec (.storeRecord r data) s = .next (s1.finish t st det 0)))
  ∧ (∀ (s : State) (bs : List Byte), s.kindBusy 1 = false → s.storeUp = true → (s.lifecycle = 0 ∨ s.lifecycle = 1 ∨ s.lifecycle = 3) → bs.length = 1856 → s.judgeRecord 1 bs = .ok (s.calContent bs))
  ∧ (∀ (s : State) (k : Nat) (bs : List Byte), (2 ≤ k ∧ k ≤ 6 → s.judgeRecord k bs = .error (4, 4, none)) ∧ (k = 0 ∨ 7 < k → s.judgeRecord k bs = .error (2, 6, none)))
  ∧ (∀ (s s1 : State) (r : BitVec 16) (t : Taken), s.take r.toNat 0x51 (fun _ => true) = some (t, s1) → let k := t.desc.w[0].toNat
      let w1 := t.desc.w[1].toNat
      (∀ b, 1 ≤ k → k ≤ 7 → k ≠ 6 → w1 % 256 = 0 → s1.storeUp = true → s1.inForce k = some b →
        let bytes := (((s1.bank k b).bytes k).take 32 ++ (((s1.bank k b).bytes k).drop 32).drop (w1 / 256 * 256)).take t.desc.length
        exec (.readRecord r) s = .next ((s1.emit (.hostWrite t.desc.addr bytes)).finish t 0 0 (w32 bytes.length)))
      ∧ (k = 6 → exec (.readRecord r) s = .next (s1.finish t 4 4 0))
      ∧ (1 ≤ k → k ≤ 7 → k ≠ 6 → w1 % 256 = 0 → s1.storeUp = true → s1.inForce k = none → exec (.readRecord r) s = .next (s1.finish t 1 1 0)))
  ∧ (∀ (s s1 : State) (r : BitVec 16) (t : Taken), s.take r.toNat 0x70 (fun _ => true) = some (t, s1) →
      (t.desc.length = 1024 → exec (.identityChallenge r) s = .next ((s1.emit (.hostWrite t.desc.addr (s1.identityResponse ((t.desc.w.toList.take 8).flatMap (fun w => leBytes 4 w.toNat))))).finish t 0 0 0))
      ∧ (t.desc.length ≠ 1024 → exec (.identityChallenge r) s = .next (s1.finish t 2 4 0)))
  ∧ (∀ (s : State) (w : BankWrite), s.store.write = some w → s.writeCut w = true → exec .bankWriteDone s = .next (s.failWrite w).nextWrite)
  ∧ (∀ (s : State) (w : BankWrite), s.store.write = some w → s.writeCut w = false → let s1 := s.abortWrite.putBank w
      (w.kind ≠ 6 → w.kind ≠ 7 → exec .bankWriteDone s = .next ((s1.answerBy w.by_ 0 0 (s.nextSeq w.kind)).nextWrite))
      ∧ (w.kind = 7 → s.updateHeld = none → exec .bankWriteDone s = .next (((s1.fwWritten w.bank).answerBy w.by_ 0 0 (s.nextSeq 7)).nextWrite))
      ∧ (∀ x, w.kind = 7 → s.updateHeld = some x → exec .bankWriteDone s =
          .next (((((s.abortWrite.modTahr (fun t => { t with updating := false })).raise 0xA201 1 6 [w32 x]).answerBy w.by_ 1 1 0)).nextWrite))
      ∧ (∀ b c, w.kind = 6 → s.store.safetyDone = some (b, c) →
          exec .bankWriteDone s = .next (((s1.modStore (fun x => { x with safetyDone := none })).answerBy b c.status c.detail c.result.toNat).nextWrite)))
  ∧ (∀ s : State, s.pwr.rung ≤ 3 → s.storeUp = true → s.store.evlog.buffer ≠ [] → ∃ t, exec .eventLogFlush s = .next t
      ∧ t.store.evlog.buffer = [] ∧ t.store.evlog.count = (s.store.evlog.count + s.store.evlog.buffer.length) % 2 ^ 32)

/-- For every kind but the firmware slots and every content that fits its bank (for kind 4, with this device's ID): after steps 3 to 5 of R642 at the target, the bank in force is that target, it holds the content, and its header passes R641, whatever the two banks held before. (20_store_update_identity.md R640, 20_store_update_identity.md R641, 20_store_update_identity.md R642.) -/
def Obligations.WrittenBankComesIntoForce : Prop :=
  ∀ (s : State) (k : Nat) (content : List Byte) (by_ : WriteBy), 1 ≤ k → k ≤ 6 → content.length ≤ bankSize k - 32 → (k = 4 → fieldLe content 0 8 = Config.deviceId.toNat) →
    let t := s.putBank ⟨k, s.target k, content, by_⟩
    t.inForce k = some (s.target k) ∧ (t.bank k (s.target k)).content = content ∧ (t.bank k (s.target k)).valid k = true

/-- A lifecycle request with its 160 bytes, outside a shutdown, while no safety request runs and CTRL-A, Tahr and STORE reach each other, answers what lifeRequest gives and completes when its change-log record is written (in RETIRED, where nothing is written, at once). The request is refused, in this order, where the state or BOUND does not allow it (1), in lockout (0x81), where the credential does not hold (0x80, counted), where a channel is not in STO (0x82); else the operation acts: PHASE, BIND with OWNER_HASH, BIND_COUNT and the IDs identified since the cold start, UNBIND, the ID of a port, OWNER_LOCK, LC_1. An operation outside 1 to 7 is refused with RESULT byte 2. The nonce is renewed at every credential check. The reads of DEV_ID_LO and LC_NONCE_LO latch the high word. The order of the checks is the model's choice (assumption 47). (20_store_update_identity.md R652, 20_store_update_identity.md R653, 20_store_update_identity.md R655, 20_store_update_identity.md R656, 20_store_update_identity.md R657, 20_store_update_identity.md R658, 20_store_update_identity.md R659, 22_setup_registers.md R693.) -/
def Obligations.LifecycleRequests : Prop :=
  (∀ (s s1 : State) (ring : BitVec 16) (t : Taken) (data : Option (List (BitVec 8))) (b : List Byte) (o : Fin 7), let op := o.val + 1
      s.take ring.toNat 0x40 (fun d => d.w[0] == 3 && (d.w[1].toNat == op || !within d.w[1].toNat 1 7)) = some (t, s1) → t.desc.w[1].toNat = op → s1.shut.active = false → t.desc.length = 160 →
      t.desc.zeroFrom 3 = true → dataOf t data = some b → s1.safetyBusy = false → s1.tahrReached true = true → (op = 5 → t.desc.w[2].toNat < 6 * s1.nChannels) →
      let a := s1.lifeRequest op t.desc.w[2].toNat 0 (some b) []
      let done := if s1.lifecycle = 4 then a.1.finish t a.2.1 a.2.2.1 (w32 a.2.2.2)
        else a.1.safetyStore (.ring t.ring t.index) ⟨t.ring, t.index, a.2.1, a.2.2.1, w32 a.2.2.2⟩
      (op = 1 → exec (.enterField ring data) s = .next done) ∧ (op = 2 → exec (.enterMaintain ring data) s = .next done)
      ∧ (op = 3 → exec (.bind ring data) s = .next done) ∧ (op = 4 → exec (.unbind ring data) s = .next done)
      ∧ (op = 5 → exec (.ackSatellite ring data) s = .next done) ∧ (op = 6 → exec (.ownerLock ring data) s = .next done)
      ∧ (op = 7 → exec (.lifecycleRetire ring data) s = .next done))
  ∧ (∀ (s : State) (op arg : Nat) (b : List Byte), 1 ≤ op → op ≤ 7 → (op = 5 → arg < 6 * s.nChannels) →
      let good := s.credentialOk op arg b
      let v := s.renewNonce
      (s.lifeAllowed op = false → s.lifeRequest op arg 0 (some b) [] = s.lifeRefuse op arg 1 0 1)
      ∧ (s.lifeAllowed op = true → s.tahr.lockout.isSome = true → s.lifeRequest op arg 0 (some b) [] = s.lifeRefuse op arg 0x81 0 6)
      ∧ (s.lifeAllowed op = true → s.tahr.lockout = none → v.store.nonce = Config.free 64 s.freeCtr
        ∧ s.lifeRequest op arg 0 (some b) [] = (
          if good = false then v.countWrong.lifeRefuse op arg 0x80 0 6
          else if v.lifeSto op arg = false then v.lifeRefuse op arg 0x82 0 6
          else
            let s3 := (v.modTahr (fun t => { t with pwFails := 0 })).lifeAct op arg ((b.drop 32).take 64)
            let s4 := s3.logChange (imageSerial s.tahr.image).toNat (0x10 + op) 0 (imageCrc s.tahr.image).toNat arg 0
            let s5 := if s4.lifecycle = s.lifecycle then s4 else s4.raise 0xA301 3 8 [w32 s.lifecycle, w32 s4.lifecycle, w32 op]
            (if op = 7 then s5 else s5.writeKind 4, 0, 0, s5.lifecycle))))
  ∧ (∀ (s : State) (op arg origin : Nat) (cred : Option (List Byte)) (key : List Byte), op = 0 ∨ 7 < op →
      s.lifeRequest op arg origin cred key = s.lifeRefuse op arg 2 origin 2)
  ∧ (∀ (s : State) (arg : Nat) (key : List Byte),
      (s.lifeAct 1 arg key).store.ident.phase = 1 ∧ (s.lifeAct 2 arg key).store.ident.phase = 2
      ∧ ((s.lifeAct 3 arg key).store.ident.bound = true ∧ (s.lifeAct 3 arg key).store.ident.ownerHash = sha256 key
        ∧ (s.lifeAct 3 arg key).store.ident.bindCount = (s.store.ident.bindCount + 1) % 2 ^ 32
        ∧ ∀ t : Port, (s.lifeAct 3 arg key).store.ident.satIds[t] = if s.ports[t].identified then s.ports[t].satId else 0)
      ∧ ((s.lifeAct 4 arg key).store.ident.bound = false ∧ (s.lifeAct 4 arg key).store.ident.ownerHash = List.replicate 32 0)
      ∧ (∀ t : Port, (s.lifeAct 5 t.val key).store.ident.satIds[t] = s.ports[t].satId)
      ∧ (s.lifeAct 6 arg key).store.ident.ownerLock = arg.testBit 0
      ∧ (s.lifeAct 7 arg key).store.lc1 = true)
  ∧ (∀ s : State, exec .devIdLo s = .next ((s.modStore (fun x => { x with idHi := w32 (Config.deviceId.toNat / 2 ^ 32) })).emit (.regRead Reg.devIdLo (w32 Config.deviceId.toNat)))
      ∧ exec .lcNonceLo s = .next ((s.modStore (fun x => { x with nonceHi := w32 (s.store.nonce.toNat / 2 ^ 32) })).emit (.regRead Reg.lcNonceLo (w32 s.store.nonce.toNat))))

/-- A frame that is not of R662 is dropped and counted. HELLO opens a handshake with a CHALLENGE, or is ERROR 1 during a session; AUTH opens a session, OWNER where the key hashes to OWNER_HASH, or counts as a failure and raises SVC_AUTH_FAIL; CLOSE and 30 s of silence end it. A REQUEST with the next SEQ of the session, by an OWNER or of a kind a GUEST may make, is executed: READ_SIGNALS, READ_RECORD, a write in three parts, a lifecycle request with the session as credential, IDENTITY; a repeated SEQ gets the last RESPONSE again, any other ERROR 2. The nonce, and the bytes of a write no WRITE_DATA gives, are free values (assumption 5). (16_host_rings.md R555, 20_store_update_identity.md R639, 20_store_update_identity.md R662, 20_store_update_identity.md R663, 14_functional_safety.md R501, 14_functional_safety.md R504.) -/
def Obligations.ServicePort : Prop :=
  (∀ (s : State) (bs : List Byte), s.svcOpen = true → parseSvc bs = none → let t := s.modSvc (fun v => { v with crcErrors := holdInc 0xFFFF v.crcErrors })
      exec (.hello bs) s = .next t ∧ exec (.auth bs) s = .next t ∧ exec (.close bs) s = .next t ∧ exec (.identity bs) s = .next t)
  ∧ (∀ (s : State) (bs : List Byte) (x : SvcFrame), s.svcOpen = true → parseSvc bs = some x →
      (x.type = 0x01 → s.store.svc.session.isSome = true → exec (.hello bs) s = .next (s.svcError x 1))
      ∧ (x.type = 0x01 → s.store.svc.session = none → x.payload.length = 64 →
        let nonce := leBytes 32 (Config.free 256 s.freeCtr).toNat
        let id := leBytes 8 Config.deviceId.toNat
        exec (.hello bs) s = .next ((({ s with freeCtr := s.freeCtr + 1 } : State).modSvc (fun v => { v with hello := some (x.payload, nonce, s.now) })).svcSend 0x02 0 x.seq
          (id ++ nonce ++ fitBytes 64 (Config.deviceSign (id ++ nonce ++ x.payload)))))
      ∧ (∀ key nonce h, x.type = 0x03 → s.store.svc.hello = some (key, nonce, h) →
        let s1 := s.modSvc (fun v => { v with hello := none })
        let n := if s.store.svc.lastNumber % 2 ^ 16 = 0xFFFF then 1 else s.store.svc.lastNumber + 1
        let owner := s.store.ident.bound && sha256 key == s.store.ident.ownerHash
        exec (.auth bs) s = .next (
          if s.tahr.lockout.isSome = true then s1.raise 0xA402 6 8 [w32 s1.tahr.pwFails]
          else if ecdsaVerify key (nonce ++ leBytes 8 Config.deviceId.toNat ++ key) (x.payload.take 64) = false then s1.countWrong.raise 0xA402 6 8 [w32 s1.countWrong.tahr.pwFails]
          else ((s1.modSvc (fun v => { v with
            session := some { number := n, owner := owner, clientKey := key, lastAt := s.now }
            lastNumber := n
            waiting := none })).raise 0xA401 6 3 [w32 (b2n owner), 0]).svcSend 0x04 n x.seq (leBytes 2 n ++ leBytes 1 (b2n owner))))
      ∧ (∀ y, x.type = 0x1F → s.store.svc.session = some y → x.session = y.number → exec (.close bs) s = .next (s.endSession y 1)))
  ∧ (∀ (s : State) (y : SvcSession), s.store.svc.session = some y → y.lastAt + 30 * sTicks ≤ s.now → exec .sessionTimeout s = .next (s.endSession y 2))
  ∧ (∀ (s : State) (bs : List Byte) (x : SvcFrame) (y : SvcSession) (op : Fin 7), s.svcOpen = true → parseSvc bs = some x → x.type = 0x10 → s.store.svc.session = some y → x.session = y.number →
      fieldLe x.payload 0 1 = op.val + 1 → s.store.svc.waiting = none →
      let args := x.payload.drop 1
      let y1 : SvcSession := { y with lastAt := s.now }
      let y2 : SvcSession := { y1 with lastSeq := x.seq }
      let u := s.modSvc (fun v => { v with session := some y1 })
      let t := u.modSvc (fun v => { v with session := some y2, lastSeq := x.seq })
      let answers := fun (v : State) => match op with
        | 0 => exec (.svcReadSignals bs) s = .next v
        | 1 => exec (.svcReadRecord bs) s = .next v
        | 2 => exec (.writeBegin bs) s = .next v
        | 3 => exec (.writeData bs) s = .next v
        | 4 => exec (.writeEnd bs) s = .next v
        | 5 => exec (.lifecycle bs) s = .next v
        | 6 => exec (.identity bs) s = .next v
      (x.seq = y.lastSeq → y.lastSeq ≠ 0 → answers (u.svcOut y.lastResponse))
      ∧ (x.seq ≠ y.lastSeq → x.seq ≠ y.lastSeq + 1 → answers (u.svcError x 2))
      ∧ (y.owner = true → x.seq = y.lastSeq + 1 → s.store.recovery = false →
        (∀ vs v, op = 0 → 1 ≤ fieldLe args 4 4 → fieldLe args 4 4 ≤ 360 → fieldLe args 0 4 + fieldLe args 4 4 ≤ 2 ^ 18 → t.hostRead (fieldLe args 0 4) (fieldLe args 4 4) = some (vs, v) →
          answers (v.svcRespond y2 x.seq 0 0 (fieldLe args 4 4) (vs.flatMap (fun w => leBytes 4 w.toNat))))
        ∧ (∀ rec v, op = 1 → fieldLe args 8 4 ≤ 1400 → t.readRecord (fieldLe args 0 4) (fieldLe args 4 4) (fieldLe args 8 4) = .ok (rec, v) → answers (v.svcRespond y2 x.seq 0 0 rec.length rec))
        ∧ (op = 2 → y.writing = none → fieldLe args 0 4 = 0 → t.beginBad 0 (fieldLe args 4 4) = none →
          answers (({ t with freeCtr := t.freeCtr + 1 } : State).svcRespond { y2 with writing := some (0, fieldLe args 4 4, leBytes (fieldLe args 4 4) (Config.free (8 * fieldLe args 4 4) t.freeCtr).toNat) } x.seq 0 0 0 []))
        ∧ (∀ kind total buf, let off := fieldLe args 0 4
          let ds := args.drop 4
          op = 3 → y.writing = some (kind, total, buf) → ds.length ≤ 1400 → off + ds.length ≤ total →
          answers (t.svcRespond { y2 with writing := some (kind, total, buf.take off ++ ds ++ buf.drop (off + ds.length)) } x.seq 0 0 0 []))
        ∧ (∀ total buf content, let y3 : SvcSession := { y2 with writing := none }
          let v := t.modSvc (fun z => { z with session := some y3 })
          op = 4 → y.writing = some (1, total, buf) → v.judgeRecord 1 buf = .ok content → answers ((v.svcWait y3 x.seq).startRecord 1 content .service))
        ∧ (∀ v r, op = 5 → s.shut.active = false → s.safetyBusy = false → s.tahrReached true = true → s.lifecycle ≠ 4 → t.lifeRequest (fieldLe args 0 4) (fieldLe args 4 4) 1 none y.clientKey = (v, 0, 0, r) →
          answers ((v.svcWait y2 x.seq).safetyStore .service ⟨noRing, 0, 0, 0, w32 r⟩))
        ∧ (op = 6 → answers (t.svcRespond y2 x.seq 0 0 0 (t.identityResponse (args.take 32))))))
  -- covers: svcReadSignals
  -- covers: svcReadRecord
  -- covers: writeBegin
  -- covers: writeData
  -- covers: writeEnd
  -- covers: lifecycle

/-- At reset every sparse memory with an address space of the spec (the set-up registers and their copy on CTRL-B, the sample memories of CTRL-A and CTRL-B, the signal board, its error masks, table and program memory of CTRL-A and CTRL-B) is in canonical form: every register reads its reset value and every word that nothing has written reads zero (assumption 3). (22_setup_registers.md R694, 22_setup_registers.md R689.) -/
def Obligations.MemoriesStartCanonical : Prop :=
  State.reset.allMemWf = true ∧ ∀ off : Nat, State.reset.reg off = regReset off

/-- For every state whose set-up registers, whose copy of them on CTRL-B, whose two sample memories and, where a ladder image is held, the registers of that image are in canonical form (keys strictly rising, no entry equal to what an unlisted one reads as), and every command at the front of the queue or none: where the step answers a next state, they are in canonical form there too. So equal memories stay equal data through every run. (22_setup_registers.md R688, 22_setup_registers.md R694, 22_setup_registers.md R695, 18_power_ladder.md R609.) -/
def Obligations.MemoriesStayCanonical : Prop :=
  ∀ s t : State, s.memWf = true → step s = .next t → t.memWf = true

/-- For every state and every command with every operand, exec answers a next state: no command is refused, no data ends a run, and a command that arrives at a die, a channel or an interface the part lacks passes without an effect. That such a command passes, where the rules say only that accesses to an absent die's registers are ignored (R2), is the model's reading (assumption 4). (00_scope.md R1, 00_scope.md R2, assumption 4.) -/
def Obligations.EveryCommandCompletes : Prop :=
  ∀ (s : State) (c : Instr), ∃ t, exec c s = .next t
end

