-- ==== Sys2Proof/Laws/Bytes.lean ====
section
/-! SUPPORT. Byte strings and CRC-32C: what was written reads back, and a service frame parses as what it was built from. -/

namespace Sys2Proof.Machine

/-- One bit keeps the CRC-32C register within 32 bits. -/
theorem crcStepR_lt (c : Nat) (b : Bool) (h : c < 2 ^ 32) : crcStepR 0x82F63B78 c b < 2 ^ 32 := by
  simp only [crcStepR]; split
  · exact Nat.xor_lt_two_pow (by omega) (by decide)
  · omega
/-- So do many bits. -/
theorem crcFold_lt (bs : List Bool) (c : Nat) (h : c < 2 ^ 32) : bs.foldl (crcStepR 0x82F63B78) c < 2 ^ 32 := by
  induction bs generalizing c with
  | nil => exact h
  | cons b bs ih => exact ih _ (crcStepR_lt c b h)
/-- A CRC-32C has 32 bits. -/
theorem crc32c_lt (bs : List Byte) : crc32c bs < 2 ^ 32 := Nat.xor_lt_two_pow (crcFold_lt _ _ (by decide)) (by decide)
/-- One byte read back. -/
theorem leNat_leBytes1 (v : Nat) (h : v < 2 ^ 8) : leNat (leBytes 1 v) = v := by
  simp [leBytes, leNat, List.range_succ]; omega
/-- Two little-endian bytes read back. -/
theorem leNat_leBytes2 (v : Nat) (h : v < 2 ^ 16) : leNat (leBytes 2 v) = v := by
  simp [leBytes, leNat, List.range_succ]; omega
/-- Four little-endian bytes read back. -/
theorem leNat_leBytes4 (v : Nat) (h : v < 2 ^ 32) : leNat (leBytes 4 v) = v := by
  simp [leBytes, leNat, List.range_succ]; omega
/-- `leBytes n` gives n bytes. -/
theorem leBytes_length (n v : Nat) : (leBytes n v).length = n := by simp [leBytes]
/-- A service frame that the port builds is one it accepts, with the fields it was built from (R662). -/
theorem parseSvc_svcFrame (type session seq : Nat) (p : List Byte) (h1 : type < 2 ^ 8) (h2 : session < 2 ^ 16) (h3 : seq < 2 ^ 32) (h4 : p.length ≤ 1440) :
    parseSvc (svcFrame type session seq p) = some ⟨type, session, seq, p⟩ := by
  have hb : ∀ body : List Byte, body = [1, BitVec.ofNat 8 type] ++ leBytes 2 session ++ leBytes 4 seq ++ leBytes 2 p.length ++ [0, 0] ++ p →
      body.length = 12 + p.length ∧ fieldLe (body ++ leBytes 4 (crc32c body)) 0 1 = 1 ∧ fieldLe (body ++ leBytes 4 (crc32c body)) 1 1 = type
      ∧ fieldLe (body ++ leBytes 4 (crc32c body)) 2 2 = session ∧ fieldLe (body ++ leBytes 4 (crc32c body)) 4 4 = seq
      ∧ fieldLe (body ++ leBytes 4 (crc32c body)) 8 2 = p.length ∧ fieldLe (body ++ leBytes 4 (crc32c body)) 10 2 = 0
      ∧ ((body ++ leBytes 4 (crc32c body)).drop 12).take p.length = p := by
    intro body hbody
    generalize crc32c body = c
    subst hbody
    refine ⟨?_, ?_, ?_, ?_, ?_, ?_, ?_, ?_⟩
    · simp [leBytes_length]; omega
    all_goals simp [fieldLe, leBytes, leNat, List.range_succ]
    all_goals omega
  obtain ⟨b1, b2, b3, b4, b5, b6, b7, b8⟩ := hb _ rfl
  generalize hB : [1, BitVec.ofNat 8 type] ++ leBytes 2 session ++ leBytes 4 seq ++ leBytes 2 p.length ++ [0, 0] ++ p = body at *
  have hs : svcFrame type session seq p = body ++ leBytes 4 (crc32c body) := by simp only [svcFrame, hB]
  have hl : (body ++ leBytes 4 (crc32c body)).length = 16 + p.length := by simp [leBytes_length, b1]; omega
  have ht : (body ++ leBytes 4 (crc32c body)).take (16 + p.length - 4) = body := by
    rw [show 16 + p.length - 4 = body.length by omega]; simp
  have hc : fieldLe (body ++ leBytes 4 (crc32c body)) (16 + p.length - 4) 4 = crc32c body := by
    rw [show 16 + p.length - 4 = body.length by omega]
    simp only [fieldLe, List.drop_left']
    rw [List.take_of_length_le (by simp [leBytes_length]), leNat_leBytes4 _ (crc32c_lt body)]
  have hp : 16 + p.length - 16 = p.length := by omega
  rw [hs]
  simp only [parseSvc, hl, ht, hc, b2, b3, b4, b5, b6, b7, hp, b8]
  rw [if_neg (by omega)]

end Sys2Proof.Machine
end

