-- ==== Sys2Proof/Laws/Kv.lean ====
section
/-! SUPPORT. Sparse memories: the canonical form says that the keys rise strictly and no entry holds its default; every write keeps it, and a read after a write gives what was written. -/

namespace Sys2Proof.Machine

/-- The canonical form as one order of the keys and one condition on each entry. -/
theorem kvWf_iff {α : Type} [DecidableEq α] (d : Nat → α) (m : Kv α) :
    kvWf d m = true ↔ m.Pairwise (fun p q => p.1 < q.1) ∧ ∀ p ∈ m, p.2 ≠ d p.1 := by
  induction m with
  | nil => simp [kvWf]
  | cons p m ih =>
    cases m with
    | nil => simp [kvWf]
    | cons q m =>
      have e : kvWf d (p :: q :: m) = (decide (p.2 ≠ d p.1) && decide (p.1 < q.1) && kvWf d (q :: m)) := rfl
      rw [e, Bool.and_eq_true, Bool.and_eq_true, ih, decide_eq_true_eq, decide_eq_true_eq]
      constructor
      · rintro ⟨⟨h1, h2⟩, h3, h4⟩
        refine ⟨List.pairwise_cons.2 ⟨fun r hr => ?_, h3⟩, fun r hr => ?_⟩
        · rcases List.mem_cons.1 hr with rfl | hr
          · exact h2
          · exact Nat.lt_trans h2 ((List.pairwise_cons.1 h3).1 r hr)
        · rcases List.mem_cons.1 hr with rfl | hr
          · exact h1
          · exact h4 r hr
      · rintro ⟨h1, h2⟩
        exact ⟨⟨h2 p (by simp), (List.pairwise_cons.1 h1).1 q (by simp)⟩, (List.pairwise_cons.1 h1).2, fun r hr => h2 r (List.mem_cons_of_mem _ hr)⟩

/-- Entries after a listing write: the new one, and old ones of other keys. -/
theorem mem_kvPut {α : Type} {m : Kv α} {k : Nat} {v : α} {p : Nat × α} (h : p ∈ kvPut m k v) : p = (k, v) ∨ p ∈ m := by
  induction m with
  | nil => simp only [kvPut, List.mem_singleton] at h; exact Or.inl h
  | cons q m ih =>
    obtain ⟨k', v'⟩ := q
    simp only [kvPut] at h
    split at h
    · rcases List.mem_cons.1 h with h | h
      · exact Or.inl h
      · exact Or.inr h
    · split at h
      · rcases List.mem_cons.1 h with h | h
        · exact Or.inl h
        · exact Or.inr (List.mem_cons_of_mem _ h)
      · rcases List.mem_cons.1 h with h | h
        · exact Or.inr (h ▸ List.mem_cons_self)
        · rcases ih h with h | h
          · exact Or.inl h
          · exact Or.inr (List.mem_cons_of_mem _ h)

/-- Entries after a removal are old ones. -/
theorem mem_kvDel {α : Type} {m : Kv α} {k : Nat} {p : Nat × α} (h : p ∈ kvDel m k) : p ∈ m := by
  induction m with
  | nil => exact h
  | cons q m ih =>
    obtain ⟨k', v'⟩ := q
    simp only [kvDel] at h
    split at h
    · exact List.mem_cons_of_mem _ h
    · rcases List.mem_cons.1 h with h | h
      · exact h ▸ List.mem_cons_self
      · exact List.mem_cons_of_mem _ (ih h)

/-- A listing write keeps the keys rising. -/
theorem kvPut_pairwise {α : Type} {m : Kv α} (k : Nat) (v : α) (h : m.Pairwise (fun p q => p.1 < q.1)) :
    (kvPut m k v).Pairwise (fun p q => p.1 < q.1) := by
  induction m with
  | nil => simp [kvPut]
  | cons q m ih =>
    obtain ⟨k', v'⟩ := q
    have ⟨h1, h2⟩ := List.pairwise_cons.1 h
    simp only [kvPut]
    split
    · next hk =>
      refine List.pairwise_cons.2 ⟨fun r hr => ?_, h⟩
      rcases List.mem_cons.1 hr with rfl | hr
      · exact hk
      · exact Nat.lt_trans hk (h1 r hr)
    · next hk =>
      split
      · next e => subst e; exact List.pairwise_cons.2 ⟨h1, h2⟩
      · next hne =>
        refine List.pairwise_cons.2 ⟨fun r hr => ?_, ih h2⟩
        rcases mem_kvPut hr with rfl | hr
        · simp only; omega
        · exact h1 r hr

/-- A removal keeps the keys rising. -/
theorem kvDel_pairwise {α : Type} {m : Kv α} (k : Nat) (h : m.Pairwise (fun p q => p.1 < q.1)) :
    (kvDel m k).Pairwise (fun p q => p.1 < q.1) := by
  induction m with
  | nil => exact h
  | cons q m ih =>
    obtain ⟨k', v'⟩ := q
    have ⟨h1, h2⟩ := List.pairwise_cons.1 h
    simp only [kvDel]
    split
    · exact h2
    · exact List.pairwise_cons.2 ⟨fun r hr => h1 r (mem_kvDel hr), ih h2⟩

/-- A write keeps the canonical form where it takes the key's own default for the value that is not listed. -/
theorem kvSet_wf {α : Type} [DecidableEq α] (d : Nat → α) (m : Kv α) (k : Nat) (v : α) (h : kvWf d m = true) : kvWf d (kvSet (d k) m k v) = true := by
  rw [kvWf_iff] at h ⊢
  unfold kvSet
  split
  · exact ⟨kvDel_pairwise k h.1, fun p hp => h.2 p (mem_kvDel hp)⟩
  · next hv =>
    refine ⟨kvPut_pairwise k v h.1, fun p hp => ?_⟩
    rcases mem_kvPut hp with rfl | hp
    · exact hv
    · exact h.2 p hp

/-- So do consecutive writes against one default. -/
theorem kvSetMany_wf {α : Type} [DecidableEq α] (d : α) (m : Kv α) (k : Nat) (vs : List α) (h : kvWf (fun _ => d) m = true) :
    kvWf (fun _ => d) (kvSetMany d m k vs) = true := by
  induction vs generalizing m k with
  | nil => exact h
  | cons v vs ih => exact ih _ _ (kvSet_wf (fun _ => d) m k v h)

/-- And choosing among the entries. -/
theorem kvFilter_wf {α : Type} [DecidableEq α] (d : Nat → α) (m : Kv α) (p : Nat × α → Bool) (h : kvWf d m = true) : kvWf d (m.filter p) = true := by
  rw [kvWf_iff] at h ⊢
  exact ⟨h.1.filter p, fun q hq => h.2 q (List.mem_filter.1 hq).1⟩

/-- A key that no entry has reads as the default. -/
theorem kvGet_absent {α : Type} (d : α) (m : Kv α) (k : Nat) (h : ∀ p ∈ m, p.1 ≠ k) : kvGet d m k = d := by
  induction m with
  | nil => rfl
  | cons p m ih =>
    obtain ⟨k', v'⟩ := p
    have h1 : k' ≠ k := h (k', v') (by simp)
    simp only [kvGet, if_neg h1]
    exact ih (fun p hp => h p (List.mem_cons_of_mem _ hp))

/-- Read after a listing write, at its key. -/
theorem kvGet_kvPut_same {α : Type} (d : α) (m : Kv α) (k : Nat) (v : α) (h : m.Pairwise (fun p q => p.1 < q.1)) : kvGet d (kvPut m k v) k = v := by
  induction m with
  | nil => simp [kvPut, kvGet]
  | cons p m ih =>
    obtain ⟨k', v'⟩ := p
    simp only [kvPut]
    split
    · simp [kvGet]
    · split
      · simp [kvGet]
      · next h1 h2 => simp only [kvGet, if_neg (Ne.symm h2)]; exact ih (List.pairwise_cons.1 h).2

/-- Read after a listing write, at another key. -/
theorem kvGet_kvPut_other {α : Type} (d : α) (m : Kv α) (k a : Nat) (v : α) (h : a ≠ k) : kvGet d (kvPut m k v) a = kvGet d m a := by
  induction m with
  | nil => simp [kvPut, kvGet, Ne.symm h]
  | cons p m ih =>
    obtain ⟨k', v'⟩ := p
    simp only [kvPut]
    split
    · simp [kvGet, Ne.symm h]
    · split
      · next _ e => subst e; simp [kvGet, Ne.symm h]
      · simp only [kvGet]; split <;> simp_all

/-- Read after a removal, at its key. -/
theorem kvGet_kvDel_same {α : Type} (d : α) (m : Kv α) (k : Nat) (h : m.Pairwise (fun p q => p.1 < q.1)) : kvGet d (kvDel m k) k = d := by
  induction m with
  | nil => rfl
  | cons p m ih =>
    obtain ⟨k', v'⟩ := p
    have ⟨h1, h2⟩ := List.pairwise_cons.1 h
    simp only [kvDel]
    split
    · next e => subst e; exact kvGet_absent d m k' (fun q hq => Nat.ne_of_gt (h1 q hq))
    · next e => simp only [kvGet, if_neg e]; exact ih h2

/-- Read after a removal, at another key. -/
theorem kvGet_kvDel_other {α : Type} (d : α) (m : Kv α) (k a : Nat) (h : a ≠ k) : kvGet d (kvDel m k) a = kvGet d m a := by
  induction m with
  | nil => rfl
  | cons p m ih =>
    obtain ⟨k', v'⟩ := p
    simp only [kvDel]
    split
    · next e => subst e; simp [kvGet, Ne.symm h]
    · simp only [kvGet]; split <;> simp_all

/-- Read after a write, at its key. -/
theorem kvGet_kvSet_same {α : Type} [DecidableEq α] (d : α) (m : Kv α) (k : Nat) (v : α) (h : m.Pairwise (fun p q => p.1 < q.1)) : kvGet d (kvSet d m k v) k = v := by
  unfold kvSet
  split
  · next e => rw [kvGet_kvDel_same d m k h, e]
  · exact kvGet_kvPut_same d m k v h

/-- Read after a write, at another key. -/
theorem kvGet_kvSet_other {α : Type} [DecidableEq α] (d c : α) (m : Kv α) (k a : Nat) (v : α) (h : a ≠ k) : kvGet d (kvSet c m k v) a = kvGet d m a := by
  unfold kvSet
  split
  · exact kvGet_kvDel_other d m k a h
  · exact kvGet_kvPut_other d m k a v h

/-- A register reads as what was stored, in a state whose registers are in canonical form. -/
theorem reg_setReg_same (s : State) (off : Nat) (v : Word) (h : kvWf regReset s.regs = true) : (s.setReg off v).reg off = v :=
  kvGet_kvSet_same _ _ _ _ ((kvWf_iff _ _).1 h).1

/-- Every other register reads as before. -/
theorem reg_setReg_other (s : State) (off a : Nat) (v : Word) (h : a ≠ off) : (s.setReg off v).reg a = s.reg a :=
  kvGet_kvSet_other _ _ _ _ _ _ h

end Sys2Proof.Machine
end

