-- ==== Sys2Proof/Laws/Frames.lean ====
section
/-! SUPPORT. One frame lemma for each shared operation over State: it keeps the canonical form of the set-up registers, sample memory and the ladder image's registers (State.memWf). A lemma X_keeps carries Keeps from the state an operation is applied to, to the state it answers; each proof cites those of the operations X calls. -/

namespace Sys2Proof.Machine

/-- Where the sparse memories of s are in canonical form, those of t are. -/
structure Keeps (s t : State) : Prop where
  keeps : s.memWf = true → t.memWf = true
/-- Whatever next state o answers keeps the canonical form that s has. -/
structure KeepsOut (s : State) (o : Out) : Prop where
  keeps : ∀ t, o = .next t → Keeps s t
theorem Keeps.refl (s : State) : Keeps s s := ⟨fun h => h⟩
theorem keeps_mk_iff {z u : State} {pending part now freeCtr outs links clocks tb timers timerReqs wires ch syncOutEnd ctrl verdicts forward plan planner ev glb done calibration sense meas smp pos mod ports gates sats prot shut chamois sw tahr store lock trace traceB re can canSent aux st} :
    Keeps z (State.mk pending part now freeCtr u.regs u.regsB outs links clocks tb timers timerReqs wires ch syncOutEnd ctrl verdicts forward plan planner ev glb done calibration sense meas smp u.sampleMem u.sampleMemB pos mod ports gates sats prot shut chamois sw tahr u.pwr store lock trace traceB re can canSent aux st) ↔ Keeps z u := ⟨fun h => ⟨h.keeps⟩, fun h => ⟨h.keeps⟩⟩
theorem keeps_ite {z a b : State} {c : Prop} [Decidable c] (h1 : c → Keeps z a) (h2 : ¬ c → Keeps z b) : Keeps z (if c then a else b) := by
  split
  · exact h1 ‹_›
  · exact h2 ‹_›
theorem keepsOut_ite {z : State} {a b : Out} {c : Prop} [Decidable c] (h1 : c → KeepsOut z a) (h2 : ¬ c → KeepsOut z b) : KeepsOut z (if c then a else b) := by
  split
  · exact h1 ‹_›
  · exact h2 ‹_›
theorem keepsOut_next {z t : State} (h : Keeps z t) : KeepsOut z (.next t) := by
  exact ⟨fun u e => by cases e; exact h⟩
theorem keeps_foldl {α : Type} {z : State} {f : State → α → State} {l : List α} {u : State} (hf : ∀ v x, Keeps z v → Keeps z (f v x)) (h : Keeps z u) : Keeps z (l.foldl f u) := by
  induction l generalizing u with
  | nil => exact h
  | cons a l ih => exact ih (hf _ _ h)
theorem keepsOut_fault {z : State} {f : Fault} : KeepsOut z (.fault f) := ⟨fun _ e => by cases e⟩
theorem keeps_pwr {z s : State} (h : Keeps z s) {p : Power} (hp : p.image = s.pwr.image) : Keeps z { s with pwr := p } :=
  ⟨fun hz => by have := h.keeps hz; simpa only [State.memWf, hp] using this⟩
theorem keeps_foldl_fst {α β : Type} {z : State} {f : State × β → α → State × β} {l : List α} {p : State × β} (hf : ∀ q x, Keeps z q.1 → Keeps z (f q x).1) (h : Keeps z p.1) : Keeps z (l.foldl f p).1 := by
  induction l generalizing p with
  | nil => exact h
  | cons a l ih => exact ih (hf _ _ h)
theorem keeps_fst_ite {β : Type} {z : State} {a b : State × β} {c : Prop} [Decidable c] (h1 : c → Keeps z a.1) (h2 : ¬ c → Keeps z b.1) : Keeps z (if c then a else b).1 := by
  split
  · exact h1 ‹_›
  · exact h2 ‹_›
theorem keeps_mk_pwr {z u : State} {p : Power} {pending part now freeCtr outs links clocks tb timers timerReqs wires ch syncOutEnd ctrl verdicts forward plan planner ev glb done calibration sense meas smp pos mod ports gates sats prot shut chamois sw tahr store lock trace traceB re can canSent aux st} (h : Keeps z u) (hp : p.image = u.pwr.image) :
    Keeps z (State.mk pending part now freeCtr u.regs u.regsB outs links clocks tb timers timerReqs wires ch syncOutEnd ctrl verdicts forward plan planner ev glb done calibration sense meas smp u.sampleMem u.sampleMemB pos mod ports gates sats prot shut chamois sw tahr p store lock trace traceB re can canSent aux st) :=
  ⟨fun hz => by have := h.keeps hz; simpa only [State.memWf, hp] using this⟩
theorem keeps_restart {z u : State} (hr : u.regs = []) (hb : u.regsB = []) (hm : u.sampleMem = []) (hn : u.sampleMemB = []) (hi : u.pwr.image = none) : Keeps z u :=
  ⟨fun _ => by simp only [State.memWf, hr, hb, hm, hn, hi]; rfl⟩
/-- The parts of the canonical form. -/
theorem memWf_iff {s : State} : s.memWf = true ↔ kvWf regReset s.regs = true ∧ kvWf regReset s.regsB = true ∧ kvWf (fun _ => 0) s.sampleMem = true
    ∧ kvWf (fun _ => 0) s.sampleMemB = true ∧ s.pwr.image.elim true (fun m => kvWf regReset m.regs) = true := by
  simp only [State.memWf, Bool.and_eq_true, and_assoc]
theorem keeps_samples {z u : State} (h : Keeps z u) {m n : Kv Word} (hm : kvWf (fun _ => 0) u.sampleMem = true → kvWf (fun _ => 0) m = true)
    (hn : kvWf (fun _ => 0) u.sampleMemB = true → kvWf (fun _ => 0) n = true) : Keeps z { u with sampleMem := m, sampleMemB := n } :=
  ⟨fun hz => by
    obtain ⟨a, b, c, d, e⟩ := memWf_iff.1 (h.keeps hz)
    exact memWf_iff.2 ⟨a, b, hm c, hn d, e⟩⟩
theorem setReg_memWf (s : State) (off : Nat) (v : Word) (h : s.memWf = true) : (s.setReg off v).memWf = true := by
  obtain ⟨a, b, c, d, e⟩ := memWf_iff.1 h
  exact memWf_iff.2 ⟨kvSet_wf regReset _ off v a, b, c, d, e⟩
theorem keeps_getD {z d : State} {o : Option State} (ho : ∀ u, o = some u → Keeps z u) (h : Keeps z d) : Keeps z (o.getD d) := by
  cases o with
  | none => exact h
  | some u => exact ho _ rfl
theorem keeps_elim {α : Type} {z d : State} {o : Option α} {f : α → State} (h : Keeps z d) (hf : ∀ x, Keeps z (f x)) : Keeps z (o.elim d f) := by
  cases o with
  | none => exact h
  | some x => exact hf x

/-! ## Ops -/

theorem State.raiseAt_keeps {z s : State} (h : Keeps z s) (time code source sev : Nat) (payload : List Word) : Keeps z (State.raiseAt s time code source sev payload) := by
  unfold State.raiseAt; try dsimp only
  with_reducible repeat' first | assumption | simp only [keeps_mk_iff]

theorem State.raise_keeps {z s : State} (h : Keeps z s) (code source sev : Nat) (payload : List Word) : Keeps z (State.raise s code source sev payload) := by
  unfold State.raise; try dsimp only
  with_reducible repeat' first | assumption | apply State.raiseAt_keeps

theorem State.raiseAll_keeps {z s : State} (h : Keeps z s) (es : List Event) : Keeps z (s.raiseAll es) := by
  induction es generalizing s with
  | nil => exact h
  | cons e es ih => exact ih (State.raiseAt_keeps h _ _ _ _ _)

theorem State.emit_keeps {z s : State} (h : Keeps z s) (m : OutMsg) : Keeps z (State.emit s m) := by
  unfold State.emit; try dsimp only
  with_reducible repeat' first | assumption | simp only [keeps_mk_iff]

theorem State.emitAll_keeps {z s : State} (h : Keeps z s) (ms : List OutMsg) : Keeps z (State.emitAll s ms) := by
  unfold State.emitAll; try dsimp only
  with_reducible repeat' first | assumption | simp only [keeps_mk_iff]

theorem State.setReg_keeps {z s : State} (h : Keeps z s) (off : Nat) (v : Word) : Keeps z (State.setReg s off v) := by
  exact ⟨fun hz => setReg_memWf _ off v (h.keeps hz)⟩

theorem State.applyToB_keeps {z s : State} (h : Keeps z s) : Keeps z (State.applyToB s) := by
  refine ⟨fun hz => ?_⟩
  obtain ⟨a, b, c, d, e⟩ := memWf_iff.1 (h.keeps hz)
  exact memWf_iff.2 ⟨a, kvFilter_wf _ _ _ a, c, d, e⟩

theorem State.modCh_keeps {z s : State} (h : Keeps z s) (c : Channel) (f : ChanTime → ChanTime) : Keeps z (State.modCh s c f) := by
  unfold State.modCh; try dsimp only
  with_reducible repeat' first | assumption | simp only [keeps_mk_iff]

theorem State.modCtrl_keeps {z s : State} (h : Keeps z s) (d : CtrlId) (f : CtrlDie → CtrlDie) : Keeps z (State.modCtrl s d f) := by
  unfold State.modCtrl; try dsimp only
  with_reducible repeat' first | assumption | simp only [keeps_mk_iff]

theorem State.modPlan_keeps {z s : State} (h : Keeps z s) (d : CtrlId) (f : PlanDie → PlanDie) : Keeps z (State.modPlan s d f) := by
  unfold State.modPlan; try dsimp only
  with_reducible repeat' first | assumption | simp only [keeps_mk_iff]

theorem State.setStep_keeps {z s : State} (h : Keeps z s) (n : Nat) : Keeps z (State.setStep s n) := by
  unfold State.setStep; try dsimp only
  with_reducible repeat' first | assumption | apply State.modPlan_keeps

theorem State.fresh_keeps {z s : State} (h : Keeps z s) (w : Nat) : Keeps z (State.fresh s w).2 := by
  unfold State.fresh; try dsimp only
  with_reducible repeat' first | assumption | simp only [keeps_mk_iff]

/-! ## LinkBase -/

theorem State.modLink_keeps {z s : State} (h : Keeps z s) (l : Fin 27) (f : D2dLink → D2dLink) : Keeps z (State.modLink s l f) := by
  unfold State.modLink; try dsimp only
  with_reducible repeat' first | assumption | simp only [keeps_mk_iff]

theorem State.sendFlit_keeps {z s : State} (h : Keeps z s) (l : Fin 27) (type len : Nat) (payload : BitVec 96) : Keeps z (State.sendFlit s l type len payload) := by
  unfold State.sendFlit; try dsimp only
  with_reducible repeat' first | assumption | apply State.modLink_keeps | apply State.emit_keeps | split

theorem State.sendWaiting_keeps {z s : State} (h : Keeps z s) (l : Fin 27) : Keeps z (State.sendWaiting s l) := by
  unfold State.sendWaiting; try dsimp only
  with_reducible repeat' first | assumption | apply State.sendFlit_keeps | apply State.modLink_keeps | apply keeps_foldl | intro _

theorem State.sendWords_keeps {z s : State} (h : Keeps z s) (src dst : Die) (kind : String) (ws : List Nat) : Keeps z (State.sendWords s src dst kind ws) := by
  unfold State.sendWords; try dsimp only
  with_reducible repeat' first | assumption | apply State.sendFlit_keeps | apply keeps_foldl | intro _ | split

theorem State.sendDie_keeps {z s : State} (h : Keeps z s) (src dst : Die) (kind : String) (ws : List Nat) : Keeps z (State.sendDie s src dst kind ws) := by
  unfold State.sendDie; try dsimp only
  with_reducible repeat' first | assumption | apply State.sendWords_keeps | apply State.emit_keeps | split

/-! ## Board -/

theorem State.stopTrace_keeps {z s : State} (h : Keeps z s) (reason : Nat) : Keeps z (State.stopTrace s reason) := by
  unfold State.stopTrace; try dsimp only
  with_reducible repeat' first | assumption | simp only [keeps_mk_iff] | apply State.raise_keeps

theorem State.traceOne_keeps {z s : State} (h : Keeps z s) (stamp : Nat) (w : Nat × Word) : Keeps z (State.traceOne s stamp w) := by
  unfold State.traceOne; try dsimp only
  with_reducible repeat' first | assumption | simp only [keeps_mk_iff] | apply State.stopTrace_keeps | split

theorem State.traceOneB_keeps {z s : State} (h : Keeps z s) (stamp : Nat) (w : Nat × Word) : Keeps z (State.traceOneB s stamp w) := by
  unfold State.traceOneB; try dsimp only
  with_reducible repeat' first | assumption | simp only [keeps_mk_iff] | split

theorem State.sendCommand_keeps {z s : State} (h : Keeps z s) (c : Channel) : Keeps z (State.sendCommand s c) := by
  unfold State.sendCommand; try dsimp only
  with_reducible repeat' first | assumption | simp only [keeps_mk_iff] | apply State.sendDie_keeps | split

theorem State.sendCanBlock_keeps {z s : State} (h : Keeps z s) (stamp base : Nat) : Keeps z (State.sendCanBlock s stamp base) := by
  unfold State.sendCanBlock; try dsimp only
  with_reducible repeat' first | assumption | simp only [keeps_mk_iff] | apply State.sendDie_keeps | split

theorem State.sendAdcRequest_keeps {z s : State} (h : Keeps z s) (c : Channel) : Keeps z (State.sendAdcRequest s c) := by
  unfold State.sendAdcRequest; try dsimp only
  with_reducible repeat' first | assumption | simp only [keeps_mk_iff] | apply State.sendDie_keeps | split

theorem State.sendMeas_keeps {z s : State} (h : Keeps z s) (stamp : Nat) (c : Channel) : Keeps z (State.sendMeas s stamp c) := by
  unfold State.sendMeas; try dsimp only
  with_reducible repeat' first | assumption | apply State.sendDie_keeps | simp only [keeps_mk_iff] | apply keeps_foldl | apply keeps_foldl_fst | intro _ | split

theorem State.sendSlotCommand_keeps {z s : State} (h : Keeps z s) (stamp : Nat) (n : AuxSlot) : Keeps z (State.sendSlotCommand s stamp n) := by
  unfold State.sendSlotCommand; try dsimp only
  with_reducible repeat' first | assumption | apply State.sendDie_keeps | simp only [keeps_mk_iff] | apply keeps_foldl | apply keeps_foldl_fst | intro _ | split

theorem State.sendSubscribed_keeps {z s : State} (h : Keeps z s) (stamp : Nat) (ws : Kv Word) : Keeps z (State.sendSubscribed s stamp ws) := by
  unfold State.sendSubscribed; try dsimp only
  with_reducible repeat' first | assumption | apply State.sendAdcRequest_keeps | apply State.sendCanBlock_keeps | apply State.sendCommand_keeps | apply State.sendMeas_keeps | apply State.sendSlotCommand_keeps | apply keeps_foldl | simp only [keeps_mk_iff] | apply keeps_foldl_fst | intro _

theorem State.traceCommit_keeps {z s : State} (h : Keeps z s) (d : CtrlId) (stamp : Nat) (ws : Kv Word) : Keeps z (State.traceCommit s d stamp ws) := by
  unfold State.traceCommit; try dsimp only
  with_reducible repeat' first | assumption | apply State.sendSubscribed_keeps | apply State.traceOneB_keeps | apply State.traceOne_keeps | apply keeps_foldl | intro _ | split

theorem State.raiseFor_keeps {z s : State} (h : Keeps z s) (d : CtrlId) (ev : List Event) : Keeps z (State.raiseFor s d ev) := by
  unfold State.raiseFor; try dsimp only
  with_reducible repeat' first | assumption | apply State.raiseAll_keeps

theorem State.sendDelivery_keeps {z s : State} (h : Keeps z s) (owner stamp : Nat) (writes : Kv Word) : Keeps z (State.sendDelivery s owner stamp writes) := by
  unfold State.sendDelivery; try dsimp only
  with_reducible repeat' first | assumption | apply State.sendWords_keeps | split

theorem State.hwCommit_keeps {z s : State} (h : Keeps z s) (owner stamp : Nat) (writes : Kv Word) : Keeps z (State.hwCommit s owner stamp writes) := by
  unfold State.hwCommit; try dsimp only
  with_reducible repeat' first | assumption | apply State.sendDelivery_keeps | apply State.traceCommit_keeps | apply State.modCtrl_keeps | apply State.raiseAll_keeps | split

/-! ## Engine -/

theorem State.modEngine_keeps {z s : State} (h : Keeps z s) (d : CtrlId) (e : EngineNo) (f : Engine → Engine) : Keeps z (State.modEngine s d e f) := by
  unfold State.modEngine; try dsimp only
  with_reducible repeat' first | assumption | apply State.modCtrl_keeps

theorem State.modSlot_keeps {z s : State} (h : Keeps z s) (d : CtrlId) (c : SlotCode) (f : Slot → Slot) : Keeps z (State.modSlot s d c f) := by
  unfold State.modSlot; try dsimp only
  with_reducible repeat' first | assumption | apply State.modCtrl_keeps

theorem State.setRun_keeps {z s : State} (h : Keeps z s) (d : CtrlId) (e : EngineNo) (r : Run) : Keeps z (State.setRun s d e r) := by
  unfold State.setRun; try dsimp only
  with_reducible repeat' first | assumption | apply State.modEngine_keeps

theorem State.onInstr_keeps {z s : State} (h : Keeps z s) (d : CtrlId) (e : EngineNo) (op : Nat) (k : Run → Dword → State) (hk : ∀ r w, Keeps z (k r w)) : Keeps z (s.onInstr d e op k) := by
  unfold State.onInstr; with_reducible repeat' first | exact hk _ _ | assumption | split

theorem State.onRun_keeps {z s : State} (h : Keeps z s) (d : CtrlId) (e : EngineNo) (op : Nat) (k : Run → Dword → Run) : Keeps z (State.onRun s d e op k) := by
  unfold State.onRun; try dsimp only
  with_reducible repeat' first | assumption | apply State.onInstr_keeps | apply State.setRun_keeps | intro _

theorem State.alu2_keeps {z s : State} (h : Keeps z s) (d : CtrlId) (e : EngineNo) (op : Nat) (f : Word → Word → FRes) : Keeps z (State.alu2 s d e op f) := by
  unfold State.alu2; try dsimp only
  with_reducible repeat' first | assumption | apply State.onRun_keeps

theorem State.alu1_keeps {z s : State} (h : Keeps z s) (d : CtrlId) (e : EngineNo) (op : Nat) (f : Word → FRes) : Keeps z (State.alu1 s d e op f) := by
  unfold State.alu1; try dsimp only
  with_reducible repeat' first | assumption | apply State.onRun_keeps

theorem State.alu3_keeps {z s : State} (h : Keeps z s) (d : CtrlId) (e : EngineNo) (op : Nat) (f : Word → Word → Word → FRes) : Keeps z (State.alu3 s d e op f) := by
  unfold State.alu3; try dsimp only
  with_reducible repeat' first | assumption | apply State.onRun_keeps

theorem State.sendFlits_keeps {z s : State} (h : Keeps z s) (fs : List (Nat × Nat × Nat × BitVec 96)) : Keeps z (State.sendFlits s fs) := by
  unfold State.sendFlits; try dsimp only
  with_reducible repeat' first | assumption | apply State.sendFlit_keeps | apply keeps_foldl | intro _

theorem State.fileOutcome_keeps {z s : State} (h : Keeps z s) (d : CtrlId) (e : EngineNo) (slot : Nat) (ch : Channel) (frame ref outcome : Nat) (sig : Dword) : Keeps z (State.fileOutcome s d e slot ch frame ref outcome sig) := by
  unfold State.fileOutcome; try dsimp only
  with_reducible repeat' first | assumption | apply State.modCtrl_keeps

theorem State.freeEngine_keeps {z s : State} (h : Keeps z s) (d : CtrlId) (e : EngineNo) : Keeps z (State.freeEngine s d e) := by
  unfold State.freeEngine; try dsimp only
  with_reducible repeat' first | assumption | apply State.modEngine_keeps

theorem State.discardRun_keeps {z s : State} (h : Keeps z s) (d : CtrlId) (e : EngineNo) (r : Run) (outcome : Nat) : Keeps z (State.discardRun s d e r outcome) := by
  unfold State.discardRun; try dsimp only
  with_reducible repeat' first | assumption | apply State.freeEngine_keeps | apply State.fileOutcome_keeps | apply State.modSlot_keeps | apply State.modEngine_keeps

theorem State.verdict_keeps {z s : State} (h : Keeps z s) (slot : SlotCode) (frame outcome : Nat) : Keeps z (State.verdict s slot frame outcome) := by
  unfold State.verdict; try dsimp only
  with_reducible repeat' first | assumption | simp only [keeps_mk_iff] | apply State.sendWords_keeps | split

theorem State.publishMiss_keeps {z s : State} (h : Keeps z s) (ch : Channel) : Keeps z (State.publishMiss s ch) := by
  unfold State.publishMiss; try dsimp only
  with_reducible repeat' first | assumption | apply State.hwCommit_keeps

theorem State.missOf_keeps {z s : State} (h : Keeps z s) (ch : Channel) (frame : Nat) (samplePath : Bool) : Keeps z (State.missOf s ch frame samplePath) := by
  unfold State.missOf; try dsimp only
  with_reducible repeat' first | assumption | apply State.publishMiss_keeps | apply State.modCh_keeps | apply State.raise_keeps | split

theorem State.miss_keeps {z s : State} (h : Keeps z s) (slot : SlotCode) (ch : Channel) (frame cause fcause : Nat) : Keeps z (State.miss s slot ch frame cause fcause) := by
  unfold State.miss; try dsimp only
  with_reducible repeat' first | assumption | apply State.missOf_keeps | apply State.raise_keeps | split

theorem State.failRun_keeps {z s : State} (h : Keeps z s) (d : CtrlId) (e : EngineNo) (r : Run) (cause : Nat) : Keeps z (State.failRun s d e r cause) := by
  unfold State.failRun; try dsimp only
  with_reducible repeat' first | assumption | apply State.miss_keeps | apply State.verdict_keeps | apply State.discardRun_keeps | apply State.raise_keeps | split

theorem State.afterLoad_keeps {z s : State} (h : Keeps z s) (d : CtrlId) (e : EngineNo) (r : Run) (x : LoadRes) : Keeps z (s.afterLoad d e r x) := by
  cases x <;> simp only [State.afterLoad]
  all_goals with_reducible repeat' first | assumption | apply State.failRun_keeps | apply State.setRun_keeps | apply State.raiseFor_keeps | apply State.modCtrl_keeps

theorem State.afterStore_keeps {z s : State} (h : Keeps z s) (d : CtrlId) (e : EngineNo) (r : Run) (x : Option Run) : Keeps z (s.afterStore d e r x) := by
  cases x <;> simp only [State.afterStore]
  all_goals with_reducible repeat' first | assumption | apply State.failRun_keeps | apply State.setRun_keeps

/-! ## Table -/

theorem State.lookup_keeps {z s : State} (h : Keeps z s) (d : CtrlId) (e : EngineNo) (op kind : Nat) (addr : Run → Dword → Nat) (f : CtrlDie → Nat → Run → Dword → FRes) : Keeps z (State.lookup s d e op kind addr f) := by
  unfold State.lookup; try dsimp only
  with_reducible repeat' first | assumption | apply State.failRun_keeps | apply State.onInstr_keeps | apply State.setRun_keeps | intro _ | split

/-! ## Runs -/

theorem State.finishWait_keeps {z s : State} (h : Keeps z s) (d : CtrlId) (e : EngineNo) (r : Run) (a : Nat) : Keeps z (State.finishWait s d e r a) := by
  unfold State.finishWait; try dsimp only
  with_reducible repeat' first | assumption | apply State.failRun_keeps | apply State.setRun_keeps | apply State.modEngine_keeps | apply State.raiseFor_keeps | apply State.modCtrl_keeps | split

theorem State.complete_keeps {z s : State} (h : Keeps z s) (ring index status detail : Nat) (result : Word) : Keeps z (State.complete s ring index status detail result) := by
  unfold State.complete; try dsimp only
  with_reducible repeat' first | assumption | simp only [keeps_mk_iff]

theorem State.emptySlot_keeps {z s : State} (h : Keeps z s) (d : CtrlId) (c : SlotCode) : Keeps z (State.emptySlot s d c) := by
  unfold State.emptySlot; try dsimp only
  with_reducible repeat' first | assumption | apply State.modCtrl_keeps

theorem State.emptyBoth_keeps {z s : State} (h : Keeps z s) (c : SlotCode) : Keeps z (State.emptyBoth s c) := by
  unfold State.emptyBoth; try dsimp only
  with_reducible repeat' first | assumption | apply State.emptySlot_keeps

theorem State.finishSwap_keeps {z s : State} (h : Keeps z s) (slot : SlotCode) (status detail : Nat) : Keeps z (State.finishSwap s slot status detail) := by
  unfold State.finishSwap; try dsimp only
  with_reducible repeat' first | assumption | simp only [keeps_mk_iff] | apply State.emptyBoth_keeps | apply State.complete_keeps | split

theorem State.endRun_keeps {z s : State} (h : Keeps z s) (d : CtrlId) (e : EngineNo) (r : Run) : Keeps z (State.endRun s d e r).1 := by
  unfold State.endRun; try dsimp only
  with_reducible repeat' first | assumption | apply State.freeEngine_keeps | apply State.fileOutcome_keeps | apply State.sendFlits_keeps | apply State.traceCommit_keeps | apply State.modCtrl_keeps | apply State.raiseAll_keeps | split

theorem State.arithEvent_keeps {z s : State} (h : Keeps z s) (r : Run) (fl : BitVec 8) : Keeps z (State.arithEvent s r fl) := by
  unfold State.arithEvent; try dsimp only
  with_reducible repeat' first | assumption | apply State.modCtrl_keeps | apply State.raise_keeps | split

theorem State.dsFetch_keeps {z s : State} (h : Keeps z s) (d : CtrlId) (r : Run) : Keeps z (State.dsFetch s d r) := by
  unfold State.dsFetch; try dsimp only
  with_reducible repeat' first | assumption | apply State.modCtrl_keeps | apply State.raiseFor_keeps

theorem State.dsFinish_keeps {z s : State} (h : Keeps z s) (d : CtrlId) (e : EngineNo) (r : Run) (k : State → Run → State) (hk : ∀ u q, Keeps z u → Keeps z (k u q)) : Keeps z (s.dsFinish d e r k) := by
  unfold State.dsFinish; try dsimp only
  with_reducible repeat' first | assumption | apply State.failRun_keeps | apply State.dsFetch_keeps | apply hk | simp only [keeps_mk_iff] | apply keeps_foldl | apply keeps_foldl_fst | intro _ | split

theorem State.publishRef_keeps {z s : State} (h : Keeps z s) (c : Channel) (slot : SlotCode) (frame : Nat) (written : Kv Word) : Keeps z (State.publishRef s c slot frame written) := by
  unfold State.publishRef; try dsimp only
  with_reducible repeat' first | assumption | apply State.modCh_keeps | split

theorem State.commitA_keeps {z s : State} (h : Keeps z s) (e : EngineNo) (r : Run) : Keeps z (State.commitA s e r) := by
  unfold State.commitA; try dsimp only
  with_reducible repeat' first | assumption | apply State.publishRef_keeps | apply State.arithEvent_keeps | apply State.endRun_keeps | apply State.finishSwap_keeps | apply State.verdict_keeps | split

theorem State.holdB_keeps {z s : State} (h : Keeps z s) (e : EngineNo) (r : Run) : Keeps z (State.holdB s e r) := by
  unfold State.holdB; try dsimp only
  with_reducible repeat' first | assumption | apply State.modEngine_keeps

theorem State.fendRun_keeps {z s : State} (h : Keeps z s) (d : CtrlId) (e : EngineNo) (r : Run) : Keeps z (State.fendRun s d e r) := by
  unfold State.fendRun; try dsimp only
  with_reducible repeat' first | assumption | apply State.holdB_keeps | apply State.commitA_keeps | split

theorem State.fend_keeps {z s : State} (h : Keeps z s) (d : CtrlId) (e : EngineNo) : Keeps z (State.fend s d e) := by
  unfold State.fend; try dsimp only
  with_reducible repeat' first | assumption | apply State.fendRun_keeps | apply State.dsFinish_keeps | apply State.onInstr_keeps | intro _ | split

theorem State.fileUnstarted_keeps {z s : State} (h : Keeps z s) (d : CtrlId) (c : SlotCode) (k ref outcome : Nat) : Keeps z (State.fileUnstarted s d c k ref outcome) := by
  unfold State.fileUnstarted; try dsimp only
  with_reducible repeat' first | assumption | apply State.modCtrl_keeps | apply State.modSlot_keeps | apply State.fileOutcome_keeps

theorem State.notRun_keeps {z s : State} (h : Keeps z s) (d : CtrlId) (c : SlotCode) (k ref : Nat) : Keeps z (State.notRun s d c k ref) := by
  unfold State.notRun; try dsimp only
  with_reducible repeat' first | assumption | apply State.fileOutcome_keeps | apply State.modSlot_keeps | apply State.modCtrl_keeps | apply State.fileUnstarted_keeps

theorem State.abortRun_keeps {z s : State} (h : Keeps z s) (e : EngineNo) (r : Run) (cause : Option Nat) : Keeps z (State.abortRun s e r cause) := by
  unfold State.abortRun; try dsimp only
  with_reducible repeat' first | assumption | apply State.miss_keeps | apply State.verdict_keeps | apply State.discardRun_keeps | split

theorem State.moveBoth_keeps {z s : State} (h : Keeps z s) (c : SlotCode) : Keeps z (State.moveBoth s c) := by
  unfold State.moveBoth; try dsimp only
  with_reducible repeat' first | assumption | apply State.modSlot_keeps

theorem State.activate_keeps {z s : State} (h : Keeps z s) (d : CtrlId) (c : SlotCode) : Keeps z (State.activate s d c) := by
  unfold State.activate; try dsimp only
  with_reducible repeat' first | assumption | apply State.modCtrl_keeps

theorem State.retireOld_keeps {z s : State} (h : Keeps z s) (d : CtrlId) (c : SlotCode) : Keeps z (State.retireOld s d c) := by
  unfold State.retireOld; try dsimp only
  with_reducible repeat' first | assumption | apply State.emptySlot_keeps | apply State.modSlot_keeps | apply State.modCtrl_keeps | split

theorem State.applySwap_keeps {z s : State} (h : Keeps z s) (w : Swap) : Keeps z (State.applySwap s w) := by
  unfold State.applySwap; try dsimp only
  with_reducible repeat' first | assumption | simp only [keeps_mk_iff] | apply State.retireOld_keeps | apply State.activate_keeps | apply State.abortRun_keeps | apply State.emptyBoth_keeps | apply State.complete_keeps | split

theorem State.abortStalled_keeps {z s : State} (h : Keeps z s) (w : Swap) : Keeps z (State.abortStalled s w) := by
  unfold State.abortStalled; try dsimp only
  with_reducible repeat' first | assumption | apply State.abortRun_keeps | simp only [keeps_mk_iff] | apply keeps_foldl | apply keeps_foldl_fst | intro _ | split

theorem State.programBoundary_keeps {z s : State} (h : Keeps z s) (c : Channel) : Keeps z (State.programBoundary s c) := by
  unfold State.programBoundary; try dsimp only
  with_reducible repeat' first | assumption | apply State.modSlot_keeps | apply State.abortStalled_keeps | simp only [keeps_mk_iff] | apply keeps_foldl | apply keeps_foldl_fst | intro _ | split

theorem State.failSwaps_keeps {z s : State} (h : Keeps z s) (c : Channel) : Keeps z (State.failSwaps s c) := by
  unfold State.failSwaps; try dsimp only
  with_reducible repeat' first | assumption | apply State.finishSwap_keeps | apply keeps_foldl | apply keeps_elim | intro _

/-! ## Links -/

theorem State.failLink_keeps {z s : State} (h : Keeps z s) (l : Fin 27) : Keeps z (State.failLink s l) := by
  unfold State.failLink; try dsimp only
  with_reducible repeat' first | assumption | simp only [keeps_mk_iff] | apply State.modLink_keeps | apply State.raise_keeps

theorem State.countResends_keeps {z s : State} (h : Keeps z s) (l : Fin 27) (n : Nat) : Keeps z (State.countResends s l n) := by
  unfold State.countResends; try dsimp only
  with_reducible repeat' first | assumption | apply State.hwCommit_keeps | apply State.modLink_keeps | apply State.raise_keeps | split

theorem State.resend_keeps {z s : State} (h : Keeps z s) (l : Fin 27) (fs : List SentFlit) : Keeps z (State.resend s l fs) := by
  unfold State.resend; try dsimp only
  with_reducible repeat' first | assumption | apply State.countResends_keeps | apply State.failLink_keeps | apply State.modLink_keeps | apply State.emitAll_keeps | split

theorem State.loadInto_keeps {z s : State} (h : Keeps z s) (d : CtrlId) (slot : SlotCode) (ch : Channel) (place : Nat) (im : Image) : Keeps z (State.loadInto s d slot ch place im) := by
  unfold State.loadInto; try dsimp only
  with_reducible repeat' first | assumption | apply State.modCtrl_keeps

theorem State.applyEffect_keeps {z s : State} (h : Keeps z s) (d : CtrlId) (e : Effect) : Keeps z (s.applyEffect d e) := by
  cases e <;> simp only [State.applyEffect]
  all_goals with_reducible repeat' first | assumption | apply State.loadInto_keeps | apply State.traceCommit_keeps | apply State.modCtrl_keeps | apply State.raiseAll_keeps | split

theorem State.doEffect_keeps {z s : State} (h : Keeps z s) (ch : Option Channel) (e : Effect) : Keeps z (State.doEffect s ch e) := by
  unfold State.doEffect; try dsimp only
  with_reducible repeat' first | assumption | simp only [keeps_mk_iff] | apply State.applyEffect_keeps | apply State.sendWords_keeps | split

/-! ## Clock -/

theorem State.assertDieFault_keeps {z s : State} (h : Keeps z s) (d : Die) : Keeps z (State.assertDieFault s d) := by
  unfold State.assertDieFault; try dsimp only
  with_reducible repeat' first | assumption | simp only [keeps_mk_iff]

theorem State.tick_keeps {z s : State} (h : Keeps z s) : Keeps z (State.tick s) := by
  unfold State.tick; try dsimp only
  with_reducible repeat' first | assumption | simp only [keeps_mk_iff] | split

theorem State.relock_keeps {z s : State} (h : Keeps z s) (since : Nat) : Keeps z (State.relock s since) := by
  unfold State.relock; try dsimp only
  with_reducible repeat' first | assumption | simp only [keeps_mk_iff] | apply State.raise_keeps

/-! ## Planner -/

theorem State.avsWrite_keeps {z s : State} (h : Keeps z s) (d : CtrlId) (mV : Nat) : Keeps z (State.avsWrite s d mV) := by
  unfold State.avsWrite; try dsimp only
  with_reducible repeat' first | assumption | apply State.modPlan_keeps | apply State.emit_keeps | split

theorem State.awaitReading_keeps {z s : State} (h : Keeps z s) : Keeps z (State.awaitReading s) := by
  unfold State.awaitReading; try dsimp only
  with_reducible repeat' first | assumption | apply State.modPlan_keeps

theorem State.raiseVdd_keeps {z s : State} (h : Keeps z s) (d : CtrlId) (slack : Nat) : Keeps z (State.raiseVdd s d slack) := by
  unfold State.raiseVdd; try dsimp only
  with_reducible repeat' first | assumption | apply State.awaitReading_keeps | apply State.avsWrite_keeps | apply State.modPlan_keeps | apply State.raise_keeps | split

theorem State.modSlots_keeps {z s : State} (h : Keeps z s) (c : SlotCode) (f : Slot → Slot) : Keeps z (State.modSlots s c f) := by
  unfold State.modSlots; try dsimp only
  with_reducible repeat' first | assumption | apply State.modSlot_keeps | simp only [keeps_mk_iff] | apply keeps_foldl | apply keeps_foldl_fst | intro _ | split

theorem State.doMoves_keeps {z s : State} (h : Keeps z s) (ms : List (SlotCode × EngineNo × EngineNo)) : Keeps z (State.doMoves s ms) := by
  unfold State.doMoves; try dsimp only
  with_reducible repeat' first | assumption | apply State.modSlots_keeps | apply State.awaitReading_keeps | apply State.raise_keeps | apply keeps_foldl | intro _

theorem State.setFallback_keeps {z s : State} (h : Keeps z s) (p : Planned) (on : Bool) : Keeps z (State.setFallback s p on) := by
  unfold State.setFallback; try dsimp only
  with_reducible repeat' first | assumption | apply State.modSlots_keeps | apply State.awaitReading_keeps | apply State.raise_keeps

theorem State.refuseMode_keeps {z s : State} (h : Keeps z s) (c : Channel) : Keeps z (State.refuseMode s c) := by
  unfold State.refuseMode; try dsimp only
  with_reducible repeat' first | assumption | simp only [keeps_mk_iff] | apply State.modCh_keeps | apply State.raise_keeps | split

theorem State.ladderA_keeps {z s : State} (h : Keeps z s) : Keeps z (State.ladderA s) := by
  unfold State.ladderA; try dsimp only
  with_reducible repeat' first | assumption | apply State.refuseMode_keeps | apply State.setFallback_keeps | apply State.doMoves_keeps | apply keeps_foldl | intro _ | split

theorem State.restoreDiv_keeps {z s : State} (h : Keeps z s) : Keeps z (State.restoreDiv s) := by
  unfold State.restoreDiv; try dsimp only
  with_reducible repeat' first | assumption | simp only [keeps_mk_iff] | apply State.setFallback_keeps | split

theorem State.lowerVdd_keeps {z s : State} (h : Keeps z s) (d : CtrlId) : Keeps z (State.lowerVdd s d) := by
  unfold State.lowerVdd; try dsimp only
  with_reducible repeat' first | assumption | apply State.avsWrite_keeps | apply State.modPlan_keeps | apply State.raise_keeps | split

theorem State.takeReading_keeps {z s : State} (h : Keeps z s) (d : CtrlId) (rs : List (Nat × Nat)) : Keeps z (State.takeReading s d rs) := by
  unfold State.takeReading; try dsimp only
  with_reducible repeat' first | assumption | apply State.modPlan_keeps | apply State.raiseAll_keeps

theorem State.evacuate_keeps {z s : State} (h : Keeps z s) : Keeps z (State.evacuate s) := by
  unfold State.evacuate; try dsimp only
  with_reducible repeat' first | assumption | apply State.doMoves_keeps

theorem State.planReading_keeps {z s : State} (h : Keeps z s) (die : CtrlId) : Keeps z (State.planReading s die) := by
  unfold State.planReading; try dsimp only
  with_reducible repeat' first | assumption | apply State.evacuate_keeps | apply State.lowerVdd_keeps | apply State.restoreDiv_keeps | apply State.ladderA_keeps | apply State.raiseVdd_keeps | apply State.modPlan_keeps | split

theorem State.avsRetry_keeps {z s : State} (h : Keeps z s) (d : CtrlId) (w : AvsWrite) : Keeps z (State.avsRetry s d w) := by
  unfold State.avsRetry; try dsimp only
  with_reducible repeat' first | assumption | apply State.modPlan_keeps | apply State.emit_keeps | apply State.raise_keeps | split

theorem State.showLoss_keeps {z s : State} (h : Keeps z s) (d : CtrlId) : Keeps z (State.showLoss s d) := by
  unfold State.showLoss; try dsimp only
  with_reducible repeat' first | assumption | apply State.fresh_keeps | apply State.modPlan_keeps | split

theorem State.decideStep_keeps {z s : State} (h : Keeps z s) (v : State) (set : List Planned) (mine old : Option SlotCode) : ∀ u, s.decideStep v set mine old = some u → Keeps z u := by
  intro u e; unfold State.decideStep at e; split at e
  · cases e
    exact State.raiseVdd_keeps h _ _
  · dsimp only at e; split at e
    · cases e; exact State.doMoves_keeps h _
    · obtain ⟨p, _, rfl⟩ := Option.map_eq_some_iff.1 e
      exact State.setFallback_keeps h _ _

theorem State.dropChange_keeps {z s : State} (h : Keeps z s) : Keeps z (State.dropChange s) := by
  unfold State.dropChange; try dsimp only
  with_reducible repeat' first | assumption | simp only [keeps_mk_iff]

theorem State.clearRefused_keeps {z s : State} (h : Keeps z s) (c : Channel) : Keeps z (State.clearRefused s c) := by
  unfold State.clearRefused; try dsimp only
  with_reducible repeat' first | assumption | simp only [keeps_mk_iff] | apply State.modCh_keeps

theorem State.withSettings_keeps {z s : State} (h : Keeps z s) (c : Channel) : Keeps z (State.withSettings s c) := by
  unfold State.withSettings; try dsimp only
  with_reducible repeat' first | assumption | apply State.setReg_keeps | apply keeps_foldl | intro _ | split

theorem State.asAccepted_keeps {z s : State} (h : Keeps z s) : Keeps z (State.asAccepted s) := by
  unfold State.asAccepted; try dsimp only
  with_reducible repeat' first | assumption | apply State.withSettings_keeps | apply keeps_foldl | intro _ | split

theorem State.acceptSwap_keeps {z s : State} (h : Keeps z s) (old new : Option SlotCode) (ring index : Nat) (e : Option EngineNo) : Keeps z (State.acceptSwap s old new ring index e) := by
  unfold State.acceptSwap; try dsimp only
  with_reducible repeat' first | assumption | simp only [keeps_mk_iff] | apply State.clearRefused_keeps | apply State.modSlots_keeps | apply State.raiseAll_keeps | split

theorem State.refuseSwap_keeps {z s : State} (h : Keeps z s) (old new : Option SlotCode) (ring index : Nat) : Keeps z (State.refuseSwap s old new ring index) := by
  unfold State.refuseSwap; try dsimp only
  with_reducible repeat' first | assumption | apply State.dropChange_keeps | apply State.complete_keeps | apply State.raise_keeps

/-! ## Satellite -/

theorem State.modSat_keeps {z s : State} (h : Keeps z s) (t : Port) (f : Satellite → Satellite) : Keeps z (State.modSat s t f) := by
  unfold State.modSat; try dsimp only
  with_reducible repeat' first | assumption | simp only [keeps_mk_iff]

theorem State.modPort_keeps {z s : State} (h : Keeps z s) (t : Port) (f : TpPort → TpPort) : Keeps z (State.modPort s t f) := by
  unfold State.modPort; try dsimp only
  with_reducible repeat' first | assumption | simp only [keeps_mk_iff]

theorem State.modGate_keeps {z s : State} (h : Keeps z s) (t : Port) (f : GatePos → GatePos) : Keeps z (State.modGate s t f) := by
  unfold State.modGate; try dsimp only
  with_reducible repeat' first | assumption | simp only [keeps_mk_iff]

theorem State.modProt_keeps {z s : State} (h : Keeps z s) (c : Channel) (f : Protection → Protection) : Keeps z (State.modProt s c f) := by
  unfold State.modProt; try dsimp only
  with_reducible repeat' first | assumption | simp only [keeps_mk_iff]

theorem State.modMod_keeps {z s : State} (h : Keeps z s) (c : Channel) (f : Modulator → Modulator) : Keeps z (State.modMod s c f) := by
  unfold State.modMod; try dsimp only
  with_reducible repeat' first | assumption | simp only [keeps_mk_iff]

theorem State.modTahrCh_keeps {z s : State} (h : Keeps z s) (c : Channel) (f : TahrChan → TahrChan) : Keeps z (State.modTahrCh s c f) := by
  unfold State.modTahrCh; try dsimp only
  with_reducible repeat' first | assumption | simp only [keeps_mk_iff]

theorem State.requestStop_keeps {z s : State} (h : Keeps z s) (src : Die) (c : Channel) (sto : Bool) (source : Nat) : Keeps z (State.requestStop s src c sto source) := by
  unfold State.requestStop; try dsimp only
  with_reducible repeat' first | assumption | simp only [keeps_mk_iff] | apply State.sendDie_keeps | split

theorem State.satWires_keeps {z s : State} (h : Keeps z s) (c : Channel) : Keeps z (State.satWires s c) := by
  unfold State.satWires; try dsimp only
  with_reducible repeat' first | assumption | apply State.modSat_keeps | apply keeps_foldl | intro _ | split

theorem State.publishSwitching_keeps {z s : State} (h : Keeps z s) (c : Channel) (on : Bool) : Keeps z (State.publishSwitching s c on) := by
  unfold State.publishSwitching; try dsimp only
  with_reducible repeat' first | assumption | apply State.modMod_keeps | apply State.hwCommit_keeps

theorem State.haltMod_keeps {z s : State} (h : Keeps z s) (c : Channel) : Keeps z (State.haltMod s c) := by
  unfold State.haltMod; try dsimp only
  with_reducible repeat' first | assumption | apply State.publishSwitching_keeps | apply State.modMod_keeps | split

theorem State.settleCh_keeps {z s : State} (h : Keeps z s) (c : Channel) : Keeps z (State.settleCh s c) := by
  unfold State.settleCh; try dsimp only
  with_reducible repeat' first | assumption | simp only [keeps_mk_iff] | apply State.haltMod_keeps | apply State.satWires_keeps | split

theorem State.settle_keeps {z s : State} (h : Keeps z s) : Keeps z (State.settle s) := by
  unfold State.settle; try dsimp only
  with_reducible repeat' first | assumption | apply State.settleCh_keeps | apply keeps_foldl | intro _

/-! ## Sense -/

theorem State.modSense_keeps {z s : State} (h : Keeps z s) (d : Fin 2) (f : SenseDie → SenseDie) : Keeps z (State.modSense s d f) := by
  unfold State.modSense; try dsimp only
  with_reducible repeat' first | assumption | simp only [keeps_mk_iff]

theorem State.modSdm_keeps {z s : State} (h : Keeps z s) (d : Fin 2) (i : Fin 24) (f : SdmInput → SdmInput) : Keeps z (State.modSdm s d i f) := by
  unfold State.modSdm; try dsimp only
  with_reducible repeat' first | assumption | apply State.modSense_keeps

theorem State.modConv_keeps {z s : State} (h : Keeps z s) (d : Fin 2) (c : Fin 6) (f : Converter → Converter) : Keeps z (State.modConv s d c f) := by
  unfold State.modConv; try dsimp only
  with_reducible repeat' first | assumption | apply State.modSense_keeps

theorem State.modPair_keeps {z s : State} (h : Keeps z s) (d : Fin 2) (k : Fin 3) (f : PlausPair → PlausPair) : Keeps z (State.modPair s d k f) := by
  unfold State.modPair; try dsimp only
  with_reducible repeat' first | assumption | apply State.modSense_keeps

theorem State.modMeas_keeps {z s : State} (h : Keeps z s) (c : Channel) (f : ChanSense → ChanSense) : Keeps z (State.modMeas s c f) := by
  unfold State.modMeas; try dsimp only
  with_reducible repeat' first | assumption | simp only [keeps_mk_iff]

theorem State.modSmp_keeps {z s : State} (h : Keeps z s) (b : Fin 64) (f : SampleBuffer → SampleBuffer) : Keeps z (State.modSmp s b f) := by
  unfold State.modSmp; try dsimp only
  with_reducible repeat' first | assumption | simp only [keeps_mk_iff]

theorem State.smpJudge_keeps {z s : State} (h : Keeps z s) (b : Fin 64) : Keeps z (State.smpJudge s b) := by
  unfold State.smpJudge; try dsimp only
  with_reducible repeat' first | assumption | apply State.modSmp_keeps | apply State.raise_keeps | split

theorem State.smpRecord_keeps {z s : State} (h : Keeps z s) (b : Fin 64) (d : Fin 2) (restart : Bool) (value : Int) (stamp : Nat) : Keeps z (State.smpRecord s b d restart value stamp) := by
  unfold State.smpRecord
  refine State.smpJudge_keeps (State.hwCommit_keeps (State.modSmp_keeps (keeps_samples h (fun hm => ?_) (fun hm => ?_)) _ _) _ _ _) _
  · split
    · exact kvSet_wf (fun _ => 0) _ _ _ hm
    · exact hm
  · split
    · exact kvSet_wf (fun _ => 0) _ _ _ hm
    · exact hm

theorem State.smpAll_keeps {z s : State} (h : Keeps z s) (bs : List (Fin 64)) (d : Fin 2) (restart : Bool) (raw code : Int) (stamp : Nat) : Keeps z (State.smpAll s bs d restart raw code stamp) := by
  unfold State.smpAll; try dsimp only
  with_reducible repeat' first | assumption | apply State.smpRecord_keeps | apply keeps_foldl | intro _

theorem State.setRptr_keeps {z s : State} (h : Keeps z s) (b : Fin 64) (v : Word) : Keeps z (State.setRptr s b v) := by
  unfold State.setRptr; try dsimp only
  with_reducible repeat' first | assumption | apply State.smpJudge_keeps | apply State.modSmp_keeps | apply State.setReg_keeps

theorem State.ocAssert_keeps {z s : State} (h : Keeps z s) (c : Channel) : Keeps z (State.ocAssert s c) := by
  unfold State.ocAssert; try dsimp only
  with_reducible repeat' first | assumption | simp only [keeps_mk_iff] | apply State.modMeas_keeps | apply State.settleCh_keeps

theorem State.sinc1Judge_keeps {z s : State} (h : Keeps z s) (d : Fin 2) (i : Fin 24) : Keeps z (State.sinc1Judge s d i) := by
  unfold State.sinc1Judge; try dsimp only
  with_reducible repeat' first | assumption | apply State.ocAssert_keeps | apply State.raise_keeps | split

theorem State.stuckJudge_keeps {z s : State} (h : Keeps z s) (d : Fin 2) (i : Fin 24) (b : Bool) : Keeps z (State.stuckJudge s d i b) := by
  unfold State.stuckJudge; try dsimp only
  with_reducible repeat' first | assumption | apply State.modSdm_keeps | apply State.raise_keeps | split

theorem State.feedBit_keeps {z s : State} (h : Keeps z s) (d : Fin 2) (i : Fin 24) (b : Bool) (t : Nat) : Keeps z (State.feedBit s d i b t) := by
  unfold State.feedBit; try dsimp only
  with_reducible repeat' first | assumption | apply State.stuckJudge_keeps | apply State.sinc1Judge_keeps | apply State.smpAll_keeps | apply State.modSdm_keeps | split

theorem State.filterBits_keeps {z s : State} (h : Keeps z s) (d : Fin 2) (i : Fin 24) (bits : List Bool) : Keeps z (State.filterBits s d i bits) := by
  unfold State.filterBits; try dsimp only
  with_reducible repeat' first | assumption | apply State.feedBit_keeps | simp only [keeps_mk_iff] | apply keeps_foldl | apply keeps_foldl_fst | intro _ | split

theorem State.showBits_keeps {z s : State} (h : Keeps z s) (d : Fin 2) (i : Fin 24) (bits : List Bool) : Keeps z (State.showBits s d i bits) := by
  unfold State.showBits; try dsimp only
  with_reducible repeat' first | assumption | apply State.hwCommit_keeps | simp only [keeps_mk_iff] | apply keeps_foldl | apply keeps_foldl_fst | intro _ | split

theorem State.feedBits_keeps {z s : State} (h : Keeps z s) (d : Fin 2) (i : Fin 24) (bits : List Bool) : Keeps z (State.feedBits s d i bits) := by
  unfold State.feedBits; try dsimp only
  with_reducible repeat' first | assumption | apply State.feedBit_keeps | apply State.hwCommit_keeps | apply State.filterBits_keeps | apply State.showBits_keeps

theorem State.bitsArrive_keeps {z s : State} (h : Keeps z s) (d : Fin 2) (i : Fin 24) (bits : List Bool) : KeepsOut z (State.bitsArrive s d i bits) := by
  unfold State.bitsArrive; try dsimp only
  with_reducible repeat' first | assumption | apply State.feedBits_keeps | apply keepsOut_next | split

theorem State.ocRelease_keeps {z s : State} (h : Keeps z s) (c : Channel) : Keeps z (State.ocRelease s c) := by
  unfold State.ocRelease; try dsimp only
  with_reducible repeat' first | assumption | simp only [keeps_mk_iff] | split

theorem State.publishPass_keeps {z s : State} (h : Keeps z s) (d : Fin 2) (c : Fin 6) (p : Pass) : Keeps z (State.publishPass s d c p) := by
  unfold State.publishPass; try dsimp only
  with_reducible repeat' first | assumption | apply State.modConv_keeps | apply State.hwCommit_keeps

theorem State.beginPass_keeps {z s : State} (h : Keeps z s) (d : Fin 2) (c : Fin 6) (trig : Trigger) (trigTime t : Nat) (latched : Bool) : Keeps z (State.beginPass s d c trig trigTime t latched) := by
  unfold State.beginPass; try dsimp only
  with_reducible repeat' first | assumption | apply State.publishPass_keeps | apply State.modConv_keeps | split

theorem State.skipPair_keeps {z s : State} (h : Keeps z s) (d : Fin 2) (k : Fin 3) : Keeps z (State.skipPair s d k) := by
  unfold State.skipPair; try dsimp only
  with_reducible repeat' first | assumption | apply State.modPair_keeps | apply State.raise_keeps | split

theorem State.servePair_keeps {z s : State} (h : Keeps z s) (d : Fin 2) (k : Fin 3) (t : Nat) : Keeps z (State.servePair s d k t) := by
  unfold State.servePair; try dsimp only
  with_reducible repeat' first | assumption | apply State.modPair_keeps | apply State.modConv_keeps | split

theorem State.serve_keeps {z s : State} (h : Keeps z s) (d : Fin 2) (c : Fin 6) (t : Nat) : Keeps z (State.serve s d c t) := by
  unfold State.serve; try dsimp only
  with_reducible repeat' first | assumption | apply State.servePair_keeps | apply State.beginPass_keeps | apply State.modConv_keeps | split

theorem State.abortLow_keeps {z s : State} (h : Keeps z s) (d : Fin 2) (c : Fin 6) : Keeps z (State.abortLow s d c) := by
  unfold State.abortLow; try dsimp only
  with_reducible repeat' first | assumption | apply State.skipPair_keeps | apply State.modConv_keeps | split

theorem State.trigger_keeps {z s : State} (h : Keeps z s) (d : Fin 2) (c : Fin 6) (trig : Trigger) (t : Nat) : Keeps z (State.trigger s d c trig t) := by
  unfold State.trigger; try dsimp only
  with_reducible repeat' first | assumption | apply State.abortLow_keeps | apply State.serve_keeps | apply State.beginPass_keeps | apply State.modConv_keeps | apply State.hwCommit_keeps | apply State.raise_keeps | split

theorem State.dropUrgent_keeps {z s : State} (h : Keeps z s) (d : Fin 2) (c : Nat) (ch : Channel) (id : Nat) : Keeps z (State.dropUrgent s d c ch id) := by
  unfold State.dropUrgent; try dsimp only
  with_reducible repeat' first | assumption | apply State.modConv_keeps | apply State.hwCommit_keeps | apply State.raise_keeps | split

theorem State.urgent_keeps {z s : State} (h : Keeps z s) (d : Fin 2) (c : Fin 6) (u : Urgent) : Keeps z (State.urgent s d c u) := by
  unfold State.urgent; try dsimp only
  with_reducible repeat' first | assumption | apply State.dropUrgent_keeps | apply State.abortLow_keeps | apply State.modConv_keeps | split

theorem State.memberConv_keeps {z s : State} (h : Keeps z s) (d : Fin 2) (c : Fin 6) (p : Pass) (e : Nat) (code : Int) (clip : Bool) (ball : Option Nat) : Keeps z (State.memberConv s d c p e code clip ball) := by
  unfold State.memberConv; try dsimp only
  with_reducible repeat' first | assumption | apply State.modMeas_keeps | apply keeps_foldl | intro _ | split

theorem State.markOpenWire_keeps {z s : State} (h : Keeps z s) (d : Fin 2) (b : Nat) : Keeps z (State.markOpenWire s d b) := by
  unfold State.markOpenWire; try dsimp only
  with_reducible repeat' first | assumption | apply State.modMeas_keeps | apply keeps_foldl | intro _

theorem State.openWireTest_keeps {z s : State} (h : Keeps z s) (d : Fin 2) (c : Fin 6) (p : Pass) (e : Nat) (code : Int) (ball : Option Nat) : Keeps z (State.openWireTest s d c p e code ball) := by
  unfold State.openWireTest; try dsimp only
  with_reducible repeat' first | assumption | apply State.markOpenWire_keeps | apply State.modSense_keeps | apply State.hwCommit_keeps | apply State.raise_keeps | split

theorem State.ntcUpdate_keeps {z s : State} (h : Keeps z s) (d : Fin 2) (c e : Nat) (code : Int) : Keeps z (State.ntcUpdate s d c e code) := by
  unfold State.ntcUpdate; try dsimp only
  with_reducible repeat' first | assumption | apply State.hwCommit_keeps | apply keeps_foldl | intro _ | split

theorem State.passConvEnd_keeps {z s : State} (h : Keeps z s) (d : Fin 2) (c : Fin 6) (p : Pass) (nanovolts : Int) : Keeps z (State.passConvEnd s d c p nanovolts) := by
  unfold State.passConvEnd; try dsimp only
  with_reducible repeat' first | assumption | apply State.ntcUpdate_keeps | apply State.openWireTest_keeps | apply State.memberConv_keeps | apply State.serve_keeps | apply State.publishPass_keeps | apply State.smpAll_keeps | apply State.modConv_keeps | apply State.modSense_keeps | apply State.sendDie_keeps | split

theorem State.houseConvEnd_keeps {z s : State} (h : Keeps z s) (d : Fin 2) (c : Fin 6) (j : Nat) (nanovolts : Int) : Keeps z (State.houseConvEnd s d c j nanovolts) := by
  unfold State.houseConvEnd; try dsimp only
  with_reducible repeat' first | assumption | apply State.hwCommit_keeps

theorem State.plausConvEnd_keeps {z s : State} (h : Keeps z s) (d : Fin 2) (c : Fin 6) (nanovolts : Int) : Keeps z (State.plausConvEnd s d c nanovolts) := by
  unfold State.plausConvEnd; try dsimp only
  with_reducible repeat' first | assumption | apply State.modPair_keeps | apply State.hwCommit_keeps | apply State.raise_keeps | split

theorem State.conversionEnd_keeps {z s : State} (h : Keeps z s) (d : Fin 2) (c : Fin 6) (nanovolts : Int) : Keeps z (State.conversionEnd s d c nanovolts) := by
  unfold State.conversionEnd; try dsimp only
  with_reducible repeat' first | assumption | apply State.plausConvEnd_keeps | apply State.houseConvEnd_keeps | apply State.passConvEnd_keeps | apply State.serve_keeps | apply State.modConv_keeps | split

theorem State.owClear_keeps {z s : State} (h : Keeps z s) (d : Fin 2) (index : Fin 2) (v : Word) : Keeps z (State.owClear s d index v) := by
  unfold State.owClear; try dsimp only
  with_reducible repeat' first | assumption | apply State.modSense_keeps | apply State.hwCommit_keeps

theorem State.sampleMembers_keeps {z s : State} (h : Keeps z s) (ch : Channel) (frame t : Nat) : Keeps z (State.sampleMembers s ch frame t) := by
  unfold State.sampleMembers; try dsimp only
  with_reducible repeat' first | assumption | apply State.modMeas_keeps

theorem State.sampleBits_keeps {z s : State} (h : Keeps z s) (ch : Channel) (bits : List (List Bool)) : Keeps z (State.sampleBits s ch bits) := by
  unfold State.sampleBits; try dsimp only
  with_reducible repeat' first | assumption | apply State.feedBits_keeps | apply State.filterBits_keeps | apply State.showBits_keeps | apply keeps_foldl | simp only [keeps_mk_iff] | apply keeps_foldl_fst | intro _

theorem State.sampleTriggers_keeps {z s : State} (h : Keeps z s) (ch : Channel) (t : Nat) : Keeps z (State.sampleTriggers s ch t) := by
  unfold State.sampleTriggers; try dsimp only
  with_reducible repeat' first | assumption | apply State.trigger_keeps | apply keeps_foldl | intro _ | split

theorem State.countMark_keeps {z s : State} (h : Keeps z s) (ch : Channel) : Keeps z (State.countMark s ch) := by
  unfold State.countMark; try dsimp only
  with_reducible repeat' first | assumption | apply State.modMeas_keeps

theorem State.sendGroup_keeps {z s : State} (h : Keeps z s) (ch : Channel) (second : Bool) : Keeps z (State.sendGroup s ch second) := by
  unfold State.sendGroup; try dsimp only
  with_reducible repeat' first | assumption | apply State.modMeas_keeps | apply State.hwCommit_keeps | apply State.modCh_keeps | split

theorem State.senseChecks_keeps {z s : State} (h : Keeps z s) (retired : Nat → Nat → Bool) : Keeps z (State.senseChecks s retired).1 := by
  unfold State.senseChecks; try dsimp only
  with_reducible repeat' first | assumption | apply State.modSmp_keeps | apply State.modSense_keeps | apply State.raise_keeps | apply keeps_foldl | intro _ | split

/-! ## Position -/

theorem State.modPos_keeps {z s : State} (h : Keeps z s) (d : Fin 2) (f : PosDie → PosDie) : Keeps z (State.modPos s d f) := by
  unfold State.modPos; try dsimp only
  with_reducible repeat' first | assumption | simp only [keeps_mk_iff]

theorem State.modPif_keeps {z s : State} (h : Keeps z s) (d : Fin 2) (k : Fin 4) (f : Pif → Pif) : Keeps z (State.modPif s d k f) := by
  unfold State.modPif; try dsimp only
  with_reducible repeat' first | assumption | apply State.modPos_keeps

theorem State.modCmp_keeps {z s : State} (h : Keeps z s) (d : Fin 2) (u : Fin 4) (f : CompareUnit → CompareUnit) : Keeps z (State.modCmp s d u f) := by
  unfold State.modCmp; try dsimp only
  with_reducible repeat' first | assumption | apply State.modPos_keeps

theorem State.publishPif_keeps {z s : State} (h : Keeps z s) (d : Fin 2) (k : Fin 4) : Keeps z (State.publishPif s d k) := by
  unfold State.publishPif; try dsimp only
  with_reducible repeat' first | assumption | apply State.hwCommit_keeps

theorem State.rejectPos_keeps {z s : State} (h : Keeps z s) (d : Fin 2) (k : Fin 4) (reason : Nat) : Keeps z (State.rejectPos s d k reason) := by
  unfold State.rejectPos; try dsimp only
  with_reducible repeat' first | assumption | apply State.publishPif_keeps | apply State.modPif_keeps | apply State.raise_keeps | split

theorem State.judgeValid_keeps {z s : State} (h : Keeps z s) (d : Fin 2) (k : Fin 4) : Keeps z (State.judgeValid s d k) := by
  unfold State.judgeValid; try dsimp only
  with_reducible repeat' first | assumption | apply State.modPif_keeps | apply State.raise_keeps | split

theorem State.judgeDir_keeps {z s : State} (h : Keeps z s) (d : Fin 2) (k : Fin 4) : Keeps z (State.judgeDir s d k) := by
  unfold State.judgeDir; try dsimp only
  with_reducible repeat' first | assumption | apply State.publishPif_keeps | apply State.modPif_keeps | apply State.raise_keeps | split

theorem State.observe_keeps {z s : State} (h : Keeps z s) (d : Fin 2) (k : Fin 4) (m : Int) (tm : Nat) : Keeps z (State.observe s d k m tm) := by
  unfold State.observe; try dsimp only
  with_reducible repeat' first | assumption | apply State.judgeDir_keeps | apply State.judgeValid_keeps | apply State.modPif_keeps

theorem State.restartObserver_keeps {z s : State} (h : Keeps z s) (d : Fin 2) (k : Fin 4) : Keeps z (State.restartObserver s d k) := by
  unfold State.restartObserver; try dsimp only
  with_reducible repeat' first | assumption | apply State.modPif_keeps

theorem State.restartPif_keeps {z s : State} (h : Keeps z s) (d : Fin 2) (k : Fin 4) : Keeps z (State.restartPif s d k) := by
  unfold State.restartPif; try dsimp only
  with_reducible repeat' first | assumption | apply State.restartObserver_keeps | apply State.modPif_keeps

theorem State.onPif_keeps {z s : State} (h : Keeps z s) (d : Fin 2) (k : Fin 4) (mode : Nat) (f : State → State) (hk : ∀ u, Keeps z u → Keeps z (f u)) : KeepsOut z (s.onPif d k mode f) := by
  unfold State.onPif; with_reducible repeat' first | apply hk | assumption | apply keepsOut_next | split

theorem State.resolverMeasure_keeps {z s : State} (h : Keeps z s) (d : Fin 2) (k : Fin 4) (t : Nat) : Keeps z (State.resolverMeasure s d k t) := by
  unfold State.resolverMeasure; try dsimp only
  with_reducible repeat' first | assumption | apply State.observe_keeps | apply State.rejectPos_keeps | apply State.modPif_keeps | split

theorem State.stateError_keeps {z s : State} (h : Keeps z s) (d : Fin 2) (k : Fin 4) : Keeps z (State.stateError s d k) := by
  unfold State.stateError; try dsimp only
  with_reducible repeat' first | assumption | apply State.modPif_keeps | apply State.raise_keeps | apply State.publishPif_keeps | simp only [keeps_mk_iff] | apply keeps_foldl | apply keeps_foldl_fst | intro _ | split

theorem State.askPosfb_keeps {z s : State} (h : Keeps z s) (c : Channel) (t : Nat) : Keeps z (State.askPosfb s c t) := by
  unfold State.askPosfb; try dsimp only
  with_reducible repeat' first | assumption | apply State.modPif_keeps | simp only [keeps_mk_iff] | apply keeps_foldl | apply keeps_foldl_fst | intro _ | split

theorem State.sendPosfb_keeps {z s : State} (h : Keeps z s) (c : Channel) (k : Fin 4) (t : Nat) : Keeps z (State.sendPosfb s c k t) := by
  unfold State.sendPosfb; try dsimp only
  with_reducible repeat' first | assumption | apply State.judgeValid_keeps | apply State.modPif_keeps | apply State.hwCommit_keeps

theorem State.sendPosfbs_keeps {z s : State} (h : Keeps z s) (c : Channel) : Keeps z (State.sendPosfbs s c) := by
  unfold State.sendPosfbs; try dsimp only
  with_reducible repeat' first | assumption | apply State.sendPosfb_keeps | apply keeps_foldl | intro _ | split

theorem State.modLane_keeps {z s : State} (h : Keeps z s) (l : EngineNo) (f : Lane → Lane) : Keeps z (State.modLane s l f) := by
  unfold State.modLane; try dsimp only
  with_reducible repeat' first | assumption | simp only [keeps_mk_iff]

theorem State.endWindow_keeps {z s : State} (h : Keeps z s) (l : EngineNo) (last hi at_ : Nat) : Keeps z (State.endWindow s l last hi at_) := by
  unfold State.endWindow; try dsimp only
  with_reducible repeat' first | assumption | apply State.modLane_keeps | simp only [keeps_mk_iff] | apply keeps_foldl | apply keeps_foldl_fst | intro _ | split

theorem State.sendLanePlan_keeps {z s : State} (h : Keeps z s) (l : EngineNo) : Keeps z (State.sendLanePlan s l) := by
  unfold State.sendLanePlan; try dsimp only
  with_reducible repeat' first | assumption | apply State.sendDie_keeps | split

theorem State.cutLane_keeps {z s : State} (h : Keeps z s) (l : EngineNo) (at_ : Nat) : Keeps z (State.cutLane s l at_) := by
  unfold State.cutLane; try dsimp only
  with_reducible repeat' first | assumption | apply State.endWindow_keeps | apply State.sendLanePlan_keeps | apply State.modLane_keeps | simp only [keeps_mk_iff] | apply keeps_foldl | apply keeps_foldl_fst | intro _ | split

theorem State.pseudoRun_keeps {z s : State} (h : Keeps z s) (writes : Kv Word) : Keeps z (State.pseudoRun s writes) := by
  unfold State.pseudoRun; try dsimp only
  with_reducible repeat' first | assumption | apply State.cutLane_keeps | apply State.modLane_keeps | apply State.fileOutcome_keeps | apply State.sendFlits_keeps | simp only [keeps_mk_iff] | apply keeps_foldl | apply keeps_foldl_fst | intro _ | split

theorem State.setupSent_keeps {z s : State} (h : Keeps z s) (off : Nat) (v : Word) : Keeps z (State.setupSent s off v) := by
  unfold State.setupSent; try dsimp only
  with_reducible repeat' first | assumption | apply State.pseudoRun_keeps | simp only [keeps_mk_iff] | apply keeps_foldl | apply keeps_foldl_fst | intro _ | split

theorem State.writeCmpCtrl_keeps {z s : State} (h : Keeps z s) (d : Fin 2) (u : Fin 4) (v : Word) : Keeps z (State.writeCmpCtrl s d u v) := by
  unfold State.writeCmpCtrl; try dsimp only
  with_reducible repeat' first | assumption | apply State.modCmp_keeps | apply State.setReg_keeps | apply State.setupSent_keeps | simp only [keeps_mk_iff] | apply keeps_foldl | apply keeps_foldl_fst | intro _ | split

theorem State.writeCmpList_keeps {z s : State} (h : Keeps z s) (d : Fin 2) (u : Fin 4) (p : Nat) (high : Bool) (v : Word) : Keeps z (State.writeCmpList s d u p high v) := by
  unfold State.writeCmpList; try dsimp only
  with_reducible repeat' first | assumption | apply State.setReg_keeps | apply State.setupSent_keeps | simp only [keeps_mk_iff] | apply keeps_foldl | apply keeps_foldl_fst | intro _ | split

theorem State.posChecks_keeps {z s : State} (h : Keeps z s) (d : Fin 2) : Keeps z (State.posChecks s d).1 := by
  unfold State.posChecks; try dsimp only
  with_reducible repeat' first | assumption | apply State.modCmp_keeps | apply State.modPif_keeps | apply State.modPos_keeps | apply State.raise_keeps | apply keeps_foldl | intro _ | split

/-! ## Protect -/

theorem State.publishProt_keeps {z s : State} (h : Keeps z s) (c : Channel) : Keeps z (State.publishProt s c) := by
  unfold State.publishProt; try dsimp only
  with_reducible repeat' first | assumption | apply State.hwCommit_keeps

theorem State.reportProt_keeps {z s : State} (h : Keeps z s) (c : Channel) (st : ProtState) : Keeps z (State.reportProt s c st) := by
  unfold State.reportProt; try dsimp only
  with_reducible repeat' first | assumption | apply State.modTahrCh_keeps | apply State.sendDie_keeps | split

theorem State.setProt_keeps {z s : State} (h : Keeps z s) (c : Channel) (st : ProtState) : Keeps z (State.setProt s c st) := by
  unfold State.setProt; try dsimp only
  with_reducible repeat' first | assumption | apply State.reportProt_keeps | apply State.publishProt_keeps | apply State.modProt_keeps

theorem State.causeOn_keeps {z s : State} (h : Keeps z s) (c : Channel) (bit : Nat) (value : Word) : Keeps z (State.causeOn s c bit value) := by
  unfold State.causeOn; try dsimp only
  with_reducible repeat' first | assumption | apply State.publishProt_keeps | apply State.modProt_keeps | apply State.raise_keeps | split

theorem State.causeOff_keeps {z s : State} (h : Keeps z s) (c : Channel) (bit : Nat) : Keeps z (State.causeOff s c bit) := by
  unfold State.causeOff; try dsimp only
  with_reducible repeat' first | assumption | apply State.publishProt_keeps | apply State.modProt_keeps | split

theorem State.linkSto_keeps {z s : State} (h : Keeps z s) (c : Channel) (on : Bool) : Keeps z (State.linkSto s c on) := by
  unfold State.linkSto; try dsimp only
  with_reducible repeat' first | assumption | simp only [keeps_mk_iff] | apply State.settle_keeps

theorem State.driveAsc_keeps {z s : State} (h : Keeps z s) (c : Channel) (on : Bool) : Keeps z (State.driveAsc s c on) := by
  unfold State.driveAsc; try dsimp only
  with_reducible repeat' first | assumption | simp only [keeps_mk_iff] | apply State.settle_keeps

theorem State.goSafe_keeps {z s : State} (h : Keeps z s) (c : Channel) (cause : Word) : Keeps z (State.goSafe s c cause) := by
  unfold State.goSafe; try dsimp only
  with_reducible repeat' first | assumption | apply State.driveAsc_keeps | apply State.linkSto_keeps | apply State.setProt_keeps | apply State.reportProt_keeps | apply State.publishProt_keeps | apply State.modProt_keeps | apply State.raise_keeps | simp only [keeps_mk_iff] | apply keeps_foldl | apply keeps_foldl_fst | intro _ | split

theorem State.enterSafe_keeps {z s : State} (h : Keeps z s) (c : Channel) (cause : Word) : Keeps z (State.enterSafe s c cause) := by
  unfold State.enterSafe; try dsimp only
  with_reducible repeat' first | assumption | apply State.goSafe_keeps | split

theorem State.protCause_keeps {z s : State} (h : Keeps z s) (c : Channel) (bit : Nat) (value : Word) : Keeps z (State.protCause s c bit value) := by
  unfold State.protCause; try dsimp only
  with_reducible repeat' first | assumption | apply State.enterSafe_keeps | apply State.causeOn_keeps | split

theorem State.showSafe_keeps {z s : State} (h : Keeps z s) (c : Channel) (st : ProtState) : Keeps z (State.showSafe s c st) := by
  unfold State.showSafe; try dsimp only
  with_reducible repeat' first | assumption | apply State.setProt_keeps | simp only [keeps_mk_iff] | apply keeps_foldl | apply keeps_foldl_fst | intro _ | split

theorem State.repeatChoice_keeps {z s : State} (h : Keeps z s) (c : Channel) : Keeps z (State.repeatChoice s c) := by
  unfold State.repeatChoice; try dsimp only
  with_reducible repeat' first | assumption | apply State.driveAsc_keeps | apply State.setProt_keeps | apply State.modProt_keeps | apply State.raise_keeps | apply State.showSafe_keeps | simp only [keeps_mk_iff] | apply keeps_foldl | apply keeps_foldl_fst | intro _ | split

theorem State.countCause_keeps {z s : State} (h : Keeps z s) (c : Channel) (k : Fin 3) (beyond : Bool) (value : Word) : Keeps z (State.countCause s c k beyond value) := by
  unfold State.countCause; try dsimp only
  with_reducible repeat' first | assumption | apply State.protCause_keeps | apply State.causeOff_keeps | apply State.modProt_keeps | split

theorem State.askSafe_keeps {z s : State} (h : Keeps z s) (c : Channel) (sto : Bool) : Keeps z (State.askSafe s c sto) := by
  unfold State.askSafe; try dsimp only
  with_reducible repeat' first | assumption | apply State.requestStop_keeps

theorem State.startDischarge_keeps {z s : State} (h : Keeps z s) (c : Channel) (byShutdown : Bool) : Keeps z (State.startDischarge s c byShutdown) := by
  unfold State.startDischarge; try dsimp only
  with_reducible repeat' first | assumption | apply State.setProt_keeps | apply State.modProt_keeps | apply State.raise_keeps | split

theorem State.endDischarge_keeps {z s : State} (h : Keeps z s) (c : Channel) : Keeps z (State.endDischarge s c) := by
  unfold State.endDischarge; try dsimp only
  with_reducible repeat' first | assumption | apply State.modProt_keeps | split

theorem State.leaveDischarge_keeps {z s : State} (h : Keeps z s) (c : Channel) (cause : Word) : Keeps z (State.leaveDischarge s c cause) := by
  unfold State.leaveDischarge; try dsimp only
  with_reducible repeat' first | assumption | apply State.goSafe_keeps | apply State.modProt_keeps | apply State.setProt_keeps | simp only [keeps_mk_iff] | apply keeps_foldl | apply keeps_foldl_fst | intro _ | split

theorem State.stopDischarge_keeps {z s : State} (h : Keeps z s) (c : Channel) (cause : Word) : Keeps z (State.stopDischarge s c cause) := by
  unfold State.stopDischarge; try dsimp only
  with_reducible repeat' first | assumption | apply State.leaveDischarge_keeps | apply State.endDischarge_keeps | apply State.askSafe_keeps | apply State.modProt_keeps

theorem State.dischargeSample_keeps {z s : State} (h : Keeps z s) (c : Channel) (udc : Word) : Keeps z (State.dischargeSample s c udc) := by
  unfold State.dischargeSample; try dsimp only
  with_reducible repeat' first | assumption | apply State.stopDischarge_keeps | apply State.leaveDischarge_keeps | apply State.endDischarge_keeps | apply State.causeOn_keeps | apply State.modProt_keeps | apply State.fresh_keeps | apply State.raise_keeps | split

theorem State.phaseSample_keeps {z s : State} (h : Keeps z s) (c : Channel) (iValid : Bool) : Keeps z (State.phaseSample s c iValid) := by
  unfold State.phaseSample; try dsimp only
  with_reducible repeat' first | assumption | apply State.modProt_keeps | split

theorem State.protOnMeas_keeps {z s : State} (h : Keeps z s) (c : Channel) : Keeps z (State.protOnMeas s c) := by
  unfold State.protOnMeas; try dsimp only
  with_reducible repeat' first | assumption | apply State.phaseSample_keeps | apply State.dischargeSample_keeps | apply State.countCause_keeps | apply State.repeatChoice_keeps | apply State.modProt_keeps | split

theorem State.protOnPosfb_keeps {z s : State} (h : Keeps z s) (c : Channel) : Keeps z (State.protOnPosfb s c) := by
  unfold State.protOnPosfb; try dsimp only
  with_reducible repeat' first | assumption | apply State.countCause_keeps | apply State.repeatChoice_keeps | split

theorem State.otMotor_keeps {z s : State} (h : Keeps z s) (d : Fin 2) (k : Nat) : Keeps z (State.otMotor s d k) := by
  unfold State.otMotor; try dsimp only
  with_reducible repeat' first | assumption | apply State.protCause_keeps | apply State.causeOff_keeps | apply State.modProt_keeps | apply keeps_foldl | intro _ | split

theorem State.otPower_keeps {z s : State} (h : Keeps z s) (c : Channel) (temps : List Word) : Keeps z (State.otPower s c temps) := by
  unfold State.otPower; try dsimp only
  with_reducible repeat' first | assumption | apply State.protCause_keeps | apply State.causeOff_keeps | split

theorem State.sendNow_keeps {z s : State} (h : Keeps z s) (t : Port) (type : Nat) (payload : List Byte) : Keeps z (State.sendNow s t type payload) := by
  unfold State.sendNow; try dsimp only
  with_reducible repeat' first | assumption | apply State.modPort_keeps | apply State.emit_keeps

theorem State.sendDown_keeps {z s : State} (h : Keeps z s) (t : Port) (type : Nat) (payload : List Byte) : Keeps z (State.sendDown s t type payload) := by
  unfold State.sendDown; try dsimp only
  with_reducible repeat' first | assumption | apply State.modPort_keeps | apply State.emit_keeps | apply State.sendNow_keeps | simp only [keeps_mk_iff] | apply keeps_foldl | apply keeps_foldl_fst | intro _ | split

theorem State.sendCmd_keeps {z s : State} (h : Keeps z s) (t : Port) (op arg : Nat) : Keeps z (State.sendCmd s t op arg) := by
  unfold State.sendCmd; try dsimp only
  with_reducible repeat' first | assumption | apply State.sendDown_keeps

theorem State.clearLatched_keeps {z s : State} (h : Keeps z s) (t : Port) : Keeps z (State.clearLatched s t) := by
  unfold State.clearLatched; try dsimp only
  with_reducible repeat' first | assumption | apply State.sendCmd_keeps | apply State.modGate_keeps | split

theorem State.grantRelease_keeps {z s : State} (h : Keeps z s) (c : Channel) : Keeps z (State.grantRelease s c) := by
  unfold State.grantRelease; try dsimp only
  with_reducible repeat' first | assumption | simp only [keeps_mk_iff] | apply State.clearLatched_keeps | apply State.driveAsc_keeps | apply State.linkSto_keeps | apply State.setProt_keeps | apply State.modTahrCh_keeps | apply State.modMod_keeps | apply State.modProt_keeps | apply State.modGate_keeps | apply State.modCh_keeps | apply State.raise_keeps | apply keeps_foldl | intro _ | split

theorem State.requestRelease_keeps {z s : State} (h : Keeps z s) (c : Channel) : Keeps z (State.requestRelease s c).1 := by
  unfold State.requestRelease; try dsimp only
  with_reducible repeat' first | assumption | apply State.grantRelease_keeps | apply State.raise_keeps | split

theorem State.missReact_keeps {z s : State} (h : Keeps z s) (c : Channel) : Keeps z (State.missReact s c) := by
  unfold State.missReact; try dsimp only
  with_reducible repeat' first | assumption | apply State.askSafe_keeps | apply State.causeOn_keeps | apply State.setProt_keeps | split

theorem State.onSs1_keeps {z s : State} (h : Keeps z s) (c : Channel) : Keeps z (State.onSs1 s c) := by
  unfold State.onSs1; try dsimp only
  with_reducible repeat' first | assumption | apply State.setProt_keeps | split

theorem State.onSto_keeps {z s : State} (h : Keeps z s) (c : Channel) : Keeps z (State.onSto s c) := by
  unfold State.onSto; try dsimp only
  with_reducible repeat' first | assumption | apply State.causeOn_keeps | apply State.setProt_keeps | split

theorem State.onSs1End_keeps {z s : State} (h : Keeps z s) (c : Channel) : Keeps z (State.onSs1End s c) := by
  unfold State.onSs1End; try dsimp only
  with_reducible repeat' first | assumption | apply State.goSafe_keeps | apply State.causeOn_keeps | split

/-! ## FrameBase -/

theorem State.nextSettings_keeps {z s : State} (h : Keeps z s) (c : Channel) : Keeps z (State.nextSettings s c) := by
  unfold State.nextSettings; try dsimp only
  with_reducible repeat' first | assumption | apply State.withSettings_keeps | split

/-! ## Modulator -/

theorem State.swapTrims_keeps {z s : State} (h : Keeps z s) (c : Channel) : Keeps z (State.swapTrims s c) := by
  unfold State.swapTrims; try dsimp only
  with_reducible repeat' first | assumption | apply State.modPort_keeps | apply keeps_foldl | intro _

theorem State.countInterlock_keeps {z s : State} (h : Keeps z s) (c : Channel) (p : Fin 6) (delay : Nat) : Keeps z (State.countInterlock s c p delay) := by
  unfold State.countInterlock; try dsimp only
  with_reducible repeat' first | assumption | apply State.modMod_keeps | apply State.raise_keeps | split

theorem State.queueHalf_keeps {z s : State} (h : Keeps z s) (c : Channel) (last : Bool) (base len : Nat) (es : Fin 6 → List EdgeEntry) : Keeps z (State.queueHalf s c last base len es) := by
  unfold State.queueHalf; try dsimp only
  with_reducible repeat' first | assumption | apply State.modMod_keeps

theorem State.doHalf_keeps {z s : State} (h : Keeps z s) (c : Channel) (resync last : Bool) (half : Bool × Nat × Nat) (ds : List Word) : Keeps z (State.doHalf s c resync last half ds) := by
  unfold State.doHalf; try dsimp only
  with_reducible repeat' first | assumption | apply State.countInterlock_keeps | apply State.modMod_keeps | apply State.queueHalf_keeps | apply keeps_foldl | simp only [keeps_mk_iff] | apply keeps_foldl_fst | intro _

theorem State.doFrame_keeps {z s : State} (h : Keeps z s) (c : Channel) (resync : Bool) (halves : List (Bool × Nat × Nat)) (work : FrameWork) : Keeps z (State.doFrame s c resync halves work) := by
  unfold State.doFrame; try dsimp only
  with_reducible repeat' first | assumption | apply State.doHalf_keeps | apply State.swapTrims_keeps | apply State.modMod_keeps | apply State.modPort_keeps | apply State.queueHalf_keeps | apply keeps_foldl | apply keeps_foldl_fst | simp only [keeps_mk_iff] | intro _ | split

theorem State.offMod_keeps {z s : State} (h : Keeps z s) (set applied : Option RefSet) (flags setTime : Nat) (program : Option (SlotCode × Nat)) : Keeps z (State.offMod s set applied flags setTime program).2 := by
  unfold State.offMod; try dsimp only
  with_reducible repeat' first | assumption | apply State.fresh_keeps

theorem State.processFrame_keeps {z s : State} (h : Keeps z s) (c : Channel) (resync : Bool) (halves : List (Bool × Nat × Nat)) (ref : Option Nat) (set : Option RefSet) (rep freewheel : Bool) (program : Option (SlotCode × Nat)) : Keeps z (State.processFrame s c resync halves ref set rep freewheel program) := by
  unfold State.processFrame; try dsimp only
  with_reducible repeat' first | assumption | apply State.offMod_keeps | apply State.doFrame_keeps | apply State.modMod_keeps | apply State.raise_keeps | simp only [keeps_mk_iff] | apply keeps_foldl | apply keeps_foldl_fst | intro _ | split

theorem State.legsBack_keeps {z s : State} (h : Keeps z s) (c : Channel) (t : Nat) : Keeps z (State.legsBack s c t) := by
  unfold State.legsBack; try dsimp only
  with_reducible repeat' first | assumption | apply State.modMod_keeps

theorem State.processNext_keeps {z s : State} (h : Keeps z s) (c : Channel) (set : Option RefSet) (rep freewheel : Bool) (program : Option (SlotCode × Nat)) : Keeps z (State.processNext s c set rep freewheel program) := by
  have h0 : Keeps z (if s.ch[c].nextLen.isSome then s.legsBack c s.ch[c].nextBoundary else s) := keeps_ite (fun _ => State.legsBack_keeps h _ _) (fun _ => h)
  refine State.modCh_keeps ⟨fun hz => ?_⟩ _ _
  have a := memWf_iff.1 (h.keeps hz)
  have h1 := fun hv ref => (State.processFrame_keeps (State.nextSettings_keeps h0 c) c false hv ref set rep freewheel program).keeps hz
  exact memWf_iff.2 ⟨a.1, (memWf_iff.1 (h1 _ _)).2⟩

theorem State.reprocess_keeps {z s : State} (h : Keeps z s) (c : Channel) : Keeps z (State.reprocess s c) := by
  unfold State.reprocess; try dsimp only
  with_reducible repeat' first | assumption | apply State.processNext_keeps | apply State.modPort_keeps | apply State.modCh_keeps | apply keeps_foldl | intro _ | split

theorem State.ownFrame_keeps {z s : State} (h : Keeps z s) (c : Channel) : Keeps z (State.ownFrame s c) := by
  unfold State.ownFrame; try dsimp only
  with_reducible repeat' first | assumption | apply State.processNext_keeps | apply State.modProt_keeps | split

/-! ## StoreBase -/

theorem State.queueKind_keeps {z s : State} (h : Keeps z s) (k : Nat) : Keeps z (State.queueKind s k) := by
  unfold State.queueKind; try dsimp only
  with_reducible repeat' first | assumption | simp only [keeps_mk_iff] | split

theorem State.modStore_keeps {z s : State} (h : Keeps z s) (f : Store → Store) : Keeps z (State.modStore s f) := by
  unfold State.modStore; try dsimp only
  with_reducible repeat' first | assumption | simp only [keeps_mk_iff]

theorem State.modBank_keeps {z s : State} (h : Keeps z s) (k : Nat) (b : Fin 2) (f : Bank → Bank) : Keeps z (State.modBank s k b f) := by
  unfold State.modBank; try dsimp only
  with_reducible repeat' first | assumption | apply State.modStore_keeps

theorem State.beginWrite_keeps {z s : State} (h : Keeps z s) (w : BankWrite) : Keeps z (State.beginWrite s w) := by
  unfold State.beginWrite; try dsimp only
  with_reducible repeat' first | assumption | apply State.modBank_keeps | apply State.modStore_keeps | split

theorem State.nextWrite_keeps {z s : State} (h : Keeps z s) : Keeps z (State.nextWrite s) := by
  unfold State.nextWrite; try dsimp only
  with_reducible repeat' first | assumption | apply State.beginWrite_keeps | apply State.modStore_keeps | split

theorem State.askWrite_keeps {z s : State} (h : Keeps z s) (w : BankWrite) : Keeps z (State.askWrite s w) := by
  unfold State.askWrite; try dsimp only
  with_reducible repeat' first | assumption | apply State.nextWrite_keeps | apply State.modStore_keeps

theorem State.writeKind_keeps {z s : State} (h : Keeps z s) (k : Nat) : Keeps z (State.writeKind s k) := by
  unfold State.writeKind; try dsimp only
  with_reducible repeat' first | assumption | apply State.nextWrite_keeps | apply State.queueKind_keeps

theorem State.putBank_keeps {z s : State} (h : Keeps z s) (w : BankWrite) : Keeps z (State.putBank s w) := by
  unfold State.putBank; try dsimp only
  with_reducible repeat' first | assumption | apply State.modBank_keeps | apply State.raise_keeps

theorem State.abortWrite_keeps {z s : State} (h : Keeps z s) : Keeps z (State.abortWrite s) := by
  unfold State.abortWrite; try dsimp only
  with_reducible repeat' first | assumption | apply State.modStore_keeps

/-! ## Tolpel -/

theorem State.portDiscard_keeps {z s : State} (h : Keeps z s) (t : Port) : Keeps z (State.portDiscard s t) := by
  unfold State.portDiscard; try dsimp only
  with_reducible repeat' first | assumption | apply State.modPort_keeps | apply State.raise_keeps | split

theorem State.portHeard_keeps {z s : State} (h : Keeps z s) (t : Port) (seq : Nat) : Keeps z (State.portHeard s t seq) := by
  unfold State.portHeard; try dsimp only
  with_reducible repeat' first | assumption | apply State.modPort_keeps

theorem State.onUp_keeps {z s : State} (h : Keeps z s) (t : Port) (type : Nat) (body : List Byte) (valid : Bool) (k : State → List Byte → State) (hk : ∀ u q, Keeps z u → Keeps z (k u q)) : Keeps z (s.onUp t type body valid k) := by
  unfold State.onUp; with_reducible repeat' first | apply hk | assumption | apply State.portHeard_keeps | apply State.portDiscard_keeps | split

theorem State.sendUp_keeps {z s : State} (h : Keeps z s) (t : Port) (type : Nat) (payload : List Byte) : Keeps z (State.sendUp s t type payload) := by
  unfold State.sendUp; try dsimp only
  with_reducible repeat' first | assumption | apply State.modSat_keeps | apply State.emit_keeps

theorem State.satDiscard_keeps {z s : State} (h : Keeps z s) (t : Port) : Keeps z (State.satDiscard s t) := by
  unfold State.satDiscard; try dsimp only
  with_reducible repeat' first | assumption | apply State.modSat_keeps

theorem State.satHeard_keeps {z s : State} (h : Keeps z s) (t : Port) (seq : Nat) : Keeps z (State.satHeard s t seq) := by
  unfold State.satHeard; try dsimp only
  with_reducible repeat' first | assumption | apply State.modSat_keeps

theorem State.onDown_keeps {z s : State} (h : Keeps z s) (t : Port) (type : Nat) (body : List Byte) (valid : Bool) (ok : List Byte → Bool) (k : State → List Byte → State) (hk : ∀ u q, Keeps z u → Keeps z (k u q)) : Keeps z (s.onDown t type body valid ok k) := by
  unfold State.onDown; with_reducible repeat' first | apply hk | assumption | apply State.satHeard_keeps | apply State.satDiscard_keeps | split

theorem State.onCmd_keeps {z s : State} (h : Keeps z s) (t : Port) (op : Nat) (body : List Byte) (valid : Bool) (k : State → Nat → State) (hk : ∀ u q, Keeps z u → Keeps z (k u q)) : Keeps z (s.onCmd t op body valid k) := by
  unfold State.onCmd; with_reducible repeat' first | apply hk | assumption | apply State.onDown_keeps | intro _ | split

theorem State.takeEdge_keeps {z s : State} (h : Keeps z s) (t : Port) (p : List Byte) : Keeps z (State.takeEdge s t p) := by
  unfold State.takeEdge; try dsimp only
  with_reducible repeat' first | assumption | apply State.satDiscard_keeps | apply State.modSat_keeps | split

theorem State.takeMark_keeps {z s : State} (h : Keeps z s) (t : Port) (p : List Byte) : Keeps z (State.takeMark s t p) := by
  unfold State.takeMark; try dsimp only
  with_reducible repeat' first | assumption | apply State.modSat_keeps

theorem State.sendTelem_keeps {z s : State} (h : Keeps z s) (t : Port) (meas : List DieMeas) : Keeps z (State.sendTelem s t meas) := by
  unfold State.sendTelem; try dsimp only
  with_reducible repeat' first | assumption | apply State.sendUp_keeps | apply State.modSat_keeps

theorem State.latchDie_keeps {z s : State} (h : Keeps z s) (t : Port) (m : BitVec 16) (cause : Nat) : Keeps z (State.latchDie s t m cause) := by
  unfold State.latchDie; try dsimp only
  with_reducible repeat' first | assumption | apply State.modSat_keeps | apply State.emit_keeps

/-! ## GateArrays -/

theorem State.publishPos_keeps {z s : State} (h : Keeps z s) (t : Port) : Keeps z (State.publishPos s t) := by
  unfold State.publishPos; try dsimp only
  with_reducible repeat' first | assumption | apply State.modGate_keeps | apply State.hwCommit_keeps | split

theorem State.gateCause_keeps {z s : State} (h : Keeps z s) (c : Channel) : Keeps z (State.gateCause s c) := by
  unfold State.gateCause; try dsimp only
  with_reducible repeat' first | assumption | apply State.protCause_keeps

theorem State.enterTime_keeps {z s : State} (h : Keeps z s) (t : Port) : Keeps z (State.enterTime s t) := by
  unfold State.enterTime; try dsimp only
  with_reducible repeat' first | assumption | apply State.sendCmd_keeps | apply State.modPort_keeps | split

theorem State.portDown_keeps {z s : State} (h : Keeps z s) (t : Port) : Keeps z (State.portDown s t) := by
  unfold State.portDown; try dsimp only
  with_reducible repeat' first | assumption | apply State.modPort_keeps

theorem State.linkLoss_keeps {z s : State} (h : Keeps z s) (t : Port) (cause : Nat) : Keeps z (State.linkLoss s t cause) := by
  unfold State.linkLoss; try dsimp only
  with_reducible repeat' first | assumption | apply State.portDown_keeps | apply State.enterTime_keeps | apply State.gateCause_keeps | apply State.publishPos_keeps | apply State.modGate_keeps | apply State.raise_keeps | split

theorem State.portReady_keeps {z s : State} (h : Keeps z s) (t : Port) : Keeps z (State.portReady s t) := by
  unfold State.portReady; try dsimp only
  with_reducible repeat' first | assumption | apply State.publishPos_keeps | apply State.sendCmd_keeps | apply State.modGate_keeps | apply State.modPort_keeps | apply State.raise_keeps | split

theorem State.takeIdent_keeps {z s : State} (h : Keeps z s) (t : Port) (p : List Byte) : Keeps z (State.takeIdent s t p) := by
  unfold State.takeIdent; try dsimp only
  with_reducible repeat' first | assumption | apply State.enterTime_keeps | apply State.sendCmd_keeps | apply State.modPort_keeps | apply State.raise_keeps | split

theorem State.takeEcho_keeps {z s : State} (h : Keeps z s) (t : Port) (p : List Byte) : Keeps z (State.takeEcho s t p) := by
  unfold State.takeEcho; try dsimp only
  with_reducible repeat' first | assumption | apply State.portReady_keeps | apply State.linkLoss_keeps | apply State.modPort_keeps | apply State.raise_keeps | split

theorem State.judgeTelem_keeps {z s : State} (h : Keeps z s) (c : Channel) (start : Nat) : Keeps z (State.judgeTelem s c start) := by
  unfold State.judgeTelem; try dsimp only
  with_reducible repeat' first | assumption | apply State.linkLoss_keeps | apply State.modPort_keeps | apply keeps_foldl | intro _ | split

theorem State.balLimitEvent_keeps {z s : State} (h : Keeps z s) (t : Port) (dies : BitVec 16) : Keeps z (State.balLimitEvent s t dies) := by
  unfold State.balLimitEvent; try dsimp only
  with_reducible repeat' first | assumption | apply State.modGate_keeps | apply State.raise_keeps | split

theorem State.balance_keeps {z s : State} (h : Keeps z s) (t : Port) (iDies : List (Fin 16 × Word)) (iPos : Word) : Keeps z (State.balance s t iDies iPos) := by
  unfold State.balance; try dsimp only
  with_reducible repeat' first | assumption | apply State.modGate_keeps | split

theorem State.sendTrims_keeps {z s : State} (h : Keeps z s) (t : Port) (ds : List (Fin 16)) : Keeps z (State.sendTrims s t ds) := by
  unfold State.sendTrims; try dsimp only
  with_reducible repeat' first | assumption | apply State.sendDown_keeps | apply State.modPort_keeps | apply keeps_foldl | intro _

theorem State.retrim_keeps {z s : State} (h : Keeps z s) (t : Port) : Keeps z (State.retrim s t) := by
  unfold State.retrim; try dsimp only
  with_reducible repeat' first | assumption | apply State.sendTrims_keeps | apply State.modPort_keeps | split

theorem State.checkShadow_keeps {z s : State} (h : Keeps z s) (t : Port) (shadow : Nat) : Keeps z (State.checkShadow s t shadow) := by
  unfold State.checkShadow; try dsimp only
  with_reducible repeat' first | assumption | apply State.retrim_keeps | apply State.sendTrims_keeps | apply State.modPort_keeps | split

theorem State.publishDies_keeps {z s : State} (h : Keeps z s) (t : Port) (recs : List (Fin 16 × Int × Nat × Int × Nat)) (iPos : Word) : Keeps z (State.publishDies s t recs iPos) := by
  unfold State.publishDies; try dsimp only
  with_reducible repeat' first | assumption | apply State.hwCommit_keeps | apply State.fresh_keeps | apply keeps_foldl | intro _

theorem State.telemDies_keeps {z s : State} (h : Keeps z s) (t : Port) (p : List Byte) : Keeps z (State.telemDies s t p) := by
  unfold State.telemDies; try dsimp only
  with_reducible repeat' first | assumption | apply State.publishDies_keeps | apply State.balance_keeps | apply State.balLimitEvent_keeps | apply State.publishPos_keeps | apply State.otPower_keeps | apply State.modGate_keeps | split

theorem State.takeTelem_keeps {z s : State} (h : Keeps z s) (t : Port) (p : List Byte) : Keeps z (State.takeTelem s t p) := by
  unfold State.takeTelem; try dsimp only
  with_reducible repeat' first | assumption | apply State.telemDies_keeps | apply State.checkShadow_keeps | apply State.linkLoss_keeps | apply State.modPort_keeps | split

theorem State.judgeFloor_keeps {z s : State} (h : Keeps z s) (t : Port) : Keeps z (State.judgeFloor s t) := by
  unfold State.judgeFloor; try dsimp only
  with_reducible repeat' first | assumption | apply State.gateCause_keeps | apply State.publishPos_keeps | apply State.askSafe_keeps | apply State.modGate_keeps | apply State.raise_keeps | split

theorem State.judgeFloors_keeps {z s : State} (h : Keeps z s) : Keeps z (State.judgeFloors s) := by
  unfold State.judgeFloors; try dsimp only
  with_reducible repeat' first | assumption | simp only [keeps_mk_iff]

theorem State.retireDie_keeps {z s : State} (h : Keeps z s) (t : Port) (d : Nat) (cause : Nat) (temp : Int) : Keeps z (State.retireDie s t d cause temp) := by
  unfold State.retireDie; try dsimp only
  with_reducible repeat' first | assumption | simp only [keeps_mk_iff] | apply State.judgeFloor_keeps | apply State.publishPos_keeps | apply State.writeKind_keeps | apply State.sendCmd_keeps | apply State.modGate_keeps | apply State.raise_keeps

theorem State.takeFault_keeps {z s : State} (h : Keeps z s) (t : Port) (mask : BitVec 16) (cause : Nat) : Keeps z (State.takeFault s t mask cause) := by
  unfold State.takeFault; try dsimp only
  with_reducible repeat' first | assumption | apply State.publishPos_keeps | apply State.modGate_keeps | apply State.hwCommit_keeps | apply State.raise_keeps | apply keeps_foldl | intro _ | split

theorem State.decideFault_keeps {z s : State} (h : Keeps z s) (t : Port) (r : DieFaultRec) : Keeps z (State.decideFault s t r) := by
  unfold State.decideFault; try dsimp only
  with_reducible repeat' first | assumption | apply State.retireDie_keeps | apply State.gateCause_keeps | apply State.publishPos_keeps | apply State.modGate_keeps | apply State.raise_keeps | apply keeps_foldl | intro _ | split

theorem State.writeIFactor_keeps {z s : State} (h : Keeps z s) (c : Channel) : Keeps z (State.writeIFactor s c) := by
  unfold State.writeIFactor; try dsimp only
  with_reducible repeat' first | assumption | apply State.modProt_keeps | apply State.hwCommit_keeps | apply State.raise_keeps | split

/-! ## Lanes -/

theorem State.cutLanes_keeps {z s : State} (h : Keeps z s) (at_ : Nat) : Keeps z (State.cutLanes s at_) := by
  unfold State.cutLanes; try dsimp only
  with_reducible repeat' first | assumption | apply State.cutLane_keeps | apply keeps_foldl | intro _

theorem State.laneBoundary_keeps {z s : State} (h : Keeps z s) (c : Channel) : Keeps z (State.laneBoundary s c) := by
  unfold State.laneBoundary; try dsimp only
  with_reducible repeat' first | assumption | apply State.cutLanes_keeps | apply State.cutLane_keeps | apply State.endWindow_keeps | apply keeps_foldl | intro _ | split

/-! ## Frames -/

theorem State.publishSync_keeps {z s : State} (h : Keeps z s) (c : Channel) : Keeps z (State.publishSync s c) := by
  unfold State.publishSync; try dsimp only
  with_reducible repeat' first | assumption | apply State.hwCommit_keeps | apply keeps_foldl | intro _

theorem State.finishMode_keeps {z s : State} (h : Keeps z s) (desc : Nat × Nat) : Keeps z (State.finishMode s desc) := by
  unfold State.finishMode; try dsimp only
  with_reducible repeat' first | assumption | simp only [keeps_mk_iff] | apply State.complete_keeps | split

theorem State.applySettings_keeps {z s : State} (h : Keeps z s) (c : Channel) (frame : Nat) : Keeps z (State.applySettings s c frame) := by
  unfold State.applySettings; try dsimp only
  with_reducible repeat' first | assumption | apply State.finishMode_keeps | apply State.withSettings_keeps | apply State.modCh_keeps | split

theorem State.sendHolds_keeps {z s : State} (h : Keeps z s) (c : Channel) (tb : Nat) : Keeps z (State.sendHolds s c tb) := by
  unfold State.sendHolds; try dsimp only
  with_reducible repeat' first | assumption | apply State.emit_keeps | apply keeps_foldl | intro _ | split

theorem State.sendResync_keeps {z s : State} (h : Keeps z s) (c : Channel) (tb : Nat) : Keeps z (State.sendResync s c tb) := by
  unfold State.sendResync; try dsimp only
  with_reducible repeat' first | assumption | apply State.emit_keeps

theorem State.markJumps_keeps {z s : State} (h : Keeps z s) (l : Channel) (v : Nat) : Keeps z (State.markJumps s l v) := by
  unfold State.markJumps; try dsimp only
  with_reducible repeat' first | assumption | apply State.sendResync_keeps | apply State.sendHolds_keeps | apply State.modCh_keeps | apply State.withSettings_keeps | apply State.reprocess_keeps | apply keeps_foldl | simp only [keeps_mk_iff] | apply keeps_foldl_fst | intro _ | split

theorem State.armOne_keeps {z s : State} (h : Keeps z s) (c : Channel) (tb : Nat) (e : Int) (commanded : Bool) : Keeps z (State.armOne s c tb e commanded) := by
  unfold State.armOne; try dsimp only
  with_reducible repeat' first | assumption | apply State.sendResync_keeps | apply State.sendHolds_keeps | apply State.modCh_keeps

theorem State.armResync_keeps {z s : State} (h : Keeps z s) (c : Channel) (tb : Nat) (e : Int) (commanded : Bool) : Keeps z (State.armResync s c tb e commanded) := by
  unfold State.armResync; try dsimp only
  with_reducible repeat' first | assumption | apply State.armOne_keeps | apply keeps_foldl | intro _

theorem State.discardRunAt_keeps {z s : State} (h : Keeps z s) (slot : SlotCode) (c : Channel) (tb k : Nat) : Keeps z (State.discardRunAt s slot c tb k) := by
  unfold State.discardRunAt; try dsimp only
  with_reducible repeat' first | assumption | apply State.abortRun_keeps | apply State.notRun_keeps | apply State.verdict_keeps | split

theorem State.discardAt_keeps {z s : State} (h : Keeps z s) (c : Channel) (tb : Nat) : Keeps z (State.discardAt s c tb) := by
  unfold State.discardAt; try dsimp only
  with_reducible repeat' first | assumption | apply State.discardRunAt_keeps | apply keeps_foldl | simp only [keeps_mk_iff] | apply keeps_foldl_fst | intro _ | split

theorem State.restartFilters_keeps {z s : State} (h : Keeps z s) (c : Channel) : Keeps z (State.restartFilters s c) := by
  unfold State.restartFilters; try dsimp only
  with_reducible repeat' first | assumption | apply State.modMeas_keeps | apply State.modSdm_keeps | apply State.modCh_keeps | apply keeps_foldl | intro _ | split

theorem State.nextMod_keeps {z s : State} (h : Keeps z s) (c : Channel) : Keeps z (State.nextMod s c).2 := by
  unfold State.nextMod; try dsimp only
  with_reducible repeat' first | assumption | apply State.offMod_keeps | simp only [keeps_mk_iff] | apply keeps_foldl | apply keeps_foldl_fst | intro _ | split

theorem State.publishMod_keeps {z s : State} (h : Keeps z s) (c : Channel) (b : Nat) : Keeps z (State.publishMod s c b) := by
  unfold State.publishMod; try dsimp only
  with_reducible repeat' first | assumption | apply State.publishSwitching_keeps | apply State.modMod_keeps | apply State.finishSwap_keeps | apply State.publishMiss_keeps | apply State.hwCommit_keeps | apply State.modCh_keeps | apply State.nextMod_keeps | apply keeps_foldl | simp only [keeps_mk_iff] | apply keeps_foldl_fst | intro _ | split

theorem State.publishFrame_keeps {z s : State} (h : Keeps z s) (c : Channel) : Keeps z (State.publishFrame s c) := by
  unfold State.publishFrame; try dsimp only
  with_reducible repeat' first | assumption | apply State.hwCommit_keeps

theorem State.syncOut_keeps {z s : State} (h : Keeps z s) (c : Channel) : Keeps z (State.syncOut s c) := by
  unfold State.syncOut; try dsimp only
  with_reducible repeat' first | assumption | simp only [keeps_mk_iff] | split

theorem State.sendFrameMsgs_keeps {z s : State} (h : Keeps z s) (c : Channel) : Keeps z (State.sendFrameMsgs s c) := by
  unfold State.sendFrameMsgs; try dsimp only
  with_reducible repeat' first | assumption | apply State.emit_keeps

theorem State.setInvalid_keeps {z s : State} (h : Keeps z s) (c : Channel) (n : Nat) : Keeps z (State.setInvalid s c n) := by
  unfold State.setInvalid; try dsimp only
  with_reducible repeat' first | assumption | apply State.protCause_keeps | apply State.hwCommit_keeps | apply State.modCh_keeps | apply State.raise_keeps | split

theorem State.releaseResync_keeps {z s : State} (h : Keeps z s) (c : Channel) (now : Nat) : Keeps z (State.releaseResync s c now) := by
  unfold State.releaseResync; try dsimp only
  with_reducible repeat' first | assumption | apply State.armResync_keeps | apply State.modCh_keeps | split

theorem State.completeArmed_keeps {z s : State} (h : Keeps z s) (c : Channel) (status detail : Nat) (result : Word) : Keeps z (State.completeArmed s c status detail result) := by
  unfold State.completeArmed; try dsimp only
  with_reducible repeat' first | assumption | apply State.complete_keeps | apply State.modCh_keeps | apply keeps_foldl | intro _

theorem State.armTimer_keeps {z s : State} (h : Keeps z s) (c : Channel) : Keeps z (State.armTimer s c) := by
  unfold State.armTimer; try dsimp only
  with_reducible repeat' first | assumption | simp only [keeps_mk_iff] | split

theorem State.dropTimers_keeps {z s : State} (h : Keeps z s) (c : Channel) (tb : Nat) : Keeps z (State.dropTimers s c tb) := by
  unfold State.dropTimers; try dsimp only
  with_reducible repeat' first | assumption | simp only [keeps_mk_iff]

theorem State.divChange_keeps {z s : State} (h : Keeps z s) (d : CtrlId) (c : Channel) (k : SlotCode) (on : Bool) : Keeps z (State.divChange s d c k on) := by
  unfold State.divChange; try dsimp only
  with_reducible repeat' first | assumption | apply State.modSlot_keeps

theorem State.divChanges_keeps {z s : State} (h : Keeps z s) (c : Channel) : Keeps z (State.divChanges s c) := by
  unfold State.divChanges
  refine keeps_foldl (fun v x hv => ?_) h
  dsimp only
  generalize (if (v.slotOf .a x).state = SlotState.active ∧ (v.slotOf .a x).channel = c then (v.slotOf .a x).divChange else none) = a
  have hb : ∀ b : Option Bool, Keeps z (match b with
      | some on => v.divChange .b c x on
      | none => v) := fun b => by
    cases b with
    | none => exact hv
    | some on => exact State.divChange_keeps hv _ _ _ _
  cases a with
  | none => exact hb _
  | some on => exact keeps_ite (fun _ => State.setStep_keeps (State.divChange_keeps (hb _) _ _ _ _) _) (fun _ => State.divChange_keeps (hb _) _ _ _ _)

theorem State.boundaryDue_keeps {z s : State} (h : Keeps z s) (c : Channel) : Keeps z (State.boundaryDue s c) := by
  unfold State.boundaryDue; try dsimp only
  with_reducible repeat' first | assumption | apply State.divChanges_keeps | apply State.missReact_keeps | apply State.failSwaps_keeps | apply State.programBoundary_keeps | apply State.publishMiss_keeps | apply State.setStep_keeps | apply State.modCh_keeps | apply State.raise_keeps | apply State.laneBoundary_keeps | simp only [keeps_mk_iff] | apply keeps_foldl | apply keeps_foldl_fst | intro _ | split

theorem State.sendEdges_keeps {z s : State} (h : Keeps z s) (c : Channel) : Keeps z (State.sendEdges s c) := by
  unfold State.sendEdges; try dsimp only
  with_reducible repeat' first | assumption | apply State.modMod_keeps | apply State.sendNow_keeps | apply State.modPort_keeps | simp only [keeps_mk_iff] | apply keeps_foldl | apply keeps_foldl_fst | intro _ | split

theorem State.judgeFresh_keeps {z s : State} (h : Keeps z s) (c : Channel) (b : Nat) : Keeps z (State.judgeFresh s c b) := by
  unfold State.judgeFresh; try dsimp only
  with_reducible repeat' first | assumption | apply State.hwCommit_keeps | apply State.raise_keeps | split

theorem State.atBoundary_keeps {z s : State} (h : Keeps z s) (c : Channel) (b : Nat) : Keeps z (State.atBoundary s c b) := by
  unfold State.atBoundary; try dsimp only
  with_reducible repeat' first | assumption | apply State.boundaryDue_keeps | apply State.writeIFactor_keeps | apply State.judgeFresh_keeps | apply State.publishProt_keeps | simp only [keeps_mk_iff] | apply keeps_foldl | apply keeps_foldl_fst | intro _ | split

theorem State.announce_keeps {z s : State} (h : Keeps z s) (c : Channel) : Keeps z (State.announce s c) := by
  unfold State.announce; try dsimp only
  with_reducible repeat' first | assumption | apply State.syncOut_keeps | apply State.sendFrameMsgs_keeps | apply State.armTimer_keeps

theorem State.resyncAtTb_keeps {z s : State} (h : Keeps z s) (c : Channel) (tb : Nat) (e : Int) (commanded : Bool) : Keeps z (State.resyncAtTb s c tb e commanded) := by
  unfold State.resyncAtTb; try dsimp only
  with_reducible repeat' first | assumption | apply State.boundaryDue_keeps | apply State.dropTimers_keeps | apply State.armTimer_keeps | apply State.completeArmed_keeps | apply State.setInvalid_keeps | apply State.sendFrameMsgs_keeps | apply State.syncOut_keeps | apply State.publishFrame_keeps | apply State.publishMod_keeps | apply State.restartFilters_keeps | apply State.discardAt_keeps | apply State.laneBoundary_keeps | apply State.writeIFactor_keeps | apply State.processFrame_keeps | apply State.modMod_keeps | apply State.modCh_keeps | apply State.raise_keeps | apply State.applySettings_keeps | apply State.legsBack_keeps | apply State.sendEdges_keeps | apply State.markJumps_keeps | apply State.atBoundary_keeps | apply State.announce_keeps | apply keeps_ite | simp only [keeps_mk_iff] | apply keeps_foldl | apply keeps_foldl_fst | intro _

theorem State.commandResync_keeps {z s : State} (h : Keeps z s) (c : Channel) (desc : Option (Nat × Nat)) : Keeps z (State.commandResync s c desc) := by
  unfold State.commandResync; try dsimp only
  with_reducible repeat' first | assumption | apply State.releaseResync_keeps | apply State.modCh_keeps

theorem State.loseSync_keeps {z s : State} (h : Keeps z s) (c : Channel) : Keeps z (State.loseSync s c) := by
  unfold State.loseSync; try dsimp only
  with_reducible repeat' first | assumption | apply State.publishSync_keeps | apply State.modCh_keeps | apply State.raise_keeps

theorem State.missEdge_keeps {z s : State} (h : Keeps z s) (c : Channel) (payload : Word) : Keeps z (State.missEdge s c payload) := by
  unfold State.missEdge; try dsimp only
  with_reducible repeat' first | assumption | apply State.loseSync_keeps | apply State.modCh_keeps | apply State.raise_keeps | split

theorem State.steer_keeps {z s : State} (h : Keeps z s) (c : Channel) (e : Int) : Keeps z (State.steer s c e) := by
  unfold State.steer; try dsimp only
  with_reducible repeat' first | assumption | apply State.modCh_keeps

theorem State.missTarget_keeps {z s : State} (h : Keeps z s) (c : Channel) (m : Nat) (payload : Word) : Keeps z (State.missTarget s c m payload) := by
  unfold State.missTarget; try dsimp only
  with_reducible repeat' first | assumption | apply State.missEdge_keeps | apply State.modCh_keeps | split

theorem State.syncEdge_keeps {z s : State} (h : Keeps z s) (c : Channel) (t : Nat) : Keeps z (State.syncEdge s c t) := by
  unfold State.syncEdge; try dsimp only
  with_reducible repeat' first | assumption | apply State.missTarget_keeps | apply State.steer_keeps | apply State.armResync_keeps | apply State.publishSync_keeps | apply State.modCh_keeps | apply State.raise_keeps | apply keeps_ite | intro _

theorem State.startFrame_keeps {z s : State} (h : Keeps z s) (c : Channel) (len plain : Nat) (valley : Bool) : Keeps z (State.startFrame s c len plain valley) := by
  unfold State.startFrame; try dsimp only
  with_reducible repeat' first | assumption | apply State.modCh_keeps

theorem State.judgeCurrent_keeps {z s : State} (h : Keeps z s) (c : Channel) (x0 : ChanTime) : Keeps z (State.judgeCurrent s c x0) := by
  unfold State.judgeCurrent; try dsimp only
  with_reducible repeat' first | assumption | apply State.setInvalid_keeps | simp only [keeps_mk_iff] | apply keeps_foldl | apply keeps_foldl_fst | intro _ | split

theorem State.boundary_keeps {z s : State} (h : Keeps z s) (c : Channel) : Keeps z (State.boundary s c) := by
  unfold State.boundary; try dsimp only
  with_reducible repeat' first | assumption | apply State.startFrame_keeps | apply State.judgeFresh_keeps | apply State.resyncAtTb_keeps | apply State.boundaryDue_keeps | apply State.armTimer_keeps | apply State.releaseResync_keeps | apply State.setInvalid_keeps | apply State.sendFrameMsgs_keeps | apply State.syncOut_keeps | apply State.publishFrame_keeps | apply State.publishMod_keeps | apply State.markJumps_keeps | apply State.applySettings_keeps | apply State.laneBoundary_keeps | apply State.writeIFactor_keeps | apply State.judgeTelem_keeps | apply State.publishProt_keeps | apply State.modCh_keeps | apply State.withSettings_keeps | apply State.judgeCurrent_keeps | apply State.atBoundary_keeps | apply State.announce_keeps | simp only [keeps_mk_iff] | apply keeps_ite | rfl | apply keeps_foldl | apply keeps_foldl_fst | intro _ | split

theorem State.startCarrier_keeps {z s : State} (h : Keeps z s) (c : Channel) : Keeps z (State.startCarrier s c) := by
  unfold State.startCarrier; try dsimp only
  with_reducible repeat' first | assumption | apply State.armTimer_keeps | apply State.setInvalid_keeps | apply State.sendFrameMsgs_keeps | apply State.syncOut_keeps | apply State.publishFrame_keeps | apply State.writeIFactor_keeps | apply State.modCh_keeps | apply State.withSettings_keeps | apply State.applySettings_keeps | apply State.processFrame_keeps | apply State.sendEdges_keeps | apply State.publishMod_keeps | apply State.markJumps_keeps | apply State.atBoundary_keeps | apply State.announce_keeps | apply keeps_ite | simp only [keeps_mk_iff] | apply keeps_foldl | apply keeps_foldl_fst | intro _

theorem State.skipRuns_keeps {z s : State} (h : Keeps z s) (c : Channel) (k ref : Nat) : Keeps z (State.skipRuns s c k ref) := by
  unfold State.skipRuns; try dsimp only
  with_reducible repeat' first | assumption | apply State.notRun_keeps | apply State.verdict_keeps | apply State.modSlot_keeps | apply keeps_foldl | intro _ | split

theorem State.lostSchedule_keeps {z s : State} (h : Keeps z s) (c : Channel) (k t : Nat) : Keeps z (State.lostSchedule s c k t) := by
  unfold State.lostSchedule; try dsimp only
  with_reducible repeat' first | assumption | apply State.modMeas_keeps | apply State.raise_keeps

theorem State.dieFaultDrives_keeps {z s : State} (h : Keeps z s) (d : Die) : Keeps z (State.dieFaultDrives s d) := by
  unfold State.dieFaultDrives; try dsimp only
  with_reducible repeat' first | assumption | apply State.protCause_keeps | apply State.modProt_keeps | apply keeps_foldl | intro _

/-! ## Lockstep -/

theorem State.dsOsc_keeps {z s : State} (h : Keeps z s) (slot : SlotCode) (loop freq win : Nat) (wasFallback : Bool) : Keeps z (State.dsOsc s slot loop freq win wasFallback) := by
  unfold State.dsOsc; try dsimp only
  with_reducible repeat' first | assumption | apply State.raise_keeps

theorem State.dsClamped_keeps {z s : State} (h : Keeps z s) (slot : SlotCode) (group : Nat) (status : Word) : Keeps z (State.dsClamped s slot group status) := by
  unfold State.dsClamped; try dsimp only
  with_reducible repeat' first | assumption | apply State.modSlot_keeps | apply State.raise_keeps | split

theorem State.dsCleared_keeps {z s : State} (h : Keeps z s) (slot : SlotCode) (before after : DsState) (old : Word) (mask : Word) : Keeps z (State.dsCleared s slot before after old mask) := by
  unfold State.dsCleared; try dsimp only
  with_reducible repeat' first | assumption | apply State.raise_keeps | simp only [keeps_mk_iff] | apply keeps_foldl | apply keeps_foldl_fst | intro _ | split

theorem State.dsSs1_keeps {z s : State} (h : Keeps z s) (c : Channel) (loop : Nat) : Keeps z (State.dsSs1 s c loop) := by
  unfold State.dsSs1; try dsimp only
  with_reducible repeat' first | assumption | apply State.requestStop_keeps | apply State.raise_keeps

theorem State.dsInnerStatus_keeps {z s : State} (h : Keeps z s) (slot : SlotCode) (c : Channel) (before : DsState) (old : Word) : Keeps z (State.dsInnerStatus s slot c before old) := by
  unfold State.dsInnerStatus; try dsimp only
  with_reducible repeat' first | assumption | apply State.dsSs1_keeps | apply State.dsCleared_keeps | apply State.dsClamped_keeps | apply State.dsOsc_keeps | apply State.protCause_keeps | apply State.raise_keeps | simp only [keeps_mk_iff] | apply keeps_foldl | apply keeps_foldl_fst | intro _ | split

theorem State.dsOuterStatus_keeps {z s : State} (h : Keeps z s) (slot : SlotCode) (c : Channel) (before : DsState) (old : Word) : Keeps z (State.dsOuterStatus s slot c before old) := by
  unfold State.dsOuterStatus; try dsimp only
  with_reducible repeat' first | assumption | apply State.dsSs1_keeps | apply State.dsCleared_keeps | apply State.dsClamped_keeps | apply State.dsOsc_keeps | apply State.raise_keeps | apply keeps_ite | simp only [keeps_mk_iff] | apply keeps_foldl | apply keeps_foldl_fst | intro _

theorem State.afterCommit_keeps {z s : State} (h : Keeps z s) (s0 : State) (slot : SlotCode) : Keeps z (s0.afterCommit s slot) := by
  unfold State.afterCommit; try dsimp only
  with_reducible repeat' first | assumption | apply State.dsOuterStatus_keeps | apply State.dsInnerStatus_keeps | split

theorem State.lockstepStop_keeps {z s : State} (h : Keeps z s) (mask : BitVec 8) : Keeps z (State.lockstepStop s mask) := by
  unfold State.lockstepStop; try dsimp only
  with_reducible repeat' first | assumption | apply State.modTahrCh_keeps | apply keeps_foldl | intro _ | split

theorem State.lockEvent_keeps {z s : State} (h : Keeps z s) (l : EngineNo) (w : Channel) (frame : Nat) (missing : Bool) (mask : BitVec 8) (last : Nat) : Keeps z (State.lockEvent s l w frame missing mask last) := by
  unfold State.lockEvent; try dsimp only
  with_reducible repeat' first | assumption | simp only [keeps_mk_iff] | apply State.lockstepStop_keeps | apply State.raise_keeps | split

theorem State.dropWindow_keeps {z s : State} (h : Keeps z s) (l : EngineNo) (w : LockWindow) : Keeps z (State.dropWindow s l w) := by
  unfold State.dropWindow; try dsimp only
  with_reducible repeat' first | assumption | apply State.modLane_keeps

theorem State.mismatchAll_keeps {z s : State} (h : Keeps z s) : Keeps z (State.mismatchAll s) := by
  unfold State.mismatchAll; try dsimp only
  with_reducible repeat' first | assumption | apply State.lockEvent_keeps | apply State.fresh_keeps | apply keeps_foldl | intro _

theorem State.lockLost_keeps {z s : State} (h : Keeps z s) : Keeps z (State.lockLost s) := by
  unfold State.lockLost; try dsimp only
  with_reducible repeat' first | assumption | simp only [keeps_mk_iff] | apply State.mismatchAll_keeps | split

/-! ## Deliveries -/

theorem State.judgeNtc_keeps {z s : State} (h : Keeps z s) (d : Fin 2) (c e : Nat) : Keeps z (State.judgeNtc s d c e) := by
  unfold State.judgeNtc; try dsimp only
  with_reducible repeat' first | assumption | apply State.otMotor_keeps | apply keeps_foldl | intro _ | split

theorem State.chamoisLoss_keeps {z s : State} (h : Keeps z s) (cause : Nat) : Keeps z (State.chamoisLoss s cause) := by
  unfold State.chamoisLoss; try dsimp only
  with_reducible repeat' first | assumption | simp only [keeps_mk_iff] | apply State.settle_keeps | apply State.raise_keeps | split

/-! ## Tahr -/

theorem State.modTahr_keeps {z s : State} (h : Keeps z s) (f : Tahr → Tahr) : Keeps z (State.modTahr s f) := by
  unfold State.modTahr; try dsimp only
  with_reducible repeat' first | assumption | simp only [keeps_mk_iff]

theorem State.modSiPair_keeps {z s : State} (h : Keeps z s) (k : Fin 16) (f : SiPair → SiPair) : Keeps z (State.modSiPair s k f) := by
  unfold State.modSiPair; try dsimp only
  with_reducible repeat' first | assumption | apply State.modTahr_keeps

theorem State.modFn_keeps {z s : State} (h : Keeps z s) (k : Fin 16) (f : SafetyFn → SafetyFn) : Keeps z (State.modFn s k f) := by
  unfold State.modFn; try dsimp only
  with_reducible repeat' first | assumption | apply State.modTahr_keeps

theorem State.modSo_keeps {z s : State} (h : Keeps z s) (k : Fin 4) (f : SafetyOut → SafetyOut) : Keeps z (State.modSo s k f) := by
  unfold State.modSo; try dsimp only
  with_reducible repeat' first | assumption | apply State.modTahr_keeps

theorem State.modChamois_keeps {z s : State} (h : Keeps z s) (f : Chamois → Chamois) : Keeps z (State.modChamois s f) := by
  unfold State.modChamois; try dsimp only
  with_reducible repeat' first | assumption | simp only [keeps_mk_iff]

theorem State.latchFn_keeps {z s : State} (h : Keeps z s) (f : Fin 16) (atOnce : Bool) : Keeps z (State.latchFn s f atOnce) := by
  unfold State.latchFn; try dsimp only
  with_reducible repeat' first | assumption | apply State.modChamois_keeps

theorem State.unlatchFn_keeps {z s : State} (h : Keeps z s) (f : Fin 16) : Keeps z (State.unlatchFn s f) := by
  unfold State.unlatchFn; try dsimp only
  with_reducible repeat' first | assumption | apply State.modChamois_keeps

theorem State.chamoisEval_keeps {z s : State} (h : Keeps z s) : Keeps z (State.chamoisEval s) := by
  unfold State.chamoisEval; try dsimp only
  with_reducible repeat' first | assumption | apply State.unlatchFn_keeps | apply State.latchFn_keeps | apply State.modChamois_keeps | apply State.settle_keeps | apply keeps_foldl | intro _ | split

theorem State.inputLevel_keeps {z s : State} (h : Keeps z s) (chamois : Bool) (input : Fin 32) (millivolts : Int) : Keeps z (State.inputLevel s chamois input millivolts).2 := by
  unfold State.inputLevel; try dsimp only
  with_reducible repeat' first | assumption | apply State.fresh_keeps | split

theorem State.acceptLevel_keeps {z s : State} (h : Keeps z s) (chamois : Bool) (input : Fin 32) (high : Bool) : Keeps z (State.acceptLevel s chamois input high) := by
  unfold State.acceptLevel; try dsimp only
  with_reducible repeat' first | assumption | apply State.chamoisEval_keeps | apply State.modChamois_keeps | apply State.modTahr_keeps | split

theorem State.chamoisFaultAt_keeps {z s : State} (h : Keeps z s) (reason : Nat) : Keeps z (State.chamoisFaultAt s reason) := by
  unfold State.chamoisFaultAt; try dsimp only
  with_reducible repeat' first | assumption | apply State.modTahr_keeps | apply State.raise_keeps | split

theorem State.pairCycle_keeps {z s : State} (h : Keeps z s) (k : Fin 16) : Keeps z (State.pairCycle s k).1 := by
  unfold State.pairCycle; try dsimp only
  with_reducible repeat' first | assumption | apply State.modSiPair_keeps | apply State.raise_keeps | split

theorem State.pairsCycle_keeps {z s : State} (h : Keeps z s) : Keeps z (State.pairsCycle s).1 := by
  unfold State.pairsCycle; try dsimp only
  with_reducible repeat' first | assumption | apply State.pairCycle_keeps | apply keeps_foldl_fst | intro _

theorem State.fnStop_keeps {z s : State} (h : Keeps z s) (f : Fin 16) : Keeps z (State.fnStop s f) := by
  unfold State.fnStop; try dsimp only
  with_reducible repeat' first | assumption | apply State.modFn_keeps | apply State.raise_keeps | split

theorem State.fnPermit_keeps {z s : State} (h : Keeps z s) (f : Fin 16) : Keeps z (State.fnPermit s f) := by
  unfold State.fnPermit; try dsimp only
  with_reducible repeat' first | assumption | apply State.modChamois_keeps | apply State.modFn_keeps | apply State.sendDie_keeps | apply State.raise_keeps | split

theorem State.twoHand_keeps {z s : State} (h : Keeps z s) (f : Fin 16) (p q : SiPair) : Keeps z (State.twoHand s f p q) := by
  unfold State.twoHand; try dsimp only
  with_reducible repeat' first | assumption | apply State.fnPermit_keeps | apply State.fnStop_keeps | apply State.modFn_keeps | apply State.raise_keeps | split

theorem State.fnCycle_keeps {z s : State} (h : Keeps z s) (f : Fin 16) (resets : List Nat) : Keeps z (State.fnCycle s f resets) := by
  unfold State.fnCycle; try dsimp only
  with_reducible repeat' first | assumption | apply State.twoHand_keeps | apply State.fnPermit_keeps | apply State.fnStop_keeps | apply State.modFn_keeps | split

theorem State.compareLatch_keeps {z s : State} (h : Keeps z s) (f : Fin 16) : Keeps z (State.compareLatch s f) := by
  unfold State.compareLatch; try dsimp only
  with_reducible repeat' first | assumption | apply State.chamoisFaultAt_keeps | apply State.modFn_keeps | split

theorem State.dataLostAt_keeps {z s : State} (h : Keeps z s) (c : Channel) (kind tag : Nat) : Keeps z (State.dataLostAt s c kind tag) := by
  unfold State.dataLostAt; try dsimp only
  with_reducible repeat' first | assumption | apply State.modTahrCh_keeps | apply State.raise_keeps

theorem State.tagCycle_keeps {z s : State} (h : Keeps z s) (c : Channel) : Keeps z (State.tagCycle s c) := by
  unfold State.tagCycle; try dsimp only
  with_reducible repeat' first | assumption | apply State.dataLostAt_keeps | apply State.modTahrCh_keeps | apply keeps_foldl | intro _ | split

theorem State.sourceCycle_keeps {z s : State} (h : Keeps z s) (c : Channel) : Keeps z (State.sourceCycle s c) := by
  unfold State.sourceCycle; try dsimp only
  with_reducible repeat' first | assumption | apply State.dataLostAt_keeps | apply State.modTahrCh_keeps | split

theorem State.torqueCycle_keeps {z s : State} (h : Keeps z s) (c : Channel) : Keeps z (State.torqueCycle s c) := by
  unfold State.torqueCycle; try dsimp only
  with_reducible repeat' first | assumption | apply State.modTahrCh_keeps | apply State.fresh_keeps | apply State.raise_keeps | split

theorem State.driveSto_keeps {z s : State} (h : Keeps z s) (c : Channel) (on : Bool) : Keeps z (State.driveSto s c on) := by
  unfold State.driveSto; try dsimp only
  with_reducible repeat' first | assumption | simp only [keeps_mk_iff] | apply State.modChamois_keeps | apply State.settle_keeps

theorem State.driveAscReq_keeps {z s : State} (h : Keeps z s) (c : Channel) (on : Bool) : Keeps z (State.driveAscReq s c on) := by
  unfold State.driveAscReq; try dsimp only
  with_reducible repeat' first | assumption | simp only [keeps_mk_iff] | apply State.repeatChoice_keeps | apply State.protCause_keeps | split

theorem State.carryStop_keeps {z s : State} (h : Keeps z s) (c : Channel) (asc ss1End : Bool) : Keeps z (State.carryStop s c asc ss1End) := by
  unfold State.carryStop; try dsimp only
  with_reducible repeat' first | assumption | apply State.driveAscReq_keeps | apply State.driveSto_keeps | apply State.onSs1End_keeps | apply State.onSto_keeps | apply State.modTahrCh_keeps | split

theorem State.startSs1_keeps {z s : State} (h : Keeps z s) (c : Channel) (source : Nat) : Keeps z (State.startSs1 s c source) := by
  unfold State.startSs1; try dsimp only
  with_reducible repeat' first | assumption | apply State.onSs1_keeps | apply State.modTahrCh_keeps | apply State.raise_keeps | split

theorem State.ss1Cycle_keeps {z s : State} (h : Keeps z s) (c : Channel) (r : Ss1) : Keeps z (State.ss1Cycle s c r) := by
  unfold State.ss1Cycle; try dsimp only
  with_reducible repeat' first | assumption | apply State.carryStop_keeps | apply State.modTahrCh_keeps | apply State.raise_keeps | split

theorem State.liftStop_keeps {z s : State} (h : Keeps z s) (c : Channel) : Keeps z (State.liftStop s c) := by
  unfold State.liftStop; try dsimp only
  with_reducible repeat' first | assumption | apply State.driveSto_keeps | apply State.modTahrCh_keeps

theorem State.ascReqCycle_keeps {z s : State} (h : Keeps z s) (c : Channel) : Keeps z (State.ascReqCycle s c) := by
  unfold State.ascReqCycle; try dsimp only
  with_reducible repeat' first | assumption | apply State.driveAscReq_keeps | apply State.modTahrCh_keeps | split

theorem State.beginSs1_keeps {z s : State} (h : Keeps z s) (c : Channel) (source : Nat) : Keeps z (State.beginSs1 s c source) := by
  unfold State.beginSs1; try dsimp only
  with_reducible repeat' first | assumption | apply State.startSs1_keeps | apply State.ss1Cycle_keeps

theorem State.channelCycle_keeps {z s : State} (h : Keeps z s) (c : Channel) : Keeps z (State.channelCycle s c) := by
  unfold State.channelCycle; try dsimp only
  with_reducible repeat' first | assumption | apply State.ascReqCycle_keeps | apply State.liftStop_keeps | apply State.ss1Cycle_keeps | apply State.startSs1_keeps | apply State.carryStop_keeps | apply State.modTahrCh_keeps | apply State.beginSs1_keeps | simp only [keeps_mk_iff] | apply keeps_foldl | apply keeps_foldl_fst | intro _ | split

theorem State.soFault_keeps {z s : State} (h : Keeps z s) (k : Fin 4) (switchB : Bool) : Keeps z (State.soFault s k switchB) := by
  unfold State.soFault; try dsimp only
  with_reducible repeat' first | assumption | apply State.modSo_keeps | apply State.modTahrCh_keeps | apply State.raise_keeps | split

theorem State.soCycle_keeps {z s : State} (h : Keeps z s) (k : Fin 4) (back : BitVec 8) : Keeps z (State.soCycle s k back) := by
  unfold State.soCycle; try dsimp only
  with_reducible repeat' first | assumption | apply State.soFault_keeps | apply State.modSo_keeps | split

theorem State.mirrorCycle_keeps {z s : State} (h : Keeps z s) : Keeps z (State.mirrorCycle s) := by
  unfold State.mirrorCycle; try dsimp only
  with_reducible repeat' first | assumption | apply State.modTahr_keeps | apply State.hwCommit_keeps | apply keeps_foldl | intro _ | split

theorem State.auxCycle_keeps {z s : State} (h : Keeps z s) : Keeps z (State.auxCycle s) := by
  unfold State.auxCycle; try dsimp only
  with_reducible repeat' first | assumption | simp only [keeps_mk_iff]

theorem State.wireCycle_keeps {z s : State} (h : Keeps z s) (back : BitVec 8) : Keeps z (State.wireCycle s back) := by
  unfold State.wireCycle; try dsimp only
  with_reducible repeat' first | assumption | apply State.chamoisFaultAt_keeps | apply State.modTahrCh_keeps | apply keeps_foldl | intro _ | split

theorem State.clearTags_keeps {z s : State} (h : Keeps z s) : Keeps z (State.clearTags s) := by
  unfold State.clearTags; try dsimp only
  with_reducible repeat' first | assumption | simp only [keeps_mk_iff]

/-! ## SafetyConfig -/

theorem State.countWrong_keeps {z s : State} (h : Keeps z s) : Keeps z (State.countWrong s) := by
  unfold State.countWrong; try dsimp only
  with_reducible repeat' first | assumption | apply State.modTahr_keeps

theorem State.logChange_keeps {z s : State} (h : Keeps z s) (serial action result oldCrc arg origin : Nat) : Keeps z (State.logChange s serial action result oldCrc arg origin) := by
  unfold State.logChange; try dsimp only
  with_reducible repeat' first | assumption | apply State.modTahr_keeps

theorem State.writeImage_keeps {z s : State} (h : Keeps z s) (im : List Byte) : Keeps z (State.writeImage s im).1 := by
  unfold State.writeImage; try dsimp only
  with_reducible repeat' first | assumption | apply State.modTahr_keeps | apply State.raise_keeps | split

theorem State.startConfig_keeps {z s : State} (h : Keeps z s) : Keeps z (State.startConfig s) := by
  unfold State.startConfig; try dsimp only
  with_reducible repeat' first | assumption | apply State.modTahr_keeps | apply State.sendDie_keeps

theorem State.confirmImage_keeps {z s : State} (h : Keeps z s) (arg : Nat) : Keeps z (State.confirmImage s arg).1 := by
  unfold State.confirmImage; try dsimp only
  with_reducible repeat' first | assumption | apply State.startConfig_keeps | apply State.modTahr_keeps | apply State.raise_keeps | split

theorem State.ackFaults_keeps {z s : State} (h : Keeps z s) (mask : Nat) : Keeps z (State.ackFaults s mask) := by
  unfold State.ackFaults; try dsimp only
  with_reducible repeat' first | assumption | apply State.modTahrCh_keeps | apply State.raise_keeps | apply keeps_foldl | intro _ | split

theorem State.setPassword_keeps {z s : State} (h : Keeps z s) (pw : List Byte) : Keeps z (State.setPassword s pw) := by
  unfold State.setPassword; try dsimp only
  with_reducible repeat' first | assumption | apply State.modTahr_keeps | apply State.fresh_keeps

theorem State.safetyAct_keeps {z s : State} (h : Keeps z s) (b : List Byte) : Keeps z (State.safetyAct s b).1 := by
  unfold State.safetyAct; try dsimp only
  with_reducible repeat' first | assumption | apply State.setPassword_keeps | apply State.ackFaults_keeps | apply State.confirmImage_keeps | apply State.writeImage_keeps | apply State.countWrong_keeps | apply State.modTahr_keeps | apply State.raise_keeps | apply keeps_fst_ite | intro _

theorem State.safetyRequest_keeps {z s : State} (h : Keeps z s) (b : List Byte) (origin : Nat) : Keeps z (State.safetyRequest s b origin).1 := by
  unfold State.safetyRequest; try dsimp only
  with_reducible repeat' first | assumption | apply State.safetyAct_keeps | apply State.logChange_keeps | apply State.fresh_keeps | apply State.raise_keeps | split

/-! ## Rings -/

theorem State.modRe_keeps {z s : State} (h : Keeps z s) (f : RingUnit → RingUnit) : Keeps z (State.modRe s f) := by
  unfold State.modRe; try dsimp only
  with_reducible repeat' first | assumption | simp only [keeps_mk_iff]

theorem State.modRing_keeps {z s : State} (h : Keeps z s) (k : Nat) (f : Ring → Ring) : Keeps z (State.modRing s k f) := by
  unfold State.modRing; try dsimp only
  with_reducible repeat' first | assumption | apply State.modRe_keeps

theorem State.msix_keeps {z s : State} (h : Keeps z s) (v : Nat) : Keeps z (State.msix s v) := by
  unfold State.msix; try dsimp only
  with_reducible repeat' first | assumption | apply State.modRe_keeps | apply State.emit_keeps | split

theorem State.fire_keeps {z s : State} (h : Keeps z s) (k : Nat) : Keeps z (State.fire s k) := by
  unfold State.fire; try dsimp only
  with_reducible repeat' first | assumption | apply State.msix_keeps | apply State.modRing_keeps

theorem State.wrote_keeps {z s : State} (h : Keeps z s) (k : Nat) (now : Bool) : Keeps z (State.wrote s k now) := by
  unfold State.wrote; try dsimp only
  with_reducible repeat' first | assumption | apply State.fire_keeps | apply State.modRing_keeps | split

theorem State.writeRecord_keeps {z s : State} (h : Keeps z s) (k : Nat) (q : Queued) : Keeps z (State.writeRecord s k q) := by
  unfold State.writeRecord; try dsimp only
  with_reducible repeat' first | assumption | simp only [keeps_mk_iff] | apply State.wrote_keeps | apply State.modRing_keeps | apply State.emit_keeps

theorem State.deliver_keeps {z s : State} (h : Keeps z s) (k : Nat) : Keeps z (State.deliver s k) := by
  unfold State.deliver; try dsimp only
  with_reducible repeat' first | assumption | apply State.writeRecord_keeps | apply keeps_foldl | intro _ | split

theorem State.purgeQueue_keeps {z s : State} (h : Keeps z s) : Keeps z (State.purgeQueue s) := by
  unfold State.purgeQueue; try dsimp only
  with_reducible repeat' first | assumption | simp only [keeps_mk_iff] | split

theorem State.deliverAll_keeps {z s : State} (h : Keeps z s) : Keeps z (State.deliverAll s) := by
  unfold State.deliverAll; try dsimp only
  with_reducible repeat' first | assumption | apply State.purgeQueue_keeps | apply State.deliver_keeps | apply keeps_foldl | intro _ | split

theorem State.ringError_keeps {z s : State} (h : Keeps z s) (k cause : Nat) (value : Word) : Keeps z (State.ringError s k cause value) := by
  unfold State.ringError; try dsimp only
  with_reducible repeat' first | assumption | apply State.modRing_keeps | apply State.raise_keeps | apply State.modRe_keeps

theorem State.ringOpEnd_keeps {z s : State} (h : Keeps z s) (err : Nat) : Keeps z (State.ringOpEnd s err) := by
  unfold State.ringOpEnd; try dsimp only
  with_reducible repeat' first | assumption | apply State.modRe_keeps

theorem State.doorbellIgnored_keeps {z s : State} (h : Keeps z s) (k : Nat) (value : Word) : Keeps z (State.doorbellIgnored s k value) := by
  unfold State.doorbellIgnored; try dsimp only
  with_reducible repeat' first | assumption | apply State.modRing_keeps | apply State.raise_keeps | split

theorem State.noteTurn_keeps {z s : State} (h : Keeps z s) (k : Nat) : Keeps z (State.noteTurn s k) := by
  unfold State.noteTurn; try dsimp only
  with_reducible repeat' first | assumption | apply State.modRe_keeps | split

theorem State.releaseDesc_keeps {z s : State} (h : Keeps z s) (c : Completion) : Keeps z (State.releaseDesc s c) := by
  unfold State.releaseDesc; try dsimp only
  with_reducible repeat' first | assumption | simp only [keeps_mk_iff] | apply State.modRing_keeps | apply State.modRe_keeps | split

theorem State.stallEvent_keeps {z s : State} (h : Keeps z s) (cring : Nat) : Keeps z (State.stallEvent s cring) := by
  unfold State.stallEvent; try dsimp only
  with_reducible repeat' first | assumption | apply State.modRing_keeps | apply State.raise_keeps | split

theorem State.writeCompletion_keeps {z s : State} (h : Keeps z s) (k : Nat) : Keeps z (State.writeCompletion s k) := by
  unfold State.writeCompletion; try dsimp only
  with_reducible repeat' first | assumption | apply State.stallEvent_keeps | apply State.releaseDesc_keeps | apply State.wrote_keeps | apply State.modRing_keeps | apply State.emit_keeps | split

theorem State.flushDone_keeps {z s : State} (h : Keeps z s) : Keeps z (State.flushDone s) := by
  unfold State.flushDone; try dsimp only
  with_reducible repeat' first | assumption | apply State.writeCompletion_keeps | apply keeps_foldl | intro _

theorem State.take_keeps {z s : State} (h : Keeps z s) (ring op : Nat) (p : Desc → Bool) : ∀ t u, s.take ring op p = some (t, u) → Keeps z u := by
  intro t u e; unfold State.take at e; split at e
  · cases e
  · split at e
    · cases e; exact State.modRe_keeps h _
    · cases e

theorem State.finish_keeps {z s : State} (h : Keeps z s) (t : Taken) (status detail : Nat) (result : Word) : Keeps z (State.finish s t status detail result) := by
  unfold State.finish; try dsimp only
  with_reducible repeat' first | assumption | apply State.complete_keeps

theorem State.onDesc_keeps {z s : State} (h : Keeps z s) (ring : BitVec 16) (op : Nat) (p : Desc → Bool) (f : Taken → State → State) (hk : ∀ t u, Keeps z u → Keeps z (f t u)) : Keeps z (s.onDesc ring op p f) := by
  unfold State.onDesc; split
  · exact h
  · next e => exact hk _ _ (State.take_keeps h _ _ _ _ _ e)

theorem State.onOp_keeps {z s : State} (h : Keeps z s) (ring : BitVec 16) (op : Nat) (f : Taken → State → State) (hk : ∀ t u, Keeps z u → Keeps z (f t u)) : Keeps z (s.onOp ring op f) := by
  exact State.onDesc_keeps h _ _ _ _ hk

theorem State.onData_keeps {z s : State} (h : Keeps z s) (ring : BitVec 16) (op : Nat) (p : Desc → Bool) (data : Option (List Byte)) (f : Taken → List Byte → State → State) (hk : ∀ t b u, Keeps z u → Keeps z (f t b u)) : Keeps z (s.onData ring op p data f) := by
  unfold State.onData; with_reducible repeat' first | apply hk | assumption | apply State.onDesc_keeps | apply State.complete_keeps | intro _ | split

theorem State.orphan_keeps {z s : State} (h : Keeps z s) : Keeps z (State.orphan s) := by
  unfold State.orphan; try dsimp only
  with_reducible repeat' first | assumption | refine keeps_mk_pwr ?_ rfl

theorem State.ringsOff_keeps {z s : State} (h : Keeps z s) : Keeps z (State.ringsOff s) := by
  unfold State.ringsOff; try dsimp only
  with_reducible repeat' first | assumption | simp only [keeps_mk_iff] | apply State.orphan_keeps | apply State.modRe_keeps | apply State.setReg_keeps

/-! ## RegWrite -/

theorem State.writeIgnored_keeps {z s : State} (h : Keeps z s) (off : Nat) (value : Word) : Keeps z (State.writeIgnored s off value) := by
  unfold State.writeIgnored; try dsimp only
  with_reducible repeat' first | assumption | simp only [keeps_mk_iff] | apply State.raise_keeps | split

theorem State.writeMsix_keeps {z s : State} (h : Keeps z s) (off : Nat) (v : Word) : Keeps z (State.writeMsix s off v) := by
  unfold State.writeMsix; try dsimp only
  with_reducible repeat' first | assumption | apply State.modRe_keeps | apply State.setReg_keeps | apply State.emit_keeps | split

theorem State.writeWord_keeps {z s : State} (h : Keeps z s) (off : Nat) (v : Word) : Keeps z (State.writeWord s off v) := by
  unfold State.writeWord; try dsimp only
  with_reducible repeat' first | assumption | apply State.setReg_keeps | apply State.setupSent_keeps | simp only [keeps_mk_iff] | apply keeps_foldl | apply keeps_foldl_fst | intro _ | split

/-! ## Descriptors -/

theorem State.hostWrite_keeps {z s : State} (h : Keeps z s) (ring index sig : Nat) (vals : List Word) (stamp : Nat) (result : Word) : Keeps z (State.hostWrite s ring index sig vals stamp result) := by
  unfold State.hostWrite; try dsimp only
  with_reducible repeat' first | assumption | apply State.doEffect_keeps | apply State.complete_keeps | split

theorem State.hostRead_keeps {z s : State} (h : Keeps z s) (sig n : Nat) : ∀ v u, s.hostRead sig n = some (v, u) → Keeps z u := by
  intro v u e; unfold State.hostRead at e; dsimp only at e; split at e
  · cases e
  · cases e; exact State.raiseAll_keeps (State.modCtrl_keeps h _ _) _

/-! ## Can -/

theorem State.modCan_keeps {z s : State} (h : Keeps z s) (k : Fin 4) (f : CanCtl → CanCtl) : Keeps z (State.modCan s k f) := by
  unfold State.modCan; try dsimp only
  with_reducible repeat' first | assumption | simp only [keeps_mk_iff]

theorem State.modObj_keeps {z s : State} (h : Keeps z s) (k : Fin 4) (j : Nat) (f : CanObj → CanObj) : Keeps z (State.modObj s k j f) := by
  unfold State.modObj; try dsimp only
  with_reducible repeat' first | assumption | apply State.modCan_keeps

theorem State.canStatusCommit_keeps {z s : State} (h : Keeps z s) (k : Fin 4) : Keeps z (State.canStatusCommit s k) := by
  unfold State.canStatusCommit; try dsimp only
  with_reducible repeat' first | assumption | apply State.hwCommit_keeps

theorem State.canStarts_keeps {z s : State} (h : Keeps z s) : Keeps z (State.canStarts s) := by
  unfold State.canStarts; try dsimp only
  with_reducible repeat' first | assumption | apply State.canStatusCommit_keeps | apply keeps_foldl | intro _ | split

theorem State.storeFrame_keeps {z s : State} (h : Keeps z s) (k : Fin 4) (j : Nat) (ws : List Word) (sof : Nat) : Keeps z (State.storeFrame s k j ws sof) := by
  unfold State.storeFrame; try dsimp only
  with_reducible repeat' first | assumption | apply State.modObj_keeps | apply State.hwCommit_keeps | split

theorem State.offerFrame_keeps {z s : State} (h : Keeps z s) (k : Fin 4) (head ctl : Word) (data : List Byte) (remote : Bool) (sof : Nat) : Keeps z (State.offerFrame s k head ctl data remote sof) := by
  unfold State.offerFrame; try dsimp only
  with_reducible repeat' first | assumption | apply State.storeFrame_keeps | apply State.modCan_keeps | split

theorem State.confine_keeps {z s : State} (h : Keeps z s) (k : Fin 4) : Keeps z (State.confine s k) := by
  unfold State.confine; try dsimp only
  with_reducible repeat' first | assumption | apply State.canStatusCommit_keeps | apply State.modCan_keeps | apply State.raise_keeps | split

theorem State.recDown_keeps {z s : State} (h : Keeps z s) (k : Fin 4) : Keeps z (State.recDown s k) := by
  unfold State.recDown; try dsimp only
  with_reducible repeat' first | assumption | apply State.confine_keeps | apply State.modCan_keeps | apply State.fresh_keeps | split

theorem State.canUnlock_keeps {z s : State} (h : Keeps z s) (k : Fin 4) : Keeps z (State.canUnlock s k) := by
  unfold State.canUnlock; try dsimp only
  with_reducible repeat' first | assumption | apply State.modObj_keeps | apply State.modCan_keeps | split

theorem State.startTx_keeps {z s : State} (h : Keeps z s) (k : Fin 4) : Keeps z (State.startTx s k) := by
  unfold State.startTx; try dsimp only
  with_reducible repeat' first | assumption | apply State.modCan_keeps | split

theorem State.txDone_keeps {z s : State} (h : Keeps z s) (k : Fin 4) (a : CanAttempt) (sof : Nat) : Keeps z (State.txDone s k a sof) := by
  unfold State.txDone; try dsimp only
  with_reducible repeat' first | assumption | apply State.modObj_keeps | apply State.modCan_keeps | apply State.hwCommit_keeps | split

theorem State.txFlushed_keeps {z s : State} (h : Keeps z s) (k : Fin 4) (a : CanAttempt) : Keeps z (State.txFlushed s k a) := by
  unfold State.txFlushed; try dsimp only
  with_reducible repeat' first | assumption | apply State.modObj_keeps | apply State.modCan_keeps | split

theorem State.measureTdc_keeps {z s : State} (h : Keeps z s) (k : Fin 4) (head : Word) : Keeps z (State.measureTdc s k head) := by
  unfold State.measureTdc; try dsimp only
  with_reducible repeat' first | assumption | apply State.modCan_keeps | apply State.fresh_keeps | split

theorem State.canEvent_keeps {z s : State} (h : Keeps z s) (e : Event) (record : List Byte) : Keeps z (State.canEvent s e record) := by
  unfold State.canEvent; try dsimp only
  with_reducible repeat' first | assumption | apply State.startTx_keeps | apply State.modCan_keeps | apply keeps_foldl | intro _ | split

theorem State.canChecks_keeps {z s : State} (h : Keeps z s) : Keeps z (State.canChecks s) := by
  unfold State.canChecks; try dsimp only
  with_reducible repeat' first | assumption | apply State.modCan_keeps | apply State.raise_keeps | apply keeps_foldl | intro _ | split

/-! ## AuxDie -/

theorem State.modAux_keeps {z s : State} (h : Keeps z s) (n : AuxSlot) (f : SlotUnit → SlotUnit) : Keeps z (State.modAux s n f) := by
  unfold State.modAux; try dsimp only
  with_reducible repeat' first | assumption | simp only [keeps_mk_iff]

theorem State.slotCommit_keeps {z s : State} (h : Keeps z s) (n : AuxSlot) : Keeps z (State.slotCommit s n) := by
  unfold State.slotCommit; try dsimp only
  with_reducible repeat' first | assumption | apply State.hwCommit_keeps

theorem State.slotFault_keeps {z s : State} (h : Keeps z s) (n : AuxSlot) (cause code sev : Nat) (payload : List Word) : Keeps z (State.slotFault s n cause code sev payload) := by
  unfold State.slotFault; try dsimp only
  with_reducible repeat' first | assumption | apply State.slotCommit_keeps | apply State.modAux_keeps | apply State.raise_keeps

theorem State.takeHolds_keeps {z s : State} (h : Keeps z s) : Keeps z (State.takeHolds s) := by
  unfold State.takeHolds; try dsimp only
  with_reducible repeat' first | assumption | apply State.modAux_keeps | apply keeps_foldl | intro _

theorem State.supplyEvent_keeps {z s : State} (h : Keeps z s) (m : Nat) (entered : Bool) : Keeps z (State.supplyEvent s m entered) := by
  unfold State.supplyEvent; try dsimp only
  with_reducible repeat' first | assumption | apply State.raise_keeps

theorem State.sampleLegs_keeps {z s : State} (h : Keeps z s) (n : AuxSlot) (codes : Vector (BitVec 12) 4) : Keeps z (State.sampleLegs s n codes) := by
  unfold State.sampleLegs; try dsimp only
  with_reducible repeat' first | assumption | apply State.modAux_keeps

theorem State.limitFactor_keeps {z s : State} (h : Keeps z s) (n : AuxSlot) : Keeps z (State.limitFactor s n) := by
  unfold State.limitFactor; try dsimp only
  with_reducible repeat' first | assumption | apply State.modAux_keeps

theorem State.takePwm_keeps {z s : State} (h : Keeps z s) (n : AuxSlot) (pwm : Option (Nat × Nat)) : Keeps z (State.takePwm s n pwm) := by
  unfold State.takePwm; try dsimp only
  with_reducible repeat' first | assumption | simp only [keeps_mk_iff] | split

/-! ## Profile -/

theorem State.slotChecks_keeps {z s : State} (h : Keeps z s) : Keeps z (State.slotChecks s) := by
  unfold State.slotChecks; try dsimp only
  with_reducible repeat' first | assumption | simp only [keeps_mk_iff] | apply State.raise_keeps | apply keeps_foldl | intro _ | split

/-! ## SafetyCmd -/

theorem State.safetyStore_keeps {z s : State} (h : Keeps z s) (by_ : WriteBy) (c : Completion) : Keeps z (State.safetyStore s by_ c) := by
  unfold State.safetyStore; try dsimp only
  with_reducible repeat' first | assumption | apply State.askWrite_keeps | apply State.modStore_keeps

theorem State.runSafety_keeps {z s : State} (h : Keeps z s) (t : Taken) (b : List Byte) : Keeps z (State.runSafety s t b) := by
  unfold State.runSafety; try dsimp only
  with_reducible repeat' first | assumption | apply State.safetyStore_keeps | apply State.finish_keeps | apply State.safetyRequest_keeps | apply State.emit_keeps | split

theorem safetyConfig_keeps {z s : State} (h : Keeps z s) (sub : Nat) (ring : BitVec 16) (data : Option (List Byte)) : Keeps z (safetyConfig sub ring data s) := by
  unfold safetyConfig; try dsimp only
  with_reducible repeat' first | assumption | apply State.runSafety_keeps | apply State.finish_keeps | exact State.take_keeps (by assumption) _ _ _ _ _ (by assumption) | split

/-! ## Lifecycle -/

theorem State.renewNonce_keeps {z s : State} (h : Keeps z s) : Keeps z (State.renewNonce s) := by
  unfold State.renewNonce; try dsimp only
  with_reducible repeat' first | assumption | apply State.modStore_keeps | apply State.fresh_keeps

theorem State.modIdent_keeps {z s : State} (h : Keeps z s) (f : IdentityRec → IdentityRec) : Keeps z (State.modIdent s f) := by
  unfold State.modIdent; try dsimp only
  with_reducible repeat' first | assumption | apply State.modStore_keeps

theorem State.knownPort_keeps {z s : State} (h : Keeps z s) (t : Port) : Keeps z (State.knownPort s t) := by
  unfold State.knownPort; try dsimp only
  with_reducible repeat' first | assumption | apply State.enterTime_keeps | split

theorem State.bind_keeps {z s : State} (h : Keeps z s) (key : List Byte) : Keeps z (State.bind s key) := by
  unfold State.bind; try dsimp only
  with_reducible repeat' first | assumption | apply State.knownPort_keeps | apply State.modIdent_keeps | apply State.modTahr_keeps | apply State.raise_keeps | apply keeps_foldl | intro _

theorem State.ackSatellite_keeps {z s : State} (h : Keeps z s) (t : Port) : Keeps z (State.ackSatellite s t) := by
  unfold State.ackSatellite; try dsimp only
  with_reducible repeat' first | assumption | apply State.knownPort_keeps | apply State.modIdent_keeps | apply State.raise_keeps

theorem State.lifeAct_keeps {z s : State} (h : Keeps z s) (op arg : Nat) (key : List Byte) : Keeps z (State.lifeAct s op arg key) := by
  unfold State.lifeAct; try dsimp only
  with_reducible repeat' first | assumption | apply State.ackSatellite_keeps | apply State.bind_keeps | apply State.modIdent_keeps | apply State.modTahr_keeps | apply State.modStore_keeps | apply State.raise_keeps | split

theorem State.lifeRefuse_keeps {z s : State} (h : Keeps z s) (op arg result origin status : Nat) : Keeps z (State.lifeRefuse s op arg result origin status).1 := by
  unfold State.lifeRefuse; try dsimp only
  with_reducible repeat' first | assumption | apply State.logChange_keeps | apply State.raise_keeps

theorem State.lifeRequest_keeps {z s : State} (h : Keeps z s) (op arg origin : Nat) (cred : Option (List Byte)) (key : List Byte) : Keeps z (State.lifeRequest s op arg origin cred key).1 := by
  unfold State.lifeRequest; try dsimp only
  with_reducible repeat' first | assumption | apply State.lifeRefuse_keeps | apply State.lifeAct_keeps | apply State.renewNonce_keeps | apply State.logChange_keeps | apply State.countWrong_keeps | apply State.modTahr_keeps | apply State.writeKind_keeps | apply State.raise_keeps | apply keeps_fst_ite | intro _ | split

theorem lifecycleRow_keeps {z s : State} (h : Keeps z s) (op : Nat) (ring : BitVec 16) (data : Option (List Byte)) : Keeps z (lifecycleRow op ring data s) := by
  unfold lifecycleRow; try dsimp only
  with_reducible repeat' first | assumption | apply State.lifeRequest_keeps | apply State.safetyStore_keeps | apply State.onDesc_keeps | apply State.finish_keeps | intro _ | split

/-! ## StoreOps -/

theorem State.startRecord_keeps {z s : State} (h : Keeps z s) (kind : Nat) (content : List Byte) (by_ : WriteBy) : Keeps z (State.startRecord s kind content by_) := by
  unfold State.startRecord; try dsimp only
  with_reducible repeat' first | assumption | apply State.modTahr_keeps | apply State.askWrite_keeps | split

theorem State.readRecord_keeps {z s : State} (h : Keeps z s) (kind w1 n : Nat) : ∀ b u, s.readRecord kind w1 n = .ok (b, u) → Keeps z u := by
  intro b u e; unfold State.readRecord at e; dsimp only at e
  repeat' split at e
  all_goals first | cases e; done | (cases e; first | exact h | exact State.fresh_keeps h _)

theorem State.svcOut_keeps {z s : State} (h : Keeps z s) (frame : List Byte) : Keeps z (State.svcOut s frame) := by
  unfold State.svcOut; try dsimp only
  with_reducible repeat' first | assumption | apply State.pseudoRun_keeps | apply State.emit_keeps

theorem State.svcRespond_keeps {z s : State} (h : Keeps z s) (x : SvcSession) (seq status detail result : Nat) (data : List Byte) : Keeps z (State.svcRespond s x seq status detail result data) := by
  unfold State.svcRespond; try dsimp only
  with_reducible repeat' first | assumption | apply State.modStore_keeps | apply State.emit_keeps | apply State.svcOut_keeps

theorem State.svcAnswer_keeps {z s : State} (h : Keeps z s) (status detail result : Nat) : Keeps z (State.svcAnswer s status detail result) := by
  unfold State.svcAnswer; try dsimp only
  with_reducible repeat' first | assumption | apply State.svcRespond_keeps | apply State.modStore_keeps | split

theorem State.answerBy_keeps {z s : State} (h : Keeps z s) (by_ : WriteBy) (status detail result : Nat) : Keeps z (State.answerBy s by_ status detail result) := by
  unfold State.answerBy; try dsimp only
  with_reducible repeat' first | assumption | apply State.svcAnswer_keeps | apply State.complete_keeps | split

theorem State.modBoot_keeps {z s : State} (h : Keeps z s) (f : BootRec → BootRec) : Keeps z (State.modBoot s f) := by
  unfold State.modBoot; try dsimp only
  with_reducible repeat' first | assumption | apply State.modStore_keeps

theorem State.fwWritten_keeps {z s : State} (h : Keeps z s) (b : Fin 2) : Keeps z (State.fwWritten s b) := by
  unfold State.fwWritten; try dsimp only
  with_reducible repeat' first | assumption | apply State.modBoot_keeps | apply State.modTahr_keeps | apply State.writeKind_keeps | apply State.modStore_keeps | apply State.raise_keeps

theorem State.failWrite_keeps {z s : State} (h : Keeps z s) (w : BankWrite) : Keeps z (State.failWrite s w) := by
  unfold State.failWrite; try dsimp only
  with_reducible repeat' first | assumption | apply State.answerBy_keeps | apply State.modTahr_keeps | apply State.abortWrite_keeps | apply State.modStore_keeps | split

theorem State.flushLog_keeps {z s : State} (h : Keeps z s) : Keeps z (State.flushLog s) := by
  unfold State.flushLog; try dsimp only
  with_reducible repeat' first | assumption | apply State.writeKind_keeps | apply State.modStore_keeps | split

theorem State.ageEntry_keeps {z s : State} (h : Keeps z s) (d : CtrlId) (hot : Word) : Keeps z (State.ageEntry s d hot) := by
  unfold State.ageEntry; try dsimp only
  with_reducible repeat' first | assumption | apply State.modStore_keeps | apply State.modPlan_keeps

theorem State.ageRecordsWith_keeps {z s : State} (h : Keeps z s) (due : CtrlId → Bool) (hotA hotB : Word) : Keeps z (State.ageRecordsWith s due hotA hotB) := by
  unfold State.ageRecordsWith; try dsimp only
  with_reducible repeat' first | assumption | apply State.ageEntry_keeps | apply State.writeKind_keeps | simp only [keeps_mk_iff] | apply keeps_foldl | apply keeps_foldl_fst | intro _ | split

theorem State.ageRecords_keeps {z s : State} (h : Keeps z s) : Keeps z (State.ageRecords s) := by
  unfold State.ageRecords; try dsimp only
  with_reducible repeat' first | assumption | apply State.ageRecordsWith_keeps | apply State.fresh_keeps

/-! ## FixedEntries -/

theorem State.namePointers_keeps {z s : State} (h : Keeps z s) : Keeps z (State.namePointers s) := by
  unfold State.namePointers; try dsimp only
  with_reducible repeat' first | assumption | apply State.modCtrl_keeps

theorem State.addFixed_keeps {z s : State} (h : Keeps z s) (es : List DirEntry) : Keeps z (State.addFixed s es) := by
  unfold State.addFixed; try dsimp only
  with_reducible repeat' first | assumption | apply State.modCtrl_keeps

theorem State.addLate_keeps {z s : State} (h : Keeps z s) (es : List DirEntry) : Keeps z (State.addLate s es) := by
  unfold State.addLate; try dsimp only
  with_reducible repeat' first | assumption | apply State.modCtrl_keeps

/-! ## Boot -/

theorem State.loadRecords_keeps {z s : State} (h : Keeps z s) : Keeps z (State.loadRecords s) := by
  unfold State.loadRecords; try dsimp only
  with_reducible repeat' first | assumption | apply State.modStore_keeps

theorem State.loadSafety_keeps {z s : State} (h : Keeps z s) : Keeps z (State.loadSafety s) := by
  unfold State.loadSafety; try dsimp only
  with_reducible repeat' first | assumption | apply State.modTahr_keeps | split

theorem State.enableGroup_keeps {z s : State} (h : Keeps z s) (group : Nat) (high : Bool) : Keeps z (State.enableGroup s group high) := by
  unfold State.enableGroup; dsimp only
  refine keeps_ite (fun _ => h) (fun _ => State.emit_keeps (keeps_mk_pwr h ?_) _)
  split
  · rfl
  · split <;> rfl

theorem State.lowerGroups_keeps {z s : State} (h : Keeps z s) (keep : Nat) : Keeps z (State.lowerGroups s keep) := by
  unfold State.lowerGroups; try dsimp only
  with_reducible repeat' first | assumption | apply State.enableGroup_keeps | apply keeps_foldl | intro _

theorem State.noteRails_keeps {z s : State} (h : Keeps z s) (rails : BitVec 9) : Keeps z (State.noteRails s rails) := by
  unfold State.noteRails; try dsimp only
  with_reducible repeat' first | assumption | apply State.enableGroup_keeps | apply State.avsWrite_keeps | apply keeps_ite | refine keeps_mk_pwr ?_ rfl | intro _

theorem State.coldBegin_keeps {z s : State} (h : Keeps z s) (cause rail : Nat) : Keeps z (State.coldBegin s cause rail) := by
  unfold State.coldBegin; dsimp only
  refine State.settle_keeps (State.loadRecords_keeps (keeps_ite (fun _ => ?_) (fun _ => State.enableGroup_keeps ?_ _ _)))
  · exact keeps_restart rfl rfl rfl rfl rfl
  · exact keeps_restart rfl rfl rfl rfl rfl

theorem State.endTrial_keeps {z s : State} (h : Keeps z s) (why : Nat) : Keeps z (State.endTrial s why) := by
  unfold State.endTrial; try dsimp only
  with_reducible repeat' first | assumption | apply State.modBoot_keeps | apply State.writeKind_keeps | apply State.raise_keeps

theorem State.bootActive_keeps {z s : State} (h : Keeps z s) : Keeps z (State.bootActive s) := by
  unfold State.bootActive; try dsimp only
  with_reducible repeat' first | assumption | apply State.modBoot_keeps | apply State.writeKind_keeps | apply State.modStore_keeps | apply State.raise_keeps | split

theorem State.boot_keeps {z s : State} (h : Keeps z s) : Keeps z (State.boot s) := by
  unfold State.boot; try dsimp only
  with_reducible repeat' first | assumption | apply State.bootActive_keeps | apply State.endTrial_keeps | apply State.modBoot_keeps | apply State.writeKind_keeps | apply State.modStore_keeps | split

theorem State.findEmpty_keeps {z s : State} (h : Keeps z s) : Keeps z (State.findEmpty s) := by
  unfold State.findEmpty; try dsimp only
  with_reducible repeat' first | assumption | apply State.modStore_keeps | apply State.raise_keeps | apply keeps_foldl | intro _ | split

theorem State.dropLadderImage_keeps {z s : State} (h : Keeps z s) : Keeps z (State.dropLadderImage s) := by
  unfold State.dropLadderImage; try dsimp only
  with_reducible repeat' first | assumption | apply State.modBank_keeps

theorem State.loadCorr_keeps {z s : State} (h : Keeps z s) (c : List Byte) (d : Nat) : Keeps z (State.loadCorr s c d) := by
  unfold State.loadCorr; try dsimp only
  with_reducible repeat' first | assumption | apply State.setReg_keeps | apply keeps_foldl | intro _

theorem State.loadTables_keeps {z s : State} (h : Keeps z s) : Keeps z (State.loadTables s) := by
  unfold State.loadTables; try dsimp only
  with_reducible repeat' first | assumption | simp only [keeps_mk_iff] | apply State.loadCorr_keeps | split

theorem State.startTahr_keeps {z s : State} (h : Keeps z s) (ok : Bool) : Keeps z (State.startTahr s ok) := by
  unfold State.startTahr; try dsimp only
  with_reducible repeat' first | assumption | apply State.loadSafety_keeps | apply State.startConfig_keeps | apply State.modChamois_keeps | apply State.modTahr_keeps | apply State.settle_keeps | apply keeps_ite | refine keeps_mk_pwr ?_ rfl | intro _

theorem State.resumeAge_keeps {z s : State} (h : Keeps z s) (d : CtrlId) : Keeps z (State.resumeAge s d) := by
  unfold State.resumeAge; try dsimp only
  with_reducible repeat' first | assumption | apply State.modPlan_keeps

/-! ## PlanDecision -/

theorem State.decideSwap_keeps {z s : State} (h : Keeps z s) (old new : Option SlotCode) (ring index : Nat) : Keeps z (State.decideSwap s old new ring index) := by
  unfold State.decideSwap; try dsimp only
  with_reducible repeat' first | assumption | apply State.refuseSwap_keeps | apply State.acceptSwap_keeps | apply State.dropChange_keeps | apply State.complete_keeps | refine keeps_getD (State.decideStep_keeps (by assumption) _ _ _ _) ?_ | split

theorem State.decideMode_keeps {z s : State} (h : Keeps z s) (mask : BitVec 8) (g : ChanSettings) : Keeps z (State.decideMode s mask g) := by
  unfold State.decideMode; try dsimp only
  with_reducible repeat' first | assumption | apply State.pseudoRun_keeps | apply State.reprocess_keeps | apply State.clearRefused_keeps | apply State.dropChange_keeps | apply State.complete_keeps | apply State.modCh_keeps | apply State.raiseAll_keeps | apply State.raise_keeps | apply keeps_foldl | refine keeps_getD (State.decideStep_keeps (by assumption) _ _ _ _) ?_ | intro _ | split

/-! ## SelfTest -/

theorem State.modTest_keeps {z s : State} (h : Keeps z s) (f : SelfTest → SelfTest) : Keeps z (State.modTest s f) := by
  unfold State.modTest; try dsimp only
  with_reducible repeat' first | assumption | simp only [keeps_mk_iff]

theorem State.modRepair_keeps {z s : State} (h : Keeps z s) (f : List Dword → List Dword) : Keeps z (State.modRepair s f) := by
  unfold State.modRepair; try dsimp only
  with_reducible repeat' first | assumption | apply State.modStore_keeps

theorem State.sizeTrace_keeps {z s : State} (h : Keeps z s) : Keeps z (State.sizeTrace s) := by
  unfold State.sizeTrace; try dsimp only
  with_reducible repeat' first | assumption | simp only [keeps_mk_iff]

theorem State.addRepair_keeps {z s : State} (h : Keeps z s) (die : Nat) (e : Dword) : Keeps z (State.addRepair s die e) := by
  unfold State.addRepair; try dsimp only
  with_reducible repeat' first | assumption | apply State.modRepair_keeps | apply State.modStore_keeps | simp only [keeps_mk_iff] | apply keeps_foldl | apply keeps_foldl_fst | intro _ | split

theorem State.useSpare_keeps {z s : State} (h : Keeps z s) (c : BadCell) (type index : Nat) : Keeps z (State.useSpare s c type index).1 := by
  unfold State.useSpare; try dsimp only
  with_reducible repeat' first | assumption | apply State.modRepair_keeps | apply State.addRepair_keeps | simp only [keeps_mk_iff] | apply keeps_foldl | apply keeps_foldl_fst | intro _ | split

theorem State.retireRegion_keeps {z s : State} (h : Keeps z s) (c : BadCell) : Keeps z (State.retireRegion s c) := by
  unfold State.retireRegion; try dsimp only
  with_reducible repeat' first | assumption | apply State.modRepair_keeps | apply State.addRepair_keeps | simp only [keeps_mk_iff] | apply keeps_foldl | apply keeps_foldl_fst | intro _ | split

theorem State.unrepaired_keeps {z s : State} (h : Keeps z s) (c : BadCell) (kind : Nat) : Keeps z (State.unrepaired s c kind).1 := by
  unfold State.unrepaired; try dsimp only
  with_reducible repeat' first | assumption | apply State.retireRegion_keeps | split

theorem State.repairLines_keeps {z s : State} (h : Keeps z s) (cells bs : List BadCell) : Keeps z (s.repairLines cells bs).1 := by
  induction bs generalizing s cells with
  | nil => exact h
  | cons c cs ih =>
    unfold State.repairLines; dsimp only
    with_reducible repeat' first | apply ih | assumption | simp only [keeps_mk_iff] | apply State.unrepaired_keeps | apply State.useSpare_keeps | apply keeps_ite | apply keeps_fst_ite | rfl | intro _

theorem State.repairRows_keeps {z s : State} (h : Keeps z s) (bs : List BadCell) : Keeps z (s.repairRows bs).1 := by
  induction bs generalizing s with
  | nil => exact h
  | cons c cs ih =>
    unfold State.repairRows; dsimp only
    with_reducible repeat' first | apply ih | assumption | simp only [keeps_mk_iff] | apply State.unrepaired_keeps | apply State.useSpare_keeps | apply keeps_ite | apply keeps_fst_ite | rfl | intro _

theorem State.retest_keeps {z s : State} (h : Keeps z s) (fs : List Failure) (repeats : List Nat) : Keeps z (State.retest s fs repeats).1 := by
  unfold State.retest; try dsimp only
  with_reducible repeat' first | assumption | apply State.unrepaired_keeps | apply keeps_foldl_fst | intro _ | split

theorem State.restoreRegions_keeps {z s : State} (h : Keeps z s) (fs : List Failure) : Keeps z (State.restoreRegions s fs) := by
  unfold State.restoreRegions; try dsimp only
  with_reducible repeat' first | assumption | apply State.modRepair_keeps

theorem State.testEntry_keeps {z s : State} (h : Keeps z s) (e : Word × Word) : Keeps z (State.testEntry s e) := by
  unfold State.testEntry; try dsimp only
  with_reducible repeat' first | assumption | apply State.modTest_keeps | apply State.raise_keeps

theorem State.clearTrace_keeps {z s : State} (h : Keeps z s) : Keeps z (State.clearTrace s) := by
  unfold State.clearTrace; try dsimp only
  with_reducible repeat' first | assumption | simp only [keeps_mk_iff]

theorem State.restartBuffers_keeps {z s : State} (h : Keeps z s) : Keeps z (State.restartBuffers s) := by
  unfold State.restartBuffers
  refine keeps_foldl (fun v x hv => State.setReg_keeps hv _ _) ⟨fun hz => ?_⟩
  obtain ⟨a, b, c, d, e⟩ := memWf_iff.1 (h.keeps hz)
  exact memWf_iff.2 ⟨a, b, rfl, rfl, e⟩

theorem State.clearRings_keeps {z s : State} (h : Keeps z s) : Keeps z (State.clearRings s) := by
  unfold State.clearRings; try dsimp only
  with_reducible repeat' first | assumption | simp only [keeps_mk_iff]

/-- The words an aborted test leaves in sample memory stand in canonical form. -/
theorem State.setSamples_keeps {z s : State} (h : Keeps z s) (a b : List Word) : Keeps z (State.setSamples s a b) := by
  refine ⟨fun hz => ?_⟩
  obtain ⟨p, q, _, _, r⟩ := memWf_iff.1 (h.keeps hz)
  exact memWf_iff.2 ⟨p, q, kvSetMany_wf 0 [] 0 a rfl, kvSetMany_wf 0 [] 0 b rfl, r⟩

theorem State.spoilSamples_keeps {z s : State} (h : Keeps z s) : Keeps z (State.spoilSamples s) := by
  unfold State.spoilSamples
  split
  · exact State.setSamples_keeps (State.fresh_keeps h (64 * 0x80000)) _ _
  · exact h

theorem State.testEffects_keeps {z s : State} (h : Keeps z s) : Keeps z (State.testEffects s) := by
  unfold State.testEffects; try dsimp only
  with_reducible repeat' first | assumption | apply State.restartBuffers_keeps | apply State.clearTrace_keeps | apply State.clearRings_keeps | apply State.ringsOff_keeps | split

theorem State.testFails_keeps {z s : State} (h : Keeps z s) (extended : Bool) (why : Nat) : Keeps z (State.testFails s extended why) := by
  unfold State.testFails; try dsimp only
  with_reducible repeat' first | assumption | apply State.modTahr_keeps | apply State.raise_keeps | split

theorem State.endExtended_keeps {z s : State} (h : Keeps z s) (cold : Bool) : Keeps z (State.endExtended s cold) := by
  unfold State.endExtended; try dsimp only
  with_reducible repeat' first | assumption | apply State.testEffects_keeps | apply State.coldBegin_keeps | apply State.modTahr_keeps | split

theorem State.abortTest_keeps {z s : State} (h : Keeps z s) (cold : Bool) : Keeps z (State.abortTest s cold) := by
  unfold State.abortTest; try dsimp only
  with_reducible repeat' first | assumption | apply State.spoilSamples_keeps | apply State.endExtended_keeps | apply State.testFails_keeps | apply State.modTest_keeps | split

theorem State.refuseTest_keeps {z s : State} (h : Keeps z s) (r : Nat) : Keeps z (State.refuseTest s r) := by
  unfold State.refuseTest; try dsimp only
  with_reducible repeat' first | assumption | apply State.modTest_keeps | apply State.raise_keeps

theorem State.confirmTrial_keeps {z s : State} (h : Keeps z s) : Keeps z (State.confirmTrial s) := by
  unfold State.confirmTrial; try dsimp only
  with_reducible repeat' first | assumption | apply State.modBoot_keeps | apply State.writeKind_keeps | apply State.modStore_keeps | apply State.raise_keeps | split

/-! ## Power -/

theorem State.modPwr_keeps {z s : State} (h : Keeps z s) (f : Power → Power) (hf : (f s.pwr).image = s.pwr.image) : Keeps z (s.modPwr f) := by
  exact keeps_pwr h hf

theorem State.onRung_keeps {z s : State} (h : Keeps z s) (rung source : Nat) : Keeps z (State.onRung s rung source) := by
  unfold State.onRung; try dsimp only
  with_reducible repeat' first | assumption | apply State.modPwr_keeps | apply State.settle_keeps | apply State.raise_keeps | rfl

theorem State.endRequest_keeps {z s : State} (h : Keeps z s) (q : RungRequest) (status detail : Nat) : Keeps z (State.endRequest s q status detail) := by
  unfold State.endRequest; try dsimp only
  with_reducible repeat' first | assumption | apply State.complete_keeps | split

theorem State.holdRequest_keeps {z s : State} (h : Keeps z s) (q : RungRequest) : Keeps z (State.holdRequest s q) := by
  unfold State.holdRequest; try dsimp only
  with_reducible repeat' first | assumption | apply State.endRequest_keeps | apply State.modPwr_keeps | rfl | split

theorem State.enterGraze_keeps {z s : State} (h : Keeps z s) : Keeps z (State.enterGraze s) := by
  unfold State.enterGraze; try dsimp only
  with_reducible repeat' first | assumption | apply State.onRung_keeps

theorem State.enterChew_keeps {z s : State} (h : Keeps z s) : Keeps z (State.enterChew s) := by
  unfold State.enterChew; try dsimp only
  with_reducible repeat' first | assumption | apply State.modTahr_keeps | apply State.onRung_keeps | apply State.modPwr_keeps | apply State.portDown_keeps | apply State.modStore_keeps | apply State.avsWrite_keeps | apply keeps_foldl | rfl | intro _

theorem State.enterBed_keeps {z s : State} (h : Keeps z s) : Keeps z (State.enterBed s) := by
  unfold State.enterBed; try dsimp only
  with_reducible repeat' first | assumption | simp only [keeps_mk_iff] | apply State.onRung_keeps | apply State.ringsOff_keeps

theorem State.stepDown_keeps {z s : State} (h : Keeps z s) : Keeps z (State.stepDown s) := by
  unfold State.stepDown; try dsimp only
  with_reducible repeat' first | assumption | apply State.enterBed_keeps | apply State.enterChew_keeps | apply State.enterGraze_keeps | split

theorem State.meetDescent_keeps {z s : State} (h : Keeps z s) : Keeps z (State.meetDescent s) := by
  unfold State.meetDescent; try dsimp only
  with_reducible repeat' first | assumption | apply State.endRequest_keeps | apply State.modPwr_keeps | apply State.flushDone_keeps | rfl | split

theorem State.goDown_keeps {z s : State} (h : Keeps z s) (target n : Nat) : Keeps z (State.goDown target n s) := by
  induction n generalizing s with
  | zero => exact h
  | succ n ih =>
    unfold State.goDown
    with_reducible repeat' first | apply ih | assumption | simp only [keeps_mk_iff] | apply State.meetDescent_keeps | apply State.stepDown_keeps | apply keeps_ite | rfl | intro _

theorem State.stepActions_keeps {z s : State} (h : Keeps z s) : Keeps z (State.stepActions s) := by
  unfold State.stepActions; try dsimp only
  with_reducible repeat' first | assumption | apply State.enableGroup_keeps | apply State.avsWrite_keeps | split

theorem State.startClimb_keeps {z s : State} (h : Keeps z s) (q : RungRequest) : Keeps z (State.startClimb s q) := by
  unfold State.startClimb; try dsimp only
  with_reducible repeat' first | assumption | apply State.stepActions_keeps | apply State.modPwr_keeps | rfl

theorem State.wake_keeps {z s : State} (h : Keeps z s) (q : RungRequest) : Keeps z (State.wake s q) := by
  unfold State.wake; try dsimp only
  with_reducible repeat' first | assumption | apply State.startClimb_keeps | apply State.holdRequest_keeps | apply State.endRequest_keeps | split

theorem State.startDescent_keeps {z s : State} (h : Keeps z s) (q : RungRequest) : Keeps z (State.startDescent s q) := by
  unfold State.startDescent; try dsimp only
  with_reducible repeat' first | assumption | apply State.wake_keeps | apply State.goDown_keeps | apply State.endRequest_keeps | apply State.modPwr_keeps | apply State.ageRecords_keeps | apply State.flushLog_keeps | rfl | split

theorem State.askDescent_keeps {z s : State} (h : Keeps z s) (q : RungRequest) : Keeps z (State.askDescent s q) := by
  unfold State.askDescent; try dsimp only
  with_reducible repeat' first | assumption | apply State.startDescent_keeps | apply State.holdRequest_keeps | apply State.endRequest_keeps | apply State.raise_keeps | split

theorem State.takeHeld_keeps {z s : State} (h : Keeps z s) : Keeps z (State.takeHeld s) := by
  unfold State.takeHeld; try dsimp only
  with_reducible repeat' first | assumption | apply State.askDescent_keeps | apply State.wake_keeps | apply State.endRequest_keeps | apply State.modPwr_keeps | rfl | split

theorem State.writeNow_keeps {z s : State} (h : Keeps z s) (k : Nat) (content : List Byte) : Keeps z (State.writeNow s k content) := by
  unfold State.writeNow; try dsimp only
  with_reducible repeat' first | assumption | apply State.putBank_keeps | split

theorem State.forgetTimer_keeps {z s : State} (h : Keeps z s) : Keeps z (State.forgetTimer s) := by
  refine ⟨fun hz => ?_⟩
  obtain ⟨a, b, c, d, e⟩ := memWf_iff.1 (h.keeps hz)
  have clear : ∀ m : Kv Word, kvWf regReset m = true → kvWf regReset (kvSet 0 (kvSet 0 m Reg.pwrTimerLo 0) Reg.pwrTimerHi 0) = true :=
    fun m hm => kvSet_wf regReset _ Reg.pwrTimerHi 0 (kvSet_wf regReset _ Reg.pwrTimerLo 0 hm)
  refine memWf_iff.2 ⟨clear _ a, b, c, d, ?_⟩
  unfold State.forgetTimer; dsimp only
  cases hi : s.pwr.image with
  | none => rfl
  | some m => rw [hi] at e; exact clear _ e

theorem State.holdTime_keeps {z s : State} (h : Keeps z s) : Keeps z (State.holdTime s) := by
  unfold State.holdTime; try dsimp only
  with_reducible repeat' first | assumption | apply State.modStore_keeps | apply State.writeNow_keeps | simp only [keeps_mk_iff]

theorem State.enterShed_keeps {z s : State} (h : Keeps z s) : Keeps z (State.enterShed s) := by
  unfold State.enterShed; try dsimp only
  with_reducible repeat' first | assumption | apply State.forgetTimer_keeps | apply State.writeNow_keeps | apply State.onRung_keeps | apply State.lowerGroups_keeps | apply State.modStore_keeps | apply State.holdTime_keeps

theorem State.enterYard_keeps {z s : State} (h : Keeps z s) : Keeps z (State.enterYard s) := by
  unfold State.enterYard; try dsimp only
  with_reducible repeat' first | assumption | simp only [keeps_mk_iff] | apply State.onRung_keeps | apply State.lowerGroups_keeps | apply State.modRe_keeps | apply State.raise_keeps

theorem State.bedFrom_keeps {z s : State} (h : Keeps z s) (m : LadderImage) (hm : s.pwr.image = some m) : Keeps z (s.bedFrom m) := by
  refine ⟨fun hz => ?_⟩
  have a := (memWf_iff.1 (h.keeps hz)).2.2.2.2
  rw [hm] at a
  refine memWf_iff.2 ⟨a, ?_, rfl, rfl, rfl⟩
  unfold State.bedFrom; dsimp only
  split
  · exact kvFilter_wf _ _ _ a
  · rfl

theorem State.reach_keeps {z s : State} (h : Keeps z s) (rung : Nat) : Keeps z (State.reach s rung) := by
  unfold State.reach; try dsimp only
  with_reducible repeat' first | assumption | simp only [keeps_mk_iff] | apply State.canStarts_keeps | apply State.clearRings_keeps | apply State.restartBuffers_keeps | apply State.clearTrace_keeps | apply State.startTahr_keeps | apply State.deliverAll_keeps | apply State.modChamois_keeps | split

theorem State.endClimb_keeps {z s : State} (h : Keeps z s) (q : RungRequest) : Keeps z (State.endClimb s q) := by
  unfold State.endClimb; try dsimp only
  with_reducible repeat' first | assumption | apply State.takeHeld_keeps | apply State.endRequest_keeps | apply State.modPwr_keeps | rfl

theorem State.stepUp_keeps {z s : State} (h : Keeps z s) (c : Climb) : Keeps z (State.stepUp s c) := by
  unfold State.stepUp; try dsimp only
  with_reducible repeat' first | assumption | apply State.endClimb_keeps | apply State.reach_keeps | apply State.stepActions_keeps | apply State.onRung_keeps | apply State.modPwr_keeps | apply State.coldBegin_keeps | exact State.bedFrom_keeps (by assumption) _ (by assumption) | rfl | split

theorem State.stepBack_keeps {z s : State} (h : Keeps z s) : Keeps z (State.stepBack s) := by
  unfold State.stepBack; try dsimp only
  with_reducible repeat' first | assumption | apply State.lowerGroups_keeps | apply State.avsWrite_keeps | apply State.holdTime_keeps | simp only [keeps_mk_iff] | apply keeps_foldl | apply keeps_foldl_fst | intro _ | split

theorem State.modShut_keeps {z s : State} (h : Keeps z s) (f : Shutdown → Shutdown) : Keeps z (State.modShut s f) := by
  unfold State.modShut; try dsimp only
  with_reducible repeat' first | assumption | simp only [keeps_mk_iff]

theorem State.startShutdown_keeps {z s : State} (h : Keeps z s) (byVsup : Bool) (desc : Option (Nat × Nat)) : Keeps z (State.startShutdown s byVsup desc) := by
  unfold State.startShutdown; try dsimp only
  with_reducible repeat' first | assumption | apply State.modShut_keeps | apply State.abortTest_keeps | apply State.modTest_keeps | apply State.hwCommit_keeps | apply State.raise_keeps | apply keeps_foldl | intro _

theorem State.shutSafe_keeps {z s : State} (h : Keeps z s) (c : Channel) : Keeps z (State.shutSafe s c) := by
  unfold State.shutSafe; try dsimp only
  with_reducible repeat' first | assumption | apply State.enterSafe_keeps | apply State.fresh_keeps | apply State.protCause_keeps

/-! ## Service -/

theorem State.modSvc_keeps {z s : State} (h : Keeps z s) (f : Service → Service) : Keeps z (State.modSvc s f) := by
  unfold State.modSvc; try dsimp only
  with_reducible repeat' first | assumption | apply State.modStore_keeps

theorem State.onFrame_keeps {z s : State} (h : Keeps z s) (type : Nat) (bs : List Byte) (f : SvcFrame → State → State) (hk : ∀ x u, Keeps z u → Keeps z (f x u)) : Keeps z (s.onFrame type bs f) := by
  unfold State.onFrame; with_reducible repeat' first | apply hk | assumption | apply State.modSvc_keeps | split

theorem State.svcSend_keeps {z s : State} (h : Keeps z s) (type session seq : Nat) (payload : List Byte) : Keeps z (State.svcSend s type session seq payload) := by
  unfold State.svcSend; try dsimp only
  with_reducible repeat' first | assumption | apply State.emit_keeps | apply State.svcOut_keeps

theorem State.svcError_keeps {z s : State} (h : Keeps z s) (x : SvcFrame) (code : Nat) : Keeps z (State.svcError s x code) := by
  unfold State.svcError; try dsimp only
  with_reducible repeat' first | assumption | apply State.svcSend_keeps

theorem State.endSession_keeps {z s : State} (h : Keeps z s) (x : SvcSession) (how : Nat) : Keeps z (State.endSession s x how) := by
  unfold State.endSession; try dsimp only
  with_reducible repeat' first | assumption | apply State.modSvc_keeps | apply State.modTahr_keeps | apply State.raise_keeps | split

theorem State.onRequest_keeps {z s : State} (h : Keeps z s) (op : Nat) (bs : List Byte) (guest : SvcFrame → State → Bool) (f : SvcSession → Nat → List Byte → State → State) (hk : ∀ y n b u, Keeps z u → Keeps z (f y n b u)) : Keeps z (s.onRequest op bs guest f) := by
  unfold State.onRequest; try dsimp only
  with_reducible repeat' first | assumption | apply State.svcError_keeps | apply State.onFrame_keeps | apply State.modSvc_keeps | apply State.svcRespond_keeps | apply State.emit_keeps | apply State.svcOut_keeps | apply hk | simp only [keeps_mk_iff] | apply keeps_foldl | apply keeps_foldl_fst | intro _ | split

theorem State.updateRefused_keeps {z s : State} (h : Keeps z s) (r : Option Nat) : Keeps z (State.updateRefused s r) := by
  unfold State.updateRefused; try dsimp only
  with_reducible repeat' first | assumption | apply State.raise_keeps | split

theorem State.svcWait_keeps {z s : State} (h : Keeps z s) (y : SvcSession) (seq : Nat) : Keeps z (State.svcWait s y seq) := by
  unfold State.svcWait; try dsimp only
  with_reducible repeat' first | assumption | apply State.modSvc_keeps

/-! ## Events -/

theorem State.modEv_keeps {z s : State} (h : Keeps z s) (f : EventUnit → EventUnit) : Keeps z (State.modEv s f) := by
  unfold State.modEv; try dsimp only
  with_reducible repeat' first | assumption | simp only [keeps_mk_iff]

theorem State.logEvent_keeps {z s : State} (h : Keeps z s) (e : Event) (eseq : Nat) : Keeps z (State.logEvent s e eseq) := by
  unfold State.logEvent; try dsimp only
  with_reducible repeat' first | assumption | apply State.modStore_keeps | split

theorem State.enterQueue_keeps {z s : State} (h : Keeps z s) (e : Event) : Keeps z (State.enterQueue s e) := by
  unfold State.enterQueue; try dsimp only
  with_reducible repeat' first | assumption | apply State.logEvent_keeps | apply State.modEv_keeps | apply State.canEvent_keeps | apply State.deliverAll_keeps

theorem State.makeRoom_keeps {z s : State} (h : Keeps z s) (e : Event) : Keeps z (State.makeRoom s e).1 := by
  unfold State.makeRoom; try dsimp only
  with_reducible repeat' first | assumption | apply State.modEv_keeps | split

theorem State.noteDrop_keeps {z s : State} (h : Keeps z s) (sev : Nat) : Keeps z (State.noteDrop s sev) := by
  unfold State.noteDrop; try dsimp only
  with_reducible repeat' first | assumption | apply State.modEv_keeps | apply State.raise_keeps | split

theorem State.arriveLate_keeps {z s : State} (h : Keeps z s) (e : Event) (gone : Bool) : Keeps z (State.arriveLate s e gone) := by
  unfold State.arriveLate; try dsimp only
  with_reducible repeat' first | assumption | apply State.enterQueue_keeps | apply State.modEv_keeps | split

theorem State.arrive_keeps {z s : State} (h : Keeps z s) (e : Event) (order : Nat) : Keeps z (State.arrive s e order) := by
  unfold State.arrive; try dsimp only
  with_reducible repeat' first | assumption | apply State.arriveLate_keeps | apply State.noteDrop_keeps | apply State.makeRoom_keeps | apply State.modEv_keeps | split

/-! ## Setup -/

theorem State.modGlb_keeps {z s : State} (h : Keeps z s) (f : GlobalUnit → GlobalUnit) : Keeps z (State.modGlb s f) := by
  unfold State.modGlb; try dsimp only
  with_reducible repeat' first | assumption | simp only [keeps_mk_iff]

theorem State.modChecks_keeps {z s : State} (h : Keeps z s) : Keeps z (State.modChecks s).1 := by
  unfold State.modChecks; try dsimp only
  with_reducible repeat' first | assumption | apply State.raise_keeps | apply keeps_foldl | intro _

theorem State.gaChecks_keeps {z s : State} (h : Keeps z s) : Keeps z (State.gaChecks s).1 := by
  unfold State.gaChecks; try dsimp only
  with_reducible repeat' first | assumption | apply State.raise_keeps | apply keeps_foldl | intro _

theorem State.dischChecks_keeps {z s : State} (h : Keeps z s) : Keeps z (State.dischChecks s) := by
  unfold State.dischChecks; try dsimp only
  with_reducible repeat' first | assumption | apply State.modProt_keeps | apply State.raise_keeps | apply keeps_foldl | intro _

theorem State.freshChecks_keeps {z s : State} (h : Keeps z s) : Keeps z (State.freshChecks s) := by
  unfold State.freshChecks; try dsimp only
  with_reducible repeat' first | assumption | apply State.modGlb_keeps | apply State.raise_keeps | apply keeps_foldl | intro _ | split

theorem State.enableChannels_keeps {z s : State} (h : Keeps z s) (bad : List Channel) : Keeps z (State.enableChannels s bad) := by
  unfold State.enableChannels; try dsimp only
  with_reducible repeat' first | assumption | apply State.modCh_keeps | apply keeps_foldl | intro _

theorem State.leaderChecks_keeps {z s : State} (h : Keeps z s) : Keeps z (State.leaderChecks s).1 := by
  unfold State.leaderChecks; try dsimp only
  with_reducible repeat' first | assumption | apply State.raise_keeps | apply keeps_foldl | intro _

theorem State.posAll_keeps {z s : State} (h : Keeps z s) : Keeps z (State.posAll s).1 := by
  unfold State.posAll; try dsimp only
  with_reducible repeat' first | assumption | apply State.posChecks_keeps | apply keeps_foldl_fst | intro _

theorem State.setupChecks_keeps {z s : State} (h : Keeps z s) : Keeps z (State.setupChecks s) := by
  unfold State.setupChecks; try dsimp only
  with_reducible repeat' first | assumption | apply State.posAll_keeps | apply State.leaderChecks_keeps | apply State.enableChannels_keeps | apply State.freshChecks_keeps | apply State.dischChecks_keeps | apply State.gaChecks_keeps | apply State.modChecks_keeps | apply State.modGlb_keeps | apply State.slotChecks_keeps | apply State.canChecks_keeps | apply State.senseChecks_keeps | apply State.modCh_keeps | apply keeps_foldl | intro _

theorem State.recastOutcome_keeps {z s : State} (h : Keeps z s) (slot : SlotCode) (k outcome : Nat) : Keeps z (State.recastOutcome s slot k outcome) := by
  unfold State.recastOutcome; try dsimp only
  with_reducible repeat' first | assumption | apply State.modCtrl_keeps

theorem State.qualify_keeps {z s : State} (h : Keeps z s) (c : Channel) : Keeps z (State.qualify s c) := by
  unfold State.qualify; try dsimp only
  with_reducible repeat' first | assumption | apply State.modProt_keeps

theorem State.failStart_keeps {z s : State} (h : Keeps z s) : Keeps z (State.failStart s) := by
  unfold State.failStart; try dsimp only
  with_reducible repeat' first | assumption | apply State.modTest_keeps | apply State.testFails_keeps

end Sys2Proof.Machine
end

