-- ==== Sys2Proof/Laws/ExecFrames.lean ====
section
/-! SUPPORT. The frame lemma of each meaning: whatever next state it answers keeps the canonical form of the sparse memories (KeepsOut). -/

namespace Sys2Proof.Machine

/-! ## Board -/

theorem execScrub_keeps {z s : State} (h : Keeps z s) (die : CtrlId) (upsets : List (Nat × Nat)) : KeepsOut z (execScrub die upsets s) := by
  unfold execScrub; try dsimp only
  with_reducible repeat' first | assumption | apply State.modCtrl_keeps | apply State.raiseAll_keeps | apply keepsOut_next | split

/-! ## Table -/

theorem execTl1_keeps {z s : State} (h : Keeps z s) (die : CtrlId) (engine : EngineNo) : KeepsOut z (execTl1 die engine s) := by
  unfold execTl1; try dsimp only
  with_reducible repeat' first | assumption | apply State.lookup_keeps | apply keepsOut_next

theorem execTl1r_keeps {z s : State} (h : Keeps z s) (die : CtrlId) (engine : EngineNo) : KeepsOut z (execTl1r die engine s) := by
  unfold execTl1r; try dsimp only
  with_reducible repeat' first | assumption | apply State.lookup_keeps | apply keepsOut_next

theorem execTl2_keeps {z s : State} (h : Keeps z s) (die : CtrlId) (engine : EngineNo) : KeepsOut z (execTl2 die engine s) := by
  unfold execTl2; try dsimp only
  with_reducible repeat' first | assumption | apply State.lookup_keeps | apply keepsOut_next

theorem execTl2r_keeps {z s : State} (h : Keeps z s) (die : CtrlId) (engine : EngineNo) : KeepsOut z (execTl2r die engine s) := by
  unfold execTl2r; try dsimp only
  with_reducible repeat' first | assumption | apply State.lookup_keeps | apply keepsOut_next

/-! ## EngineOps -/

theorem execAdd_keeps {z s : State} (h : Keeps z s) (die : CtrlId) (engine : EngineNo) : KeepsOut z (execAdd die engine s) := by
  unfold execAdd; try dsimp only
  with_reducible repeat' first | assumption | apply State.alu2_keeps | apply keepsOut_next

theorem execSub_keeps {z s : State} (h : Keeps z s) (die : CtrlId) (engine : EngineNo) : KeepsOut z (execSub die engine s) := by
  unfold execSub; try dsimp only
  with_reducible repeat' first | assumption | apply State.alu2_keeps | apply keepsOut_next

theorem execMul_keeps {z s : State} (h : Keeps z s) (die : CtrlId) (engine : EngineNo) : KeepsOut z (execMul die engine s) := by
  unfold execMul; try dsimp only
  with_reducible repeat' first | assumption | apply State.alu2_keeps | apply keepsOut_next

theorem execMulh_keeps {z s : State} (h : Keeps z s) (die : CtrlId) (engine : EngineNo) : KeepsOut z (execMulh die engine s) := by
  unfold execMulh; try dsimp only
  with_reducible repeat' first | assumption | apply State.alu2_keeps | apply keepsOut_next

theorem execMulhu_keeps {z s : State} (h : Keeps z s) (die : CtrlId) (engine : EngineNo) : KeepsOut z (execMulhu die engine s) := by
  unfold execMulhu; try dsimp only
  with_reducible repeat' first | assumption | apply State.alu2_keeps | apply keepsOut_next

theorem execAnd_keeps {z s : State} (h : Keeps z s) (die : CtrlId) (engine : EngineNo) : KeepsOut z (execAnd die engine s) := by
  unfold execAnd; try dsimp only
  with_reducible repeat' first | assumption | apply State.alu2_keeps | apply keepsOut_next

theorem execOr_keeps {z s : State} (h : Keeps z s) (die : CtrlId) (engine : EngineNo) : KeepsOut z (execOr die engine s) := by
  unfold execOr; try dsimp only
  with_reducible repeat' first | assumption | apply State.alu2_keeps | apply keepsOut_next

theorem execXor_keeps {z s : State} (h : Keeps z s) (die : CtrlId) (engine : EngineNo) : KeepsOut z (execXor die engine s) := by
  unfold execXor; try dsimp only
  with_reducible repeat' first | assumption | apply State.alu2_keeps | apply keepsOut_next

theorem execShl_keeps {z s : State} (h : Keeps z s) (die : CtrlId) (engine : EngineNo) : KeepsOut z (execShl die engine s) := by
  unfold execShl; try dsimp only
  with_reducible repeat' first | assumption | apply State.alu2_keeps | apply keepsOut_next

theorem execShr_keeps {z s : State} (h : Keeps z s) (die : CtrlId) (engine : EngineNo) : KeepsOut z (execShr die engine s) := by
  unfold execShr; try dsimp only
  with_reducible repeat' first | assumption | apply State.alu2_keeps | apply keepsOut_next

theorem execSar_keeps {z s : State} (h : Keeps z s) (die : CtrlId) (engine : EngineNo) : KeepsOut z (execSar die engine s) := by
  unfold execSar; try dsimp only
  with_reducible repeat' first | assumption | apply State.alu2_keeps | apply keepsOut_next

theorem execMin_keeps {z s : State} (h : Keeps z s) (die : CtrlId) (engine : EngineNo) : KeepsOut z (execMin die engine s) := by
  unfold execMin; try dsimp only
  with_reducible repeat' first | assumption | apply State.alu2_keeps | apply keepsOut_next

theorem execMax_keeps {z s : State} (h : Keeps z s) (die : CtrlId) (engine : EngineNo) : KeepsOut z (execMax die engine s) := by
  unfold execMax; try dsimp only
  with_reducible repeat' first | assumption | apply State.alu2_keeps | apply keepsOut_next

theorem execMinu_keeps {z s : State} (h : Keeps z s) (die : CtrlId) (engine : EngineNo) : KeepsOut z (execMinu die engine s) := by
  unfold execMinu; try dsimp only
  with_reducible repeat' first | assumption | apply State.alu2_keeps | apply keepsOut_next

theorem execMaxu_keeps {z s : State} (h : Keeps z s) (die : CtrlId) (engine : EngineNo) : KeepsOut z (execMaxu die engine s) := by
  unfold execMaxu; try dsimp only
  with_reducible repeat' first | assumption | apply State.alu2_keeps | apply keepsOut_next

theorem execSeq_keeps {z s : State} (h : Keeps z s) (die : CtrlId) (engine : EngineNo) : KeepsOut z (execSeq die engine s) := by
  unfold execSeq; try dsimp only
  with_reducible repeat' first | assumption | apply State.alu2_keeps | apply keepsOut_next

theorem execSlt_keeps {z s : State} (h : Keeps z s) (die : CtrlId) (engine : EngineNo) : KeepsOut z (execSlt die engine s) := by
  unfold execSlt; try dsimp only
  with_reducible repeat' first | assumption | apply State.alu2_keeps | apply keepsOut_next

theorem execSltu_keeps {z s : State} (h : Keeps z s) (die : CtrlId) (engine : EngineNo) : KeepsOut z (execSltu die engine s) := by
  unfold execSltu; try dsimp only
  with_reducible repeat' first | assumption | apply State.alu2_keeps | apply keepsOut_next

theorem execSel_keeps {z s : State} (h : Keeps z s) (die : CtrlId) (engine : EngineNo) : KeepsOut z (execSel die engine s) := by
  unfold execSel; try dsimp only
  with_reducible repeat' first | assumption | apply State.alu3_keeps | apply keepsOut_next

theorem execMovi_keeps {z s : State} (h : Keeps z s) (die : CtrlId) (engine : EngineNo) : KeepsOut z (execMovi die engine s) := by
  unfold execMovi; try dsimp only
  with_reducible repeat' first | assumption | apply State.onRun_keeps | apply keepsOut_next

theorem execQmul_keeps {z s : State} (h : Keeps z s) (die : CtrlId) (engine : EngineNo) : KeepsOut z (execQmul die engine s) := by
  unfold execQmul; try dsimp only
  with_reducible repeat' first | assumption | apply State.alu2_keeps | apply keepsOut_next

theorem execQint_keeps {z s : State} (h : Keeps z s) (die : CtrlId) (engine : EngineNo) : KeepsOut z (execQint die engine s) := by
  unfold execQint; try dsimp only
  with_reducible repeat' first | assumption | apply State.onRun_keeps | apply keepsOut_next

theorem execSadd_keeps {z s : State} (h : Keeps z s) (die : CtrlId) (engine : EngineNo) : KeepsOut z (execSadd die engine s) := by
  unfold execSadd; try dsimp only
  with_reducible repeat' first | assumption | apply State.alu2_keeps | apply keepsOut_next

theorem execSsub_keeps {z s : State} (h : Keeps z s) (die : CtrlId) (engine : EngineNo) : KeepsOut z (execSsub die engine s) := by
  unfold execSsub; try dsimp only
  with_reducible repeat' first | assumption | apply State.alu2_keeps | apply keepsOut_next

theorem execFadd_keeps {z s : State} (h : Keeps z s) (die : CtrlId) (engine : EngineNo) : KeepsOut z (execFadd die engine s) := by
  unfold execFadd; try dsimp only
  with_reducible repeat' first | assumption | apply State.alu2_keeps | apply keepsOut_next

theorem execFsub_keeps {z s : State} (h : Keeps z s) (die : CtrlId) (engine : EngineNo) : KeepsOut z (execFsub die engine s) := by
  unfold execFsub; try dsimp only
  with_reducible repeat' first | assumption | apply State.alu2_keeps | apply keepsOut_next

theorem execFmul_keeps {z s : State} (h : Keeps z s) (die : CtrlId) (engine : EngineNo) : KeepsOut z (execFmul die engine s) := by
  unfold execFmul; try dsimp only
  with_reducible repeat' first | assumption | apply State.alu2_keeps | apply keepsOut_next

theorem execFma_keeps {z s : State} (h : Keeps z s) (die : CtrlId) (engine : EngineNo) : KeepsOut z (execFma die engine s) := by
  unfold execFma; try dsimp only
  with_reducible repeat' first | assumption | apply State.alu3_keeps | apply keepsOut_next

theorem execFms_keeps {z s : State} (h : Keeps z s) (die : CtrlId) (engine : EngineNo) : KeepsOut z (execFms die engine s) := by
  unfold execFms; try dsimp only
  with_reducible repeat' first | assumption | apply State.alu3_keeps | apply keepsOut_next

theorem execFnma_keeps {z s : State} (h : Keeps z s) (die : CtrlId) (engine : EngineNo) : KeepsOut z (execFnma die engine s) := by
  unfold execFnma; try dsimp only
  with_reducible repeat' first | assumption | apply State.alu3_keeps | apply keepsOut_next

theorem execFdiv_keeps {z s : State} (h : Keeps z s) (die : CtrlId) (engine : EngineNo) : KeepsOut z (execFdiv die engine s) := by
  unfold execFdiv; try dsimp only
  with_reducible repeat' first | assumption | apply State.alu2_keeps | apply keepsOut_next

theorem execFsqrt_keeps {z s : State} (h : Keeps z s) (die : CtrlId) (engine : EngineNo) : KeepsOut z (execFsqrt die engine s) := by
  unfold execFsqrt; try dsimp only
  with_reducible repeat' first | assumption | apply State.alu1_keeps | apply keepsOut_next

theorem execFrsq_keeps {z s : State} (h : Keeps z s) (die : CtrlId) (engine : EngineNo) : KeepsOut z (execFrsq die engine s) := by
  unfold execFrsq; try dsimp only
  with_reducible repeat' first | assumption | apply State.alu1_keeps | apply keepsOut_next

theorem execFmin_keeps {z s : State} (h : Keeps z s) (die : CtrlId) (engine : EngineNo) : KeepsOut z (execFmin die engine s) := by
  unfold execFmin; try dsimp only
  with_reducible repeat' first | assumption | apply State.alu2_keeps | apply keepsOut_next

theorem execFmax_keeps {z s : State} (h : Keeps z s) (die : CtrlId) (engine : EngineNo) : KeepsOut z (execFmax die engine s) := by
  unfold execFmax; try dsimp only
  with_reducible repeat' first | assumption | apply State.alu2_keeps | apply keepsOut_next

theorem execFabs_keeps {z s : State} (h : Keeps z s) (die : CtrlId) (engine : EngineNo) : KeepsOut z (execFabs die engine s) := by
  unfold execFabs; try dsimp only
  with_reducible repeat' first | assumption | apply State.alu1_keeps | apply keepsOut_next

theorem execFneg_keeps {z s : State} (h : Keeps z s) (die : CtrlId) (engine : EngineNo) : KeepsOut z (execFneg die engine s) := by
  unfold execFneg; try dsimp only
  with_reducible repeat' first | assumption | apply State.alu1_keeps | apply keepsOut_next

theorem execFeq_keeps {z s : State} (h : Keeps z s) (die : CtrlId) (engine : EngineNo) : KeepsOut z (execFeq die engine s) := by
  unfold execFeq; try dsimp only
  with_reducible repeat' first | assumption | apply State.alu2_keeps | apply keepsOut_next

theorem execFlt_keeps {z s : State} (h : Keeps z s) (die : CtrlId) (engine : EngineNo) : KeepsOut z (execFlt die engine s) := by
  unfold execFlt; try dsimp only
  with_reducible repeat' first | assumption | apply State.alu2_keeps | apply keepsOut_next

theorem execFle_keeps {z s : State} (h : Keeps z s) (die : CtrlId) (engine : EngineNo) : KeepsOut z (execFle die engine s) := by
  unfold execFle; try dsimp only
  with_reducible repeat' first | assumption | apply State.alu2_keeps | apply keepsOut_next

theorem execFclamp_keeps {z s : State} (h : Keeps z s) (die : CtrlId) (engine : EngineNo) : KeepsOut z (execFclamp die engine s) := by
  unfold execFclamp; try dsimp only
  with_reducible repeat' first | assumption | apply State.alu3_keeps | apply keepsOut_next

theorem execCvtfi_keeps {z s : State} (h : Keeps z s) (die : CtrlId) (engine : EngineNo) : KeepsOut z (execCvtfi die engine s) := by
  unfold execCvtfi; try dsimp only
  with_reducible repeat' first | assumption | apply State.alu1_keeps | apply keepsOut_next

theorem execCvtif_keeps {z s : State} (h : Keeps z s) (die : CtrlId) (engine : EngineNo) : KeepsOut z (execCvtif die engine s) := by
  unfold execCvtif; try dsimp only
  with_reducible repeat' first | assumption | apply State.alu1_keeps | apply keepsOut_next

theorem execCvtuf_keeps {z s : State} (h : Keeps z s) (die : CtrlId) (engine : EngineNo) : KeepsOut z (execCvtuf die engine s) := by
  unfold execCvtuf; try dsimp only
  with_reducible repeat' first | assumption | apply State.alu1_keeps | apply keepsOut_next

theorem execCvtfq_keeps {z s : State} (h : Keeps z s) (die : CtrlId) (engine : EngineNo) : KeepsOut z (execCvtfq die engine s) := by
  unfold execCvtfq; try dsimp only
  with_reducible repeat' first | assumption | apply State.alu1_keeps | apply keepsOut_next

theorem execCvtqf_keeps {z s : State} (h : Keeps z s) (die : CtrlId) (engine : EngineNo) : KeepsOut z (execCvtqf die engine s) := by
  unfold execCvtqf; try dsimp only
  with_reducible repeat' first | assumption | apply State.alu1_keeps | apply keepsOut_next

theorem execSincos_keeps {z s : State} (h : Keeps z s) (die : CtrlId) (engine : EngineNo) : KeepsOut z (execSincos die engine s) := by
  unfold execSincos; try dsimp only
  with_reducible repeat' first | assumption | apply State.onRun_keeps | apply keepsOut_next

theorem execAtan2_keeps {z s : State} (h : Keeps z s) (die : CtrlId) (engine : EngineNo) : KeepsOut z (execAtan2 die engine s) := by
  unfold execAtan2; try dsimp only
  with_reducible repeat' first | assumption | apply State.alu2_keeps | apply keepsOut_next

theorem execAadd_keeps {z s : State} (h : Keeps z s) (die : CtrlId) (engine : EngineNo) : KeepsOut z (execAadd die engine s) := by
  unfold execAadd; try dsimp only
  with_reducible repeat' first | assumption | apply State.alu2_keeps | apply keepsOut_next

theorem execAsub_keeps {z s : State} (h : Keeps z s) (die : CtrlId) (engine : EngineNo) : KeepsOut z (execAsub die engine s) := by
  unfold execAsub; try dsimp only
  with_reducible repeat' first | assumption | apply State.alu2_keeps | apply keepsOut_next

theorem execCvtaf_keeps {z s : State} (h : Keeps z s) (die : CtrlId) (engine : EngineNo) : KeepsOut z (execCvtaf die engine s) := by
  unfold execCvtaf; try dsimp only
  with_reducible repeat' first | assumption | apply State.alu1_keeps | apply keepsOut_next

theorem execCvtfa_keeps {z s : State} (h : Keeps z s) (die : CtrlId) (engine : EngineNo) : KeepsOut z (execCvtfa die engine s) := by
  unfold execCvtfa; try dsimp only
  with_reducible repeat' first | assumption | apply State.alu1_keeps | apply keepsOut_next

theorem execLds_keeps {z s : State} (h : Keeps z s) (die : CtrlId) (engine : EngineNo) : KeepsOut z (execLds die engine s) := by
  unfold execLds; try dsimp only
  with_reducible repeat' first | assumption | apply State.afterLoad_keeps | apply State.onInstr_keeps | apply keepsOut_next | intro _

theorem execLdv_keeps {z s : State} (h : Keeps z s) (die : CtrlId) (engine : EngineNo) : KeepsOut z (execLdv die engine s) := by
  unfold execLdv; try dsimp only
  with_reducible repeat' first | assumption | apply State.afterLoad_keeps | apply State.onInstr_keeps | apply keepsOut_next | intro _

theorem execSts_keeps {z s : State} (h : Keeps z s) (die : CtrlId) (engine : EngineNo) : KeepsOut z (execSts die engine s) := by
  unfold execSts; try dsimp only
  with_reducible repeat' first | assumption | apply State.afterStore_keeps | apply State.onInstr_keeps | apply keepsOut_next | intro _

theorem execStv_keeps {z s : State} (h : Keeps z s) (die : CtrlId) (engine : EngineNo) : KeepsOut z (execStv die engine s) := by
  unfold execStv; try dsimp only
  with_reducible repeat' first | assumption | apply State.afterStore_keeps | apply State.onInstr_keeps | apply keepsOut_next | intro _

theorem execXrd_keeps {z s : State} (h : Keeps z s) (die : CtrlId) (engine : EngineNo) : KeepsOut z (execXrd die engine s) := by
  unfold execXrd; try dsimp only
  with_reducible repeat' first | assumption | apply State.onRun_keeps | apply keepsOut_next

theorem execXmov_keeps {z s : State} (h : Keeps z s) (die : CtrlId) (engine : EngineNo) : KeepsOut z (execXmov die engine s) := by
  unfold execXmov; try dsimp only
  with_reducible repeat' first | assumption | apply State.onRun_keeps | apply keepsOut_next

theorem execXadd_keeps {z s : State} (h : Keeps z s) (die : CtrlId) (engine : EngineNo) : KeepsOut z (execXadd die engine s) := by
  unfold execXadd; try dsimp only
  with_reducible repeat' first | assumption | apply State.onRun_keeps | apply keepsOut_next

theorem execXsub_keeps {z s : State} (h : Keeps z s) (die : CtrlId) (engine : EngineNo) : KeepsOut z (execXsub die engine s) := by
  unfold execXsub; try dsimp only
  with_reducible repeat' first | assumption | apply State.onRun_keeps | apply keepsOut_next

theorem execXst_keeps {z s : State} (h : Keeps z s) (die : CtrlId) (engine : EngineNo) : KeepsOut z (execXst die engine s) := by
  unfold execXst; try dsimp only
  with_reducible repeat' first | assumption | apply State.onRun_keeps | apply keepsOut_next

/-! ## Runs -/

theorem execRunReady_keeps {z s : State} (h : Keeps z s) (die : CtrlId) (slot : SlotCode) : KeepsOut z (execRunReady die slot s) := by
  unfold execRunReady; try dsimp only
  with_reducible repeat' first | assumption | apply State.modSlot_keeps | apply State.modCtrl_keeps | apply keepsOut_next | split

theorem execRunStart_keeps {z s : State} (h : Keeps z s) (die : CtrlId) (engine : EngineNo) : KeepsOut z (execRunStart die engine s) := by
  unfold execRunStart; try dsimp only
  with_reducible repeat' first | assumption | apply State.failRun_keeps | apply State.modEngine_keeps | apply State.raiseFor_keeps | apply State.modCtrl_keeps | apply keepsOut_next | split

theorem execNop_keeps {z s : State} (h : Keeps z s) (die : CtrlId) (engine : EngineNo) : KeepsOut z (execNop die engine s) := by
  unfold execNop; try dsimp only
  with_reducible repeat' first | assumption | apply State.onRun_keeps | apply keepsOut_next

theorem execBr_keeps {z s : State} (h : Keeps z s) (die : CtrlId) (engine : EngineNo) : KeepsOut z (execBr die engine s) := by
  unfold execBr; try dsimp only
  with_reducible repeat' first | assumption | apply State.onRun_keeps | apply keepsOut_next

theorem execBz_keeps {z s : State} (h : Keeps z s) (die : CtrlId) (engine : EngineNo) : KeepsOut z (execBz die engine s) := by
  unfold execBz; try dsimp only
  with_reducible repeat' first | assumption | apply State.onRun_keeps | apply keepsOut_next

theorem execBnz_keeps {z s : State} (h : Keeps z s) (die : CtrlId) (engine : EngineNo) : KeepsOut z (execBnz die engine s) := by
  unfold execBnz; try dsimp only
  with_reducible repeat' first | assumption | apply State.onRun_keeps | apply keepsOut_next

theorem execLps_keeps {z s : State} (h : Keeps z s) (die : CtrlId) (engine : EngineNo) : KeepsOut z (execLps die engine s) := by
  unfold execLps; try dsimp only
  with_reducible repeat' first | assumption | apply State.failRun_keeps | apply State.onInstr_keeps | apply State.setRun_keeps | apply keepsOut_next | intro _ | split

theorem execLpe_keeps {z s : State} (h : Keeps z s) (die : CtrlId) (engine : EngineNo) : KeepsOut z (execLpe die engine s) := by
  unfold execLpe; try dsimp only
  with_reducible repeat' first | assumption | apply State.onRun_keeps | apply keepsOut_next

theorem execRinfo_keeps {z s : State} (h : Keeps z s) (die : CtrlId) (engine : EngineNo) : KeepsOut z (execRinfo die engine s) := by
  unfold execRinfo; try dsimp only
  with_reducible repeat' first | assumption | apply State.onRun_keeps | apply keepsOut_next

theorem execWait_keeps {z s : State} (h : Keeps z s) (die : CtrlId) (engine : EngineNo) : KeepsOut z (execWait die engine s) := by
  unfold execWait; try dsimp only
  with_reducible repeat' first | assumption | apply State.finishWait_keeps | apply State.failRun_keeps | apply State.onInstr_keeps | apply State.setRun_keeps | apply State.modEngine_keeps | apply keepsOut_next | intro _ | split

theorem execWaitCompletion_keeps {z s : State} (h : Keeps z s) (die : CtrlId) (engine : EngineNo) : KeepsOut z (execWaitCompletion die engine s) := by
  unfold execWaitCompletion; try dsimp only
  with_reducible repeat' first | assumption | apply State.finishWait_keeps | apply keepsOut_next | split

theorem execRunDeadline_keeps {z s : State} (h : Keeps z s) (slot : SlotCode) : KeepsOut z (execRunDeadline slot s) := by
  unfold execRunDeadline
  extract_lets x f
  generalize List.find? _ _ = o
  split
  · exact keepsOut_next h
  · generalize (s.die .a).engineOf slot = y
    cases y with
    | none =>
      cases o with
      | none => exact keepsOut_next h
      | some k => exact keepsOut_next (State.miss_keeps (State.verdict_keeps (State.notRun_keeps h _ _ _ _) _ _ _) _ _ _ _ _)
    | some y => exact keepsOut_ite (fun _ => keepsOut_next (State.abortRun_keeps h _ _ _)) (fun _ => keepsOut_next h)

theorem execVerdict_keeps {z s : State} (h : Keeps z s) (slot : SlotCode) : KeepsOut z (execVerdict slot s) := by
  unfold execVerdict; try dsimp only
  with_reducible repeat' first | assumption | apply State.notRun_keeps | apply State.endRun_keeps | apply State.discardRun_keeps | apply State.modSlot_keeps | apply State.recastOutcome_keeps | apply State.fileUnstarted_keeps | simp only [keeps_mk_iff] | apply keepsOut_next | apply keeps_foldl | apply keeps_foldl_fst | intro _ | split

/-! ## Links -/

theorem execFlit_keeps {z s : State} (h : Keeps z s) (link : Fin 27) (bits : BitVec 128) : KeepsOut z (execFlit link bits s) := by
  unfold execFlit; try dsimp only
  with_reducible repeat' first | assumption | apply State.sendWaiting_keeps | apply State.modLink_keeps | apply State.emit_keeps | apply keepsOut_next | split

theorem execNegativeAcknowledgement_keeps {z s : State} (h : Keeps z s) (link : Fin 27) (seq : BitVec 4) : KeepsOut z (execNegativeAcknowledgement link seq s) := by
  unfold execNegativeAcknowledgement; try dsimp only
  with_reducible repeat' first | assumption | apply State.resend_keeps | apply State.sendWaiting_keeps | apply State.modLink_keeps | apply keepsOut_next | split

theorem execAcknowledgementTimeout_keeps {z s : State} (h : Keeps z s) (link : Fin 27) : KeepsOut z (execAcknowledgementTimeout link s) := by
  unfold execAcknowledgementTimeout; try dsimp only
  with_reducible repeat' first | assumption | apply State.resend_keeps | apply keepsOut_next | split

theorem execForwardedEffect_keeps {z s : State} (h : Keeps z s) : KeepsOut z (execForwardedEffect s) := by
  unfold execForwardedEffect; try dsimp only
  with_reducible repeat' first | assumption | simp only [keeps_mk_iff] | apply State.applyEffect_keeps | apply keepsOut_next | split

/-! ## Clock -/

theorem execTimeBaseLock_keeps {z s : State} (h : Keeps z s) : KeepsOut z (execTimeBaseLock s) := by
  unfold execTimeBaseLock; try dsimp only
  with_reducible repeat' first | assumption | simp only [keeps_mk_iff] | apply State.relock_keeps | apply keepsOut_next | split

theorem execLockTimeout_keeps {z s : State} (h : Keeps z s) : KeepsOut z (execLockTimeout s) := by
  unfold execLockTimeout; try dsimp only
  with_reducible repeat' first | assumption | simp only [keeps_mk_iff] | apply State.assertDieFault_keeps | apply State.raise_keeps | apply keepsOut_next | split

theorem execReferenceLost_keeps {z s : State} (h : Keeps z s) (lastEdge : Nat) : KeepsOut z (execReferenceLost lastEdge s) := by
  unfold execReferenceLost; try dsimp only
  with_reducible repeat' first | assumption | simp only [keeps_mk_iff] | apply State.raise_keeps | apply keepsOut_next | split

theorem execReferenceReturn_keeps {z s : State} (h : Keeps z s) : KeepsOut z (execReferenceReturn s) := by
  unfold execReferenceReturn; try dsimp only
  with_reducible repeat' first | assumption | apply State.relock_keeps | apply keepsOut_next | split

theorem execHoldoverTimeout_keeps {z s : State} (h : Keeps z s) : KeepsOut z (execHoldoverTimeout s) := by
  unfold execHoldoverTimeout; try dsimp only
  with_reducible repeat' first | assumption | simp only [keeps_mk_iff] | apply State.assertDieFault_keeps | apply State.raise_keeps | apply keepsOut_next | split

theorem execDevTimeLo_keeps {z s : State} (h : Keeps z s) : KeepsOut z (execDevTimeLo s) := by
  unfold execDevTimeLo; try dsimp only
  with_reducible repeat' first | assumption | simp only [keeps_mk_iff] | apply State.emit_keeps | apply keepsOut_next

theorem execTimeCode_keeps {z s : State} (h : Keeps z s) (die : Die) (code : BitVec 64) (crc : BitVec 16) : KeepsOut z (execTimeCode die code crc s) := by
  unfold execTimeCode; try dsimp only
  with_reducible repeat' first | assumption | simp only [keeps_mk_iff] | apply State.assertDieFault_keeps | apply State.raise_keeps | apply keepsOut_next | split

theorem execFrameMessage_keeps {z s : State} (h : Keeps z s) (die : Fin 2) (message : BitVec 128) : KeepsOut z (execFrameMessage die message s) := by
  unfold execFrameMessage; try dsimp only
  with_reducible repeat' first | assumption | apply State.modCh_keeps | apply keepsOut_next | split

theorem execResyncMessage_keeps {z s : State} (h : Keeps z s) (die : Fin 2) (message : BitVec 128) : KeepsOut z (execResyncMessage die message s) := by
  unfold execResyncMessage; try dsimp only
  with_reducible repeat' first | assumption | apply State.modCh_keeps | apply keepsOut_next | split

theorem execTimerMatch_keeps {z s : State} (h : Keeps z s) (die : CtrlId) (index : Nat) : KeepsOut z (execTimerMatch die index s) := by
  unfold execTimerMatch; try dsimp only
  with_reducible repeat' first | assumption | simp only [keeps_mk_iff] | apply keepsOut_next | split

/-! ## Planner -/

theorem execVelvetReading_keeps {z s : State} (h : Keeps z s) (die : CtrlId) (counts : List (Nat × Nat)) : KeepsOut z (execVelvetReading die counts s) := by
  unfold execVelvetReading; try dsimp only
  with_reducible repeat' first | assumption | apply State.planReading_keeps | apply State.takeReading_keeps | apply State.modPlan_keeps | apply keepsOut_next | split

theorem execAvsReadback_keeps {z s : State} (h : Keeps z s) (die : CtrlId) (mV : Nat) : KeepsOut z (execAvsReadback die mV s) := by
  unfold execAvsReadback; try dsimp only
  with_reducible repeat' first | assumption | apply State.avsRetry_keeps | apply State.modPlan_keeps | apply keepsOut_next | split

theorem execAvsTimeout_keeps {z s : State} (h : Keeps z s) (die : CtrlId) : KeepsOut z (execAvsTimeout die s) := by
  unfold execAvsTimeout; try dsimp only
  with_reducible repeat' first | assumption | apply State.avsRetry_keeps | apply keepsOut_next | split

theorem execAgeingPairReading_keeps {z s : State} (h : Keeps z s) (die : CtrlId) (stressed unstressed : Nat) : KeepsOut z (execAgeingPairReading die stressed unstressed s) := by
  unfold execAgeingPairReading; try dsimp only
  with_reducible repeat' first | assumption | apply State.showLoss_keeps | apply State.modPlan_keeps | apply State.raise_keeps | apply keepsOut_next | split

theorem execEolMargin_keeps {z s : State} (h : Keeps z s) : KeepsOut z (execEolMargin s) := by
  unfold execEolMargin; try dsimp only
  with_reducible repeat' first | assumption | simp only [keeps_mk_iff] | apply State.raiseAll_keeps | apply keepsOut_next | split

/-! ## Sense -/

theorem execSmpRptr_keeps {z s : State} (h : Keeps z s) (buffer : Fin 64) (value : BitVec 32) : KeepsOut z (execSmpRptr buffer value s) := by
  unfold execSmpRptr; try dsimp only
  with_reducible repeat' first | assumption | apply State.setRptr_keeps | apply keepsOut_next

theorem execSdmStuck_keeps {z s : State} (h : Keeps z s) (die : Fin 2) (input : Fin 24) (bits : List Bool) : KeepsOut z (execSdmStuck die input bits s) := by
  unfold execSdmStuck; try dsimp only
  with_reducible repeat' first | assumption | apply State.bitsArrive_keeps

theorem execSdmRestored_keeps {z s : State} (h : Keeps z s) (die : Fin 2) (input : Fin 24) (bits : List Bool) : KeepsOut z (execSdmRestored die input bits s) := by
  unfold execSdmRestored; try dsimp only
  with_reducible repeat' first | assumption | apply State.bitsArrive_keeps

theorem execFilterSettled_keeps {z s : State} (h : Keeps z s) (die : Fin 2) (input : Fin 24) (bits : List Bool) : KeepsOut z (execFilterSettled die input bits s) := by
  unfold execFilterSettled; try dsimp only
  with_reducible repeat' first | assumption | apply State.bitsArrive_keeps

theorem execSinc1Trip_keeps {z s : State} (h : Keeps z s) (die : Fin 2) (input : Fin 24) (bits : List Bool) : KeepsOut z (execSinc1Trip die input bits s) := by
  unfold execSinc1Trip; try dsimp only
  with_reducible repeat' first | assumption | apply State.bitsArrive_keeps

theorem execSdmSampleRecord_keeps {z s : State} (h : Keeps z s) (die : Fin 2) (input : Fin 24) (bits : List Bool) : KeepsOut z (execSdmSampleRecord die input bits s) := by
  unfold execSdmSampleRecord; try dsimp only
  with_reducible repeat' first | assumption | apply State.bitsArrive_keeps

theorem execAdcTimerTrigger_keeps {z s : State} (h : Keeps z s) (die : Fin 2) (conv : Fin 6) : KeepsOut z (execAdcTimerTrigger die conv s) := by
  unfold execAdcTimerTrigger; try dsimp only
  with_reducible repeat' first | assumption | apply State.trigger_keeps | apply State.modConv_keeps | apply keepsOut_next | split

theorem execUrgentRequest_keeps {z s : State} (h : Keeps z s) (ch : Channel) : KeepsOut z (execUrgentRequest ch s) := by
  unfold execUrgentRequest; try dsimp only
  with_reducible repeat' first | assumption | apply State.urgent_keeps | apply State.dropUrgent_keeps | apply State.serve_keeps | apply State.modMeas_keeps | apply keepsOut_next | split

theorem execUrgentConversionEnd_keeps {z s : State} (h : Keeps z s) (die : Fin 2) (conv : Fin 6) (nanovolts : Int) : KeepsOut z (execUrgentConversionEnd die conv nanovolts s) := by
  unfold execUrgentConversionEnd; try dsimp only
  with_reducible repeat' first | assumption | apply State.serve_keeps | apply State.modConv_keeps | apply State.hwCommit_keeps | apply keepsOut_next | split

theorem execPlausibilityPeriod_keeps {z s : State} (h : Keeps z s) (die : Fin 2) (pair : Fin 3) : KeepsOut z (execPlausibilityPeriod die pair s) := by
  unfold execPlausibilityPeriod; try dsimp only
  with_reducible repeat' first | assumption | apply State.servePair_keeps | apply State.skipPair_keeps | apply State.modPair_keeps | apply keepsOut_next | split

theorem execHousekeeping_keeps {z s : State} (h : Keeps z s) (die : Fin 2) : KeepsOut z (execHousekeeping die s) := by
  unfold execHousekeeping; try dsimp only
  with_reducible repeat' first | assumption | apply State.serve_keeps | apply State.modConv_keeps | apply State.modSense_keeps | apply keepsOut_next | split

theorem execOwStatus_keeps {z s : State} (h : Keeps z s) (die : Fin 2) (index : Fin 2) (value : BitVec 32) : KeepsOut z (execOwStatus die index value s) := by
  unfold execOwStatus; try dsimp only
  with_reducible repeat' first | assumption | apply State.owClear_keeps | apply keepsOut_next | split

theorem execMeasLate_keeps {z s : State} (h : Keeps z s) (ch : Channel) : KeepsOut z (execMeasLate ch s) := by
  unfold execMeasLate; try dsimp only
  with_reducible repeat' first | assumption | apply State.modMeas_keeps | apply State.raise_keeps | apply keepsOut_next | split

/-! ## Position -/

theorem execResolverSample_keeps {z s : State} (h : Keeps z s) (die : Fin 2) (pif : Fin 4) (aSin : Int) (aCos : Int) (bSin : Int) (bCos : Int) : KeepsOut z (execResolverSample die pif aSin aCos bSin bCos s) := by
  unfold execResolverSample; try dsimp only
  with_reducible repeat' first | assumption | apply State.resolverMeasure_keeps | apply State.onPif_keeps | apply State.modPif_keeps | apply State.sendDie_keeps | intro _ | split

theorem execSsiWord_keeps {z s : State} (h : Keeps z s) (die : Fin 2) (pif : Fin 4) (bits : BitVec 64) : KeepsOut z (execSsiWord die pif bits s) := by
  unfold execSsiWord; try dsimp only
  with_reducible repeat' first | assumption | apply State.onPif_keeps | apply State.observe_keeps | apply State.rejectPos_keeps | apply State.modPif_keeps | apply State.sendDie_keeps | intro _ | split

theorem execMonoflopEnd_keeps {z s : State} (h : Keeps z s) (die : Fin 2) (pif : Fin 4) (dataHigh : Bool) : KeepsOut z (execMonoflopEnd die pif dataHigh s) := by
  unfold execMonoflopEnd; try dsimp only
  with_reducible repeat' first | assumption | apply State.onPif_keeps | apply State.rejectPos_keeps | apply State.modPif_keeps | intro _ | split

theorem execEncoderEdge_keeps {z s : State} (h : Keeps z s) (die : Fin 2) (pif : Fin 4) (a : Held Bool) (b : Held Bool) : KeepsOut z (execEncoderEdge die pif a b s) := by
  unfold execEncoderEdge; try dsimp only
  with_reducible repeat' first | assumption | apply State.stateError_keeps | apply State.onPif_keeps | apply State.modPif_keeps | intro _ | split

theorem execIndexPulse_keeps {z s : State} (h : Keeps z s) (die : Fin 2) (p : Held (Fin 4)) : KeepsOut z (execIndexPulse die p s) := by
  unfold execIndexPulse; try dsimp only
  with_reducible repeat' first | assumption | apply State.publishPif_keeps | apply State.onPif_keeps | apply State.modPif_keeps | apply State.raise_keeps | intro _ | split

theorem execCountDelivery_keeps {z s : State} (h : Keeps z s) (die : Fin 2) (pif : Fin 4) : KeepsOut z (execCountDelivery die pif s) := by
  unfold execCountDelivery; try dsimp only
  with_reducible repeat' first | assumption | apply State.onPif_keeps | apply State.observe_keeps | apply State.modPif_keeps | intro _ | split

theorem execObserverTimeout_keeps {z s : State} (h : Keeps z s) (die : Fin 2) (pif : Fin 4) : KeepsOut z (execObserverTimeout die pif s) := by
  unfold execObserverTimeout; try dsimp only
  with_reducible repeat' first | assumption | apply State.onPif_keeps | apply State.restartObserver_keeps | apply State.judgeValid_keeps | apply State.rejectPos_keeps | intro _ | split

theorem execInterfaceSignals_keeps {z s : State} (h : Keeps z s) (die : Fin 2) (pif : Fin 4) : KeepsOut z (execInterfaceSignals die pif s) := by
  unfold execInterfaceSignals; try dsimp only
  with_reducible repeat' first | assumption | apply State.publishPif_keeps | apply State.judgeValid_keeps | apply State.modPif_keeps | apply keepsOut_next | simp only [keeps_mk_iff] | apply keeps_foldl | apply keeps_foldl_fst | intro _ | split

theorem execCompareEvaluation_keeps {z s : State} (h : Keeps z s) (die : Fin 2) (unit : Fin 4) : KeepsOut z (execCompareEvaluation die unit s) := by
  unfold execCompareEvaluation; try dsimp only
  with_reducible repeat' first | assumption | apply State.modCmp_keeps | apply State.publishPif_keeps | apply keepsOut_next | split

theorem execCompOutPulseEnd_keeps {z s : State} (h : Keeps z s) (die : Fin 2) (unit : Fin 4) : KeepsOut z (execCompOutPulseEnd die unit s) := by
  unfold execCompOutPulseEnd; try dsimp only
  with_reducible repeat' first | assumption | apply State.modCmp_keeps | apply keepsOut_next | split

theorem execCmpCtrl_keeps {z s : State} (h : Keeps z s) (die : Fin 2) (unit : Fin 4) (value : BitVec 32) : KeepsOut z (execCmpCtrl die unit value s) := by
  unfold execCmpCtrl; try dsimp only
  with_reducible repeat' first | assumption | apply State.writeCmpCtrl_keeps | apply keepsOut_next | split

theorem execCmpList_keeps {z s : State} (h : Keeps z s) (die : Fin 2) (unit : Fin 4) (entry : Fin 64) (high : Bool) (value : BitVec 32) : KeepsOut z (execCmpList die unit entry high value s) := by
  unfold execCmpList; try dsimp only
  with_reducible repeat' first | assumption | apply State.writeCmpList_keeps | apply keepsOut_next | split

theorem execEmulatorUpdate_keeps {z s : State} (h : Keeps z s) (die : Fin 2) : KeepsOut z (execEmulatorUpdate die s) := by
  unfold execEmulatorUpdate; try dsimp only
  with_reducible repeat' first | assumption | apply State.modPos_keeps | apply State.raise_keeps | apply keepsOut_next | split

/-! ## Protect -/

theorem execRelease_keeps {z s : State} (h : Keeps z s) (ch : Channel) : KeepsOut z (execRelease ch s) := by
  unfold execRelease; try dsimp only
  with_reducible repeat' first | assumption | apply State.requestRelease_keeps | apply keepsOut_next | split

theorem execDisch_keeps {z s : State} (h : Keeps z s) (ch : Channel) : KeepsOut z (execDisch ch s) := by
  unfold execDisch; try dsimp only
  with_reducible repeat' first | assumption | apply State.startDischarge_keeps | apply keepsOut_next | split

theorem execDischStop_keeps {z s : State} (h : Keeps z s) (ch : Channel) : KeepsOut z (execDischStop ch s) := by
  unfold execDischStop; try dsimp only
  with_reducible repeat' first | assumption | apply State.stopDischarge_keeps | apply State.fresh_keeps | apply State.raise_keeps | apply keepsOut_next | split

theorem execDischargeTimeout_keeps {z s : State} (h : Keeps z s) (ch : Channel) : KeepsOut z (execDischargeTimeout ch s) := by
  unfold execDischargeTimeout; try dsimp only
  with_reducible repeat' first | assumption | apply State.stopDischarge_keeps | apply State.causeOn_keeps | apply State.raise_keeps | apply keepsOut_next | split

theorem execOcTrip_keeps {z s : State} (h : Keeps z s) (ch : Channel) : KeepsOut z (execOcTrip ch s) := by
  unfold execOcTrip; try dsimp only
  with_reducible repeat' first | assumption | apply State.enterSafe_keeps | apply State.linkSto_keeps | apply State.causeOn_keeps | apply State.settle_keeps | apply State.modProt_keeps | apply keepsOut_next | split

theorem execOcTripRelease_keeps {z s : State} (h : Keeps z s) (ch : Channel) : KeepsOut z (execOcTripRelease ch s) := by
  unfold execOcTripRelease; try dsimp only
  with_reducible repeat' first | assumption | apply State.causeOff_keeps | apply State.ocRelease_keeps | apply State.settle_keeps | apply State.modProt_keeps | apply keepsOut_next | split

theorem execOcHoldExpiry_keeps {z s : State} (h : Keeps z s) (ch : Channel) : KeepsOut z (execOcHoldExpiry ch s) := by
  unfold execOcHoldExpiry; try dsimp only
  with_reducible repeat' first | assumption | apply State.repeatChoice_keeps | apply State.modProt_keeps | apply keepsOut_next | split

theorem execPhaseLossWindow_keeps {z s : State} (h : Keeps z s) (ch : Channel) : KeepsOut z (execPhaseLossWindow ch s) := by
  unfold execPhaseLossWindow; try dsimp only
  with_reducible repeat' first | assumption | apply State.protCause_keeps | apply State.modProt_keeps | apply keepsOut_next | split

theorem execTAscExpiry_keeps {z s : State} (h : Keeps z s) (ch : Channel) : KeepsOut z (execTAscExpiry ch s) := by
  unfold execTAscExpiry; try dsimp only
  with_reducible repeat' first | assumption | apply State.driveAsc_keeps | apply State.linkSto_keeps | apply State.setProt_keeps | apply State.modProt_keeps | apply State.raise_keeps | apply State.showSafe_keeps | apply keepsOut_next | simp only [keeps_mk_iff] | apply keeps_foldl | apply keeps_foldl_fst | intro _ | split

/-! ## Modulator -/

theorem execReferenceSet_keeps {z s : State} (h : Keeps z s) (ch : Channel) : KeepsOut z (execReferenceSet ch s) := by
  unfold execReferenceSet; try dsimp only
  with_reducible repeat' first | assumption | apply State.processNext_keeps | apply State.modMod_keeps | apply State.modCh_keeps | apply keepsOut_next | split

theorem execCutOffInstant_keeps {z s : State} (h : Keeps z s) (ch : Channel) : KeepsOut z (execCutOffInstant ch s) := by
  unfold execCutOffInstant; try dsimp only
  with_reducible repeat' first | assumption | apply State.ownFrame_keeps | apply State.processNext_keeps | apply State.modProt_keeps | apply State.abortRun_keeps | apply State.notRun_keeps | apply State.miss_keeps | apply State.verdict_keeps | apply State.modCh_keeps | apply State.sendEdges_keeps | apply keepsOut_ite | apply keepsOut_next | simp only [keeps_mk_iff] | apply keeps_foldl | apply keeps_foldl_fst | intro _ | split

/-! ## Tolpel -/

theorem execEdge_keeps {z s : State} (h : Keeps z s) (port : Port) (body : List (BitVec 8)) (valid : Bool) : KeepsOut z (execEdge port body valid s) := by
  unfold execEdge; try dsimp only
  with_reducible repeat' first | assumption | apply State.takeEdge_keeps | apply State.onDown_keeps | apply keepsOut_next | intro _

theorem execMark_keeps {z s : State} (h : Keeps z s) (port : Port) (body : List (BitVec 8)) (valid : Bool) : KeepsOut z (execMark port body valid s) := by
  unfold execMark; try dsimp only
  with_reducible repeat' first | assumption | apply State.takeMark_keeps | apply State.onDown_keeps | apply keepsOut_next | intro _

theorem execTimeMark_keeps {z s : State} (h : Keeps z s) (port : Port) (frac : Fin 32) : KeepsOut z (execTimeMark port frac s) := by
  unfold execTimeMark; try dsimp only
  with_reducible repeat' first | assumption | apply State.modSat_keeps | apply keepsOut_next

theorem execSatelliteTimeMark_keeps {z s : State} (h : Keeps z s) (port : Port) : KeepsOut z (execSatelliteTimeMark port s) := by
  unfold execSatelliteTimeMark; try dsimp only
  with_reducible repeat' first | assumption | apply State.sendUp_keeps | apply State.modSat_keeps | apply State.emit_keeps | apply keepsOut_next | split

theorem execTrim_keeps {z s : State} (h : Keeps z s) (port : Port) (body : List (BitVec 8)) (valid : Bool) : KeepsOut z (execTrim port body valid s) := by
  unfold execTrim; try dsimp only
  with_reducible repeat' first | assumption | apply State.onDown_keeps | apply State.satDiscard_keeps | apply State.modSat_keeps | apply keepsOut_next | intro _ | split

theorem execConfig_keeps {z s : State} (h : Keeps z s) (port : Port) (body : List (BitVec 8)) (valid : Bool) : KeepsOut z (execConfig port body valid s) := by
  unfold execConfig; try dsimp only
  with_reducible repeat' first | assumption | apply State.onCmd_keeps | apply State.modSat_keeps | apply keepsOut_next | intro _

theorem execRetire_keeps {z s : State} (h : Keeps z s) (port : Port) (body : List (BitVec 8)) (valid : Bool) : KeepsOut z (execRetire port body valid s) := by
  unfold execRetire; try dsimp only
  with_reducible repeat' first | assumption | apply State.onCmd_keeps | apply State.modSat_keeps | apply keepsOut_next | intro _

theorem execClear_keeps {z s : State} (h : Keeps z s) (port : Port) (body : List (BitVec 8)) (valid : Bool) : KeepsOut z (execClear port body valid s) := by
  unfold execClear; try dsimp only
  with_reducible repeat' first | assumption | apply State.onCmd_keeps | apply State.modSat_keeps | apply keepsOut_next | intro _

theorem execIdentReq_keeps {z s : State} (h : Keeps z s) (port : Port) (body : List (BitVec 8)) (valid : Bool) : KeepsOut z (execIdentReq port body valid s) := by
  unfold execIdentReq; try dsimp only
  with_reducible repeat' first | assumption | apply State.onCmd_keeps | apply State.sendUp_keeps | apply keepsOut_next | intro _

theorem execResume_keeps {z s : State} (h : Keeps z s) (port : Port) (body : List (BitVec 8)) (valid : Bool) : KeepsOut z (execResume port body valid s) := by
  unfold execResume; try dsimp only
  with_reducible repeat' first | assumption | apply State.onCmd_keeps | apply State.modSat_keeps | apply keepsOut_next | intro _

theorem execHoldSet_keeps {z s : State} (h : Keeps z s) (port : Port) (data : BitVec 32) : KeepsOut z (execHoldSet port data s) := by
  unfold execHoldSet; try dsimp only
  with_reducible repeat' first | assumption | apply State.satDiscard_keeps | apply State.modSat_keeps | apply keepsOut_next | split

theorem execHoldDeadline_keeps {z s : State} (h : Keeps z s) (port : Port) : KeepsOut z (execHoldDeadline port s) := by
  unfold execHoldDeadline; try dsimp only
  with_reducible repeat' first | assumption | apply State.modSat_keeps | apply keepsOut_next | split

theorem execDieSwitch_keeps {z s : State} (h : Keeps z s) (port : Port) (die : Fin 16) : KeepsOut z (execDieSwitch port die s) := by
  unfold execDieSwitch; try dsimp only
  with_reducible repeat' first | assumption | apply State.modSat_keeps | apply keepsOut_next | split

theorem execHalfEnd_keeps {z s : State} (h : Keeps z s) (port : Port) (meas : List (BitVec 16 × BitVec 16 × BitVec 16 × Bool)) : KeepsOut z (execHalfEnd port meas s) := by
  unfold execHalfEnd; try dsimp only
  with_reducible repeat' first | assumption | apply State.sendTelem_keeps | apply State.modSat_keeps | apply keepsOut_next | split

theorem execSatelliteLinkLoss_keeps {z s : State} (h : Keeps z s) (port : Port) : KeepsOut z (execSatelliteLinkLoss port s) := by
  unfold execSatelliteLinkLoss; try dsimp only
  with_reducible repeat' first | assumption | apply State.modSat_keeps | apply keepsOut_next | split

theorem execDesaturation_keeps {z s : State} (h : Keeps z s) (port : Port) (die : Fin 16) (supply : Bool) : KeepsOut z (execDesaturation port die supply s) := by
  unfold execDesaturation; try dsimp only
  with_reducible repeat' first | assumption | apply State.latchDie_keeps | apply keepsOut_next

theorem execOvertemperatureCheck_keeps {z s : State} (h : Keeps z s) (port : Port) (temps : List (BitVec 16)) : KeepsOut z (execOvertemperatureCheck port temps s) := by
  unfold execOvertemperatureCheck; try dsimp only
  with_reducible repeat' first | assumption | apply State.latchDie_keeps | apply keepsOut_next | split

theorem execFaultSetRepeat_keeps {z s : State} (h : Keeps z s) (port : Port) : KeepsOut z (execFaultSetRepeat port s) := by
  unfold execFaultSetRepeat; try dsimp only
  with_reducible repeat' first | assumption | apply State.modSat_keeps | apply State.emit_keeps | apply keepsOut_next | split

/-! ## GateArrays -/

theorem execCharacterLockLoss_keeps {z s : State} (h : Keeps z s) (port : Port) : KeepsOut z (execCharacterLockLoss port s) := by
  unfold execCharacterLockLoss; try dsimp only
  with_reducible repeat' first | assumption | apply State.portDown_keeps | apply State.gateCause_keeps | apply keepsOut_next | simp only [keeps_mk_iff] | apply keeps_foldl | apply keeps_foldl_fst | intro _ | split

theorem execIdleLock_keeps {z s : State} (h : Keeps z s) (port : Port) : KeepsOut z (execIdleLock port s) := by
  unfold execIdleLock; try dsimp only
  with_reducible repeat' first | assumption | apply State.sendCmd_keeps | apply State.modPort_keeps | apply keepsOut_next | split

theorem execIdentReqPeriod_keeps {z s : State} (h : Keeps z s) (port : Port) : KeepsOut z (execIdentReqPeriod port s) := by
  unfold execIdentReqPeriod; try dsimp only
  with_reducible repeat' first | assumption | apply State.sendCmd_keeps | apply State.modPort_keeps | apply keepsOut_next | split

theorem execIdent_keeps {z s : State} (h : Keeps z s) (port : Port) (body : List (BitVec 8)) (valid : Bool) : KeepsOut z (execIdent port body valid s) := by
  unfold execIdent; try dsimp only
  with_reducible repeat' first | assumption | apply State.takeIdent_keeps | apply State.onUp_keeps | apply keepsOut_next | intro _

theorem execTimeMarkSend_keeps {z s : State} (h : Keeps z s) (port : Port) : KeepsOut z (execTimeMarkSend port s) := by
  unfold execTimeMarkSend; try dsimp only
  with_reducible repeat' first | assumption | apply State.sendDown_keeps | apply State.modPort_keeps | apply State.emit_keeps | apply keepsOut_next | split

theorem execUpstreamTimeMark_keeps {z s : State} (h : Keeps z s) (port : Port) (frac : Fin 32) : KeepsOut z (execUpstreamTimeMark port frac s) := by
  unfold execUpstreamTimeMark; try dsimp only
  with_reducible repeat' first | assumption | apply State.modPort_keeps | apply keepsOut_next | split

theorem execEcho_keeps {z s : State} (h : Keeps z s) (port : Port) (body : List (BitVec 8)) (valid : Bool) : KeepsOut z (execEcho port body valid s) := by
  unfold execEcho; try dsimp only
  with_reducible repeat' first | assumption | apply State.takeEcho_keeps | apply State.onUp_keeps | apply keepsOut_next | intro _

theorem execUpstreamSilence_keeps {z s : State} (h : Keeps z s) (port : Port) : KeepsOut z (execUpstreamSilence port s) := by
  unfold execUpstreamSilence; try dsimp only
  with_reducible repeat' first | assumption | apply State.linkLoss_keeps | apply keepsOut_next | split

theorem execTelem_keeps {z s : State} (h : Keeps z s) (port : Port) (body : List (BitVec 8)) (valid : Bool) : KeepsOut z (execTelem port body valid s) := by
  unfold execTelem; try dsimp only
  with_reducible repeat' first | assumption | apply State.takeTelem_keeps | apply State.onUp_keeps | apply keepsOut_next | intro _

theorem execFaultSet_keeps {z s : State} (h : Keeps z s) (port : Port) (data : BitVec 32) : KeepsOut z (execFaultSet port data s) := by
  unfold execFaultSet; try dsimp only
  with_reducible repeat' first | assumption | apply State.takeFault_keeps | apply State.portDiscard_keeps | apply keepsOut_next | split

theorem execFaultDecision_keeps {z s : State} (h : Keeps z s) (port : Port) : KeepsOut z (execFaultDecision port s) := by
  unfold execFaultDecision; try dsimp only
  with_reducible repeat' first | assumption | apply State.decideFault_keeps | apply State.modGate_keeps | apply keepsOut_next | split

theorem execGaUnretire_keeps {z s : State} (h : Keeps z s) (ch : Channel) (value : BitVec 32) : KeepsOut z (execGaUnretire ch value s) := by
  unfold execGaUnretire; try dsimp only
  with_reducible repeat' first | assumption | simp only [keeps_mk_iff] | apply State.publishPos_keeps | apply State.writeKind_keeps | apply State.sendCmd_keeps | apply State.modGate_keeps | apply State.raise_keeps | apply keepsOut_next | split

theorem execTpIdLo_keeps {z s : State} (h : Keeps z s) (port : Port) : KeepsOut z (execTpIdLo port s) := by
  unfold execTpIdLo; try dsimp only
  with_reducible repeat' first | assumption | apply State.modPort_keeps | apply State.emit_keeps | apply keepsOut_next

/-! ## Frames -/

theorem execHardResync_keeps {z s : State} (h : Keeps z s) (ch : Channel) : KeepsOut z (execHardResync ch s) := by
  unfold execHardResync; split
  · refine keepsOut_ite (fun _ => keepsOut_next (keeps_ite (fun _ => State.boundary_keeps h _) (fun _ => State.resyncAtTb_keeps h _ _ _ _))) (fun _ => keepsOut_next h)
  · exact keepsOut_next h

theorem execResyncHoldEnd_keeps {z s : State} (h : Keeps z s) (ch : Channel) : KeepsOut z (execResyncHoldEnd ch s) := by
  unfold execResyncHoldEnd; try dsimp only
  with_reducible repeat' first | assumption | apply State.modCh_keeps | apply keepsOut_next | split

theorem execPhaseJump_keeps {z s : State} (h : Keeps z s) (ch : Channel) : KeepsOut z (execPhaseJump ch s) := by
  unfold execPhaseJump; try dsimp only
  with_reducible repeat' first | assumption | apply State.resyncAtTb_keeps | apply State.applySettings_keeps | apply State.modCh_keeps | apply State.publishFrame_keeps | apply State.withSettings_keeps | apply keepsOut_next | simp only [keeps_mk_iff] | apply keeps_foldl | apply keeps_foldl_fst | intro _ | split

theorem execChResync_keeps {z s : State} (h : Keeps z s) (ch : Channel) (value : BitVec 32) : KeepsOut z (execChResync ch value s) := by
  unfold execChResync; try dsimp only
  with_reducible repeat' first | assumption | apply State.commandResync_keeps | apply State.raise_keeps | apply keepsOut_next | split

theorem execResyncDropped_keeps {z s : State} (h : Keeps z s) (ch : Channel) : KeepsOut z (execResyncDropped ch s) := by
  unfold execResyncDropped; try dsimp only
  with_reducible repeat' first | assumption | apply State.completeArmed_keeps | apply State.raise_keeps | apply keepsOut_next | split

theorem execSyncEdge_keeps {z s : State} (h : Keeps z s) (edge : PinEdge) : KeepsOut z (execSyncEdge edge s) := by
  unfold execSyncEdge; try dsimp only
  with_reducible repeat' first | assumption | apply State.syncEdge_keeps | apply keepsOut_next | apply keeps_foldl | intro _ | split

theorem execMissedEdge_keeps {z s : State} (h : Keeps z s) (ch : Channel) : KeepsOut z (execMissedEdge ch s) := by
  unfold execMissedEdge; try dsimp only
  with_reducible repeat' first | assumption | apply State.missTarget_keeps | apply keepsOut_next | split

theorem execMissedTarget_keeps {z s : State} (h : Keeps z s) (ch : Channel) : KeepsOut z (execMissedTarget ch s) := by
  unfold execMissedTarget; try dsimp only
  with_reducible repeat' first | assumption | apply State.missTarget_keeps | apply keepsOut_next | split

theorem execSyncOutPulseEnd_keeps {z s : State} (h : Keeps z s) : KeepsOut z (execSyncOutPulseEnd s) := by
  unfold execSyncOutPulseEnd; try dsimp only
  with_reducible repeat' first | assumption | simp only [keeps_mk_iff] | apply keepsOut_next | split

theorem execFrameBoundary_keeps {z s : State} (h : Keeps z s) (ch : Channel) : KeepsOut z (execFrameBoundary ch s) := by
  unfold execFrameBoundary; try dsimp only
  with_reducible repeat' first | assumption | apply State.boundary_keeps | apply keepsOut_next | split

theorem execSettingsEffect_keeps {z s : State} (h : Keeps z s) (ch : Channel) : KeepsOut z (execSettingsEffect ch s) := by
  unfold execSettingsEffect; try dsimp only
  with_reducible repeat' first | assumption | apply State.boundary_keeps | apply keepsOut_next | split

theorem execCarrierStart_keeps {z s : State} (h : Keeps z s) : KeepsOut z (execCarrierStart s) := by
  unfold execCarrierStart; try dsimp only
  with_reducible repeat' first | assumption | apply State.startCarrier_keeps | apply keepsOut_next | apply keeps_foldl | intro _ | split

theorem execSampleInstant_keeps {z s : State} (h : Keeps z s) (ch : Channel) (bits : List (List Bool)) : KeepsOut z (execSampleInstant ch bits s) := by
  unfold execSampleInstant; try dsimp only
  with_reducible repeat' first | assumption | apply State.lostSchedule_keeps | apply State.skipRuns_keeps | apply State.askPosfb_keeps | apply State.countMark_keeps | apply State.sampleTriggers_keeps | apply State.sampleBits_keeps | apply State.sampleMembers_keeps | apply State.modCh_keeps | apply State.qualify_keeps | apply keepsOut_next | simp only [keeps_mk_iff] | apply keeps_foldl | apply keeps_foldl_fst | intro _ | split

/-! ## Lockstep -/

theorem execFend_keeps {z s : State} (h : Keeps z s) (die : CtrlId) (engine : EngineNo) : KeepsOut z (execFend die engine s) := by
  unfold execFend; try dsimp only
  with_reducible repeat' first | assumption | apply State.afterCommit_keeps | apply State.fend_keeps | apply keepsOut_next | split

theorem execProgramMove_keeps {z s : State} (h : Keeps z s) (slot : SlotCode) : KeepsOut z (execProgramMove slot s) := by
  unfold execProgramMove; try dsimp only
  with_reducible repeat' first | assumption | apply State.cutLanes_keeps | apply State.moveBoth_keeps | apply State.setStep_keeps | apply keepsOut_next | split

theorem execSwapBoundary_keeps {z s : State} (h : Keeps z s) (ch : Channel) : KeepsOut z (execSwapBoundary ch s) := by
  unfold execSwapBoundary; try dsimp only
  with_reducible repeat' first | assumption | apply State.cutLanes_keeps | apply State.applySwap_keeps | apply keepsOut_next | split

theorem execWindowClose_keeps {z s : State} (h : Keeps z s) (die : CtrlId) (lane : EngineNo) : KeepsOut z (execWindowClose die lane s) := by
  unfold execWindowClose; try dsimp only
  with_reducible repeat' first | assumption | apply State.modLane_keeps | apply State.sendDie_keeps | apply State.modCtrl_keeps | apply keepsOut_next | split

theorem execLanePlan_keeps {z s : State} (h : Keeps z s) (lane : EngineNo) : KeepsOut z (execLanePlan lane s) := by
  unfold execLanePlan; try dsimp only
  with_reducible repeat' first | assumption | apply State.modLane_keeps | apply keepsOut_next | split

theorem execWindowRecord_keeps {z s : State} (h : Keeps z s) (die : CtrlId) (lane : EngineNo) (ch : Channel) (frame : BitVec 32) (sig : BitVec 64) : KeepsOut z (execWindowRecord die lane ch frame sig s) := by
  unfold execWindowRecord; try dsimp only
  with_reducible repeat' first | assumption | apply State.modLane_keeps | apply keepsOut_next | split

theorem execWindowDecision_keeps {z s : State} (h : Keeps z s) (lane : EngineNo) : KeepsOut z (execWindowDecision lane s) := by
  unfold execWindowDecision; try dsimp only
  with_reducible repeat' first | assumption | apply State.dropWindow_keeps | apply State.lockEvent_keeps | apply keepsOut_next | split

theorem execLaneTimeout_keeps {z s : State} (h : Keeps z s) (lane : EngineNo) : KeepsOut z (execLaneTimeout lane s) := by
  unfold execLaneTimeout; try dsimp only
  with_reducible repeat' first | assumption | apply State.dropWindow_keeps | apply State.lockEvent_keeps | apply State.modLane_keeps | apply keepsOut_next | split

/-! ## Deliveries -/

theorem execSsiRequest_keeps {z s : State} (h : Keeps z s) (die : Fin 2) (pif : Fin 4) (dataHigh : Bool) : KeepsOut z (execSsiRequest die pif dataHigh s) := by
  unfold execSsiRequest; try dsimp only
  with_reducible repeat' first | assumption | apply State.onPif_keeps | apply State.rejectPos_keeps | apply State.modPif_keeps | intro _ | split

theorem execConversionEnd_keeps {z s : State} (h : Keeps z s) (die : Fin 2) (conv : Fin 6) (nanovolts : Int) : KeepsOut z (execConversionEnd die conv nanovolts s) := by
  unfold execConversionEnd; try dsimp only
  with_reducible repeat' first | assumption | apply State.judgeNtc_keeps | apply State.conversionEnd_keeps | apply keepsOut_next | split

theorem execMeasDelivery_keeps {z s : State} (h : Keeps z s) (ch : Channel) (second : Bool) : KeepsOut z (execMeasDelivery ch second s) := by
  unfold execMeasDelivery; try dsimp only
  with_reducible repeat' first | assumption | apply State.protOnPosfb_keeps | apply State.protOnMeas_keeps | apply State.sendPosfbs_keeps | apply State.sendGroup_keeps | apply keepsOut_next | apply keeps_foldl | intro _ | split

theorem execDieFault_keeps {z s : State} (h : Keeps z s) (die : Die) : KeepsOut z (execDieFault die s) := by
  unfold execDieFault; try dsimp only
  with_reducible repeat' first | assumption | simp only [keeps_mk_iff] | apply State.chamoisLoss_keeps | apply State.lockLost_keeps | apply State.dieFaultDrives_keeps | apply keepsOut_next | split

/-! ## Tahr -/

theorem execSafeLevelChange_keeps {z s : State} (h : Keeps z s) (chamois : Bool) (input : Fin 32) (millivolts : Held Int) : KeepsOut z (execSafeLevelChange chamois input millivolts s) := by
  unfold execSafeLevelChange; try dsimp only
  with_reducible repeat' first | assumption | apply State.acceptLevel_keeps | apply State.inputLevel_keeps | apply keepsOut_next | split

theorem execTChExpiry_keeps {z s : State} (h : Keeps z s) (f : Fin 16) : KeepsOut z (execTChExpiry f s) := by
  unfold execTChExpiry; try dsimp only
  with_reducible repeat' first | assumption | apply State.modChamois_keeps | apply State.settle_keeps | apply keepsOut_next | split

theorem execFunctionRelease_keeps {z s : State} (h : Keeps z s) (f : Fin 16) : KeepsOut z (execFunctionRelease f s) := by
  unfold execFunctionRelease; try dsimp only
  with_reducible repeat' first | assumption | apply State.chamoisEval_keeps | apply State.modChamois_keeps | apply keepsOut_next | split

theorem execChamoisParameters_keeps {z s : State} (h : Keeps z s) (equal : Bool) : KeepsOut z (execChamoisParameters equal s) := by
  unfold execChamoisParameters; try dsimp only
  with_reducible repeat' first | assumption | apply State.chamoisFaultAt_keeps | apply State.chamoisEval_keeps | apply State.modChamois_keeps | apply keepsOut_next | split

theorem execTahrStatus_keeps {z s : State} (h : Keeps z s) (valid : Bool) : KeepsOut z (execTahrStatus valid s) := by
  unfold execTahrStatus; try dsimp only
  with_reducible repeat' first | assumption | apply State.modChamois_keeps | apply keepsOut_next | split

theorem execTahrLost_keeps {z s : State} (h : Keeps z s) : KeepsOut z (execTahrLost s) := by
  unfold execTahrLost; try dsimp only
  with_reducible repeat' first | assumption | apply State.chamoisLoss_keeps | apply keepsOut_next | split

theorem execTestPulse_keeps {z s : State} (h : Keeps z s) (t : Fin 4) : KeepsOut z (execTestPulse t s) := by
  unfold execTestPulse; try dsimp only
  with_reducible repeat' first | assumption | apply State.modTahr_keeps | apply keepsOut_next | split

theorem execTestPulseSample_keeps {z s : State} (h : Keeps z s) (t : Fin 4) (millivolts : List Int) : KeepsOut z (execTestPulseSample t millivolts s) := by
  unfold execTestPulseSample; try dsimp only
  with_reducible repeat' first | assumption | apply State.modSiPair_keeps | apply keepsOut_next | apply keeps_foldl | intro _ | split

theorem execTestPulseEnd_keeps {z s : State} (h : Keeps z s) (t : Fin 4) : KeepsOut z (execTestPulseEnd t s) := by
  unfold execTestPulseEnd; try dsimp only
  with_reducible repeat' first | assumption | apply State.modTahr_keeps | apply keepsOut_next | split

theorem execSs1Request_keeps {z s : State} (h : Keeps z s) (ch : Channel) (sto : Bool) (source : BitVec 32) : KeepsOut z (execSs1Request ch sto source s) := by
  unfold execSs1Request; try dsimp only
  with_reducible repeat' first | assumption | apply State.modTahr_keeps | apply State.modTahrCh_keeps | apply keepsOut_next | split

theorem execSoTest_keeps {z s : State} (h : Keeps z s) (out : Fin 4) (second : Bool) : KeepsOut z (execSoTest out second s) := by
  unfold execSoTest; try dsimp only
  with_reducible repeat' first | assumption | apply State.modSo_keeps | apply keepsOut_next | split

theorem execSoTestEnd_keeps {z s : State} (h : Keeps z s) (out : Fin 4) (second : Bool) (on : Bool) : KeepsOut z (execSoTestEnd out second on s) := by
  unfold execSoTestEnd; try dsimp only
  with_reducible repeat' first | assumption | apply State.soFault_keeps | apply State.modSo_keeps | apply keepsOut_next | split

theorem execTahrCycle_keeps {z s : State} (h : Keeps z s) (checks : Bool) (stoABack : BitVec 8) (soBack : BitVec 8) : KeepsOut z (execTahrCycle checks stoABack soBack s) := by
  unfold execTahrCycle; try dsimp only
  with_reducible repeat' first | assumption | apply State.clearTags_keeps | apply State.wireCycle_keeps | apply State.auxCycle_keeps | apply State.mirrorCycle_keeps | apply State.soCycle_keeps | apply State.channelCycle_keeps | apply State.torqueCycle_keeps | apply State.sourceCycle_keeps | apply State.tagCycle_keeps | apply State.compareLatch_keeps | apply State.fnCycle_keeps | apply State.pairsCycle_keeps | apply State.modTahr_keeps | apply State.lockLost_keeps | apply State.sendDie_keeps | apply keepsOut_next | apply keeps_foldl | intro _ | split

theorem execBleat_keeps {z s : State} (h : Keeps z s) : KeepsOut z (execBleat s) := by
  unfold execBleat; try dsimp only
  with_reducible repeat' first | assumption | apply State.carryStop_keeps | apply State.modTahr_keeps | simp only [keeps_mk_iff] | apply keepsOut_next | apply keeps_foldl | apply keeps_foldl_fst | intro _ | split

/-! ## SafetyConfig -/

theorem execLockoutExpiry_keeps {z s : State} (h : Keeps z s) : KeepsOut z (execLockoutExpiry s) := by
  unfold execLockoutExpiry; try dsimp only
  with_reducible repeat' first | assumption | apply State.modTahr_keeps | apply keepsOut_next | split

/-! ## Rings -/

theorem execModTimeExpiry_keeps {z s : State} (h : Keeps z s) (ring : BitVec 16) : KeepsOut z (execModTimeExpiry ring s) := by
  unfold execModTimeExpiry; try dsimp only
  with_reducible repeat' first | assumption | apply State.fire_keeps | apply keepsOut_next | split

theorem execEnable_keeps {z s : State} (h : Keeps z s) : KeepsOut z (execEnable s) := by
  unfold execEnable; try dsimp only
  with_reducible repeat' first | assumption | apply State.ringOpEnd_keeps | apply State.deliverAll_keeps | apply State.modRing_keeps | apply State.modRe_keeps | simp only [keeps_mk_iff] | apply keepsOut_next | apply keeps_foldl | apply keeps_foldl_fst | intro _ | split

theorem execDisable_keeps {z s : State} (h : Keeps z s) : KeepsOut z (execDisable s) := by
  unfold execDisable; try dsimp only
  with_reducible repeat' first | assumption | apply State.ringOpEnd_keeps | apply State.purgeQueue_keeps | apply State.modRing_keeps | apply keepsOut_next | split

theorem execReadContext_keeps {z s : State} (h : Keeps z s) : KeepsOut z (execReadContext s) := by
  unfold execReadContext; try dsimp only
  with_reducible repeat' first | assumption | apply State.ringOpEnd_keeps | apply State.setReg_keeps | apply keepsOut_next | apply keeps_foldl | intro _

theorem execDoorbellTail_keeps {z s : State} (h : Keeps z s) (ring : BitVec 16) (value : Word) : KeepsOut z (execDoorbellTail ring value s) := by
  unfold execDoorbellTail; try dsimp only
  with_reducible repeat' first | assumption | apply State.doorbellIgnored_keeps | apply State.ringError_keeps | apply State.modRing_keeps | apply keepsOut_next | split

theorem execDoorbellHead_keeps {z s : State} (h : Keeps z s) (ring : BitVec 16) (value : Word) : KeepsOut z (execDoorbellHead ring value s) := by
  unfold execDoorbellHead; try dsimp only
  with_reducible repeat' first | assumption | apply State.doorbellIgnored_keeps | apply State.ringError_keeps | apply State.purgeQueue_keeps | apply State.deliver_keeps | apply State.modRing_keeps | apply keepsOut_next | split

theorem execDescriptorFetch_keeps {z s : State} (h : Keeps z s) (ring : BitVec 16) (good : Bool) (bytes : BitVec 512) : KeepsOut z (execDescriptorFetch ring good bytes s) := by
  unfold execDescriptorFetch; try dsimp only
  with_reducible repeat' first | assumption | apply State.noteTurn_keeps | apply State.ringError_keeps | apply State.modRing_keeps | apply State.modRe_keeps | apply State.complete_keeps | apply keepsOut_next | split

theorem execCompletionTimeout_keeps {z s : State} (h : Keeps z s) (ring : BitVec 16) : KeepsOut z (execCompletionTimeout ring s) := by
  unfold execCompletionTimeout; try dsimp only
  with_reducible repeat' first | assumption | apply State.ringError_keeps | apply keepsOut_next | split

theorem execDescriptorCompletion_keeps {z s : State} (h : Keeps z s) (cring : BitVec 16) : KeepsOut z (execDescriptorCompletion cring s) := by
  unfold execDescriptorCompletion; try dsimp only
  with_reducible repeat' first | assumption | apply State.writeCompletion_keeps | apply keepsOut_next | split

theorem execDescriptorNop_keeps {z s : State} (h : Keeps z s) (ring : BitVec 16) : KeepsOut z (execDescriptorNop ring s) := by
  unfold execDescriptorNop; try dsimp only
  with_reducible repeat' first | assumption | apply State.onOp_keeps | apply State.finish_keeps | apply keepsOut_next | intro _

theorem execFence_keeps {z s : State} (h : Keeps z s) (ring : BitVec 16) : KeepsOut z (execFence ring s) := by
  unfold execFence; try dsimp only
  with_reducible repeat' first | assumption | apply State.onOp_keeps | apply State.modRing_keeps | apply keepsOut_next | intro _

theorem execFenceCompletion_keeps {z s : State} (h : Keeps z s) (ring : BitVec 16) : KeepsOut z (execFenceCompletion ring s) := by
  unfold execFenceCompletion; try dsimp only
  with_reducible repeat' first | assumption | apply State.modRing_keeps | apply State.complete_keeps | apply keepsOut_next | split

theorem execDisconnect_keeps {z s : State} (h : Keeps z s) (cause : Nat) : KeepsOut z (execDisconnect cause s) := by
  unfold execDisconnect; try dsimp only
  with_reducible repeat' first | assumption | apply State.ringsOff_keeps | apply State.modRe_keeps | apply State.raise_keeps | apply keepsOut_next

theorem execHostConnect_keeps {z s : State} (h : Keeps z s) (speed width : BitVec 4) : KeepsOut z (execHostConnect speed width s) := by
  unfold execHostConnect; try dsimp only
  with_reducible repeat' first | assumption | apply State.modRe_keeps | apply State.raise_keeps | apply keepsOut_next

theorem execReCtrl_keeps {z s : State} (h : Keeps z s) (value : Word) : KeepsOut z (execReCtrl value s) := by
  unfold execReCtrl; try dsimp only
  with_reducible repeat' first | assumption | apply State.setReg_keeps | apply keepsOut_next

theorem execPcieError_keeps {z s : State} (h : Keeps z s) (uncorrectable correctable : Word) : KeepsOut z (execPcieError uncorrectable correctable s) := by
  unfold execPcieError; try dsimp only
  with_reducible repeat' first | assumption | apply State.raise_keeps | apply keepsOut_next

/-! ## RegWrite -/

theorem execRegisterWrite_keeps {z s : State} (h : Keeps z s) (offset : BitVec 20) (value : BitVec 32) : KeepsOut z (execRegisterWrite offset value s) := by
  unfold execRegisterWrite; try dsimp only
  with_reducible repeat' first | assumption | apply State.writeWord_keeps | apply State.writeMsix_keeps | apply State.writeIgnored_keeps | apply keepsOut_next | split

/-! ## Descriptors -/

theorem execWriteSignals_keeps {z s : State} (h : Keeps z s) (ring : BitVec 16) (data : Option (List (BitVec 8))) : KeepsOut z (execWriteSignals ring data s) := by
  unfold execWriteSignals; try dsimp only
  with_reducible repeat' first | assumption | apply State.hostWrite_keeps | apply State.onOp_keeps | apply State.finish_keeps | apply keepsOut_next | intro _ | split

theorem execReadSignals_keeps {z s : State} (h : Keeps z s) (ring : BitVec 16) : KeepsOut z (execReadSignals ring s) := by
  unfold execReadSignals; try dsimp only
  with_reducible repeat' first | assumption | apply State.onOp_keeps | apply State.finish_keeps | apply State.emit_keeps | apply keepsOut_next | exact State.hostRead_keeps (by assumption) _ _ _ _ (by assumption) | intro _ | split

theorem execWriteSignalsAtFrame_keeps {z s : State} (h : Keeps z s) (ring : BitVec 16) (data : Option (List (BitVec 8))) : KeepsOut z (execWriteSignalsAtFrame ring data s) := by
  unfold execWriteSignalsAtFrame; try dsimp only
  with_reducible repeat' first | assumption | apply State.onOp_keeps | apply State.finish_keeps | apply State.modRe_keeps | apply State.armTimer_keeps | apply keepsOut_next | intro _ | split

theorem execTimedWriteCommit_keeps {z s : State} (h : Keeps z s) (ch : Channel) : KeepsOut z (execTimedWriteCommit ch s) := by
  unfold execTimedWriteCommit; try dsimp only
  with_reducible repeat' first | assumption | simp only [keeps_mk_iff] | apply State.hostWrite_keeps | apply State.modRe_keeps | apply State.complete_keeps | apply keepsOut_next | split

theorem execLoadProgram_keeps {z s : State} (h : Keeps z s) (ring : BitVec 16) (data : Option (List (BitVec 8))) : KeepsOut z (execLoadProgram ring data s) := by
  unfold execLoadProgram; try dsimp only
  with_reducible repeat' first | assumption | apply State.onData_keeps | apply State.finish_keeps | apply State.doEffect_keeps | apply State.raise_keeps | apply keepsOut_next | intro _ | split

theorem execSwapProgram_keeps {z s : State} (h : Keeps z s) (ring : BitVec 16) : KeepsOut z (execSwapProgram ring s) := by
  unfold execSwapProgram; try dsimp only
  with_reducible repeat' first | assumption | simp only [keeps_mk_iff] | apply State.onOp_keeps | apply State.finish_keeps | apply State.emptyBoth_keeps | apply keepsOut_next | intro _ | split

theorem execLoadTable_keeps {z s : State} (h : Keeps z s) (ring : BitVec 16) (data : Option (List (BitVec 8))) : KeepsOut z (execLoadTable ring data s) := by
  unfold execLoadTable; try dsimp only
  with_reducible repeat' first | assumption | apply State.onData_keeps | apply State.finish_keeps | apply State.doEffect_keeps | apply keepsOut_next | refine keeps_mk_pwr ?_ rfl | intro _

theorem execArmTrace_keeps {z s : State} (h : Keeps z s) (ring : BitVec 16) (data : Option (List (BitVec 8))) : KeepsOut z (execArmTrace ring data s) := by
  unfold execArmTrace; try dsimp only
  with_reducible repeat' first | assumption | simp only [keeps_mk_iff] | apply State.onData_keeps | apply State.finish_keeps | apply keepsOut_next | intro _ | split

theorem execDisarm_keeps {z s : State} (h : Keeps z s) (ring : BitVec 16) : KeepsOut z (execDisarm ring s) := by
  unfold execDisarm; try dsimp only
  with_reducible repeat' first | assumption | simp only [keeps_mk_iff] | apply State.onDesc_keeps | apply State.finish_keeps | apply State.stopTrace_keeps | apply keepsOut_next | intro _ | split

theorem execDrainTrace_keeps {z s : State} (h : Keeps z s) (ring : BitVec 16) : KeepsOut z (execDrainTrace ring s) := by
  unfold execDrainTrace; try dsimp only
  with_reducible repeat' first | assumption | simp only [keeps_mk_iff] | apply State.onOp_keeps | apply State.finish_keeps | apply State.emit_keeps | apply keepsOut_next | intro _

theorem execDrainSamples_keeps {z s : State} (h : Keeps z s) (ring : BitVec 16) : KeepsOut z (execDrainSamples ring s) := by
  unfold execDrainSamples; try dsimp only
  with_reducible repeat' first | assumption | apply State.onOp_keeps | apply State.finish_keeps | apply State.setRptr_keeps | apply State.emit_keeps | apply keepsOut_next | intro _

theorem execChannelModeSettings_keeps {z s : State} (h : Keeps z s) (ring : BitVec 16) : KeepsOut z (execChannelModeSettings ring s) := by
  unfold execChannelModeSettings; try dsimp only
  with_reducible repeat' first | assumption | simp only [keeps_mk_iff] | apply State.onDesc_keeps | apply State.finish_keeps | apply keepsOut_next | intro _ | split

theorem execChannelModeResync_keeps {z s : State} (h : Keeps z s) (ring : BitVec 16) : KeepsOut z (execChannelModeResync ring s) := by
  unfold execChannelModeResync; try dsimp only
  with_reducible repeat' first | assumption | apply State.onDesc_keeps | apply State.finish_keeps | apply State.commandResync_keeps | apply keepsOut_next | intro _ | split

theorem execChannelModeRelease_keeps {z s : State} (h : Keeps z s) (ring : BitVec 16) : KeepsOut z (execChannelModeRelease ring s) := by
  unfold execChannelModeRelease; try dsimp only
  with_reducible repeat' first | assumption | apply State.onDesc_keeps | apply State.finish_keeps | apply State.requestRelease_keeps | apply keepsOut_next | apply keeps_foldl_fst | intro _ | split

/-! ## Can -/

theorem execCanFrameReceived_keeps {z s : State} (h : Keeps z s) (k : Fin 4) (id : BitVec 29) (ide fdf brs esi remote : Bool) (dlc : BitVec 4) (data : List (BitVec 8)) (sof : Nat) : KeepsOut z (execCanFrameReceived k id ide fdf brs esi remote dlc data sof s) := by
  unfold execCanFrameReceived; try dsimp only
  with_reducible repeat' first | assumption | apply State.recDown_keeps | apply State.offerFrame_keeps | apply keepsOut_next | split

theorem execCanReceiveError_keeps {z s : State} (h : Keeps z s) (k : Fin 4) (dominant : Bool) : KeepsOut z (execCanReceiveError k dominant s) := by
  unfold execCanReceiveError; try dsimp only
  with_reducible repeat' first | assumption | apply State.confine_keeps | apply State.modCan_keeps | apply State.emit_keeps | apply keepsOut_next | split

theorem execObjectLock_keeps {z s : State} (h : Keeps z s) (k : Fin 4) (object : Fin 1024) : KeepsOut z (execObjectLock k object s) := by
  unfold execObjectLock; try dsimp only
  with_reducible repeat' first | assumption | apply State.canUnlock_keeps | apply State.modCan_keeps | apply State.setReg_keeps | apply keepsOut_next | split

theorem execObjectUnlock_keeps {z s : State} (h : Keeps z s) (k : Fin 4) (object : Fin 1024) : KeepsOut z (execObjectUnlock k object s) := by
  unfold execObjectUnlock; try dsimp only
  with_reducible repeat' first | assumption | apply State.canUnlock_keeps | apply State.setReg_keeps | apply keepsOut_next

theorem execCanLockTimeout_keeps {z s : State} (h : Keeps z s) (k : Fin 4) : KeepsOut z (execCanLockTimeout k s) := by
  unfold execCanLockTimeout; try dsimp only
  with_reducible repeat' first | assumption | apply State.canUnlock_keeps | apply State.setReg_keeps | apply State.raise_keeps | apply keepsOut_next | split

theorem execTransmitCommit_keeps {z s : State} (h : Keeps z s) (k : Fin 4) (object : Fin 1024) : KeepsOut z (execTransmitCommit k object s) := by
  unfold execTransmitCommit; try dsimp only
  with_reducible repeat' first | assumption | simp only [keeps_mk_iff] | apply State.startTx_keeps | apply State.modObj_keeps | apply keepsOut_next | split

theorem execTransmissionEnd_keeps {z s : State} (h : Keeps z s) (k : Fin 4) (outcome : Fin 4) (sof : Nat) : KeepsOut z (execTransmissionEnd k outcome sof s) := by
  unfold execTransmissionEnd; try dsimp only
  with_reducible repeat' first | assumption | apply State.measureTdc_keeps | apply State.txFlushed_keeps | apply State.txDone_keeps | apply State.startTx_keeps | apply State.confine_keeps | apply State.offerFrame_keeps | apply State.modCan_keeps | apply State.emit_keeps | apply keepsOut_next | split

theorem execRecover_keeps {z s : State} (h : Keeps z s) (k : Fin 4) : KeepsOut z (execRecover k s) := by
  unfold execRecover; try dsimp only
  with_reducible repeat' first | assumption | apply State.modCan_keeps | apply keepsOut_next | split

theorem execCanBusOn_keeps {z s : State} (h : Keeps z s) (k : Fin 4) : KeepsOut z (execCanBusOn k s) := by
  unfold execCanBusOn; try dsimp only
  with_reducible repeat' first | assumption | apply State.startTx_keeps | apply State.canStatusCommit_keeps | apply State.modCan_keeps | apply State.raise_keeps | apply keepsOut_next | split

theorem execTxFlush_keeps {z s : State} (h : Keeps z s) (k : Fin 4) : KeepsOut z (execTxFlush k s) := by
  unfold execTxFlush; try dsimp only
  with_reducible repeat' first | assumption | apply State.modCan_keeps | apply keepsOut_next

theorem execCanStatusCommit_keeps {z s : State} (h : Keeps z s) (k : Fin 4) : KeepsOut z (execCanStatusCommit k s) := by
  unfold execCanStatusCommit; try dsimp only
  with_reducible repeat' first | assumption | apply State.canStatusCommit_keeps | apply keepsOut_next | split

/-! ## AuxDie -/

theorem execAuxOff_keeps {z s : State} (h : Keeps z s) : KeepsOut z (execAuxOff s) := by
  unfold execAuxOff; try dsimp only
  with_reducible repeat' first | assumption | simp only [keeps_mk_iff] | apply State.slotCommit_keeps | apply State.modAux_keeps | apply State.raise_keeps | apply keepsOut_next | apply keeps_foldl | intro _ | split

theorem execAuxOffRelease_keeps {z s : State} (h : Keeps z s) : KeepsOut z (execAuxOffRelease s) := by
  unfold execAuxOffRelease; try dsimp only
  with_reducible repeat' first | assumption | simp only [keeps_mk_iff] | apply keepsOut_next | split

theorem execLegFault_keeps {z s : State} (h : Keeps z s) (slot : AuxSlot) (leg : Fin 4) (high : Bool) (measured : Nat) : KeepsOut z (execLegFault slot leg high measured s) := by
  unfold execLegFault; try dsimp only
  with_reducible repeat' first | assumption | apply State.slotCommit_keeps | apply State.modAux_keeps | apply State.raise_keeps | apply keepsOut_next | split

theorem execSupplyMonitor_keeps {z s : State} (h : Keeps z s) (monitor : Fin 4) (hb : Fin 48) (millivolts : Nat) : KeepsOut z (execSupplyMonitor monitor hb millivolts s) := by
  unfold execSupplyMonitor; try dsimp only
  with_reducible repeat' first | assumption | simp only [keeps_mk_iff] | apply State.supplyEvent_keeps | apply State.takeHolds_keeps | apply State.slotCommit_keeps | apply State.modAux_keeps | apply keepsOut_next | apply keeps_foldl | intro _ | split

theorem execThermalUpdate_keeps {z s : State} (h : Keeps z s) (slot : AuxSlot) : KeepsOut z (execThermalUpdate slot s) := by
  unfold execThermalUpdate; try dsimp only
  with_reducible repeat' first | assumption | apply State.slotFault_keeps | apply State.slotCommit_keeps | apply State.modAux_keeps | apply keepsOut_next | split

theorem execSlotCommand_keeps {z s : State} (h : Keeps z s) (slot : AuxSlot) : KeepsOut z (execSlotCommand slot s) := by
  unfold execSlotCommand; try dsimp only
  with_reducible repeat' first | assumption | apply State.slotFault_keeps | apply State.slotCommit_keeps | apply State.modAux_keeps | apply keepsOut_next | split

theorem execCmdTmoExpiry_keeps {z s : State} (h : Keeps z s) (slot : AuxSlot) : KeepsOut z (execCmdTmoExpiry slot s) := by
  unfold execCmdTmoExpiry; try dsimp only
  with_reducible repeat' first | assumption | apply State.slotCommit_keeps | apply State.modAux_keeps | apply State.raise_keeps | apply keepsOut_next | split

theorem execValley_keeps {z s : State} (h : Keeps z s) (slot : AuxSlot) (codes : Vector (BitVec 12) 4) (ain : Nat) (pwm : Option (Nat × Nat)) : KeepsOut z (execValley slot codes ain pwm s) := by
  unfold execValley; try dsimp only
  with_reducible repeat' first | assumption | apply State.takePwm_keeps | apply State.limitFactor_keeps | apply State.sampleLegs_keeps | apply State.modAux_keeps | apply State.raise_keeps | apply keepsOut_next | split

theorem execHallChange_keeps {z s : State} (h : Keeps z s) (slot : AuxSlot) (hall : Held (BitVec 3)) : KeepsOut z (execHallChange slot hall s) := by
  unfold execHallChange; try dsimp only
  with_reducible repeat' first | assumption | apply State.slotFault_keeps | apply State.modAux_keeps | apply State.raise_keeps | apply keepsOut_next | split

theorem execHallTimeout_keeps {z s : State} (h : Keeps z s) (slot : AuxSlot) : KeepsOut z (execHallTimeout slot s) := by
  unfold execHallTimeout; try dsimp only
  with_reducible repeat' first | assumption | apply State.slotFault_keeps | apply State.modAux_keeps | apply keepsOut_next | split

theorem execBlockAdvance_keeps {z s : State} (h : Keeps z s) (slot : AuxSlot) : KeepsOut z (execBlockAdvance slot s) := by
  unfold execBlockAdvance; try dsimp only
  with_reducible repeat' first | assumption | apply State.modAux_keeps | apply keepsOut_next | split

theorem execPwmInTimeout_keeps {z s : State} (h : Keeps z s) (input : Fin 8) : KeepsOut z (execPwmInTimeout input s) := by
  unfold execPwmInTimeout; try dsimp only
  with_reducible repeat' first | assumption | simp only [keeps_mk_iff] | apply State.slotCommit_keeps | apply State.modAux_keeps | apply State.raise_keeps | apply keepsOut_next | apply keeps_foldl | intro _ | split

/-! ## Profile -/

theorem execProfileUpdate_keeps {z s : State} (h : Keeps z s) (slot : AuxSlot) : KeepsOut z (execProfileUpdate slot s) := by
  unfold execProfileUpdate; try dsimp only
  with_reducible repeat' first | assumption | apply State.slotCommit_keeps | apply State.modAux_keeps | apply keepsOut_next | split

theorem execHoldReduction_keeps {z s : State} (h : Keeps z s) (slot : AuxSlot) : KeepsOut z (execHoldReduction slot s) := by
  unfold execHoldReduction; try dsimp only
  with_reducible repeat' first | assumption | apply State.modAux_keeps | apply keepsOut_next | split

/-! ## SafetyCmd -/

theorem execRead_keeps {z s : State} (h : Keeps z s) (ring : BitVec 16) (data : Option (List (BitVec 8))) : KeepsOut z (execRead ring data s) := by
  unfold execRead; try dsimp only
  with_reducible repeat' first | assumption | apply safetyConfig_keeps | apply keepsOut_next

theorem execWrite_keeps {z s : State} (h : Keeps z s) (ring : BitVec 16) (data : Option (List (BitVec 8))) : KeepsOut z (execWrite ring data s) := by
  unfold execWrite; try dsimp only
  with_reducible repeat' first | assumption | apply safetyConfig_keeps | apply keepsOut_next

theorem execConfirm_keeps {z s : State} (h : Keeps z s) (ring : BitVec 16) (data : Option (List (BitVec 8))) : KeepsOut z (execConfirm ring data s) := by
  unfold execConfirm; try dsimp only
  with_reducible repeat' first | assumption | apply safetyConfig_keeps | apply keepsOut_next

theorem execSetPassword_keeps {z s : State} (h : Keeps z s) (ring : BitVec 16) (data : Option (List (BitVec 8))) : KeepsOut z (execSetPassword ring data s) := by
  unfold execSetPassword; try dsimp only
  with_reducible repeat' first | assumption | apply safetyConfig_keeps | apply keepsOut_next

theorem execReadLog_keeps {z s : State} (h : Keeps z s) (ring : BitVec 16) (data : Option (List (BitVec 8))) : KeepsOut z (execReadLog ring data s) := by
  unfold execReadLog; try dsimp only
  with_reducible repeat' first | assumption | apply safetyConfig_keeps | apply keepsOut_next

theorem execAckFault_keeps {z s : State} (h : Keeps z s) (ring : BitVec 16) (data : Option (List (BitVec 8))) : KeepsOut z (execAckFault ring data s) := by
  unfold execAckFault; try dsimp only
  with_reducible repeat' first | assumption | apply safetyConfig_keeps | apply keepsOut_next

theorem execHold_keeps {z s : State} (h : Keeps z s) (ring : BitVec 16) (data : Option (List (BitVec 8))) : KeepsOut z (execHold ring data s) := by
  unfold execHold; try dsimp only
  with_reducible repeat' first | assumption | apply safetyConfig_keeps | apply keepsOut_next

/-! ## Lifecycle -/

theorem execEnterField_keeps {z s : State} (h : Keeps z s) (ring : BitVec 16) (data : Option (List (BitVec 8))) : KeepsOut z (execEnterField ring data s) := by
  unfold execEnterField; try dsimp only
  with_reducible repeat' first | assumption | apply lifecycleRow_keeps | apply keepsOut_next

theorem execEnterMaintain_keeps {z s : State} (h : Keeps z s) (ring : BitVec 16) (data : Option (List (BitVec 8))) : KeepsOut z (execEnterMaintain ring data s) := by
  unfold execEnterMaintain; try dsimp only
  with_reducible repeat' first | assumption | apply lifecycleRow_keeps | apply keepsOut_next

theorem execBind_keeps {z s : State} (h : Keeps z s) (ring : BitVec 16) (data : Option (List (BitVec 8))) : KeepsOut z (execBind ring data s) := by
  unfold execBind; try dsimp only
  with_reducible repeat' first | assumption | apply lifecycleRow_keeps | apply keepsOut_next

theorem execUnbind_keeps {z s : State} (h : Keeps z s) (ring : BitVec 16) (data : Option (List (BitVec 8))) : KeepsOut z (execUnbind ring data s) := by
  unfold execUnbind; try dsimp only
  with_reducible repeat' first | assumption | apply lifecycleRow_keeps | apply keepsOut_next

theorem execAckSatellite_keeps {z s : State} (h : Keeps z s) (ring : BitVec 16) (data : Option (List (BitVec 8))) : KeepsOut z (execAckSatellite ring data s) := by
  unfold execAckSatellite; try dsimp only
  with_reducible repeat' first | assumption | apply lifecycleRow_keeps | apply keepsOut_next

theorem execOwnerLock_keeps {z s : State} (h : Keeps z s) (ring : BitVec 16) (data : Option (List (BitVec 8))) : KeepsOut z (execOwnerLock ring data s) := by
  unfold execOwnerLock; try dsimp only
  with_reducible repeat' first | assumption | apply lifecycleRow_keeps | apply keepsOut_next

theorem execLifecycleRetire_keeps {z s : State} (h : Keeps z s) (ring : BitVec 16) (data : Option (List (BitVec 8))) : KeepsOut z (execLifecycleRetire ring data s) := by
  unfold execLifecycleRetire; try dsimp only
  with_reducible repeat' first | assumption | apply lifecycleRow_keeps | apply keepsOut_next

theorem execDevIdLo_keeps {z s : State} (h : Keeps z s) : KeepsOut z (execDevIdLo s) := by
  unfold execDevIdLo; try dsimp only
  with_reducible repeat' first | assumption | apply State.modStore_keeps | apply State.emit_keeps | apply keepsOut_next

theorem execLcNonceLo_keeps {z s : State} (h : Keeps z s) : KeepsOut z (execLcNonceLo s) := by
  unfold execLcNonceLo; try dsimp only
  with_reducible repeat' first | assumption | apply State.modStore_keeps | apply State.emit_keeps | apply keepsOut_next

/-! ## StoreOps -/

theorem execStoreRecord_keeps {z s : State} (h : Keeps z s) (ring : BitVec 16) (data : Option (List (BitVec 8))) : KeepsOut z (execStoreRecord ring data s) := by
  unfold execStoreRecord; try dsimp only
  with_reducible repeat' first | assumption | apply State.startRecord_keeps | apply State.onData_keeps | apply State.finish_keeps | apply State.raise_keeps | apply keepsOut_next | intro _ | split

theorem execReadRecord_keeps {z s : State} (h : Keeps z s) (ring : BitVec 16) : KeepsOut z (execReadRecord ring s) := by
  unfold execReadRecord; try dsimp only
  with_reducible repeat' first | assumption | apply State.onOp_keeps | apply State.finish_keeps | apply State.emit_keeps | apply keepsOut_next | exact State.readRecord_keeps (by assumption) _ _ _ _ _ (by assumption) | intro _ | split

theorem execIdentityChallenge_keeps {z s : State} (h : Keeps z s) (ring : BitVec 16) : KeepsOut z (execIdentityChallenge ring s) := by
  unfold execIdentityChallenge; try dsimp only
  with_reducible repeat' first | assumption | apply State.onOp_keeps | apply State.finish_keeps | apply State.emit_keeps | apply keepsOut_next | intro _ | split

theorem execBankWriteDone_keeps {z s : State} (h : Keeps z s) : KeepsOut z (execBankWriteDone s) := by
  unfold execBankWriteDone; try dsimp only
  with_reducible repeat' first | assumption | apply State.failWrite_keeps | apply State.fwWritten_keeps | apply State.answerBy_keeps | apply State.modTahr_keeps | apply State.abortWrite_keeps | apply State.putBank_keeps | apply State.nextWrite_keeps | apply State.modStore_keeps | apply State.raise_keeps | apply keepsOut_next | split

theorem execEventLogFlush_keeps {z s : State} (h : Keeps z s) : KeepsOut z (execEventLogFlush s) := by
  unfold execEventLogFlush; try dsimp only
  with_reducible repeat' first | assumption | apply State.flushLog_keeps | apply keepsOut_next | split

theorem execAgeingRecord_keeps {z s : State} (h : Keeps z s) (hotA hotB : BitVec 32) : KeepsOut z (execAgeingRecord hotA hotB s) := by
  unfold execAgeingRecord; try dsimp only
  with_reducible repeat' first | assumption | apply State.ageRecordsWith_keeps | apply keepsOut_next | split

/-! ## Boot -/

theorem execPowerOn_keeps {z s : State} (h : Keeps z s) : KeepsOut z (execPowerOn s) := by
  unfold execPowerOn; try dsimp only
  with_reducible repeat' first | assumption | apply State.coldBegin_keeps | apply State.enableGroup_keeps | apply keepsOut_next | refine keeps_mk_pwr ?_ rfl

theorem execResetNLow_keeps {z s : State} (h : Keeps z s) : KeepsOut z (execResetNLow s) := by
  unfold execResetNLow; try dsimp only
  with_reducible repeat' first | assumption | apply State.lowerGroups_keeps | apply State.settle_keeps | apply keepsOut_next | refine keeps_mk_pwr ?_ rfl

theorem execResetN_keeps {z s : State} (h : Keeps z s) (lowTicks : Nat) (refSel : Bool) (ioMillivolts : Nat) : KeepsOut z (execResetN lowTicks refSel ioMillivolts s) := by
  unfold execResetN; try dsimp only
  with_reducible repeat' first | assumption | apply State.coldBegin_keeps | apply State.noteRails_keeps | apply State.enableGroup_keeps | apply State.settle_keeps | apply keepsOut_next | refine keeps_mk_pwr ?_ rfl | split

theorem execRailFault_keeps {z s : State} (h : Keeps z s) (rail : Fin 8) (millivolts : Nat) : KeepsOut z (execRailFault rail millivolts s) := by
  unfold execRailFault; try dsimp only
  with_reducible repeat' first | assumption | apply State.coldBegin_keeps | apply keepsOut_next | split

theorem execColdStart_keeps {z s : State} (h : Keeps z s) (vsup : Nat) (tahrOk : Bool) : KeepsOut z (execColdStart vsup tahrOk s) := by
  unfold execColdStart; try dsimp only
  with_reducible repeat' first | assumption | apply State.resumeAge_keeps | apply State.startTahr_keeps | apply State.loadTables_keeps | apply State.dropLadderImage_keeps | apply State.findEmpty_keeps | apply State.boot_keeps | apply State.noteRails_keeps | apply State.addFixed_keeps | apply State.renewNonce_keeps | apply State.writeKind_keeps | apply State.modStore_keeps | apply State.avsWrite_keeps | apply State.raise_keeps | apply keepsOut_next | apply keeps_ite | refine keeps_mk_pwr ?_ rfl | intro _ | split

theorem execTrialTimer_keeps {z s : State} (h : Keeps z s) : KeepsOut z (execTrialTimer s) := by
  unfold execTrialTimer; try dsimp only
  with_reducible repeat' first | assumption | apply State.coldBegin_keeps | apply keepsOut_next | split

/-! ## PlanDecision -/

theorem execPlanDecision_keeps {z s : State} (h : Keeps z s) : KeepsOut z (execPlanDecision s) := by
  unfold execPlanDecision; try dsimp only
  with_reducible repeat' first | assumption | apply State.decideMode_keeps | apply State.decideSwap_keeps | apply keepsOut_next | split

/-! ## SelfTest -/

theorem execStart_keeps {z s : State} (h : Keeps z s) (rails : BitVec 9) (tickOk : Bool) : KeepsOut z (execStart rails tickOk s) := by
  unfold execStart; try dsimp only
  with_reducible repeat' first | assumption | apply State.refuseTest_keeps | apply State.modTest_keeps | apply State.noteRails_keeps | apply State.modTahr_keeps | apply keepsOut_next | split

theorem execFuse_keeps {z s : State} (h : Keeps z s) : KeepsOut z (execFuse s) := by
  unfold execFuse; try dsimp only
  with_reducible repeat' first | assumption | apply State.refuseTest_keeps | apply State.modTest_keeps | apply keepsOut_next | split

theorem execFuseDone_keeps {z s : State} (h : Keeps z s) : KeepsOut z (execFuseDone s) := by
  unfold execFuseDone; try dsimp only
  with_reducible repeat' first | assumption | apply State.modRepair_keeps | apply State.modTest_keeps | apply State.writeKind_keeps | apply State.raise_keeps | apply keepsOut_next | split

theorem execComparatorTest_keeps {z s : State} (h : Keeps z s) (failing : Option (BitVec 32 × BitVec 32)) : KeepsOut z (execComparatorTest failing s) := by
  unfold execComparatorTest; try dsimp only
  with_reducible repeat' first | assumption | apply State.confirmTrial_keeps | apply State.modTest_keeps | apply State.raise_keeps | apply keepsOut_next | refine keeps_mk_pwr ?_ rfl | split

/-! ## Power -/

theorem execRungRequest_keeps {z s : State} (h : Keeps z s) (ring : BitVec 16) : KeepsOut z (execRungRequest ring s) := by
  unfold execRungRequest; try dsimp only
  with_reducible repeat' first | assumption | apply State.askDescent_keeps | apply State.wake_keeps | apply State.onDesc_keeps | apply State.finish_keeps | apply keepsOut_next | intro _ | split

theorem execTargetDescent_keeps {z s : State} (h : Keeps z s) (value : Word) : KeepsOut z (execTargetDescent value s) := by
  unfold execTargetDescent; try dsimp only
  with_reducible repeat' first | assumption | apply State.askDescent_keeps | apply State.setReg_keeps | apply keepsOut_next | split

theorem execTargetWake_keeps {z s : State} (h : Keeps z s) (value : Word) : KeepsOut z (execTargetWake value s) := by
  unfold execTargetWake; try dsimp only
  with_reducible repeat' first | assumption | apply State.wake_keeps | apply State.setReg_keeps | apply keepsOut_next | split

theorem execWakeN_keeps {z s : State} (h : Keeps z s) : KeepsOut z (execWakeN s) := by
  unfold execWakeN; try dsimp only
  with_reducible repeat' first | assumption | apply State.wake_keeps | apply keepsOut_next | split

theorem execWakeTimer_keeps {z s : State} (h : Keeps z s) : KeepsOut z (execWakeTimer s) := by
  unfold execWakeTimer; try dsimp only
  with_reducible repeat' first | assumption | apply State.wake_keeps | apply State.modPwr_keeps | apply keepsOut_next | rfl | split

theorem execLadderImageWritten_keeps {z s : State} (h : Keeps z s) : KeepsOut z (execLadderImageWritten s) := by
  unfold execLadderImageWritten; dsimp only
  split
  · exact keepsOut_next h
  · refine keepsOut_ite (fun _ => keepsOut_next h) (fun _ => ?_)
    have h2 : Keeps z (((s.fresh (8 * s.imageBytes)).2.writeNow 2 (leBytes s.imageBytes (s.fresh (8 * s.imageBytes)).1.toNat)).modPwr (fun p => { p with image := some s.ladderImage })) := by
      refine ⟨fun hz => ?_⟩
      have a := memWf_iff.1 (h.keeps hz)
      have b := memWf_iff.1 ((State.writeNow_keeps (State.fresh_keeps h (8 * s.imageBytes)) 2 (leBytes s.imageBytes (s.fresh (8 * s.imageBytes)).1.toNat)).keeps hz)
      exact memWf_iff.2 ⟨b.1, b.2.1, b.2.2.1, b.2.2.2.1, a.1⟩
    with_reducible repeat' first | assumption | apply State.enterYard_keeps | apply State.enterShed_keeps | apply State.takeHeld_keeps | apply State.modPwr_keeps | apply keepsOut_next | rfl | split

theorem execClimbStepReady_keeps {z s : State} (h : Keeps z s) (rails : BitVec 9) : KeepsOut z (execClimbStepReady rails s) := by
  unfold execClimbStepReady; try dsimp only
  with_reducible repeat' first | assumption | apply State.stepUp_keeps | apply State.noteRails_keeps | apply keepsOut_next | split

theorem execReadyTimeout_keeps {z s : State} (h : Keeps z s) (rails : BitVec 9) : KeepsOut z (execReadyTimeout rails s) := by
  unfold execReadyTimeout; try dsimp only
  with_reducible repeat' first | assumption | apply State.stepBack_keeps | apply State.takeHeld_keeps | apply State.stepActions_keeps | apply State.endRequest_keeps | apply State.modPwr_keeps | apply State.noteRails_keeps | apply State.raise_keeps | apply keepsOut_next | rfl | split

theorem execPwrStatus_keeps {z s : State} (h : Keeps z s) (value : Word) : KeepsOut z (execPwrStatus value s) := by
  unfold execPwrStatus; try dsimp only
  with_reducible repeat' first | assumption | apply State.modPwr_keeps | apply keepsOut_next | rfl | split

theorem execPwrTimerHi_keeps {z s : State} (h : Keeps z s) (value : Word) : KeepsOut z (execPwrTimerHi value s) := by
  unfold execPwrTimerHi; try dsimp only
  with_reducible repeat' first | assumption | apply State.modPwr_keeps | apply State.setReg_keeps | apply keepsOut_next | rfl

theorem execShutdownRequest_keeps {z s : State} (h : Keeps z s) (ring : BitVec 16) : KeepsOut z (execShutdownRequest ring s) := by
  unfold execShutdownRequest; try dsimp only
  with_reducible repeat' first | assumption | apply State.startShutdown_keeps | apply State.onDesc_keeps | apply State.finish_keeps | apply keepsOut_next | intro _ | split

theorem execShutdownVsup_keeps {z s : State} (h : Keeps z s) (millivolts : Nat) : KeepsOut z (execShutdownVsup millivolts s) := by
  unfold execShutdownVsup; try dsimp only
  with_reducible repeat' first | assumption | apply State.startShutdown_keeps | apply keepsOut_next | split

theorem execSdRampExpiry_keeps {z s : State} (h : Keeps z s) : KeepsOut z (execSdRampExpiry s) := by
  unfold execSdRampExpiry; try dsimp only
  with_reducible repeat' first | assumption | apply State.shutSafe_keeps | apply State.modShut_keeps | apply State.startDischarge_keeps | apply State.causeOn_keeps | apply keepsOut_next | apply keeps_foldl | simp only [keeps_mk_iff] | apply keeps_foldl_fst | intro _ | split

theorem execShutdownDischargesEnded_keeps {z s : State} (h : Keeps z s) : KeepsOut z (execShutdownDischargesEnded s) := by
  unfold execShutdownDischargesEnded; try dsimp only
  with_reducible repeat' first | assumption | simp only [keeps_mk_iff] | apply State.shutSafe_keeps | apply State.modShut_keeps | apply State.ageRecords_keeps | apply State.flushLog_keeps | apply State.modChamois_keeps | apply State.askSafe_keeps | apply State.settle_keeps | apply keepsOut_next | apply keeps_foldl | intro _ | split

theorem execShutdownDone_keeps {z s : State} (h : Keeps z s) : KeepsOut z (execShutdownDone s) := by
  unfold execShutdownDone; try dsimp only
  with_reducible repeat' first | assumption | apply State.modShut_keeps | apply State.startDescent_keeps | apply State.coldBegin_keeps | apply State.flushDone_keeps | apply State.complete_keeps | apply State.raise_keeps | apply keepsOut_next | split

theorem execVsupDip_keeps {z s : State} (h : Keeps z s) (millivolts : Nat) : KeepsOut z (execVsupDip millivolts s) := by
  unfold execVsupDip; try dsimp only
  with_reducible repeat' first | assumption | apply State.modShut_keeps | apply keepsOut_next | split

/-! ## TestEnd -/

theorem execSelfTestEnd_keeps {z s : State} (h : Keeps z s) (cells : List (BitVec 4 × BitVec 4 × BitVec 22 × Fin 39)) (logic analogue : List (BitVec 4 × BitVec 22 × BitVec 6)) (repeats : List Nat) : KeepsOut z (execSelfTestEnd cells logic analogue repeats s) := by
  unfold execSelfTestEnd; try dsimp only
  with_reducible repeat' first | assumption | apply State.takeHeld_keeps | apply State.endExtended_keeps | apply State.testFails_keeps | apply State.testEntry_keeps | apply State.restoreRegions_keeps | apply State.retest_keeps | apply State.repairRows_keeps | apply State.repairLines_keeps | apply State.sizeTrace_keeps | apply State.modTest_keeps | apply State.noteRails_keeps | apply State.writeKind_keeps | apply State.raise_keeps | apply State.failStart_keeps | apply keepsOut_next | apply keeps_foldl | simp only [keeps_mk_iff] | apply keeps_foldl_fst | intro _ | split

theorem execSelfTestAbort_keeps {z s : State} (h : Keeps z s) (rails : BitVec 9) (tickOk : Bool) : KeepsOut z (execSelfTestAbort rails tickOk s) := by
  unfold execSelfTestAbort; try dsimp only
  with_reducible repeat' first | assumption | apply State.takeHeld_keeps | apply State.abortTest_keeps | apply State.testFails_keeps | apply State.modTest_keeps | apply State.noteRails_keeps | apply State.failStart_keeps | apply keepsOut_next | simp only [keeps_mk_iff] | apply keeps_foldl | apply keeps_foldl_fst | intro _ | split

/-! ## Service -/

theorem execHello_keeps {z s : State} (h : Keeps z s) (frame : List (BitVec 8)) : KeepsOut z (execHello frame s) := by
  unfold execHello; try dsimp only
  with_reducible repeat' first | assumption | apply State.svcError_keeps | apply State.svcSend_keeps | apply State.onFrame_keeps | apply State.modSvc_keeps | apply State.fresh_keeps | apply keepsOut_next | intro _ | split

theorem execAuth_keeps {z s : State} (h : Keeps z s) (frame : List (BitVec 8)) : KeepsOut z (execAuth frame s) := by
  unfold execAuth; try dsimp only
  with_reducible repeat' first | assumption | apply State.svcError_keeps | apply State.svcSend_keeps | apply State.onFrame_keeps | apply State.modSvc_keeps | apply State.countWrong_keeps | apply State.raise_keeps | apply keepsOut_next | intro _ | split

theorem execClose_keeps {z s : State} (h : Keeps z s) (frame : List (BitVec 8)) : KeepsOut z (execClose frame s) := by
  unfold execClose; try dsimp only
  with_reducible repeat' first | assumption | apply State.endSession_keeps | apply State.svcError_keeps | apply State.onFrame_keeps | apply keepsOut_next | intro _ | split

theorem execSessionTimeout_keeps {z s : State} (h : Keeps z s) : KeepsOut z (execSessionTimeout s) := by
  unfold execSessionTimeout; try dsimp only
  with_reducible repeat' first | assumption | apply State.endSession_keeps | apply keepsOut_next | split

theorem execSvcReadSignals_keeps {z s : State} (h : Keeps z s) (frame : List (BitVec 8)) : KeepsOut z (execSvcReadSignals frame s) := by
  unfold execSvcReadSignals; try dsimp only
  with_reducible repeat' first | assumption | apply State.onRequest_keeps | apply State.svcRespond_keeps | apply keepsOut_next | exact State.hostRead_keeps (by assumption) _ _ _ _ (by assumption) | intro _ | split

theorem execSvcReadRecord_keeps {z s : State} (h : Keeps z s) (frame : List (BitVec 8)) : KeepsOut z (execSvcReadRecord frame s) := by
  unfold execSvcReadRecord; try dsimp only
  with_reducible repeat' first | assumption | apply State.onRequest_keeps | apply State.svcRespond_keeps | apply keepsOut_next | exact State.readRecord_keeps (by assumption) _ _ _ _ _ (by assumption) | intro _ | split

theorem execWriteBegin_keeps {z s : State} (h : Keeps z s) (frame : List (BitVec 8)) : KeepsOut z (execWriteBegin frame s) := by
  unfold execWriteBegin; try dsimp only
  with_reducible repeat' first | assumption | apply State.updateRefused_keeps | apply State.onRequest_keeps | apply State.svcRespond_keeps | apply State.modTahr_keeps | apply State.modBank_keeps | apply State.fresh_keeps | apply keepsOut_next | intro _ | split

theorem execWriteData_keeps {z s : State} (h : Keeps z s) (frame : List (BitVec 8)) : KeepsOut z (execWriteData frame s) := by
  unfold execWriteData; try dsimp only
  with_reducible repeat' first | assumption | apply State.onRequest_keeps | apply State.svcRespond_keeps | apply keepsOut_next | intro _ | split

theorem execWriteEnd_keeps {z s : State} (h : Keeps z s) (frame : List (BitVec 8)) : KeepsOut z (execWriteEnd frame s) := by
  unfold execWriteEnd; try dsimp only
  with_reducible repeat' first | assumption | apply State.svcWait_keeps | apply State.updateRefused_keeps | apply State.onRequest_keeps | apply State.modSvc_keeps | apply State.svcRespond_keeps | apply State.startRecord_keeps | apply State.safetyStore_keeps | apply State.safetyRequest_keeps | apply State.modTahr_keeps | apply keepsOut_next | intro _ | split

theorem execLifecycle_keeps {z s : State} (h : Keeps z s) (frame : List (BitVec 8)) : KeepsOut z (execLifecycle frame s) := by
  unfold execLifecycle; try dsimp only
  with_reducible repeat' first | assumption | apply State.svcWait_keeps | apply State.onRequest_keeps | apply State.svcRespond_keeps | apply State.lifeRequest_keeps | apply State.safetyStore_keeps | apply keepsOut_next | intro _ | split

theorem execIdentity_keeps {z s : State} (h : Keeps z s) (frame : List (BitVec 8)) : KeepsOut z (execIdentity frame s) := by
  unfold execIdentity; try dsimp only
  with_reducible repeat' first | assumption | apply State.onRequest_keeps | apply State.svcRespond_keeps | apply keepsOut_next | intro _

/-! ## Events -/

theorem execEventArrival_keeps {z s : State} (h : Keeps z s) (index : Nat) : KeepsOut z (execEventArrival index s) := by
  unfold execEventArrival; try dsimp only
  with_reducible repeat' first | assumption | apply State.arrive_keeps | apply State.modEv_keeps | apply keepsOut_next | split

theorem execEventRelease_keeps {z s : State} (h : Keeps z s) : KeepsOut z (execEventRelease s) := by
  unfold execEventRelease; try dsimp only
  with_reducible repeat' first | assumption | apply State.enterQueue_keeps | apply State.modEv_keeps | apply keepsOut_next | split

/-! ## Setup -/

theorem execSetupLock_keeps {z s : State} (h : Keeps z s) (value : BitVec 32) : KeepsOut z (execSetupLock value s) := by
  unfold execSetupLock; try dsimp only
  with_reducible repeat' first | assumption | apply State.setupChecks_keeps | apply State.modGlb_keeps | apply State.namePointers_keeps | apply State.judgeFloors_keeps | apply State.setReg_keeps | apply keepsOut_next | split

theorem execSetupLocked_keeps {z s : State} (h : Keeps z s) : KeepsOut z (execSetupLocked s) := by
  unfold execSetupLocked; try dsimp only
  with_reducible repeat' first | assumption | apply State.canStarts_keeps | apply State.modGlb_keeps | apply State.addLate_keeps | apply State.applyToB_keeps | apply State.raise_keeps | apply State.pseudoRun_keeps | apply keepsOut_next | simp only [keeps_mk_iff] | apply keeps_foldl | apply keeps_foldl_fst | intro _ | split

end Sys2Proof.Machine
end

