-- ==== Sys2Proof/Laws/State.lean ====
section
/-! SUPPORT. What each update of State leaves unchanged and what it writes: one lemma for each field and update, true by rfl, so that no proof unfolds an update. -/

namespace Sys2Proof.Machine

/-- The element an update is made at. -/
@[simp] theorem vUpd_same {α : Type} {n : Nat} (v : Vector α n) (i : Fin n) (f : α → α) : (vUpd v i f)[i] = f v[i] := by simp [vUpd]

/-- Every other element. -/
theorem vUpd_other {α : Type} {n : Nat} (v : Vector α n) (i j : Fin n) (f : α → α) (h : i ≠ j) : (vUpd v i f)[j] = v[j] := by
  have h' : i.val ≠ j.val := fun e => h (Fin.ext e)
  simp [vUpd, h']

/-! ## setReg -/

@[simp] theorem State.setReg_pending (s : State) (off : Nat) (v : Word) : (s.setReg off v).pending = s.pending := rfl
@[simp] theorem State.setReg_part (s : State) (off : Nat) (v : Word) : (s.setReg off v).part = s.part := rfl
@[simp] theorem State.setReg_now (s : State) (off : Nat) (v : Word) : (s.setReg off v).now = s.now := rfl
@[simp] theorem State.setReg_freeCtr (s : State) (off : Nat) (v : Word) : (s.setReg off v).freeCtr = s.freeCtr := rfl
@[simp] theorem State.setReg_regs (s : State) (off : Nat) (v : Word) : (s.setReg off v).regs = kvSet (regReset off) s.regs off v := rfl
@[simp] theorem State.setReg_outs (s : State) (off : Nat) (v : Word) : (s.setReg off v).outs = s.outs := rfl
@[simp] theorem State.setReg_links (s : State) (off : Nat) (v : Word) : (s.setReg off v).links = s.links := rfl
@[simp] theorem State.setReg_clocks (s : State) (off : Nat) (v : Word) : (s.setReg off v).clocks = s.clocks := rfl
@[simp] theorem State.setReg_tb (s : State) (off : Nat) (v : Word) : (s.setReg off v).tb = s.tb := rfl
@[simp] theorem State.setReg_timers (s : State) (off : Nat) (v : Word) : (s.setReg off v).timers = s.timers := rfl
@[simp] theorem State.setReg_timerReqs (s : State) (off : Nat) (v : Word) : (s.setReg off v).timerReqs = s.timerReqs := rfl
@[simp] theorem State.setReg_wires (s : State) (off : Nat) (v : Word) : (s.setReg off v).wires = s.wires := rfl
@[simp] theorem State.setReg_ch (s : State) (off : Nat) (v : Word) : (s.setReg off v).ch = s.ch := rfl
@[simp] theorem State.setReg_syncOutEnd (s : State) (off : Nat) (v : Word) : (s.setReg off v).syncOutEnd = s.syncOutEnd := rfl
@[simp] theorem State.setReg_ctrl (s : State) (off : Nat) (v : Word) : (s.setReg off v).ctrl = s.ctrl := rfl
@[simp] theorem State.setReg_verdicts (s : State) (off : Nat) (v : Word) : (s.setReg off v).verdicts = s.verdicts := rfl
@[simp] theorem State.setReg_forward (s : State) (off : Nat) (v : Word) : (s.setReg off v).forward = s.forward := rfl
@[simp] theorem State.setReg_plan (s : State) (off : Nat) (v : Word) : (s.setReg off v).plan = s.plan := rfl
@[simp] theorem State.setReg_planner (s : State) (off : Nat) (v : Word) : (s.setReg off v).planner = s.planner := rfl
@[simp] theorem State.setReg_ev (s : State) (off : Nat) (v : Word) : (s.setReg off v).ev = s.ev := rfl
@[simp] theorem State.setReg_glb (s : State) (off : Nat) (v : Word) : (s.setReg off v).glb = s.glb := rfl
@[simp] theorem State.setReg_done (s : State) (off : Nat) (v : Word) : (s.setReg off v).done = s.done := rfl
@[simp] theorem State.setReg_sense (s : State) (off : Nat) (v : Word) : (s.setReg off v).sense = s.sense := rfl
@[simp] theorem State.setReg_meas (s : State) (off : Nat) (v : Word) : (s.setReg off v).meas = s.meas := rfl
@[simp] theorem State.setReg_smp (s : State) (off : Nat) (v : Word) : (s.setReg off v).smp = s.smp := rfl
@[simp] theorem State.setReg_sampleMem (s : State) (off : Nat) (v : Word) : (s.setReg off v).sampleMem = s.sampleMem := rfl
@[simp] theorem State.setReg_pos (s : State) (off : Nat) (v : Word) : (s.setReg off v).pos = s.pos := rfl
@[simp] theorem State.setReg_mod (s : State) (off : Nat) (v : Word) : (s.setReg off v).mod = s.mod := rfl
@[simp] theorem State.setReg_ports (s : State) (off : Nat) (v : Word) : (s.setReg off v).ports = s.ports := rfl
@[simp] theorem State.setReg_gates (s : State) (off : Nat) (v : Word) : (s.setReg off v).gates = s.gates := rfl
@[simp] theorem State.setReg_sats (s : State) (off : Nat) (v : Word) : (s.setReg off v).sats = s.sats := rfl
@[simp] theorem State.setReg_prot (s : State) (off : Nat) (v : Word) : (s.setReg off v).prot = s.prot := rfl
@[simp] theorem State.setReg_shut (s : State) (off : Nat) (v : Word) : (s.setReg off v).shut = s.shut := rfl
@[simp] theorem State.setReg_chamois (s : State) (off : Nat) (v : Word) : (s.setReg off v).chamois = s.chamois := rfl
@[simp] theorem State.setReg_sw (s : State) (off : Nat) (v : Word) : (s.setReg off v).sw = s.sw := rfl
@[simp] theorem State.setReg_tahr (s : State) (off : Nat) (v : Word) : (s.setReg off v).tahr = s.tahr := rfl
@[simp] theorem State.setReg_pwr (s : State) (off : Nat) (v : Word) : (s.setReg off v).pwr = s.pwr := rfl
@[simp] theorem State.setReg_store (s : State) (off : Nat) (v : Word) : (s.setReg off v).store = s.store := rfl
@[simp] theorem State.setReg_lock (s : State) (off : Nat) (v : Word) : (s.setReg off v).lock = s.lock := rfl
@[simp] theorem State.setReg_trace (s : State) (off : Nat) (v : Word) : (s.setReg off v).trace = s.trace := rfl
@[simp] theorem State.setReg_re (s : State) (off : Nat) (v : Word) : (s.setReg off v).re = s.re := rfl
@[simp] theorem State.setReg_can (s : State) (off : Nat) (v : Word) : (s.setReg off v).can = s.can := rfl
@[simp] theorem State.setReg_aux (s : State) (off : Nat) (v : Word) : (s.setReg off v).aux = s.aux := rfl
@[simp] theorem State.setReg_st (s : State) (off : Nat) (v : Word) : (s.setReg off v).st = s.st := rfl

/-! ## raiseAt -/

@[simp] theorem State.raiseAt_pending (s : State) (t c o n : Nat) (p : List Word) : (s.raiseAt t c o n p).pending = s.pending := rfl
@[simp] theorem State.raiseAt_part (s : State) (t c o n : Nat) (p : List Word) : (s.raiseAt t c o n p).part = s.part := rfl
@[simp] theorem State.raiseAt_now (s : State) (t c o n : Nat) (p : List Word) : (s.raiseAt t c o n p).now = s.now := rfl
@[simp] theorem State.raiseAt_freeCtr (s : State) (t c o n : Nat) (p : List Word) : (s.raiseAt t c o n p).freeCtr = s.freeCtr := rfl
@[simp] theorem State.raiseAt_regs (s : State) (t c o n : Nat) (p : List Word) : (s.raiseAt t c o n p).regs = s.regs := rfl
@[simp] theorem State.raiseAt_outs (s : State) (t c o n : Nat) (p : List Word) : (s.raiseAt t c o n p).outs = s.outs := rfl
@[simp] theorem State.raiseAt_links (s : State) (t c o n : Nat) (p : List Word) : (s.raiseAt t c o n p).links = s.links := rfl
@[simp] theorem State.raiseAt_clocks (s : State) (t c o n : Nat) (p : List Word) : (s.raiseAt t c o n p).clocks = s.clocks := rfl
@[simp] theorem State.raiseAt_tb (s : State) (t c o n : Nat) (p : List Word) : (s.raiseAt t c o n p).tb = s.tb := rfl
@[simp] theorem State.raiseAt_timers (s : State) (t c o n : Nat) (p : List Word) : (s.raiseAt t c o n p).timers = s.timers := rfl
@[simp] theorem State.raiseAt_timerReqs (s : State) (t c o n : Nat) (p : List Word) : (s.raiseAt t c o n p).timerReqs = s.timerReqs := rfl
@[simp] theorem State.raiseAt_wires (s : State) (t c o n : Nat) (p : List Word) : (s.raiseAt t c o n p).wires = s.wires := rfl
@[simp] theorem State.raiseAt_ch (s : State) (t c o n : Nat) (p : List Word) : (s.raiseAt t c o n p).ch = s.ch := rfl
@[simp] theorem State.raiseAt_syncOutEnd (s : State) (t c o n : Nat) (p : List Word) : (s.raiseAt t c o n p).syncOutEnd = s.syncOutEnd := rfl
@[simp] theorem State.raiseAt_ctrl (s : State) (t c o n : Nat) (p : List Word) : (s.raiseAt t c o n p).ctrl = s.ctrl := rfl
@[simp] theorem State.raiseAt_verdicts (s : State) (t c o n : Nat) (p : List Word) : (s.raiseAt t c o n p).verdicts = s.verdicts := rfl
@[simp] theorem State.raiseAt_forward (s : State) (t c o n : Nat) (p : List Word) : (s.raiseAt t c o n p).forward = s.forward := rfl
@[simp] theorem State.raiseAt_plan (s : State) (t c o n : Nat) (p : List Word) : (s.raiseAt t c o n p).plan = s.plan := rfl
@[simp] theorem State.raiseAt_planner (s : State) (t c o n : Nat) (p : List Word) : (s.raiseAt t c o n p).planner = s.planner := rfl
@[simp] theorem State.raiseAt_glb (s : State) (t c o n : Nat) (p : List Word) : (s.raiseAt t c o n p).glb = s.glb := rfl
@[simp] theorem State.raiseAt_done (s : State) (t c o n : Nat) (p : List Word) : (s.raiseAt t c o n p).done = s.done := rfl
@[simp] theorem State.raiseAt_sense (s : State) (t c o n : Nat) (p : List Word) : (s.raiseAt t c o n p).sense = s.sense := rfl
@[simp] theorem State.raiseAt_meas (s : State) (t c o n : Nat) (p : List Word) : (s.raiseAt t c o n p).meas = s.meas := rfl
@[simp] theorem State.raiseAt_smp (s : State) (t c o n : Nat) (p : List Word) : (s.raiseAt t c o n p).smp = s.smp := rfl
@[simp] theorem State.raiseAt_sampleMem (s : State) (t c o n : Nat) (p : List Word) : (s.raiseAt t c o n p).sampleMem = s.sampleMem := rfl
@[simp] theorem State.raiseAt_pos (s : State) (t c o n : Nat) (p : List Word) : (s.raiseAt t c o n p).pos = s.pos := rfl
@[simp] theorem State.raiseAt_mod (s : State) (t c o n : Nat) (p : List Word) : (s.raiseAt t c o n p).mod = s.mod := rfl
@[simp] theorem State.raiseAt_ports (s : State) (t c o n : Nat) (p : List Word) : (s.raiseAt t c o n p).ports = s.ports := rfl
@[simp] theorem State.raiseAt_gates (s : State) (t c o n : Nat) (p : List Word) : (s.raiseAt t c o n p).gates = s.gates := rfl
@[simp] theorem State.raiseAt_sats (s : State) (t c o n : Nat) (p : List Word) : (s.raiseAt t c o n p).sats = s.sats := rfl
@[simp] theorem State.raiseAt_prot (s : State) (t c o n : Nat) (p : List Word) : (s.raiseAt t c o n p).prot = s.prot := rfl
@[simp] theorem State.raiseAt_shut (s : State) (t c o n : Nat) (p : List Word) : (s.raiseAt t c o n p).shut = s.shut := rfl
@[simp] theorem State.raiseAt_chamois (s : State) (t c o n : Nat) (p : List Word) : (s.raiseAt t c o n p).chamois = s.chamois := rfl
@[simp] theorem State.raiseAt_sw (s : State) (t c o n : Nat) (p : List Word) : (s.raiseAt t c o n p).sw = s.sw := rfl
@[simp] theorem State.raiseAt_tahr (s : State) (t c o n : Nat) (p : List Word) : (s.raiseAt t c o n p).tahr = s.tahr := rfl
@[simp] theorem State.raiseAt_pwr (s : State) (t c o n : Nat) (p : List Word) : (s.raiseAt t c o n p).pwr = s.pwr := rfl
@[simp] theorem State.raiseAt_store (s : State) (t c o n : Nat) (p : List Word) : (s.raiseAt t c o n p).store = s.store := rfl
@[simp] theorem State.raiseAt_lock (s : State) (t c o n : Nat) (p : List Word) : (s.raiseAt t c o n p).lock = s.lock := rfl
@[simp] theorem State.raiseAt_trace (s : State) (t c o n : Nat) (p : List Word) : (s.raiseAt t c o n p).trace = s.trace := rfl
@[simp] theorem State.raiseAt_re (s : State) (t c o n : Nat) (p : List Word) : (s.raiseAt t c o n p).re = s.re := rfl
@[simp] theorem State.raiseAt_can (s : State) (t c o n : Nat) (p : List Word) : (s.raiseAt t c o n p).can = s.can := rfl
@[simp] theorem State.raiseAt_aux (s : State) (t c o n : Nat) (p : List Word) : (s.raiseAt t c o n p).aux = s.aux := rfl
@[simp] theorem State.raiseAt_st (s : State) (t c o n : Nat) (p : List Word) : (s.raiseAt t c o n p).st = s.st := rfl

/-! ## raise -/

@[simp] theorem State.raise_pending (s : State) (c o n : Nat) (p : List Word) : (s.raise c o n p).pending = s.pending := rfl
@[simp] theorem State.raise_part (s : State) (c o n : Nat) (p : List Word) : (s.raise c o n p).part = s.part := rfl
@[simp] theorem State.raise_now (s : State) (c o n : Nat) (p : List Word) : (s.raise c o n p).now = s.now := rfl
@[simp] theorem State.raise_freeCtr (s : State) (c o n : Nat) (p : List Word) : (s.raise c o n p).freeCtr = s.freeCtr := rfl
@[simp] theorem State.raise_regs (s : State) (c o n : Nat) (p : List Word) : (s.raise c o n p).regs = s.regs := rfl
@[simp] theorem State.raise_outs (s : State) (c o n : Nat) (p : List Word) : (s.raise c o n p).outs = s.outs := rfl
@[simp] theorem State.raise_links (s : State) (c o n : Nat) (p : List Word) : (s.raise c o n p).links = s.links := rfl
@[simp] theorem State.raise_clocks (s : State) (c o n : Nat) (p : List Word) : (s.raise c o n p).clocks = s.clocks := rfl
@[simp] theorem State.raise_tb (s : State) (c o n : Nat) (p : List Word) : (s.raise c o n p).tb = s.tb := rfl
@[simp] theorem State.raise_timers (s : State) (c o n : Nat) (p : List Word) : (s.raise c o n p).timers = s.timers := rfl
@[simp] theorem State.raise_timerReqs (s : State) (c o n : Nat) (p : List Word) : (s.raise c o n p).timerReqs = s.timerReqs := rfl
@[simp] theorem State.raise_wires (s : State) (c o n : Nat) (p : List Word) : (s.raise c o n p).wires = s.wires := rfl
@[simp] theorem State.raise_ch (s : State) (c o n : Nat) (p : List Word) : (s.raise c o n p).ch = s.ch := rfl
@[simp] theorem State.raise_syncOutEnd (s : State) (c o n : Nat) (p : List Word) : (s.raise c o n p).syncOutEnd = s.syncOutEnd := rfl
@[simp] theorem State.raise_ctrl (s : State) (c o n : Nat) (p : List Word) : (s.raise c o n p).ctrl = s.ctrl := rfl
@[simp] theorem State.raise_verdicts (s : State) (c o n : Nat) (p : List Word) : (s.raise c o n p).verdicts = s.verdicts := rfl
@[simp] theorem State.raise_forward (s : State) (c o n : Nat) (p : List Word) : (s.raise c o n p).forward = s.forward := rfl
@[simp] theorem State.raise_plan (s : State) (c o n : Nat) (p : List Word) : (s.raise c o n p).plan = s.plan := rfl
@[simp] theorem State.raise_planner (s : State) (c o n : Nat) (p : List Word) : (s.raise c o n p).planner = s.planner := rfl
@[simp] theorem State.raise_glb (s : State) (c o n : Nat) (p : List Word) : (s.raise c o n p).glb = s.glb := rfl
@[simp] theorem State.raise_done (s : State) (c o n : Nat) (p : List Word) : (s.raise c o n p).done = s.done := rfl
@[simp] theorem State.raise_sense (s : State) (c o n : Nat) (p : List Word) : (s.raise c o n p).sense = s.sense := rfl
@[simp] theorem State.raise_meas (s : State) (c o n : Nat) (p : List Word) : (s.raise c o n p).meas = s.meas := rfl
@[simp] theorem State.raise_smp (s : State) (c o n : Nat) (p : List Word) : (s.raise c o n p).smp = s.smp := rfl
@[simp] theorem State.raise_sampleMem (s : State) (c o n : Nat) (p : List Word) : (s.raise c o n p).sampleMem = s.sampleMem := rfl
@[simp] theorem State.raise_pos (s : State) (c o n : Nat) (p : List Word) : (s.raise c o n p).pos = s.pos := rfl
@[simp] theorem State.raise_mod (s : State) (c o n : Nat) (p : List Word) : (s.raise c o n p).mod = s.mod := rfl
@[simp] theorem State.raise_ports (s : State) (c o n : Nat) (p : List Word) : (s.raise c o n p).ports = s.ports := rfl
@[simp] theorem State.raise_gates (s : State) (c o n : Nat) (p : List Word) : (s.raise c o n p).gates = s.gates := rfl
@[simp] theorem State.raise_sats (s : State) (c o n : Nat) (p : List Word) : (s.raise c o n p).sats = s.sats := rfl
@[simp] theorem State.raise_prot (s : State) (c o n : Nat) (p : List Word) : (s.raise c o n p).prot = s.prot := rfl
@[simp] theorem State.raise_shut (s : State) (c o n : Nat) (p : List Word) : (s.raise c o n p).shut = s.shut := rfl
@[simp] theorem State.raise_chamois (s : State) (c o n : Nat) (p : List Word) : (s.raise c o n p).chamois = s.chamois := rfl
@[simp] theorem State.raise_sw (s : State) (c o n : Nat) (p : List Word) : (s.raise c o n p).sw = s.sw := rfl
@[simp] theorem State.raise_tahr (s : State) (c o n : Nat) (p : List Word) : (s.raise c o n p).tahr = s.tahr := rfl
@[simp] theorem State.raise_pwr (s : State) (c o n : Nat) (p : List Word) : (s.raise c o n p).pwr = s.pwr := rfl
@[simp] theorem State.raise_store (s : State) (c o n : Nat) (p : List Word) : (s.raise c o n p).store = s.store := rfl
@[simp] theorem State.raise_lock (s : State) (c o n : Nat) (p : List Word) : (s.raise c o n p).lock = s.lock := rfl
@[simp] theorem State.raise_trace (s : State) (c o n : Nat) (p : List Word) : (s.raise c o n p).trace = s.trace := rfl
@[simp] theorem State.raise_re (s : State) (c o n : Nat) (p : List Word) : (s.raise c o n p).re = s.re := rfl
@[simp] theorem State.raise_can (s : State) (c o n : Nat) (p : List Word) : (s.raise c o n p).can = s.can := rfl
@[simp] theorem State.raise_aux (s : State) (c o n : Nat) (p : List Word) : (s.raise c o n p).aux = s.aux := rfl
@[simp] theorem State.raise_st (s : State) (c o n : Nat) (p : List Word) : (s.raise c o n p).st = s.st := rfl

/-! ## emit -/

@[simp] theorem State.emit_pending (s : State) (m : OutMsg) : (s.emit m).pending = s.pending := rfl
@[simp] theorem State.emit_part (s : State) (m : OutMsg) : (s.emit m).part = s.part := rfl
@[simp] theorem State.emit_now (s : State) (m : OutMsg) : (s.emit m).now = s.now := rfl
@[simp] theorem State.emit_freeCtr (s : State) (m : OutMsg) : (s.emit m).freeCtr = s.freeCtr := rfl
@[simp] theorem State.emit_regs (s : State) (m : OutMsg) : (s.emit m).regs = s.regs := rfl
@[simp] theorem State.emit_outs (s : State) (m : OutMsg) : (s.emit m).outs = s.outs ++ [m] := rfl
@[simp] theorem State.emit_links (s : State) (m : OutMsg) : (s.emit m).links = s.links := rfl
@[simp] theorem State.emit_clocks (s : State) (m : OutMsg) : (s.emit m).clocks = s.clocks := rfl
@[simp] theorem State.emit_tb (s : State) (m : OutMsg) : (s.emit m).tb = s.tb := rfl
@[simp] theorem State.emit_timers (s : State) (m : OutMsg) : (s.emit m).timers = s.timers := rfl
@[simp] theorem State.emit_timerReqs (s : State) (m : OutMsg) : (s.emit m).timerReqs = s.timerReqs := rfl
@[simp] theorem State.emit_wires (s : State) (m : OutMsg) : (s.emit m).wires = s.wires := rfl
@[simp] theorem State.emit_ch (s : State) (m : OutMsg) : (s.emit m).ch = s.ch := rfl
@[simp] theorem State.emit_syncOutEnd (s : State) (m : OutMsg) : (s.emit m).syncOutEnd = s.syncOutEnd := rfl
@[simp] theorem State.emit_ctrl (s : State) (m : OutMsg) : (s.emit m).ctrl = s.ctrl := rfl
@[simp] theorem State.emit_verdicts (s : State) (m : OutMsg) : (s.emit m).verdicts = s.verdicts := rfl
@[simp] theorem State.emit_forward (s : State) (m : OutMsg) : (s.emit m).forward = s.forward := rfl
@[simp] theorem State.emit_plan (s : State) (m : OutMsg) : (s.emit m).plan = s.plan := rfl
@[simp] theorem State.emit_planner (s : State) (m : OutMsg) : (s.emit m).planner = s.planner := rfl
@[simp] theorem State.emit_ev (s : State) (m : OutMsg) : (s.emit m).ev = s.ev := rfl
@[simp] theorem State.emit_glb (s : State) (m : OutMsg) : (s.emit m).glb = s.glb := rfl
@[simp] theorem State.emit_done (s : State) (m : OutMsg) : (s.emit m).done = s.done := rfl
@[simp] theorem State.emit_sense (s : State) (m : OutMsg) : (s.emit m).sense = s.sense := rfl
@[simp] theorem State.emit_meas (s : State) (m : OutMsg) : (s.emit m).meas = s.meas := rfl
@[simp] theorem State.emit_smp (s : State) (m : OutMsg) : (s.emit m).smp = s.smp := rfl
@[simp] theorem State.emit_sampleMem (s : State) (m : OutMsg) : (s.emit m).sampleMem = s.sampleMem := rfl
@[simp] theorem State.emit_pos (s : State) (m : OutMsg) : (s.emit m).pos = s.pos := rfl
@[simp] theorem State.emit_mod (s : State) (m : OutMsg) : (s.emit m).mod = s.mod := rfl
@[simp] theorem State.emit_ports (s : State) (m : OutMsg) : (s.emit m).ports = s.ports := rfl
@[simp] theorem State.emit_gates (s : State) (m : OutMsg) : (s.emit m).gates = s.gates := rfl
@[simp] theorem State.emit_sats (s : State) (m : OutMsg) : (s.emit m).sats = s.sats := rfl
@[simp] theorem State.emit_prot (s : State) (m : OutMsg) : (s.emit m).prot = s.prot := rfl
@[simp] theorem State.emit_shut (s : State) (m : OutMsg) : (s.emit m).shut = s.shut := rfl
@[simp] theorem State.emit_chamois (s : State) (m : OutMsg) : (s.emit m).chamois = s.chamois := rfl
@[simp] theorem State.emit_sw (s : State) (m : OutMsg) : (s.emit m).sw = s.sw := rfl
@[simp] theorem State.emit_tahr (s : State) (m : OutMsg) : (s.emit m).tahr = s.tahr := rfl
@[simp] theorem State.emit_pwr (s : State) (m : OutMsg) : (s.emit m).pwr = s.pwr := rfl
@[simp] theorem State.emit_store (s : State) (m : OutMsg) : (s.emit m).store = s.store := rfl
@[simp] theorem State.emit_lock (s : State) (m : OutMsg) : (s.emit m).lock = s.lock := rfl
@[simp] theorem State.emit_trace (s : State) (m : OutMsg) : (s.emit m).trace = s.trace := rfl
@[simp] theorem State.emit_re (s : State) (m : OutMsg) : (s.emit m).re = s.re := rfl
@[simp] theorem State.emit_can (s : State) (m : OutMsg) : (s.emit m).can = s.can := rfl
@[simp] theorem State.emit_aux (s : State) (m : OutMsg) : (s.emit m).aux = s.aux := rfl
@[simp] theorem State.emit_st (s : State) (m : OutMsg) : (s.emit m).st = s.st := rfl

/-! ## emitAll -/

@[simp] theorem State.emitAll_pending (s : State) (m : List OutMsg) : (s.emitAll m).pending = s.pending := rfl
@[simp] theorem State.emitAll_part (s : State) (m : List OutMsg) : (s.emitAll m).part = s.part := rfl
@[simp] theorem State.emitAll_now (s : State) (m : List OutMsg) : (s.emitAll m).now = s.now := rfl
@[simp] theorem State.emitAll_freeCtr (s : State) (m : List OutMsg) : (s.emitAll m).freeCtr = s.freeCtr := rfl
@[simp] theorem State.emitAll_regs (s : State) (m : List OutMsg) : (s.emitAll m).regs = s.regs := rfl
@[simp] theorem State.emitAll_outs (s : State) (m : List OutMsg) : (s.emitAll m).outs = s.outs ++ m := rfl
@[simp] theorem State.emitAll_links (s : State) (m : List OutMsg) : (s.emitAll m).links = s.links := rfl
@[simp] theorem State.emitAll_clocks (s : State) (m : List OutMsg) : (s.emitAll m).clocks = s.clocks := rfl
@[simp] theorem State.emitAll_tb (s : State) (m : List OutMsg) : (s.emitAll m).tb = s.tb := rfl
@[simp] theorem State.emitAll_timers (s : State) (m : List OutMsg) : (s.emitAll m).timers = s.timers := rfl
@[simp] theorem State.emitAll_timerReqs (s : State) (m : List OutMsg) : (s.emitAll m).timerReqs = s.timerReqs := rfl
@[simp] theorem State.emitAll_wires (s : State) (m : List OutMsg) : (s.emitAll m).wires = s.wires := rfl
@[simp] theorem State.emitAll_ch (s : State) (m : List OutMsg) : (s.emitAll m).ch = s.ch := rfl
@[simp] theorem State.emitAll_syncOutEnd (s : State) (m : List OutMsg) : (s.emitAll m).syncOutEnd = s.syncOutEnd := rfl
@[simp] theorem State.emitAll_ctrl (s : State) (m : List OutMsg) : (s.emitAll m).ctrl = s.ctrl := rfl
@[simp] theorem State.emitAll_verdicts (s : State) (m : List OutMsg) : (s.emitAll m).verdicts = s.verdicts := rfl
@[simp] theorem State.emitAll_forward (s : State) (m : List OutMsg) : (s.emitAll m).forward = s.forward := rfl
@[simp] theorem State.emitAll_plan (s : State) (m : List OutMsg) : (s.emitAll m).plan = s.plan := rfl
@[simp] theorem State.emitAll_planner (s : State) (m : List OutMsg) : (s.emitAll m).planner = s.planner := rfl
@[simp] theorem State.emitAll_ev (s : State) (m : List OutMsg) : (s.emitAll m).ev = s.ev := rfl
@[simp] theorem State.emitAll_glb (s : State) (m : List OutMsg) : (s.emitAll m).glb = s.glb := rfl
@[simp] theorem State.emitAll_done (s : State) (m : List OutMsg) : (s.emitAll m).done = s.done := rfl
@[simp] theorem State.emitAll_sense (s : State) (m : List OutMsg) : (s.emitAll m).sense = s.sense := rfl
@[simp] theorem State.emitAll_meas (s : State) (m : List OutMsg) : (s.emitAll m).meas = s.meas := rfl
@[simp] theorem State.emitAll_smp (s : State) (m : List OutMsg) : (s.emitAll m).smp = s.smp := rfl
@[simp] theorem State.emitAll_sampleMem (s : State) (m : List OutMsg) : (s.emitAll m).sampleMem = s.sampleMem := rfl
@[simp] theorem State.emitAll_pos (s : State) (m : List OutMsg) : (s.emitAll m).pos = s.pos := rfl
@[simp] theorem State.emitAll_mod (s : State) (m : List OutMsg) : (s.emitAll m).mod = s.mod := rfl
@[simp] theorem State.emitAll_ports (s : State) (m : List OutMsg) : (s.emitAll m).ports = s.ports := rfl
@[simp] theorem State.emitAll_gates (s : State) (m : List OutMsg) : (s.emitAll m).gates = s.gates := rfl
@[simp] theorem State.emitAll_sats (s : State) (m : List OutMsg) : (s.emitAll m).sats = s.sats := rfl
@[simp] theorem State.emitAll_prot (s : State) (m : List OutMsg) : (s.emitAll m).prot = s.prot := rfl
@[simp] theorem State.emitAll_shut (s : State) (m : List OutMsg) : (s.emitAll m).shut = s.shut := rfl
@[simp] theorem State.emitAll_chamois (s : State) (m : List OutMsg) : (s.emitAll m).chamois = s.chamois := rfl
@[simp] theorem State.emitAll_sw (s : State) (m : List OutMsg) : (s.emitAll m).sw = s.sw := rfl
@[simp] theorem State.emitAll_tahr (s : State) (m : List OutMsg) : (s.emitAll m).tahr = s.tahr := rfl
@[simp] theorem State.emitAll_pwr (s : State) (m : List OutMsg) : (s.emitAll m).pwr = s.pwr := rfl
@[simp] theorem State.emitAll_store (s : State) (m : List OutMsg) : (s.emitAll m).store = s.store := rfl
@[simp] theorem State.emitAll_lock (s : State) (m : List OutMsg) : (s.emitAll m).lock = s.lock := rfl
@[simp] theorem State.emitAll_trace (s : State) (m : List OutMsg) : (s.emitAll m).trace = s.trace := rfl
@[simp] theorem State.emitAll_re (s : State) (m : List OutMsg) : (s.emitAll m).re = s.re := rfl
@[simp] theorem State.emitAll_can (s : State) (m : List OutMsg) : (s.emitAll m).can = s.can := rfl
@[simp] theorem State.emitAll_aux (s : State) (m : List OutMsg) : (s.emitAll m).aux = s.aux := rfl
@[simp] theorem State.emitAll_st (s : State) (m : List OutMsg) : (s.emitAll m).st = s.st := rfl

/-! ## modLink -/

@[simp] theorem State.modLink_pending (s : State) (i : Fin 27) (f : D2dLink → D2dLink) : (s.modLink i f).pending = s.pending := rfl
@[simp] theorem State.modLink_part (s : State) (i : Fin 27) (f : D2dLink → D2dLink) : (s.modLink i f).part = s.part := rfl
@[simp] theorem State.modLink_now (s : State) (i : Fin 27) (f : D2dLink → D2dLink) : (s.modLink i f).now = s.now := rfl
@[simp] theorem State.modLink_freeCtr (s : State) (i : Fin 27) (f : D2dLink → D2dLink) : (s.modLink i f).freeCtr = s.freeCtr := rfl
@[simp] theorem State.modLink_regs (s : State) (i : Fin 27) (f : D2dLink → D2dLink) : (s.modLink i f).regs = s.regs := rfl
@[simp] theorem State.modLink_outs (s : State) (i : Fin 27) (f : D2dLink → D2dLink) : (s.modLink i f).outs = s.outs := rfl
@[simp] theorem State.modLink_links (s : State) (i : Fin 27) (f : D2dLink → D2dLink) : (s.modLink i f).links = vUpd s.links i f := rfl
@[simp] theorem State.modLink_clocks (s : State) (i : Fin 27) (f : D2dLink → D2dLink) : (s.modLink i f).clocks = s.clocks := rfl
@[simp] theorem State.modLink_tb (s : State) (i : Fin 27) (f : D2dLink → D2dLink) : (s.modLink i f).tb = s.tb := rfl
@[simp] theorem State.modLink_timers (s : State) (i : Fin 27) (f : D2dLink → D2dLink) : (s.modLink i f).timers = s.timers := rfl
@[simp] theorem State.modLink_timerReqs (s : State) (i : Fin 27) (f : D2dLink → D2dLink) : (s.modLink i f).timerReqs = s.timerReqs := rfl
@[simp] theorem State.modLink_wires (s : State) (i : Fin 27) (f : D2dLink → D2dLink) : (s.modLink i f).wires = s.wires := rfl
@[simp] theorem State.modLink_ch (s : State) (i : Fin 27) (f : D2dLink → D2dLink) : (s.modLink i f).ch = s.ch := rfl
@[simp] theorem State.modLink_syncOutEnd (s : State) (i : Fin 27) (f : D2dLink → D2dLink) : (s.modLink i f).syncOutEnd = s.syncOutEnd := rfl
@[simp] theorem State.modLink_ctrl (s : State) (i : Fin 27) (f : D2dLink → D2dLink) : (s.modLink i f).ctrl = s.ctrl := rfl
@[simp] theorem State.modLink_verdicts (s : State) (i : Fin 27) (f : D2dLink → D2dLink) : (s.modLink i f).verdicts = s.verdicts := rfl
@[simp] theorem State.modLink_forward (s : State) (i : Fin 27) (f : D2dLink → D2dLink) : (s.modLink i f).forward = s.forward := rfl
@[simp] theorem State.modLink_plan (s : State) (i : Fin 27) (f : D2dLink → D2dLink) : (s.modLink i f).plan = s.plan := rfl
@[simp] theorem State.modLink_planner (s : State) (i : Fin 27) (f : D2dLink → D2dLink) : (s.modLink i f).planner = s.planner := rfl
@[simp] theorem State.modLink_ev (s : State) (i : Fin 27) (f : D2dLink → D2dLink) : (s.modLink i f).ev = s.ev := rfl
@[simp] theorem State.modLink_glb (s : State) (i : Fin 27) (f : D2dLink → D2dLink) : (s.modLink i f).glb = s.glb := rfl
@[simp] theorem State.modLink_done (s : State) (i : Fin 27) (f : D2dLink → D2dLink) : (s.modLink i f).done = s.done := rfl
@[simp] theorem State.modLink_sense (s : State) (i : Fin 27) (f : D2dLink → D2dLink) : (s.modLink i f).sense = s.sense := rfl
@[simp] theorem State.modLink_meas (s : State) (i : Fin 27) (f : D2dLink → D2dLink) : (s.modLink i f).meas = s.meas := rfl
@[simp] theorem State.modLink_smp (s : State) (i : Fin 27) (f : D2dLink → D2dLink) : (s.modLink i f).smp = s.smp := rfl
@[simp] theorem State.modLink_sampleMem (s : State) (i : Fin 27) (f : D2dLink → D2dLink) : (s.modLink i f).sampleMem = s.sampleMem := rfl
@[simp] theorem State.modLink_pos (s : State) (i : Fin 27) (f : D2dLink → D2dLink) : (s.modLink i f).pos = s.pos := rfl
@[simp] theorem State.modLink_mod (s : State) (i : Fin 27) (f : D2dLink → D2dLink) : (s.modLink i f).mod = s.mod := rfl
@[simp] theorem State.modLink_ports (s : State) (i : Fin 27) (f : D2dLink → D2dLink) : (s.modLink i f).ports = s.ports := rfl
@[simp] theorem State.modLink_gates (s : State) (i : Fin 27) (f : D2dLink → D2dLink) : (s.modLink i f).gates = s.gates := rfl
@[simp] theorem State.modLink_sats (s : State) (i : Fin 27) (f : D2dLink → D2dLink) : (s.modLink i f).sats = s.sats := rfl
@[simp] theorem State.modLink_prot (s : State) (i : Fin 27) (f : D2dLink → D2dLink) : (s.modLink i f).prot = s.prot := rfl
@[simp] theorem State.modLink_shut (s : State) (i : Fin 27) (f : D2dLink → D2dLink) : (s.modLink i f).shut = s.shut := rfl
@[simp] theorem State.modLink_chamois (s : State) (i : Fin 27) (f : D2dLink → D2dLink) : (s.modLink i f).chamois = s.chamois := rfl
@[simp] theorem State.modLink_sw (s : State) (i : Fin 27) (f : D2dLink → D2dLink) : (s.modLink i f).sw = s.sw := rfl
@[simp] theorem State.modLink_tahr (s : State) (i : Fin 27) (f : D2dLink → D2dLink) : (s.modLink i f).tahr = s.tahr := rfl
@[simp] theorem State.modLink_pwr (s : State) (i : Fin 27) (f : D2dLink → D2dLink) : (s.modLink i f).pwr = s.pwr := rfl
@[simp] theorem State.modLink_store (s : State) (i : Fin 27) (f : D2dLink → D2dLink) : (s.modLink i f).store = s.store := rfl
@[simp] theorem State.modLink_lock (s : State) (i : Fin 27) (f : D2dLink → D2dLink) : (s.modLink i f).lock = s.lock := rfl
@[simp] theorem State.modLink_trace (s : State) (i : Fin 27) (f : D2dLink → D2dLink) : (s.modLink i f).trace = s.trace := rfl
@[simp] theorem State.modLink_re (s : State) (i : Fin 27) (f : D2dLink → D2dLink) : (s.modLink i f).re = s.re := rfl
@[simp] theorem State.modLink_can (s : State) (i : Fin 27) (f : D2dLink → D2dLink) : (s.modLink i f).can = s.can := rfl
@[simp] theorem State.modLink_aux (s : State) (i : Fin 27) (f : D2dLink → D2dLink) : (s.modLink i f).aux = s.aux := rfl
@[simp] theorem State.modLink_st (s : State) (i : Fin 27) (f : D2dLink → D2dLink) : (s.modLink i f).st = s.st := rfl

/-! ## modCh -/

@[simp] theorem State.modCh_pending (s : State) (i : Channel) (f : ChanTime → ChanTime) : (s.modCh i f).pending = s.pending := rfl
@[simp] theorem State.modCh_part (s : State) (i : Channel) (f : ChanTime → ChanTime) : (s.modCh i f).part = s.part := rfl
@[simp] theorem State.modCh_now (s : State) (i : Channel) (f : ChanTime → ChanTime) : (s.modCh i f).now = s.now := rfl
@[simp] theorem State.modCh_freeCtr (s : State) (i : Channel) (f : ChanTime → ChanTime) : (s.modCh i f).freeCtr = s.freeCtr := rfl
@[simp] theorem State.modCh_regs (s : State) (i : Channel) (f : ChanTime → ChanTime) : (s.modCh i f).regs = s.regs := rfl
@[simp] theorem State.modCh_outs (s : State) (i : Channel) (f : ChanTime → ChanTime) : (s.modCh i f).outs = s.outs := rfl
@[simp] theorem State.modCh_links (s : State) (i : Channel) (f : ChanTime → ChanTime) : (s.modCh i f).links = s.links := rfl
@[simp] theorem State.modCh_clocks (s : State) (i : Channel) (f : ChanTime → ChanTime) : (s.modCh i f).clocks = s.clocks := rfl
@[simp] theorem State.modCh_tb (s : State) (i : Channel) (f : ChanTime → ChanTime) : (s.modCh i f).tb = s.tb := rfl
@[simp] theorem State.modCh_timers (s : State) (i : Channel) (f : ChanTime → ChanTime) : (s.modCh i f).timers = s.timers := rfl
@[simp] theorem State.modCh_timerReqs (s : State) (i : Channel) (f : ChanTime → ChanTime) : (s.modCh i f).timerReqs = s.timerReqs := rfl
@[simp] theorem State.modCh_wires (s : State) (i : Channel) (f : ChanTime → ChanTime) : (s.modCh i f).wires = s.wires := rfl
@[simp] theorem State.modCh_ch (s : State) (i : Channel) (f : ChanTime → ChanTime) : (s.modCh i f).ch = vUpd s.ch i f := rfl
@[simp] theorem State.modCh_syncOutEnd (s : State) (i : Channel) (f : ChanTime → ChanTime) : (s.modCh i f).syncOutEnd = s.syncOutEnd := rfl
@[simp] theorem State.modCh_ctrl (s : State) (i : Channel) (f : ChanTime → ChanTime) : (s.modCh i f).ctrl = s.ctrl := rfl
@[simp] theorem State.modCh_verdicts (s : State) (i : Channel) (f : ChanTime → ChanTime) : (s.modCh i f).verdicts = s.verdicts := rfl
@[simp] theorem State.modCh_forward (s : State) (i : Channel) (f : ChanTime → ChanTime) : (s.modCh i f).forward = s.forward := rfl
@[simp] theorem State.modCh_plan (s : State) (i : Channel) (f : ChanTime → ChanTime) : (s.modCh i f).plan = s.plan := rfl
@[simp] theorem State.modCh_planner (s : State) (i : Channel) (f : ChanTime → ChanTime) : (s.modCh i f).planner = s.planner := rfl
@[simp] theorem State.modCh_ev (s : State) (i : Channel) (f : ChanTime → ChanTime) : (s.modCh i f).ev = s.ev := rfl
@[simp] theorem State.modCh_glb (s : State) (i : Channel) (f : ChanTime → ChanTime) : (s.modCh i f).glb = s.glb := rfl
@[simp] theorem State.modCh_done (s : State) (i : Channel) (f : ChanTime → ChanTime) : (s.modCh i f).done = s.done := rfl
@[simp] theorem State.modCh_sense (s : State) (i : Channel) (f : ChanTime → ChanTime) : (s.modCh i f).sense = s.sense := rfl
@[simp] theorem State.modCh_meas (s : State) (i : Channel) (f : ChanTime → ChanTime) : (s.modCh i f).meas = s.meas := rfl
@[simp] theorem State.modCh_smp (s : State) (i : Channel) (f : ChanTime → ChanTime) : (s.modCh i f).smp = s.smp := rfl
@[simp] theorem State.modCh_sampleMem (s : State) (i : Channel) (f : ChanTime → ChanTime) : (s.modCh i f).sampleMem = s.sampleMem := rfl
@[simp] theorem State.modCh_pos (s : State) (i : Channel) (f : ChanTime → ChanTime) : (s.modCh i f).pos = s.pos := rfl
@[simp] theorem State.modCh_mod (s : State) (i : Channel) (f : ChanTime → ChanTime) : (s.modCh i f).mod = s.mod := rfl
@[simp] theorem State.modCh_ports (s : State) (i : Channel) (f : ChanTime → ChanTime) : (s.modCh i f).ports = s.ports := rfl
@[simp] theorem State.modCh_gates (s : State) (i : Channel) (f : ChanTime → ChanTime) : (s.modCh i f).gates = s.gates := rfl
@[simp] theorem State.modCh_sats (s : State) (i : Channel) (f : ChanTime → ChanTime) : (s.modCh i f).sats = s.sats := rfl
@[simp] theorem State.modCh_prot (s : State) (i : Channel) (f : ChanTime → ChanTime) : (s.modCh i f).prot = s.prot := rfl
@[simp] theorem State.modCh_shut (s : State) (i : Channel) (f : ChanTime → ChanTime) : (s.modCh i f).shut = s.shut := rfl
@[simp] theorem State.modCh_chamois (s : State) (i : Channel) (f : ChanTime → ChanTime) : (s.modCh i f).chamois = s.chamois := rfl
@[simp] theorem State.modCh_sw (s : State) (i : Channel) (f : ChanTime → ChanTime) : (s.modCh i f).sw = s.sw := rfl
@[simp] theorem State.modCh_tahr (s : State) (i : Channel) (f : ChanTime → ChanTime) : (s.modCh i f).tahr = s.tahr := rfl
@[simp] theorem State.modCh_pwr (s : State) (i : Channel) (f : ChanTime → ChanTime) : (s.modCh i f).pwr = s.pwr := rfl
@[simp] theorem State.modCh_store (s : State) (i : Channel) (f : ChanTime → ChanTime) : (s.modCh i f).store = s.store := rfl
@[simp] theorem State.modCh_lock (s : State) (i : Channel) (f : ChanTime → ChanTime) : (s.modCh i f).lock = s.lock := rfl
@[simp] theorem State.modCh_trace (s : State) (i : Channel) (f : ChanTime → ChanTime) : (s.modCh i f).trace = s.trace := rfl
@[simp] theorem State.modCh_re (s : State) (i : Channel) (f : ChanTime → ChanTime) : (s.modCh i f).re = s.re := rfl
@[simp] theorem State.modCh_can (s : State) (i : Channel) (f : ChanTime → ChanTime) : (s.modCh i f).can = s.can := rfl
@[simp] theorem State.modCh_aux (s : State) (i : Channel) (f : ChanTime → ChanTime) : (s.modCh i f).aux = s.aux := rfl
@[simp] theorem State.modCh_st (s : State) (i : Channel) (f : ChanTime → ChanTime) : (s.modCh i f).st = s.st := rfl

/-! ## modCtrl -/

@[simp] theorem State.modCtrl_pending (s : State) (d : CtrlId) (f : CtrlDie → CtrlDie) : (s.modCtrl d f).pending = s.pending := rfl
@[simp] theorem State.modCtrl_part (s : State) (d : CtrlId) (f : CtrlDie → CtrlDie) : (s.modCtrl d f).part = s.part := rfl
@[simp] theorem State.modCtrl_now (s : State) (d : CtrlId) (f : CtrlDie → CtrlDie) : (s.modCtrl d f).now = s.now := rfl
@[simp] theorem State.modCtrl_freeCtr (s : State) (d : CtrlId) (f : CtrlDie → CtrlDie) : (s.modCtrl d f).freeCtr = s.freeCtr := rfl
@[simp] theorem State.modCtrl_regs (s : State) (d : CtrlId) (f : CtrlDie → CtrlDie) : (s.modCtrl d f).regs = s.regs := rfl
@[simp] theorem State.modCtrl_outs (s : State) (d : CtrlId) (f : CtrlDie → CtrlDie) : (s.modCtrl d f).outs = s.outs := rfl
@[simp] theorem State.modCtrl_links (s : State) (d : CtrlId) (f : CtrlDie → CtrlDie) : (s.modCtrl d f).links = s.links := rfl
@[simp] theorem State.modCtrl_clocks (s : State) (d : CtrlId) (f : CtrlDie → CtrlDie) : (s.modCtrl d f).clocks = s.clocks := rfl
@[simp] theorem State.modCtrl_tb (s : State) (d : CtrlId) (f : CtrlDie → CtrlDie) : (s.modCtrl d f).tb = s.tb := rfl
@[simp] theorem State.modCtrl_timers (s : State) (d : CtrlId) (f : CtrlDie → CtrlDie) : (s.modCtrl d f).timers = s.timers := rfl
@[simp] theorem State.modCtrl_timerReqs (s : State) (d : CtrlId) (f : CtrlDie → CtrlDie) : (s.modCtrl d f).timerReqs = s.timerReqs := rfl
@[simp] theorem State.modCtrl_wires (s : State) (d : CtrlId) (f : CtrlDie → CtrlDie) : (s.modCtrl d f).wires = s.wires := rfl
@[simp] theorem State.modCtrl_ch (s : State) (d : CtrlId) (f : CtrlDie → CtrlDie) : (s.modCtrl d f).ch = s.ch := rfl
@[simp] theorem State.modCtrl_syncOutEnd (s : State) (d : CtrlId) (f : CtrlDie → CtrlDie) : (s.modCtrl d f).syncOutEnd = s.syncOutEnd := rfl
@[simp] theorem State.modCtrl_ctrl (s : State) (d : CtrlId) (f : CtrlDie → CtrlDie) : (s.modCtrl d f).ctrl = vUpd s.ctrl d.ix f := rfl
@[simp] theorem State.modCtrl_verdicts (s : State) (d : CtrlId) (f : CtrlDie → CtrlDie) : (s.modCtrl d f).verdicts = s.verdicts := rfl
@[simp] theorem State.modCtrl_forward (s : State) (d : CtrlId) (f : CtrlDie → CtrlDie) : (s.modCtrl d f).forward = s.forward := rfl
@[simp] theorem State.modCtrl_plan (s : State) (d : CtrlId) (f : CtrlDie → CtrlDie) : (s.modCtrl d f).plan = s.plan := rfl
@[simp] theorem State.modCtrl_planner (s : State) (d : CtrlId) (f : CtrlDie → CtrlDie) : (s.modCtrl d f).planner = s.planner := rfl
@[simp] theorem State.modCtrl_ev (s : State) (d : CtrlId) (f : CtrlDie → CtrlDie) : (s.modCtrl d f).ev = s.ev := rfl
@[simp] theorem State.modCtrl_glb (s : State) (d : CtrlId) (f : CtrlDie → CtrlDie) : (s.modCtrl d f).glb = s.glb := rfl
@[simp] theorem State.modCtrl_done (s : State) (d : CtrlId) (f : CtrlDie → CtrlDie) : (s.modCtrl d f).done = s.done := rfl
@[simp] theorem State.modCtrl_sense (s : State) (d : CtrlId) (f : CtrlDie → CtrlDie) : (s.modCtrl d f).sense = s.sense := rfl
@[simp] theorem State.modCtrl_meas (s : State) (d : CtrlId) (f : CtrlDie → CtrlDie) : (s.modCtrl d f).meas = s.meas := rfl
@[simp] theorem State.modCtrl_smp (s : State) (d : CtrlId) (f : CtrlDie → CtrlDie) : (s.modCtrl d f).smp = s.smp := rfl
@[simp] theorem State.modCtrl_sampleMem (s : State) (d : CtrlId) (f : CtrlDie → CtrlDie) : (s.modCtrl d f).sampleMem = s.sampleMem := rfl
@[simp] theorem State.modCtrl_pos (s : State) (d : CtrlId) (f : CtrlDie → CtrlDie) : (s.modCtrl d f).pos = s.pos := rfl
@[simp] theorem State.modCtrl_mod (s : State) (d : CtrlId) (f : CtrlDie → CtrlDie) : (s.modCtrl d f).mod = s.mod := rfl
@[simp] theorem State.modCtrl_ports (s : State) (d : CtrlId) (f : CtrlDie → CtrlDie) : (s.modCtrl d f).ports = s.ports := rfl
@[simp] theorem State.modCtrl_gates (s : State) (d : CtrlId) (f : CtrlDie → CtrlDie) : (s.modCtrl d f).gates = s.gates := rfl
@[simp] theorem State.modCtrl_sats (s : State) (d : CtrlId) (f : CtrlDie → CtrlDie) : (s.modCtrl d f).sats = s.sats := rfl
@[simp] theorem State.modCtrl_prot (s : State) (d : CtrlId) (f : CtrlDie → CtrlDie) : (s.modCtrl d f).prot = s.prot := rfl
@[simp] theorem State.modCtrl_shut (s : State) (d : CtrlId) (f : CtrlDie → CtrlDie) : (s.modCtrl d f).shut = s.shut := rfl
@[simp] theorem State.modCtrl_chamois (s : State) (d : CtrlId) (f : CtrlDie → CtrlDie) : (s.modCtrl d f).chamois = s.chamois := rfl
@[simp] theorem State.modCtrl_sw (s : State) (d : CtrlId) (f : CtrlDie → CtrlDie) : (s.modCtrl d f).sw = s.sw := rfl
@[simp] theorem State.modCtrl_tahr (s : State) (d : CtrlId) (f : CtrlDie → CtrlDie) : (s.modCtrl d f).tahr = s.tahr := rfl
@[simp] theorem State.modCtrl_pwr (s : State) (d : CtrlId) (f : CtrlDie → CtrlDie) : (s.modCtrl d f).pwr = s.pwr := rfl
@[simp] theorem State.modCtrl_store (s : State) (d : CtrlId) (f : CtrlDie → CtrlDie) : (s.modCtrl d f).store = s.store := rfl
@[simp] theorem State.modCtrl_lock (s : State) (d : CtrlId) (f : CtrlDie → CtrlDie) : (s.modCtrl d f).lock = s.lock := rfl
@[simp] theorem State.modCtrl_trace (s : State) (d : CtrlId) (f : CtrlDie → CtrlDie) : (s.modCtrl d f).trace = s.trace := rfl
@[simp] theorem State.modCtrl_re (s : State) (d : CtrlId) (f : CtrlDie → CtrlDie) : (s.modCtrl d f).re = s.re := rfl
@[simp] theorem State.modCtrl_can (s : State) (d : CtrlId) (f : CtrlDie → CtrlDie) : (s.modCtrl d f).can = s.can := rfl
@[simp] theorem State.modCtrl_aux (s : State) (d : CtrlId) (f : CtrlDie → CtrlDie) : (s.modCtrl d f).aux = s.aux := rfl
@[simp] theorem State.modCtrl_st (s : State) (d : CtrlId) (f : CtrlDie → CtrlDie) : (s.modCtrl d f).st = s.st := rfl

/-! ## modEngine -/

@[simp] theorem State.modEngine_pending (s : State) (d : CtrlId) (e : EngineNo) (f : Engine → Engine) : (s.modEngine d e f).pending = s.pending := rfl
@[simp] theorem State.modEngine_part (s : State) (d : CtrlId) (e : EngineNo) (f : Engine → Engine) : (s.modEngine d e f).part = s.part := rfl
@[simp] theorem State.modEngine_now (s : State) (d : CtrlId) (e : EngineNo) (f : Engine → Engine) : (s.modEngine d e f).now = s.now := rfl
@[simp] theorem State.modEngine_freeCtr (s : State) (d : CtrlId) (e : EngineNo) (f : Engine → Engine) : (s.modEngine d e f).freeCtr = s.freeCtr := rfl
@[simp] theorem State.modEngine_regs (s : State) (d : CtrlId) (e : EngineNo) (f : Engine → Engine) : (s.modEngine d e f).regs = s.regs := rfl
@[simp] theorem State.modEngine_outs (s : State) (d : CtrlId) (e : EngineNo) (f : Engine → Engine) : (s.modEngine d e f).outs = s.outs := rfl
@[simp] theorem State.modEngine_links (s : State) (d : CtrlId) (e : EngineNo) (f : Engine → Engine) : (s.modEngine d e f).links = s.links := rfl
@[simp] theorem State.modEngine_clocks (s : State) (d : CtrlId) (e : EngineNo) (f : Engine → Engine) : (s.modEngine d e f).clocks = s.clocks := rfl
@[simp] theorem State.modEngine_tb (s : State) (d : CtrlId) (e : EngineNo) (f : Engine → Engine) : (s.modEngine d e f).tb = s.tb := rfl
@[simp] theorem State.modEngine_timers (s : State) (d : CtrlId) (e : EngineNo) (f : Engine → Engine) : (s.modEngine d e f).timers = s.timers := rfl
@[simp] theorem State.modEngine_timerReqs (s : State) (d : CtrlId) (e : EngineNo) (f : Engine → Engine) : (s.modEngine d e f).timerReqs = s.timerReqs := rfl
@[simp] theorem State.modEngine_wires (s : State) (d : CtrlId) (e : EngineNo) (f : Engine → Engine) : (s.modEngine d e f).wires = s.wires := rfl
@[simp] theorem State.modEngine_ch (s : State) (d : CtrlId) (e : EngineNo) (f : Engine → Engine) : (s.modEngine d e f).ch = s.ch := rfl
@[simp] theorem State.modEngine_syncOutEnd (s : State) (d : CtrlId) (e : EngineNo) (f : Engine → Engine) : (s.modEngine d e f).syncOutEnd = s.syncOutEnd := rfl
@[simp] theorem State.modEngine_verdicts (s : State) (d : CtrlId) (e : EngineNo) (f : Engine → Engine) : (s.modEngine d e f).verdicts = s.verdicts := rfl
@[simp] theorem State.modEngine_forward (s : State) (d : CtrlId) (e : EngineNo) (f : Engine → Engine) : (s.modEngine d e f).forward = s.forward := rfl
@[simp] theorem State.modEngine_plan (s : State) (d : CtrlId) (e : EngineNo) (f : Engine → Engine) : (s.modEngine d e f).plan = s.plan := rfl
@[simp] theorem State.modEngine_planner (s : State) (d : CtrlId) (e : EngineNo) (f : Engine → Engine) : (s.modEngine d e f).planner = s.planner := rfl
@[simp] theorem State.modEngine_ev (s : State) (d : CtrlId) (e : EngineNo) (f : Engine → Engine) : (s.modEngine d e f).ev = s.ev := rfl
@[simp] theorem State.modEngine_glb (s : State) (d : CtrlId) (e : EngineNo) (f : Engine → Engine) : (s.modEngine d e f).glb = s.glb := rfl
@[simp] theorem State.modEngine_done (s : State) (d : CtrlId) (e : EngineNo) (f : Engine → Engine) : (s.modEngine d e f).done = s.done := rfl
@[simp] theorem State.modEngine_sense (s : State) (d : CtrlId) (e : EngineNo) (f : Engine → Engine) : (s.modEngine d e f).sense = s.sense := rfl
@[simp] theorem State.modEngine_meas (s : State) (d : CtrlId) (e : EngineNo) (f : Engine → Engine) : (s.modEngine d e f).meas = s.meas := rfl
@[simp] theorem State.modEngine_smp (s : State) (d : CtrlId) (e : EngineNo) (f : Engine → Engine) : (s.modEngine d e f).smp = s.smp := rfl
@[simp] theorem State.modEngine_sampleMem (s : State) (d : CtrlId) (e : EngineNo) (f : Engine → Engine) : (s.modEngine d e f).sampleMem = s.sampleMem := rfl
@[simp] theorem State.modEngine_pos (s : State) (d : CtrlId) (e : EngineNo) (f : Engine → Engine) : (s.modEngine d e f).pos = s.pos := rfl
@[simp] theorem State.modEngine_mod (s : State) (d : CtrlId) (e : EngineNo) (f : Engine → Engine) : (s.modEngine d e f).mod = s.mod := rfl
@[simp] theorem State.modEngine_ports (s : State) (d : CtrlId) (e : EngineNo) (f : Engine → Engine) : (s.modEngine d e f).ports = s.ports := rfl
@[simp] theorem State.modEngine_gates (s : State) (d : CtrlId) (e : EngineNo) (f : Engine → Engine) : (s.modEngine d e f).gates = s.gates := rfl
@[simp] theorem State.modEngine_sats (s : State) (d : CtrlId) (e : EngineNo) (f : Engine → Engine) : (s.modEngine d e f).sats = s.sats := rfl
@[simp] theorem State.modEngine_prot (s : State) (d : CtrlId) (e : EngineNo) (f : Engine → Engine) : (s.modEngine d e f).prot = s.prot := rfl
@[simp] theorem State.modEngine_shut (s : State) (d : CtrlId) (e : EngineNo) (f : Engine → Engine) : (s.modEngine d e f).shut = s.shut := rfl
@[simp] theorem State.modEngine_chamois (s : State) (d : CtrlId) (e : EngineNo) (f : Engine → Engine) : (s.modEngine d e f).chamois = s.chamois := rfl
@[simp] theorem State.modEngine_sw (s : State) (d : CtrlId) (e : EngineNo) (f : Engine → Engine) : (s.modEngine d e f).sw = s.sw := rfl
@[simp] theorem State.modEngine_tahr (s : State) (d : CtrlId) (e : EngineNo) (f : Engine → Engine) : (s.modEngine d e f).tahr = s.tahr := rfl
@[simp] theorem State.modEngine_pwr (s : State) (d : CtrlId) (e : EngineNo) (f : Engine → Engine) : (s.modEngine d e f).pwr = s.pwr := rfl
@[simp] theorem State.modEngine_store (s : State) (d : CtrlId) (e : EngineNo) (f : Engine → Engine) : (s.modEngine d e f).store = s.store := rfl
@[simp] theorem State.modEngine_lock (s : State) (d : CtrlId) (e : EngineNo) (f : Engine → Engine) : (s.modEngine d e f).lock = s.lock := rfl
@[simp] theorem State.modEngine_trace (s : State) (d : CtrlId) (e : EngineNo) (f : Engine → Engine) : (s.modEngine d e f).trace = s.trace := rfl
@[simp] theorem State.modEngine_re (s : State) (d : CtrlId) (e : EngineNo) (f : Engine → Engine) : (s.modEngine d e f).re = s.re := rfl
@[simp] theorem State.modEngine_can (s : State) (d : CtrlId) (e : EngineNo) (f : Engine → Engine) : (s.modEngine d e f).can = s.can := rfl
@[simp] theorem State.modEngine_aux (s : State) (d : CtrlId) (e : EngineNo) (f : Engine → Engine) : (s.modEngine d e f).aux = s.aux := rfl
@[simp] theorem State.modEngine_st (s : State) (d : CtrlId) (e : EngineNo) (f : Engine → Engine) : (s.modEngine d e f).st = s.st := rfl

/-! ## modSlot -/

@[simp] theorem State.modSlot_pending (s : State) (d : CtrlId) (c : SlotCode) (f : Slot → Slot) : (s.modSlot d c f).pending = s.pending := rfl
@[simp] theorem State.modSlot_part (s : State) (d : CtrlId) (c : SlotCode) (f : Slot → Slot) : (s.modSlot d c f).part = s.part := rfl
@[simp] theorem State.modSlot_now (s : State) (d : CtrlId) (c : SlotCode) (f : Slot → Slot) : (s.modSlot d c f).now = s.now := rfl
@[simp] theorem State.modSlot_freeCtr (s : State) (d : CtrlId) (c : SlotCode) (f : Slot → Slot) : (s.modSlot d c f).freeCtr = s.freeCtr := rfl
@[simp] theorem State.modSlot_regs (s : State) (d : CtrlId) (c : SlotCode) (f : Slot → Slot) : (s.modSlot d c f).regs = s.regs := rfl
@[simp] theorem State.modSlot_outs (s : State) (d : CtrlId) (c : SlotCode) (f : Slot → Slot) : (s.modSlot d c f).outs = s.outs := rfl
@[simp] theorem State.modSlot_links (s : State) (d : CtrlId) (c : SlotCode) (f : Slot → Slot) : (s.modSlot d c f).links = s.links := rfl
@[simp] theorem State.modSlot_clocks (s : State) (d : CtrlId) (c : SlotCode) (f : Slot → Slot) : (s.modSlot d c f).clocks = s.clocks := rfl
@[simp] theorem State.modSlot_tb (s : State) (d : CtrlId) (c : SlotCode) (f : Slot → Slot) : (s.modSlot d c f).tb = s.tb := rfl
@[simp] theorem State.modSlot_timers (s : State) (d : CtrlId) (c : SlotCode) (f : Slot → Slot) : (s.modSlot d c f).timers = s.timers := rfl
@[simp] theorem State.modSlot_timerReqs (s : State) (d : CtrlId) (c : SlotCode) (f : Slot → Slot) : (s.modSlot d c f).timerReqs = s.timerReqs := rfl
@[simp] theorem State.modSlot_wires (s : State) (d : CtrlId) (c : SlotCode) (f : Slot → Slot) : (s.modSlot d c f).wires = s.wires := rfl
@[simp] theorem State.modSlot_ch (s : State) (d : CtrlId) (c : SlotCode) (f : Slot → Slot) : (s.modSlot d c f).ch = s.ch := rfl
@[simp] theorem State.modSlot_syncOutEnd (s : State) (d : CtrlId) (c : SlotCode) (f : Slot → Slot) : (s.modSlot d c f).syncOutEnd = s.syncOutEnd := rfl
@[simp] theorem State.modSlot_verdicts (s : State) (d : CtrlId) (c : SlotCode) (f : Slot → Slot) : (s.modSlot d c f).verdicts = s.verdicts := rfl
@[simp] theorem State.modSlot_forward (s : State) (d : CtrlId) (c : SlotCode) (f : Slot → Slot) : (s.modSlot d c f).forward = s.forward := rfl
@[simp] theorem State.modSlot_plan (s : State) (d : CtrlId) (c : SlotCode) (f : Slot → Slot) : (s.modSlot d c f).plan = s.plan := rfl
@[simp] theorem State.modSlot_planner (s : State) (d : CtrlId) (c : SlotCode) (f : Slot → Slot) : (s.modSlot d c f).planner = s.planner := rfl
@[simp] theorem State.modSlot_ev (s : State) (d : CtrlId) (c : SlotCode) (f : Slot → Slot) : (s.modSlot d c f).ev = s.ev := rfl
@[simp] theorem State.modSlot_glb (s : State) (d : CtrlId) (c : SlotCode) (f : Slot → Slot) : (s.modSlot d c f).glb = s.glb := rfl
@[simp] theorem State.modSlot_done (s : State) (d : CtrlId) (c : SlotCode) (f : Slot → Slot) : (s.modSlot d c f).done = s.done := rfl
@[simp] theorem State.modSlot_sense (s : State) (d : CtrlId) (c : SlotCode) (f : Slot → Slot) : (s.modSlot d c f).sense = s.sense := rfl
@[simp] theorem State.modSlot_meas (s : State) (d : CtrlId) (c : SlotCode) (f : Slot → Slot) : (s.modSlot d c f).meas = s.meas := rfl
@[simp] theorem State.modSlot_smp (s : State) (d : CtrlId) (c : SlotCode) (f : Slot → Slot) : (s.modSlot d c f).smp = s.smp := rfl
@[simp] theorem State.modSlot_sampleMem (s : State) (d : CtrlId) (c : SlotCode) (f : Slot → Slot) : (s.modSlot d c f).sampleMem = s.sampleMem := rfl
@[simp] theorem State.modSlot_pos (s : State) (d : CtrlId) (c : SlotCode) (f : Slot → Slot) : (s.modSlot d c f).pos = s.pos := rfl
@[simp] theorem State.modSlot_mod (s : State) (d : CtrlId) (c : SlotCode) (f : Slot → Slot) : (s.modSlot d c f).mod = s.mod := rfl
@[simp] theorem State.modSlot_ports (s : State) (d : CtrlId) (c : SlotCode) (f : Slot → Slot) : (s.modSlot d c f).ports = s.ports := rfl
@[simp] theorem State.modSlot_gates (s : State) (d : CtrlId) (c : SlotCode) (f : Slot → Slot) : (s.modSlot d c f).gates = s.gates := rfl
@[simp] theorem State.modSlot_sats (s : State) (d : CtrlId) (c : SlotCode) (f : Slot → Slot) : (s.modSlot d c f).sats = s.sats := rfl
@[simp] theorem State.modSlot_prot (s : State) (d : CtrlId) (c : SlotCode) (f : Slot → Slot) : (s.modSlot d c f).prot = s.prot := rfl
@[simp] theorem State.modSlot_shut (s : State) (d : CtrlId) (c : SlotCode) (f : Slot → Slot) : (s.modSlot d c f).shut = s.shut := rfl
@[simp] theorem State.modSlot_chamois (s : State) (d : CtrlId) (c : SlotCode) (f : Slot → Slot) : (s.modSlot d c f).chamois = s.chamois := rfl
@[simp] theorem State.modSlot_sw (s : State) (d : CtrlId) (c : SlotCode) (f : Slot → Slot) : (s.modSlot d c f).sw = s.sw := rfl
@[simp] theorem State.modSlot_tahr (s : State) (d : CtrlId) (c : SlotCode) (f : Slot → Slot) : (s.modSlot d c f).tahr = s.tahr := rfl
@[simp] theorem State.modSlot_pwr (s : State) (d : CtrlId) (c : SlotCode) (f : Slot → Slot) : (s.modSlot d c f).pwr = s.pwr := rfl
@[simp] theorem State.modSlot_store (s : State) (d : CtrlId) (c : SlotCode) (f : Slot → Slot) : (s.modSlot d c f).store = s.store := rfl
@[simp] theorem State.modSlot_lock (s : State) (d : CtrlId) (c : SlotCode) (f : Slot → Slot) : (s.modSlot d c f).lock = s.lock := rfl
@[simp] theorem State.modSlot_trace (s : State) (d : CtrlId) (c : SlotCode) (f : Slot → Slot) : (s.modSlot d c f).trace = s.trace := rfl
@[simp] theorem State.modSlot_re (s : State) (d : CtrlId) (c : SlotCode) (f : Slot → Slot) : (s.modSlot d c f).re = s.re := rfl
@[simp] theorem State.modSlot_can (s : State) (d : CtrlId) (c : SlotCode) (f : Slot → Slot) : (s.modSlot d c f).can = s.can := rfl
@[simp] theorem State.modSlot_aux (s : State) (d : CtrlId) (c : SlotCode) (f : Slot → Slot) : (s.modSlot d c f).aux = s.aux := rfl
@[simp] theorem State.modSlot_st (s : State) (d : CtrlId) (c : SlotCode) (f : Slot → Slot) : (s.modSlot d c f).st = s.st := rfl

/-! ## setRun -/

@[simp] theorem State.setRun_pending (s : State) (d : CtrlId) (e : EngineNo) (r : Run) : (s.setRun d e r).pending = s.pending := rfl
@[simp] theorem State.setRun_part (s : State) (d : CtrlId) (e : EngineNo) (r : Run) : (s.setRun d e r).part = s.part := rfl
@[simp] theorem State.setRun_now (s : State) (d : CtrlId) (e : EngineNo) (r : Run) : (s.setRun d e r).now = s.now := rfl
@[simp] theorem State.setRun_freeCtr (s : State) (d : CtrlId) (e : EngineNo) (r : Run) : (s.setRun d e r).freeCtr = s.freeCtr := rfl
@[simp] theorem State.setRun_regs (s : State) (d : CtrlId) (e : EngineNo) (r : Run) : (s.setRun d e r).regs = s.regs := rfl
@[simp] theorem State.setRun_outs (s : State) (d : CtrlId) (e : EngineNo) (r : Run) : (s.setRun d e r).outs = s.outs := rfl
@[simp] theorem State.setRun_links (s : State) (d : CtrlId) (e : EngineNo) (r : Run) : (s.setRun d e r).links = s.links := rfl
@[simp] theorem State.setRun_clocks (s : State) (d : CtrlId) (e : EngineNo) (r : Run) : (s.setRun d e r).clocks = s.clocks := rfl
@[simp] theorem State.setRun_tb (s : State) (d : CtrlId) (e : EngineNo) (r : Run) : (s.setRun d e r).tb = s.tb := rfl
@[simp] theorem State.setRun_timers (s : State) (d : CtrlId) (e : EngineNo) (r : Run) : (s.setRun d e r).timers = s.timers := rfl
@[simp] theorem State.setRun_timerReqs (s : State) (d : CtrlId) (e : EngineNo) (r : Run) : (s.setRun d e r).timerReqs = s.timerReqs := rfl
@[simp] theorem State.setRun_wires (s : State) (d : CtrlId) (e : EngineNo) (r : Run) : (s.setRun d e r).wires = s.wires := rfl
@[simp] theorem State.setRun_ch (s : State) (d : CtrlId) (e : EngineNo) (r : Run) : (s.setRun d e r).ch = s.ch := rfl
@[simp] theorem State.setRun_syncOutEnd (s : State) (d : CtrlId) (e : EngineNo) (r : Run) : (s.setRun d e r).syncOutEnd = s.syncOutEnd := rfl
@[simp] theorem State.setRun_verdicts (s : State) (d : CtrlId) (e : EngineNo) (r : Run) : (s.setRun d e r).verdicts = s.verdicts := rfl
@[simp] theorem State.setRun_forward (s : State) (d : CtrlId) (e : EngineNo) (r : Run) : (s.setRun d e r).forward = s.forward := rfl
@[simp] theorem State.setRun_plan (s : State) (d : CtrlId) (e : EngineNo) (r : Run) : (s.setRun d e r).plan = s.plan := rfl
@[simp] theorem State.setRun_planner (s : State) (d : CtrlId) (e : EngineNo) (r : Run) : (s.setRun d e r).planner = s.planner := rfl
@[simp] theorem State.setRun_ev (s : State) (d : CtrlId) (e : EngineNo) (r : Run) : (s.setRun d e r).ev = s.ev := rfl
@[simp] theorem State.setRun_glb (s : State) (d : CtrlId) (e : EngineNo) (r : Run) : (s.setRun d e r).glb = s.glb := rfl
@[simp] theorem State.setRun_done (s : State) (d : CtrlId) (e : EngineNo) (r : Run) : (s.setRun d e r).done = s.done := rfl
@[simp] theorem State.setRun_sense (s : State) (d : CtrlId) (e : EngineNo) (r : Run) : (s.setRun d e r).sense = s.sense := rfl
@[simp] theorem State.setRun_meas (s : State) (d : CtrlId) (e : EngineNo) (r : Run) : (s.setRun d e r).meas = s.meas := rfl
@[simp] theorem State.setRun_smp (s : State) (d : CtrlId) (e : EngineNo) (r : Run) : (s.setRun d e r).smp = s.smp := rfl
@[simp] theorem State.setRun_sampleMem (s : State) (d : CtrlId) (e : EngineNo) (r : Run) : (s.setRun d e r).sampleMem = s.sampleMem := rfl
@[simp] theorem State.setRun_pos (s : State) (d : CtrlId) (e : EngineNo) (r : Run) : (s.setRun d e r).pos = s.pos := rfl
@[simp] theorem State.setRun_mod (s : State) (d : CtrlId) (e : EngineNo) (r : Run) : (s.setRun d e r).mod = s.mod := rfl
@[simp] theorem State.setRun_ports (s : State) (d : CtrlId) (e : EngineNo) (r : Run) : (s.setRun d e r).ports = s.ports := rfl
@[simp] theorem State.setRun_gates (s : State) (d : CtrlId) (e : EngineNo) (r : Run) : (s.setRun d e r).gates = s.gates := rfl
@[simp] theorem State.setRun_sats (s : State) (d : CtrlId) (e : EngineNo) (r : Run) : (s.setRun d e r).sats = s.sats := rfl
@[simp] theorem State.setRun_prot (s : State) (d : CtrlId) (e : EngineNo) (r : Run) : (s.setRun d e r).prot = s.prot := rfl
@[simp] theorem State.setRun_shut (s : State) (d : CtrlId) (e : EngineNo) (r : Run) : (s.setRun d e r).shut = s.shut := rfl
@[simp] theorem State.setRun_chamois (s : State) (d : CtrlId) (e : EngineNo) (r : Run) : (s.setRun d e r).chamois = s.chamois := rfl
@[simp] theorem State.setRun_sw (s : State) (d : CtrlId) (e : EngineNo) (r : Run) : (s.setRun d e r).sw = s.sw := rfl
@[simp] theorem State.setRun_tahr (s : State) (d : CtrlId) (e : EngineNo) (r : Run) : (s.setRun d e r).tahr = s.tahr := rfl
@[simp] theorem State.setRun_pwr (s : State) (d : CtrlId) (e : EngineNo) (r : Run) : (s.setRun d e r).pwr = s.pwr := rfl
@[simp] theorem State.setRun_store (s : State) (d : CtrlId) (e : EngineNo) (r : Run) : (s.setRun d e r).store = s.store := rfl
@[simp] theorem State.setRun_lock (s : State) (d : CtrlId) (e : EngineNo) (r : Run) : (s.setRun d e r).lock = s.lock := rfl
@[simp] theorem State.setRun_trace (s : State) (d : CtrlId) (e : EngineNo) (r : Run) : (s.setRun d e r).trace = s.trace := rfl
@[simp] theorem State.setRun_re (s : State) (d : CtrlId) (e : EngineNo) (r : Run) : (s.setRun d e r).re = s.re := rfl
@[simp] theorem State.setRun_can (s : State) (d : CtrlId) (e : EngineNo) (r : Run) : (s.setRun d e r).can = s.can := rfl
@[simp] theorem State.setRun_aux (s : State) (d : CtrlId) (e : EngineNo) (r : Run) : (s.setRun d e r).aux = s.aux := rfl
@[simp] theorem State.setRun_st (s : State) (d : CtrlId) (e : EngineNo) (r : Run) : (s.setRun d e r).st = s.st := rfl

/-! ## modPlan -/

@[simp] theorem State.modPlan_pending (s : State) (d : CtrlId) (f : PlanDie → PlanDie) : (s.modPlan d f).pending = s.pending := rfl
@[simp] theorem State.modPlan_part (s : State) (d : CtrlId) (f : PlanDie → PlanDie) : (s.modPlan d f).part = s.part := rfl
@[simp] theorem State.modPlan_now (s : State) (d : CtrlId) (f : PlanDie → PlanDie) : (s.modPlan d f).now = s.now := rfl
@[simp] theorem State.modPlan_freeCtr (s : State) (d : CtrlId) (f : PlanDie → PlanDie) : (s.modPlan d f).freeCtr = s.freeCtr := rfl
@[simp] theorem State.modPlan_regs (s : State) (d : CtrlId) (f : PlanDie → PlanDie) : (s.modPlan d f).regs = s.regs := rfl
@[simp] theorem State.modPlan_outs (s : State) (d : CtrlId) (f : PlanDie → PlanDie) : (s.modPlan d f).outs = s.outs := rfl
@[simp] theorem State.modPlan_links (s : State) (d : CtrlId) (f : PlanDie → PlanDie) : (s.modPlan d f).links = s.links := rfl
@[simp] theorem State.modPlan_clocks (s : State) (d : CtrlId) (f : PlanDie → PlanDie) : (s.modPlan d f).clocks = s.clocks := rfl
@[simp] theorem State.modPlan_tb (s : State) (d : CtrlId) (f : PlanDie → PlanDie) : (s.modPlan d f).tb = s.tb := rfl
@[simp] theorem State.modPlan_timers (s : State) (d : CtrlId) (f : PlanDie → PlanDie) : (s.modPlan d f).timers = s.timers := rfl
@[simp] theorem State.modPlan_timerReqs (s : State) (d : CtrlId) (f : PlanDie → PlanDie) : (s.modPlan d f).timerReqs = s.timerReqs := rfl
@[simp] theorem State.modPlan_wires (s : State) (d : CtrlId) (f : PlanDie → PlanDie) : (s.modPlan d f).wires = s.wires := rfl
@[simp] theorem State.modPlan_ch (s : State) (d : CtrlId) (f : PlanDie → PlanDie) : (s.modPlan d f).ch = s.ch := rfl
@[simp] theorem State.modPlan_syncOutEnd (s : State) (d : CtrlId) (f : PlanDie → PlanDie) : (s.modPlan d f).syncOutEnd = s.syncOutEnd := rfl
@[simp] theorem State.modPlan_ctrl (s : State) (d : CtrlId) (f : PlanDie → PlanDie) : (s.modPlan d f).ctrl = s.ctrl := rfl
@[simp] theorem State.modPlan_verdicts (s : State) (d : CtrlId) (f : PlanDie → PlanDie) : (s.modPlan d f).verdicts = s.verdicts := rfl
@[simp] theorem State.modPlan_forward (s : State) (d : CtrlId) (f : PlanDie → PlanDie) : (s.modPlan d f).forward = s.forward := rfl
@[simp] theorem State.modPlan_plan (s : State) (d : CtrlId) (f : PlanDie → PlanDie) : (s.modPlan d f).plan = vUpd s.plan d.ix f := rfl
@[simp] theorem State.modPlan_planner (s : State) (d : CtrlId) (f : PlanDie → PlanDie) : (s.modPlan d f).planner = s.planner := rfl
@[simp] theorem State.modPlan_ev (s : State) (d : CtrlId) (f : PlanDie → PlanDie) : (s.modPlan d f).ev = s.ev := rfl
@[simp] theorem State.modPlan_glb (s : State) (d : CtrlId) (f : PlanDie → PlanDie) : (s.modPlan d f).glb = s.glb := rfl
@[simp] theorem State.modPlan_done (s : State) (d : CtrlId) (f : PlanDie → PlanDie) : (s.modPlan d f).done = s.done := rfl
@[simp] theorem State.modPlan_sense (s : State) (d : CtrlId) (f : PlanDie → PlanDie) : (s.modPlan d f).sense = s.sense := rfl
@[simp] theorem State.modPlan_meas (s : State) (d : CtrlId) (f : PlanDie → PlanDie) : (s.modPlan d f).meas = s.meas := rfl
@[simp] theorem State.modPlan_smp (s : State) (d : CtrlId) (f : PlanDie → PlanDie) : (s.modPlan d f).smp = s.smp := rfl
@[simp] theorem State.modPlan_sampleMem (s : State) (d : CtrlId) (f : PlanDie → PlanDie) : (s.modPlan d f).sampleMem = s.sampleMem := rfl
@[simp] theorem State.modPlan_pos (s : State) (d : CtrlId) (f : PlanDie → PlanDie) : (s.modPlan d f).pos = s.pos := rfl
@[simp] theorem State.modPlan_mod (s : State) (d : CtrlId) (f : PlanDie → PlanDie) : (s.modPlan d f).mod = s.mod := rfl
@[simp] theorem State.modPlan_ports (s : State) (d : CtrlId) (f : PlanDie → PlanDie) : (s.modPlan d f).ports = s.ports := rfl
@[simp] theorem State.modPlan_gates (s : State) (d : CtrlId) (f : PlanDie → PlanDie) : (s.modPlan d f).gates = s.gates := rfl
@[simp] theorem State.modPlan_sats (s : State) (d : CtrlId) (f : PlanDie → PlanDie) : (s.modPlan d f).sats = s.sats := rfl
@[simp] theorem State.modPlan_prot (s : State) (d : CtrlId) (f : PlanDie → PlanDie) : (s.modPlan d f).prot = s.prot := rfl
@[simp] theorem State.modPlan_shut (s : State) (d : CtrlId) (f : PlanDie → PlanDie) : (s.modPlan d f).shut = s.shut := rfl
@[simp] theorem State.modPlan_chamois (s : State) (d : CtrlId) (f : PlanDie → PlanDie) : (s.modPlan d f).chamois = s.chamois := rfl
@[simp] theorem State.modPlan_sw (s : State) (d : CtrlId) (f : PlanDie → PlanDie) : (s.modPlan d f).sw = s.sw := rfl
@[simp] theorem State.modPlan_tahr (s : State) (d : CtrlId) (f : PlanDie → PlanDie) : (s.modPlan d f).tahr = s.tahr := rfl
@[simp] theorem State.modPlan_pwr (s : State) (d : CtrlId) (f : PlanDie → PlanDie) : (s.modPlan d f).pwr = s.pwr := rfl
@[simp] theorem State.modPlan_store (s : State) (d : CtrlId) (f : PlanDie → PlanDie) : (s.modPlan d f).store = s.store := rfl
@[simp] theorem State.modPlan_lock (s : State) (d : CtrlId) (f : PlanDie → PlanDie) : (s.modPlan d f).lock = s.lock := rfl
@[simp] theorem State.modPlan_trace (s : State) (d : CtrlId) (f : PlanDie → PlanDie) : (s.modPlan d f).trace = s.trace := rfl
@[simp] theorem State.modPlan_re (s : State) (d : CtrlId) (f : PlanDie → PlanDie) : (s.modPlan d f).re = s.re := rfl
@[simp] theorem State.modPlan_can (s : State) (d : CtrlId) (f : PlanDie → PlanDie) : (s.modPlan d f).can = s.can := rfl
@[simp] theorem State.modPlan_aux (s : State) (d : CtrlId) (f : PlanDie → PlanDie) : (s.modPlan d f).aux = s.aux := rfl
@[simp] theorem State.modPlan_st (s : State) (d : CtrlId) (f : PlanDie → PlanDie) : (s.modPlan d f).st = s.st := rfl

/-! ## modEv -/

@[simp] theorem State.modEv_pending (s : State) (f : EventUnit → EventUnit) : (s.modEv f).pending = s.pending := rfl
@[simp] theorem State.modEv_part (s : State) (f : EventUnit → EventUnit) : (s.modEv f).part = s.part := rfl
@[simp] theorem State.modEv_now (s : State) (f : EventUnit → EventUnit) : (s.modEv f).now = s.now := rfl
@[simp] theorem State.modEv_freeCtr (s : State) (f : EventUnit → EventUnit) : (s.modEv f).freeCtr = s.freeCtr := rfl
@[simp] theorem State.modEv_regs (s : State) (f : EventUnit → EventUnit) : (s.modEv f).regs = s.regs := rfl
@[simp] theorem State.modEv_outs (s : State) (f : EventUnit → EventUnit) : (s.modEv f).outs = s.outs := rfl
@[simp] theorem State.modEv_links (s : State) (f : EventUnit → EventUnit) : (s.modEv f).links = s.links := rfl
@[simp] theorem State.modEv_clocks (s : State) (f : EventUnit → EventUnit) : (s.modEv f).clocks = s.clocks := rfl
@[simp] theorem State.modEv_tb (s : State) (f : EventUnit → EventUnit) : (s.modEv f).tb = s.tb := rfl
@[simp] theorem State.modEv_timers (s : State) (f : EventUnit → EventUnit) : (s.modEv f).timers = s.timers := rfl
@[simp] theorem State.modEv_timerReqs (s : State) (f : EventUnit → EventUnit) : (s.modEv f).timerReqs = s.timerReqs := rfl
@[simp] theorem State.modEv_wires (s : State) (f : EventUnit → EventUnit) : (s.modEv f).wires = s.wires := rfl
@[simp] theorem State.modEv_ch (s : State) (f : EventUnit → EventUnit) : (s.modEv f).ch = s.ch := rfl
@[simp] theorem State.modEv_syncOutEnd (s : State) (f : EventUnit → EventUnit) : (s.modEv f).syncOutEnd = s.syncOutEnd := rfl
@[simp] theorem State.modEv_ctrl (s : State) (f : EventUnit → EventUnit) : (s.modEv f).ctrl = s.ctrl := rfl
@[simp] theorem State.modEv_verdicts (s : State) (f : EventUnit → EventUnit) : (s.modEv f).verdicts = s.verdicts := rfl
@[simp] theorem State.modEv_forward (s : State) (f : EventUnit → EventUnit) : (s.modEv f).forward = s.forward := rfl
@[simp] theorem State.modEv_plan (s : State) (f : EventUnit → EventUnit) : (s.modEv f).plan = s.plan := rfl
@[simp] theorem State.modEv_planner (s : State) (f : EventUnit → EventUnit) : (s.modEv f).planner = s.planner := rfl
@[simp] theorem State.modEv_ev (s : State) (f : EventUnit → EventUnit) : (s.modEv f).ev = f s.ev := rfl
@[simp] theorem State.modEv_glb (s : State) (f : EventUnit → EventUnit) : (s.modEv f).glb = s.glb := rfl
@[simp] theorem State.modEv_done (s : State) (f : EventUnit → EventUnit) : (s.modEv f).done = s.done := rfl
@[simp] theorem State.modEv_sense (s : State) (f : EventUnit → EventUnit) : (s.modEv f).sense = s.sense := rfl
@[simp] theorem State.modEv_meas (s : State) (f : EventUnit → EventUnit) : (s.modEv f).meas = s.meas := rfl
@[simp] theorem State.modEv_smp (s : State) (f : EventUnit → EventUnit) : (s.modEv f).smp = s.smp := rfl
@[simp] theorem State.modEv_sampleMem (s : State) (f : EventUnit → EventUnit) : (s.modEv f).sampleMem = s.sampleMem := rfl
@[simp] theorem State.modEv_pos (s : State) (f : EventUnit → EventUnit) : (s.modEv f).pos = s.pos := rfl
@[simp] theorem State.modEv_mod (s : State) (f : EventUnit → EventUnit) : (s.modEv f).mod = s.mod := rfl
@[simp] theorem State.modEv_ports (s : State) (f : EventUnit → EventUnit) : (s.modEv f).ports = s.ports := rfl
@[simp] theorem State.modEv_gates (s : State) (f : EventUnit → EventUnit) : (s.modEv f).gates = s.gates := rfl
@[simp] theorem State.modEv_sats (s : State) (f : EventUnit → EventUnit) : (s.modEv f).sats = s.sats := rfl
@[simp] theorem State.modEv_prot (s : State) (f : EventUnit → EventUnit) : (s.modEv f).prot = s.prot := rfl
@[simp] theorem State.modEv_shut (s : State) (f : EventUnit → EventUnit) : (s.modEv f).shut = s.shut := rfl
@[simp] theorem State.modEv_chamois (s : State) (f : EventUnit → EventUnit) : (s.modEv f).chamois = s.chamois := rfl
@[simp] theorem State.modEv_sw (s : State) (f : EventUnit → EventUnit) : (s.modEv f).sw = s.sw := rfl
@[simp] theorem State.modEv_tahr (s : State) (f : EventUnit → EventUnit) : (s.modEv f).tahr = s.tahr := rfl
@[simp] theorem State.modEv_pwr (s : State) (f : EventUnit → EventUnit) : (s.modEv f).pwr = s.pwr := rfl
@[simp] theorem State.modEv_store (s : State) (f : EventUnit → EventUnit) : (s.modEv f).store = s.store := rfl
@[simp] theorem State.modEv_lock (s : State) (f : EventUnit → EventUnit) : (s.modEv f).lock = s.lock := rfl
@[simp] theorem State.modEv_trace (s : State) (f : EventUnit → EventUnit) : (s.modEv f).trace = s.trace := rfl
@[simp] theorem State.modEv_re (s : State) (f : EventUnit → EventUnit) : (s.modEv f).re = s.re := rfl
@[simp] theorem State.modEv_can (s : State) (f : EventUnit → EventUnit) : (s.modEv f).can = s.can := rfl
@[simp] theorem State.modEv_aux (s : State) (f : EventUnit → EventUnit) : (s.modEv f).aux = s.aux := rfl
@[simp] theorem State.modEv_st (s : State) (f : EventUnit → EventUnit) : (s.modEv f).st = s.st := rfl

/-! ## modGlb -/

@[simp] theorem State.modGlb_pending (s : State) (f : GlobalUnit → GlobalUnit) : (s.modGlb f).pending = s.pending := rfl
@[simp] theorem State.modGlb_part (s : State) (f : GlobalUnit → GlobalUnit) : (s.modGlb f).part = s.part := rfl
@[simp] theorem State.modGlb_now (s : State) (f : GlobalUnit → GlobalUnit) : (s.modGlb f).now = s.now := rfl
@[simp] theorem State.modGlb_freeCtr (s : State) (f : GlobalUnit → GlobalUnit) : (s.modGlb f).freeCtr = s.freeCtr := rfl
@[simp] theorem State.modGlb_regs (s : State) (f : GlobalUnit → GlobalUnit) : (s.modGlb f).regs = s.regs := rfl
@[simp] theorem State.modGlb_outs (s : State) (f : GlobalUnit → GlobalUnit) : (s.modGlb f).outs = s.outs := rfl
@[simp] theorem State.modGlb_links (s : State) (f : GlobalUnit → GlobalUnit) : (s.modGlb f).links = s.links := rfl
@[simp] theorem State.modGlb_clocks (s : State) (f : GlobalUnit → GlobalUnit) : (s.modGlb f).clocks = s.clocks := rfl
@[simp] theorem State.modGlb_tb (s : State) (f : GlobalUnit → GlobalUnit) : (s.modGlb f).tb = s.tb := rfl
@[simp] theorem State.modGlb_timers (s : State) (f : GlobalUnit → GlobalUnit) : (s.modGlb f).timers = s.timers := rfl
@[simp] theorem State.modGlb_timerReqs (s : State) (f : GlobalUnit → GlobalUnit) : (s.modGlb f).timerReqs = s.timerReqs := rfl
@[simp] theorem State.modGlb_wires (s : State) (f : GlobalUnit → GlobalUnit) : (s.modGlb f).wires = s.wires := rfl
@[simp] theorem State.modGlb_ch (s : State) (f : GlobalUnit → GlobalUnit) : (s.modGlb f).ch = s.ch := rfl
@[simp] theorem State.modGlb_syncOutEnd (s : State) (f : GlobalUnit → GlobalUnit) : (s.modGlb f).syncOutEnd = s.syncOutEnd := rfl
@[simp] theorem State.modGlb_ctrl (s : State) (f : GlobalUnit → GlobalUnit) : (s.modGlb f).ctrl = s.ctrl := rfl
@[simp] theorem State.modGlb_verdicts (s : State) (f : GlobalUnit → GlobalUnit) : (s.modGlb f).verdicts = s.verdicts := rfl
@[simp] theorem State.modGlb_forward (s : State) (f : GlobalUnit → GlobalUnit) : (s.modGlb f).forward = s.forward := rfl
@[simp] theorem State.modGlb_plan (s : State) (f : GlobalUnit → GlobalUnit) : (s.modGlb f).plan = s.plan := rfl
@[simp] theorem State.modGlb_planner (s : State) (f : GlobalUnit → GlobalUnit) : (s.modGlb f).planner = s.planner := rfl
@[simp] theorem State.modGlb_ev (s : State) (f : GlobalUnit → GlobalUnit) : (s.modGlb f).ev = s.ev := rfl
@[simp] theorem State.modGlb_glb (s : State) (f : GlobalUnit → GlobalUnit) : (s.modGlb f).glb = f s.glb := rfl
@[simp] theorem State.modGlb_done (s : State) (f : GlobalUnit → GlobalUnit) : (s.modGlb f).done = s.done := rfl
@[simp] theorem State.modGlb_sense (s : State) (f : GlobalUnit → GlobalUnit) : (s.modGlb f).sense = s.sense := rfl
@[simp] theorem State.modGlb_meas (s : State) (f : GlobalUnit → GlobalUnit) : (s.modGlb f).meas = s.meas := rfl
@[simp] theorem State.modGlb_smp (s : State) (f : GlobalUnit → GlobalUnit) : (s.modGlb f).smp = s.smp := rfl
@[simp] theorem State.modGlb_sampleMem (s : State) (f : GlobalUnit → GlobalUnit) : (s.modGlb f).sampleMem = s.sampleMem := rfl
@[simp] theorem State.modGlb_pos (s : State) (f : GlobalUnit → GlobalUnit) : (s.modGlb f).pos = s.pos := rfl
@[simp] theorem State.modGlb_mod (s : State) (f : GlobalUnit → GlobalUnit) : (s.modGlb f).mod = s.mod := rfl
@[simp] theorem State.modGlb_ports (s : State) (f : GlobalUnit → GlobalUnit) : (s.modGlb f).ports = s.ports := rfl
@[simp] theorem State.modGlb_gates (s : State) (f : GlobalUnit → GlobalUnit) : (s.modGlb f).gates = s.gates := rfl
@[simp] theorem State.modGlb_sats (s : State) (f : GlobalUnit → GlobalUnit) : (s.modGlb f).sats = s.sats := rfl
@[simp] theorem State.modGlb_prot (s : State) (f : GlobalUnit → GlobalUnit) : (s.modGlb f).prot = s.prot := rfl
@[simp] theorem State.modGlb_shut (s : State) (f : GlobalUnit → GlobalUnit) : (s.modGlb f).shut = s.shut := rfl
@[simp] theorem State.modGlb_chamois (s : State) (f : GlobalUnit → GlobalUnit) : (s.modGlb f).chamois = s.chamois := rfl
@[simp] theorem State.modGlb_sw (s : State) (f : GlobalUnit → GlobalUnit) : (s.modGlb f).sw = s.sw := rfl
@[simp] theorem State.modGlb_tahr (s : State) (f : GlobalUnit → GlobalUnit) : (s.modGlb f).tahr = s.tahr := rfl
@[simp] theorem State.modGlb_pwr (s : State) (f : GlobalUnit → GlobalUnit) : (s.modGlb f).pwr = s.pwr := rfl
@[simp] theorem State.modGlb_store (s : State) (f : GlobalUnit → GlobalUnit) : (s.modGlb f).store = s.store := rfl
@[simp] theorem State.modGlb_lock (s : State) (f : GlobalUnit → GlobalUnit) : (s.modGlb f).lock = s.lock := rfl
@[simp] theorem State.modGlb_trace (s : State) (f : GlobalUnit → GlobalUnit) : (s.modGlb f).trace = s.trace := rfl
@[simp] theorem State.modGlb_re (s : State) (f : GlobalUnit → GlobalUnit) : (s.modGlb f).re = s.re := rfl
@[simp] theorem State.modGlb_can (s : State) (f : GlobalUnit → GlobalUnit) : (s.modGlb f).can = s.can := rfl
@[simp] theorem State.modGlb_aux (s : State) (f : GlobalUnit → GlobalUnit) : (s.modGlb f).aux = s.aux := rfl
@[simp] theorem State.modGlb_st (s : State) (f : GlobalUnit → GlobalUnit) : (s.modGlb f).st = s.st := rfl

/-! ## modSense -/

@[simp] theorem State.modSense_pending (s : State) (i : Fin 2) (f : SenseDie → SenseDie) : (s.modSense i f).pending = s.pending := rfl
@[simp] theorem State.modSense_part (s : State) (i : Fin 2) (f : SenseDie → SenseDie) : (s.modSense i f).part = s.part := rfl
@[simp] theorem State.modSense_now (s : State) (i : Fin 2) (f : SenseDie → SenseDie) : (s.modSense i f).now = s.now := rfl
@[simp] theorem State.modSense_freeCtr (s : State) (i : Fin 2) (f : SenseDie → SenseDie) : (s.modSense i f).freeCtr = s.freeCtr := rfl
@[simp] theorem State.modSense_regs (s : State) (i : Fin 2) (f : SenseDie → SenseDie) : (s.modSense i f).regs = s.regs := rfl
@[simp] theorem State.modSense_outs (s : State) (i : Fin 2) (f : SenseDie → SenseDie) : (s.modSense i f).outs = s.outs := rfl
@[simp] theorem State.modSense_links (s : State) (i : Fin 2) (f : SenseDie → SenseDie) : (s.modSense i f).links = s.links := rfl
@[simp] theorem State.modSense_clocks (s : State) (i : Fin 2) (f : SenseDie → SenseDie) : (s.modSense i f).clocks = s.clocks := rfl
@[simp] theorem State.modSense_tb (s : State) (i : Fin 2) (f : SenseDie → SenseDie) : (s.modSense i f).tb = s.tb := rfl
@[simp] theorem State.modSense_timers (s : State) (i : Fin 2) (f : SenseDie → SenseDie) : (s.modSense i f).timers = s.timers := rfl
@[simp] theorem State.modSense_timerReqs (s : State) (i : Fin 2) (f : SenseDie → SenseDie) : (s.modSense i f).timerReqs = s.timerReqs := rfl
@[simp] theorem State.modSense_wires (s : State) (i : Fin 2) (f : SenseDie → SenseDie) : (s.modSense i f).wires = s.wires := rfl
@[simp] theorem State.modSense_ch (s : State) (i : Fin 2) (f : SenseDie → SenseDie) : (s.modSense i f).ch = s.ch := rfl
@[simp] theorem State.modSense_syncOutEnd (s : State) (i : Fin 2) (f : SenseDie → SenseDie) : (s.modSense i f).syncOutEnd = s.syncOutEnd := rfl
@[simp] theorem State.modSense_ctrl (s : State) (i : Fin 2) (f : SenseDie → SenseDie) : (s.modSense i f).ctrl = s.ctrl := rfl
@[simp] theorem State.modSense_verdicts (s : State) (i : Fin 2) (f : SenseDie → SenseDie) : (s.modSense i f).verdicts = s.verdicts := rfl
@[simp] theorem State.modSense_forward (s : State) (i : Fin 2) (f : SenseDie → SenseDie) : (s.modSense i f).forward = s.forward := rfl
@[simp] theorem State.modSense_plan (s : State) (i : Fin 2) (f : SenseDie → SenseDie) : (s.modSense i f).plan = s.plan := rfl
@[simp] theorem State.modSense_planner (s : State) (i : Fin 2) (f : SenseDie → SenseDie) : (s.modSense i f).planner = s.planner := rfl
@[simp] theorem State.modSense_ev (s : State) (i : Fin 2) (f : SenseDie → SenseDie) : (s.modSense i f).ev = s.ev := rfl
@[simp] theorem State.modSense_glb (s : State) (i : Fin 2) (f : SenseDie → SenseDie) : (s.modSense i f).glb = s.glb := rfl
@[simp] theorem State.modSense_done (s : State) (i : Fin 2) (f : SenseDie → SenseDie) : (s.modSense i f).done = s.done := rfl
@[simp] theorem State.modSense_sense (s : State) (i : Fin 2) (f : SenseDie → SenseDie) : (s.modSense i f).sense = vUpd s.sense i f := rfl
@[simp] theorem State.modSense_meas (s : State) (i : Fin 2) (f : SenseDie → SenseDie) : (s.modSense i f).meas = s.meas := rfl
@[simp] theorem State.modSense_smp (s : State) (i : Fin 2) (f : SenseDie → SenseDie) : (s.modSense i f).smp = s.smp := rfl
@[simp] theorem State.modSense_sampleMem (s : State) (i : Fin 2) (f : SenseDie → SenseDie) : (s.modSense i f).sampleMem = s.sampleMem := rfl
@[simp] theorem State.modSense_pos (s : State) (i : Fin 2) (f : SenseDie → SenseDie) : (s.modSense i f).pos = s.pos := rfl
@[simp] theorem State.modSense_mod (s : State) (i : Fin 2) (f : SenseDie → SenseDie) : (s.modSense i f).mod = s.mod := rfl
@[simp] theorem State.modSense_ports (s : State) (i : Fin 2) (f : SenseDie → SenseDie) : (s.modSense i f).ports = s.ports := rfl
@[simp] theorem State.modSense_gates (s : State) (i : Fin 2) (f : SenseDie → SenseDie) : (s.modSense i f).gates = s.gates := rfl
@[simp] theorem State.modSense_sats (s : State) (i : Fin 2) (f : SenseDie → SenseDie) : (s.modSense i f).sats = s.sats := rfl
@[simp] theorem State.modSense_prot (s : State) (i : Fin 2) (f : SenseDie → SenseDie) : (s.modSense i f).prot = s.prot := rfl
@[simp] theorem State.modSense_shut (s : State) (i : Fin 2) (f : SenseDie → SenseDie) : (s.modSense i f).shut = s.shut := rfl
@[simp] theorem State.modSense_chamois (s : State) (i : Fin 2) (f : SenseDie → SenseDie) : (s.modSense i f).chamois = s.chamois := rfl
@[simp] theorem State.modSense_sw (s : State) (i : Fin 2) (f : SenseDie → SenseDie) : (s.modSense i f).sw = s.sw := rfl
@[simp] theorem State.modSense_tahr (s : State) (i : Fin 2) (f : SenseDie → SenseDie) : (s.modSense i f).tahr = s.tahr := rfl
@[simp] theorem State.modSense_pwr (s : State) (i : Fin 2) (f : SenseDie → SenseDie) : (s.modSense i f).pwr = s.pwr := rfl
@[simp] theorem State.modSense_store (s : State) (i : Fin 2) (f : SenseDie → SenseDie) : (s.modSense i f).store = s.store := rfl
@[simp] theorem State.modSense_lock (s : State) (i : Fin 2) (f : SenseDie → SenseDie) : (s.modSense i f).lock = s.lock := rfl
@[simp] theorem State.modSense_trace (s : State) (i : Fin 2) (f : SenseDie → SenseDie) : (s.modSense i f).trace = s.trace := rfl
@[simp] theorem State.modSense_re (s : State) (i : Fin 2) (f : SenseDie → SenseDie) : (s.modSense i f).re = s.re := rfl
@[simp] theorem State.modSense_can (s : State) (i : Fin 2) (f : SenseDie → SenseDie) : (s.modSense i f).can = s.can := rfl
@[simp] theorem State.modSense_aux (s : State) (i : Fin 2) (f : SenseDie → SenseDie) : (s.modSense i f).aux = s.aux := rfl
@[simp] theorem State.modSense_st (s : State) (i : Fin 2) (f : SenseDie → SenseDie) : (s.modSense i f).st = s.st := rfl

/-! ## modMeas -/

@[simp] theorem State.modMeas_pending (s : State) (i : Channel) (f : ChanSense → ChanSense) : (s.modMeas i f).pending = s.pending := rfl
@[simp] theorem State.modMeas_part (s : State) (i : Channel) (f : ChanSense → ChanSense) : (s.modMeas i f).part = s.part := rfl
@[simp] theorem State.modMeas_now (s : State) (i : Channel) (f : ChanSense → ChanSense) : (s.modMeas i f).now = s.now := rfl
@[simp] theorem State.modMeas_freeCtr (s : State) (i : Channel) (f : ChanSense → ChanSense) : (s.modMeas i f).freeCtr = s.freeCtr := rfl
@[simp] theorem State.modMeas_regs (s : State) (i : Channel) (f : ChanSense → ChanSense) : (s.modMeas i f).regs = s.regs := rfl
@[simp] theorem State.modMeas_outs (s : State) (i : Channel) (f : ChanSense → ChanSense) : (s.modMeas i f).outs = s.outs := rfl
@[simp] theorem State.modMeas_links (s : State) (i : Channel) (f : ChanSense → ChanSense) : (s.modMeas i f).links = s.links := rfl
@[simp] theorem State.modMeas_clocks (s : State) (i : Channel) (f : ChanSense → ChanSense) : (s.modMeas i f).clocks = s.clocks := rfl
@[simp] theorem State.modMeas_tb (s : State) (i : Channel) (f : ChanSense → ChanSense) : (s.modMeas i f).tb = s.tb := rfl
@[simp] theorem State.modMeas_timers (s : State) (i : Channel) (f : ChanSense → ChanSense) : (s.modMeas i f).timers = s.timers := rfl
@[simp] theorem State.modMeas_timerReqs (s : State) (i : Channel) (f : ChanSense → ChanSense) : (s.modMeas i f).timerReqs = s.timerReqs := rfl
@[simp] theorem State.modMeas_wires (s : State) (i : Channel) (f : ChanSense → ChanSense) : (s.modMeas i f).wires = s.wires := rfl
@[simp] theorem State.modMeas_ch (s : State) (i : Channel) (f : ChanSense → ChanSense) : (s.modMeas i f).ch = s.ch := rfl
@[simp] theorem State.modMeas_syncOutEnd (s : State) (i : Channel) (f : ChanSense → ChanSense) : (s.modMeas i f).syncOutEnd = s.syncOutEnd := rfl
@[simp] theorem State.modMeas_ctrl (s : State) (i : Channel) (f : ChanSense → ChanSense) : (s.modMeas i f).ctrl = s.ctrl := rfl
@[simp] theorem State.modMeas_verdicts (s : State) (i : Channel) (f : ChanSense → ChanSense) : (s.modMeas i f).verdicts = s.verdicts := rfl
@[simp] theorem State.modMeas_forward (s : State) (i : Channel) (f : ChanSense → ChanSense) : (s.modMeas i f).forward = s.forward := rfl
@[simp] theorem State.modMeas_plan (s : State) (i : Channel) (f : ChanSense → ChanSense) : (s.modMeas i f).plan = s.plan := rfl
@[simp] theorem State.modMeas_planner (s : State) (i : Channel) (f : ChanSense → ChanSense) : (s.modMeas i f).planner = s.planner := rfl
@[simp] theorem State.modMeas_ev (s : State) (i : Channel) (f : ChanSense → ChanSense) : (s.modMeas i f).ev = s.ev := rfl
@[simp] theorem State.modMeas_glb (s : State) (i : Channel) (f : ChanSense → ChanSense) : (s.modMeas i f).glb = s.glb := rfl
@[simp] theorem State.modMeas_done (s : State) (i : Channel) (f : ChanSense → ChanSense) : (s.modMeas i f).done = s.done := rfl
@[simp] theorem State.modMeas_sense (s : State) (i : Channel) (f : ChanSense → ChanSense) : (s.modMeas i f).sense = s.sense := rfl
@[simp] theorem State.modMeas_meas (s : State) (i : Channel) (f : ChanSense → ChanSense) : (s.modMeas i f).meas = vUpd s.meas i f := rfl
@[simp] theorem State.modMeas_smp (s : State) (i : Channel) (f : ChanSense → ChanSense) : (s.modMeas i f).smp = s.smp := rfl
@[simp] theorem State.modMeas_sampleMem (s : State) (i : Channel) (f : ChanSense → ChanSense) : (s.modMeas i f).sampleMem = s.sampleMem := rfl
@[simp] theorem State.modMeas_pos (s : State) (i : Channel) (f : ChanSense → ChanSense) : (s.modMeas i f).pos = s.pos := rfl
@[simp] theorem State.modMeas_mod (s : State) (i : Channel) (f : ChanSense → ChanSense) : (s.modMeas i f).mod = s.mod := rfl
@[simp] theorem State.modMeas_ports (s : State) (i : Channel) (f : ChanSense → ChanSense) : (s.modMeas i f).ports = s.ports := rfl
@[simp] theorem State.modMeas_gates (s : State) (i : Channel) (f : ChanSense → ChanSense) : (s.modMeas i f).gates = s.gates := rfl
@[simp] theorem State.modMeas_sats (s : State) (i : Channel) (f : ChanSense → ChanSense) : (s.modMeas i f).sats = s.sats := rfl
@[simp] theorem State.modMeas_prot (s : State) (i : Channel) (f : ChanSense → ChanSense) : (s.modMeas i f).prot = s.prot := rfl
@[simp] theorem State.modMeas_shut (s : State) (i : Channel) (f : ChanSense → ChanSense) : (s.modMeas i f).shut = s.shut := rfl
@[simp] theorem State.modMeas_chamois (s : State) (i : Channel) (f : ChanSense → ChanSense) : (s.modMeas i f).chamois = s.chamois := rfl
@[simp] theorem State.modMeas_sw (s : State) (i : Channel) (f : ChanSense → ChanSense) : (s.modMeas i f).sw = s.sw := rfl
@[simp] theorem State.modMeas_tahr (s : State) (i : Channel) (f : ChanSense → ChanSense) : (s.modMeas i f).tahr = s.tahr := rfl
@[simp] theorem State.modMeas_pwr (s : State) (i : Channel) (f : ChanSense → ChanSense) : (s.modMeas i f).pwr = s.pwr := rfl
@[simp] theorem State.modMeas_store (s : State) (i : Channel) (f : ChanSense → ChanSense) : (s.modMeas i f).store = s.store := rfl
@[simp] theorem State.modMeas_lock (s : State) (i : Channel) (f : ChanSense → ChanSense) : (s.modMeas i f).lock = s.lock := rfl
@[simp] theorem State.modMeas_trace (s : State) (i : Channel) (f : ChanSense → ChanSense) : (s.modMeas i f).trace = s.trace := rfl
@[simp] theorem State.modMeas_re (s : State) (i : Channel) (f : ChanSense → ChanSense) : (s.modMeas i f).re = s.re := rfl
@[simp] theorem State.modMeas_can (s : State) (i : Channel) (f : ChanSense → ChanSense) : (s.modMeas i f).can = s.can := rfl
@[simp] theorem State.modMeas_aux (s : State) (i : Channel) (f : ChanSense → ChanSense) : (s.modMeas i f).aux = s.aux := rfl
@[simp] theorem State.modMeas_st (s : State) (i : Channel) (f : ChanSense → ChanSense) : (s.modMeas i f).st = s.st := rfl

/-! ## modSmp -/

@[simp] theorem State.modSmp_pending (s : State) (i : Fin 64) (f : SampleBuffer → SampleBuffer) : (s.modSmp i f).pending = s.pending := rfl
@[simp] theorem State.modSmp_part (s : State) (i : Fin 64) (f : SampleBuffer → SampleBuffer) : (s.modSmp i f).part = s.part := rfl
@[simp] theorem State.modSmp_now (s : State) (i : Fin 64) (f : SampleBuffer → SampleBuffer) : (s.modSmp i f).now = s.now := rfl
@[simp] theorem State.modSmp_freeCtr (s : State) (i : Fin 64) (f : SampleBuffer → SampleBuffer) : (s.modSmp i f).freeCtr = s.freeCtr := rfl
@[simp] theorem State.modSmp_regs (s : State) (i : Fin 64) (f : SampleBuffer → SampleBuffer) : (s.modSmp i f).regs = s.regs := rfl
@[simp] theorem State.modSmp_outs (s : State) (i : Fin 64) (f : SampleBuffer → SampleBuffer) : (s.modSmp i f).outs = s.outs := rfl
@[simp] theorem State.modSmp_links (s : State) (i : Fin 64) (f : SampleBuffer → SampleBuffer) : (s.modSmp i f).links = s.links := rfl
@[simp] theorem State.modSmp_clocks (s : State) (i : Fin 64) (f : SampleBuffer → SampleBuffer) : (s.modSmp i f).clocks = s.clocks := rfl
@[simp] theorem State.modSmp_tb (s : State) (i : Fin 64) (f : SampleBuffer → SampleBuffer) : (s.modSmp i f).tb = s.tb := rfl
@[simp] theorem State.modSmp_timers (s : State) (i : Fin 64) (f : SampleBuffer → SampleBuffer) : (s.modSmp i f).timers = s.timers := rfl
@[simp] theorem State.modSmp_timerReqs (s : State) (i : Fin 64) (f : SampleBuffer → SampleBuffer) : (s.modSmp i f).timerReqs = s.timerReqs := rfl
@[simp] theorem State.modSmp_wires (s : State) (i : Fin 64) (f : SampleBuffer → SampleBuffer) : (s.modSmp i f).wires = s.wires := rfl
@[simp] theorem State.modSmp_ch (s : State) (i : Fin 64) (f : SampleBuffer → SampleBuffer) : (s.modSmp i f).ch = s.ch := rfl
@[simp] theorem State.modSmp_syncOutEnd (s : State) (i : Fin 64) (f : SampleBuffer → SampleBuffer) : (s.modSmp i f).syncOutEnd = s.syncOutEnd := rfl
@[simp] theorem State.modSmp_ctrl (s : State) (i : Fin 64) (f : SampleBuffer → SampleBuffer) : (s.modSmp i f).ctrl = s.ctrl := rfl
@[simp] theorem State.modSmp_verdicts (s : State) (i : Fin 64) (f : SampleBuffer → SampleBuffer) : (s.modSmp i f).verdicts = s.verdicts := rfl
@[simp] theorem State.modSmp_forward (s : State) (i : Fin 64) (f : SampleBuffer → SampleBuffer) : (s.modSmp i f).forward = s.forward := rfl
@[simp] theorem State.modSmp_plan (s : State) (i : Fin 64) (f : SampleBuffer → SampleBuffer) : (s.modSmp i f).plan = s.plan := rfl
@[simp] theorem State.modSmp_planner (s : State) (i : Fin 64) (f : SampleBuffer → SampleBuffer) : (s.modSmp i f).planner = s.planner := rfl
@[simp] theorem State.modSmp_ev (s : State) (i : Fin 64) (f : SampleBuffer → SampleBuffer) : (s.modSmp i f).ev = s.ev := rfl
@[simp] theorem State.modSmp_glb (s : State) (i : Fin 64) (f : SampleBuffer → SampleBuffer) : (s.modSmp i f).glb = s.glb := rfl
@[simp] theorem State.modSmp_done (s : State) (i : Fin 64) (f : SampleBuffer → SampleBuffer) : (s.modSmp i f).done = s.done := rfl
@[simp] theorem State.modSmp_sense (s : State) (i : Fin 64) (f : SampleBuffer → SampleBuffer) : (s.modSmp i f).sense = s.sense := rfl
@[simp] theorem State.modSmp_meas (s : State) (i : Fin 64) (f : SampleBuffer → SampleBuffer) : (s.modSmp i f).meas = s.meas := rfl
@[simp] theorem State.modSmp_smp (s : State) (i : Fin 64) (f : SampleBuffer → SampleBuffer) : (s.modSmp i f).smp = vUpd s.smp i f := rfl
@[simp] theorem State.modSmp_sampleMem (s : State) (i : Fin 64) (f : SampleBuffer → SampleBuffer) : (s.modSmp i f).sampleMem = s.sampleMem := rfl
@[simp] theorem State.modSmp_pos (s : State) (i : Fin 64) (f : SampleBuffer → SampleBuffer) : (s.modSmp i f).pos = s.pos := rfl
@[simp] theorem State.modSmp_mod (s : State) (i : Fin 64) (f : SampleBuffer → SampleBuffer) : (s.modSmp i f).mod = s.mod := rfl
@[simp] theorem State.modSmp_ports (s : State) (i : Fin 64) (f : SampleBuffer → SampleBuffer) : (s.modSmp i f).ports = s.ports := rfl
@[simp] theorem State.modSmp_gates (s : State) (i : Fin 64) (f : SampleBuffer → SampleBuffer) : (s.modSmp i f).gates = s.gates := rfl
@[simp] theorem State.modSmp_sats (s : State) (i : Fin 64) (f : SampleBuffer → SampleBuffer) : (s.modSmp i f).sats = s.sats := rfl
@[simp] theorem State.modSmp_prot (s : State) (i : Fin 64) (f : SampleBuffer → SampleBuffer) : (s.modSmp i f).prot = s.prot := rfl
@[simp] theorem State.modSmp_shut (s : State) (i : Fin 64) (f : SampleBuffer → SampleBuffer) : (s.modSmp i f).shut = s.shut := rfl
@[simp] theorem State.modSmp_chamois (s : State) (i : Fin 64) (f : SampleBuffer → SampleBuffer) : (s.modSmp i f).chamois = s.chamois := rfl
@[simp] theorem State.modSmp_sw (s : State) (i : Fin 64) (f : SampleBuffer → SampleBuffer) : (s.modSmp i f).sw = s.sw := rfl
@[simp] theorem State.modSmp_tahr (s : State) (i : Fin 64) (f : SampleBuffer → SampleBuffer) : (s.modSmp i f).tahr = s.tahr := rfl
@[simp] theorem State.modSmp_pwr (s : State) (i : Fin 64) (f : SampleBuffer → SampleBuffer) : (s.modSmp i f).pwr = s.pwr := rfl
@[simp] theorem State.modSmp_store (s : State) (i : Fin 64) (f : SampleBuffer → SampleBuffer) : (s.modSmp i f).store = s.store := rfl
@[simp] theorem State.modSmp_lock (s : State) (i : Fin 64) (f : SampleBuffer → SampleBuffer) : (s.modSmp i f).lock = s.lock := rfl
@[simp] theorem State.modSmp_trace (s : State) (i : Fin 64) (f : SampleBuffer → SampleBuffer) : (s.modSmp i f).trace = s.trace := rfl
@[simp] theorem State.modSmp_re (s : State) (i : Fin 64) (f : SampleBuffer → SampleBuffer) : (s.modSmp i f).re = s.re := rfl
@[simp] theorem State.modSmp_can (s : State) (i : Fin 64) (f : SampleBuffer → SampleBuffer) : (s.modSmp i f).can = s.can := rfl
@[simp] theorem State.modSmp_aux (s : State) (i : Fin 64) (f : SampleBuffer → SampleBuffer) : (s.modSmp i f).aux = s.aux := rfl
@[simp] theorem State.modSmp_st (s : State) (i : Fin 64) (f : SampleBuffer → SampleBuffer) : (s.modSmp i f).st = s.st := rfl

/-! ## modPos -/

@[simp] theorem State.modPos_pending (s : State) (i : Fin 2) (f : PosDie → PosDie) : (s.modPos i f).pending = s.pending := rfl
@[simp] theorem State.modPos_part (s : State) (i : Fin 2) (f : PosDie → PosDie) : (s.modPos i f).part = s.part := rfl
@[simp] theorem State.modPos_now (s : State) (i : Fin 2) (f : PosDie → PosDie) : (s.modPos i f).now = s.now := rfl
@[simp] theorem State.modPos_freeCtr (s : State) (i : Fin 2) (f : PosDie → PosDie) : (s.modPos i f).freeCtr = s.freeCtr := rfl
@[simp] theorem State.modPos_regs (s : State) (i : Fin 2) (f : PosDie → PosDie) : (s.modPos i f).regs = s.regs := rfl
@[simp] theorem State.modPos_outs (s : State) (i : Fin 2) (f : PosDie → PosDie) : (s.modPos i f).outs = s.outs := rfl
@[simp] theorem State.modPos_links (s : State) (i : Fin 2) (f : PosDie → PosDie) : (s.modPos i f).links = s.links := rfl
@[simp] theorem State.modPos_clocks (s : State) (i : Fin 2) (f : PosDie → PosDie) : (s.modPos i f).clocks = s.clocks := rfl
@[simp] theorem State.modPos_tb (s : State) (i : Fin 2) (f : PosDie → PosDie) : (s.modPos i f).tb = s.tb := rfl
@[simp] theorem State.modPos_timers (s : State) (i : Fin 2) (f : PosDie → PosDie) : (s.modPos i f).timers = s.timers := rfl
@[simp] theorem State.modPos_timerReqs (s : State) (i : Fin 2) (f : PosDie → PosDie) : (s.modPos i f).timerReqs = s.timerReqs := rfl
@[simp] theorem State.modPos_wires (s : State) (i : Fin 2) (f : PosDie → PosDie) : (s.modPos i f).wires = s.wires := rfl
@[simp] theorem State.modPos_ch (s : State) (i : Fin 2) (f : PosDie → PosDie) : (s.modPos i f).ch = s.ch := rfl
@[simp] theorem State.modPos_syncOutEnd (s : State) (i : Fin 2) (f : PosDie → PosDie) : (s.modPos i f).syncOutEnd = s.syncOutEnd := rfl
@[simp] theorem State.modPos_ctrl (s : State) (i : Fin 2) (f : PosDie → PosDie) : (s.modPos i f).ctrl = s.ctrl := rfl
@[simp] theorem State.modPos_verdicts (s : State) (i : Fin 2) (f : PosDie → PosDie) : (s.modPos i f).verdicts = s.verdicts := rfl
@[simp] theorem State.modPos_forward (s : State) (i : Fin 2) (f : PosDie → PosDie) : (s.modPos i f).forward = s.forward := rfl
@[simp] theorem State.modPos_plan (s : State) (i : Fin 2) (f : PosDie → PosDie) : (s.modPos i f).plan = s.plan := rfl
@[simp] theorem State.modPos_planner (s : State) (i : Fin 2) (f : PosDie → PosDie) : (s.modPos i f).planner = s.planner := rfl
@[simp] theorem State.modPos_ev (s : State) (i : Fin 2) (f : PosDie → PosDie) : (s.modPos i f).ev = s.ev := rfl
@[simp] theorem State.modPos_glb (s : State) (i : Fin 2) (f : PosDie → PosDie) : (s.modPos i f).glb = s.glb := rfl
@[simp] theorem State.modPos_done (s : State) (i : Fin 2) (f : PosDie → PosDie) : (s.modPos i f).done = s.done := rfl
@[simp] theorem State.modPos_sense (s : State) (i : Fin 2) (f : PosDie → PosDie) : (s.modPos i f).sense = s.sense := rfl
@[simp] theorem State.modPos_meas (s : State) (i : Fin 2) (f : PosDie → PosDie) : (s.modPos i f).meas = s.meas := rfl
@[simp] theorem State.modPos_smp (s : State) (i : Fin 2) (f : PosDie → PosDie) : (s.modPos i f).smp = s.smp := rfl
@[simp] theorem State.modPos_sampleMem (s : State) (i : Fin 2) (f : PosDie → PosDie) : (s.modPos i f).sampleMem = s.sampleMem := rfl
@[simp] theorem State.modPos_pos (s : State) (i : Fin 2) (f : PosDie → PosDie) : (s.modPos i f).pos = vUpd s.pos i f := rfl
@[simp] theorem State.modPos_mod (s : State) (i : Fin 2) (f : PosDie → PosDie) : (s.modPos i f).mod = s.mod := rfl
@[simp] theorem State.modPos_ports (s : State) (i : Fin 2) (f : PosDie → PosDie) : (s.modPos i f).ports = s.ports := rfl
@[simp] theorem State.modPos_gates (s : State) (i : Fin 2) (f : PosDie → PosDie) : (s.modPos i f).gates = s.gates := rfl
@[simp] theorem State.modPos_sats (s : State) (i : Fin 2) (f : PosDie → PosDie) : (s.modPos i f).sats = s.sats := rfl
@[simp] theorem State.modPos_prot (s : State) (i : Fin 2) (f : PosDie → PosDie) : (s.modPos i f).prot = s.prot := rfl
@[simp] theorem State.modPos_shut (s : State) (i : Fin 2) (f : PosDie → PosDie) : (s.modPos i f).shut = s.shut := rfl
@[simp] theorem State.modPos_chamois (s : State) (i : Fin 2) (f : PosDie → PosDie) : (s.modPos i f).chamois = s.chamois := rfl
@[simp] theorem State.modPos_sw (s : State) (i : Fin 2) (f : PosDie → PosDie) : (s.modPos i f).sw = s.sw := rfl
@[simp] theorem State.modPos_tahr (s : State) (i : Fin 2) (f : PosDie → PosDie) : (s.modPos i f).tahr = s.tahr := rfl
@[simp] theorem State.modPos_pwr (s : State) (i : Fin 2) (f : PosDie → PosDie) : (s.modPos i f).pwr = s.pwr := rfl
@[simp] theorem State.modPos_store (s : State) (i : Fin 2) (f : PosDie → PosDie) : (s.modPos i f).store = s.store := rfl
@[simp] theorem State.modPos_lock (s : State) (i : Fin 2) (f : PosDie → PosDie) : (s.modPos i f).lock = s.lock := rfl
@[simp] theorem State.modPos_trace (s : State) (i : Fin 2) (f : PosDie → PosDie) : (s.modPos i f).trace = s.trace := rfl
@[simp] theorem State.modPos_re (s : State) (i : Fin 2) (f : PosDie → PosDie) : (s.modPos i f).re = s.re := rfl
@[simp] theorem State.modPos_can (s : State) (i : Fin 2) (f : PosDie → PosDie) : (s.modPos i f).can = s.can := rfl
@[simp] theorem State.modPos_aux (s : State) (i : Fin 2) (f : PosDie → PosDie) : (s.modPos i f).aux = s.aux := rfl
@[simp] theorem State.modPos_st (s : State) (i : Fin 2) (f : PosDie → PosDie) : (s.modPos i f).st = s.st := rfl

/-! ## modMod -/

@[simp] theorem State.modMod_pending (s : State) (i : Channel) (f : Modulator → Modulator) : (s.modMod i f).pending = s.pending := rfl
@[simp] theorem State.modMod_part (s : State) (i : Channel) (f : Modulator → Modulator) : (s.modMod i f).part = s.part := rfl
@[simp] theorem State.modMod_now (s : State) (i : Channel) (f : Modulator → Modulator) : (s.modMod i f).now = s.now := rfl
@[simp] theorem State.modMod_freeCtr (s : State) (i : Channel) (f : Modulator → Modulator) : (s.modMod i f).freeCtr = s.freeCtr := rfl
@[simp] theorem State.modMod_regs (s : State) (i : Channel) (f : Modulator → Modulator) : (s.modMod i f).regs = s.regs := rfl
@[simp] theorem State.modMod_outs (s : State) (i : Channel) (f : Modulator → Modulator) : (s.modMod i f).outs = s.outs := rfl
@[simp] theorem State.modMod_links (s : State) (i : Channel) (f : Modulator → Modulator) : (s.modMod i f).links = s.links := rfl
@[simp] theorem State.modMod_clocks (s : State) (i : Channel) (f : Modulator → Modulator) : (s.modMod i f).clocks = s.clocks := rfl
@[simp] theorem State.modMod_tb (s : State) (i : Channel) (f : Modulator → Modulator) : (s.modMod i f).tb = s.tb := rfl
@[simp] theorem State.modMod_timers (s : State) (i : Channel) (f : Modulator → Modulator) : (s.modMod i f).timers = s.timers := rfl
@[simp] theorem State.modMod_timerReqs (s : State) (i : Channel) (f : Modulator → Modulator) : (s.modMod i f).timerReqs = s.timerReqs := rfl
@[simp] theorem State.modMod_wires (s : State) (i : Channel) (f : Modulator → Modulator) : (s.modMod i f).wires = s.wires := rfl
@[simp] theorem State.modMod_ch (s : State) (i : Channel) (f : Modulator → Modulator) : (s.modMod i f).ch = s.ch := rfl
@[simp] theorem State.modMod_syncOutEnd (s : State) (i : Channel) (f : Modulator → Modulator) : (s.modMod i f).syncOutEnd = s.syncOutEnd := rfl
@[simp] theorem State.modMod_ctrl (s : State) (i : Channel) (f : Modulator → Modulator) : (s.modMod i f).ctrl = s.ctrl := rfl
@[simp] theorem State.modMod_verdicts (s : State) (i : Channel) (f : Modulator → Modulator) : (s.modMod i f).verdicts = s.verdicts := rfl
@[simp] theorem State.modMod_forward (s : State) (i : Channel) (f : Modulator → Modulator) : (s.modMod i f).forward = s.forward := rfl
@[simp] theorem State.modMod_plan (s : State) (i : Channel) (f : Modulator → Modulator) : (s.modMod i f).plan = s.plan := rfl
@[simp] theorem State.modMod_planner (s : State) (i : Channel) (f : Modulator → Modulator) : (s.modMod i f).planner = s.planner := rfl
@[simp] theorem State.modMod_ev (s : State) (i : Channel) (f : Modulator → Modulator) : (s.modMod i f).ev = s.ev := rfl
@[simp] theorem State.modMod_glb (s : State) (i : Channel) (f : Modulator → Modulator) : (s.modMod i f).glb = s.glb := rfl
@[simp] theorem State.modMod_done (s : State) (i : Channel) (f : Modulator → Modulator) : (s.modMod i f).done = s.done := rfl
@[simp] theorem State.modMod_sense (s : State) (i : Channel) (f : Modulator → Modulator) : (s.modMod i f).sense = s.sense := rfl
@[simp] theorem State.modMod_meas (s : State) (i : Channel) (f : Modulator → Modulator) : (s.modMod i f).meas = s.meas := rfl
@[simp] theorem State.modMod_smp (s : State) (i : Channel) (f : Modulator → Modulator) : (s.modMod i f).smp = s.smp := rfl
@[simp] theorem State.modMod_sampleMem (s : State) (i : Channel) (f : Modulator → Modulator) : (s.modMod i f).sampleMem = s.sampleMem := rfl
@[simp] theorem State.modMod_pos (s : State) (i : Channel) (f : Modulator → Modulator) : (s.modMod i f).pos = s.pos := rfl
@[simp] theorem State.modMod_mod (s : State) (i : Channel) (f : Modulator → Modulator) : (s.modMod i f).mod = vUpd s.mod i f := rfl
@[simp] theorem State.modMod_ports (s : State) (i : Channel) (f : Modulator → Modulator) : (s.modMod i f).ports = s.ports := rfl
@[simp] theorem State.modMod_gates (s : State) (i : Channel) (f : Modulator → Modulator) : (s.modMod i f).gates = s.gates := rfl
@[simp] theorem State.modMod_sats (s : State) (i : Channel) (f : Modulator → Modulator) : (s.modMod i f).sats = s.sats := rfl
@[simp] theorem State.modMod_prot (s : State) (i : Channel) (f : Modulator → Modulator) : (s.modMod i f).prot = s.prot := rfl
@[simp] theorem State.modMod_shut (s : State) (i : Channel) (f : Modulator → Modulator) : (s.modMod i f).shut = s.shut := rfl
@[simp] theorem State.modMod_chamois (s : State) (i : Channel) (f : Modulator → Modulator) : (s.modMod i f).chamois = s.chamois := rfl
@[simp] theorem State.modMod_sw (s : State) (i : Channel) (f : Modulator → Modulator) : (s.modMod i f).sw = s.sw := rfl
@[simp] theorem State.modMod_tahr (s : State) (i : Channel) (f : Modulator → Modulator) : (s.modMod i f).tahr = s.tahr := rfl
@[simp] theorem State.modMod_pwr (s : State) (i : Channel) (f : Modulator → Modulator) : (s.modMod i f).pwr = s.pwr := rfl
@[simp] theorem State.modMod_store (s : State) (i : Channel) (f : Modulator → Modulator) : (s.modMod i f).store = s.store := rfl
@[simp] theorem State.modMod_lock (s : State) (i : Channel) (f : Modulator → Modulator) : (s.modMod i f).lock = s.lock := rfl
@[simp] theorem State.modMod_trace (s : State) (i : Channel) (f : Modulator → Modulator) : (s.modMod i f).trace = s.trace := rfl
@[simp] theorem State.modMod_re (s : State) (i : Channel) (f : Modulator → Modulator) : (s.modMod i f).re = s.re := rfl
@[simp] theorem State.modMod_can (s : State) (i : Channel) (f : Modulator → Modulator) : (s.modMod i f).can = s.can := rfl
@[simp] theorem State.modMod_aux (s : State) (i : Channel) (f : Modulator → Modulator) : (s.modMod i f).aux = s.aux := rfl
@[simp] theorem State.modMod_st (s : State) (i : Channel) (f : Modulator → Modulator) : (s.modMod i f).st = s.st := rfl

/-! ## modPort -/

@[simp] theorem State.modPort_pending (s : State) (i : Port) (f : TpPort → TpPort) : (s.modPort i f).pending = s.pending := rfl
@[simp] theorem State.modPort_part (s : State) (i : Port) (f : TpPort → TpPort) : (s.modPort i f).part = s.part := rfl
@[simp] theorem State.modPort_now (s : State) (i : Port) (f : TpPort → TpPort) : (s.modPort i f).now = s.now := rfl
@[simp] theorem State.modPort_freeCtr (s : State) (i : Port) (f : TpPort → TpPort) : (s.modPort i f).freeCtr = s.freeCtr := rfl
@[simp] theorem State.modPort_regs (s : State) (i : Port) (f : TpPort → TpPort) : (s.modPort i f).regs = s.regs := rfl
@[simp] theorem State.modPort_outs (s : State) (i : Port) (f : TpPort → TpPort) : (s.modPort i f).outs = s.outs := rfl
@[simp] theorem State.modPort_links (s : State) (i : Port) (f : TpPort → TpPort) : (s.modPort i f).links = s.links := rfl
@[simp] theorem State.modPort_clocks (s : State) (i : Port) (f : TpPort → TpPort) : (s.modPort i f).clocks = s.clocks := rfl
@[simp] theorem State.modPort_tb (s : State) (i : Port) (f : TpPort → TpPort) : (s.modPort i f).tb = s.tb := rfl
@[simp] theorem State.modPort_timers (s : State) (i : Port) (f : TpPort → TpPort) : (s.modPort i f).timers = s.timers := rfl
@[simp] theorem State.modPort_timerReqs (s : State) (i : Port) (f : TpPort → TpPort) : (s.modPort i f).timerReqs = s.timerReqs := rfl
@[simp] theorem State.modPort_wires (s : State) (i : Port) (f : TpPort → TpPort) : (s.modPort i f).wires = s.wires := rfl
@[simp] theorem State.modPort_ch (s : State) (i : Port) (f : TpPort → TpPort) : (s.modPort i f).ch = s.ch := rfl
@[simp] theorem State.modPort_syncOutEnd (s : State) (i : Port) (f : TpPort → TpPort) : (s.modPort i f).syncOutEnd = s.syncOutEnd := rfl
@[simp] theorem State.modPort_ctrl (s : State) (i : Port) (f : TpPort → TpPort) : (s.modPort i f).ctrl = s.ctrl := rfl
@[simp] theorem State.modPort_verdicts (s : State) (i : Port) (f : TpPort → TpPort) : (s.modPort i f).verdicts = s.verdicts := rfl
@[simp] theorem State.modPort_forward (s : State) (i : Port) (f : TpPort → TpPort) : (s.modPort i f).forward = s.forward := rfl
@[simp] theorem State.modPort_plan (s : State) (i : Port) (f : TpPort → TpPort) : (s.modPort i f).plan = s.plan := rfl
@[simp] theorem State.modPort_planner (s : State) (i : Port) (f : TpPort → TpPort) : (s.modPort i f).planner = s.planner := rfl
@[simp] theorem State.modPort_ev (s : State) (i : Port) (f : TpPort → TpPort) : (s.modPort i f).ev = s.ev := rfl
@[simp] theorem State.modPort_glb (s : State) (i : Port) (f : TpPort → TpPort) : (s.modPort i f).glb = s.glb := rfl
@[simp] theorem State.modPort_done (s : State) (i : Port) (f : TpPort → TpPort) : (s.modPort i f).done = s.done := rfl
@[simp] theorem State.modPort_sense (s : State) (i : Port) (f : TpPort → TpPort) : (s.modPort i f).sense = s.sense := rfl
@[simp] theorem State.modPort_meas (s : State) (i : Port) (f : TpPort → TpPort) : (s.modPort i f).meas = s.meas := rfl
@[simp] theorem State.modPort_smp (s : State) (i : Port) (f : TpPort → TpPort) : (s.modPort i f).smp = s.smp := rfl
@[simp] theorem State.modPort_sampleMem (s : State) (i : Port) (f : TpPort → TpPort) : (s.modPort i f).sampleMem = s.sampleMem := rfl
@[simp] theorem State.modPort_pos (s : State) (i : Port) (f : TpPort → TpPort) : (s.modPort i f).pos = s.pos := rfl
@[simp] theorem State.modPort_mod (s : State) (i : Port) (f : TpPort → TpPort) : (s.modPort i f).mod = s.mod := rfl
@[simp] theorem State.modPort_ports (s : State) (i : Port) (f : TpPort → TpPort) : (s.modPort i f).ports = vUpd s.ports i f := rfl
@[simp] theorem State.modPort_gates (s : State) (i : Port) (f : TpPort → TpPort) : (s.modPort i f).gates = s.gates := rfl
@[simp] theorem State.modPort_sats (s : State) (i : Port) (f : TpPort → TpPort) : (s.modPort i f).sats = s.sats := rfl
@[simp] theorem State.modPort_prot (s : State) (i : Port) (f : TpPort → TpPort) : (s.modPort i f).prot = s.prot := rfl
@[simp] theorem State.modPort_shut (s : State) (i : Port) (f : TpPort → TpPort) : (s.modPort i f).shut = s.shut := rfl
@[simp] theorem State.modPort_chamois (s : State) (i : Port) (f : TpPort → TpPort) : (s.modPort i f).chamois = s.chamois := rfl
@[simp] theorem State.modPort_sw (s : State) (i : Port) (f : TpPort → TpPort) : (s.modPort i f).sw = s.sw := rfl
@[simp] theorem State.modPort_tahr (s : State) (i : Port) (f : TpPort → TpPort) : (s.modPort i f).tahr = s.tahr := rfl
@[simp] theorem State.modPort_pwr (s : State) (i : Port) (f : TpPort → TpPort) : (s.modPort i f).pwr = s.pwr := rfl
@[simp] theorem State.modPort_store (s : State) (i : Port) (f : TpPort → TpPort) : (s.modPort i f).store = s.store := rfl
@[simp] theorem State.modPort_lock (s : State) (i : Port) (f : TpPort → TpPort) : (s.modPort i f).lock = s.lock := rfl
@[simp] theorem State.modPort_trace (s : State) (i : Port) (f : TpPort → TpPort) : (s.modPort i f).trace = s.trace := rfl
@[simp] theorem State.modPort_re (s : State) (i : Port) (f : TpPort → TpPort) : (s.modPort i f).re = s.re := rfl
@[simp] theorem State.modPort_can (s : State) (i : Port) (f : TpPort → TpPort) : (s.modPort i f).can = s.can := rfl
@[simp] theorem State.modPort_aux (s : State) (i : Port) (f : TpPort → TpPort) : (s.modPort i f).aux = s.aux := rfl
@[simp] theorem State.modPort_st (s : State) (i : Port) (f : TpPort → TpPort) : (s.modPort i f).st = s.st := rfl

/-! ## modGate -/

@[simp] theorem State.modGate_pending (s : State) (i : Port) (f : GatePos → GatePos) : (s.modGate i f).pending = s.pending := rfl
@[simp] theorem State.modGate_part (s : State) (i : Port) (f : GatePos → GatePos) : (s.modGate i f).part = s.part := rfl
@[simp] theorem State.modGate_now (s : State) (i : Port) (f : GatePos → GatePos) : (s.modGate i f).now = s.now := rfl
@[simp] theorem State.modGate_freeCtr (s : State) (i : Port) (f : GatePos → GatePos) : (s.modGate i f).freeCtr = s.freeCtr := rfl
@[simp] theorem State.modGate_regs (s : State) (i : Port) (f : GatePos → GatePos) : (s.modGate i f).regs = s.regs := rfl
@[simp] theorem State.modGate_outs (s : State) (i : Port) (f : GatePos → GatePos) : (s.modGate i f).outs = s.outs := rfl
@[simp] theorem State.modGate_links (s : State) (i : Port) (f : GatePos → GatePos) : (s.modGate i f).links = s.links := rfl
@[simp] theorem State.modGate_clocks (s : State) (i : Port) (f : GatePos → GatePos) : (s.modGate i f).clocks = s.clocks := rfl
@[simp] theorem State.modGate_tb (s : State) (i : Port) (f : GatePos → GatePos) : (s.modGate i f).tb = s.tb := rfl
@[simp] theorem State.modGate_timers (s : State) (i : Port) (f : GatePos → GatePos) : (s.modGate i f).timers = s.timers := rfl
@[simp] theorem State.modGate_timerReqs (s : State) (i : Port) (f : GatePos → GatePos) : (s.modGate i f).timerReqs = s.timerReqs := rfl
@[simp] theorem State.modGate_wires (s : State) (i : Port) (f : GatePos → GatePos) : (s.modGate i f).wires = s.wires := rfl
@[simp] theorem State.modGate_ch (s : State) (i : Port) (f : GatePos → GatePos) : (s.modGate i f).ch = s.ch := rfl
@[simp] theorem State.modGate_syncOutEnd (s : State) (i : Port) (f : GatePos → GatePos) : (s.modGate i f).syncOutEnd = s.syncOutEnd := rfl
@[simp] theorem State.modGate_ctrl (s : State) (i : Port) (f : GatePos → GatePos) : (s.modGate i f).ctrl = s.ctrl := rfl
@[simp] theorem State.modGate_verdicts (s : State) (i : Port) (f : GatePos → GatePos) : (s.modGate i f).verdicts = s.verdicts := rfl
@[simp] theorem State.modGate_forward (s : State) (i : Port) (f : GatePos → GatePos) : (s.modGate i f).forward = s.forward := rfl
@[simp] theorem State.modGate_plan (s : State) (i : Port) (f : GatePos → GatePos) : (s.modGate i f).plan = s.plan := rfl
@[simp] theorem State.modGate_planner (s : State) (i : Port) (f : GatePos → GatePos) : (s.modGate i f).planner = s.planner := rfl
@[simp] theorem State.modGate_ev (s : State) (i : Port) (f : GatePos → GatePos) : (s.modGate i f).ev = s.ev := rfl
@[simp] theorem State.modGate_glb (s : State) (i : Port) (f : GatePos → GatePos) : (s.modGate i f).glb = s.glb := rfl
@[simp] theorem State.modGate_done (s : State) (i : Port) (f : GatePos → GatePos) : (s.modGate i f).done = s.done := rfl
@[simp] theorem State.modGate_sense (s : State) (i : Port) (f : GatePos → GatePos) : (s.modGate i f).sense = s.sense := rfl
@[simp] theorem State.modGate_meas (s : State) (i : Port) (f : GatePos → GatePos) : (s.modGate i f).meas = s.meas := rfl
@[simp] theorem State.modGate_smp (s : State) (i : Port) (f : GatePos → GatePos) : (s.modGate i f).smp = s.smp := rfl
@[simp] theorem State.modGate_sampleMem (s : State) (i : Port) (f : GatePos → GatePos) : (s.modGate i f).sampleMem = s.sampleMem := rfl
@[simp] theorem State.modGate_pos (s : State) (i : Port) (f : GatePos → GatePos) : (s.modGate i f).pos = s.pos := rfl
@[simp] theorem State.modGate_mod (s : State) (i : Port) (f : GatePos → GatePos) : (s.modGate i f).mod = s.mod := rfl
@[simp] theorem State.modGate_ports (s : State) (i : Port) (f : GatePos → GatePos) : (s.modGate i f).ports = s.ports := rfl
@[simp] theorem State.modGate_gates (s : State) (i : Port) (f : GatePos → GatePos) : (s.modGate i f).gates = vUpd s.gates i f := rfl
@[simp] theorem State.modGate_sats (s : State) (i : Port) (f : GatePos → GatePos) : (s.modGate i f).sats = s.sats := rfl
@[simp] theorem State.modGate_prot (s : State) (i : Port) (f : GatePos → GatePos) : (s.modGate i f).prot = s.prot := rfl
@[simp] theorem State.modGate_shut (s : State) (i : Port) (f : GatePos → GatePos) : (s.modGate i f).shut = s.shut := rfl
@[simp] theorem State.modGate_chamois (s : State) (i : Port) (f : GatePos → GatePos) : (s.modGate i f).chamois = s.chamois := rfl
@[simp] theorem State.modGate_sw (s : State) (i : Port) (f : GatePos → GatePos) : (s.modGate i f).sw = s.sw := rfl
@[simp] theorem State.modGate_tahr (s : State) (i : Port) (f : GatePos → GatePos) : (s.modGate i f).tahr = s.tahr := rfl
@[simp] theorem State.modGate_pwr (s : State) (i : Port) (f : GatePos → GatePos) : (s.modGate i f).pwr = s.pwr := rfl
@[simp] theorem State.modGate_store (s : State) (i : Port) (f : GatePos → GatePos) : (s.modGate i f).store = s.store := rfl
@[simp] theorem State.modGate_lock (s : State) (i : Port) (f : GatePos → GatePos) : (s.modGate i f).lock = s.lock := rfl
@[simp] theorem State.modGate_trace (s : State) (i : Port) (f : GatePos → GatePos) : (s.modGate i f).trace = s.trace := rfl
@[simp] theorem State.modGate_re (s : State) (i : Port) (f : GatePos → GatePos) : (s.modGate i f).re = s.re := rfl
@[simp] theorem State.modGate_can (s : State) (i : Port) (f : GatePos → GatePos) : (s.modGate i f).can = s.can := rfl
@[simp] theorem State.modGate_aux (s : State) (i : Port) (f : GatePos → GatePos) : (s.modGate i f).aux = s.aux := rfl
@[simp] theorem State.modGate_st (s : State) (i : Port) (f : GatePos → GatePos) : (s.modGate i f).st = s.st := rfl

/-! ## modSat -/

@[simp] theorem State.modSat_pending (s : State) (i : Port) (f : Satellite → Satellite) : (s.modSat i f).pending = s.pending := rfl
@[simp] theorem State.modSat_part (s : State) (i : Port) (f : Satellite → Satellite) : (s.modSat i f).part = s.part := rfl
@[simp] theorem State.modSat_now (s : State) (i : Port) (f : Satellite → Satellite) : (s.modSat i f).now = s.now := rfl
@[simp] theorem State.modSat_freeCtr (s : State) (i : Port) (f : Satellite → Satellite) : (s.modSat i f).freeCtr = s.freeCtr := rfl
@[simp] theorem State.modSat_regs (s : State) (i : Port) (f : Satellite → Satellite) : (s.modSat i f).regs = s.regs := rfl
@[simp] theorem State.modSat_outs (s : State) (i : Port) (f : Satellite → Satellite) : (s.modSat i f).outs = s.outs := rfl
@[simp] theorem State.modSat_links (s : State) (i : Port) (f : Satellite → Satellite) : (s.modSat i f).links = s.links := rfl
@[simp] theorem State.modSat_clocks (s : State) (i : Port) (f : Satellite → Satellite) : (s.modSat i f).clocks = s.clocks := rfl
@[simp] theorem State.modSat_tb (s : State) (i : Port) (f : Satellite → Satellite) : (s.modSat i f).tb = s.tb := rfl
@[simp] theorem State.modSat_timers (s : State) (i : Port) (f : Satellite → Satellite) : (s.modSat i f).timers = s.timers := rfl
@[simp] theorem State.modSat_timerReqs (s : State) (i : Port) (f : Satellite → Satellite) : (s.modSat i f).timerReqs = s.timerReqs := rfl
@[simp] theorem State.modSat_wires (s : State) (i : Port) (f : Satellite → Satellite) : (s.modSat i f).wires = s.wires := rfl
@[simp] theorem State.modSat_ch (s : State) (i : Port) (f : Satellite → Satellite) : (s.modSat i f).ch = s.ch := rfl
@[simp] theorem State.modSat_syncOutEnd (s : State) (i : Port) (f : Satellite → Satellite) : (s.modSat i f).syncOutEnd = s.syncOutEnd := rfl
@[simp] theorem State.modSat_ctrl (s : State) (i : Port) (f : Satellite → Satellite) : (s.modSat i f).ctrl = s.ctrl := rfl
@[simp] theorem State.modSat_verdicts (s : State) (i : Port) (f : Satellite → Satellite) : (s.modSat i f).verdicts = s.verdicts := rfl
@[simp] theorem State.modSat_forward (s : State) (i : Port) (f : Satellite → Satellite) : (s.modSat i f).forward = s.forward := rfl
@[simp] theorem State.modSat_plan (s : State) (i : Port) (f : Satellite → Satellite) : (s.modSat i f).plan = s.plan := rfl
@[simp] theorem State.modSat_planner (s : State) (i : Port) (f : Satellite → Satellite) : (s.modSat i f).planner = s.planner := rfl
@[simp] theorem State.modSat_ev (s : State) (i : Port) (f : Satellite → Satellite) : (s.modSat i f).ev = s.ev := rfl
@[simp] theorem State.modSat_glb (s : State) (i : Port) (f : Satellite → Satellite) : (s.modSat i f).glb = s.glb := rfl
@[simp] theorem State.modSat_done (s : State) (i : Port) (f : Satellite → Satellite) : (s.modSat i f).done = s.done := rfl
@[simp] theorem State.modSat_sense (s : State) (i : Port) (f : Satellite → Satellite) : (s.modSat i f).sense = s.sense := rfl
@[simp] theorem State.modSat_meas (s : State) (i : Port) (f : Satellite → Satellite) : (s.modSat i f).meas = s.meas := rfl
@[simp] theorem State.modSat_smp (s : State) (i : Port) (f : Satellite → Satellite) : (s.modSat i f).smp = s.smp := rfl
@[simp] theorem State.modSat_sampleMem (s : State) (i : Port) (f : Satellite → Satellite) : (s.modSat i f).sampleMem = s.sampleMem := rfl
@[simp] theorem State.modSat_pos (s : State) (i : Port) (f : Satellite → Satellite) : (s.modSat i f).pos = s.pos := rfl
@[simp] theorem State.modSat_mod (s : State) (i : Port) (f : Satellite → Satellite) : (s.modSat i f).mod = s.mod := rfl
@[simp] theorem State.modSat_ports (s : State) (i : Port) (f : Satellite → Satellite) : (s.modSat i f).ports = s.ports := rfl
@[simp] theorem State.modSat_gates (s : State) (i : Port) (f : Satellite → Satellite) : (s.modSat i f).gates = s.gates := rfl
@[simp] theorem State.modSat_sats (s : State) (i : Port) (f : Satellite → Satellite) : (s.modSat i f).sats = vUpd s.sats i f := rfl
@[simp] theorem State.modSat_prot (s : State) (i : Port) (f : Satellite → Satellite) : (s.modSat i f).prot = s.prot := rfl
@[simp] theorem State.modSat_shut (s : State) (i : Port) (f : Satellite → Satellite) : (s.modSat i f).shut = s.shut := rfl
@[simp] theorem State.modSat_chamois (s : State) (i : Port) (f : Satellite → Satellite) : (s.modSat i f).chamois = s.chamois := rfl
@[simp] theorem State.modSat_sw (s : State) (i : Port) (f : Satellite → Satellite) : (s.modSat i f).sw = s.sw := rfl
@[simp] theorem State.modSat_tahr (s : State) (i : Port) (f : Satellite → Satellite) : (s.modSat i f).tahr = s.tahr := rfl
@[simp] theorem State.modSat_pwr (s : State) (i : Port) (f : Satellite → Satellite) : (s.modSat i f).pwr = s.pwr := rfl
@[simp] theorem State.modSat_store (s : State) (i : Port) (f : Satellite → Satellite) : (s.modSat i f).store = s.store := rfl
@[simp] theorem State.modSat_lock (s : State) (i : Port) (f : Satellite → Satellite) : (s.modSat i f).lock = s.lock := rfl
@[simp] theorem State.modSat_trace (s : State) (i : Port) (f : Satellite → Satellite) : (s.modSat i f).trace = s.trace := rfl
@[simp] theorem State.modSat_re (s : State) (i : Port) (f : Satellite → Satellite) : (s.modSat i f).re = s.re := rfl
@[simp] theorem State.modSat_can (s : State) (i : Port) (f : Satellite → Satellite) : (s.modSat i f).can = s.can := rfl
@[simp] theorem State.modSat_aux (s : State) (i : Port) (f : Satellite → Satellite) : (s.modSat i f).aux = s.aux := rfl
@[simp] theorem State.modSat_st (s : State) (i : Port) (f : Satellite → Satellite) : (s.modSat i f).st = s.st := rfl

/-! ## modProt -/

@[simp] theorem State.modProt_pending (s : State) (i : Channel) (f : Protection → Protection) : (s.modProt i f).pending = s.pending := rfl
@[simp] theorem State.modProt_part (s : State) (i : Channel) (f : Protection → Protection) : (s.modProt i f).part = s.part := rfl
@[simp] theorem State.modProt_now (s : State) (i : Channel) (f : Protection → Protection) : (s.modProt i f).now = s.now := rfl
@[simp] theorem State.modProt_freeCtr (s : State) (i : Channel) (f : Protection → Protection) : (s.modProt i f).freeCtr = s.freeCtr := rfl
@[simp] theorem State.modProt_regs (s : State) (i : Channel) (f : Protection → Protection) : (s.modProt i f).regs = s.regs := rfl
@[simp] theorem State.modProt_outs (s : State) (i : Channel) (f : Protection → Protection) : (s.modProt i f).outs = s.outs := rfl
@[simp] theorem State.modProt_links (s : State) (i : Channel) (f : Protection → Protection) : (s.modProt i f).links = s.links := rfl
@[simp] theorem State.modProt_clocks (s : State) (i : Channel) (f : Protection → Protection) : (s.modProt i f).clocks = s.clocks := rfl
@[simp] theorem State.modProt_tb (s : State) (i : Channel) (f : Protection → Protection) : (s.modProt i f).tb = s.tb := rfl
@[simp] theorem State.modProt_timers (s : State) (i : Channel) (f : Protection → Protection) : (s.modProt i f).timers = s.timers := rfl
@[simp] theorem State.modProt_timerReqs (s : State) (i : Channel) (f : Protection → Protection) : (s.modProt i f).timerReqs = s.timerReqs := rfl
@[simp] theorem State.modProt_wires (s : State) (i : Channel) (f : Protection → Protection) : (s.modProt i f).wires = s.wires := rfl
@[simp] theorem State.modProt_ch (s : State) (i : Channel) (f : Protection → Protection) : (s.modProt i f).ch = s.ch := rfl
@[simp] theorem State.modProt_syncOutEnd (s : State) (i : Channel) (f : Protection → Protection) : (s.modProt i f).syncOutEnd = s.syncOutEnd := rfl
@[simp] theorem State.modProt_ctrl (s : State) (i : Channel) (f : Protection → Protection) : (s.modProt i f).ctrl = s.ctrl := rfl
@[simp] theorem State.modProt_verdicts (s : State) (i : Channel) (f : Protection → Protection) : (s.modProt i f).verdicts = s.verdicts := rfl
@[simp] theorem State.modProt_forward (s : State) (i : Channel) (f : Protection → Protection) : (s.modProt i f).forward = s.forward := rfl
@[simp] theorem State.modProt_plan (s : State) (i : Channel) (f : Protection → Protection) : (s.modProt i f).plan = s.plan := rfl
@[simp] theorem State.modProt_planner (s : State) (i : Channel) (f : Protection → Protection) : (s.modProt i f).planner = s.planner := rfl
@[simp] theorem State.modProt_ev (s : State) (i : Channel) (f : Protection → Protection) : (s.modProt i f).ev = s.ev := rfl
@[simp] theorem State.modProt_glb (s : State) (i : Channel) (f : Protection → Protection) : (s.modProt i f).glb = s.glb := rfl
@[simp] theorem State.modProt_done (s : State) (i : Channel) (f : Protection → Protection) : (s.modProt i f).done = s.done := rfl
@[simp] theorem State.modProt_sense (s : State) (i : Channel) (f : Protection → Protection) : (s.modProt i f).sense = s.sense := rfl
@[simp] theorem State.modProt_meas (s : State) (i : Channel) (f : Protection → Protection) : (s.modProt i f).meas = s.meas := rfl
@[simp] theorem State.modProt_smp (s : State) (i : Channel) (f : Protection → Protection) : (s.modProt i f).smp = s.smp := rfl
@[simp] theorem State.modProt_sampleMem (s : State) (i : Channel) (f : Protection → Protection) : (s.modProt i f).sampleMem = s.sampleMem := rfl
@[simp] theorem State.modProt_pos (s : State) (i : Channel) (f : Protection → Protection) : (s.modProt i f).pos = s.pos := rfl
@[simp] theorem State.modProt_mod (s : State) (i : Channel) (f : Protection → Protection) : (s.modProt i f).mod = s.mod := rfl
@[simp] theorem State.modProt_ports (s : State) (i : Channel) (f : Protection → Protection) : (s.modProt i f).ports = s.ports := rfl
@[simp] theorem State.modProt_gates (s : State) (i : Channel) (f : Protection → Protection) : (s.modProt i f).gates = s.gates := rfl
@[simp] theorem State.modProt_sats (s : State) (i : Channel) (f : Protection → Protection) : (s.modProt i f).sats = s.sats := rfl
@[simp] theorem State.modProt_prot (s : State) (i : Channel) (f : Protection → Protection) : (s.modProt i f).prot = vUpd s.prot i f := rfl
@[simp] theorem State.modProt_shut (s : State) (i : Channel) (f : Protection → Protection) : (s.modProt i f).shut = s.shut := rfl
@[simp] theorem State.modProt_chamois (s : State) (i : Channel) (f : Protection → Protection) : (s.modProt i f).chamois = s.chamois := rfl
@[simp] theorem State.modProt_sw (s : State) (i : Channel) (f : Protection → Protection) : (s.modProt i f).sw = s.sw := rfl
@[simp] theorem State.modProt_tahr (s : State) (i : Channel) (f : Protection → Protection) : (s.modProt i f).tahr = s.tahr := rfl
@[simp] theorem State.modProt_pwr (s : State) (i : Channel) (f : Protection → Protection) : (s.modProt i f).pwr = s.pwr := rfl
@[simp] theorem State.modProt_store (s : State) (i : Channel) (f : Protection → Protection) : (s.modProt i f).store = s.store := rfl
@[simp] theorem State.modProt_lock (s : State) (i : Channel) (f : Protection → Protection) : (s.modProt i f).lock = s.lock := rfl
@[simp] theorem State.modProt_trace (s : State) (i : Channel) (f : Protection → Protection) : (s.modProt i f).trace = s.trace := rfl
@[simp] theorem State.modProt_re (s : State) (i : Channel) (f : Protection → Protection) : (s.modProt i f).re = s.re := rfl
@[simp] theorem State.modProt_can (s : State) (i : Channel) (f : Protection → Protection) : (s.modProt i f).can = s.can := rfl
@[simp] theorem State.modProt_aux (s : State) (i : Channel) (f : Protection → Protection) : (s.modProt i f).aux = s.aux := rfl
@[simp] theorem State.modProt_st (s : State) (i : Channel) (f : Protection → Protection) : (s.modProt i f).st = s.st := rfl

/-! ## modShut -/

@[simp] theorem State.modShut_pending (s : State) (f : Shutdown → Shutdown) : (s.modShut f).pending = s.pending := rfl
@[simp] theorem State.modShut_part (s : State) (f : Shutdown → Shutdown) : (s.modShut f).part = s.part := rfl
@[simp] theorem State.modShut_now (s : State) (f : Shutdown → Shutdown) : (s.modShut f).now = s.now := rfl
@[simp] theorem State.modShut_freeCtr (s : State) (f : Shutdown → Shutdown) : (s.modShut f).freeCtr = s.freeCtr := rfl
@[simp] theorem State.modShut_regs (s : State) (f : Shutdown → Shutdown) : (s.modShut f).regs = s.regs := rfl
@[simp] theorem State.modShut_outs (s : State) (f : Shutdown → Shutdown) : (s.modShut f).outs = s.outs := rfl
@[simp] theorem State.modShut_links (s : State) (f : Shutdown → Shutdown) : (s.modShut f).links = s.links := rfl
@[simp] theorem State.modShut_clocks (s : State) (f : Shutdown → Shutdown) : (s.modShut f).clocks = s.clocks := rfl
@[simp] theorem State.modShut_tb (s : State) (f : Shutdown → Shutdown) : (s.modShut f).tb = s.tb := rfl
@[simp] theorem State.modShut_timers (s : State) (f : Shutdown → Shutdown) : (s.modShut f).timers = s.timers := rfl
@[simp] theorem State.modShut_timerReqs (s : State) (f : Shutdown → Shutdown) : (s.modShut f).timerReqs = s.timerReqs := rfl
@[simp] theorem State.modShut_wires (s : State) (f : Shutdown → Shutdown) : (s.modShut f).wires = s.wires := rfl
@[simp] theorem State.modShut_ch (s : State) (f : Shutdown → Shutdown) : (s.modShut f).ch = s.ch := rfl
@[simp] theorem State.modShut_syncOutEnd (s : State) (f : Shutdown → Shutdown) : (s.modShut f).syncOutEnd = s.syncOutEnd := rfl
@[simp] theorem State.modShut_ctrl (s : State) (f : Shutdown → Shutdown) : (s.modShut f).ctrl = s.ctrl := rfl
@[simp] theorem State.modShut_verdicts (s : State) (f : Shutdown → Shutdown) : (s.modShut f).verdicts = s.verdicts := rfl
@[simp] theorem State.modShut_forward (s : State) (f : Shutdown → Shutdown) : (s.modShut f).forward = s.forward := rfl
@[simp] theorem State.modShut_plan (s : State) (f : Shutdown → Shutdown) : (s.modShut f).plan = s.plan := rfl
@[simp] theorem State.modShut_planner (s : State) (f : Shutdown → Shutdown) : (s.modShut f).planner = s.planner := rfl
@[simp] theorem State.modShut_ev (s : State) (f : Shutdown → Shutdown) : (s.modShut f).ev = s.ev := rfl
@[simp] theorem State.modShut_glb (s : State) (f : Shutdown → Shutdown) : (s.modShut f).glb = s.glb := rfl
@[simp] theorem State.modShut_done (s : State) (f : Shutdown → Shutdown) : (s.modShut f).done = s.done := rfl
@[simp] theorem State.modShut_sense (s : State) (f : Shutdown → Shutdown) : (s.modShut f).sense = s.sense := rfl
@[simp] theorem State.modShut_meas (s : State) (f : Shutdown → Shutdown) : (s.modShut f).meas = s.meas := rfl
@[simp] theorem State.modShut_smp (s : State) (f : Shutdown → Shutdown) : (s.modShut f).smp = s.smp := rfl
@[simp] theorem State.modShut_sampleMem (s : State) (f : Shutdown → Shutdown) : (s.modShut f).sampleMem = s.sampleMem := rfl
@[simp] theorem State.modShut_pos (s : State) (f : Shutdown → Shutdown) : (s.modShut f).pos = s.pos := rfl
@[simp] theorem State.modShut_mod (s : State) (f : Shutdown → Shutdown) : (s.modShut f).mod = s.mod := rfl
@[simp] theorem State.modShut_ports (s : State) (f : Shutdown → Shutdown) : (s.modShut f).ports = s.ports := rfl
@[simp] theorem State.modShut_gates (s : State) (f : Shutdown → Shutdown) : (s.modShut f).gates = s.gates := rfl
@[simp] theorem State.modShut_sats (s : State) (f : Shutdown → Shutdown) : (s.modShut f).sats = s.sats := rfl
@[simp] theorem State.modShut_prot (s : State) (f : Shutdown → Shutdown) : (s.modShut f).prot = s.prot := rfl
@[simp] theorem State.modShut_shut (s : State) (f : Shutdown → Shutdown) : (s.modShut f).shut = f s.shut := rfl
@[simp] theorem State.modShut_chamois (s : State) (f : Shutdown → Shutdown) : (s.modShut f).chamois = s.chamois := rfl
@[simp] theorem State.modShut_sw (s : State) (f : Shutdown → Shutdown) : (s.modShut f).sw = s.sw := rfl
@[simp] theorem State.modShut_tahr (s : State) (f : Shutdown → Shutdown) : (s.modShut f).tahr = s.tahr := rfl
@[simp] theorem State.modShut_pwr (s : State) (f : Shutdown → Shutdown) : (s.modShut f).pwr = s.pwr := rfl
@[simp] theorem State.modShut_store (s : State) (f : Shutdown → Shutdown) : (s.modShut f).store = s.store := rfl
@[simp] theorem State.modShut_lock (s : State) (f : Shutdown → Shutdown) : (s.modShut f).lock = s.lock := rfl
@[simp] theorem State.modShut_trace (s : State) (f : Shutdown → Shutdown) : (s.modShut f).trace = s.trace := rfl
@[simp] theorem State.modShut_re (s : State) (f : Shutdown → Shutdown) : (s.modShut f).re = s.re := rfl
@[simp] theorem State.modShut_can (s : State) (f : Shutdown → Shutdown) : (s.modShut f).can = s.can := rfl
@[simp] theorem State.modShut_aux (s : State) (f : Shutdown → Shutdown) : (s.modShut f).aux = s.aux := rfl
@[simp] theorem State.modShut_st (s : State) (f : Shutdown → Shutdown) : (s.modShut f).st = s.st := rfl

/-! ## modChamois -/

@[simp] theorem State.modChamois_pending (s : State) (f : Chamois → Chamois) : (s.modChamois f).pending = s.pending := rfl
@[simp] theorem State.modChamois_part (s : State) (f : Chamois → Chamois) : (s.modChamois f).part = s.part := rfl
@[simp] theorem State.modChamois_now (s : State) (f : Chamois → Chamois) : (s.modChamois f).now = s.now := rfl
@[simp] theorem State.modChamois_freeCtr (s : State) (f : Chamois → Chamois) : (s.modChamois f).freeCtr = s.freeCtr := rfl
@[simp] theorem State.modChamois_regs (s : State) (f : Chamois → Chamois) : (s.modChamois f).regs = s.regs := rfl
@[simp] theorem State.modChamois_outs (s : State) (f : Chamois → Chamois) : (s.modChamois f).outs = s.outs := rfl
@[simp] theorem State.modChamois_links (s : State) (f : Chamois → Chamois) : (s.modChamois f).links = s.links := rfl
@[simp] theorem State.modChamois_clocks (s : State) (f : Chamois → Chamois) : (s.modChamois f).clocks = s.clocks := rfl
@[simp] theorem State.modChamois_tb (s : State) (f : Chamois → Chamois) : (s.modChamois f).tb = s.tb := rfl
@[simp] theorem State.modChamois_timers (s : State) (f : Chamois → Chamois) : (s.modChamois f).timers = s.timers := rfl
@[simp] theorem State.modChamois_timerReqs (s : State) (f : Chamois → Chamois) : (s.modChamois f).timerReqs = s.timerReqs := rfl
@[simp] theorem State.modChamois_wires (s : State) (f : Chamois → Chamois) : (s.modChamois f).wires = s.wires := rfl
@[simp] theorem State.modChamois_ch (s : State) (f : Chamois → Chamois) : (s.modChamois f).ch = s.ch := rfl
@[simp] theorem State.modChamois_syncOutEnd (s : State) (f : Chamois → Chamois) : (s.modChamois f).syncOutEnd = s.syncOutEnd := rfl
@[simp] theorem State.modChamois_ctrl (s : State) (f : Chamois → Chamois) : (s.modChamois f).ctrl = s.ctrl := rfl
@[simp] theorem State.modChamois_verdicts (s : State) (f : Chamois → Chamois) : (s.modChamois f).verdicts = s.verdicts := rfl
@[simp] theorem State.modChamois_forward (s : State) (f : Chamois → Chamois) : (s.modChamois f).forward = s.forward := rfl
@[simp] theorem State.modChamois_plan (s : State) (f : Chamois → Chamois) : (s.modChamois f).plan = s.plan := rfl
@[simp] theorem State.modChamois_planner (s : State) (f : Chamois → Chamois) : (s.modChamois f).planner = s.planner := rfl
@[simp] theorem State.modChamois_ev (s : State) (f : Chamois → Chamois) : (s.modChamois f).ev = s.ev := rfl
@[simp] theorem State.modChamois_glb (s : State) (f : Chamois → Chamois) : (s.modChamois f).glb = s.glb := rfl
@[simp] theorem State.modChamois_done (s : State) (f : Chamois → Chamois) : (s.modChamois f).done = s.done := rfl
@[simp] theorem State.modChamois_sense (s : State) (f : Chamois → Chamois) : (s.modChamois f).sense = s.sense := rfl
@[simp] theorem State.modChamois_meas (s : State) (f : Chamois → Chamois) : (s.modChamois f).meas = s.meas := rfl
@[simp] theorem State.modChamois_smp (s : State) (f : Chamois → Chamois) : (s.modChamois f).smp = s.smp := rfl
@[simp] theorem State.modChamois_sampleMem (s : State) (f : Chamois → Chamois) : (s.modChamois f).sampleMem = s.sampleMem := rfl
@[simp] theorem State.modChamois_pos (s : State) (f : Chamois → Chamois) : (s.modChamois f).pos = s.pos := rfl
@[simp] theorem State.modChamois_mod (s : State) (f : Chamois → Chamois) : (s.modChamois f).mod = s.mod := rfl
@[simp] theorem State.modChamois_ports (s : State) (f : Chamois → Chamois) : (s.modChamois f).ports = s.ports := rfl
@[simp] theorem State.modChamois_gates (s : State) (f : Chamois → Chamois) : (s.modChamois f).gates = s.gates := rfl
@[simp] theorem State.modChamois_sats (s : State) (f : Chamois → Chamois) : (s.modChamois f).sats = s.sats := rfl
@[simp] theorem State.modChamois_prot (s : State) (f : Chamois → Chamois) : (s.modChamois f).prot = s.prot := rfl
@[simp] theorem State.modChamois_shut (s : State) (f : Chamois → Chamois) : (s.modChamois f).shut = s.shut := rfl
@[simp] theorem State.modChamois_chamois (s : State) (f : Chamois → Chamois) : (s.modChamois f).chamois = f s.chamois := rfl
@[simp] theorem State.modChamois_sw (s : State) (f : Chamois → Chamois) : (s.modChamois f).sw = s.sw := rfl
@[simp] theorem State.modChamois_tahr (s : State) (f : Chamois → Chamois) : (s.modChamois f).tahr = s.tahr := rfl
@[simp] theorem State.modChamois_pwr (s : State) (f : Chamois → Chamois) : (s.modChamois f).pwr = s.pwr := rfl
@[simp] theorem State.modChamois_store (s : State) (f : Chamois → Chamois) : (s.modChamois f).store = s.store := rfl
@[simp] theorem State.modChamois_lock (s : State) (f : Chamois → Chamois) : (s.modChamois f).lock = s.lock := rfl
@[simp] theorem State.modChamois_trace (s : State) (f : Chamois → Chamois) : (s.modChamois f).trace = s.trace := rfl
@[simp] theorem State.modChamois_re (s : State) (f : Chamois → Chamois) : (s.modChamois f).re = s.re := rfl
@[simp] theorem State.modChamois_can (s : State) (f : Chamois → Chamois) : (s.modChamois f).can = s.can := rfl
@[simp] theorem State.modChamois_aux (s : State) (f : Chamois → Chamois) : (s.modChamois f).aux = s.aux := rfl
@[simp] theorem State.modChamois_st (s : State) (f : Chamois → Chamois) : (s.modChamois f).st = s.st := rfl

/-! ## modTahr -/

@[simp] theorem State.modTahr_pending (s : State) (f : Tahr → Tahr) : (s.modTahr f).pending = s.pending := rfl
@[simp] theorem State.modTahr_part (s : State) (f : Tahr → Tahr) : (s.modTahr f).part = s.part := rfl
@[simp] theorem State.modTahr_now (s : State) (f : Tahr → Tahr) : (s.modTahr f).now = s.now := rfl
@[simp] theorem State.modTahr_freeCtr (s : State) (f : Tahr → Tahr) : (s.modTahr f).freeCtr = s.freeCtr := rfl
@[simp] theorem State.modTahr_regs (s : State) (f : Tahr → Tahr) : (s.modTahr f).regs = s.regs := rfl
@[simp] theorem State.modTahr_outs (s : State) (f : Tahr → Tahr) : (s.modTahr f).outs = s.outs := rfl
@[simp] theorem State.modTahr_links (s : State) (f : Tahr → Tahr) : (s.modTahr f).links = s.links := rfl
@[simp] theorem State.modTahr_clocks (s : State) (f : Tahr → Tahr) : (s.modTahr f).clocks = s.clocks := rfl
@[simp] theorem State.modTahr_tb (s : State) (f : Tahr → Tahr) : (s.modTahr f).tb = s.tb := rfl
@[simp] theorem State.modTahr_timers (s : State) (f : Tahr → Tahr) : (s.modTahr f).timers = s.timers := rfl
@[simp] theorem State.modTahr_timerReqs (s : State) (f : Tahr → Tahr) : (s.modTahr f).timerReqs = s.timerReqs := rfl
@[simp] theorem State.modTahr_wires (s : State) (f : Tahr → Tahr) : (s.modTahr f).wires = s.wires := rfl
@[simp] theorem State.modTahr_ch (s : State) (f : Tahr → Tahr) : (s.modTahr f).ch = s.ch := rfl
@[simp] theorem State.modTahr_syncOutEnd (s : State) (f : Tahr → Tahr) : (s.modTahr f).syncOutEnd = s.syncOutEnd := rfl
@[simp] theorem State.modTahr_ctrl (s : State) (f : Tahr → Tahr) : (s.modTahr f).ctrl = s.ctrl := rfl
@[simp] theorem State.modTahr_verdicts (s : State) (f : Tahr → Tahr) : (s.modTahr f).verdicts = s.verdicts := rfl
@[simp] theorem State.modTahr_forward (s : State) (f : Tahr → Tahr) : (s.modTahr f).forward = s.forward := rfl
@[simp] theorem State.modTahr_plan (s : State) (f : Tahr → Tahr) : (s.modTahr f).plan = s.plan := rfl
@[simp] theorem State.modTahr_planner (s : State) (f : Tahr → Tahr) : (s.modTahr f).planner = s.planner := rfl
@[simp] theorem State.modTahr_ev (s : State) (f : Tahr → Tahr) : (s.modTahr f).ev = s.ev := rfl
@[simp] theorem State.modTahr_glb (s : State) (f : Tahr → Tahr) : (s.modTahr f).glb = s.glb := rfl
@[simp] theorem State.modTahr_done (s : State) (f : Tahr → Tahr) : (s.modTahr f).done = s.done := rfl
@[simp] theorem State.modTahr_sense (s : State) (f : Tahr → Tahr) : (s.modTahr f).sense = s.sense := rfl
@[simp] theorem State.modTahr_meas (s : State) (f : Tahr → Tahr) : (s.modTahr f).meas = s.meas := rfl
@[simp] theorem State.modTahr_smp (s : State) (f : Tahr → Tahr) : (s.modTahr f).smp = s.smp := rfl
@[simp] theorem State.modTahr_sampleMem (s : State) (f : Tahr → Tahr) : (s.modTahr f).sampleMem = s.sampleMem := rfl
@[simp] theorem State.modTahr_pos (s : State) (f : Tahr → Tahr) : (s.modTahr f).pos = s.pos := rfl
@[simp] theorem State.modTahr_mod (s : State) (f : Tahr → Tahr) : (s.modTahr f).mod = s.mod := rfl
@[simp] theorem State.modTahr_ports (s : State) (f : Tahr → Tahr) : (s.modTahr f).ports = s.ports := rfl
@[simp] theorem State.modTahr_gates (s : State) (f : Tahr → Tahr) : (s.modTahr f).gates = s.gates := rfl
@[simp] theorem State.modTahr_sats (s : State) (f : Tahr → Tahr) : (s.modTahr f).sats = s.sats := rfl
@[simp] theorem State.modTahr_prot (s : State) (f : Tahr → Tahr) : (s.modTahr f).prot = s.prot := rfl
@[simp] theorem State.modTahr_shut (s : State) (f : Tahr → Tahr) : (s.modTahr f).shut = s.shut := rfl
@[simp] theorem State.modTahr_chamois (s : State) (f : Tahr → Tahr) : (s.modTahr f).chamois = s.chamois := rfl
@[simp] theorem State.modTahr_sw (s : State) (f : Tahr → Tahr) : (s.modTahr f).sw = s.sw := rfl
@[simp] theorem State.modTahr_tahr (s : State) (f : Tahr → Tahr) : (s.modTahr f).tahr = f s.tahr := rfl
@[simp] theorem State.modTahr_pwr (s : State) (f : Tahr → Tahr) : (s.modTahr f).pwr = s.pwr := rfl
@[simp] theorem State.modTahr_store (s : State) (f : Tahr → Tahr) : (s.modTahr f).store = s.store := rfl
@[simp] theorem State.modTahr_lock (s : State) (f : Tahr → Tahr) : (s.modTahr f).lock = s.lock := rfl
@[simp] theorem State.modTahr_trace (s : State) (f : Tahr → Tahr) : (s.modTahr f).trace = s.trace := rfl
@[simp] theorem State.modTahr_re (s : State) (f : Tahr → Tahr) : (s.modTahr f).re = s.re := rfl
@[simp] theorem State.modTahr_can (s : State) (f : Tahr → Tahr) : (s.modTahr f).can = s.can := rfl
@[simp] theorem State.modTahr_aux (s : State) (f : Tahr → Tahr) : (s.modTahr f).aux = s.aux := rfl
@[simp] theorem State.modTahr_st (s : State) (f : Tahr → Tahr) : (s.modTahr f).st = s.st := rfl

/-! ## modTahrCh -/

@[simp] theorem State.modTahrCh_pending (s : State) (c : Channel) (f : TahrChan → TahrChan) : (s.modTahrCh c f).pending = s.pending := rfl
@[simp] theorem State.modTahrCh_part (s : State) (c : Channel) (f : TahrChan → TahrChan) : (s.modTahrCh c f).part = s.part := rfl
@[simp] theorem State.modTahrCh_now (s : State) (c : Channel) (f : TahrChan → TahrChan) : (s.modTahrCh c f).now = s.now := rfl
@[simp] theorem State.modTahrCh_freeCtr (s : State) (c : Channel) (f : TahrChan → TahrChan) : (s.modTahrCh c f).freeCtr = s.freeCtr := rfl
@[simp] theorem State.modTahrCh_regs (s : State) (c : Channel) (f : TahrChan → TahrChan) : (s.modTahrCh c f).regs = s.regs := rfl
@[simp] theorem State.modTahrCh_outs (s : State) (c : Channel) (f : TahrChan → TahrChan) : (s.modTahrCh c f).outs = s.outs := rfl
@[simp] theorem State.modTahrCh_links (s : State) (c : Channel) (f : TahrChan → TahrChan) : (s.modTahrCh c f).links = s.links := rfl
@[simp] theorem State.modTahrCh_clocks (s : State) (c : Channel) (f : TahrChan → TahrChan) : (s.modTahrCh c f).clocks = s.clocks := rfl
@[simp] theorem State.modTahrCh_tb (s : State) (c : Channel) (f : TahrChan → TahrChan) : (s.modTahrCh c f).tb = s.tb := rfl
@[simp] theorem State.modTahrCh_timers (s : State) (c : Channel) (f : TahrChan → TahrChan) : (s.modTahrCh c f).timers = s.timers := rfl
@[simp] theorem State.modTahrCh_timerReqs (s : State) (c : Channel) (f : TahrChan → TahrChan) : (s.modTahrCh c f).timerReqs = s.timerReqs := rfl
@[simp] theorem State.modTahrCh_wires (s : State) (c : Channel) (f : TahrChan → TahrChan) : (s.modTahrCh c f).wires = s.wires := rfl
@[simp] theorem State.modTahrCh_ch (s : State) (c : Channel) (f : TahrChan → TahrChan) : (s.modTahrCh c f).ch = s.ch := rfl
@[simp] theorem State.modTahrCh_syncOutEnd (s : State) (c : Channel) (f : TahrChan → TahrChan) : (s.modTahrCh c f).syncOutEnd = s.syncOutEnd := rfl
@[simp] theorem State.modTahrCh_ctrl (s : State) (c : Channel) (f : TahrChan → TahrChan) : (s.modTahrCh c f).ctrl = s.ctrl := rfl
@[simp] theorem State.modTahrCh_verdicts (s : State) (c : Channel) (f : TahrChan → TahrChan) : (s.modTahrCh c f).verdicts = s.verdicts := rfl
@[simp] theorem State.modTahrCh_forward (s : State) (c : Channel) (f : TahrChan → TahrChan) : (s.modTahrCh c f).forward = s.forward := rfl
@[simp] theorem State.modTahrCh_plan (s : State) (c : Channel) (f : TahrChan → TahrChan) : (s.modTahrCh c f).plan = s.plan := rfl
@[simp] theorem State.modTahrCh_planner (s : State) (c : Channel) (f : TahrChan → TahrChan) : (s.modTahrCh c f).planner = s.planner := rfl
@[simp] theorem State.modTahrCh_ev (s : State) (c : Channel) (f : TahrChan → TahrChan) : (s.modTahrCh c f).ev = s.ev := rfl
@[simp] theorem State.modTahrCh_glb (s : State) (c : Channel) (f : TahrChan → TahrChan) : (s.modTahrCh c f).glb = s.glb := rfl
@[simp] theorem State.modTahrCh_done (s : State) (c : Channel) (f : TahrChan → TahrChan) : (s.modTahrCh c f).done = s.done := rfl
@[simp] theorem State.modTahrCh_sense (s : State) (c : Channel) (f : TahrChan → TahrChan) : (s.modTahrCh c f).sense = s.sense := rfl
@[simp] theorem State.modTahrCh_meas (s : State) (c : Channel) (f : TahrChan → TahrChan) : (s.modTahrCh c f).meas = s.meas := rfl
@[simp] theorem State.modTahrCh_smp (s : State) (c : Channel) (f : TahrChan → TahrChan) : (s.modTahrCh c f).smp = s.smp := rfl
@[simp] theorem State.modTahrCh_sampleMem (s : State) (c : Channel) (f : TahrChan → TahrChan) : (s.modTahrCh c f).sampleMem = s.sampleMem := rfl
@[simp] theorem State.modTahrCh_pos (s : State) (c : Channel) (f : TahrChan → TahrChan) : (s.modTahrCh c f).pos = s.pos := rfl
@[simp] theorem State.modTahrCh_mod (s : State) (c : Channel) (f : TahrChan → TahrChan) : (s.modTahrCh c f).mod = s.mod := rfl
@[simp] theorem State.modTahrCh_ports (s : State) (c : Channel) (f : TahrChan → TahrChan) : (s.modTahrCh c f).ports = s.ports := rfl
@[simp] theorem State.modTahrCh_gates (s : State) (c : Channel) (f : TahrChan → TahrChan) : (s.modTahrCh c f).gates = s.gates := rfl
@[simp] theorem State.modTahrCh_sats (s : State) (c : Channel) (f : TahrChan → TahrChan) : (s.modTahrCh c f).sats = s.sats := rfl
@[simp] theorem State.modTahrCh_prot (s : State) (c : Channel) (f : TahrChan → TahrChan) : (s.modTahrCh c f).prot = s.prot := rfl
@[simp] theorem State.modTahrCh_shut (s : State) (c : Channel) (f : TahrChan → TahrChan) : (s.modTahrCh c f).shut = s.shut := rfl
@[simp] theorem State.modTahrCh_chamois (s : State) (c : Channel) (f : TahrChan → TahrChan) : (s.modTahrCh c f).chamois = s.chamois := rfl
@[simp] theorem State.modTahrCh_sw (s : State) (c : Channel) (f : TahrChan → TahrChan) : (s.modTahrCh c f).sw = s.sw := rfl
@[simp] theorem State.modTahrCh_pwr (s : State) (c : Channel) (f : TahrChan → TahrChan) : (s.modTahrCh c f).pwr = s.pwr := rfl
@[simp] theorem State.modTahrCh_store (s : State) (c : Channel) (f : TahrChan → TahrChan) : (s.modTahrCh c f).store = s.store := rfl
@[simp] theorem State.modTahrCh_lock (s : State) (c : Channel) (f : TahrChan → TahrChan) : (s.modTahrCh c f).lock = s.lock := rfl
@[simp] theorem State.modTahrCh_trace (s : State) (c : Channel) (f : TahrChan → TahrChan) : (s.modTahrCh c f).trace = s.trace := rfl
@[simp] theorem State.modTahrCh_re (s : State) (c : Channel) (f : TahrChan → TahrChan) : (s.modTahrCh c f).re = s.re := rfl
@[simp] theorem State.modTahrCh_can (s : State) (c : Channel) (f : TahrChan → TahrChan) : (s.modTahrCh c f).can = s.can := rfl
@[simp] theorem State.modTahrCh_aux (s : State) (c : Channel) (f : TahrChan → TahrChan) : (s.modTahrCh c f).aux = s.aux := rfl
@[simp] theorem State.modTahrCh_st (s : State) (c : Channel) (f : TahrChan → TahrChan) : (s.modTahrCh c f).st = s.st := rfl

/-! ## modPwr -/

@[simp] theorem State.modPwr_pending (s : State) (f : Power → Power) : (s.modPwr f).pending = s.pending := rfl
@[simp] theorem State.modPwr_part (s : State) (f : Power → Power) : (s.modPwr f).part = s.part := rfl
@[simp] theorem State.modPwr_now (s : State) (f : Power → Power) : (s.modPwr f).now = s.now := rfl
@[simp] theorem State.modPwr_freeCtr (s : State) (f : Power → Power) : (s.modPwr f).freeCtr = s.freeCtr := rfl
@[simp] theorem State.modPwr_regs (s : State) (f : Power → Power) : (s.modPwr f).regs = s.regs := rfl
@[simp] theorem State.modPwr_outs (s : State) (f : Power → Power) : (s.modPwr f).outs = s.outs := rfl
@[simp] theorem State.modPwr_links (s : State) (f : Power → Power) : (s.modPwr f).links = s.links := rfl
@[simp] theorem State.modPwr_clocks (s : State) (f : Power → Power) : (s.modPwr f).clocks = s.clocks := rfl
@[simp] theorem State.modPwr_tb (s : State) (f : Power → Power) : (s.modPwr f).tb = s.tb := rfl
@[simp] theorem State.modPwr_timers (s : State) (f : Power → Power) : (s.modPwr f).timers = s.timers := rfl
@[simp] theorem State.modPwr_timerReqs (s : State) (f : Power → Power) : (s.modPwr f).timerReqs = s.timerReqs := rfl
@[simp] theorem State.modPwr_wires (s : State) (f : Power → Power) : (s.modPwr f).wires = s.wires := rfl
@[simp] theorem State.modPwr_ch (s : State) (f : Power → Power) : (s.modPwr f).ch = s.ch := rfl
@[simp] theorem State.modPwr_syncOutEnd (s : State) (f : Power → Power) : (s.modPwr f).syncOutEnd = s.syncOutEnd := rfl
@[simp] theorem State.modPwr_ctrl (s : State) (f : Power → Power) : (s.modPwr f).ctrl = s.ctrl := rfl
@[simp] theorem State.modPwr_verdicts (s : State) (f : Power → Power) : (s.modPwr f).verdicts = s.verdicts := rfl
@[simp] theorem State.modPwr_forward (s : State) (f : Power → Power) : (s.modPwr f).forward = s.forward := rfl
@[simp] theorem State.modPwr_plan (s : State) (f : Power → Power) : (s.modPwr f).plan = s.plan := rfl
@[simp] theorem State.modPwr_planner (s : State) (f : Power → Power) : (s.modPwr f).planner = s.planner := rfl
@[simp] theorem State.modPwr_ev (s : State) (f : Power → Power) : (s.modPwr f).ev = s.ev := rfl
@[simp] theorem State.modPwr_glb (s : State) (f : Power → Power) : (s.modPwr f).glb = s.glb := rfl
@[simp] theorem State.modPwr_done (s : State) (f : Power → Power) : (s.modPwr f).done = s.done := rfl
@[simp] theorem State.modPwr_sense (s : State) (f : Power → Power) : (s.modPwr f).sense = s.sense := rfl
@[simp] theorem State.modPwr_meas (s : State) (f : Power → Power) : (s.modPwr f).meas = s.meas := rfl
@[simp] theorem State.modPwr_smp (s : State) (f : Power → Power) : (s.modPwr f).smp = s.smp := rfl
@[simp] theorem State.modPwr_sampleMem (s : State) (f : Power → Power) : (s.modPwr f).sampleMem = s.sampleMem := rfl
@[simp] theorem State.modPwr_pos (s : State) (f : Power → Power) : (s.modPwr f).pos = s.pos := rfl
@[simp] theorem State.modPwr_mod (s : State) (f : Power → Power) : (s.modPwr f).mod = s.mod := rfl
@[simp] theorem State.modPwr_ports (s : State) (f : Power → Power) : (s.modPwr f).ports = s.ports := rfl
@[simp] theorem State.modPwr_gates (s : State) (f : Power → Power) : (s.modPwr f).gates = s.gates := rfl
@[simp] theorem State.modPwr_sats (s : State) (f : Power → Power) : (s.modPwr f).sats = s.sats := rfl
@[simp] theorem State.modPwr_prot (s : State) (f : Power → Power) : (s.modPwr f).prot = s.prot := rfl
@[simp] theorem State.modPwr_shut (s : State) (f : Power → Power) : (s.modPwr f).shut = s.shut := rfl
@[simp] theorem State.modPwr_chamois (s : State) (f : Power → Power) : (s.modPwr f).chamois = s.chamois := rfl
@[simp] theorem State.modPwr_sw (s : State) (f : Power → Power) : (s.modPwr f).sw = s.sw := rfl
@[simp] theorem State.modPwr_tahr (s : State) (f : Power → Power) : (s.modPwr f).tahr = s.tahr := rfl
@[simp] theorem State.modPwr_pwr (s : State) (f : Power → Power) : (s.modPwr f).pwr = f s.pwr := rfl
@[simp] theorem State.modPwr_store (s : State) (f : Power → Power) : (s.modPwr f).store = s.store := rfl
@[simp] theorem State.modPwr_lock (s : State) (f : Power → Power) : (s.modPwr f).lock = s.lock := rfl
@[simp] theorem State.modPwr_trace (s : State) (f : Power → Power) : (s.modPwr f).trace = s.trace := rfl
@[simp] theorem State.modPwr_re (s : State) (f : Power → Power) : (s.modPwr f).re = s.re := rfl
@[simp] theorem State.modPwr_can (s : State) (f : Power → Power) : (s.modPwr f).can = s.can := rfl
@[simp] theorem State.modPwr_aux (s : State) (f : Power → Power) : (s.modPwr f).aux = s.aux := rfl
@[simp] theorem State.modPwr_st (s : State) (f : Power → Power) : (s.modPwr f).st = s.st := rfl

/-! ## modStore -/

@[simp] theorem State.modStore_pending (s : State) (f : Store → Store) : (s.modStore f).pending = s.pending := rfl
@[simp] theorem State.modStore_part (s : State) (f : Store → Store) : (s.modStore f).part = s.part := rfl
@[simp] theorem State.modStore_now (s : State) (f : Store → Store) : (s.modStore f).now = s.now := rfl
@[simp] theorem State.modStore_freeCtr (s : State) (f : Store → Store) : (s.modStore f).freeCtr = s.freeCtr := rfl
@[simp] theorem State.modStore_regs (s : State) (f : Store → Store) : (s.modStore f).regs = s.regs := rfl
@[simp] theorem State.modStore_outs (s : State) (f : Store → Store) : (s.modStore f).outs = s.outs := rfl
@[simp] theorem State.modStore_links (s : State) (f : Store → Store) : (s.modStore f).links = s.links := rfl
@[simp] theorem State.modStore_clocks (s : State) (f : Store → Store) : (s.modStore f).clocks = s.clocks := rfl
@[simp] theorem State.modStore_tb (s : State) (f : Store → Store) : (s.modStore f).tb = s.tb := rfl
@[simp] theorem State.modStore_timers (s : State) (f : Store → Store) : (s.modStore f).timers = s.timers := rfl
@[simp] theorem State.modStore_timerReqs (s : State) (f : Store → Store) : (s.modStore f).timerReqs = s.timerReqs := rfl
@[simp] theorem State.modStore_wires (s : State) (f : Store → Store) : (s.modStore f).wires = s.wires := rfl
@[simp] theorem State.modStore_ch (s : State) (f : Store → Store) : (s.modStore f).ch = s.ch := rfl
@[simp] theorem State.modStore_syncOutEnd (s : State) (f : Store → Store) : (s.modStore f).syncOutEnd = s.syncOutEnd := rfl
@[simp] theorem State.modStore_ctrl (s : State) (f : Store → Store) : (s.modStore f).ctrl = s.ctrl := rfl
@[simp] theorem State.modStore_verdicts (s : State) (f : Store → Store) : (s.modStore f).verdicts = s.verdicts := rfl
@[simp] theorem State.modStore_forward (s : State) (f : Store → Store) : (s.modStore f).forward = s.forward := rfl
@[simp] theorem State.modStore_plan (s : State) (f : Store → Store) : (s.modStore f).plan = s.plan := rfl
@[simp] theorem State.modStore_planner (s : State) (f : Store → Store) : (s.modStore f).planner = s.planner := rfl
@[simp] theorem State.modStore_ev (s : State) (f : Store → Store) : (s.modStore f).ev = s.ev := rfl
@[simp] theorem State.modStore_glb (s : State) (f : Store → Store) : (s.modStore f).glb = s.glb := rfl
@[simp] theorem State.modStore_done (s : State) (f : Store → Store) : (s.modStore f).done = s.done := rfl
@[simp] theorem State.modStore_sense (s : State) (f : Store → Store) : (s.modStore f).sense = s.sense := rfl
@[simp] theorem State.modStore_meas (s : State) (f : Store → Store) : (s.modStore f).meas = s.meas := rfl
@[simp] theorem State.modStore_smp (s : State) (f : Store → Store) : (s.modStore f).smp = s.smp := rfl
@[simp] theorem State.modStore_sampleMem (s : State) (f : Store → Store) : (s.modStore f).sampleMem = s.sampleMem := rfl
@[simp] theorem State.modStore_pos (s : State) (f : Store → Store) : (s.modStore f).pos = s.pos := rfl
@[simp] theorem State.modStore_mod (s : State) (f : Store → Store) : (s.modStore f).mod = s.mod := rfl
@[simp] theorem State.modStore_ports (s : State) (f : Store → Store) : (s.modStore f).ports = s.ports := rfl
@[simp] theorem State.modStore_gates (s : State) (f : Store → Store) : (s.modStore f).gates = s.gates := rfl
@[simp] theorem State.modStore_sats (s : State) (f : Store → Store) : (s.modStore f).sats = s.sats := rfl
@[simp] theorem State.modStore_prot (s : State) (f : Store → Store) : (s.modStore f).prot = s.prot := rfl
@[simp] theorem State.modStore_shut (s : State) (f : Store → Store) : (s.modStore f).shut = s.shut := rfl
@[simp] theorem State.modStore_chamois (s : State) (f : Store → Store) : (s.modStore f).chamois = s.chamois := rfl
@[simp] theorem State.modStore_sw (s : State) (f : Store → Store) : (s.modStore f).sw = s.sw := rfl
@[simp] theorem State.modStore_tahr (s : State) (f : Store → Store) : (s.modStore f).tahr = s.tahr := rfl
@[simp] theorem State.modStore_pwr (s : State) (f : Store → Store) : (s.modStore f).pwr = s.pwr := rfl
@[simp] theorem State.modStore_store (s : State) (f : Store → Store) : (s.modStore f).store = f s.store := rfl
@[simp] theorem State.modStore_lock (s : State) (f : Store → Store) : (s.modStore f).lock = s.lock := rfl
@[simp] theorem State.modStore_trace (s : State) (f : Store → Store) : (s.modStore f).trace = s.trace := rfl
@[simp] theorem State.modStore_re (s : State) (f : Store → Store) : (s.modStore f).re = s.re := rfl
@[simp] theorem State.modStore_can (s : State) (f : Store → Store) : (s.modStore f).can = s.can := rfl
@[simp] theorem State.modStore_aux (s : State) (f : Store → Store) : (s.modStore f).aux = s.aux := rfl
@[simp] theorem State.modStore_st (s : State) (f : Store → Store) : (s.modStore f).st = s.st := rfl

/-! ## modLane -/

@[simp] theorem State.modLane_pending (s : State) (l : EngineNo) (f : Lane → Lane) : (s.modLane l f).pending = s.pending := rfl
@[simp] theorem State.modLane_part (s : State) (l : EngineNo) (f : Lane → Lane) : (s.modLane l f).part = s.part := rfl
@[simp] theorem State.modLane_now (s : State) (l : EngineNo) (f : Lane → Lane) : (s.modLane l f).now = s.now := rfl
@[simp] theorem State.modLane_freeCtr (s : State) (l : EngineNo) (f : Lane → Lane) : (s.modLane l f).freeCtr = s.freeCtr := rfl
@[simp] theorem State.modLane_regs (s : State) (l : EngineNo) (f : Lane → Lane) : (s.modLane l f).regs = s.regs := rfl
@[simp] theorem State.modLane_outs (s : State) (l : EngineNo) (f : Lane → Lane) : (s.modLane l f).outs = s.outs := rfl
@[simp] theorem State.modLane_links (s : State) (l : EngineNo) (f : Lane → Lane) : (s.modLane l f).links = s.links := rfl
@[simp] theorem State.modLane_clocks (s : State) (l : EngineNo) (f : Lane → Lane) : (s.modLane l f).clocks = s.clocks := rfl
@[simp] theorem State.modLane_tb (s : State) (l : EngineNo) (f : Lane → Lane) : (s.modLane l f).tb = s.tb := rfl
@[simp] theorem State.modLane_timers (s : State) (l : EngineNo) (f : Lane → Lane) : (s.modLane l f).timers = s.timers := rfl
@[simp] theorem State.modLane_timerReqs (s : State) (l : EngineNo) (f : Lane → Lane) : (s.modLane l f).timerReqs = s.timerReqs := rfl
@[simp] theorem State.modLane_wires (s : State) (l : EngineNo) (f : Lane → Lane) : (s.modLane l f).wires = s.wires := rfl
@[simp] theorem State.modLane_ch (s : State) (l : EngineNo) (f : Lane → Lane) : (s.modLane l f).ch = s.ch := rfl
@[simp] theorem State.modLane_syncOutEnd (s : State) (l : EngineNo) (f : Lane → Lane) : (s.modLane l f).syncOutEnd = s.syncOutEnd := rfl
@[simp] theorem State.modLane_ctrl (s : State) (l : EngineNo) (f : Lane → Lane) : (s.modLane l f).ctrl = s.ctrl := rfl
@[simp] theorem State.modLane_verdicts (s : State) (l : EngineNo) (f : Lane → Lane) : (s.modLane l f).verdicts = s.verdicts := rfl
@[simp] theorem State.modLane_forward (s : State) (l : EngineNo) (f : Lane → Lane) : (s.modLane l f).forward = s.forward := rfl
@[simp] theorem State.modLane_plan (s : State) (l : EngineNo) (f : Lane → Lane) : (s.modLane l f).plan = s.plan := rfl
@[simp] theorem State.modLane_planner (s : State) (l : EngineNo) (f : Lane → Lane) : (s.modLane l f).planner = s.planner := rfl
@[simp] theorem State.modLane_ev (s : State) (l : EngineNo) (f : Lane → Lane) : (s.modLane l f).ev = s.ev := rfl
@[simp] theorem State.modLane_glb (s : State) (l : EngineNo) (f : Lane → Lane) : (s.modLane l f).glb = s.glb := rfl
@[simp] theorem State.modLane_done (s : State) (l : EngineNo) (f : Lane → Lane) : (s.modLane l f).done = s.done := rfl
@[simp] theorem State.modLane_sense (s : State) (l : EngineNo) (f : Lane → Lane) : (s.modLane l f).sense = s.sense := rfl
@[simp] theorem State.modLane_meas (s : State) (l : EngineNo) (f : Lane → Lane) : (s.modLane l f).meas = s.meas := rfl
@[simp] theorem State.modLane_smp (s : State) (l : EngineNo) (f : Lane → Lane) : (s.modLane l f).smp = s.smp := rfl
@[simp] theorem State.modLane_sampleMem (s : State) (l : EngineNo) (f : Lane → Lane) : (s.modLane l f).sampleMem = s.sampleMem := rfl
@[simp] theorem State.modLane_pos (s : State) (l : EngineNo) (f : Lane → Lane) : (s.modLane l f).pos = s.pos := rfl
@[simp] theorem State.modLane_mod (s : State) (l : EngineNo) (f : Lane → Lane) : (s.modLane l f).mod = s.mod := rfl
@[simp] theorem State.modLane_ports (s : State) (l : EngineNo) (f : Lane → Lane) : (s.modLane l f).ports = s.ports := rfl
@[simp] theorem State.modLane_gates (s : State) (l : EngineNo) (f : Lane → Lane) : (s.modLane l f).gates = s.gates := rfl
@[simp] theorem State.modLane_sats (s : State) (l : EngineNo) (f : Lane → Lane) : (s.modLane l f).sats = s.sats := rfl
@[simp] theorem State.modLane_prot (s : State) (l : EngineNo) (f : Lane → Lane) : (s.modLane l f).prot = s.prot := rfl
@[simp] theorem State.modLane_shut (s : State) (l : EngineNo) (f : Lane → Lane) : (s.modLane l f).shut = s.shut := rfl
@[simp] theorem State.modLane_chamois (s : State) (l : EngineNo) (f : Lane → Lane) : (s.modLane l f).chamois = s.chamois := rfl
@[simp] theorem State.modLane_sw (s : State) (l : EngineNo) (f : Lane → Lane) : (s.modLane l f).sw = s.sw := rfl
@[simp] theorem State.modLane_tahr (s : State) (l : EngineNo) (f : Lane → Lane) : (s.modLane l f).tahr = s.tahr := rfl
@[simp] theorem State.modLane_pwr (s : State) (l : EngineNo) (f : Lane → Lane) : (s.modLane l f).pwr = s.pwr := rfl
@[simp] theorem State.modLane_store (s : State) (l : EngineNo) (f : Lane → Lane) : (s.modLane l f).store = s.store := rfl
@[simp] theorem State.modLane_trace (s : State) (l : EngineNo) (f : Lane → Lane) : (s.modLane l f).trace = s.trace := rfl
@[simp] theorem State.modLane_re (s : State) (l : EngineNo) (f : Lane → Lane) : (s.modLane l f).re = s.re := rfl
@[simp] theorem State.modLane_can (s : State) (l : EngineNo) (f : Lane → Lane) : (s.modLane l f).can = s.can := rfl
@[simp] theorem State.modLane_aux (s : State) (l : EngineNo) (f : Lane → Lane) : (s.modLane l f).aux = s.aux := rfl
@[simp] theorem State.modLane_st (s : State) (l : EngineNo) (f : Lane → Lane) : (s.modLane l f).st = s.st := rfl

/-! ## modRe -/

@[simp] theorem State.modRe_pending (s : State) (f : RingUnit → RingUnit) : (s.modRe f).pending = s.pending := rfl
@[simp] theorem State.modRe_part (s : State) (f : RingUnit → RingUnit) : (s.modRe f).part = s.part := rfl
@[simp] theorem State.modRe_now (s : State) (f : RingUnit → RingUnit) : (s.modRe f).now = s.now := rfl
@[simp] theorem State.modRe_freeCtr (s : State) (f : RingUnit → RingUnit) : (s.modRe f).freeCtr = s.freeCtr := rfl
@[simp] theorem State.modRe_regs (s : State) (f : RingUnit → RingUnit) : (s.modRe f).regs = s.regs := rfl
@[simp] theorem State.modRe_outs (s : State) (f : RingUnit → RingUnit) : (s.modRe f).outs = s.outs := rfl
@[simp] theorem State.modRe_links (s : State) (f : RingUnit → RingUnit) : (s.modRe f).links = s.links := rfl
@[simp] theorem State.modRe_clocks (s : State) (f : RingUnit → RingUnit) : (s.modRe f).clocks = s.clocks := rfl
@[simp] theorem State.modRe_tb (s : State) (f : RingUnit → RingUnit) : (s.modRe f).tb = s.tb := rfl
@[simp] theorem State.modRe_timers (s : State) (f : RingUnit → RingUnit) : (s.modRe f).timers = s.timers := rfl
@[simp] theorem State.modRe_timerReqs (s : State) (f : RingUnit → RingUnit) : (s.modRe f).timerReqs = s.timerReqs := rfl
@[simp] theorem State.modRe_wires (s : State) (f : RingUnit → RingUnit) : (s.modRe f).wires = s.wires := rfl
@[simp] theorem State.modRe_ch (s : State) (f : RingUnit → RingUnit) : (s.modRe f).ch = s.ch := rfl
@[simp] theorem State.modRe_syncOutEnd (s : State) (f : RingUnit → RingUnit) : (s.modRe f).syncOutEnd = s.syncOutEnd := rfl
@[simp] theorem State.modRe_ctrl (s : State) (f : RingUnit → RingUnit) : (s.modRe f).ctrl = s.ctrl := rfl
@[simp] theorem State.modRe_verdicts (s : State) (f : RingUnit → RingUnit) : (s.modRe f).verdicts = s.verdicts := rfl
@[simp] theorem State.modRe_forward (s : State) (f : RingUnit → RingUnit) : (s.modRe f).forward = s.forward := rfl
@[simp] theorem State.modRe_plan (s : State) (f : RingUnit → RingUnit) : (s.modRe f).plan = s.plan := rfl
@[simp] theorem State.modRe_planner (s : State) (f : RingUnit → RingUnit) : (s.modRe f).planner = s.planner := rfl
@[simp] theorem State.modRe_ev (s : State) (f : RingUnit → RingUnit) : (s.modRe f).ev = s.ev := rfl
@[simp] theorem State.modRe_glb (s : State) (f : RingUnit → RingUnit) : (s.modRe f).glb = s.glb := rfl
@[simp] theorem State.modRe_done (s : State) (f : RingUnit → RingUnit) : (s.modRe f).done = s.done := rfl
@[simp] theorem State.modRe_sense (s : State) (f : RingUnit → RingUnit) : (s.modRe f).sense = s.sense := rfl
@[simp] theorem State.modRe_meas (s : State) (f : RingUnit → RingUnit) : (s.modRe f).meas = s.meas := rfl
@[simp] theorem State.modRe_smp (s : State) (f : RingUnit → RingUnit) : (s.modRe f).smp = s.smp := rfl
@[simp] theorem State.modRe_sampleMem (s : State) (f : RingUnit → RingUnit) : (s.modRe f).sampleMem = s.sampleMem := rfl
@[simp] theorem State.modRe_pos (s : State) (f : RingUnit → RingUnit) : (s.modRe f).pos = s.pos := rfl
@[simp] theorem State.modRe_mod (s : State) (f : RingUnit → RingUnit) : (s.modRe f).mod = s.mod := rfl
@[simp] theorem State.modRe_ports (s : State) (f : RingUnit → RingUnit) : (s.modRe f).ports = s.ports := rfl
@[simp] theorem State.modRe_gates (s : State) (f : RingUnit → RingUnit) : (s.modRe f).gates = s.gates := rfl
@[simp] theorem State.modRe_sats (s : State) (f : RingUnit → RingUnit) : (s.modRe f).sats = s.sats := rfl
@[simp] theorem State.modRe_prot (s : State) (f : RingUnit → RingUnit) : (s.modRe f).prot = s.prot := rfl
@[simp] theorem State.modRe_shut (s : State) (f : RingUnit → RingUnit) : (s.modRe f).shut = s.shut := rfl
@[simp] theorem State.modRe_chamois (s : State) (f : RingUnit → RingUnit) : (s.modRe f).chamois = s.chamois := rfl
@[simp] theorem State.modRe_sw (s : State) (f : RingUnit → RingUnit) : (s.modRe f).sw = s.sw := rfl
@[simp] theorem State.modRe_tahr (s : State) (f : RingUnit → RingUnit) : (s.modRe f).tahr = s.tahr := rfl
@[simp] theorem State.modRe_pwr (s : State) (f : RingUnit → RingUnit) : (s.modRe f).pwr = s.pwr := rfl
@[simp] theorem State.modRe_store (s : State) (f : RingUnit → RingUnit) : (s.modRe f).store = s.store := rfl
@[simp] theorem State.modRe_lock (s : State) (f : RingUnit → RingUnit) : (s.modRe f).lock = s.lock := rfl
@[simp] theorem State.modRe_trace (s : State) (f : RingUnit → RingUnit) : (s.modRe f).trace = s.trace := rfl
@[simp] theorem State.modRe_re (s : State) (f : RingUnit → RingUnit) : (s.modRe f).re = f s.re := rfl
@[simp] theorem State.modRe_can (s : State) (f : RingUnit → RingUnit) : (s.modRe f).can = s.can := rfl
@[simp] theorem State.modRe_aux (s : State) (f : RingUnit → RingUnit) : (s.modRe f).aux = s.aux := rfl
@[simp] theorem State.modRe_st (s : State) (f : RingUnit → RingUnit) : (s.modRe f).st = s.st := rfl

/-! ## modCan -/

@[simp] theorem State.modCan_pending (s : State) (i : Fin 4) (f : CanCtl → CanCtl) : (s.modCan i f).pending = s.pending := rfl
@[simp] theorem State.modCan_part (s : State) (i : Fin 4) (f : CanCtl → CanCtl) : (s.modCan i f).part = s.part := rfl
@[simp] theorem State.modCan_now (s : State) (i : Fin 4) (f : CanCtl → CanCtl) : (s.modCan i f).now = s.now := rfl
@[simp] theorem State.modCan_freeCtr (s : State) (i : Fin 4) (f : CanCtl → CanCtl) : (s.modCan i f).freeCtr = s.freeCtr := rfl
@[simp] theorem State.modCan_regs (s : State) (i : Fin 4) (f : CanCtl → CanCtl) : (s.modCan i f).regs = s.regs := rfl
@[simp] theorem State.modCan_outs (s : State) (i : Fin 4) (f : CanCtl → CanCtl) : (s.modCan i f).outs = s.outs := rfl
@[simp] theorem State.modCan_links (s : State) (i : Fin 4) (f : CanCtl → CanCtl) : (s.modCan i f).links = s.links := rfl
@[simp] theorem State.modCan_clocks (s : State) (i : Fin 4) (f : CanCtl → CanCtl) : (s.modCan i f).clocks = s.clocks := rfl
@[simp] theorem State.modCan_tb (s : State) (i : Fin 4) (f : CanCtl → CanCtl) : (s.modCan i f).tb = s.tb := rfl
@[simp] theorem State.modCan_timers (s : State) (i : Fin 4) (f : CanCtl → CanCtl) : (s.modCan i f).timers = s.timers := rfl
@[simp] theorem State.modCan_timerReqs (s : State) (i : Fin 4) (f : CanCtl → CanCtl) : (s.modCan i f).timerReqs = s.timerReqs := rfl
@[simp] theorem State.modCan_wires (s : State) (i : Fin 4) (f : CanCtl → CanCtl) : (s.modCan i f).wires = s.wires := rfl
@[simp] theorem State.modCan_ch (s : State) (i : Fin 4) (f : CanCtl → CanCtl) : (s.modCan i f).ch = s.ch := rfl
@[simp] theorem State.modCan_syncOutEnd (s : State) (i : Fin 4) (f : CanCtl → CanCtl) : (s.modCan i f).syncOutEnd = s.syncOutEnd := rfl
@[simp] theorem State.modCan_ctrl (s : State) (i : Fin 4) (f : CanCtl → CanCtl) : (s.modCan i f).ctrl = s.ctrl := rfl
@[simp] theorem State.modCan_verdicts (s : State) (i : Fin 4) (f : CanCtl → CanCtl) : (s.modCan i f).verdicts = s.verdicts := rfl
@[simp] theorem State.modCan_forward (s : State) (i : Fin 4) (f : CanCtl → CanCtl) : (s.modCan i f).forward = s.forward := rfl
@[simp] theorem State.modCan_plan (s : State) (i : Fin 4) (f : CanCtl → CanCtl) : (s.modCan i f).plan = s.plan := rfl
@[simp] theorem State.modCan_planner (s : State) (i : Fin 4) (f : CanCtl → CanCtl) : (s.modCan i f).planner = s.planner := rfl
@[simp] theorem State.modCan_ev (s : State) (i : Fin 4) (f : CanCtl → CanCtl) : (s.modCan i f).ev = s.ev := rfl
@[simp] theorem State.modCan_glb (s : State) (i : Fin 4) (f : CanCtl → CanCtl) : (s.modCan i f).glb = s.glb := rfl
@[simp] theorem State.modCan_done (s : State) (i : Fin 4) (f : CanCtl → CanCtl) : (s.modCan i f).done = s.done := rfl
@[simp] theorem State.modCan_sense (s : State) (i : Fin 4) (f : CanCtl → CanCtl) : (s.modCan i f).sense = s.sense := rfl
@[simp] theorem State.modCan_meas (s : State) (i : Fin 4) (f : CanCtl → CanCtl) : (s.modCan i f).meas = s.meas := rfl
@[simp] theorem State.modCan_smp (s : State) (i : Fin 4) (f : CanCtl → CanCtl) : (s.modCan i f).smp = s.smp := rfl
@[simp] theorem State.modCan_sampleMem (s : State) (i : Fin 4) (f : CanCtl → CanCtl) : (s.modCan i f).sampleMem = s.sampleMem := rfl
@[simp] theorem State.modCan_pos (s : State) (i : Fin 4) (f : CanCtl → CanCtl) : (s.modCan i f).pos = s.pos := rfl
@[simp] theorem State.modCan_mod (s : State) (i : Fin 4) (f : CanCtl → CanCtl) : (s.modCan i f).mod = s.mod := rfl
@[simp] theorem State.modCan_ports (s : State) (i : Fin 4) (f : CanCtl → CanCtl) : (s.modCan i f).ports = s.ports := rfl
@[simp] theorem State.modCan_gates (s : State) (i : Fin 4) (f : CanCtl → CanCtl) : (s.modCan i f).gates = s.gates := rfl
@[simp] theorem State.modCan_sats (s : State) (i : Fin 4) (f : CanCtl → CanCtl) : (s.modCan i f).sats = s.sats := rfl
@[simp] theorem State.modCan_prot (s : State) (i : Fin 4) (f : CanCtl → CanCtl) : (s.modCan i f).prot = s.prot := rfl
@[simp] theorem State.modCan_shut (s : State) (i : Fin 4) (f : CanCtl → CanCtl) : (s.modCan i f).shut = s.shut := rfl
@[simp] theorem State.modCan_chamois (s : State) (i : Fin 4) (f : CanCtl → CanCtl) : (s.modCan i f).chamois = s.chamois := rfl
@[simp] theorem State.modCan_sw (s : State) (i : Fin 4) (f : CanCtl → CanCtl) : (s.modCan i f).sw = s.sw := rfl
@[simp] theorem State.modCan_tahr (s : State) (i : Fin 4) (f : CanCtl → CanCtl) : (s.modCan i f).tahr = s.tahr := rfl
@[simp] theorem State.modCan_pwr (s : State) (i : Fin 4) (f : CanCtl → CanCtl) : (s.modCan i f).pwr = s.pwr := rfl
@[simp] theorem State.modCan_store (s : State) (i : Fin 4) (f : CanCtl → CanCtl) : (s.modCan i f).store = s.store := rfl
@[simp] theorem State.modCan_lock (s : State) (i : Fin 4) (f : CanCtl → CanCtl) : (s.modCan i f).lock = s.lock := rfl
@[simp] theorem State.modCan_trace (s : State) (i : Fin 4) (f : CanCtl → CanCtl) : (s.modCan i f).trace = s.trace := rfl
@[simp] theorem State.modCan_re (s : State) (i : Fin 4) (f : CanCtl → CanCtl) : (s.modCan i f).re = s.re := rfl
@[simp] theorem State.modCan_can (s : State) (i : Fin 4) (f : CanCtl → CanCtl) : (s.modCan i f).can = vUpd s.can i f := rfl
@[simp] theorem State.modCan_aux (s : State) (i : Fin 4) (f : CanCtl → CanCtl) : (s.modCan i f).aux = s.aux := rfl
@[simp] theorem State.modCan_st (s : State) (i : Fin 4) (f : CanCtl → CanCtl) : (s.modCan i f).st = s.st := rfl

/-! ## modAux -/

@[simp] theorem State.modAux_pending (s : State) (n : AuxSlot) (f : SlotUnit → SlotUnit) : (s.modAux n f).pending = s.pending := rfl
@[simp] theorem State.modAux_part (s : State) (n : AuxSlot) (f : SlotUnit → SlotUnit) : (s.modAux n f).part = s.part := rfl
@[simp] theorem State.modAux_now (s : State) (n : AuxSlot) (f : SlotUnit → SlotUnit) : (s.modAux n f).now = s.now := rfl
@[simp] theorem State.modAux_freeCtr (s : State) (n : AuxSlot) (f : SlotUnit → SlotUnit) : (s.modAux n f).freeCtr = s.freeCtr := rfl
@[simp] theorem State.modAux_regs (s : State) (n : AuxSlot) (f : SlotUnit → SlotUnit) : (s.modAux n f).regs = s.regs := rfl
@[simp] theorem State.modAux_outs (s : State) (n : AuxSlot) (f : SlotUnit → SlotUnit) : (s.modAux n f).outs = s.outs := rfl
@[simp] theorem State.modAux_links (s : State) (n : AuxSlot) (f : SlotUnit → SlotUnit) : (s.modAux n f).links = s.links := rfl
@[simp] theorem State.modAux_clocks (s : State) (n : AuxSlot) (f : SlotUnit → SlotUnit) : (s.modAux n f).clocks = s.clocks := rfl
@[simp] theorem State.modAux_tb (s : State) (n : AuxSlot) (f : SlotUnit → SlotUnit) : (s.modAux n f).tb = s.tb := rfl
@[simp] theorem State.modAux_timers (s : State) (n : AuxSlot) (f : SlotUnit → SlotUnit) : (s.modAux n f).timers = s.timers := rfl
@[simp] theorem State.modAux_timerReqs (s : State) (n : AuxSlot) (f : SlotUnit → SlotUnit) : (s.modAux n f).timerReqs = s.timerReqs := rfl
@[simp] theorem State.modAux_wires (s : State) (n : AuxSlot) (f : SlotUnit → SlotUnit) : (s.modAux n f).wires = s.wires := rfl
@[simp] theorem State.modAux_ch (s : State) (n : AuxSlot) (f : SlotUnit → SlotUnit) : (s.modAux n f).ch = s.ch := rfl
@[simp] theorem State.modAux_syncOutEnd (s : State) (n : AuxSlot) (f : SlotUnit → SlotUnit) : (s.modAux n f).syncOutEnd = s.syncOutEnd := rfl
@[simp] theorem State.modAux_ctrl (s : State) (n : AuxSlot) (f : SlotUnit → SlotUnit) : (s.modAux n f).ctrl = s.ctrl := rfl
@[simp] theorem State.modAux_verdicts (s : State) (n : AuxSlot) (f : SlotUnit → SlotUnit) : (s.modAux n f).verdicts = s.verdicts := rfl
@[simp] theorem State.modAux_forward (s : State) (n : AuxSlot) (f : SlotUnit → SlotUnit) : (s.modAux n f).forward = s.forward := rfl
@[simp] theorem State.modAux_plan (s : State) (n : AuxSlot) (f : SlotUnit → SlotUnit) : (s.modAux n f).plan = s.plan := rfl
@[simp] theorem State.modAux_planner (s : State) (n : AuxSlot) (f : SlotUnit → SlotUnit) : (s.modAux n f).planner = s.planner := rfl
@[simp] theorem State.modAux_ev (s : State) (n : AuxSlot) (f : SlotUnit → SlotUnit) : (s.modAux n f).ev = s.ev := rfl
@[simp] theorem State.modAux_glb (s : State) (n : AuxSlot) (f : SlotUnit → SlotUnit) : (s.modAux n f).glb = s.glb := rfl
@[simp] theorem State.modAux_done (s : State) (n : AuxSlot) (f : SlotUnit → SlotUnit) : (s.modAux n f).done = s.done := rfl
@[simp] theorem State.modAux_sense (s : State) (n : AuxSlot) (f : SlotUnit → SlotUnit) : (s.modAux n f).sense = s.sense := rfl
@[simp] theorem State.modAux_meas (s : State) (n : AuxSlot) (f : SlotUnit → SlotUnit) : (s.modAux n f).meas = s.meas := rfl
@[simp] theorem State.modAux_smp (s : State) (n : AuxSlot) (f : SlotUnit → SlotUnit) : (s.modAux n f).smp = s.smp := rfl
@[simp] theorem State.modAux_sampleMem (s : State) (n : AuxSlot) (f : SlotUnit → SlotUnit) : (s.modAux n f).sampleMem = s.sampleMem := rfl
@[simp] theorem State.modAux_pos (s : State) (n : AuxSlot) (f : SlotUnit → SlotUnit) : (s.modAux n f).pos = s.pos := rfl
@[simp] theorem State.modAux_mod (s : State) (n : AuxSlot) (f : SlotUnit → SlotUnit) : (s.modAux n f).mod = s.mod := rfl
@[simp] theorem State.modAux_ports (s : State) (n : AuxSlot) (f : SlotUnit → SlotUnit) : (s.modAux n f).ports = s.ports := rfl
@[simp] theorem State.modAux_gates (s : State) (n : AuxSlot) (f : SlotUnit → SlotUnit) : (s.modAux n f).gates = s.gates := rfl
@[simp] theorem State.modAux_sats (s : State) (n : AuxSlot) (f : SlotUnit → SlotUnit) : (s.modAux n f).sats = s.sats := rfl
@[simp] theorem State.modAux_prot (s : State) (n : AuxSlot) (f : SlotUnit → SlotUnit) : (s.modAux n f).prot = s.prot := rfl
@[simp] theorem State.modAux_shut (s : State) (n : AuxSlot) (f : SlotUnit → SlotUnit) : (s.modAux n f).shut = s.shut := rfl
@[simp] theorem State.modAux_chamois (s : State) (n : AuxSlot) (f : SlotUnit → SlotUnit) : (s.modAux n f).chamois = s.chamois := rfl
@[simp] theorem State.modAux_sw (s : State) (n : AuxSlot) (f : SlotUnit → SlotUnit) : (s.modAux n f).sw = s.sw := rfl
@[simp] theorem State.modAux_tahr (s : State) (n : AuxSlot) (f : SlotUnit → SlotUnit) : (s.modAux n f).tahr = s.tahr := rfl
@[simp] theorem State.modAux_pwr (s : State) (n : AuxSlot) (f : SlotUnit → SlotUnit) : (s.modAux n f).pwr = s.pwr := rfl
@[simp] theorem State.modAux_store (s : State) (n : AuxSlot) (f : SlotUnit → SlotUnit) : (s.modAux n f).store = s.store := rfl
@[simp] theorem State.modAux_lock (s : State) (n : AuxSlot) (f : SlotUnit → SlotUnit) : (s.modAux n f).lock = s.lock := rfl
@[simp] theorem State.modAux_trace (s : State) (n : AuxSlot) (f : SlotUnit → SlotUnit) : (s.modAux n f).trace = s.trace := rfl
@[simp] theorem State.modAux_re (s : State) (n : AuxSlot) (f : SlotUnit → SlotUnit) : (s.modAux n f).re = s.re := rfl
@[simp] theorem State.modAux_can (s : State) (n : AuxSlot) (f : SlotUnit → SlotUnit) : (s.modAux n f).can = s.can := rfl
@[simp] theorem State.modAux_st (s : State) (n : AuxSlot) (f : SlotUnit → SlotUnit) : (s.modAux n f).st = s.st := rfl

/-! ## modTest -/

@[simp] theorem State.modTest_pending (s : State) (f : SelfTest → SelfTest) : (s.modTest f).pending = s.pending := rfl
@[simp] theorem State.modTest_part (s : State) (f : SelfTest → SelfTest) : (s.modTest f).part = s.part := rfl
@[simp] theorem State.modTest_now (s : State) (f : SelfTest → SelfTest) : (s.modTest f).now = s.now := rfl
@[simp] theorem State.modTest_freeCtr (s : State) (f : SelfTest → SelfTest) : (s.modTest f).freeCtr = s.freeCtr := rfl
@[simp] theorem State.modTest_regs (s : State) (f : SelfTest → SelfTest) : (s.modTest f).regs = s.regs := rfl
@[simp] theorem State.modTest_outs (s : State) (f : SelfTest → SelfTest) : (s.modTest f).outs = s.outs := rfl
@[simp] theorem State.modTest_links (s : State) (f : SelfTest → SelfTest) : (s.modTest f).links = s.links := rfl
@[simp] theorem State.modTest_clocks (s : State) (f : SelfTest → SelfTest) : (s.modTest f).clocks = s.clocks := rfl
@[simp] theorem State.modTest_tb (s : State) (f : SelfTest → SelfTest) : (s.modTest f).tb = s.tb := rfl
@[simp] theorem State.modTest_timers (s : State) (f : SelfTest → SelfTest) : (s.modTest f).timers = s.timers := rfl
@[simp] theorem State.modTest_timerReqs (s : State) (f : SelfTest → SelfTest) : (s.modTest f).timerReqs = s.timerReqs := rfl
@[simp] theorem State.modTest_wires (s : State) (f : SelfTest → SelfTest) : (s.modTest f).wires = s.wires := rfl
@[simp] theorem State.modTest_ch (s : State) (f : SelfTest → SelfTest) : (s.modTest f).ch = s.ch := rfl
@[simp] theorem State.modTest_syncOutEnd (s : State) (f : SelfTest → SelfTest) : (s.modTest f).syncOutEnd = s.syncOutEnd := rfl
@[simp] theorem State.modTest_ctrl (s : State) (f : SelfTest → SelfTest) : (s.modTest f).ctrl = s.ctrl := rfl
@[simp] theorem State.modTest_verdicts (s : State) (f : SelfTest → SelfTest) : (s.modTest f).verdicts = s.verdicts := rfl
@[simp] theorem State.modTest_forward (s : State) (f : SelfTest → SelfTest) : (s.modTest f).forward = s.forward := rfl
@[simp] theorem State.modTest_plan (s : State) (f : SelfTest → SelfTest) : (s.modTest f).plan = s.plan := rfl
@[simp] theorem State.modTest_planner (s : State) (f : SelfTest → SelfTest) : (s.modTest f).planner = s.planner := rfl
@[simp] theorem State.modTest_ev (s : State) (f : SelfTest → SelfTest) : (s.modTest f).ev = s.ev := rfl
@[simp] theorem State.modTest_glb (s : State) (f : SelfTest → SelfTest) : (s.modTest f).glb = s.glb := rfl
@[simp] theorem State.modTest_done (s : State) (f : SelfTest → SelfTest) : (s.modTest f).done = s.done := rfl
@[simp] theorem State.modTest_sense (s : State) (f : SelfTest → SelfTest) : (s.modTest f).sense = s.sense := rfl
@[simp] theorem State.modTest_meas (s : State) (f : SelfTest → SelfTest) : (s.modTest f).meas = s.meas := rfl
@[simp] theorem State.modTest_smp (s : State) (f : SelfTest → SelfTest) : (s.modTest f).smp = s.smp := rfl
@[simp] theorem State.modTest_sampleMem (s : State) (f : SelfTest → SelfTest) : (s.modTest f).sampleMem = s.sampleMem := rfl
@[simp] theorem State.modTest_pos (s : State) (f : SelfTest → SelfTest) : (s.modTest f).pos = s.pos := rfl
@[simp] theorem State.modTest_mod (s : State) (f : SelfTest → SelfTest) : (s.modTest f).mod = s.mod := rfl
@[simp] theorem State.modTest_ports (s : State) (f : SelfTest → SelfTest) : (s.modTest f).ports = s.ports := rfl
@[simp] theorem State.modTest_gates (s : State) (f : SelfTest → SelfTest) : (s.modTest f).gates = s.gates := rfl
@[simp] theorem State.modTest_sats (s : State) (f : SelfTest → SelfTest) : (s.modTest f).sats = s.sats := rfl
@[simp] theorem State.modTest_prot (s : State) (f : SelfTest → SelfTest) : (s.modTest f).prot = s.prot := rfl
@[simp] theorem State.modTest_shut (s : State) (f : SelfTest → SelfTest) : (s.modTest f).shut = s.shut := rfl
@[simp] theorem State.modTest_chamois (s : State) (f : SelfTest → SelfTest) : (s.modTest f).chamois = s.chamois := rfl
@[simp] theorem State.modTest_sw (s : State) (f : SelfTest → SelfTest) : (s.modTest f).sw = s.sw := rfl
@[simp] theorem State.modTest_tahr (s : State) (f : SelfTest → SelfTest) : (s.modTest f).tahr = s.tahr := rfl
@[simp] theorem State.modTest_pwr (s : State) (f : SelfTest → SelfTest) : (s.modTest f).pwr = s.pwr := rfl
@[simp] theorem State.modTest_store (s : State) (f : SelfTest → SelfTest) : (s.modTest f).store = s.store := rfl
@[simp] theorem State.modTest_lock (s : State) (f : SelfTest → SelfTest) : (s.modTest f).lock = s.lock := rfl
@[simp] theorem State.modTest_trace (s : State) (f : SelfTest → SelfTest) : (s.modTest f).trace = s.trace := rfl
@[simp] theorem State.modTest_re (s : State) (f : SelfTest → SelfTest) : (s.modTest f).re = s.re := rfl
@[simp] theorem State.modTest_can (s : State) (f : SelfTest → SelfTest) : (s.modTest f).can = s.can := rfl
@[simp] theorem State.modTest_aux (s : State) (f : SelfTest → SelfTest) : (s.modTest f).aux = s.aux := rfl
@[simp] theorem State.modTest_st (s : State) (f : SelfTest → SelfTest) : (s.modTest f).st = f s.st := rfl

/-! ## fresh -/

@[simp] theorem State.fresh_pending (s : State) (w : Nat) : (s.fresh w).2.pending = s.pending := rfl
@[simp] theorem State.fresh_part (s : State) (w : Nat) : (s.fresh w).2.part = s.part := rfl
@[simp] theorem State.fresh_now (s : State) (w : Nat) : (s.fresh w).2.now = s.now := rfl
@[simp] theorem State.fresh_freeCtr (s : State) (w : Nat) : (s.fresh w).2.freeCtr = s.freeCtr + 1 := rfl
@[simp] theorem State.fresh_regs (s : State) (w : Nat) : (s.fresh w).2.regs = s.regs := rfl
@[simp] theorem State.fresh_outs (s : State) (w : Nat) : (s.fresh w).2.outs = s.outs := rfl
@[simp] theorem State.fresh_links (s : State) (w : Nat) : (s.fresh w).2.links = s.links := rfl
@[simp] theorem State.fresh_clocks (s : State) (w : Nat) : (s.fresh w).2.clocks = s.clocks := rfl
@[simp] theorem State.fresh_tb (s : State) (w : Nat) : (s.fresh w).2.tb = s.tb := rfl
@[simp] theorem State.fresh_timers (s : State) (w : Nat) : (s.fresh w).2.timers = s.timers := rfl
@[simp] theorem State.fresh_timerReqs (s : State) (w : Nat) : (s.fresh w).2.timerReqs = s.timerReqs := rfl
@[simp] theorem State.fresh_wires (s : State) (w : Nat) : (s.fresh w).2.wires = s.wires := rfl
@[simp] theorem State.fresh_ch (s : State) (w : Nat) : (s.fresh w).2.ch = s.ch := rfl
@[simp] theorem State.fresh_syncOutEnd (s : State) (w : Nat) : (s.fresh w).2.syncOutEnd = s.syncOutEnd := rfl
@[simp] theorem State.fresh_ctrl (s : State) (w : Nat) : (s.fresh w).2.ctrl = s.ctrl := rfl
@[simp] theorem State.fresh_verdicts (s : State) (w : Nat) : (s.fresh w).2.verdicts = s.verdicts := rfl
@[simp] theorem State.fresh_forward (s : State) (w : Nat) : (s.fresh w).2.forward = s.forward := rfl
@[simp] theorem State.fresh_plan (s : State) (w : Nat) : (s.fresh w).2.plan = s.plan := rfl
@[simp] theorem State.fresh_planner (s : State) (w : Nat) : (s.fresh w).2.planner = s.planner := rfl
@[simp] theorem State.fresh_ev (s : State) (w : Nat) : (s.fresh w).2.ev = s.ev := rfl
@[simp] theorem State.fresh_glb (s : State) (w : Nat) : (s.fresh w).2.glb = s.glb := rfl
@[simp] theorem State.fresh_done (s : State) (w : Nat) : (s.fresh w).2.done = s.done := rfl
@[simp] theorem State.fresh_sense (s : State) (w : Nat) : (s.fresh w).2.sense = s.sense := rfl
@[simp] theorem State.fresh_meas (s : State) (w : Nat) : (s.fresh w).2.meas = s.meas := rfl
@[simp] theorem State.fresh_smp (s : State) (w : Nat) : (s.fresh w).2.smp = s.smp := rfl
@[simp] theorem State.fresh_sampleMem (s : State) (w : Nat) : (s.fresh w).2.sampleMem = s.sampleMem := rfl
@[simp] theorem State.fresh_pos (s : State) (w : Nat) : (s.fresh w).2.pos = s.pos := rfl
@[simp] theorem State.fresh_mod (s : State) (w : Nat) : (s.fresh w).2.mod = s.mod := rfl
@[simp] theorem State.fresh_ports (s : State) (w : Nat) : (s.fresh w).2.ports = s.ports := rfl
@[simp] theorem State.fresh_gates (s : State) (w : Nat) : (s.fresh w).2.gates = s.gates := rfl
@[simp] theorem State.fresh_sats (s : State) (w : Nat) : (s.fresh w).2.sats = s.sats := rfl
@[simp] theorem State.fresh_prot (s : State) (w : Nat) : (s.fresh w).2.prot = s.prot := rfl
@[simp] theorem State.fresh_shut (s : State) (w : Nat) : (s.fresh w).2.shut = s.shut := rfl
@[simp] theorem State.fresh_chamois (s : State) (w : Nat) : (s.fresh w).2.chamois = s.chamois := rfl
@[simp] theorem State.fresh_sw (s : State) (w : Nat) : (s.fresh w).2.sw = s.sw := rfl
@[simp] theorem State.fresh_tahr (s : State) (w : Nat) : (s.fresh w).2.tahr = s.tahr := rfl
@[simp] theorem State.fresh_pwr (s : State) (w : Nat) : (s.fresh w).2.pwr = s.pwr := rfl
@[simp] theorem State.fresh_store (s : State) (w : Nat) : (s.fresh w).2.store = s.store := rfl
@[simp] theorem State.fresh_lock (s : State) (w : Nat) : (s.fresh w).2.lock = s.lock := rfl
@[simp] theorem State.fresh_trace (s : State) (w : Nat) : (s.fresh w).2.trace = s.trace := rfl
@[simp] theorem State.fresh_re (s : State) (w : Nat) : (s.fresh w).2.re = s.re := rfl
@[simp] theorem State.fresh_can (s : State) (w : Nat) : (s.fresh w).2.can = s.can := rfl
@[simp] theorem State.fresh_aux (s : State) (w : Nat) : (s.fresh w).2.aux = s.aux := rfl
@[simp] theorem State.fresh_st (s : State) (w : Nat) : (s.fresh w).2.st = s.st := rfl
@[simp] theorem State.fresh_value (s : State) (w : Nat) : (s.fresh w).1 = Config.free w s.freeCtr := rfl

end Sys2Proof.Machine
end

