-- ==== Sys2Proof/Laws/Quiet.lean ====
section
/-! SUPPORT. What a commit to the signal board and a change of the stop wires leave alone (Quiet), said once for each shared operation behind them, so that no proof unfolds them. -/

namespace Sys2Proof.Machine

/-- t differs from s at most in the control dies, the links and what leaves on them, the events, the trace units, the modulators, the satellites, the stop wires' outputs and what the consumers of a commit hold. -/
structure Quiet (s t : State) : Prop where
  pending : t.pending = s.pending
  part : t.part = s.part
  now : t.now = s.now
  freeCtr : t.freeCtr = s.freeCtr
  regs : t.regs = s.regs
  regsB : t.regsB = s.regsB
  clocks : t.clocks = s.clocks
  tb : t.tb = s.tb
  timers : t.timers = s.timers
  timerReqs : t.timerReqs = s.timerReqs
  wires : t.wires = s.wires
  ch : t.ch = s.ch
  syncOutEnd : t.syncOutEnd = s.syncOutEnd
  verdicts : t.verdicts = s.verdicts
  forward : t.forward = s.forward
  plan : t.plan = s.plan
  planner : t.planner = s.planner
  glb : t.glb = s.glb
  done : t.done = s.done
  calibration : t.calibration = s.calibration
  sense : t.sense = s.sense
  smp : t.smp = s.smp
  sampleMem : t.sampleMem = s.sampleMem
  sampleMemB : t.sampleMemB = s.sampleMemB
  pos : t.pos = s.pos
  ports : t.ports = s.ports
  gates : t.gates = s.gates
  prot : t.prot = s.prot
  shut : t.shut = s.shut
  chamois : t.chamois = s.chamois
  pwr : t.pwr = s.pwr
  store : t.store = s.store
  lock : t.lock = s.lock
  re : t.re = s.re
  can : t.can = s.can
  st : t.st = s.st

theorem Quiet.refl (s : State) : Quiet s s := by constructor <;> rfl
theorem Quiet.trans {s t u : State} (h : Quiet s t) (k : Quiet t u) : Quiet s u := by
  constructor
  all_goals first
    | exact k.pending.trans h.pending | exact k.part.trans h.part | exact k.now.trans h.now | exact k.freeCtr.trans h.freeCtr
    | exact k.regs.trans h.regs | exact k.regsB.trans h.regsB | exact k.clocks.trans h.clocks | exact k.tb.trans h.tb
    | exact k.timers.trans h.timers | exact k.timerReqs.trans h.timerReqs | exact k.wires.trans h.wires | exact k.ch.trans h.ch
    | exact k.syncOutEnd.trans h.syncOutEnd | exact k.verdicts.trans h.verdicts | exact k.forward.trans h.forward | exact k.plan.trans h.plan
    | exact k.planner.trans h.planner | exact k.glb.trans h.glb | exact k.done.trans h.done | exact k.calibration.trans h.calibration
    | exact k.sense.trans h.sense | exact k.smp.trans h.smp | exact k.sampleMem.trans h.sampleMem | exact k.sampleMemB.trans h.sampleMemB
    | exact k.pos.trans h.pos | exact k.ports.trans h.ports | exact k.gates.trans h.gates | exact k.prot.trans h.prot
    | exact k.shut.trans h.shut | exact k.chamois.trans h.chamois | exact k.pwr.trans h.pwr | exact k.store.trans h.store
    | exact k.lock.trans h.lock | exact k.re.trans h.re | exact k.can.trans h.can | exact k.st.trans h.st
theorem quiet_foldl {α : Type} {z : State} {f : State → α → State} {l : List α} {u : State} (hf : ∀ v x, Quiet v (f v x)) (h : Quiet z u) : Quiet z (l.foldl f u) := by
  induction l generalizing u with
  | nil => exact h
  | cons a l ih => exact ih (h.trans (hf _ _))
theorem quiet_ite {z a b : State} {c : Prop} [Decidable c] (h1 : Quiet z a) (h2 : Quiet z b) : Quiet z (if c then a else b) := by
  split
  · exact h1
  · exact h2

theorem raiseAt_quiet (s : State) (n a b g : Nat) (p : List Word) : Quiet s (s.raiseAt n a b g p) := by constructor <;> rfl
theorem raise_quiet (s : State) (a b g : Nat) (p : List Word) : Quiet s (s.raise a b g p) := by constructor <;> rfl
theorem raiseAll_quiet (s : State) (es : List Event) : Quiet s (s.raiseAll es) := by
  induction es generalizing s with
  | nil => exact Quiet.refl s
  | cons e es ih => exact (raiseAt_quiet s _ _ _ _ _).trans (ih _)
theorem modCtrl_quiet (s : State) (d : CtrlId) (f : CtrlDie → CtrlDie) : Quiet s (s.modCtrl d f) := by constructor <;> rfl
theorem modMod_quiet (s : State) (c : Channel) (f : Modulator → Modulator) : Quiet s (s.modMod c f) := by constructor <;> rfl
theorem modSat_quiet (s : State) (t : Port) (f : Satellite → Satellite) : Quiet s (s.modSat t f) := by constructor <;> rfl
theorem modTahr_quiet (s : State) (f : Tahr → Tahr) : Quiet s (s.modTahr f) := by constructor <;> rfl
theorem emit_quiet (s : State) (m : OutMsg) : Quiet s (s.emit m) := by constructor <;> rfl
theorem modLink_quiet (s : State) (i : Fin 27) (f : D2dLink → D2dLink) : Quiet s (s.modLink i f) := by constructor <;> rfl
theorem sendFlit_quiet (s : State) (l : Fin 27) (ty n : Nat) (p : BitVec 96) : Quiet s (s.sendFlit l ty n p) := by
  simp only [State.sendFlit]
  exact quiet_ite (Quiet.refl s) (quiet_ite (modLink_quiet s _ _) ((modLink_quiet s _ _).trans (emit_quiet _ _)))
theorem sendWords_quiet (s : State) (a b : Die) (k : String) (ws : List Nat) : Quiet s (s.sendWords a b k ws) := by
  simp only [State.sendWords]
  split
  · exact Quiet.refl s
  · exact quiet_foldl (fun v x => sendFlit_quiet v _ _ _ _) (Quiet.refl s)
theorem sendDie_quiet (s : State) (a b : Die) (k : String) (ws : List Nat) : Quiet s (s.sendDie a b k ws) :=
  quiet_ite ((sendWords_quiet s _ _ _ _).trans (emit_quiet _ _)) (Quiet.refl s)
theorem stopTrace_quiet (s : State) (r : Nat) : Quiet s (s.stopTrace r) := by constructor <;> rfl
theorem traceOne_quiet (s : State) (n : Nat) (w : Nat × Word) : Quiet s (s.traceOne n w) := by
  simp only [State.traceOne]
  split
  · split
    · exact Quiet.trans (t := { s with trace := (s.trace.take (s.die .a) s.now n w).1 }) (by constructor <;> rfl) (stopTrace_quiet _ _)
    · constructor <;> rfl
  · exact Quiet.refl s
theorem traceOneB_quiet (s : State) (n : Nat) (w : Nat × Word) : Quiet s (s.traceOneB n w) := by
  simp only [State.traceOneB]
  split
  · constructor <;> rfl
  · exact Quiet.refl s
theorem sendDelivery_quiet (s : State) (o n : Nat) (w : Kv Word) : Quiet s (s.sendDelivery o n w) := by
  simp only [State.sendDelivery]
  split
  · exact Quiet.refl s
  · exact (sendWords_quiet s _ _ _ _).trans (sendWords_quiet _ _ _ _ _)
theorem sendAdcRequest_quiet (s : State) (c : Channel) : Quiet s (s.sendAdcRequest c) := by
  simp only [State.sendAdcRequest]
  refine quiet_ite (Quiet.trans ?_ (sendDie_quiet _ _ _ _ _)) (Quiet.refl s)
  constructor <;> rfl
theorem sendCommand_quiet (s : State) (c : Channel) : Quiet s (s.sendCommand c) := by
  simp only [State.sendCommand]
  refine quiet_ite (Quiet.trans ?_ (sendDie_quiet _ _ _ _ _)) (Quiet.refl s)
  constructor <;> rfl
theorem sendCanBlock_quiet (s : State) (n b : Nat) : Quiet s (s.sendCanBlock n b) := by
  simp only [State.sendCanBlock]
  refine quiet_ite (Quiet.trans ?_ (sendDie_quiet _ _ _ _ _)) (Quiet.refl s)
  constructor <;> rfl
theorem sendMeas_quiet (s : State) (n : Nat) (c : Channel) : Quiet s (s.sendMeas n c) := by
  simp only [State.sendMeas]
  refine quiet_ite (Quiet.trans ?_ (sendDie_quiet _ _ _ _ _)) (Quiet.refl s)
  constructor <;> rfl
theorem sendSlotCommand_quiet (s : State) (n : Nat) (c : AuxSlot) : Quiet s (s.sendSlotCommand n c) := by
  simp only [State.sendSlotCommand]
  refine quiet_ite (Quiet.trans ?_ (sendDie_quiet _ _ _ _ _)) (Quiet.refl s)
  constructor <;> rfl
theorem sendSubscribed_quiet (s : State) (n : Nat) (w : Kv Word) : Quiet s (s.sendSubscribed n w) := by
  simp only [State.sendSubscribed]
  exact quiet_foldl (fun v x => sendSlotCommand_quiet v _ _) (quiet_foldl (fun v x => sendCanBlock_quiet v _ _) (quiet_foldl (fun v x => sendMeas_quiet v _ _)
    (quiet_foldl (fun v x => sendAdcRequest_quiet v _) (quiet_foldl (fun v x => sendCommand_quiet v _) (Quiet.refl s)))))
theorem traceCommit_quiet (s : State) (d : CtrlId) (n : Nat) (w : Kv Word) : Quiet s (s.traceCommit d n w) := by
  cases d
  · exact (quiet_foldl (fun v x => traceOne_quiet v _ _) (Quiet.refl s)).trans (sendSubscribed_quiet _ _ _)
  · exact quiet_foldl (fun v x => traceOneB_quiet v _ _) (Quiet.refl s)
/-- A commit to the board that both dies take (R28, R92). -/
theorem hwCommit_quiet (s : State) (o n : Nat) (w : Kv Word) : Quiet s (s.hwCommit o n w) := by
  have one : ∀ (v : State) (d : CtrlId), Quiet v (if v.reaches o d then
      ((if d = .a then (v.modCtrl d (fun _ => ((v.die d).commit v.now o n w).die)).raiseAll ((v.die d).commit v.now o n w).events
        else v.modCtrl d (fun _ => ((v.die d).commit v.now o n w).die)).traceCommit d n ((v.die d).commit v.now o n w).written) else v) := by
    intro v d
    exact quiet_ite ((quiet_ite ((modCtrl_quiet v _ _).trans (raiseAll_quiet _ _)) (modCtrl_quiet v _ _)).trans (traceCommit_quiet _ _ _ _)) (Quiet.refl v)
  exact ((sendDelivery_quiet s o n w).trans (one _ .a)).trans (one _ .b)
theorem publishSwitching_quiet (s : State) (c : Channel) (b : Bool) : Quiet s (s.publishSwitching c b) :=
  (modMod_quiet s _ _).trans (hwCommit_quiet _ _ _ _)
theorem haltMod_quiet (s : State) (c : Channel) : Quiet s (s.haltMod c) :=
  quiet_ite ((modMod_quiet s _ _).trans (publishSwitching_quiet _ _ _)) (modMod_quiet s _ _)
theorem satWires_quiet (s : State) (c : Channel) : Quiet s (s.satWires c) := by
  simp only [State.satWires]
  refine quiet_foldl (fun v x => ?_) (Quiet.refl s)
  split <;> exact modSat_quiet v _ _
theorem settleCh_quiet (s : State) (c : Channel) : Quiet s (s.settleCh c) := by
  simp only [State.settleCh]
  have h : Quiet s { s with sw := { s.sw with seen := vUpd s.sw.seen c (fun _ => s.stopWires c) } } := by constructor <;> rfl
  exact quiet_ite (Quiet.refl s) (quiet_ite ((h.trans (haltMod_quiet _ _)).trans (satWires_quiet _ _)) (h.trans (satWires_quiet _ _)))
/-- The stop wires have changed: modulators and satellites take note (R41, R367, R423). -/
theorem settle_quiet (s : State) : Quiet s s.settle := quiet_foldl (fun v x => settleCh_quiet v _) (Quiet.refl s)

end Sys2Proof.Machine
end

