-- ==== Sys2Proof/Machine/Pins.lean ====
section
/-! DEFINITION. The levels of the output balls (23_package_electrical.md, R708), from the state of the units that drive them. -/

namespace Sys2Proof.Machine

/-- What an output ball shows. -/
inductive Ball where
  | low
  | high
  | highImpedance
  deriving DecidableEq, Repr

/-- A driven level. -/
def drivenLevel (high : Bool) : Ball := if high then .high else .low

/-- A ball by the columns of R708: until step 8 of the cold start, in RUN, from GRAZE to BED, in YARD and in SHED. -/
def State.ball (s : State) (cold run lower yard shed : Ball) : Ball :=
  if s.pwr.rung = 5 then shed
  else if ¬ s.pwr.started ∧ s.pwr.rung ≤ 3 then cold
  else if s.pwr.rung = 0 then run
  else if s.pwr.rung ≤ 3 then lower
  else yard

/-- STO_A_n, low when asserted. -/
def State.ballStoA (s : State) (c : Channel) : Ball := s.ball .low (drivenLevel !(s.stoA c)) .low .low .highImpedance
/-- STO_B_n, low when asserted. -/
def State.ballStoB (s : State) (c : Channel) : Ball := s.ball .low (drivenLevel !(s.stoB c)) .low .low .highImpedance
/-- ASC_n, high when asserted. -/
def State.ballAsc (s : State) (c : Channel) : Ball := s.ball .low (drivenLevel (s.ascN c)) .low .low .highImpedance
/-- DISCH_n, high when asserted (R432). -/
def State.ballDisch (s : State) (c : Channel) : Ball :=
  let driven := drivenLevel s.prot[c].dischPin
  s.ball .low driven driven .highImpedance .highImpedance
/-- FAULT_N (R699). -/
def State.ballFaultN (s : State) : Ball :=
  let driven := drivenLevel !s.faultLow
  s.ball .low driven driven driven .highImpedance
/-- SAFE_STATE_N (R442). -/
def State.ballSafeStateN (s : State) : Ball := s.ball .low (drivenLevel s.safeStateN) .low .low .highImpedance
/-- What a pair or a line that carries frames does: off, idle (recessive on CAN), with frames on it, or high impedance. -/
inductive LineState where
  | off
  | idle
  | driven
  | highImpedance
  deriving DecidableEq, Repr

/-- TP_nn_TX: off while the channel's GA_CFG_n.EN is 0 (R372), idle until the start and in GRAZE, off from CHEW down. -/
def State.ballTpTx (s : State) (t : Port) : LineState :=
  if !s.gaOn (portChannel t) ∨ 2 ≤ s.pwr.rung then .off
  else if ¬ s.pwr.started ∨ s.pwr.rung = 1 then .idle
  else .driven
/-- CAN_k_TX: recessive until the start and while no attempt of the controller is on the bus. -/
def State.ballCanTx (s : State) (k : Fin 4) : LineState :=
  if 4 ≤ s.pwr.rung then .highImpedance
  else if ¬ s.pwr.started ∨ (s.ctl k).onBus.isNone then .idle
  else .driven
/-- GH_k of leg l of a slot, high while its high switch is on (R507); low but in RUN. -/
def State.ballGh (s : State) (n : AuxSlot) (l : Fin 4) : Ball :=
  let p := s.slotPeriod n
  s.ball .low (drivenLevel (s.slotDrives n && (s.slot n).highOn p (s.fld (Reg.slotPwm n.val) 0 9) l (s.now % p))) .low .low .low
/-- GL_k of leg l of a slot, high while its low switch is on (R507); low but in RUN. -/
def State.ballGl (s : State) (n : AuxSlot) (l : Fin 4) : Ball :=
  let p := s.slotPeriod n
  s.ball .low (drivenLevel (s.slotDrives n && (s.slot n).lowOn p (s.fld (Reg.slotPwm n.val) 0 9) l (s.now % p))) .low .low .low
/-- EN_AON (R596, R601). -/
def State.ballEnAon (s : State) : Ball := drivenLevel s.pwr.enAon
/-- EN_MAIN (R596, R601). -/
def State.ballEnMain (s : State) : Ball := drivenLevel s.pwr.enMain
/-- EN_CORE_A and EN_CORE_B (R596, R601). -/
def State.ballEnCore (s : State) : Ball := drivenLevel s.pwr.enCore
/-- BLEAT (R496). -/
def State.ballBleat (s : State) : Ball :=
  let driven := drivenLevel s.sw.bleat
  s.ball .low driven driven .low .highImpedance
/-- SYNC_OUT, one of the other outputs (R81). -/
def State.ballSyncOut (s : State) : Ball :=
  let driven := drivenLevel s.syncOutEnd.isSome
  s.ball .highImpedance driven driven .highImpedance .highImpedance
/-- MCLK_k of a SENSE die, one of the other outputs (R242). -/
def State.ballMclk (s : State) (d : Fin 2) (k : Nat) : Ball :=
  let driven := drivenLevel (s.mclk d k)
  s.ball .highImpedance driven driven .highImpedance .highImpedance
/-- SSI_k_CLK of a SENSE die, one of the other outputs (R295). -/
def State.ballSsiClk (s : State) (d : Fin 2) (k : Fin 4) : Ball :=
  let driven := drivenLevel (s.ssiClock d k)
  s.ball .highImpedance driven driven .highImpedance .highImpedance
/-- COMP_OUT of a compare unit, one of the other outputs (R313). -/
def State.ballCompOut (s : State) (d : Fin 2) (u : Fin 4) : Ball :=
  let x : CompareUnit := (s.pos[d]).cmp[u]
  let driven := drivenLevel x.outEnd.isSome
  s.ball .highImpedance driven driven .highImpedance .highImpedance
/-- EMU_s_A, EMU_s_B and EMU_s_Z, of the other outputs (R316). -/
def State.ballEmu (s : State) (d : Fin 2) : List Ball :=
  let (a, b, z) := s.emuOutputs d
  [a, b, z].map (fun l =>
    let driven := drivenLevel l
    s.ball .highImpedance driven driven .highImpedance .highImpedance)
/-- The switches A and B of SO_k are on (R494); off before the start and below BED. -/
def State.ballSo (s : State) (k : Fin 4) : Bool × Bool :=
  if s.pwr.started ∧ s.pwr.rung ≤ 3 then (s.tahr.outs[k].a, s.tahr.outs[k].b) else (false, false)
/-- TPO_t is on (R468); off before the start and below BED. -/
def State.ballTpo (s : State) (t : Fin 4) : Bool := decide (s.pwr.started ∧ s.pwr.rung ≤ 3) && !s.tahr.tpoLow.getLsbD t.val

end Sys2Proof.Machine
end

