-- ==== Sys2Proof/WellFormed.lean ====
section
/-! DEFINITION. Which commands are well formed: the ranges of the operands that their types do not already bound. A command that is not well formed names a happening the hardware cannot meet; exec is total on it all the same. -/

namespace Sys2Proof

/-- Data bytes of a CAN frame by its DLC (17_can.md, R577). -/
def canLength (fdf : Bool) (dlc : BitVec 4) : Nat :=
  if fdf then [0, 1, 2, 3, 4, 5, 6, 7, 8, 12, 16, 20, 24, 32, 48, 64].getD dlc.toNat 64 else min 8 dlc.toNat

/-- A service frame: its 12-byte header, at most 1,440 bytes of payload and the CRC-32C (R662). -/
def frameFits (frame : List (BitVec 8)) : Bool := decide (16 ≤ frame.length ∧ frame.length ≤ 1456)

/-- Host data a descriptor fetches: at most the 4 MiB − 32 of the largest record (R638, R640). -/
def dataFits (data : Option (List (BitVec 8))) : Bool := data.elim true (fun d => decide (d.length ≤ 4194272))

/-- Is the command well formed? -/
def Instr.wellFormed : Instr → Bool
  | .flit _ _ => true
  | .negativeAcknowledgement _ _ => true
  | .acknowledgementTimeout _ => true
  | .forwardedEffect => true
  | .dieFault _ => true
  | .referenceSet _ => true
  | .cutOffInstant _ => true
  | .timeBaseLock => true
  | .lockTimeout => true
  | .referenceLost _ => true
  | .referenceReturn => true
  | .holdoverTimeout => true
  | .devTimeLo => true
  | .timeCode _ _ _ => true
  | .frameMessage _ _ => true
  | .resyncMessage _ _ => true
  | .timerMatch _ _ => true
  | .sampleInstant _ bits => decide (bits.length ≤ 24)
  | .frameBoundary _ => true
  | .carrierStart => true
  | .syncEdge _ => true
  | .missedEdge _ => true
  | .missedTarget _ => true
  | .syncOutPulseEnd => true
  | .chResync _ _ => true
  | .resyncDropped _ => true
  | .hardResync _ => true
  | .resyncHoldEnd _ => true
  | .phaseJump _ => true
  | .scrub _ upsets => upsets.all (fun u => decide (u.1 < 2 ^ 18 ∧ u.2 < 2 ^ 39))
  | .runReady _ _ => true
  | .runStart _ _ => true
  | .nop _ _ => true
  | .fend _ _ => true
  | .wait _ _ => true
  | .waitCompletion _ _ => true
  | .br _ _ => true
  | .bz _ _ => true
  | .bnz _ _ => true
  | .lps _ _ => true
  | .lpe _ _ => true
  | .rinfo _ _ => true
  | .add _ _ => true
  | .sub _ _ => true
  | .mul _ _ => true
  | .mulh _ _ => true
  | .mulhu _ _ => true
  | .and _ _ => true
  | .or _ _ => true
  | .xor _ _ => true
  | .shl _ _ => true
  | .shr _ _ => true
  | .sar _ _ => true
  | .min _ _ => true
  | .max _ _ => true
  | .minu _ _ => true
  | .maxu _ _ => true
  | .seq _ _ => true
  | .slt _ _ => true
  | .sltu _ _ => true
  | .sel _ _ => true
  | .movi _ _ => true
  | .qmul _ _ => true
  | .qint _ _ => true
  | .sadd _ _ => true
  | .ssub _ _ => true
  | .fadd _ _ => true
  | .fsub _ _ => true
  | .fmul _ _ => true
  | .fma _ _ => true
  | .fms _ _ => true
  | .fnma _ _ => true
  | .fdiv _ _ => true
  | .fsqrt _ _ => true
  | .frsq _ _ => true
  | .fmin _ _ => true
  | .fmax _ _ => true
  | .fabs _ _ => true
  | .fneg _ _ => true
  | .feq _ _ => true
  | .flt _ _ => true
  | .fle _ _ => true
  | .fclamp _ _ => true
  | .cvtfi _ _ => true
  | .cvtif _ _ => true
  | .cvtuf _ _ => true
  | .cvtfq _ _ => true
  | .cvtqf _ _ => true
  | .sincos _ _ => true
  | .atan2 _ _ => true
  | .aadd _ _ => true
  | .asub _ _ => true
  | .cvtaf _ _ => true
  | .cvtfa _ _ => true
  | .lds _ _ => true
  | .ldv _ _ => true
  | .sts _ _ => true
  | .stv _ _ => true
  | .tl1 _ _ => true
  | .tl1r _ _ => true
  | .tl2 _ _ => true
  | .tl2r _ _ => true
  | .xrd _ _ => true
  | .xmov _ _ => true
  | .xadd _ _ => true
  | .xsub _ _ => true
  | .xst _ _ => true
  | .velvetReading _ delays => delays.length == 24
  | .programMove _ => true
  | .ageingPairReading _ _ _ => true
  | .eolMargin => true
  | .ageingRecord _ _ => true
  | .planDecision => true
  | .avsReadback _ _ => true
  | .avsTimeout _ => true
  | .runDeadline _ => true
  | .swapBoundary _ => true
  | .sdmStuck _ _ _ => true
  | .sdmRestored _ _ _ => true
  | .filterSettled _ _ _ => true
  | .sinc1Trip _ _ _ => true
  | .ocTripRelease _ => true
  | .adcTimerTrigger _ _ => true
  | .conversionEnd _ _ _ => true
  | .urgentRequest _ => true
  | .urgentConversionEnd _ _ _ => true
  | .plausibilityPeriod _ _ => true
  | .housekeeping _ => true
  | .measDelivery _ _ => true
  | .measLate _ => true
  | .smpRptr _ _ => true
  | .owStatus _ _ _ => true
  | .resolverSample _ _ _ _ _ _ => true
  | .ssiRequest _ _ _ => true
  | .ssiWord _ _ _ => true
  | .monoflopEnd _ _ _ => true
  | .encoderEdge _ _ _ _ => true
  | .indexPulse _ _ => true
  | .countDelivery _ _ => true
  | .observerTimeout _ _ => true
  | .interfaceSignals _ _ => true
  | .compareEvaluation _ _ => true
  | .compOutPulseEnd _ _ => true
  | .cmpCtrl _ _ _ => true
  | .cmpList _ _ _ _ _ => true
  | .emulatorUpdate _ => true
  | .characterLockLoss _ => true
  | .idleLock _ => true
  | .identReqPeriod _ => true
  | .ident _ _ _ => true
  | .timeMarkSend _ => true
  | .timeMark _ _ => true
  | .mark _ _ _ => true
  | .satelliteTimeMark _ => true
  | .upstreamTimeMark _ _ => true
  | .echo _ _ _ => true
  | .edge _ _ _ => true
  | .trim _ _ _ => true
  | .config _ _ _ => true
  | .retire _ _ _ => true
  | .clear _ _ _ => true
  | .identReq _ _ _ => true
  | .resume _ _ _ => true
  | .holdSet _ _ => true
  | .holdDeadline _ => true
  | .dieSwitch _ _ => true
  | .halfEnd _ meas => decide (meas.length ≤ 16)
  | .satelliteLinkLoss _ => true
  | .desaturation _ _ _ => true
  | .overtemperatureCheck _ temps => decide (temps.length ≤ 16)
  | .faultSetRepeat _ => true
  | .faultSet _ _ => true
  | .faultDecision _ => true
  | .telem _ _ _ => true
  | .upstreamSilence _ => true
  | .gaUnretire _ _ => true
  | .tpIdLo _ => true
  | .ocTrip _ => true
  | .ocHoldExpiry _ => true
  | .phaseLossWindow _ => true
  | .tAscExpiry _ => true
  | .release _ => true
  | .disch _ => true
  | .dischStop _ => true
  | .dischargeTimeout _ => true
  | .shutdownVsup _ => true
  | .sdRampExpiry => true
  | .shutdownDischargesEnded => true
  | .shutdownDone => true
  | .vsupDip _ => true
  | .verdict _ => true
  | .windowClose _ _ => true
  | .lanePlan _ => true
  | .windowRecord _ _ _ _ _ => true
  | .windowDecision _ => true
  | .laneTimeout _ => true
  | .comparatorTest _ => true
  | .tahrCycle _ _ _ => true
  | .safeLevelChange _ _ _ => true
  | .tChExpiry _ => true
  | .functionRelease _ => true
  | .testPulse _ => true
  | .testPulseSample _ millivolts => millivolts.length == 32
  | .testPulseEnd _ => true
  | .chamoisParameters _ => true
  | .tahrStatus _ => true
  | .tahrLost => true
  | .ss1Request _ _ _ => true
  | .soTest _ _ => true
  | .bleat => true
  | .lockoutExpiry => true
  | .read _ data => dataFits data
  | .write _ data => dataFits data
  | .confirm _ data => dataFits data
  | .setPassword _ data => dataFits data
  | .readLog _ data => dataFits data
  | .ackFault _ data => dataFits data
  | .hold _ data => dataFits data
  | .auxOff => true
  | .auxOffRelease => true
  | .valley _ _ _ _ => true
  | .legFault _ _ _ _ => true
  | .supplyMonitor _ _ _ => true
  | .thermalUpdate _ => true
  | .slotCommand _ => true
  | .cmdTmoExpiry _ => true
  | .hallChange _ _ => true
  | .hallTimeout _ => true
  | .blockAdvance _ => true
  | .pwmInTimeout _ => true
  | .profileUpdate _ => true
  | .holdReduction _ => true
  | .doorbellTail _ _ => true
  | .doorbellHead _ _ => true
  | .enable => true
  | .disable => true
  | .readContext => true
  | .descriptorFetch _ _ _ => true
  | .descriptorNop _ => true
  | .fence _ => true
  | .fenceCompletion _ => true
  | .writeSignals _ data => dataFits data
  | .readSignals _ => true
  | .writeSignalsAtFrame _ data => dataFits data
  | .timedWriteCommit _ => true
  | .loadProgram _ data => dataFits data
  | .swapProgram _ => true
  | .loadTable _ data => dataFits data
  | .armTrace _ data => dataFits data
  | .disarm _ => true
  | .drainTrace _ => true
  | .drainSamples _ => true
  | .channelModeSettings _ => true
  | .channelModeResync _ => true
  | .channelModeRelease _ => true
  | .settingsEffect _ => true
  | .shutdownRequest _ => true
  | .rungRequest _ => true
  | .storeRecord _ data => dataFits data
  | .readRecord _ => true
  | .identityChallenge _ => true
  | .descriptorCompletion _ => true
  | .modTimeExpiry _ => true
  | .disconnect cause => decide (1 ≤ cause ∧ cause ≤ 4)
  | .hostConnect speed width => speed != 0 && width != 0
  | .reCtrl _ => true
  | .canFrameReceived _ id ide fdf brs esi remote dlc data _ => data.length == (if remote then 0 else canLength fdf dlc) && !(remote && fdf) && (fdf || !(brs || esi)) && (ide || decide (id.toNat < 2 ^ 11))
  | .transmitCommit _ _ => true
  | .transmissionEnd _ _ _ => true
  | .recover _ => true
  | .canBusOn _ => true
  | .txFlush _ => true
  | .objectLock _ _ => true
  | .objectUnlock _ _ => true
  | .canLockTimeout _ => true
  | .canStatusCommit _ => true
  | .targetDescent _ => true
  | .targetWake _ => true
  | .wakeN => true
  | .wakeTimer => true
  | .ladderImageWritten => true
  | .climbStepReady rails => !rails.getLsbD 0
  | .readyTimeout rails => !rails.getLsbD 0
  | .pwrStatus _ => true
  | .pwrTimerHi _ => true
  | .powerOn => true
  | .resetN _ _ _ => true
  | .railFault _ _ => true
  | .coldStart _ _ => true
  | .setupLock _ => true
  | .setupLocked => true
  | .registerWrite offset _ => offset.toNat % 4 == 0
  | .start rails _ => !rails.getLsbD 0
  | .fuse => true
  | .selfTestEnd _ _ _ _ => true
  | .selfTestAbort rails _ => !rails.getLsbD 0
  | .fuseDone => true
  | .bankWriteDone => true
  | .eventLogFlush => true
  | .enterField _ data => dataFits data
  | .enterMaintain _ data => dataFits data
  | .bind _ data => dataFits data
  | .unbind _ data => dataFits data
  | .ackSatellite _ data => dataFits data
  | .ownerLock _ data => dataFits data
  | .lifecycleRetire _ data => dataFits data
  | .devIdLo => true
  | .lcNonceLo => true
  | .trialTimer => true
  | .hello frame => frameFits frame
  | .auth frame => frameFits frame
  | .close frame => frameFits frame
  | .sessionTimeout => true
  | .svcReadSignals frame => frameFits frame
  | .svcReadRecord frame => frameFits frame
  | .writeBegin frame => frameFits frame
  | .writeData frame => frameFits frame
  | .writeEnd frame => frameFits frame
  | .lifecycle frame => frameFits frame
  | .identity frame => frameFits frame
  | .eventArrival _ => true
  | .eventRelease => true
  | .sdmSampleRecord _ _ _ => true
  | .soTestEnd _ _ _ => true
  | .completionTimeout _ => true
  | .canReceiveError _ _ => true
  | .resetNLow => true
  | .pcieError uncorrectable correctable => uncorrectable != 0 || correctable != 0

end Sys2Proof
end

