-- ==== Sys2Proof/Tests/Slice0.lean ====
section
/-! SUPPORT. The model's own tests: ill-formed commands that the check refuses, single steps and published check values, and for each statement with hypotheses a state and operands that meet them. -/

open Sys2Proof Sys2Proof.Machine

namespace Sys2Proof.Tests

-- The tests are checked one after another: each thread of the compiler takes its own stack.
set_option Elab.async false

/-! ## Well-formedness: one ill-formed command for each check -/

theorem test_wf_sampleInstant : (Instr.sampleInstant 7 (List.replicate 25 [])).wellFormed = false := by decide
theorem test_wf_scrub : (Instr.scrub .a [(2 ^ 18, 1)]).wellFormed = false := by decide
theorem test_wf_scrub_bits : (Instr.scrub .a [(0, 2 ^ 39)]).wellFormed = false := by decide
theorem test_wf_velvetReading : (Instr.velvetReading .b (List.replicate 23 (1, 1))).wellFormed = false := by decide
theorem test_wf_halfEnd : (Instr.halfEnd 47 (List.replicate 17 (0, 0, 0, false))).wellFormed = false := by decide
theorem test_wf_overtemperatureCheck : (Instr.overtemperatureCheck 47 (List.replicate 17 0)).wellFormed = false := by decide
theorem test_wf_data (r : BitVec 16) : ([Instr.read, .write, .confirm, .setPassword, .readLog, .ackFault, .hold, .writeSignals, .writeSignalsAtFrame, .loadProgram, .loadTable, .armTrace, .storeRecord,
    .enterField, .enterMaintain, .bind, .unbind, .ackSatellite, .ownerLock, .lifecycleRetire].any (fun c => (c r (some (List.replicate 4194273 0))).wellFormed)) = false := by
  have h : ∀ n, 4194272 < n → dataFits (some (List.replicate n 0)) = false := fun n hn => by simp [dataFits]; omega
  simp only [Instr.wellFormed, List.any_cons, List.any_nil, h 4194273 (by decide), Bool.or_self]
theorem test_wf_disconnect : (Instr.disconnect 0).wellFormed = false ∧ (Instr.disconnect 5).wellFormed = false := by decide
theorem test_wf_hostConnect : (Instr.hostConnect 0 4).wellFormed = false ∧ (Instr.hostConnect 4 0).wellFormed = false := by decide
theorem test_wf_can_length : (Instr.canFrameReceived 3 9 false true false false false 9 (List.replicate 9 0) 5).wellFormed = false := by decide
theorem test_wf_can_remote_fd : (Instr.canFrameReceived 3 9 false true false false true 0 [] 5).wellFormed = false := by decide
theorem test_wf_can_brs : (Instr.canFrameReceived 3 9 false false true false false 0 [] 5).wellFormed = false := by decide
theorem test_wf_can_id : (Instr.canFrameReceived 3 0x800 false false false false false 0 [] 5).wellFormed = false := by decide
theorem test_wf_can_good : (Instr.canFrameReceived 3 0x800 true true true false false 9 (List.replicate 12 0) 5).wellFormed = true := by decide
theorem test_wf_rails : [Instr.climbStepReady 1, .readyTimeout 1, .start 1 true, .selfTestAbort 1 true].all (fun c => !c.wellFormed) = true := by decide
theorem test_wf_registerWrite : (Instr.registerWrite 0x60002 0).wellFormed = false := by decide
theorem test_wf_frame : [Instr.hello, .auth, .close, .svcReadSignals, .svcReadRecord, .writeBegin, .writeData, .writeEnd, .lifecycle, .identity].all (fun c => !(c (List.replicate 15 0)).wellFormed) = true := by decide
theorem test_wf_pcieError : (Instr.pcieError 0 0).wellFormed = false := by decide

/-! ## Published check values, and single steps -/

/-- The CRC-32C of the nine digits is E306_9283, in every description of the code. -/
theorem test_crc32c : crc32c [0x31, 0x32, 0x33, 0x34, 0x35, 0x36, 0x37, 0x38, 0x39] = 0xE3069283 := by decide +kernel
/-- The CRC-16 of polynomial 1021 with initial value FFFF of the nine digits is 29B1. -/
theorem test_crc16 : crc16Bytes [0x31, 0x32, 0x33, 0x34, 0x35, 0x36, 0x37, 0x38, 0x39] = 0x29B1 := by decide +kernel
/-- The first bytes of SHA-256 of abc are BA78 16BF (FIPS 180-4). -/
theorem test_sha256 : (sha256 [0x61, 0x62, 0x63]).take 4 = [0xBA, 0x78, 0x16, 0xBF] := by decide +kernel
/-- An empty queue lets no tick pass before the time base has locked. -/
theorem test_step_idle : step State.reset = .next State.reset := rfl
/-- The front command runs, and the queue keeps its rest. -/
theorem test_step_queue : (match step { State.reset with pending := [.devTimeLo, .scrub .a []] } with
    | .next t => t.pending == [.scrub .a []] && t.outs == [.regRead Reg.devTimeLo 0]
    | _ => false) = true := by decide +kernel
/-- A write to SENSE-1's window is ignored on the NB-7806 (R2). -/
theorem test_absent_window : exec (.registerWrite 0x50010 5) { State.reset with part := .nb7806 } = .next { State.reset with part := .nb7806 } := rfl
/-- An event raised at 0 is released no sooner than 20 µs, 8,000 ticks, later (R679). -/
theorem test_release_time : reorderTicks = 8000 := by decide
/-- DLC 9 of an FD frame stands for 12 bytes, of a classical frame for 8 (R580). -/
theorem test_dlc : dlcLen true 9 = 12 ∧ dlcLen false 9 = 8 ∧ fdLen 13 = 16 := by decide
/-- The order of R679: TIME first, then SOURCE. -/
theorem test_stage_order : (stagePut ⟨⟨5, 1, 2, 3, []⟩, 9, false⟩ [⟨⟨5, 1, 3, 3, []⟩, 1, false⟩]).map (·.order) = [9, 1] := by decide

/-! ## States the statements' witnesses use -/

/-- A run of slot 0 at its first instruction. -/
def engineRun : Run := { slot := 0, channel := 0, frame := 0, refInstant := 0, frameLen := 0, runNo := 0, startTime := 0, g := Vector.replicate 64 7 }
/-- OX_00 of CTRL-A runs slot 0 and stands on the instruction word w. -/
def engineState (w : Dword) : State :=
  ({ State.reset with ctrl := Vector.replicate 2 { prog := [(0, w)] } } : State).modEngine .a 0 (fun g => { g with phase := .running, run := some engineRun })
/-- A run with signal 1000 in its write buffer and signal 1001 latched. -/
def loadRun : Run := { engineRun with
  wbuf := [(0x1000, 3)]
  latch := [(0x1001, 4)] }
/-- As engineState, with that run on LDS at 1000 or on LDV of two signals. -/
def loadState (op n : Nat) : State :=
  (engineState (encodeWord op (63 - n) 0 0 0 (BitVec.ofNat 32 (0x1000 + n * 2 ^ 18)))).modEngine .a 0 (fun g => { g with run := some loadRun })
/-- A directory entry of slot 0. -/
def ownEntry (base len : Nat) (group : Bool) : DirEntry :=
  { base := base, len := len, hostR := true, trace := true, act := false, group := group, type := 0, owner := 0x100, pending := false, sharers := [], firmware := false }
/-- As engineState, with signal 2000 in an entry of slot 0. -/
def boardState (w : Dword) : State :=
  (engineState w).modCtrl .a (fun d => { d with
    dir := [ownEntry 0x2000 1 false]
    board := [(0x2000, 9)] })
/-- As engineState, with the groups 3000 (no stamp) and 3002 (stamped 0). -/
def groupState (w : Dword) : State :=
  (engineState w).modCtrl .a (fun d => { d with
    dir := [ownEntry 0x3000 2 true, ownEntry 0x3002 2 true]
    stamps := [(0x3002, 0)] })
/-- A WAIT on the fresh group 3002. -/
def waitingState : State :=
  (groupState 0).modEngine .a 0 (fun g => { g with
    phase := .waiting
    run := some { engineRun with waitAt := 0x3002 } })
/-- A run with a table address in g5 and in g6. -/
def tableRun : Run := { engineRun with g := ((Vector.replicate 64 (7 : Word)).set 5 8).set 6 32 }
/-- As engineState, with a one-dimensional table at 8 and a two-dimensional one at 32. -/
def tableState (w : Dword) : State :=
  ((engineState w).modCtrl .a (fun d => { d with
    tables := [(8, 0x10000001), (10, 0x3F800000), (32, 0x20001001), (34, 0x3F800000), (36, 0x3F800000)] })).modEngine .a 0
      (fun g => { g with run := some tableRun })
/-- The same on CTRL-B. -/
def engineStateB (w : Dword) : State :=
  ({ State.reset with ctrl := Vector.replicate 2 { prog := [(0, w)] } } : State).modEngine .b 0 (fun g => { g with phase := .running, run := some engineRun })
/-- Slot 0 ACTIVE on both dies; its run of frame 0 is ready on CTRL-B. -/
def runState : State :=
  ((({ State.reset with ch := Vector.replicate 8 { frameLen := 8000 } } : State).modSlot .a 0 (fun x => { x with state := .active })).modSlot .b 0 (fun x => { x with state := .active })).modCtrl .b
    (fun d => { d with ready := [⟨0, 0, 0⟩] })
/-- CH_7 runs, its boundary at 100 has come, and accepted settings wait for it. -/
def s0 : State := { State.reset with
  now := 1000
  pwr := { rung := 2 }
  ch := Vector.replicate 8 { running := true, boundary := 60, frameLen := 40, atValley := false, settings := some { accepted := true } } }
/-- As s0, with a hard resync at that boundary. -/
def s1 : State := s0.modCh 7 (fun x => { x with resyncAt := some (100, 0, false) })
/-- As s0, with a hard resync before it and a schedule message. -/
def s2 : State := s0.modCh 7 (fun x => { x with
  resyncAt := some (99, 0, false)
  schedule := some ⟨1, s0.nextSample 7⟩ })
/-- The urgent request 3 of CH_0 to ADC_5 is on its way (4: to a converter that is none; 5: with number 0); the converter is idle, in a pass or busy with an urgent conversion. -/
def urgentState (k : Nat) : State := (({ State.reset with
  regs := [(Reg.adcCtrl 0 5, 0x80000000)]
  glb := { locked := true }
  pwr := { rung := 0 } } : State).modConv 0 5 (fun x => { x with
    work := if k = 1 then .pass ⟨.timer, 0, 0, 0, 0, [], false, false⟩ else if 2 ≤ k ∧ k ≤ 3 then .urgent ⟨0, 0, 1⟩ 0 else .idle
    pendingUrgent := if k = 3 then some ⟨0, 0, 2⟩ else none })).modMeas 0 (fun m => { m with
      requests := [if k = 4 then 0x30007 else if k = 5 then 5 else 0x30005] })
/-- ADC_5 of SENSE-1 at the end of a conversion of each kind. -/
def endState (k : Nat) : State := ({ State.reset with now := 1000 } : State).modConv 1 5 (fun x => { x with
  work := if k < 3 then .urgent ⟨4, 3, 9⟩ 10 else if k = 3 then .pass ⟨.timer, 0, 0, 23, 10, [], false, false⟩ else if k = 4 then .plaus 10 else .house 24 10
  pendingUrgent := if k = 0 then some ⟨4, 3, 10⟩ else none
  suspended := if k = 1 then some ⟨.timer, 0, 0, 2, 0, [], false, true⟩ else none })
/-- CH_7 enabled with READY satellites, an idle safety image and nothing that refuses a release; on b an over-current. -/
def granted (b : Bool) : State := { State.reset with
  ch := Vector.replicate 8 { enabled := true }
  wires := { ocTrip := Vector.replicate 8 b }
  ports := Vector.replicate 48 { state := .ready }
  pwr := { rung := 0, started := true }
  chamois := { params := some [] }
  tahr := { running := true, image := some [] } }
/-- A descriptor of an opcode with nothing but its words. -/
def plainDesc (op : Nat) (w : Vector Word 10) : Desc := { op := op, crcFlag := false, inline_ := false, quiet := false, irq := false, flagsHi := 0, seq := 0, sig := 0, count := 0, addr := 0, length := 0, crc := 0, w := w }
/-- Ten words of which the first two are given. -/
def twoWords (a b : Word) : Vector Word 10 := #v[a, b, 0, 0, 0, 0, 0, 0, 0, 0]
/-- Ring 3 has taken the descriptor d, which waits for its effect, in the state s. -/
def descState (s : State) (d : Desc) : State := { s with re := { s.re with taken := [⟨3, 0, d, false⟩] } }
/-- The same after its effect has begun. -/
def descAfter (s : State) (d : Desc) : State := { s with re := { s.re with taken := [⟨3, 0, d, true⟩] } }
theorem descState_take (s : State) (d : Desc) (op : Nat) (p : Desc → Bool) (h : d.op = op) (hp : p d = true) :
    (descState s d).take 3 op p = some (⟨3, 0, d, false⟩, descAfter s d) := by
  simp [State.take, descState, descAfter, State.modRe, h, hp]
/-- PIF_2 of SENSE-1 works in a mode at a time, with LINK = 7, and is as p says. -/
def pifState (m now : Nat) (p : Pif) : State := ({ State.reset with
  now := now
  regs := [(Reg.posCfg 1 2, BitVec.ofNat 32 (0x80000000 + m * 2 ^ 28 + 7 * 2 ^ 25)), (Reg.resExc 1 2, 19200), (Reg.encCfg 1 2, 0x0C000400)]
  glb := { locked := true }
  pwr := { rung := 0 } } : State).modPif 1 2 (fun _ => p)
/-- Compare unit 3 and the emulator of SENSE-1 work on PIF_0, a counter. -/
def cmpState (u : CompareUnit) (p : Pif) (e : Emulator) : State := (({ State.reset with
  now := 1000
  regs := [(Reg.posCfg 1 0, 0xBE000000), (Reg.cmpCtrl 1 3, 0x80000000), (Reg.emuCfg 1, 0x80000000)]
  glb := { locked := true }
  pwr := { rung := 0 } } : State).modPif 1 0 (fun _ => p)).modCmp 1 3 (fun _ => u) |>.modPos 1 (fun x => { x with emu := e })
/-- A message body with its CRC. -/
def message (ts : Byte) (p : List Byte) : List Byte := ts :: p ++ leBytes 2 (crc16Bytes (ts :: p))
/-- Satellite 47 at a time, with no wire on its channel when b holds. -/
def satState (x : Satellite) (b : Bool) : State := ({ State.reset with
  now := 100000
  pwr := { rung := 0, started := b }
  chamois := { params := some [] }
  sw := { stoB := 0 } } : State).modSat 47 (fun _ => x)
/-- Port 47 of an enabled array of one die a position. -/
def portState (p : TpPort) : State := ({ State.reset with
  now := 100000
  regs := [(Reg.gaCfg 7, 0x80000000)]
  pwr := { rung := 0 } } : State).modPort 47 (fun _ => p)
/-- A well-formed block of a SUBOP, all zero but for it and a new password. -/
def safetyBlock (sub : Nat) : List Byte :=
  BitVec.ofNat 8 sub :: 0 :: (if sub = 4 then 8 else 0) :: List.replicate 37 0 ++ List.replicate 8 (if sub = 4 then 0x20 else 0) ++ List.replicate 24 0 ++ List.replicate (if sub = 1 ∨ sub = 2 then imageLen else 0) 0
/-- The descriptor of such a block. -/
def safetyDesc (sub : Nat) : Desc := { plainDesc 0x60 (twoWords 0 0) with length := (safetyBlock sub).length }
theorem safetyBlock_length (sub : Nat) (h : sub = 1 ∨ sub = 2) : (safetyBlock sub).length = 10568 := by
  simp only [safetyBlock, List.length_append, List.length_cons, List.length_replicate, if_pos h]; rfl
theorem safetyBlock_taken (k : Nat) (h : (safetyBlock k).length ≠ 0) : dataOf ⟨3, 0, safetyDesc k, false⟩ (some (safetyBlock k)) = some (safetyBlock k) := by
  simp only [dataOf, safetyDesc, if_neg h, Option.filter, beq_self_eq_true, if_true]
/-- Slot 15 of AUX, of a type and enabled; a stop wire stands when b holds. -/
def auxState (ty : Nat) (x : SlotUnit) (b : Bool) : State := ({ State.reset with
  now := 1000000000000
  regs := [(Reg.slotCfg 15, BitVec.ofNat 32 (0x80000001 + ty * 2 ^ 29)), (Reg.slotPwm 15, 0x4E200000), (Reg.slotStep 15, 0x40000000)]
  glb := { checked := true }
  pwr := { rung := 0, started := true }
  chamois := { params := some [] }
  aux := { off := false, vmUv := false }
  sw := { auxOffB := b } } : State).modAux 15 (fun _ => x)
/-- Ring 9 of a type, of 16 entries, at device time 1000. -/
def ringOne (ty : Nat) (r : Ring) : State := { State.reset with
  now := 1000
  pwr := { rung := 0 }
  re := { rings := [(9, { r with ctx := if r.ctx[3] = 0 then r.ctx.set 0 (BitVec.ofNat 32 (ty * 2 ^ 29 + 0x04000000)) else r.ctx })] } }
/-- Submission ring 9 with one descriptor to take, and its completion ring 0; in recovery when b holds. -/
def fetchState (b : Bool) : State := { ringOne 1 { state := .active, host := 1 } with
  regs := [(Reg.reCtrl, 0x80000000)]
  store := { State.reset.store with recovery := b }
  re := { rings := [(0, { state := .active, ctx := #v[0x84000000, 0, 0, 0, 0] }), (9, { state := .active, host := 1, ctx := #v[0x24000000, 0, 0, 0, 0] })] } }
/-- Descriptor 0 of ring 3, QUIET when q holds, has completed for completion ring 9. -/
def completedState (q : Bool) : State := { State.reset with
  pwr := { rung := 0 }
  done := [⟨3, 0, 0, 0, 0⟩]
  re := {
    taken := [⟨3, 0, { plainDesc 0 (twoWords 0 0) with quiet := q }, true⟩]
    rings := [(3, { ctx := #v[0x04000009, 0, 0, 0, 0] }), (9, { state := .active, ctx := #v[0x84000000, 0, 0, 0, 0] })] } }
/-- The smallest image: one FEND, run on every frame. -/
def fendImage : List Byte := [79, 82, 89, 88, 1, 0, 0, 0, 1, 0, 0, 0, 0, 0, 0, 0, 1, 0, 0, 0, 4, 0, 0, 0, 0, 0, 0, 0, 199, 118, 241, 162] ++ List.replicate 39 0 ++ [1]
/-- Bytes into a CRC-32C register. -/
def crcFrom (c : Nat) (bs : List Byte) : Nat := (bs.flatMap (fun b => (msbBits 8 b.toNat).reverse)).foldl (crcStepR 0x82F63B78) c
theorem crcFrom_append (c : Nat) (a b : List Byte) : crcFrom c (a ++ b) = crcFrom (crcFrom c a) b := by
  simp only [crcFrom, List.flatMap_append, List.foldl_append]
theorem fend_crc0 : crcFrom 4294967295 (((zeroCrc fendImage 0x1C).drop 0).take 12) = 415959615 := by decide +kernel
theorem fend_crc1 : crcFrom 415959615 (((zeroCrc fendImage 0x1C).drop 12).take 12) = 315002193 := by decide +kernel
theorem fend_crc2 : crcFrom 315002193 (((zeroCrc fendImage 0x1C).drop 24).take 12) = 2840963354 := by decide +kernel
theorem fend_crc3 : crcFrom 2840963354 (((zeroCrc fendImage 0x1C).drop 36).take 12) = 3391627857 := by decide +kernel
theorem fend_crc4 : crcFrom 3391627857 (((zeroCrc fendImage 0x1C).drop 48).take 12) = 2797906585 := by decide +kernel
theorem fend_crc5 : crcFrom 2797906585 (((zeroCrc fendImage 0x1C).drop 60).take 12) = 1561233720 := by decide +kernel
theorem fend_split : zeroCrc fendImage 0x1C = ((zeroCrc fendImage 0x1C).drop 0).take 12 ++ ((zeroCrc fendImage 0x1C).drop 12).take 12 ++ ((zeroCrc fendImage 0x1C).drop 24).take 12 ++ ((zeroCrc fendImage 0x1C).drop 36).take 12 ++ ((zeroCrc fendImage 0x1C).drop 48).take 12 ++ ((zeroCrc fendImage 0x1C).drop 60).take 12 := by decide +kernel
theorem crc32c_eq (bs : List Byte) : crc32c bs = crcFrom 4294967295 bs ^^^ 0xFFFFFFFF := rfl
theorem fend_crc : crc32c (zeroCrc fendImage 0x1C) = Machine.fieldLe fendImage 0x1C 4 := by
  have h : crcFrom 4294967295 (zeroCrc fendImage 0x1C) = 1561233720 := by
    rw [fend_split]; simp only [crcFrom_append, fend_crc0, fend_crc1, fend_crc2, fend_crc3, fend_crc4, fend_crc5]
  rw [crc32c_eq]
  rw [h]; decide +kernel
theorem fend_header : headerOk fendImage = true := by
  simp only [headerOk, fend_crc, beq_self_eq_true, Bool.and_true]; decide +kernel
/-- The smallest image loads at the foot of an empty bank. -/
theorem fendImage_loads : ∃ im, ({ State.reset with ch := Vector.replicate 8 { enabled := true } } : State).judgeLoad 5 7 fendImage = .ok 0 im := by
  have h : (parseImage (State.reset.die .a).dir 5 7 fendImage).elim false (fun im => decide (im.code.length = 1 ∧ im.dir = [])) = true := by
    simp only [parseImage, fend_header, if_true]; decide +kernel
  generalize hp : parseImage (State.reset.die .a).dir 5 7 fendImage = r at h
  cases r with
  | none => cases h
  | some im =>
    simp only [Option.elim, decide_eq_true_eq] at h
    refine ⟨im, ?_⟩
    have hp' : parseImage ((({ State.reset with ch := Vector.replicate 8 { enabled := true } } : State)).die .a).dir 5 7 fendImage = some im := hp
    simp only [State.judgeLoad, hp']
    rw [if_neg (by decide +kernel), if_neg (by decide +kernel), if_neg (by decide +kernel)]
    have hr : freeRuns 0 ((({ State.reset with ch := Vector.replicate 8 { enabled := true } } : State).die .a).resident ((5 : SlotCode).val / 64)) = [(0, 131072)] := by decide +kernel
    simp only [hr, h.1, h.2, addEntries]
    rfl
/-- CAN_3 on with receive object 5 (identifier 9) and transmit object 6 in block 7, whose group slot 0 owns and has committed; object 5 is locked when b holds. -/
def canState (b : Bool) : State := (({ State.reset with
  now := 5000000
  regs := [(Reg.canCtrl 3, 0x80000000), (Reg.canObjId 3 5, 0x80000009), (Reg.canObjMode 3 5, 0), (Reg.canObjId 3 6, 0x80000009), (Reg.canObjMode 3 6, 0x60700000)]
  glb := { locked := true, checked := true }
  pwr := { rung := 0, started := true } } : State).modCan 3 (fun c => { c with locked := if b then some (5, 1000) else none })).modCtrl .a (fun d => { d with
    dir := [ownEntry 0x180E0 20 true]
    stamps := [(0x180E0, 100)] })
/-- CAN_3 with an attempt on the bus, in LOOPBACK when b holds. -/
def busState (b : Bool) : State := ({ State.reset with
  regs := [(Reg.canCtrl 3, if b then 0xA0000000 else 0x80000000)]
  glb := { locked := true, checked := true }
  pwr := { rung := 0, started := true } } : State).modCan 3 (fun c => { c with onBus := some ⟨6, 9, [], false⟩ })
/-- The service port open, with a session 7 of the owner whose last SEQ is 4 and, but for k = 0, a write of kind k − 1 under way; signal 5000 is for the host. -/
def portOpen (k : Nat) : State := ({ State.reset with
  now := 20000000000
  regs := [(Reg.svcCfg, 0x80000000)]
  pwr := { rung := 0, started := true } } : State).modStore (fun x => { x with svc := {
    hello := some ([], [], 0)
    session := some { number := 7, owner := true, clientKey := [], lastSeq := 4, lastAt := 0, writing := if k = 0 then none else some (k - 1, 8, List.replicate 8 0) } } }) |>.modCtrl .a (fun d => { d with
    dir := [ownEntry 0x5000 1 false]
    board := [(0x5000, 9)] })

/-! ## Witnesses: what the hypotheses of the statements ask for exists -/

theorem witness_TimeBaseEvents_StepIdleIsOneTick : State.reset.pending = [] := by decide +kernel
theorem witness_TimeBaseEvents : State.reset.tb.running = false
    ∧ State.reset.pwr.rung ≠ 5
    ∧ (let s : State := { State.reset with tb := { running := true, noLock := true } }; s.tb.running = true ∧ s.tb.noLock = true ∧ s.tb.locked = false ∧ s.tb.holdover = false)
    ∧ (let s : State := { State.reset with tb := { running := true, holdover := true } }; s.tb.running = true ∧ s.tb.locked = false ∧ s.tb.holdover = true)
    ∧ (let s : State := { State.reset with tb := { running := true, locked := true } }; s.tb.running = true ∧ s.tb.locked = true)
    ∧ (let s : State := { State.reset with now := 4000000000, tb := { holdover := true } }; s.tb.holdover = true ∧ s.tb.timedOut = false ∧ s.tb.holdoverAt + 4000000000 ≤ s.now) := by decide +kernel
theorem witness_TimeBaseEvents_ScheduleMessages : State.reset.hasDie (senseDie 1) = true ∧ scheduleCrcOk (scheduleMessage 1 3 77 5) = true ∧ (scheduleMessage 1 3 77 5).toNat / 2 ^ 120 = 1
    ∧ scheduleCrcOk (scheduleMessage 2 0 77 5) = true ∧ (scheduleMessage 2 0 77 5).toNat / 2 ^ 120 = 2 ∧ scheduleCrcOk 1 = false := by decide +kernel

theorem witness_EngineArithmeticResults_EngineIntegerResults : ∀ op : Fin 20, (engineState (encodeWord (0x10 + op.val) 1 2 3 0 5)).standsOn .a 0 engineRun (encodeWord (0x10 + op.val) 1 2 3 0 5)
    ∧ opOf (encodeWord (0x10 + op.val) 1 2 3 0 5) = 0x10 + op.val := by decide +kernel
theorem witness_EngineArithmeticResults_EngineBinary32Results : ∀ op : Fin 22, (engineState (encodeWord (0x30 + op.val) 1 2 3 4 5)).standsOn .a 0 engineRun (encodeWord (0x30 + op.val) 1 2 3 4 5)
    ∧ opOf (encodeWord (0x30 + op.val) 1 2 3 4 5) = 0x30 + op.val := by decide +kernel
theorem witness_EngineArithmeticResults_EngineAngleResults : ∀ op : Fin 6, (engineState (encodeWord (0x50 + op.val) 1 2 3 0 0)).standsOn .a 0 engineRun (encodeWord (0x50 + op.val) 1 2 3 0 0)
    ∧ opOf (encodeWord (0x50 + op.val) 1 2 3 0 0) = 0x50 + op.val := by decide +kernel

theorem witness_EngineQ16Results : ∀ op ∈ [0x24, 0x25, 0x28, 0x29], (engineState (encodeWord op 1 2 3 0 5)).standsOn .a 0 engineRun (encodeWord op 1 2 3 0 5)
    ∧ opOf (encodeWord op 1 2 3 0 5) = op := by decide +kernel

theorem witness_Binary32Comparisons : f32IsNaN 0x7F800001 = true ∧ f32IsSNaN 0x7F800001 = true ∧ f32IsNaN 0xFFC00000 = true
    ∧ f32IsNaN 0x7F800000 = false ∧ f32IsNaN 0 = false ∧ (flt 0 1).val = 1 := by decide +kernel

theorem witness_EngineControlResults_EngineScratchResults : (∀ op : Fin 5, (engineState (encodeWord (0x70 + op.val) 1 2 3 0 5)).standsOn .a 0 engineRun (encodeWord (0x70 + op.val) 1 2 3 0 5)
    ∧ opOf (encodeWord (0x70 + op.val) 1 2 3 0 5) = 0x70 + op.val)
    ∧ ∀ k : Fin 6, (engineState (encodeWord 0x70 1 2 3 0 (BitVec.ofNat 32 k.val))).standsOn .a 0 engineRun (encodeWord 0x70 1 2 3 0 (BitVec.ofNat 32 k.val))
      ∧ (fImm (encodeWord 0x70 1 2 3 0 (BitVec.ofNat 32 k.val))).toNat = k.val := by decide +kernel
theorem witness_EngineControlResults : (∀ op ∈ [0x00, 0x03, 0x04, 0x05, 0x06, 0x07, 0x08], (engineState (encodeWord op 1 2 3 0 0x00070001)).standsOn .a 0 engineRun (encodeWord op 1 2 3 0 0x00070001)
      ∧ opOf (encodeWord op 1 2 3 0 0x00070001) = op)
    ∧ engineRun.reg (fA (encodeWord 0x06 1 2 3 0 0x00070001)) = 7 ∧ (fImm (encodeWord 0x06 1 2 3 0 0x00070001)).toNat / 2 ^ 16 = 7
    ∧ (fImm (encodeWord 0x06 1 2 3 0 0x00060001)).toNat / 2 ^ 16 < (engineRun.reg (fA (encodeWord 0x06 1 2 3 0 0x00060001))).toNat := by decide +kernel

theorem witness_EngineSignalLoads :
    (loadState 0x60 0).standsOn .a 0 loadRun (encodeWord 0x60 63 0 0 0 0x1000) ∧ (loadState 0x61 1).standsOn .a 0 loadRun (encodeWord 0x61 62 0 0 0 0x41000)
    ∧ fCount (encodeWord 0x61 62 0 0 0 0x41000) = 2 ∧ loadRun.ea (encodeWord 0x61 62 0 0 0 0x41000) = 0x1000
    ∧ kvHas loadRun.wbuf 0x1000 = true ∧ kvHas loadRun.latch 0x1001 = true ∧ loadRun.latchBad.contains 0x1001 = false := by decide +kernel

theorem witness_EngineFirstLatch :
    let s := boardState (encodeWord 0x60 1 0 0 0 0x2000)
    s.standsOn .a 0 engineRun (encodeWord 0x60 1 0 0 0 0x2000) ∧ opOf (encodeWord 0x60 1 0 0 0 0x2000) = 0x60
    ∧ engineRun.ea (encodeWord 0x60 1 0 0 0 0x2000) = 0x2000 ∧ kvHas engineRun.wbuf 0x2000 = false ∧ kvHas engineRun.latch 0x2000 = false
    ∧ ((s.die .a).entryOf 0x2000).isSome ∧ (s.die .a).groupOf 0x2000 = none ∧ kvGet 0 (s.die .a).eccBad 0x2000 = 0
    ∧ (s.die .a).poisoned.contains 0x2000 = false ∧ engineRun.latch.length < 1024 := by decide +kernel

theorem witness_EngineSignalStores :
    (engineState (encodeWord 0x62 0 63 0 0 0x3FFFF)).standsOn .a 0 engineRun (encodeWord 0x62 0 63 0 0 0x3FFFF)
    ∧ engineRun.ea (encodeWord 0x62 0 63 0 0 0x3FFFF) = 0x3FFFF ∧ (fA (encodeWord 0x62 0 63 0 0 0x3FFFF)).toNat = 63
    ∧ (engineState (encodeWord 0x63 0 0 0 0 0xFC0000)).standsOn .a 0 engineRun (encodeWord 0x63 0 0 0 0 0xFC0000)
    ∧ fCount (encodeWord 0x63 0 0 0 0 0xFC0000) = 64 ∧ engineRun.wbuf.length = 0 := by decide +kernel

theorem witness_EngineTableLookups :
    (∀ op ∈ [0x68, 0x6A], (tableState (encodeWord op 1 2 3 4 8)).standsOn .a 0 tableRun (encodeWord op 1 2 3 4 8) ∧ opOf (encodeWord op 1 2 3 4 8) = op)
    ∧ (∀ op ∈ [0x69, 0x6B], (tableState (encodeWord op 1 2 5 6 0)).standsOn .a 0 tableRun (encodeWord op 1 2 5 6 0) ∧ opOf (encodeWord op 1 2 5 6 0) = op)
    ∧ tableBad ((tableState 0).die .a) 1 8 = false ∧ tableBad ((tableState 0).die .a) 2 32 = false
    ∧ tableBad ((tableState 0).die .a) 1 32 = true ∧ tableBad ((tableState 0).die .a) 2 8 = true := by decide +kernel

theorem witness_EngineWaits :
    (engineState (encodeWord 0x02 0 0 0 0 0x3F000)).standsOn .a 0 engineRun (encodeWord 0x02 0 0 0 0 0x3F000) ∧ engineRun.ea (encodeWord 0x02 0 0 0 0 0x3F000) = 0x3F000
    ∧ (engineState (encodeWord 0x02 0 0 0 0 0x3EFFF)).standsOn .a 0 engineRun (encodeWord 0x02 0 0 0 0 0x3EFFF) ∧ engineRun.ea (encodeWord 0x02 0 0 0 0 0x3EFFF) = 0x3EFFF
    ∧ ((engineState 0).die .a).poisoned.contains 0x3EFFF = false ∧ ((engineState 0).die .a).groupOf 0x3EFFF = none
    ∧ (groupState (encodeWord 0x02 0 0 0 0 0x3000)).standsOn .a 0 engineRun (encodeWord 0x02 0 0 0 0 0x3000)
    ∧ ((groupState 0).die .a).freshFor 0x3000 0 = false ∧ ((groupState 0).die .a).freshFor 0x3002 0 = true ∧ (((groupState 0).die .a).groupOf 0x3002).isSome
    ∧ (groupState (encodeWord 0x02 0 0 0 0 0x3002)).standsOn .a 0 engineRun (encodeWord 0x02 0 0 0 0 0x3002)
    ∧ (let l := latchAddrs engineRun ((groupState 0).die .a) .a 0 (((groupState 0).die .a).latchSet 0x3002); l.1.latch.length ≤ 1024 ∧ l.1.latchBad.contains 0x3002 = false)
    ∧ (waitingState.engine .a 0).phase = .waiting ∧ (waitingState.engine .a 0).run = some { engineRun with waitAt := 0x3002 } ∧ (waitingState.die .a).freshFor 0x3002 0 = true := by decide +kernel

theorem witness_DeviceTimeReadsAndTimers :
    let s : State := { State.reset with now := 5, timers := Vector.replicate 2 [⟨3, 5⟩] }
    (s.timers[CtrlId.a.ix])[0]? = some ⟨3, 5⟩ ∧ (5 : Nat) ≤ s.localTime .a := by decide +kernel

theorem witness_TimeCodeChecks : State.reset.hasDie .aux = true ∧ crc16 (msbBits 64 (0 : BitVec 64).toNat) = (BitVec.ofNat 16 (crc16 (msbBits 64 0))).toNat
    ∧ State.reset.clocks[Die.aux.ix].badCodes = 0 ∧ (1 : Nat) ≤ ({ badCodes := 1 } : DieClock).badCodes := by decide +kernel

theorem witness_RunLifecycle :
    (let x := runState.slotOf .a 0
     (runState.openFrames x.channel).find? (fun f => x.state == .active && x.runsIn f.1 && !x.isReady f.1 && !x.isDone f.1
      && (CtrlId.a == .b || !runState.deadlinePassed 0 f.1) && x.inputs.all (fun a => (runState.die .a).freshFor a f.2)) = some (0, 0))
    ∧ (runState.engine .b 0).phase = .idle ∧ runState.pickRun .b 0 = some ⟨0, 0, 0⟩
    ∧ (engineStateB (encodeWord 0x01 0 0 0 0 0)).standsOn .b 0 engineRun (encodeWord 0x01 0 0 0 0 0)
    ∧ (engineState (encodeWord 0x01 0 0 0 0 0)).standsOn .a 0 engineRun (encodeWord 0x01 0 0 0 0 0) ∧ opOf (encodeWord 0x01 0 0 0 0 0) = 0x01 := by decide +kernel

theorem witness_CtrlACommitKeepsPersistents :
    (engineState (encodeWord 0x01 0 0 0 0 0)).standsOn .a 0 engineRun (encodeWord 0x01 0 0 0 0 0) ∧ (engineState 0).planner.swaps = [] ∧ (engineState 0).linkUp .ctrlA .ctrlB = true := by decide +kernel

theorem witness_LinksAndScrubbing_LinkFlits_expected : State.reset.links[(26 : Fin 27)].failed = false ∧ State.reset.links[(26 : Fin 27)].rxExpected = 0
    ∧ (flitBits 0 1 2 3).toNat / 2 ^ 120 % 16 = 0 ∧ crc16 (msbBits 112 ((flitBits 0 1 2 3).toNat / 2 ^ 16)) = (flitBits 0 1 2 3).toNat % 2 ^ 16 := by decide +kernel
theorem witness_LinksAndScrubbing_LinkFlits_other : (flitBits 1 1 2 3).toNat / 2 ^ 120 % 16 ≠ 0
    ∧ crc16 (msbBits 112 ((flitBits 1 1 2 3).toNat / 2 ^ 16)) = (flitBits 1 1 2 3).toNat % 2 ^ 16 := by decide +kernel
theorem witness_LinksAndScrubbing_LinkFlits_damaged : ¬ crc16 (msbBits 112 ((1 : BitVec 128).toNat / 2 ^ 16)) = (1 : BitVec 128).toNat % 2 ^ 16
    ∧ ({ failed := true } : D2dLink).failed = true ∧ State.reset.hasLink 26 = true ∧ ({ State.reset with part := .nb7806 } : State).hasLink 2 = false := by decide +kernel
theorem witness_LinksAndScrubbing_LinkFlits_resends :
    let s : State := { State.reset with
      now := 900
      links := Vector.replicate 27 { replay := [⟨0, 1, 2, 3, 0, 3⟩, ⟨1, 1, 2, 3, 100, 0⟩] }
      forward := [⟨.tables 0 [1], none, []⟩] }
    (s.links[(0 : Fin 27)]).failed = false ∧ s.hasLink 0 = true ∧ (s.links[(0 : Fin 27)]).replay = [⟨0, 1, 2, 3, 0, 3⟩] ++ ⟨1, 1, 2, 3, 100, 0⟩ :: [] ∧ (1 : BitVec 4).toNat = 1
    ∧ (0 : Nat) + 800 ≤ s.now ∧ (⟨0, 1, 2, 3, 0, 3⟩ : SentFlit) ∈ (s.links[(0 : Fin 27)]).replay ∧ s.forward = ⟨.tables 0 [1], none, []⟩ :: [] ∧ s.linkUp .ctrlA .ctrlB = true
    ∧ (s.die .b).atPosition [] = true ∧ (s.die .b).atPosition [(0, some 7)] = false := by decide +kernel
theorem witness_LinksAndScrubbing_DieFaultWire : State.reset.hasDie .aux = true ∧ (Die.aux ≠ .safe) ∧ ({ State.reset with part := .nb7806 } : State).hasDie .sense1 = false := by decide +kernel
theorem witness_LinksAndScrubbing_BoardScrubbing :
    (∀ m : Fin 5, let s : State := { State.reset with regs := [(Reg.sbScrub, 0x80000001)], ctrl := Vector.replicate 2 { eccBad := if m.val = 0 then [] else [(0, m.val)] } }
      bitAt (s.scrubWord .a) 31 = true ∧ rateOk (s.die .a).scrubPass s.now (bitsAt (s.scrubWord .a) 0 16 * 400000) = true ∧ kvGet 0 (s.die .b).eccBad (s.die .b).scrubAt = m.val)
    ∧ (4 : Nat) = 2 ^ 2 ∧ (∀ b : Fin 40, (3 : Nat) ≠ 2 ^ b.val) ∧ bitAt ((({ State.reset with regs := [(Reg.sbScrub, 1)], glb := { locked := true } } : State)).scrubWord .a) 31 = false := by decide +kernel

theorem witness_PlannerReadings_PlannerVoltages :
    let s : State := { State.reset with now := 40000, plan := Vector.replicate 2 { avs := some ⟨805, 0, true⟩ } }
    (s.plan[CtrlId.b.ix]).avs = some ⟨805, 0, true⟩ ∧ (0 : Nat) + 40000 ≤ s.now ∧ (s.plan[CtrlId.a.ix]).avs = some ⟨805, 0, true⟩ := by decide +kernel
theorem witness_PlannerReadings :
    (∀ d : Fin 2, let d : CtrlId := if d.val = 0 then .a else .b
      let s : State := { State.reset with now := 40000, pwr := { State.reset.pwr with started := true, rung := 0 }, plan := Vector.replicate 2 { checked := true } };
      let s1 := (s.modPlan d (fun p => { p with lastReading := some s.now })).takeReading d []
      s.pwr.started = true ∧ s.pwr.rung ≤ 1 ∧ s.readingDue (s.plan[d.ix]).lastReading = true ∧ rateOk (s.plan[d.ix]).avsMatched s.now 8000 = true
      ∧ s1.planSet = [] ∧ (((s1.modPlan d (fun p => { p with slack := s1.leastSlack d s1.planSet })).evacuate).plan[d.ix]).checked = true
      ∧ ((s1.modPlan d (fun p => { p with slack := s1.leastSlack d s1.planSet })).evacuate).planSettled = true)
    ∧ rateOk (some 1000) 8000 8000 = false
    ∧ ({ State.reset with ch := Vector.replicate 8 { running := true, enabled := true } } : State).ageingDue none = true ∧ rateOk State.reset.planner.lastEol 0 1440000000000 = true
    ∧ (let s : State := { State.reset with now := 28800 * 400000000, pwr := { rung := 0 } }; (s.plan[CtrlId.b.ix]).poweredS + 28800 ≤ s.poweredS ∧ s.pwr.rung ≤ 1) := by decide +kernel

theorem witness_ProgramChanges :
    (let s : State := { State.reset with planner := { pending := [.swap none (some 0) 0 0] }, store := { empty := 0 }, plan := Vector.replicate 2 { checked := true, memories := Vector.replicate 8 { failed := true } } };
      s.planSettled = true ∧ s.planner.pending = .swap none (some 0) 0 0 :: [] ∧ s.samplePathTaken none 0 = false ∧ s.claimTaken none 0 = false ∧ (s.asAccepted.engineFor none 0).isSome)
    ∧ (let s : State := { State.reset with planner := { pending := [.swap none (some 0) 0 0] }, store := { empty := 0 }, plan := Vector.replicate 2 { checked := true, engines := Vector.replicate 16 { failed := true } } };
      s.planSettled = true ∧ s.samplePathTaken none 0 = false ∧ s.claimTaken none 0 = false ∧ s.asAccepted.engineFor none 0 = none)
    ∧ (let s := ({ State.reset with planner := { pending := [.swap none (some 0) 0 0] }, plan := Vector.replicate 2 { checked := true } } : State).modCtrl .a (fun d => { d with slots := Vector.replicate 128 { state := .active, samplePath := true } });
      s.planSettled = true ∧ s.samplePathTaken none 0 = true)
    ∧ (let s : State := { State.reset with planner := { pending := [.mode 1 { accepted := false }] }, plan := Vector.replicate 2 { checked := true } };
      s.planSettled = true ∧ s.planner.pending = .mode 1 { accepted := false } :: [] ∧ (∀ c ∈ maskChans 1, s.ch[c].settings = none ∧ (s.ch[c].running = false ∨ s.ch[c].cutoffDone = false)))
    ∧ (let s : State := { State.reset with planner := { pending := [.swap none none 0 0] }, plan := Vector.replicate 2 { checked := true } }; s.planSettled = true ∧ s.planner.pending = .swap none none 0 0 :: [])
    ∧ (let s := State.reset.modSlot .a 5 (fun x => { x with
        moveTo := some 3
        moveDue := true }); (s.slotOf .a 5).moveTo = some 3 ∧ (s.slotOf .a 5).moveDue = true ∧ (s.die .b).running 5 = false)
    ∧ (let w : Swap := { old := none, new := none, channel := 0, acceptedAt := 0, ring := 0, index := 0, due := true }; let s : State := { State.reset with planner := { swaps := [w] } };
       s.planner.swaps = w :: [] ∧ w.done = false ∧ w.channel = 0 ∧ w.due = true)
    ∧ (let s := (engineState 0).modSlot .a 0 (fun x => { x with state := .active });
       (s.slotOf .a 0).state = .active ∧ (s.die .a).engineOf 0 = some (0, engineRun) ∧ s.deadlinePassed 0 engineRun.frame = true)
    ∧ (let s := State.reset.modSlot .a 0 (fun x => { x with
        state := .active
        doneFrame := some (2 ^ 32 - 1) });
       (s.slotOf .a 0).state = .active ∧ (s.die .a).engineOf 0 = none ∧ (s.slotOf .a 0).isDone ((s.ch[(0 : Channel)].frame + 2 ^ 32 - 1) % 2 ^ 32) = true
       ∧ (s.slotOf .a 0).runsIn 0 = true ∧ (s.slotOf .a 0).isDone 0 = false ∧ s.deadlinePassed 0 0 = true) := by decide +kernel

theorem witness_VerdictsOnCtrlB :
    (∀ o : Fin 8, let s : State := { engineStateB (encodeWord 0x01 0 0 0 0 0) with verdicts := [⟨0, 0, o.val⟩] }
      s.verdicts = ⟨0, 0, o.val⟩ :: [] ∧ s.standsOn .b 0 engineRun (encodeWord 0x01 0 0 0 0 0) ∧ (s.die .b).engineOf 0 = some (0, engineRun) ∧ (s.engine .b 0).phase ≠ .committing
      ∧ ((s.holdB 0 engineRun).die .b).engineOf 0 = some (0, engineRun) ∧ ((s.holdB 0 engineRun).engine .b 0).phase = .committing)
    ∧ (State.reset.die .b).engineOf 0 = none ∧ (State.reset.slotOf .b 0).isDone 0 = false := by decide +kernel

theorem witness_ComparatorDecisions :
    ∀ k : Fin 4, let w : LockWindow := { channel := 0, last := 3, lo := 0, hi := 0, endAt := 0, recA := if k.val % 2 = 0 then some 1 else none, recB := if k.val < 2 then some (BitVec.ofNat 64 (1 + k.val)) else some 2 }
      let s : State := { State.reset with now := 800, lock := { lanes := Vector.replicate 16 { windows := [w] } } }
      s.lock.lanes[(15 : EngineNo)].windows = w :: [] ∧ s.decisionDue 15 w = true ∧ s.linkUp CtrlId.b.die .safe = true := by decide +kernel

theorem witness_LanesAndTests :
    (let w : LockWindow := { channel := 0, last := 3, lo := 0, hi := 0, endAt := 0 }
     let s : State := { State.reset with now := 800, pwr := { testPending := true }, lock := { lanes := Vector.replicate 16 { windows := [w], plan := some (0, 1, 0) } } }
     s.lock.lanes[(0 : EngineNo)].windows = w :: [] ∧ w.closed .b = false ∧ s.openRuns .b 0 w.hi = [] ∧ s.lock.lanes[(0 : EngineNo)].plan = some (0, 1, 0)
     ∧ s.linkUp .ctrlA .safe = true ∧ s.linkUp .ctrlB .safe = true ∧ s.lock.lanes[(0 : EngineNo)].lastDecision + 0 + 800 ≤ s.now ∧ s.pwr.testPending = true ∧ s.st.passDue = false)
    ∧ ({ State.reset with links := Vector.replicate 27 { failed := true } } : State).linkUp .ctrlB .safe = false := by decide +kernel

theorem witness_FrameBoundaries :
    (s0.ch[(7 : Channel)]).running = true ∧ (s0.ch[(7 : Channel)]).nextBoundary ≤ s0.now ∧ (s0.ch[(7 : Channel)]).resyncAt = none ∧ s0.settingsDue 7 = true
    ∧ (s1.ch[(7 : Channel)]).resyncAt = some (100, 0, false) ∧ (s1.ch[(7 : Channel)]).nextBoundary ≤ 100 ∧ (s2.ch[(7 : Channel)]).resyncAt = some (99, 0, false) ∧ 99 < (s2.ch[(7 : Channel)]).nextBoundary
    ∧ (let s : State := { State.reset with glb := { locked := true, checked := true }, pwr := { rung := 3 } }; s.glb.locked = true ∧ s.glb.checked = true ∧ s.pwr.rung ≤ 3)
    ∧ s0.hasChannel 7 = true ∧ (s0.ch[(7 : Channel)]).sampled = false ∧ s0.nextSample 7 ≤ s0.now ∧ s0.unmeasured 1 = true
    ∧ ({ s0 with pwr := { rung := 0 } } : State).unmeasured 1 = false ∧ (s0.ch[(7 : Channel)]).schedule ≠ some ⟨1, s0.nextSample 7⟩ ∧ (s2.ch[(7 : Channel)]).schedule = some ⟨1, s2.nextSample 7⟩ := by decide +kernel
theorem witness_FrameBoundaries_SyncEvents :
    (let s : State := { State.reset with now := 10000000, regs := [(Reg.chSync 0, 0x40000000)], syncOutEnd := some 7, ch := Vector.replicate 8 { running := true, sync := .track, missed := 3, targets := [⟨0, true, false⟩, ⟨1, false, true⟩] } }
     s.ch[(0 : Channel)].running = true ∧ s.source 0 = 1 ∧ s.ch[(0 : Channel)].sync = .track ∧ (s.passedTarget 0 (s.period 0 / 8)).isSome ∧ (s.ch[(0 : Channel)].target 0).missed = false ∧ (s.ch[(0 : Channel)].target 1).missed = true ∧ s.ch[(0 : Channel)].missed = 3 ∧ s.syncOutEnd = some 7 ∧ 7 ≤ s.now
     ∧ true ≠ bitAt (s.reg Reg.syncPins) 0 ∧ 0 + s.syncFilter ≤ s.now ∧ false = bitAt (s.reg Reg.syncPins) 0)
    ∧ (let s : State := { State.reset with now := 10000000, regs := [(Reg.chSync 0, 0x40000000)], ch := Vector.replicate 8 { running := true, sync := .acquire } }
       s.ch[(0 : Channel)].running = true ∧ s.source 0 = 1 ∧ s.ch[(0 : Channel)].sync = .acquire ∧ (s.passedTarget 0 (s.nDiv 0 * s.period 0 / 2)).isSome ∧ s.ch[(0 : Channel)].missed < 3)
    ∧ State.reset.ch[(0 : Channel)].running = false := by decide +kernel

theorem witness_BoundaryCountsFrame : let s : State := { State.reset with now := 100, ch := Vector.replicate 8 { running := true, boundary := 60, frameLen := 40 } }
    s.ch[(0 : Channel)].running = true ∧ s.ch[(0 : Channel)].nextBoundary ≤ s.now ∧ s.ch[(0 : Channel)].resyncAt = none ∧ s.ch[(0 : Channel)].iInvalid = 0 ∧ s.settingsDue 0 = false := by decide +kernel

theorem witness_FrameLengths : 4000 ≤ ({ State.reset with regs := [(Reg.chCarrier 3, 4001)] } : State).period 3 ∧ ({ State.reset with regs := [(Reg.chCarrier 3, 0x30D41)] } : State).period 3 ≤ 200000
    ∧ 4000 ≤ ({ State.reset with regs := [(Reg.chCarrier 3, 0x30D41)] } : State).period 3 := by decide +kernel

theorem witness_ResyncsAndReferences_CommandedResyncs :
    (let s : State := { State.reset with now := 100, regs := [(Reg.chCarrier 7, 0), (Reg.chSync 5, 0x40000000), (Reg.chSync 7, 0x80000000)], ch := Vector.replicate 8 { running := true, armed := true, armedFrom := some 0, holdEnd := some 100, jumpAt := some 99 } }
     s.hasChannel 7 = true ∧ State.reset.ch[(6 : Channel)].running = false ∧ s.ch[(7 : Channel)].running = true ∧ bitAt (1 : BitVec 32) 0 = true ∧ bitAt (0xFFFFFFFE : BitVec 32) 0 = false ∧ s.source 7 = 2 ∧ s.source 6 ≠ 2 ∧ s.ch[(7 : Channel)].armed = true ∧ s.ch[(7 : Channel)].armedFrom = some 0
     ∧ s.ch[(7 : Channel)].resyncAt = none ∧ 0 + 4 * s.nDiv 7 * s.period 7 ≤ s.now ∧ s.ch[(7 : Channel)].holdEnd = some 100 ∧ 100 ≤ s.now
     ∧ s.ch[(7 : Channel)].jumpAt = some 99 ∧ 99 ≤ s.now ∧ 99 ≠ s.ch[(7 : Channel)].nextBoundary ∧ 99 ≠ s.ch[(7 : Channel)].boundary ∧ ¬ (s.ch[(7 : Channel)].iInvalid ≠ 0 ∨ s.ch[(s.withSettings 7).leader 7].iInvalid ≠ 0)
     ∧ (s.modCh 7 (fun x => { x with iInvalid := 1 })).ch[(7 : Channel)].iInvalid ≠ 0)
    ∧ (∀ n : Fin 2, let s : State := { State.reset with regs := [(Reg.chSync 5, 0x40000000)], ch := Vector.replicate 8 { running := true, iInvalid := n.val } }
       s.source 5 = 1 ∧ s.source 6 = 0 ∧ s.ch[(5 : Channel)].armedFrom = none ∧ s.ch[(6 : Channel)].resyncAt = none ∧ (s.resyncHeld 5 = decide (n.val = 1)) ∧ (s.resyncHeld 6 = decide (n.val = 1)))
    ∧ s1.ch[(7 : Channel)].resyncAt = some (100, 0, false) ∧ 100 ≤ s1.now ∧ s1.ch[(7 : Channel)].running = true ∧ s1.ch[(7 : Channel)].nextBoundary = 100
    ∧ s2.ch[(7 : Channel)].resyncAt = some (99, 0, false) ∧ s2.ch[(7 : Channel)].nextBoundary ≠ 99 := by decide +kernel
theorem witness_ResyncsAndReferences_ReferenceSets :
    (∀ k : Fin 3, let s : State := ({ State.reset with now := 500000, ch := Vector.replicate 8 { running := true, measValid := some true, published := if k.val = 0 then some ⟨3, 1, some (Vector.replicate 4 0)⟩ else none } } : State).modSlot .a 3 (fun x => { x with
          state := .active
          channel := 2
          samplePath := true
          doneFrame := if k.val = 1 then some 1 else none })
      (k.val = 0 → s.ch[(2 : Channel)].published = some ⟨3, (s.ch[(2 : Channel)].frame + 1) % 2 ^ 32, some (Vector.replicate 4 0)⟩) ∧ s.ch[(2 : Channel)].cutoffDone = false
      ∧ s.ch[(2 : Channel)].running = true ∧ s.ownReference 2 = false ∧ s.linkUp .ctrlA .link = true
      ∧ s.samplePathOf 2 = some 3 ∧ (s.slotOf .a 3).runsIn 1 = true ∧ s.nextCutOff 2 ≤ s.now ∧ (s.slotOf .a 3).isDone 1 = decide (k.val = 1)
      ∧ (s.die .a).engineOf 3 = none)
    ∧ ({ State.reset with prot := Vector.replicate 8 { state := .discharge } } : State).ownReference 2 = true
    ∧ (let s := ((engineState 0).modSlot .a 0 (fun x => { x with
          state := .active
          samplePath := true
          anchor := 1 })).modCh 0 (fun x => { x with
          running := true
          frame := 2 ^ 32 - 1 })
       s.samplePathOf 0 = some 0 ∧ (s.die .a).engineOf 0 = some (0, engineRun) ∧ engineRun.frame = 0 ∧ (s.slotOf .a 0).runsIn 0 = false
       ∧ ((s.modSlot .a 0 (fun x => { x with anchor := 0 })).slotOf .a 0).runsIn 0 = true ∧ ((s.modSlot .a 0 (fun x => { x with anchor := 0 })).slotOf .a 0).isDone 0 = false)
    ∧ (let s : State := { State.reset with ch := Vector.replicate 8 { running := true } }
       s.ch[(2 : Channel)].running = true ∧ s.ch[(2 : Channel)].cutoffDone = false ∧ s.nextCutOff 2 ≤ s.now ∧ s.samplePathOf 2 = none) := by decide +kernel

theorem witness_InputsAndGroups_BitstreamInputs : let s : State := { State.reset with regs := [(Reg.mclkCfg 1 0, 0x80000010), (Reg.sdmCfg 1 23, 0x80000010)], glb := { locked := true }, pwr := { rung := 0 } }
    s.hasDie (senseDie 1) = true ∧ bitAt (s.reg (Reg.sdmCfg 1 23)) 31 = true ∧ s.clkOn 1 (s.sdmClk 1 23) = true := by decide +kernel
theorem witness_InputsAndGroups_MeasurementGroups :
    (∀ g : Bool, let s : State := { State.reset with meas := (Vector.replicate 8 ({} : ChanSense)).set 7 { sent := g, sentM := !g, sample := 5 } }
      s.hasChannel 7 = true ∧ s.groupReady 7 g = true ∧ s.groupUnsent 7 g = true ∧ s.groupTurn 7 g = true)
    ∧ (let s : State := { State.reset with now := 200, regs := [(Reg.chMeas 0 0 9, 0xA0000000)] }
       s.meas[(0 : Channel)].sample + 200 ≤ s.now ∧ (idxs 10).filter (fun m => memberOn (measReg s 0 m.val) && !(s.meas[(0 : Channel)].members[m]).ready) ≠ [])
    ∧ ({ State.reset with part := .nb7806 } : State).hasDie (senseDie 1) = false := by decide +kernel

theorem witness_StuckWatchAndFilter :
    (let s : State := { State.reset with sense := Vector.replicate 2 { sdm := Vector.replicate 24 { run := 127, lastBit := true } } }
     (s.sdm 0 23).run = 127 ∧ (s.sdm 0 23).lastBit = true ∧ (s.sdm 0 23).stuck = false)
    ∧ (let s : State := { State.reset with sense := Vector.replicate 2 { sdm := Vector.replicate 24 { run := 128, lastBit := true, stuck := true } } }
     (s.sdm 0 0).stuck = true ∧ (s.sdm 0 0).lastBit ≠ false ∧ (s.sdm 0 0).run ≠ 0) ∧ (State.reset.sdm 1 0).run < 127 := by decide +kernel

theorem witness_Conversions_ConverterTriggers :
    (let s : State := { State.reset with regs := [(Reg.adcCtrl 0 5, 0xC0000000)], glb := { locked := true }, pwr := { rung := 0 } }
     s.hasDie (senseDie 0) = true ∧ s.fld (Reg.adcCtrl 0 5) 29 2 = 2 ∧ (s.conv 0 5).lastTimer ≠ some 0 ∧ s.adcOn 0 5 = true ∧ (s.conv 0 5).work = .idle)
    ∧ (∀ w : Fin 6, let s := urgentState w.val; s.hasChannel 0 = true ∧ s.meas[(0 : Channel)].requests = [if w.val = 4 then 0x30007 else if w.val = 5 then 5 else 0x30005]
        ∧ s.meas[(0 : Channel)].lastReqId = 0 ∧ s.adcOn (senseOf 0) 5 = true
        ∧ (w.val = 0 → (s.conv (senseOf 0) 5).work = .idle) ∧ (w.val = 1 → (s.conv (senseOf 0) 5).work = .pass ⟨.timer, 0, 0, 0, 0, [], false, false⟩ ∧ (s.conv (senseOf 0) 5).latched = none
          ∧ ((s.modConv (senseOf 0) 5 (fun x => { x with latched := some (.timer, 0) })).conv (senseOf 0) 5).latched = some (.timer, 0))
        ∧ (w.val = 2 → (s.conv (senseOf 0) 5).work = .urgent ⟨0, 0, 1⟩ 0 ∧ (s.conv (senseOf 0) 5).pendingUrgent = none ∧ (s.conv (senseOf 0) 5).latched = none)
        ∧ (w.val = 3 → (s.conv (senseOf 0) 5).work = .urgent ⟨0, 0, 1⟩ 0 ∧ (s.conv (senseOf 0) 5).pendingUrgent = some ⟨0, 0, 2⟩)) := by decide +kernel
theorem witness_Conversions_ConversionEnds :
    (∀ w : Fin 7, let s := endState w.val; s.hasDie (senseDie 1) = true ∧ (w.val < 3 → (s.conv 1 5).work = .urgent ⟨4, 3, 9⟩ 10 ∧ 10 + 80 ≤ s.now)
      ∧ (w.val = 0 → (s.conv 1 5).pendingUrgent = some ⟨4, 3, 10⟩) ∧ (w.val = 1 → (s.conv 1 5).pendingUrgent = none ∧ (s.conv 1 5).suspended = some ⟨.timer, 0, 0, 2, 0, [], false, true⟩)
      ∧ (w.val = 2 → (s.conv 1 5).pendingUrgent = none ∧ (s.conv 1 5).suspended = none)
      ∧ (w.val = 3 → (s.conv 1 5).work = .pass ⟨.timer, 0, 0, 23, 10, [], false, false⟩ ∧ 10 + 80 + 64 * s.acq 1 5 23 ≤ s.now)
      ∧ (w.val = 4 → (s.conv 1 5).work = .plaus 10) ∧ (w.val = 5 → (s.conv 1 5).work = .house 24 10))
    ∧ (let s : State := { State.reset with regs := [(Reg.plaus 1 2, 0x80000000)], glb := { locked := true }, pwr := { rung := 1 } }
       bitAt (s.reg (Reg.plaus 1 2)) 31 = true ∧ s.senseRuns = true ∧ rateOk ((s.sense[(1 : Fin 2)]).pairs[(2 : Fin 3)]).lastPeriod s.now 40000 = true
       ∧ s.pwr.rung ≤ 1 ∧ rateOk (s.sense[(1 : Fin 2)]).lastHouse s.now 400000 = true) := by decide +kernel

theorem witness_SampleBufferPointers : State.reset.memWf = true := by decide +kernel

theorem witness_ProtectionActs :
    (∀ b : Bool, let s : State := { State.reset with now := 400, wires := { ocTrip := Vector.replicate 8 true }, prot := Vector.replicate 8 { state := if b then .safeAsc else .run } }
       s.wires.ocTrip[(7 : Channel)] = true ∧ s.prot[(7 : Channel)].ocTaken = false ∧ (s.safeHeld 7 = some true ↔ b = true)
       ∧ s.hasChannel 7 = true ∧ (s.ocRelease 7).wires.ocTrip[(7 : Channel)] = false)
    ∧ (let s : State := { State.reset with now := 1000000000000, prot := Vector.replicate 8 { ocForce := true, ocClear := some 0, window := some ⟨0, [1, 2, 3], 1⟩ } }
       s.prot[(7 : Channel)].ocForce = true ∧ s.prot[(7 : Channel)].ocClear = some 0 ∧ 0 + s.ocHold 7 ≤ s.now ∧ s.prot[(7 : Channel)].window = some ⟨0, [1, 2, 3], 1⟩
       ∧ 0 + max 10 (min 2000 (bitsAt (s.reg (Reg.protPl 7)) 20 11)) * 400000 ≤ s.now)
    ∧ (∀ b : Bool, let s : State := { State.reset with prot := Vector.replicate 8 { state := .safeOpen, ascAt := if b then some 0 else none, stoReleaseAt := some 0 } }
       0 ≤ s.now ∧ s.prot[(7 : Channel)].ascAt = (if b then some 0 else none) ∧ s.prot[(7 : Channel)].stoReleaseAt = some 0 ∧ s.safeHeld 7 = some false)
    ∧ (let s := granted false; s.ch[(7 : Channel)].enabled = true ∧ s.releaseReason 7 = none)
    ∧ (let s := granted true; s.ch[(7 : Channel)].enabled = true ∧ s.releaseReason 7 = some 1)
    ∧ (∀ k : Fin 5, let s : State := { State.reset with regs := [(Reg.dischCfg 7, if k.val = 0 then 0 else if k.val = 3 then 0x40000000 else 0x80000000)], shut := { active := decide (k.val = 2) }, ch := Vector.replicate 8 { enabled := true }, prot := Vector.replicate 8 { state := if k.val = 1 then .discharge else .run } }
       s.ch[(7 : Channel)].enabled = true ∧ (s.dischMethod 7 = 0 ↔ k.val = 0) ∧ (s.prot[(7 : Channel)].state = .discharge ↔ k.val = 1) ∧ (s.shut.active = true ↔ k.val = 2)
       ∧ (s.dischMethod 7 = 1 ∧ s.windingReady 7 = false ↔ k.val = 3))
    ∧ (let s : State := { State.reset with now := 1000000000000, prot := Vector.replicate 8 { discharge := some ⟨0, false, 0, 0⟩ } }
       s.prot[(7 : Channel)].discharge = some ⟨0, false, 0, 0⟩ ∧ 0 + max 1 (s.fld (Reg.dischCfg 7) 16 13) * 4000000 ≤ s.now) := by decide +kernel

theorem witness_ShutdownAndLadder_ShutdownSteps :
    (let s : State := { State.reset with regs := [(Reg.shutCfg, 100)], pwr := { started := true } };
      s.shut.active = false ∧ s.shutV ≠ 0 ∧ 9999 < s.shutV ∧ s.pwr.rung ≤ 3 ∧ s.pwr.started = true)
    ∧ (∀ b : Bool, ∃ t s1, (descState { State.reset with shut := { active := b } } (plainDesc 0x40 (twoWords 1 0))).take (3 : BitVec 16).toNat 0x40 (fun d => d.w[0] == 1) = some (t, s1) ∧ t.desc.length = 0 ∧ t.desc.addr = 0 ∧ t.desc.zeroFrom 1 = true ∧ s1.shut.active = b)
    ∧ (let s : State := { State.reset with shut := { active := true, step := 1, start := 0 }, now := 24000000000 };
      s.shut.active = true ∧ s.shut.step = 1 ∧ s.shut.start + min 60000 (s.fld Reg.shutCfg 16 16) * 400000 ≤ s.now)
    ∧ (let s : State := { State.reset with shut := { active := true, step := 3 } }; s.shut.active = true ∧ s.shut.step = 3 ∧ ∀ c : Channel, s.prot[c].state ≠ .discharge)
    ∧ (let s : State := { State.reset with shut := { active := true, step := 5 } }; s.shut.active = true ∧ s.shut.step = 5 ∧ s.store.write = none ∧ s.store.queue = [] ∧ s.store.waiting = [])
    ∧ (∀ b : Bool, let s : State := { State.reset with regs := [(Reg.shutCfg, 100)], shut := { active := true, byVsup := b } };
      s.shut.active = true ∧ ((9999 < s.shutV ∧ s.shut.below = false) ∨ (s.shut.byVsup = true ∧ s.shutV + 500 < 9999)) ∧ (b = true → (s.shut.byVsup = true ∧ s.shutV + 500 < 10501))) := by
  refine ⟨by decide +kernel, ?_, by decide +kernel, by decide +kernel, by decide +kernel, by decide +kernel⟩
  intro b
  exact ⟨_, _, descState_take _ _ 0x40 _ rfl (by decide +kernel), by decide +kernel, by decide +kernel, by decide +kernel, rfl⟩
theorem witness_ShutdownAndLadder_LadderCommands :
    (let s : State := { State.reset with pwr := { rung := 3 } }; s.pwr.rung < bitsAt (5 : Word) 0 3 ∧ bitsAt (5 : Word) 0 3 ≤ 5 ∧ bitsAt (2 : Word) 0 3 ≤ 5 ∧ bitsAt (2 : Word) 0 3 < s.pwr.rung ∧ s.pwr.rung ≤ 3 ∧ s.wakeTarget < s.pwr.rung ∧ s.descentRefused 5 = none)
    ∧ ({ State.reset with shut := { active := true } } : State).descentRefused 5 = some 3
    ∧ (let s : State := { State.reset with pwr := { rung := 4 }, regs := [(Reg.pwrCfg, 0x80000000)] };
       s.wakeTarget < s.pwr.rung ∧ bitAt (s.reg Reg.pwrCfg) 31 = true ∧ s.pwr.timer ≤ s.now ∧ s.pwr.timerFired = false ∧ 1 ≤ s.pwr.rung ∧ s.pwr.rung ≤ 4)
    ∧ (∀ b : Bool, ∃ t s1, (descState { State.reset with shut := { active := b } } (plainDesc 0x40 (twoWords 2 5))).take (3 : BitVec 16).toNat 0x40 (fun d => d.w[0] == 2) = some (t, s1) ∧ t.desc.length = 0 ∧ t.desc.addr = 0 ∧ t.desc.zeroFrom 2 = true
       ∧ t.desc.w[1].toNat ≤ 5 ∧ s1.shut.active = b)
    ∧ (let s : State := { State.reset with pwr := { rung := 3, descent := some { target := 5, source := 0 } } }; s.pwr.descent = some { target := 5, source := 0 } ∧ s.pwr.rung = 3 ∧ 4 ≤ 5 ∧ s.store.write = none ∧ s.store.queue = [] ∧ s.store.waiting = [] ∧ s.storeUp = true)
    ∧ (∀ b : Bool, ∀ r : Bool, let c : Climb := { request := { target := 0, source := 1 }, stepAt := 0, repeated := r }
       let s : State := { State.reset with now := 480000000, pwr := { rung := if b then 3 else 5, climb := some c } };
       s.pwr.climb = some c ∧ c.repeated = r ∧ (b = true → (((s.noteRails 0).stepConditions 0).all id) = true)
       ∧ (b = false → unmetBits ((s.noteRails 0).stepConditions 0) ≠ 0 ∧ c.stepAt + readyTicks s.pwr.rung ≤ s.now)) := by
  refine ⟨by decide +kernel, by decide +kernel, by decide +kernel, ?_, by decide +kernel, by decide +kernel⟩
  intro b
  exact ⟨_, _, descState_take _ _ 0x40 _ rfl (by decide +kernel), by decide +kernel, by decide +kernel, by decide +kernel, by decide +kernel, rfl⟩

theorem witness_ColdStarts :
    (({ State.reset with pwr := { resetLow := true } } : State).pwr.resetLow = true)
    ∧ (State.reset.railNeeded 2 = true ∧ State.reset.pwr.resetLow = false ∧ (State.reset.railLimits 2).2 < 1211 ∧ 989 < (State.reset.railLimits 2).1)
    ∧ (∀ b : Bool, let s : State := { State.reset with
        pwr := { started := !b }
        chamois := { params := some [] }
        sw := { stoB := 0 }
        store := { State.reset.store with life := { State.reset.store.life with
          poweredS := 1000
          boot := { State.reset.store.life.boot with
            trial := 1
            trialFirstS := 1 } } } };
       s.store.life.boot.trial ≠ 0xFF ∧ s.store.life.boot.trialFirstS ≠ 0 ∧ s.store.life.boot.trialFirstS + 600 ≤ s.poweredS ∧ s.store.confirmed = false ∧ s.allSto 0xFF = b)
    ∧ (let s : State := { State.reset with tb := { running := true }, st := { startDone := true } };
       s.pwr.started = false ∧ s.pwr.resetLow = false ∧ s.tb.running = true ∧ s.st.startDone = true) := by decide +kernel

theorem witness_SetupAndSelfTest :
    (State.reset.glb.locked = false ∧ bitAt (1 : BitVec 32) 0 = true)
    ∧ (let s : State := { State.reset with glb := { locked := true } }; s.glb.locked = true ∧ s.glb.checked = false)
    ∧ ((State.reset.noteRails 0).testRefused 0 true = some 3)
    ∧ (let s : State := { State.reset with tb := { locked := true }, st := { startDone := true } }; (s.noteRails 0x1FE).testRefused 0x1FE true = none)
    ∧ (∀ k : Fin 5, let s : State := { State.reset with
       pwr := { started := decide (k.val = 1) }
       chamois := { params := some [] }
       sw := { stoB := if k.val = 1 then 0 else 0xFF }
       st := { fusing := decide (k.val = 2) }
       tahr := { testing := decide (k.val = 3) }
       store := { State.reset.store with
         lc0 := true
         ident := { phase := if k.val = 0 then 1 else 2 } } };
       (s.lifecycle = 3 ↔ k.val ≠ 0) ∧ (k.val ≠ 0 → (s.allSto 0xFF = false ↔ k.val = 1)) ∧ (s.st.fusing = true ↔ k.val = 2) ∧ (s.extendedRuns = true ↔ k.val = 3))
    ∧ (∀ b : Bool, let s : State := { State.reset with tb := { running := true, locked := b } }; s.extendedRuns = false ∧ s.st.startDone = false ∧ s.tb.running = true ∧ s.startClock = b ∧ s.pwr.started = false ∧ s.testReady 0 true = false)
    ∧ (plainEntry 2 0 0 0 :: [] ≠ [])
    ∧ (let s : State := { State.reset with tahr := { testing := true } }; s.extendedRuns = true ∧ s.testReady 0 true = false) := by decide +kernel

theorem witness_PositionInputs :
    (∀ m : Fin 3, let s := pifState 1 (600 * [0, 8, 24].getD m.val 0) {};
       s.hasDie (senseDie 1) = true ∧ s.pifOn 1 2 = true ∧ s.pifMode 1 2 = 1 ∧ s.fld (Reg.resPh 1 2) 0 17 ≤ s.now
       ∧ ((s.now - s.fld (Reg.resPh 1 2) 0 17) / (s.resPeriod 1 2 / 32)) % 32 = [0, 8, 24].getD m.val 0 ∧ (s.pif 1 2).lastSample ≠ some ((s.now - s.fld (Reg.resPh 1 2) 0 17) / (s.resPeriod 1 2 / 32)))
    ∧ (let s := pifState 2 1000000 {}; s.pifOn 1 2 = true ∧ s.pifMode 1 2 = 2 ∧ s.ssiDue 1 2 = some (1000000 / (s.mono 1 2 * 2)) ∧ (s.pif 1 2).busyUntil ≤ s.now ∧ (s.pif 1 2).wordAt = none)
    ∧ (let s := pifState 2 1000000 { wordAt := some 0, monoAt := some 7 }; s.pifOn 1 2 = true ∧ (s.pif 1 2).wordAt = some 0 ∧ s.ssiEnd 1 2 0 ≤ s.now ∧ (s.pif 1 2).monoAt = some 7)
    ∧ (∀ m : Fin 3, (pifState (m.val + 3) 0 {}).pifOn 1 2 = true ∧ (pifState (m.val + 3) 0 {}).pifMode 1 2 = m.val + 3
       ∧ (pifState (m.val + 3) 0 {}).encAccepts 1 2 200000 = true ∧ ({ State.reset with regs := [(Reg.encCfg 1 2, 0xF0000000)] } : State).encAccepts 1 2 14 = false)
    ∧ (∀ b : Bool, let s := pifState 3 5000 { homed := b, c := 3, obs := { good := 1 } };
       let cfg := s.reg (Reg.encCfg 1 2);
       s.pifOn 1 2 = true ∧ s.pifMode 1 2 = 3 ∧ s.encAccepts 1 2 200000 = true ∧ bitAt cfg 27 = true ∧ bitAt cfg 26 = true ∧ zQualified (bitsAt cfg 24 2) false false = true ∧ 2 * 3 ≤ s.cpr 1 2
       ∧ s.hasDie (senseDie 1) = true ∧ (s.pif 1 2).lastSignals ≠ some (5000 / 4000 * 4000) ∧ 3 ≤ s.pifMode 1 2 ∧ 0 < (s.pif 1 2).obs.good ∧ (s.pif 1 2).lastCount ≠ some (5000 / 400 * 400) ∧ (s.pif 1 2).accepted + 4 * s.tExp 1 2 < s.now) := by decide +kernel

theorem witness_CompareAndEmulator :
    (∀ m : Fin 2, let s := cmpState { prev := if m.val = 0 then none else some (-1) } {} {};
       let x := (s.pos[(1 : Fin 2)]).cmp[(3 : Fin 4)];
       s.hasDie (senseDie 1) = true ∧ bitAt (s.cmpReg 1 3) 31 = true ∧ x.disabled = false ∧ s.senseRuns = true ∧ x.lastEval ≠ some 1000
       ∧ (m.val = 1 → (s.fireEntries 1 3 (-1) (s.cmpPos 1 (s.cmpSrc 1 3) 1000) 1 { x with lastEval := some 1000, prev := some 0 }).2 ≠ 0
          ∧ (s.fireEntries 1 3 0 (s.cmpPos 1 (s.cmpSrc 1 3) 1000) 1 { x with lastEval := some 1000, prev := some 0 }).2 = 0))
    ∧ (((cmpState { outEnd := some 5 } {} {}).pos[(1 : Fin 2)]).cmp[(3 : Fin 4)].outEnd = some 5)
    ∧ (bitAt (0x80000000 : BitVec 32) 31 = true ∧ bitAt (State.reset.cmpReg 1 3) 31 = false ∧ State.reset.memWf = true)
    ∧ (∀ m : Fin 3, let s := cmpState {} { obs := { good := if m.val = 2 then 16 else 0 } } { started := m.val ≠ 0 };
       bitAt (s.reg (Reg.emuCfg 1)) 31 = true ∧ (s.pos[(1 : Fin 2)]).emu.disabled = false ∧ s.senseRuns = true ∧ (s.pos[(1 : Fin 2)]).emu.lastUpdate ≠ some 1000
       ∧ (s.pif 1 (s.emuSrc 1)).obs.settled = decide (m.val = 2)) := by decide +kernel

theorem witness_SatelliteMessages :
    (judge 1 0 true (message 0x13 [0, 0, 0, 0, 0]) true = .take 3 [0, 0, 0, 0, 0])
    ∧ (judge 1 0 true (message 0x13 [0, 0, 0, 0, 0x40]) true = .take 3 [0, 0, 0, 0, 0x40] ∧ (satState {} true).edgeValid 47 [0, 0, 0, 0, 0x40] = false)
    ∧ (∀ b : Bool, (satState { loss := b } true).edgeValid 47 [0, 0, 0, 0, 0] = true ∧ ((satState { loss := b } true).satHeard 47 3).sats[(47 : Port)].loss = b
      ∧ ((satState { loss := b } true).satHeard 47 3).sats[(47 : Port)].resyncHalf 0 = false)
    ∧ ((satState { hold := some 0 } true).edgeValid 47 [0, 0, 0, 0, 0] = true ∧ ((satState { hold := some 0 } true).satHeard 47 3).sats[(47 : Port)].resyncHalf (fieldLe [0, 0, 0, 0, 0] 0 5 % 2 ^ 18) = true)
    ∧ (judge 2 0 true (message 0x23 (List.replicate 11 1)) true = .take 3 (List.replicate 11 1))
    ∧ (judge 3 0 true (message 0x33 [0x10, 1, 2, 3, 4]) true = .take 3 [0x10, 1, 2, 3, 4])
    ∧ (∀ b : Bool, let s := (satState { tset := if b then 0 else 1 } true).satHeard 47 3; ((0 : Fin 2) = s.sats[(47 : Port)].tset ↔ b = true))
    ∧ (∀ op : Fin 6, judge 4 0 true (message 0x43 [BitVec.ofNat 8 op.val, 5, 0, 0, 0]) true = .take 3 [BitVec.ofNat 8 op.val, 5, 0, 0, 0] ∧ fieldLe [BitVec.ofNat 8 op.val, 5, 0, 0, 0] 0 1 = op.val)
    ∧ ((satState {} true).satHeard 47 3).shorted 47 = false
    ∧ (judge 1 0 true [1, 2, 3] true = .discard ∧ judge 2 0 true [1, 2, 3] true = .discard ∧ judge 3 0 true [1, 2, 3] true = .discard ∧ judge 4 0 true [1, 2, 3] true = .discard)
    ∧ (setOk 0 = true ∧ setOk 1 = false) := by
  decide +kernel
/-- A state with every ASC wire asserted. -/
def shortState : State := ({ satState {} true with
  sw := {
    asc := 0xFF
    stoB := 0 } } : State).satHeard 47 3
theorem witness_SatelliteMessages_short : shortState.shorted 47 = true ∨ (shortState.satHeard 46 3).shorted 46 = true := by
  have h47 : shortState.ascN (portChannel 47) = true := by decide +kernel
  have h46 : (shortState.satHeard 46 3).ascN (portChannel 46) = true := by decide +kernel
  cases h : Config.ascHigh 7
  · refine Or.inl ?_
    have hw : ascWired (portChannel 47) (portPos 47) = true := by simp [ascWired, portChannel, portPos, h]
    simp only [State.shorted, State.gateWire, hw, h47, Bool.and_self]; rfl
  · refine Or.inr ?_
    have hw : ascWired (portChannel 46) (portPos 46) = true := by simp [ascWired, portChannel, portPos, h]
    simp only [State.shorted, State.gateWire, hw, h46, Bool.and_self]; rfl

theorem witness_SatelliteEvents :
    (let s := satState {} true; (s.sats[(47 : Port)]).time = 0 ∧ 2048 ≤ s.satNow 47 ∧ (s.sats[(47 : Port)]).lastMark = none)
    ∧ (∀ b : Bool, let s := satState { edges := [⟨0, 15, true, 2⟩] } b; firstEdge (s.sats[(47 : Port)]).edges 15 = some ⟨0, 15, true, 2⟩ ∧ 0 ≤ s.sat32 47 ∧ (s.gateWire 47 = .follow ↔ b = true))
    ∧ (let s := satState { current := some ⟨0, 400, 0, true, []⟩ } true; (s.sats[(47 : Port)]).loss = false ∧ 0 + 400 ≤ s.satNow 47)
    ∧ (let s := satState { armed := [⟨0, 400, 0, true, []⟩] } true; (s.sats[(47 : Port)]).loss = false ∧ (s.sats[(47 : Port)]).hold = none ∧ (s.sats[(47 : Port)]).current = none ∧ 0 ≤ s.satNow 47)
    ∧ (let s := satState { halfEnd := some 400, lastLen := 400 } true; (s.sats[(47 : Port)]).loss = false ∧ (s.sats[(47 : Port)]).hold = none ∧ (s.sats[(47 : Port)]).current = none ∧ (s.sats[(47 : Port)]).armed = []
       ∧ (s.sats[(47 : Port)]).halfEnd = some 400 ∧ 400 ≤ s.satNow 47 ∧ 0 < (s.sats[(47 : Port)]).lastLen)
    ∧ (let s := satState { hold := some 0, repeat_ := [(0, 1, 1)] } true; (s.sats[(47 : Port)]).loss = false ∧ (s.sats[(47 : Port)]).hold = some 0 ∧ 0 + 400 ≤ s.satNow 47 ∧ (s.sats[(47 : Port)]).lastDown + 16000 ≤ s.now
       ∧ (s.sats[(47 : Port)]).repeat_ = [(0, 1, 1)] ∧ 0 ≤ s.now)
    ∧ (∀ b : Bool, let x := (satState { dies := 1, otLimit := 0 } true).sats[(47 : Port)];
       (dieMask ((idxs 16).filter (fun d => decide (d.val < x.dies) && !x.retired.getLsbD d.val && !(x.causes[d]).testBit 2 && decide ((x.otLimit : Int) * 100 < (([if b then 1 else 0] : List (BitVec 16)).getD d.val 0).toInt))) = 0 ↔ b = false)) := by decide +kernel

theorem witness_TolpelPorts :
    (let s := portState { state := .down }; s.ports[(47 : Port)].state = .down ∧ s.gaOn (portChannel 47) = true ∧ s.pwr.rung ≤ 1)
    ∧ (let s := portState { state := .ident }; s.ports[(47 : Port)].state = .ident ∧ rateOk s.ports[(47 : Port)].lastIdentReq s.now 40000 = true ∧ s.ports[(47 : Port)].marks.head? ≠ some (s.now / 4096 * 4096) ∧ s.gaOn (portChannel 47) = true
        ∧ s.diesOf (portChannel 47) ≤ fieldLe (List.replicate 13 (1 : BitVec 8)) 12 1 ∧ fieldLe (List.replicate 12 1 ++ [(0 : BitVec 8)]) 12 1 < s.diesOf (portChannel 47)
        ∧ s.store.ident.satIds[(47 : Port)] ≠ BitVec.ofNat 64 (fieldLe (List.replicate 13 1) 0 8)
        ∧ judge 10 1 false (message 0xA3 (List.replicate 12 1 ++ [0])) true = .take 3 (List.replicate 12 1 ++ [0]) ∧ s.diesOf (portChannel 47) = 1)
    ∧ (let s : State := { portState { state := .ident } with store := { State.reset.store with ident := { satIds := Vector.replicate 48 0x0101010101010101 } } };
        s.ports[(47 : Port)].state = .ident ∧ s.diesOf (portChannel 47) ≤ fieldLe (List.replicate 13 (1 : BitVec 8)) 12 1 ∧ s.store.ident.satIds[(47 : Port)] = BitVec.ofNat 64 (fieldLe (List.replicate 13 1) 0 8)
        ∧ s.store.ident.satIds[(47 : Port)] ≠ 0)
    ∧ (∀ b : Bool, let s := portState { state := if b then .ready else .time }; s.ports[(47 : Port)].state ≠ .down ∧ s.ports[(47 : Port)].marks.head? ≠ some (s.now / 4096 * 4096) ∧ s.ports[(47 : Port)].lastUp + 16000 ≤ s.now ∧ s.gaOn (portChannel 47) = true)
    ∧ (let n := (portState {}).diesOf (portChannel 47); judge 10 n false (message 0xA3 (List.replicate 13 1)) true = .take 3 (List.replicate 13 1)
       ∧ judge 9 n false (message 0x93 (List.replicate 9 1)) true = .take 3 (List.replicate 9 1) ∧ judge 8 n false (message 0x83 (List.replicate 15 1)) true = .take 3 (List.replicate 15 1)
       ∧ judge 8 n false [1, 2, 3] true = .discard ∧ judge 9 n false [1, 2, 3] true = .discard ∧ judge 10 n false [1, 2, 3] true = .discard ∧ setOk 0 = true ∧ setOk 1 = false)
    ∧ (let s : State := { portState {} with gates := Vector.replicate 48 { open_ := [⟨0, 0, 1, Vector.replicate 16 0⟩] } };
       (s.gates[(47 : Port)]).open_ = [⟨0, 0, 1, Vector.replicate 16 0⟩] ∧ 0 + 4000 ≤ s.now)
    ∧ (∀ b : Bool, let s : State := { State.reset with store := { State.reset.store with
         lc0 := b
         ident := { phase := 2 } } }; s.hasChannel 7 = true ∧ (s.lifecycle = 3 ↔ b = true) ∧ s.prot[(7 : Channel)].state = .sto ∧ bitsAt (0x5FFFF : BitVec 32) 16 3 < 6) := by
  decide +kernel

theorem witness_SafetyInputsAndCycle :
    (∀ on : Bool, ∀ ty : Fin 4, let im : List Byte := List.replicate 0x80 0 ++ [0, BitVec.ofNat 8 ty.val] ++ List.replicate 126 0 ++ [];
       let s : State := { State.reset with
         tahr := { image := some im }
         chamois := { params := some ([0, BitVec.ofNat 8 ty.val] ++ List.replicate 2 0 ++ [1, 0]) } };
       s.tahr.levels.getLsbD 0 ≠ true ∧ s.thresh true 0 = ty.val ∧ s.inputFilt true 0 = 4000 ∧ s.inputFilt false 0 = 0)
    ∧ (let s : State := { State.reset with
         now := 400000
         pwr := { started := true }
         tahr := { running := true, image := some [], levels := 1, lastCycle := some 99999 }
         chamois := { params := some [], latched := Vector.replicate 16 (some 0), releases := [15] } };
       (s.chamois.latched[(15 : Fin 16)]) = some 0 ∧ 0 + chamoisFn [] 15 8 2 * 4000000 ≤ s.now ∧ s.chamois.releases.contains 15 = true ∧ s.tahr.image = some []
       ∧ s.linkUp .safe .link = true ∧ s.linkUp .link .safe = true ∧ s.pwr.started = true ∧ s.pwr.rung ≤ 3 ∧ s.chamois.lastStatus + 400000 ≤ s.now ∧ 99999 / 100000 < s.now / 100000 ∧ s.tahr.chamoisFault = false
       ∧ s.tahr.lastCycle.isSome = true ∧ s.tahr.cyclesRun s.now = false)
    ∧ (let s : State := { State.reset with links := Vector.replicate 27 { failed := true } }; s.linkUp .safe .link = false)
    ∧ (∀ b : Bool, let s : State := { State.reset with tahr := { levels := if b then 1 else 0 } }; s.tahr.levels.getLsbD 0 = b)
    ∧ (let s : State := { State.reset with
         now := 3000001
         tahr := { image := some (List.replicate 0x41 0 ++ [10, 1]), pulseAt := Vector.replicate 4 none } };
       s.tahr.image.isSome = true ∧ s.pulseStart 3 = some 3000000 ∧ (s.tahr.pulseAt[(3 : Fin 4)]) ≠ some 3000000 ∧ s.now < 3000000 + s.tpWidth)
    ∧ (let s : State := { State.reset with
         now := 3000000
         tahr := { running := true, lastCycle := some 2999999, requests := [(3, true, 1)], image := some [], tpoLow := 0xF, pulseAt := Vector.replicate 4 (some 0) } };
       (s.tahr.pulseAt[(3 : Fin 4)]) = some 0 ∧ s.tahr.tpoLow.getLsbD 3 = true ∧ 0 + s.tpWidth - 8000 ≤ s.now ∧ 0 + s.tpWidth ≤ s.now ∧ s.tahr.healthy = true ∧ s.tahr.cyclesRun s.now = true ∧ s.tahr.requests.contains (3, true, (1 : BitVec 32).toNat) = true ∧ s.linkUp (requestDie 1) .safe = true ∧ s.tahr.lastBleat + 2000000 ≤ s.now)
    ∧ (let s : State := { State.reset with
         now := 400000000
         tahr := { image := some (List.replicate 0x2B6 0 ++ [1]), outs := Vector.replicate 4 { lastTestA := some 0, testA := some 0, testB := some 0 } } };
       (s.sOut 3 6 1).testBit 0 = true ∧ (s.tahr.outs[(3 : Fin 4)]).latchedOff = false ∧ rateOk (s.tahr.outs[(3 : Fin 4)]).lastTestA s.now 400000000 = true
       ∧ rateOk (s.tahr.outs[(3 : Fin 4)]).lastTestB s.now 400000000 = true ∧ ∀ b : Bool, (if b then (s.tahr.outs[(3 : Fin 4)]).testB else (s.tahr.outs[(3 : Fin 4)]).testA) = some 0) := by decide +kernel

theorem witness_SafetyConfigCommands :
    (∀ sub : Fin 8, 1 ≤ sub.val → ∃ t s1, (descState State.reset (safetyDesc sub.val)).take (3 : BitVec 16).toNat 0x60 (fun _ => true) = some (t, s1)
      ∧ ∃ b, dataOf t (some b) = some b ∧ blockBad b = false ∧ b.length = blockLen (Machine.fieldLe b 0 1) ∧ Machine.fieldLe b 0 1 = sub.val ∧ s1.acksAbsent b = false ∧ s1.safetyBusy = false ∧ s1.lifecycle ≠ 4)
    ∧ (∃ (s : State) (b : List Byte), Machine.fieldLe b 0 1 = 3 ∧ s.passwordOk ((b.drop 8).take (Machine.fieldLe b 1 1)) = true ∧ s.tahr.lockout = none ∧ s.allSto 0xFF = true
      ∧ s.tahr.pendingImage = some [] ∧ Machine.fieldLe [] 16 4 = Machine.fieldLe b 4 4)
    ∧ (({ State.reset with tahr := { lockout := some 0 } } : State).tahr.lockout = some 0) := by
  refine ⟨?_, ?_, rfl⟩
  · intro sub h
    have hf : Machine.fieldLe (safetyBlock sub.val) 0 1 = sub.val := by revert sub; decide +kernel
    have hl : (safetyBlock sub.val).length = blockLen sub.val := by
      by_cases hs : sub.val = 1 ∨ sub.val = 2
      · rw [safetyBlock_length _ hs]; rcases hs with e | e <;> rw [e] <;> rfl
      · revert sub; decide +kernel
    refine ⟨_, _, descState_take _ _ 0x60 _ rfl rfl, safetyBlock sub.val, safetyBlock_taken _ ?_, ?_, ?_, hf, ?_, rfl, ?_⟩
    · rw [hl]; revert sub; decide +kernel
    · revert sub; decide +kernel
    · rw [hf, hl]
    · revert sub; decide +kernel
    · show State.reset.lifecycle ≠ 4; decide +kernel
  · refine ⟨{ State.reset with tahr := { password := some ([], pbkdf2 [] []), pendingImage := some [] } }, [3], by decide +kernel, ?_, rfl, by decide +kernel, rfl, by decide +kernel⟩
    simp [State.passwordOk]
theorem witness_SafetyConfigCommands_others :
    (State.reset.tahrReached true = true ∧ State.reset.tahrReached false = true ∧ State.reset.lifecycle ≠ 4 ∧ State.reset.safetyBusy = false)
    ∧ dataOf ⟨3, 0, safetyDesc 3, false⟩ none = none
    ∧ (let b : List Byte := [3, 0, 0, 1] ++ List.replicate 68 0; blockBad b = true ∧ Machine.fieldLe b 0 1 = 3)
    ∧ (let b : List Byte := [3] ++ List.replicate 72 0; blockBad b = false ∧ b.length ≠ blockLen (Machine.fieldLe b 0 1) ∧ Machine.fieldLe b 0 1 = 3)
    ∧ (let b : List Byte := [6, 0, 0, 0, 0xF0] ++ List.replicate 67 0; blockBad b = false ∧ b.length = blockLen (Machine.fieldLe b 0 1) ∧ Machine.fieldLe b 0 1 = 6 ∧ ({ State.reset with part := .nb7806 } : State).acksAbsent b = true)
    ∧ (∃ c w, ({ State.reset with store := { State.reset.store with safetyDone := some (c, w) } } : State).safetyBusy = true)
    ∧ ({ State.reset with links := Vector.replicate 27 { failed := true } } : State).tahrReached false = false
    ∧ (State.reset.tahr.password = none ∧ Machine.fieldLe [(3 : BitVec 8)] 0 1 = 3 ∧ (satState {} true).allSto 0xFF = false ∧ (satState {} true).allSto 1 = false ∧ State.reset.allSto 0xFF = true)
    ∧ (let s : State := { State.reset with tahr := { password := some ([], []), lockout := some 0 } }; s.tahr.password.isSome = true ∧ s.tahr.lockout.isSome = true)
    ∧ (∃ s : State, s.tahr.password.isSome = true ∧ s.tahr.lockout = none ∧ s.passwordOk [] = false) := by
  refine ⟨by decide +kernel, by decide +kernel, by decide +kernel, by decide +kernel, by decide +kernel, ⟨.service, ⟨0, 0, 0, 0, 0⟩, rfl⟩, by decide +kernel, by decide +kernel, by decide +kernel,
    ⟨{ State.reset with tahr := { password := some ([], pbkdf2 [] [] ++ [0]) } }, rfl, rfl, ?_⟩⟩
  simp [State.passwordOk]

theorem witness_AuxSlots :
    ({ State.reset with part := .nb7806 } : State).hasDie .aux = false
    ∧ (let s := auxState 1 {} true; s.hasDie .aux = true ∧ s.auxStop = true ∧ s.aux.off = false)
    ∧ (let s := auxState 1 { drive := Vector.replicate 4 (some 20000) } false;
       s.auxStop = false ∧ s.slotOn 15 = true ∧ 1 < s.slotLegs 15 ∧ (s.slot 15).legOff.getLsbD 3 = false ∧ (s.slot 15).legOff.getLsbD 2 = false ∧ s.fld (Reg.slotShunt 15) 16 8 * 10 < 1000000
       ∧ (s.slot 15).highSeen (s.slotPeriod 15) (s.fld (Reg.slotPwm 15) 0 9) 1 (s.now % s.slotPeriod 15) = true ∧ (auxState 1 {} false).slotOn 15 = true
       ∧ (((auxState 1 {} false).slot 15).highSeen (s.slotPeriod 15) (s.fld (Reg.slotPwm 15) 0 9) 1 (s.now % s.slotPeriod 15) = false)
       ∧ s.fld (Reg.slotIlim 15) 16 16 * 100 < 100000000 ∧ ¬ s.fld (Reg.slotIlim 15) 16 16 * 100 < 0 ∧ (s.slot 15).thermAt + 40000 ≤ s.now ∧ fBelow (s.nextLoad 15) 0x3FA00000 = true ∧ s.fld (Reg.slotCfg 15) 0 16 ≠ 0 ∧ (s.slot 15).stale = false
       ∧ (s.slot 15).inbox = [] ∧ (s.slot 15).cmdAt.getD s.glb.lockedAt + s.fld (Reg.slotCfg 15) 0 16 * 400000 ≤ s.now ∧ s.aux.vmUv = false ∧ s.aux.vmOv = false ∧ s.aux.vddUv = false)
    ∧ (let s := auxState 1 { load := 0x40000000 } false; s.slotOn 15 = true ∧ fBelow (s.nextLoad 15) 0x3FA00000 = false ∧ (s.slot 15).cause ≠ 1)
    ∧ (∀ b : Bool, let s := auxState 2 { mode := .fault, cause := 2, hall := if b then some 7 else none, inbox := [(9, [2])] } false;
       s.slotOn 15 = true ∧ s.slotType 15 = 2 ∧ (s.slot 15).inbox = [(9, [2])] ∧ (s.slot 15).cause ≠ 0
       ∧ (((s.slot 15).take 2 (s.auxStop || s.aux.off) s.now 2 0 0 0 0 0).cause = 0) ∧ (((s.slot 15).take 2 (s.auxStop || s.aux.off) s.now 2 0 0 0 0 0).hall = some 7 ↔ b = true)) := by decide +kernel

theorem witness_AuxMotors :
    (∀ k : Fin 3, let s := auxState (k.val + 1) {} false; s.slotOn 15 = true ∧ s.slotType 15 = k.val + 1 ∧ s.slotPeriod 15 ≠ 0 ∧ (s.slot 15).valley < s.now / s.slotPeriod 15)
    ∧ (∀ h : Option (BitVec 3), h = none ∨ h = some 1 → let s := auxState 2 { hall := h } false; s.slotOn 15 = true ∧ s.slotType 15 = 2 ∧ (s.slot 15).hall ≠ some 7 ∧ (s.slot 15).hall ≠ some 3
       ∧ hallSector 7 = none ∧ (hallSector 3).isSome = true ∧ ((s.slot 15).hall.bind hallSector).isSome = h.isSome)
    ∧ (let s := auxState 2 { hallAt := some 0, drivenAt := some 0, tSec := some 1 } false; (s.slot 15).hallAt.getD 0 + s.fld (Reg.slotBldc 15) 16 10 * 400000 ≤ s.now
       ∧ (0 : Int) * (6000 * (s.slotAdvance 15).2) + (6000 * (s.slotAdvance 15).2 - (s.slotAdvance 15).1) * 1 ≤ (s.now : Int) * (6000 * (s.slotAdvance 15).2)
       ∧ (s.aux.pwm[(7 : Fin 8)]).bad = false ∧ (s.aux.pwm[(7 : Fin 8)]).edgeAt + s.fld (Reg.auxPwmCfg 7) 0 16 * 400000 ≤ s.now)
    ∧ (∀ b : Bool, let s := auxState 3 { stillAt := some 0, mode := if b then .stopping else .off } false; s.slotOn 15 = true ∧ (s.slot 15).profAt < s.now / 4000 ∧ s.slotDrives 15 = b
       ∧ (s.slot 15).reducing = none ∧ bitAt (s.reg (Reg.slotStep 15)) 30 = true ∧ 0 + s.fld (Reg.slotStep 15) 16 14 * 400000 ≤ s.now) := by
  refine ⟨by decide +kernel, ?_, by decide +kernel, by decide +kernel⟩
  rintro h (rfl | rfl) <;> decide +kernel

theorem witness_RingControl :
    (∀ ty : Fin 5, let s := ringOne ty.val { state := .active, host := 3, dev := 3 }; (s.ring 9).state = .active ∧ ((s.ring 9).submits = true ↔ ty.val ≤ 2) ∧ (s.ring 9).n = 16
       ∧ (5 + 2 ^ 32 - (s.ring 9).host) % 2 ^ 32 ≤ (s.ring 9).n - (s.ring 9).occ ∧ (s.ring 9).occ < (5 + 2 ^ 32 - (s.ring 9).host) % 2 ^ 32 ∧ (3 + 2 ^ 32 - (s.ring 9).host) % 2 ^ 32 ≤ (s.ring 9).occ)
    ∧ ((State.reset.ring 0).state ≠ .active ∧ rateOk (State.reset.ring 0).lastIgnored State.reset.now 400000000 = true ∧ rateOk (some 0) State.reset.now 400000000 = false)
    ∧ (∀ ty : Fin 5, let s : State := { ringOne ty.val { state := .active } with regs := [(Reg.ringSel, 9)] }; (s.ring s.selRing).state ≠ .off ∧ ((s.ring s.selRing).submits = false ↔ 3 ≤ ty.val) ∧ ((s.ring s.selRing).type = 4 ↔ ty.val = 4))
    ∧ (let s : State := fetchState false; (s.ring 0).type = 4 ∧ s.re.rings.any (fun p => p.2.submits && p.2.cring == 0 && (p.2.state == .active || p.2.state == .draining)) = true ∧ (s.ring s.selRing).state ≠ .off ∧ s.selRing = 0)
    ∧ (∀ k : Fin 4, let s : State := { ringOne 4 { state := .active } with regs := [(Reg.ringSel, if k.val = 0 then 9 else 0), (Reg.ringCtx 0, [0, 0xFFFFFFFF, 0x04000009, 0x64000000].getD k.val 0)] };
       let cw : Vector Word 5 := Vector.ofFn (fun i => s.reg (Reg.ringCtx i.val));
       ((s.ring s.selRing).state ≠ .off ↔ k.val = 0) ∧ (k.val = 1 → ctxBad cw = true) ∧ (2 ≤ k.val → ctxBad cw = false)
       ∧ (k.val = 2 → bitsAt cw[0] 29 3 ≤ 2 ∧ (s.ring (bitsAt cw[0] 0 16)).state = .active ∧ (s.ring (bitsAt cw[0] 0 16)).type = 4) ∧ (k.val = 3 → bitsAt cw[0] 29 3 = 3))
    ∧ (let s := ringOne 4 { state := .active, first := some 0, ctx := #v[0x84000000, 0, 0, 1, 0] };
       (s.ring (9 : BitVec 16).toNat).first = some 0 ∧ bitsAt (s.ring 9).ctx[3] 0 16 ≠ 0 ∧ 0 + bitsAt (s.ring 9).ctx[3] 0 16 * 400 ≤ s.now) := by decide +kernel

theorem witness_DescriptorFlow :
    (∀ b : Bool, let s := fetchState b; s.selects (9 : BitVec 16).toNat = true ∧ s.descBad (s.ring 9).type (descBytes 0) = none ∧ (s.descBad (s.ring 9).type (descBytes 2)).isSome = true
       ∧ s.descBad (s.ring 9).type (descBytes 1) = none ∧ ((s.recoveryBad (parseDesc (descBytes 1))).isSome = b) ∧ (s.recoveryBad (parseDesc (descBytes 0)) = none))
    ∧ (∀ op : Fin 2, ∃ t s1, (descState State.reset (plainDesc op.val (twoWords 0 0))).take (3 : BitVec 16).toNat op.val (fun _ => true) = some (t, s1))
    ∧ (let s := (descState (ringOne 0 { fence := some 0 }) (plainDesc 1 (twoWords 0 0))); (s.ring (9 : BitVec 16).toNat).fence = some 0 ∧ s.re.taken.all (fun t => decide (t.ring ≠ 9)) = true)
    ∧ (∀ q : Bool, let s := completedState q; s.pwr.rung ≤ 1 ∧ s.boundFor (9 : BitVec 16).toNat = [⟨3, 0, 0, 0, 0⟩] ∧ ((s.descOf 3 0).map (fun t => t.desc.quiet)) = some q ∧ (s.ring 9).state = .active ∧ (s.ring 9).occ < (s.ring 9).n)
    ∧ (let s := (completedState false).modRing 9 (fun r => { r with state := .off }); s.pwr.rung ≤ 1 ∧ s.boundFor (9 : BitVec 16).toNat = [⟨3, 0, 0, 0, 0⟩] ∧ (s.ring 9).state = .off)
    ∧ (let s := (completedState false).modRing 9 (fun r => { r with
         dev := r.n
         host := 0 }); s.pwr.rung ≤ 1 ∧ s.boundFor (9 : BitVec 16).toNat = [⟨3, 0, 0, 0, 0⟩] ∧ (s.ring 9).state = .active ∧ (s.ring 9).n ≤ (s.ring 9).occ)
    ∧ (State.reset.selects 9 = false ∧ 1 < ({ State.reset with pwr := { rung := 2 } } : State).pwr.rung)
    ∧ (let s := (descState (ringOne 0 { fence := some 0 }) (plainDesc 1 (twoWords 0 0))).modRe (fun r => { r with taken := r.taken.map (fun t => { t with
         ring := 9
         index := 1 }) });
       (s.ring (9 : BitVec 16).toNat).fence = some 0 ∧ s.re.taken.any (fun t => decide (t.ring = 9 ∧ t.index ≠ 0)) = true ∧ s.done = []) := by
  refine ⟨by decide +kernel, fun op => ⟨_, _, descState_take _ _ op.val _ rfl rfl⟩, by decide +kernel, by decide +kernel, by decide +kernel, by decide +kernel, by decide +kernel, by decide +kernel⟩

theorem witness_WriteSignalsAtFrame :
    (∀ ring ch frame : Nat, ∀ (s : State), ∃ t s1, (descState s (plainDesc 0x12 (twoWords (w32 ch) (w32 frame)))).take (3 : BitVec 16).toNat 0x12 (fun _ => true) = some (t, s1) ∧ t.desc.w[0] = w32 ch ∧ t.desc.w[1] = w32 frame
        ∧ s1.ch = s.ch ∧ s1.now = s.now ∧ dataOf t none = some [])
    ∧ ({ State.reset with part := .nb7806 } : State).hasChannel 7 = false
    ∧ (State.reset.hasChannel 7 = true ∧ (State.reset.ch[(7 : Channel)]).enabled = false)
    ∧ (let x : ChanTime := { enabled := true }; x.frame = 0 ∧ (0xFFFFFFFF + 2 ^ 32 - x.frame % 2 ^ 32) % 2 ^ 32 ≥ 2 ^ 31 ∧ 65536 < (70000 + 2 ^ 32 - x.frame % 2 ^ 32) % 2 ^ 32 ∧ (70000 + 2 ^ 32 - x.frame % 2 ^ 32) % 2 ^ 32 < 2 ^ 31 ∧ x.running = false ∧ x.resumed = false)
    ∧ (let s : State := { State.reset with ch := Vector.replicate 8 { enabled := true } }; (s.ch[(7 : Channel)]).enabled = true ∧ s.glb.locked = false)
    ∧ ({ State.reset with re := { timed := List.replicate 256 ⟨7, 0, 5, [1], 3, 0, none⟩ } } : State).re.timed.length = 256
    ∧ dataOf ⟨3, 0, { plainDesc 0x12 (twoWords 0 0) with length := 4 }, false⟩ none = none := by
  refine ⟨fun ring ch frame s => ⟨_, _, descState_take _ _ 0x12 _ rfl rfl, rfl, rfl, rfl, rfl, rfl⟩, by decide +kernel, by decide +kernel, by decide +kernel, by decide +kernel, by decide +kernel, by decide +kernel⟩
theorem witness_ReadSignals_refused : ∃ s : State, s.hostRead 0xFF00 1 = none :=
  ⟨State.reset.modCtrl .a (fun d => { d with dir := [{ ownEntry 0xFF00 6 true with hostR := false }] }), by
    simp only [State.hostRead]; exact if_pos (by decide +kernel)⟩
theorem witness_SignalDescriptors :
    (∀ (op : Nat) (w : Vector Word 10) (p : Desc → Bool), p (plainDesc op w) = true → ∃ t s1, (descState State.reset (plainDesc op w)).take (3 : BitVec 16).toNat op p = some (t, s1) ∧ dataOf t none = some [] ∧ t.desc.inline_ = false ∧ t.desc.noMem = true
      ∧ s1.hostRead 0 0 = some ([], s1.modCtrl .a (fun _ => s1.die .a)))
    ∧ ((State.reset.die .a).hostWriteBad (numbered 5 []) = none ∧ (State.reset.die .a).hostWriteBad (numbered 5 [1]) = some (4, 1))
    ∧ (∀ b : Bool, let t : TimedWrite := ⟨7, 0, 5, [1], 3, 0, if b then some 9 else none⟩
       let s : State := { State.reset with
         re := { timed := [t] }
         timerReqs := if b then #v[[⟨7, 9⟩], []] else #v[[], []] };
       (b = true → s.timerReqs[(0 : Fin 2)].find? (fun q => q.purpose == (7 : Channel).val) = some ⟨7, 9⟩ ∧ s.re.timed.filter (fun t => t.channel == 7 && t.due == some 9) = [t])
       ∧ (b = false → s.timerReqs[(0 : Fin 2)].find? (fun q => q.purpose == (7 : Channel).val) = none
         ∧ s.re.timed.find? (fun t => t.channel == 7 && t.due.isNone && frameGe (s.ch[(7 : Channel)]).frame t.frame) = some t))
    ∧ (plainDesc 0x30 (twoWords 0 0)).op = 0x30 ∧ bitAt (plainDesc 0x30 (twoWords 4 0)).w[0] 2 = true := by
  refine ⟨fun op w p h => ⟨_, _, descState_take _ _ op _ rfl h, rfl, rfl, rfl, rfl⟩, by decide +kernel, by decide +kernel, by decide +kernel, by decide +kernel⟩

/-- What judgeLoad comes to for the smallest image, on an empty slot of an enabled channel. -/
theorem fend_judge (s : State) (h1 : s.hasChannel 7 = true) (h2 : (s.slotOf .a 5).state = .empty) (h3 : (s.ch[(7 : Channel)]).enabled = true)
    (h4 : (parseImage (s.die .a).dir 5 7 fendImage).elim false (fun im => decide (im.code.length = 1 ∧ im.dir = [])) = true) :
    ((freeRuns 0 ((s.die .a).resident 0)).find? (fun r => decide (1 ≤ r.2)) = none → ∃ big, s.judgeLoad 5 7 fendImage = .full 0 1 big)
    ∧ (∀ r, (freeRuns 0 ((s.die .a).resident 0)).find? (fun r => decide (1 ≤ r.2)) = some r → 16384 < (s.die .a).dir.length → ∃ n free, s.judgeLoad 5 7 fendImage = .dirFull n free) := by
  generalize hp : parseImage (s.die .a).dir 5 7 fendImage = r at h4
  cases r with
  | none => cases h4
  | some im =>
    simp only [Option.elim, decide_eq_true_eq] at h4
    refine ⟨?_, ?_⟩
    · intro h5
      refine ⟨(freeRuns 0 ((s.die .a).resident 0)).foldl (fun m r => max m r.2) 0, ?_⟩
      simp only [State.judgeLoad, hp]; rw [if_neg (not_not.2 h1), if_neg (not_not.2 h2), if_neg (not_not.2 h3)]
      simp only [h4.1, show (5 : SlotCode).val / 64 = 0 from rfl, h5]
    · intro r h5 h6
      refine ⟨(s.die .a).dir.length - (s.die .a).dir.length, 16384 - (s.die .a).dir.length, ?_⟩
      simp only [State.judgeLoad, hp]; rw [if_neg (not_not.2 h1), if_neg (not_not.2 h2), if_neg (not_not.2 h3)]
      simp only [h4.1, h4.2, show (5 : SlotCode).val / 64 = 0 from rfl, h5, addEntries]; rw [if_pos h6]
/-- Bank 0 full with one program. -/
def fullBank : State := ({ State.reset with ch := Vector.replicate 8 { enabled := true } } : State).modCtrl .a (fun d => { d with slots := d.slots.set 0 { state := .loaded, nInstr := 131072 } })
/-- A directory that is full. -/
def fullDir : State := ({ State.reset with ch := Vector.replicate 8 { enabled := true } } : State).modCtrl .a (fun d => { d with dir := List.replicate 16385 (ownEntry 0 1 false) })
theorem witness_LoadProgram_full : ∃ big, fullBank.judgeLoad 5 7 fendImage = .full 0 1 big := by
  refine (fend_judge fullBank (by decide +kernel) (by decide +kernel) (by decide +kernel) ?_).1 (by decide +kernel)
  simp only [parseImage, fend_header, if_true]; decide +kernel
theorem witness_LoadProgram_dirFull : ∃ n free, fullDir.judgeLoad 5 7 fendImage = .dirFull n free := by
  have hd : (fullDir.die .a).dir = List.replicate 16385 (ownEntry 0 1 false) := rfl
  refine (fend_judge fullDir (by decide +kernel) (by decide +kernel) (by decide +kernel) ?_).2 (0, 131072) (by decide +kernel) (by rw [hd, List.length_replicate]; decide)
  simp only [parseImage, fend_header, if_true]; decide +kernel
theorem witness_ChannelMode_others :
    (let s : State := { State.reset with part := .nb7806 }; s.modeStop ⟨3, 0, plainDesc 0x41 (twoWords 0x80 0), false⟩ = some (2, 6))
    ∧ (let s : State := { State.reset with ch := Vector.replicate 8 { enabled := true } }; (s.source 0 = 0 ∧ (s.ch[(0 : Channel)]).running = false))
    ∧ (let s : State := { State.reset with ch := Vector.replicate 8 { enabled := true, running := true } }; s.source 0 ≠ 2 ∧ (s.ch[(0 : Channel)]).running = true)
    ∧ (bitAt (twoWords 0x180 0x80000000)[0] 8 = true ∧ bitAt (twoWords 0x180 0x80000000)[1] 31 ≠ bitAt (State.reset.reg (Reg.chCarrier 7)) 31)
    ∧ (maskChans 0x80).all (fun c => State.reset.hasChannel c) = true
    ∧ (State.reset.glb.locked = false ∧ ({ State.reset with glb := { locked := true } } : State).glb.locked = true) := by decide +kernel
/-- Settings that make a channel follow itself. -/
theorem witness_ChannelMode_bad : ∃ (s : State) (t : Taken) (c : Channel), s.modeStop t = none ∧ (s.ch[c]).enabled = true
    ∧ ((maskChans (BitVec.ofNat 8 (bitsAt t.desc.w[0] 0 8))).foldl (fun u c => (u.modCh c (fun x => { x with settings := some (s.modeSettings t c) })).withSettings c) s).modeBad c = true :=
  ⟨{ State.reset with ch := Vector.replicate 8 { enabled := true } }, ⟨3, 0, plainDesc 0x41 #v[0x204, 0, 0x80000000 + 0x10000000, 0, 0, 0, 0, 0, 0, 0], false⟩, 2, by decide +kernel, by decide +kernel, by decide +kernel⟩
theorem witness_ProgramAndModeDescriptors :
    (∀ b : Bool, ∃ t s1, (descState { State.reset with shut := { active := b } } (plainDesc 0x21 (twoWords 0xFFFF 0))).take (3 : BitVec 16).toNat 0x21 (fun _ => true) = some (t, s1) ∧ s1.shut.active = b ∧ s1.swapBad none none = true)
    ∧ (∀ k : Fin 2, let s := ({ State.reset with ctrl := Vector.replicate 2 { slots := Vector.replicate 128 { state := if k.val = 0 then .loaded else .active } } } : State); s.swapBad (some 5) none = false
       ∧ ((s.slotOf .a 5).state = .loaded ↔ k.val = 0))
    ∧ (∀ k : Fin 3, (let s : State := { State.reset with ch := Vector.replicate 8 { enabled := true } };
       s.modeStop ⟨3, 0, plainDesc 0x41 (twoWords ([0x1, 0x1001, 0x2001].getD k.val 0) 0), false⟩ = none ∧ ∃ t s1, (descState s (plainDesc 0x41 (twoWords ([0x1, 0x1001, 0x2001].getD k.val 0) 0))).take (3 : BitVec 16).toNat 0x41
         ((([fun d => bitsAt d.w[0] 12 2 == 0, fun d => bitAt d.w[0] 12, fun d => bitAt d.w[0] 13] : List (Desc → Bool))).getD k.val (fun _ => true)) = some (t, s1)))
    ∧ (∃ st det, State.reset.judgeLoad 5 7 [] = .bad st det)
    ∧ (∃ im, ({ State.reset with ch := Vector.replicate 8 { enabled := true } } : State).judgeLoad 5 7 fendImage = .ok 0 im) := by
  refine ⟨fun b => ⟨_, _, descState_take _ _ 0x21 _ rfl rfl, rfl, by revert b; decide +kernel⟩, by decide +kernel, fun k => ⟨by revert k; decide +kernel, _, _, descState_take _ _ 0x41 _ rfl ?_⟩, ⟨_, _, rfl⟩, fendImage_loads⟩
  · revert k; decide +kernel

/-- A register with RW fields, one with RWL fields, and offsets that change nothing. -/
theorem witness_RegisterWrites :
    (∃ r, regAt (Reg.glbFaultMask) = some r ∧ r.holds .rw = true ∧ r.holds .rwl = false)
    ∧ (∃ r, regAt (Reg.canNbt 0) = some r ∧ r.holds .rw = false ∧ r.holds .rwl = true)
    ∧ (State.reset.windowShut Reg.glbFaultMask = false ∧ ownRow Reg.glbFaultMask = false ∧ Reg.glbFaultMask % 4 = 0)
    ∧ (State.reset.windowShut (Reg.canNbt 0) = false ∧ ownRow (Reg.canNbt 0) = false ∧ Reg.canNbt 0 % 4 = 0)
    ∧ (State.reset.windowShut 0x20000 = true ∧ regAt 0xFFFFC = none) ∧ bitAt (0x2FFFFFFF : Word) 28 = false := by
  refine ⟨⟨(regAt Reg.glbFaultMask).getD ⟨0, [], []⟩, ?_⟩, ⟨(regAt (Reg.canNbt 0)).getD ⟨0, [], []⟩, ?_⟩, ?_, ?_, ?_, ?_⟩ <;> decide +kernel
theorem witness_RegisterWrites_sent : ({ State.reset with glb := { checked := true } } : State).glb.checked = true ∧ setupFlit (Reg.canNbt 0) = true
    ∧ State.reset.glb.checked = false ∧ setupFlit Reg.glbFaultMask = false := by decide +kernel

/-- A locked state, and a register with an RWL field. -/
theorem witness_LockedConfigurationStays :
    (∃ t, exec (.registerWrite 0x60010 0xFFFFFFFF) { State.reset with glb := { locked := true } } = .next t)
    ∧ (∃ r, regAt 0x60010 = some r ∧ (r.fields.any (fun f => f.access == .rwl)) = true) := by
  refine ⟨⟨_, rfl⟩, (regAt 0x60010).getD ⟨0, [], []⟩, ?_⟩
  decide +kernel

/-- CTRL-A on with an event on its way, off with one, a full queue's choice, and stages to release. -/
theorem witness_EventQueue :
    (∀ i : Fin 2, let s := { State.reset with pwr := { rung := 0, started := true }, now := 100000, ev := { State.reset.ev with aon := [(⟨0, 1, 2, 3, []⟩, 5)], raised := [(⟨100000, 1, 2, 3, []⟩, 6)] } }
      s.ctrlAOn = true ∧ ((s.ev.aon ++ s.ev.raised)[i.val]?).isSome = true ∧ s.ev.fill < eventPlaces)
    ∧ (({ State.reset with ev := { State.reset.ev with raised := [(⟨0, 1, 2, 3, []⟩, 5)] } } : State).ctrlAOn = false)
    ∧ (let s := { State.reset with ev := { State.reset.ev with queue := [⟨⟨0, 1, 2, 3, []⟩, 5, []⟩] } }
      s.ev.queue.any (fun q => q.ev.sev == leastSev (4 :: (s.ev.queue.map (fun q => q.ev.sev) ++ (s.ev.stage.filter (fun x => !x.dropped)).map (fun x => x.ev.sev)))) = true)
    ∧ (∀ b : Bool, let x : Staged := ⟨⟨0, 1, 2, 3, []⟩, 5, b⟩
      ({ State.reset with pwr := { rung := 0, started := true }, now := 8000, ev := { State.reset.ev with stage := [x] } } : State).ctrlAOn = true ∧ x.ev.time + reorderTicks ≤ 8000) := by
  decide +kernel

theorem witness_ReorderStageSorted : ([⟨⟨0, 1, 2, 3, []⟩, 5, true⟩, ⟨⟨1, 1, 2, 3, []⟩, 4, true⟩] : List Staged).Pairwise (fun a b => b.before a = false) := by decide +kernel

/-- CAN_3 on with objects 5 and 6, a receive object and a transmit object; object 5 is locked when b holds. -/
theorem witness_CanControllers_CanReception :
    (∀ b : Bool, let s := canState b;
      s.canOn 3 = true ∧ s.canMode 3 ≠ 2 ∧ (s.ctl 3).mode ≠ .busOff ∧ s.objectFor 3 9 false = some 5
      ∧ s.objKind 3 5 = 0 ∧ s.objKind 3 6 ≠ 0 ∧ (s.ctl 3).locked = (if b then some (5, 1000) else none) ∧ 1000 + 10 * msTicks ≤ s.now)
    ∧ bitsAt (canHead (9#29).toNat false true true) 0 29 = 9 ∧ bitAt (canHead (9#29).toNat false true true) 29 = false
    ∧ State.reset.objMirror 0 0 = false ∧ (canState true).objMirror 3 6 = true := by
  decide +kernel
/-- CAN_3 with a commit of transmit object 6, an attempt on the bus in either mode, and bus-off. -/
theorem witness_CanControllers_CanTransmission :
    (let s := canState false;
      s.objOn 3 6 = true ∧ s.objKind 3 6 = 1 ∧ s.objMirror 3 6 = true ∧ s.txOwned 3 6 = true ∧ ({ s with canSent := [(s.objBase 3 6, 100, [1])] } : State).canSent.find? (fun p => p.1 == s.objBase 3 6) = some (s.objBase 3 6, 100, [1])
      ∧ s.canSent.find? (fun p => p.1 == s.objBase 3 6) = none ∧ (s.ctl 3).onBus = none ∧ bitAt (s.reg (Reg.canCtrl 3)) 31 = true ∧ s.glb.checked = true)
    ∧ (∀ b : Bool, let s := busState b;
      s.canOn 3 = true ∧ (s.ctl 3).onBus = some ⟨6, 9, [], false⟩ ∧ (s.canMode 3 = if b then 2 else 0) ∧ s.objKind 3 6 ≠ 2
      ∧ (List.range 16).find? (fun i => dlcLen (bitAt (w32 9) 30) i == ([] : List Byte).length) = some 0)
    ∧ (let s := State.reset.modCan 3 (fun c => { c with
        mode := .busOff
        recovering := true });
      (s.ctl 3).mode = .busOff ∧ (s.ctl 3).recovering = true) := by
  decide +kernel

/-- A user section of kind 1 at reset passes, a firmware image does not, kind 0 does not. -/
theorem witness_StoreRecords_judge : let s := descAfter State.reset (plainDesc 0x50 (twoWords 1 0));
    s.kindBusy 1 = false ∧ s.storeUp = true ∧ s.lifecycle = 1 ∧ (match s.judgeRecord 7 [] with
      | .error (1, 1, some 3) => true
      | _ => false) = true ∧ (match s.judgeRecord 0 [] with
      | .error (2, 6, none) => true
      | _ => false) = true ∧ s.inForce 1 = some 0 ∧ s.inForce 2 = none := by
  decide +kernel
/-- A write of a kind that ends, with a safety request that waits, OWNER_LOCK as b says and 25 V at VSUP_SENSE. -/
theorem witness_StoreRecords :
    (∀ (op : Nat) (w : Vector Word 10), ∃ t s1, (descState State.reset (plainDesc op w)).take (3 : BitVec 16).toNat op (fun _ => true) = some (t, s1) ∧ dataOf t none = some [] ∧ t.desc.length ≠ 1024 ∧ t.desc.w = w)
    ∧ (∀ n ≠ 0, ∃ t s1, (descState State.reset { plainDesc 0x50 (twoWords 1 0) with length := n }).take (3 : BitVec 16).toNat 0x50 (fun _ => true) = some (t, s1)
        ∧ dataOf t (some (List.replicate n 0)) = some (List.replicate n 0) ∧ t.desc.w[0] = 1 ∧ t.desc.w[1] = 0 ∧ s1 = descAfter State.reset t.desc)
    ∧ (∃ t s1, (descState State.reset { plainDesc 0x70 (twoWords 0 0) with length := 1024 }).take (3 : BitVec 16).toNat 0x70 (fun _ => true) = some (t, s1) ∧ t.desc.length = 1024)
    ∧ (∀ (k : Fin 8) (b : Bool), let s : State := (State.reset.modStore (fun x => { x with
        write := some ⟨k.val, 0, [], .device⟩
        safetyDone := some (.device, ⟨3, 0, 0, 0, 0⟩)
        ident := { x.ident with ownerLock := b } })).modCtrl .a (fun d => { d with
        dir := [ownEntry (senseBase 0 + 0x317) 1 false]
        board := [(senseBase 0 + 0x317, 0x41C80000)] });
      s.store.write = some ⟨k.val, 0, [], .device⟩ ∧ s.store.safetyDone = some (.device, ⟨3, 0, 0, 0, 0⟩) ∧ s.writeCut ⟨k.val, 0, [], .device⟩ = false ∧ s.updateHeld = if b then some 4 else none)
    ∧ (({ State.reset with links := Vector.replicate 27 { failed := true } } : State).writeCut ⟨1, 0, [], .device⟩ = true)
    ∧ (let s : State := State.reset.modStore (fun x => { x with evlog := { x.evlog with buffer := [(⟨0, 1, 2, 3, []⟩, 4)] } });
      s.pwr.rung ≤ 3 ∧ s.storeUp = true ∧ s.store.evlog.buffer ≠ []) := by
  refine ⟨?_, ?_, ?_, by decide +kernel, by decide +kernel, by decide +kernel⟩
  · exact fun op w => ⟨_, _, descState_take _ _ op _ rfl rfl, rfl, by simp [plainDesc], rfl⟩
  · intro n hn
    refine ⟨_, _, descState_take _ _ 0x50 _ rfl rfl, ?_, rfl, rfl, rfl⟩
    simp only [dataOf, if_neg hn, Option.filter, List.length_replicate, beq_self_eq_true, if_true]
  · exact ⟨_, _, descState_take _ _ 0x70 _ rfl rfl, rfl⟩

theorem witness_WrittenBankComesIntoForce : ([] : List Byte).length ≤ bankSize 6 - 32 := by decide +kernel

theorem witness_LifecycleRequests :
    (∀ o : Fin 7, let d : Desc := { plainDesc 0x40 (twoWords 3 (BitVec.ofNat 32 (o.val + 1))) with length := 160 };
      ∃ t s1, (descState State.reset d).take (3 : BitVec 16).toNat 0x40 (fun d => d.w[0] == 3 && (d.w[1].toNat == o.val + 1 || !within d.w[1].toNat 1 7)) = some (t, s1) ∧ t.desc.w[1].toNat = o.val + 1
        ∧ s1.shut.active = false ∧ t.desc.length = 160 ∧ t.desc.zeroFrom 3 = true ∧ dataOf t (some (List.replicate 160 0)) = some (List.replicate 160 0) ∧ s1.safetyBusy = false ∧ s1.tahrReached true = true ∧ s1.lifecycle ≠ 4
        ∧ t.desc.w[2].toNat < 6 * s1.nChannels)
    ∧ (State.reset.lifeAllowed 3 = true ∧ State.reset.tahr.lockout = none ∧ State.reset.lifeAllowed 2 = false)
    ∧ ((State.reset.modTahr (fun t => { t with lockout := some 5 })).lifeAllowed 3 = true) := by
  refine ⟨?_, by decide +kernel, by decide +kernel⟩
  intro o
  refine ⟨_, _, descState_take _ _ 0x40 _ rfl ?_, ?_⟩
  · revert o; decide +kernel
  · revert o; decide +kernel

/-- The port open, with a session 7 whose last SEQ is 4 and with a write of a kind under way. -/
theorem witness_ServicePort :
    (∀ (type session seq : Nat) (p : List Byte), type < 2 ^ 8 → session < 2 ^ 16 → seq < 2 ^ 32 → p.length ≤ 1440 → parseSvc (svcFrame type session seq p) = some ⟨type, session, seq, p⟩) ∧ parseSvc [] = none
    ∧ (∀ op : Fin 7, Machine.fieldLe (leBytes 1 (op.val + 1) ++ List.replicate 4 0 ++ leBytes 4 1) 0 1 = op.val + 1
      ∧ Machine.fieldLe ((leBytes 1 (op.val + 1) ++ List.replicate 4 0 ++ leBytes 4 1).drop 1) 4 4 = 1)
    ∧ (∀ k : Fin 3, let s := portOpen k.val;
      s.svcOpen = true ∧ s.store.svc.session.any (fun y => y.number == 7 && y.lastSeq == 4 && y.owner && y.writing == (if k.val = 0 then none else some (k.val - 1, 8, List.replicate 8 0)) && decide (y.lastAt + 30 * sTicks ≤ s.now)) = true
      ∧ s.store.svc.waiting = none ∧ s.store.recovery = false ∧ s.shut.active = false ∧ s.safetyBusy = false ∧ s.tahrReached true = true ∧ s.lifecycle ≠ 4 ∧ s.store.svc.hello.isSome = true)
    ∧ ((portOpen 0).hostRead 0x5000 1).isSome = true
    ∧ (match (portOpen 0).readRecord 1 0 4 with
      | .ok _ => true
      | _ => false) = true
    ∧ (portOpen 0).beginBad 0 72 = none
    ∧ (portOpen 0).kindBusy 1 = false
    ∧ ((portOpen 0).lifeRequest 3 0 1 none []).2.1 = 0 := by
  refine ⟨parseSvc_svcFrame, by decide +kernel, by decide +kernel, ?_, by decide +kernel, by decide +kernel, by decide +kernel, by decide +kernel, by decide +kernel⟩
  intro k
  refine ⟨?_, ?_, ?_, ?_, ?_, ?_, ?_, ?_, ?_⟩ <;> (revert k; decide +kernel)

/-- The state after reset, whose step is a tick. -/
theorem witness_MemoriesStayCanonical : State.reset.memWf = true ∧ ∃ t, step State.reset = .next t := ⟨by decide +kernel, _, rfl⟩

end Sys2Proof.Tests
end

section
/-! PROOFS. Flits and re-sends of the die-to-die links, the effects forwarded to CTRL-B, the DIE_FAULT wire and the scrubber of the signal board (01_dies_and_paths.md R24 to R31, 03_signal_board.md R118 to R120). -/

namespace Sys2Proof.Machine

/-! ## Links (R24 to R26) -/

section
variable {s : State} {l : Fin 27} {b : BitVec 128}

theorem execFlit_unavailable (h : s.links[l].failed = true ∨ s.hasLink l = false) : execFlit l b s = .next s := by
  have refused : (s.links[l].failed || !s.hasLink l) = true := by simpa using h
  simp only [execFlit, if_pos refused]

variable (up : s.links[l].failed = false) (stands : s.hasLink l = true)

include up stands

theorem link_takes : ¬ (s.links[l].failed || !s.hasLink l) = true := by
  rw [up, stands]
  decide

theorem execFlit_damaged (bad : ¬ crc16 (msbBits 112 (b.toNat / 2 ^ 16)) = b.toNat % 2 ^ 16) :
    execFlit l b s = .next (s.emit (.linkAck l.val true s.links[l].rxExpected)) := by
  simp only [execFlit, if_neg (link_takes up stands), ne_eq, if_pos bad]

theorem execFlit_repeated (good : crc16 (msbBits 112 (b.toNat / 2 ^ 16)) = b.toNat % 2 ^ 16)
    (other : b.toNat / 2 ^ 120 % 16 ≠ s.links[l].rxExpected) :
    execFlit l b s = .next (s.emit (.linkAck l.val false ((s.links[l].rxExpected + 15) % 16))) := by
  simp only [execFlit, if_neg (link_takes up stands), if_neg (not_not_intro good), if_pos other]

theorem execFlit_expected (good : crc16 (msbBits 112 (b.toNat / 2 ^ 16)) = b.toNat % 2 ^ 16)
    (expected : b.toNat / 2 ^ 120 % 16 = s.links[l].rxExpected) :
    execFlit l b s = .next (((s.modLink l (fun k => { k with
      rxExpected := (k.rxExpected + 1) % 16
      delivered := k.delivered ++ [(b.toNat / 2 ^ 124, b.toNat / 2 ^ 116 % 16, BitVec.ofNat 96 (b.toNat / 2 ^ 16))]
      replay := k.replay.filter (fun f => f.seq != b.toNat / 2 ^ 120 % 16) })).emit (.linkAck l.val false (b.toNat / 2 ^ 120 % 16))).sendWaiting l) := by
  simp only [execFlit, if_neg (link_takes up stands), if_neg (not_not_intro good), if_neg (not_not_intro expected)]

/-- The flits before the named one are acknowledged, it and the later ones are re-sent. -/
theorem execNegativeAcknowledgement_resends {q : BitVec 4} {before rest : List SentFlit} {f : SentFlit}
    (buffer : s.links[l].replay = before ++ f :: rest) (named : f.seq = q.toNat) (earlier : ∀ g ∈ before, g.seq ≠ q.toNat) :
    execNegativeAcknowledgement l q s = .next (((s.modLink l (fun k => { k with replay := f :: rest })).resend l (f :: rest)).sendWaiting l) := by
  have kept : s.links[l].replay.dropWhile (fun f => f.seq != q.toNat) = f :: rest := by
    rw [buffer, List.dropWhile_append_of_pos (fun g hg => bne_iff_ne.2 (earlier g hg)), List.dropWhile_cons_of_neg (by simp [named])]
  simp only [execNegativeAcknowledgement, if_neg (link_takes up stands), kept, List.isEmpty_cons, Bool.false_eq_true, if_false]

end

theorem execAcknowledgementTimeout_resends {s : State} {l : Fin 27} {f : SentFlit} {rest : List SentFlit}
    (up : s.links[l].failed = false) (buffer : s.links[l].replay = f :: rest) (old : f.sentAt + 800 ≤ s.now) :
    execAcknowledgementTimeout l s = .next (s.resend l (f :: rest.filter (fun g => decide (g.sentAt + 800 ≤ s.now)))) := by
  have overdue : s.links[l].replay.filter (fun g => decide (g.sentAt + 800 ≤ s.now)) = f :: rest.filter (fun g => decide (g.sentAt + 800 ≤ s.now)) := by
    rw [buffer, List.filter_cons_of_pos (by simpa using old)]
  simp only [execAcknowledgementTimeout, up, overdue, List.isEmpty_cons, Bool.or_self, Bool.false_eq_true, if_false]

/-- A flit that was re-sent three times already fails the link (R26). -/
theorem State.resend_fails {f : SentFlit} {fs : List SentFlit} (s : State) (l : Fin 27) (mem : f ∈ fs) (spent : 3 ≤ f.retries) :
    s.resend l fs = s.failLink l :=
  if_pos (List.any_eq_true.2 ⟨f, mem, decide_eq_true spent⟩)

/-! ## Effects forwarded to CTRL-B (R21) -/

theorem execForwardedEffect_oldest {s : State} {f : Forwarded} {fs : List Forwarded} (queue : s.forward = f :: fs) (up : s.linkUp .ctrlA .ctrlB = true) :
    execForwardedEffect s = if (s.die .b).atPosition f.started then .next (State.applyEffect { s with forward := fs } .b f.effect) else .next s := by
  simp only [execForwardedEffect, queue, if_neg (not_not_intro up)]

/-! ## The DIE_FAULT wire (R29, R31, R458, R481) -/

theorem State.hasDie_safe (s : State) : s.hasDie .safe = true := by
  unfold State.hasDie
  cases s.part <;> rfl

theorem execDieFault_absent {s : State} {d : Die} (h : s.hasDie d = false) : execDieFault d s = .next s := by
  simp only [execDieFault, h, Bool.false_eq_true, not_false_eq_true, if_true]

theorem execDieFault_present {s : State} {d : Die} (h : s.hasDie d = true) :
    execDieFault d s = .next (if d = .safe then ((s.assertDieFault d).dieFaultDrives d).lockLost.chamoisLoss 1
      else ((s.assertDieFault d).dieFaultDrives d).lockLost) := by
  simp only [execDieFault, if_neg (not_not_intro h)]
  rfl

/-! ## The scrubber (R118 to R120) -/

@[simp] theorem State.modCtrl_die_same (s : State) (d : CtrlId) (f : CtrlDie → CtrlDie) : (s.modCtrl d f).die d = f (s.die d) :=
  vUpd_same s.ctrl d.ix f

theorem State.modCtrl_congr {s : State} {d : CtrlId} {f g : CtrlDie → CtrlDie} (h : f (s.die d) = g (s.die d)) : s.modCtrl d f = s.modCtrl d g := by
  simp only [State.modCtrl, vUpd]
  exact congrArg (fun x => { s with ctrl := s.ctrl.set d.ix.val x d.ix.isLt }) h

@[simp] theorem State.raiseAll_ctrl (s : State) (es : List Event) : (s.raiseAll es).ctrl = s.ctrl := by
  induction es generalizing s with
  | nil => rfl
  | cons e es ih => exact ih _

@[simp] theorem State.raiseAll_die (s : State) (es : List Event) (d : CtrlId) : (s.raiseAll es).die d = s.die d :=
  congrArg (·[d.ix]) (s.raiseAll_ctrl es)

theorem CtrlDie.ecc_sound {x : CtrlDie} {a : Nat} (d : CtrlId) (now : Nat) (sound : kvGet 0 x.eccBad a = 0) : x.ecc d now a = (x, []) := by
  simp only [CtrlDie.ecc, sound, if_true]

/-- A single wrong bit is corrected and counted; the second event of a second is left out (R118). -/
theorem CtrlDie.ecc_single {x : CtrlDie} {a b : Nat} (d : CtrlId) (now : Nat) (single : kvGet 0 x.eccBad a = 2 ^ b) :
    ∃ last, (x.ecc d now a).1 = { x with eccBad := kvDel x.eccBad a, eccCorr := holdInc 0xFFFFFFFF x.eccCorr, lastCorrEvent := last } := by
  have wrong : kvGet 0 x.eccBad a ≠ 0 := single ▸ (Nat.two_pow_pos b).ne'
  have one : kvGet 0 x.eccBad a = 2 ^ Nat.log2 (kvGet 0 x.eccBad a) := by rw [single, Nat.log2_two_pow]
  simp only [CtrlDie.ecc, if_neg wrong, if_pos one, kvSet, if_true]
  split
  · exact ⟨some now, rfl⟩
  · exact ⟨x.lastCorrEvent, rfl⟩

/-- More wrong bits poison the word (R119). -/
theorem CtrlDie.ecc_multiple {x : CtrlDie} {a : Nat} (d : CtrlId) (now : Nat) (wrong : kvGet 0 x.eccBad a ≠ 0) (several : ∀ b, kvGet 0 x.eccBad a ≠ 2 ^ b) :
    x.ecc d now a = ({ x with
      poisoned := if x.poisoned.contains a then x.poisoned else x.poisoned ++ [a]
      eccUncorr := holdInc 255 x.eccUncorr
      eccLast := a }, [⟨now, 0x0114, d.code, 12, [w32 a]⟩]) := by
  simp only [CtrlDie.ecc, if_neg wrong, if_neg (several _)]

/-- The die y after an access of the scrubber of x: it stands at the next word, and a pass that begins is dated (R120). -/
def CtrlDie.scrubMoved (x y : CtrlDie) (now : Nat) : CtrlDie :=
  { y with
    scrubAt := (x.scrubAt + 1) % 2 ^ 18
    scrubPass := if x.scrubAt = 0 then some now else x.scrubPass }

/-- The scrubber may read its next word: inside a pass, or PERIOD_MS after the pass before began (R120). -/
def State.scrubTurn (s : State) (d : CtrlId) : Prop :=
  (s.die d).scrubAt ≠ 0 ∨ rateOk (s.die d).scrubPass s.now (bitsAt (s.scrubWord d) 0 16 * 400000) = true

/-- The test that execScrub makes before it reads. -/
theorem scrub_reads_iff {s : State} {d : CtrlId} :
    (bitAt (s.scrubWord d) 31 && ((s.die d).scrubAt ≠ 0 || rateOk (s.die d).scrubPass s.now (bitsAt (s.scrubWord d) 0 16 * 400000))) = true
      ↔ bitAt (s.scrubWord d) 31 = true ∧ s.scrubTurn d := by
  rw [Bool.and_eq_true, Bool.or_eq_true, decide_eq_true_iff, State.scrubTurn]

theorem execScrub_reads {s : State} {d : CtrlId} (on : bitAt (s.scrubWord d) 31 = true) (turn : s.scrubTurn d) :
    execScrub d [] s = .next ((s.modCtrl d (fun _ => (s.die d).scrubMoved ((s.die d).ecc d s.now (s.die d).scrubAt).1 s.now)).raiseAll
      ((s.die d).ecc d s.now (s.die d).scrubAt).2) :=
  if_pos (scrub_reads_iff.2 ⟨on, turn⟩)

theorem execScrub_waits {s : State} {d : CtrlId} (us : List (Nat × Nat)) (idle : bitAt (s.scrubWord d) 31 = false ∨ ¬ s.scrubTurn d) :
    execScrub d us s = .next (s.modCtrl d (·.upset us)) := by
  have stands : ¬ (bitAt (s.scrubWord d) 31 = true ∧ s.scrubTurn d) := by
    rcases idle with off | early
    · simp [off]
    · exact fun h => early h.2
  exact if_neg (mt scrub_reads_iff.1 stands)

/-- A scrub of a sound word moves the scrubber on and nothing else. -/
theorem execScrub_sound {s : State} {d : CtrlId} (on : bitAt (s.scrubWord d) 31 = true) (turn : s.scrubTurn d)
    (sound : kvGet 0 (s.die d).eccBad (s.die d).scrubAt = 0) :
    execScrub d [] s = .next (s.modCtrl d (fun x => (s.die d).scrubMoved x s.now)) := by
  rw [execScrub_reads on turn, CtrlDie.ecc_sound d s.now sound]
  exact congrArg Host.Outcome.next (State.modCtrl_congr rfl)

/-- The scrub of a word with one wrong bit. -/
theorem execScrub_single {s : State} {d : CtrlId} {b : Nat} (on : bitAt (s.scrubWord d) 31 = true) (turn : s.scrubTurn d)
    (single : kvGet 0 (s.die d).eccBad (s.die d).scrubAt = 2 ^ b) :
    ∃ t, execScrub d [] s = .next t ∧ (t.die d).scrubAt = ((s.die d).scrubAt + 1) % 2 ^ 18
      ∧ (t.die d).eccBad = kvDel (s.die d).eccBad (s.die d).scrubAt ∧ (t.die d).board = (s.die d).board ∧ (t.die d).poisoned = (s.die d).poisoned
      ∧ (t.die d).eccCorr = if (s.die d).eccCorr < 0xFFFFFFFF then (s.die d).eccCorr + 1 else 0xFFFFFFFF := by
  obtain ⟨last, corrected⟩ := CtrlDie.ecc_single d s.now single
  refine ⟨_, execScrub_reads on turn, ?_⟩
  rw [State.raiseAll_die, State.modCtrl_die_same, corrected]
  exact ⟨rfl, rfl, rfl, rfl, rfl⟩

/-- The scrub of a word with several wrong bits. -/
theorem execScrub_multiple {s : State} {d : CtrlId} (on : bitAt (s.scrubWord d) 31 = true) (turn : s.scrubTurn d)
    (wrong : kvGet 0 (s.die d).eccBad (s.die d).scrubAt ≠ 0) (several : ∀ b, kvGet 0 (s.die d).eccBad (s.die d).scrubAt ≠ 2 ^ b) :
    ∃ t, execScrub d [] s = .next t ∧ (t.die d).scrubAt = ((s.die d).scrubAt + 1) % 2 ^ 18
      ∧ (t.die d).poisoned.contains (s.die d).scrubAt = true ∧ (t.die d).eccLast = (s.die d).scrubAt ∧ (t.die d).board = (s.die d).board
      ∧ t.ev.raised = s.ev.raised ++ [(⟨s.now, 0x0114, d.code, 12, [w32 (s.die d).scrubAt]⟩, s.ev.nextOrder)] := by
  refine ⟨_, execScrub_reads on turn, ?_⟩
  rw [State.raiseAll_die, State.modCtrl_die_same, CtrlDie.ecc_multiple d s.now wrong several]
  refine ⟨rfl, ?_, rfl, rfl, rfl⟩
  show (if (s.die d).poisoned.contains (s.die d).scrubAt then (s.die d).poisoned else (s.die d).poisoned ++ [(s.die d).scrubAt]).contains _ = true
  split
  · assumption
  · simp

/-! ## The obligation -/

/-- Settles O18: `exec` runs each command's own meaning, and the rules above say what that meaning answers in each case. -/
theorem linksAndScrubbing : Obligations.LinksAndScrubbing := by
  unfold Obligations.LinksAndScrubbing
  refine ⟨⟨?flit, ?negative, ?timeout, fun s l f fs => s.resend_fails l, ?forwarded⟩, ?wire, ?scrub⟩
  case flit => exact fun s l b => ⟨execFlit_unavailable, execFlit_damaged, execFlit_repeated, execFlit_expected⟩
  case negative => exact fun s l q before rest f up stands => execNegativeAcknowledgement_resends up stands
  case timeout => exact fun s l f rest => execAcknowledgementTimeout_resends
  case forwarded =>
    intro s f fs queue up
    exact ⟨fun started => (execForwardedEffect_oldest queue up).trans (if_pos started),
      fun behind => (execForwardedEffect_oldest queue up).trans (if_neg (Bool.eq_false_iff.1 behind))⟩
  case wire =>
    intro s d
    refine ⟨fun present other => ?_, ?_, execDieFault_absent⟩
    · exact (execDieFault_present present).trans (congrArg _ (if_neg other))
    · rintro rfl
      exact (execDieFault_present s.hasDie_safe).trans (congrArg _ (if_pos rfl))
  case scrub =>
    intro s d
    exact ⟨execScrub_sound, fun b => execScrub_single, execScrub_multiple, fun idle u => execScrub_waits [u] idle⟩

end Sys2Proof.Machine
end

section
/-! PROOFS. Ticks, the time base's events, the frame schedule of the SENSE dies, DEV_TIME_LO, timers and time codes (02_time_base_and_frames.md R44 to R57; 18_power_ladder.md R603). -/

namespace Sys2Proof.Machine

/-! ## Ticks (R44, R46, R603) -/

theorem step_idle {s : State} (idle : s.pending = []) : step s = .next s.tick := by
  simp only [step, idle]

theorem State.tick_now (s : State) :
    s.tick.now = if s.tb.running then (s.now + if s.pwr.rung = 4 then 16 else 1) % 2 ^ 64 else s.now :=
  apply_ite State.now _ _ _

/-! ## Events of the time base (R44 to R49) -/

theorem execTimeBaseLock_first {s : State} (stands : s.tb.running = false) : execTimeBaseLock s = .next { s with
    now := if s.pwr.rung = 5 then s.store.life.shedTime else 0
    tb := { s.tb with running := true, locked := true, refPresent := true, holdover := false } } :=
  if_neg (Bool.eq_false_iff.1 stands)

section
variable {s : State} (runs : s.tb.running = true) (unlocked : s.tb.locked = false)

include runs unlocked

theorem execTimeBaseLock_unlocked : execTimeBaseLock s =
    if s.tb.holdover then .next (s.relock s.tb.holdoverAt) else if s.tb.noLock then .next (s.relock 0) else .next s :=
  (if_pos runs).trans (if_neg (Bool.eq_false_iff.1 unlocked))

theorem execTimeBaseLock_holdover (held : s.tb.holdover = true) : execTimeBaseLock s = .next (s.relock s.tb.holdoverAt) :=
  (execTimeBaseLock_unlocked runs unlocked).trans (if_pos held)

theorem execTimeBaseLock_afterTimeout (held : s.tb.holdover = false) (never : s.tb.noLock = true) : execTimeBaseLock s = .next (s.relock 0) :=
  (execTimeBaseLock_unlocked runs unlocked).trans ((if_neg (Bool.eq_false_iff.1 held)).trans (if_pos never))

end

theorem execLockTimeout_coldStart {s : State} (stands : s.tb.running = false) (rung : s.pwr.rung ≠ 5) : execLockTimeout s =
    .next ((State.raise { s with
      now := 0
      tb := { s.tb with running := true, noLock := true, failed := true } } 0x1003 6 15 [1]).assertDieFault .link) :=
  if_neg (not_or.2 ⟨Bool.eq_false_iff.1 stands, rung⟩)

theorem execReferenceLost_locked {s : State} {t : Nat} (runs : s.tb.running = true) (locked : s.tb.locked = true) : execReferenceLost t s =
    .next (State.raise { s with tb := { s.tb with locked := false, refPresent := false, holdover := true, holdoverAt := s.now, timedOut := false } }
      0x1001 6 8 (timeWords t)) :=
  if_pos ⟨runs, locked⟩

theorem execReferenceReturn_holdover {s : State} (held : s.tb.holdover = true) : execReferenceReturn s = .next (s.relock s.tb.holdoverAt) :=
  if_pos held

theorem execHoldoverTimeout_due {s : State} (held : s.tb.holdover = true) (once : s.tb.timedOut = false) (due : s.tb.holdoverAt + 10 * sTicks ≤ s.now) :
    execHoldoverTimeout s =
      .next ((State.raise { s with tb := { s.tb with failed := true, timedOut := true } } 0x1003 6 15 [0]).assertDieFault .link) :=
  if_pos ⟨held, Bool.eq_false_iff.1 once, due⟩

/-! ## The frame schedule of a SENSE die (R55) -/

section
variable {s : State} {d : Fin 2} {m : BitVec 128} (present : s.hasDie (senseDie d) = true)

include present

theorem execFrameMessage_new (sound : scheduleCrcOk m = true) (type : m.toNat / 2 ^ 120 = 1)
    (new : s.ch[chanOf d (m.toNat / 2 ^ 118)].schedule.any (fun x => x.frame == m.toNat / 2 ^ 16 % 2 ^ 32) = false) :
    execFrameMessage d m s = .next (s.modCh (chanOf d (m.toNat / 2 ^ 118)) (fun x => { x with
      schedule := some ⟨m.toNat / 2 ^ 16 % 2 ^ 32, m.toNat / 2 ^ 48 % 2 ^ 64⟩ })) :=
  (if_pos present).trans (if_pos ⟨sound, type, new⟩)

theorem execFrameMessage_secondCopy
    (known : s.ch[chanOf d (m.toNat / 2 ^ 118)].schedule.any (fun x => x.frame == m.toNat / 2 ^ 16 % 2 ^ 32) = true) :
    execFrameMessage d m s = .next s :=
  (if_pos present).trans (if_neg fun ⟨_, _, new⟩ => Bool.eq_false_iff.1 new known)

theorem execFrameMessage_damaged (bad : scheduleCrcOk m = false) : execFrameMessage d m s = .next s :=
  (if_pos present).trans (if_neg fun ⟨sound, _⟩ => Bool.eq_false_iff.1 bad sound)

theorem execResyncMessage_sound (sound : scheduleCrcOk m = true) (type : m.toNat / 2 ^ 120 = 2) :
    execResyncMessage d m s = .next (s.modCh (chanOf d (m.toNat / 2 ^ 118)) (fun x => { x with senseResync := some (m.toNat / 2 ^ 48 % 2 ^ 64) })) :=
  (if_pos present).trans (if_pos ⟨sound, type⟩)

theorem execResyncMessage_damaged (bad : scheduleCrcOk m = false) : execResyncMessage d m s = .next s :=
  (if_pos present).trans (if_neg fun ⟨sound, _⟩ => Bool.eq_false_iff.1 bad sound)

end

/-- Settles O2: each event of the time base meets the one branch of its meaning that its conditions name, and a relock raises TB_REF_RESTORED. -/
theorem timeBaseEvents : Obligations.TimeBaseEvents := by
  unfold Obligations.TimeBaseEvents
  refine ⟨?ticks, ?events, ?schedule⟩
  case ticks => exact fun s idle => ⟨s.tick, step_idle idle, rfl, s.tick_now⟩
  case events =>
    intro s t
    exact ⟨execTimeBaseLock_first, execTimeBaseLock_holdover, execTimeBaseLock_afterTimeout, execLockTimeout_coldStart,
      execReferenceLost_locked, execReferenceReturn_holdover, execHoldoverTimeout_due⟩
  case schedule =>
    intro s d m present
    exact ⟨fun sound type => ⟨execFrameMessage_new present sound type, execFrameMessage_secondCopy present⟩,
      execResyncMessage_sound present,
      fun bad => ⟨execFrameMessage_damaged present bad, execResyncMessage_damaged present bad⟩⟩

/-! ## DEV_TIME_LO and timers (R51, R57) -/

theorem execTimerMatch_due {s : State} {d : CtrlId} {i : Nat} {t : Timer} (armed : (s.timers[d.ix])[i]? = some t) (due : t.at_ ≤ s.localTime d) :
    execTimerMatch d i s = .next { s with
      timers := vUpd s.timers d.ix (fun l => l.eraseIdx i)
      timerReqs := vUpd s.timerReqs d.ix (fun l => l ++ [⟨t.purpose, t.at_⟩]) } := by
  simp only [execTimerMatch, armed, if_pos due]

/-- Settles O13: the read of DEV_TIME_LO is its meaning written out, and a match in time takes the branch of `execTimerMatch` that raises the request. -/
theorem deviceTimeReadsAndTimers : Obligations.DeviceTimeReadsAndTimers := by
  unfold Obligations.DeviceTimeReadsAndTimers
  exact ⟨fun s => rfl, fun s d i t => execTimerMatch_due⟩

/-! ## Time codes (R53) -/

/-- The clock of a die after a code of time `code` whose CRC passes and which disagrees with the copy: the copy holds the code's time. -/
def DieClock.reloaded (k : DieClock) (now code : Nat) : DieClock :=
  { k with
    skew := (code : Int) - ((now - now % 4096 : Nat) : Int)
    badCodes := k.badCodes + 1
    lastEvent := if rateOk k.lastEvent now msTicks then some now else k.lastEvent }

/-- The state after a code that disagrees: the copy is reloaded and TIME_CODE_MISMATCH raised unless it was within the last millisecond. -/
def State.toldMismatch (s : State) (d : Die) (code : Nat) : State :=
  let after : State := { s with clocks := vUpd s.clocks d.ix (fun k => k.reloaded s.now code) }
  if rateOk s.clocks[d.ix].lastEvent s.now msTicks then
    after.raise 0x1004 d.code 6 [i32 (((s.now - s.now % 4096 : Nat) : Int) + s.clocks[d.ix].skew - (code : Int))]
  else after

section
variable {s : State} {d : Die} {code : BitVec 64} {crc : BitVec 16} (present : s.hasDie d = true) (sound : crc16 (msbBits 64 code.toNat) = crc.toNat)

include present sound

theorem execTimeCode_agrees (agrees : ((s.now - s.now % 4096 : Nat) : Int) + s.clocks[d.ix].skew - (code.toNat : Int) = 0) :
    execTimeCode d code crc s = .next { s with clocks := vUpd s.clocks d.ix (fun k => { k with badCodes := 0 }) } := by
  simp only [execTimeCode, if_pos present, sound, Int.sub_eq_zero.1 agrees, decide_true, Bool.and_self, if_true]

theorem execTimeCode_differs (differs : ((s.now - s.now % 4096 : Nat) : Int) + s.clocks[d.ix].skew - (code.toNat : Int) ≠ 0) :
    execTimeCode d code crc s = .next (if 1 ≤ s.clocks[d.ix].badCodes then (s.toldMismatch d code.toNat).assertDieFault d else s.toldMismatch d code.toNat) := by
  have other : ¬ ((s.now - s.now % 4096 : Nat) : Int) + s.clocks[d.ix].skew = (code.toNat : Int) := mt Int.sub_eq_zero.2 differs
  simp only [execTimeCode, if_pos present, sound, other, decide_true, decide_false, Bool.and_false, Bool.false_eq_true, if_true, if_false,
    Nat.reduceLeDiff, State.toldMismatch, DieClock.reloaded]
  rfl

end

/-- Settles O14: a code that disagrees reloads the copy and is told; the second in a row is one that meets a count of at least 1. -/
theorem timeCodeChecks : Obligations.TimeCodeChecks := by
  unfold Obligations.TimeCodeChecks
  intro s d code crc present k start diff say after told sound
  refine ⟨execTimeCode_agrees present sound, fun differs first => ?_, fun differs second => ?_⟩
  · exact (execTimeCode_differs present sound differs).trans (congrArg _ (if_neg (Nat.not_le.2 (Nat.lt_one_iff.2 first))))
  · exact (execTimeCode_differs present sound differs).trans (congrArg _ (if_pos second))

end Sys2Proof.Machine
end

section
/-! PROOFS. Frame boundaries, carrier start, sample instants and SYNC_IN (02_time_base_and_frames.md R60 to R81; 16_host_rings.md R558). -/

namespace Sys2Proof.Machine

/-! ## Frame boundaries (R60, R63, R67, R84) -/

section
variable {s : State} {c : Channel} (runs : s.ch[c].running = true) (due : s.ch[c].nextBoundary ≤ s.now)

include runs due

theorem execFrameBoundary_free (free : s.ch[c].resyncAt = none) : execFrameBoundary c s = .next (s.boundary c) := by
  simp only [execFrameBoundary, runs, due, free, and_self, if_true]

theorem execFrameBoundary_resync {tb : Nat} {e : Int} {cmd : Bool} (armed : s.ch[c].resyncAt = some (tb, e, cmd)) :
    execFrameBoundary c s = if s.ch[c].nextBoundary ≤ tb then .next (s.boundary c) else .next s := by
  simp only [execFrameBoundary, runs, due, armed, true_and, decide_eq_true_eq]

theorem execSettingsEffect_due (settings : s.settingsDue c = true) : execSettingsEffect c s = .next (s.boundary c) :=
  if_pos ⟨runs, due, settings⟩

end

/-! ## Carrier start (R64, R69) -/

theorem execCarrierStart_locked {s : State} (locked : s.glb.locked = true) (checked : s.glb.checked = true) (rung : s.pwr.rung ≤ 3) :
    execCarrierStart s = .next (((List.finRange 8).filter (fun c => s.source c == 2)).foldl State.startCarrier
      (((List.finRange 8).filter (fun c => !(s.source c == 2))).foldl State.startCarrier s)) :=
  (if_pos ⟨locked, checked, rung⟩).trans (congrArg _ List.foldl_append)

/-- T_start is a multiple of 4,096 ticks (R64). -/
theorem State.tStart_aligned (s : State) : s.tStart % 4096 = 0 := Nat.mul_mod_left _ _

/-- It is the first one at least 40,000 ticks after the lock (R64). -/
theorem State.tStart_first (s : State) : s.glb.startFrom + 40000 ≤ s.tStart ∧ s.tStart < s.glb.startFrom + 44096 := by
  unfold State.tStart
  omega

/-! ## Sample instants (R55, R86, R604) -/

/-- The state at a due sample instant, once it is noted and the filters of SENSE have taken their bits. -/
def State.takeSample (s : State) (c : Channel) (bits : List (List Bool)) : State :=
  ((s.modCh c (fun x => { x with
    sampled := true
    skipped := s.unmeasured ((s.ch[c].frame + 1) % 2 ^ 32)
    measValid := none
    schedule := none })).qualify c).sampleBits c bits

section
variable {s : State} {c : Channel} {bits : List (List Bool)} {k : Nat} (part : s.hasChannel c = true) (runs : s.ch[c].running = true)
  (first : s.ch[c].sampled = false) (due : s.nextSample c ≤ s.now) (frame : (s.ch[c].frame + 1) % 2 ^ 32 = k)

include part runs first due frame

/-- A due sample instant: what SENSE does is decided by the schedule message and by whether the frame is measured; a mark of R86 is used up in each case. -/
theorem execSampleInstant_due : execSampleInstant c bits s =
    let s1 := s.takeSample c bits
    let s2 := (if ¬ s.ch[c].schedule = some ⟨k, s.nextSample c⟩ then s1.lostSchedule c k (s.nextSample c)
      else if s.unmeasured k then s1.sampleTriggers c (s.nextSample c)
      else ((s1.sampleMembers c k (s.nextSample c)).sampleTriggers c (s.nextSample c)).askPosfb c (s.nextSample c)).countMark c
    .next (if s.unmeasured k then s2.skipRuns c k (s.nextSample c) else s2) := by
  subst frame
  simp only [execSampleInstant, part, runs, first, due, not_true_eq_false, Bool.false_eq_true, or_self, if_false]
  rfl

theorem execSampleInstant_skipped (off : s.unmeasured k = true) (scheduled : s.ch[c].schedule = some ⟨k, s.nextSample c⟩) :
    execSampleInstant c bits s = .next ((((s.takeSample c bits).sampleTriggers c (s.nextSample c)).countMark c).skipRuns c k (s.nextSample c)) := by
  simp only [execSampleInstant_due part runs first due frame, off, scheduled, not_true_eq_false, if_false, if_true]

theorem execSampleInstant_skippedUnscheduled (off : s.unmeasured k = true) (lost : s.ch[c].schedule ≠ some ⟨k, s.nextSample c⟩) :
    execSampleInstant c bits s = .next ((((s.takeSample c bits).lostSchedule c k (s.nextSample c)).countMark c).skipRuns c k (s.nextSample c)) := by
  simp only [execSampleInstant_due part runs first due frame, off, if_pos lost, if_true]

theorem execSampleInstant_measured (on : s.unmeasured k = false) (scheduled : s.ch[c].schedule = some ⟨k, s.nextSample c⟩) :
    execSampleInstant c bits s = .next (((((s.takeSample c bits).sampleMembers c k (s.nextSample c)).sampleTriggers c (s.nextSample c)).askPosfb c
      (s.nextSample c)).countMark c) := by
  simp only [execSampleInstant_due part runs first due frame, on, scheduled, not_true_eq_false, Bool.false_eq_true, if_false]

theorem execSampleInstant_unscheduled (on : s.unmeasured k = false) (lost : s.ch[c].schedule ≠ some ⟨k, s.nextSample c⟩) :
    execSampleInstant c bits s = .next (((s.takeSample c bits).lostSchedule c k (s.nextSample c)).countMark c) := by
  simp only [execSampleInstant_due part runs first due frame, on, if_pos lost, Bool.false_eq_true, if_false]

end

/-! ## Edges on SYNC_IN and missed targets (R75 to R80) -/

section
variable {s : State} {c : Channel} {t m : Nat} {r : Bool} {p : Word}

theorem execSyncEdge_accepted (polarity : r ≠ bitAt (s.reg Reg.syncPins) 0) (stood : t + s.syncFilter ≤ s.now) :
    execSyncEdge ⟨t, r⟩ s = .next ((List.finRange 8).foldl (fun s c => s.syncEdge c t) s) :=
  if_neg (not_or.2 ⟨polarity, Nat.not_lt.2 stood⟩)

theorem execSyncEdge_filtered (h : r = bitAt (s.reg Reg.syncPins) 0 ∨ s.now < t + s.syncFilter) : execSyncEdge ⟨t, r⟩ s = .next s :=
  if_pos h

theorem State.syncEdge_ignored (h : s.ch[c].running = false ∨ s.source c ≠ 1 ∨ s.ch[c].resyncAt.isSome) : s.syncEdge c t = s :=
  if_pos (h.imp_left Bool.eq_false_iff.1)

theorem execMissedEdge_passed (runs : s.ch[c].running = true) (follows : s.source c = 1) (track : s.ch[c].sync = .track)
    (passed : s.passedTarget c (s.period c / 8) = some m) : execMissedEdge c s = .next (s.missTarget c m 0x80000000) := by
  simp only [execMissedEdge, runs, follows, track, passed, and_self, if_true]

theorem execMissedTarget_passed (runs : s.ch[c].running = true) (follows : s.source c = 1) (acquire : s.ch[c].sync = .acquire)
    (passed : s.passedTarget c (s.nDiv c * s.period c / 2) = some m) : execMissedTarget c s = .next (s.missTarget c m 0x80000000) := by
  simp only [execMissedTarget, runs, follows, acquire, passed, and_self, if_true]

/-- A target that was missed before does not count again (R76, R77). -/
theorem State.missTarget_again (missed : (s.ch[c].target m).missed = true) : s.missTarget c m p = s := if_pos missed

theorem State.missTarget_new (first : (s.ch[c].target m).missed = false) :
    s.missTarget c m p = (s.modCh c (fun x => x.setTarget { x.target m with missed := true })).missEdge c p :=
  if_neg (Bool.eq_false_iff.1 first)

/-- The fourth miss in a row loses the sync (R77). -/
theorem State.missEdge_fourth (third : s.ch[c].missed = 3) :
    s.missEdge c p = ((s.modCh c (fun x => { x with missed := 4 })).raise 0x1010 c.val 2 [p]).loseSync c := by
  simp only [State.missEdge, third, Nat.reduceAdd, min_self, if_true]

theorem State.missEdge_before (few : s.ch[c].missed < 3) :
    s.missEdge c p = (s.modCh c (fun x => { x with missed := s.ch[c].missed + 1 })).raise 0x1010 c.val 2 [p] := by
  have count : min 4 (s.ch[c].missed + 1) = s.ch[c].missed + 1 := by omega
  have stays : ¬ s.ch[c].missed + 1 = 4 := by omega
  simp only [State.missEdge, count, if_neg stays]

theorem execSyncOutPulseEnd_due (pulse : s.syncOutEnd = some t) (due : t ≤ s.now) : execSyncOutPulseEnd s = .next { s with syncOutEnd := none } := by
  simp only [execSyncOutPulseEnd, pulse, if_pos due]

end

/-- Settles O24: each command in the conditions named takes the branch of its meaning stated above for it. -/
theorem frameBoundaries : Obligations.FrameBoundaries := by
  unfold Obligations.FrameBoundaries
  refine ⟨⟨?boundary, ?resync, ?start, ?sample⟩, ⟨?edge, ?ignored, ?passed, ?target, ?fourth, ?before, ?pulse⟩⟩
  case boundary => exact fun s c runs due free => ⟨execFrameBoundary_free runs due free, execSettingsEffect_due runs due⟩
  case resync =>
    intro s c tb e cmd runs due armed
    exact ⟨fun first => (execFrameBoundary_resync runs due armed).trans (if_pos first),
      fun later => (execFrameBoundary_resync runs due armed).trans (if_neg (Nat.not_le.2 later))⟩
  case start => exact fun s locked checked rung => ⟨execCarrierStart_locked locked checked rung, s.tStart_aligned, s.tStart_first⟩
  case sample =>
    intro s c bits part runs first due
    exact ⟨execSampleInstant_skipped part runs first due rfl, execSampleInstant_skippedUnscheduled part runs first due rfl,
      execSampleInstant_measured part runs first due rfl, execSampleInstant_unscheduled part runs first due rfl⟩
  case edge => exact fun s t r => ⟨execSyncEdge_accepted, execSyncEdge_filtered⟩
  case ignored => exact fun s c t => State.syncEdge_ignored
  case passed => exact fun s c last runs follows => ⟨execMissedEdge_passed runs follows, execMissedTarget_passed runs follows⟩
  case target => exact fun s c m p => ⟨State.missTarget_again, State.missTarget_new⟩
  case fourth => exact fun s c p => State.missEdge_fourth
  case before => exact fun s c p => State.missEdge_before
  case pulse => exact fun s t => execSyncOutPulseEnd_due

end Sys2Proof.Machine
end

section
/-! PROOFS. Commanded and due hard resyncs, the switch hold and phase jumps (02_time_base_and_frames.md R83 to R89, R723), then LINK's reference sets and the cut-off instant (01_dies_and_paths.md R37, R38; 10_modulation.md R365, R725). -/

namespace Sys2Proof.Machine

/-! ## Commanded resyncs (R83, R89) -/

theorem State.resyncHeld_iff {s : State} {c : Channel} :
    s.resyncHeld c = true ↔ s.ch[c].iInvalid ≠ 0 ∨ ∃ f ∈ s.followersOf c, s.ch[f].iInvalid ≠ 0 := by
  simp only [State.resyncHeld, Bool.or_eq_true, bne_iff_ne, List.any_eq_true]

/-- The state with a command armed. -/
def State.armedWait (s : State) (c : Channel) : State := s.modCh c (fun x => { x with armed := true })

section
variable {s : State} {c : Channel}

/-- Arming leaves every other field of the carriers' state alone. -/
theorem State.armedWait_field {β : Type} (g : ChanTime → β) (keeps : ∀ x : ChanTime, g { x with armed := true } = g x) (q : Channel) :
    g (s.armedWait c).ch[q] = g s.ch[q] := by
  rcases eq_or_ne c q with rfl | other
  · exact (congrArg g (vUpd_same s.ch c _)).trans (keeps _)
  · exact congrArg g (vUpd_other s.ch c q _ other)

theorem State.armedWait_followersOf (q : Channel) : (s.armedWait c).followersOf q = s.followersOf q :=
  List.filter_congr fun r _ => congrArg (fun b => b && s.source r == 2 && s.leader r == q && r != q)
    (State.armedWait_field ChanTime.running (fun _ => rfl) r)

theorem State.armedWait_resyncHeld : (s.armedWait c).resyncHeld c = s.resyncHeld c := by
  have invalid : ∀ q : Channel, (s.armedWait c).ch[q].iInvalid = s.ch[q].iInvalid := State.armedWait_field ChanTime.iInvalid fun _ => rfl
  simp only [State.resyncHeld, State.armedWait_followersOf, invalid]

/-- A write of HARD brings no descriptor to complete. -/
theorem State.commandResync_none : s.commandResync c none = (s.armedWait c).releaseResync c s.now := by
  simp only [State.commandResync, Option.toList_none, List.append_nil, State.armedWait]

section
variable {v : BitVec 32} (part : s.hasChannel c = true) (hard : bitAt v 0 = true)

include part hard

theorem execChResync_follower (follower : s.source c = 2) : execChResync c v s = .next (s.raise 0x1014 c.val 5 []) :=
  (if_pos ⟨hard, part⟩).trans (if_pos follower)

theorem execChResync_stopped (leads : s.source c ≠ 2) (stopped : s.ch[c].running = false) : execChResync c v s = .next s :=
  (if_pos ⟨hard, part⟩).trans ((if_neg leads).trans (if_neg (Bool.eq_false_iff.1 stopped)))

/-- With no command armed and no hard resync due, a write of HARD arms one; unless it is held, a FREE channel's is carried out now and a SYNC_IN channel's intervals begin. -/
theorem execChResync_arms (leads : s.source c ≠ 2) (runs : s.ch[c].running = true) (unarmed : s.ch[c].armedFrom = none) (free : s.ch[c].resyncAt = none) :
    execChResync c v s = .next (if s.resyncHeld c = true then s.armedWait c
      else if s.source c = 0 then (s.armedWait c).armResync c s.now 0 true
      else (s.armedWait c).modCh c (fun x => { x with armedFrom := some s.now })) := by
  have taken : execChResync c v s = .next ((s.armedWait c).releaseResync c s.now) :=
    (if_pos ⟨hard, part⟩).trans ((if_neg leads).trans ((if_pos runs).trans (congrArg _ State.commandResync_none)))
  have armed : (s.armedWait c).ch[c] = { s.ch[c] with armed := true } := vUpd_same s.ch c _
  have source : (s.armedWait c).source c = s.source c := rfl
  simp only [taken, State.releaseResync, armed, unarmed, free, source, State.armedWait_resyncHeld, Option.isNone_none, true_and, ite_not]

end

theorem execChResync_ignored {v : BitVec 32} (h : bitAt v 0 = false ∨ s.hasChannel c = false) : execChResync c v s = .next s :=
  if_neg fun ⟨hard, part⟩ => h.elim (fun off => Bool.eq_false_iff.1 off hard) (fun absent => Bool.eq_false_iff.1 absent part)

theorem execResyncDropped_due {t : Nat} (armed : s.ch[c].armed = true) (since : s.ch[c].armedFrom = some t) (free : s.ch[c].resyncAt = none)
    (due : t + 4 * s.nDiv c * s.period c ≤ s.now) : execResyncDropped c s = .next ((s.raise 0x1014 c.val 5 []).completeArmed c 1 1 0) := by
  simp only [execResyncDropped, armed, since, due, free, Option.isNone_none, and_self, if_true]

/-! ## Hard resyncs, the switch hold and phase jumps (R84, R85, R723) -/

theorem execHardResync_due {tb : Nat} {e : Int} {cmd : Bool} (runs : s.ch[c].running = true) (armed : s.ch[c].resyncAt = some (tb, e, cmd)) (due : tb ≤ s.now) :
    execHardResync c s = .next (if s.ch[c].nextBoundary = tb then s.boundary c else s.resyncAtTb c tb e cmd) := by
  simp only [execHardResync, armed, due, runs, and_self, if_true]

theorem execResyncHoldEnd_due {t : Nat} (hold : s.ch[c].holdEnd = some t) (due : t ≤ s.now) :
    execResyncHoldEnd c s = .next (s.modCh c (fun x => { x with holdEnd := none })) := by
  simp only [execResyncHoldEnd, hold, if_pos due]

/-- A jump at t_x that is no boundary: it waits for a later valley while a run of frames with invalid current holds it, else it is a hard resync (R723). -/
theorem execPhaseJump_due {t : Nat} (runs : s.ch[c].running = true) (jump : s.ch[c].jumpAt = some t) (due : t ≤ s.now)
    (before : t ≠ s.ch[c].nextBoundary) (inside : t ≠ s.ch[c].boundary) :
    execPhaseJump c s = .next (if s.ch[c].iInvalid ≠ 0 ∨ s.ch[(s.withSettings c).leader c].iInvalid ≠ 0 then s.modCh c (fun x => { x with jumpAt := none })
      else
        let u := (s.applySettings c ((s.ch[c].frame + 1) % 2 ^ 32)).resyncAtTb c t 0 true
        u.modCh c (fun x => { x with lead := u.leadAt c t })) := by
  simp only [execPhaseJump, jump, if_neg (not_not_intro (And.intro due (And.intro runs before))), if_neg inside]
  exact (apply_ite Host.Outcome.next _ _ _).symm

end

/-! ## Reference sets (R37, R365) -/

theorem execReferenceSet_arrives {s : State} {c : Channel} {slot : SlotCode} {v : Vector Word 4}
    (published : s.ch[c].published = some ⟨slot, (s.ch[c].frame + 1) % 2 ^ 32, some v⟩) (early : s.ch[c].cutoffDone = false)
    (runs : s.ch[c].running = true) (up : s.linkUp .ctrlA .link = true) :
    execReferenceSet c s =
      let s1 := (s.modCh c (fun y => { y with published := none })).modMod c (fun m => { m with arrived := s.now })
      if s.ownReference c then .next s1
      else .next (s1.processNext c (some (s.arriving v)) false false (some (slot, (s.ch[c].frame + 1) % 2 ^ 32))) := by
  simp only [execReferenceSet, published, early, runs, up, ne_eq, not_true_eq_false, Bool.false_eq_true, or_self, if_false]

/-! ## The cut-off instant (R38, R229, R230, R365, R387, R725) -/

/-- The state at the cut-off instant once the frame's sample-path program has been judged. -/
def State.judgeSamplePath (s : State) (c : Channel) : State :=
  let k := (s.ch[c].frame + 1) % 2 ^ 32
  let s1 := s.modCh c (fun y => { y with cutoffDone := true })
  match s.samplePathOf c with
  | none => s1
  | some slot =>
    if ¬ (s.slotOf .a slot).runsIn k then s1
    else match s.ch[c].published with
    | some p => if p.frame = k then s1.miss p.slot c k 1 0 else s1
    | none =>
      if (s.slotOf .a slot).isDone k then s1
      else match (s.die .a).engineOf slot with
      | some (e, r) => if r.frame = k then s1.abortRun e r (some 1) else s1
      | none => ((s1.notRun .a slot k (s.nextSample c)).verdict slot k 7).miss slot c k 2 0

/-- What the cut-off instant met in s does to u: a set that has not arrived is late, the frame is processed, and its EDGE messages leave. -/
def State.closeFrame (s : State) (c : Channel) (u : State) : State :=
  let w := u.modCh c (fun y => { y with published := none })
  let w := if s.ch[c].measValid = none then w.modProt c (fun p => { p with window := none }) else w
  let w := if s.ownReference c = true then w.ownFrame c else if s.mod[c].next.isSome then w
    else w.processNext c s.mod[c].applied s.mod[c].applied.isSome false none
  w.sendEdges c

theorem execCutOffInstant_due {s : State} {c : Channel} (runs : s.ch[c].running = true) (early : s.ch[c].cutoffDone = false) (due : s.nextCutOff c ≤ s.now) :
    execCutOffInstant c s = .next (s.closeFrame c (s.judgeSamplePath c)) := by
  simp only [execCutOffInstant, runs, early, due, not_true_eq_false, Bool.false_eq_true, or_self, if_false, Option.isNone_iff_eq_none]
  rfl

section
variable {s : State} {c : Channel} {k : Nat} (frame : (s.ch[c].frame + 1) % 2 ^ 32 = k)

theorem State.judgeSamplePath_noProgram (path : s.samplePathOf c = none) : s.judgeSamplePath c = s.modCh c (fun y => { y with cutoffDone := true }) := by
  simp only [State.judgeSamplePath, path]

variable {slot : SlotCode} (path : s.samplePathOf c = some slot)

include frame path

theorem State.judgeSamplePath_otherFrame (other : (s.slotOf .a slot).runsIn k = false) :
    s.judgeSamplePath c = s.modCh c (fun y => { y with cutoffDone := true }) := by
  simp only [State.judgeSamplePath, frame, path, other, Bool.false_eq_true, not_false_eq_true, if_true]

variable (mine : (s.slotOf .a slot).runsIn k = true)

include mine

theorem State.judgeSamplePath_late {p : Published} (published : s.ch[c].published = some p) (its : p.frame = k) :
    s.judgeSamplePath c = (s.modCh c (fun y => { y with cutoffDone := true })).miss p.slot c k 1 0 := by
  simp only [State.judgeSamplePath, frame, path, mine, published, its, not_true_eq_false, if_false, if_true]

variable (silent : s.ch[c].published = none)

include silent

theorem State.judgeSamplePath_done (done : (s.slotOf .a slot).isDone k = true) : s.judgeSamplePath c = s.modCh c (fun y => { y with cutoffDone := true }) := by
  simp only [State.judgeSamplePath, frame, path, mine, silent, done, not_true_eq_false, if_false, if_true]

variable (undone : (s.slotOf .a slot).isDone k = false)

include undone

theorem State.judgeSamplePath_inProgress {e : EngineNo} {r : Run} (running : (s.die .a).engineOf slot = some (e, r)) (its : r.frame = k) :
    s.judgeSamplePath c = (s.modCh c (fun y => { y with cutoffDone := true })).abortRun e r (some 1) := by
  simp only [State.judgeSamplePath, frame, path, mine, silent, undone, running, its, not_true_eq_false, Bool.false_eq_true, if_false, if_true]

theorem State.judgeSamplePath_notStarted (idle : (s.die .a).engineOf slot = none) :
    s.judgeSamplePath c = (((s.modCh c (fun y => { y with cutoffDone := true })).notRun .a slot k (s.nextSample c)).verdict slot k 7).miss slot c k 2 0 := by
  simp only [State.judgeSamplePath, frame, path, mine, silent, undone, idle, not_true_eq_false, Bool.false_eq_true, if_false]

end

/-! ## The obligation -/

/-- Settles O27: a command is held exactly while `resyncHeld` says so, and a due cut-off instant judges the sample-path program before it closes the frame. -/
theorem resyncsAndReferences : Obligations.ResyncsAndReferences := by
  unfold Obligations.ResyncsAndReferences
  refine ⟨⟨?command, ?ignored, ?dropped, ?hard, ?hold, ?jump⟩, ⟨?set, ?cutoff⟩⟩
  case command =>
    intro s c v part hard
    refine ⟨execChResync_follower part hard, execChResync_stopped part hard, fun leads runs unarmed free => ?_⟩
    have arms := execChResync_arms part hard leads runs unarmed free
    refine ⟨fun held => ?_, fun unheld isFree => ?_, fun unheld notFree => ?_⟩
    · exact arms.trans (congrArg _ (if_pos (State.resyncHeld_iff.2 held)))
    · exact arms.trans (congrArg _ ((if_neg (mt State.resyncHeld_iff.1 unheld)).trans (if_pos isFree)))
    · exact arms.trans (congrArg _ ((if_neg (mt State.resyncHeld_iff.1 unheld)).trans (if_neg notFree)))
  case ignored => exact fun s c v => execChResync_ignored
  case dropped => exact fun s c t => execResyncDropped_due
  case hard =>
    intro s c tb e cmd runs armed due
    exact ⟨fun same => (execHardResync_due runs armed due).trans (congrArg _ (if_pos same)),
      fun other => (execHardResync_due runs armed due).trans (congrArg _ (if_neg other))⟩
  case hold => exact fun s c t => execResyncHoldEnd_due
  case jump =>
    intro s c t runs jump due before inside
    exact ⟨fun held => (execPhaseJump_due runs jump due before inside).trans (congrArg _ (if_pos held)),
      fun unheld => (execPhaseJump_due runs jump due before inside).trans (congrArg _ (if_neg unheld))⟩
  case set =>
    intro s c slot v published early runs up
    exact ⟨fun own => (execReferenceSet_arrives published early runs up).trans (if_pos own),
      fun other => (execReferenceSet_arrives published early runs up).trans (if_neg (Bool.eq_false_iff.1 other))⟩
  case cutoff =>
    intro s c runs early due k taken rest
    have rest_eq : ∀ u, rest u = s.closeFrame c u := fun u => rfl
    have closes {u : State} (judged : s.judgeSamplePath c = u) : exec (.cutOffInstant c) s = .next (rest u) :=
by
      rw [rest_eq, ← judged]
      exact execCutOffInstant_due runs early due
    refine ⟨fun path => closes (State.judgeSamplePath_noProgram path),
      fun slot path other => closes (State.judgeSamplePath_otherFrame rfl path other), fun slot path mine => ?_⟩
    exact ⟨fun p published its => closes (State.judgeSamplePath_late rfl path mine published its),
      fun silent done => closes (State.judgeSamplePath_done rfl path mine silent done),
      fun silent undone => ⟨fun e r running its => closes (State.judgeSamplePath_inProgress rfl path mine silent undone running its),
        fun idle => closes (State.judgeSamplePath_notStarted rfl path mine silent undone idle)⟩⟩

end Sys2Proof.Machine
end

section
/-! PROOFS. Engines and the signal board: LDS and LDV through the write buffer and the latch, the first latch of a signal, STS and STV into the write buffer, WAIT (03_signal_board.md R102, R108 to R110, R118, R119; 04_oryx_engines.md R149, R155, R156). -/

namespace Sys2Proof.Machine

/-! ## A listing write of a sparse memory -/

section
variable {α : Type} (m : Kv α) (k : Nat) (v : α)

/-- The write passes smaller keys only, so no order of the keys is asked for. -/
@[simp] theorem kvGet_kvPut_self (x : α) : kvGet x (kvPut m k v) k = v := by
  induction m with
  | nil => exact if_pos rfl
  | cons p m ih =>
    obtain ⟨k', v'⟩ := p
    simp only [kvPut]
    split
    · exact if_pos rfl
    · split
      · exact if_pos rfl
      · next _ other => exact (if_neg (Ne.symm other)).trans ih

theorem kvHas_kvPut (a : Nat) : kvHas (kvPut m k v) a = (k == a || kvHas m a) := by
  induction m with
  | nil => rfl
  | cons p m ih =>
    obtain ⟨k', v'⟩ := p
    simp only [kvPut]
    split
    · rfl
    · split
      · next _ same => simp [kvHas, same]
      · simp [kvHas, ih, Bool.or_left_comm]

@[simp] theorem kvHas_kvPut_self : kvHas (kvPut m k v) k = true := by simp [kvHas_kvPut]

theorem kvHas_kvPut_other {a : Nat} (other : a ≠ k) : kvHas (kvPut m k v) a = kvHas m a := by simp [kvHas_kvPut, other.symm]

theorem length_kvPut_le : (kvPut m k v).length ≤ m.length + 1 := by
  induction m with
  | nil => exact Nat.le_refl _
  | cons p m ih =>
    obtain ⟨k', v'⟩ := p
    simp only [kvPut]
    split
    · simp
    · split
      · simp
      · simpa using ih

end

/-! ## Updates of an engine and its run -/

theorem vUpd_of_fixed {α : Type} {n : Nat} {v : Vector α n} {i : Fin n} {f : α → α} (fixed : f v[i] = v[i]) : vUpd v i f = v := by
  rw [vUpd, fixed]
  exact Vector.set_getElem_self _

theorem State.modCtrl_of_fixed {s : State} {d : CtrlId} {f : CtrlDie → CtrlDie} (fixed : f (s.die d) = s.die d) : s.modCtrl d f = s := by
  rw [State.modCtrl, vUpd_of_fixed (v := s.ctrl) fixed]

@[simp] theorem State.modEngine_engine_same (s : State) (d : CtrlId) (e : EngineNo) (f : Engine → Engine) :
    (s.modEngine d e f).engine d e = f (s.engine d e) := by
  simp only [State.engine, State.modEngine, State.modCtrl_die_same, vUpd_same]

theorem State.modEngine_of_fixed {s : State} {d : CtrlId} {e : EngineNo} {f : Engine → Engine} (fixed : f (s.engine d e) = s.engine d e) :
    s.modEngine d e f = s := by
  refine State.modCtrl_of_fixed ?_
  rw [vUpd_of_fixed (v := (s.die d).engines) fixed]

/-- A run that is replaced on a running engine leaves it running. -/
theorem State.setRun_running {s : State} {d : CtrlId} {e : EngineNo} (running : (s.engine d e).phase = .running) (r : Run) :
    (s.setRun d e r).modEngine d e (fun g => { g with phase := .running }) = s.setRun d e r := by
  refine State.modEngine_of_fixed ?_
  simp only [State.setRun, State.modEngine_engine_same, running]

theorem Run.setReg_g_self {reg : Nat} (inside : reg < 64) (r : Run) (v : Word) : (r.setReg (BitVec.ofNat 6 reg) v).g[reg]? = some v := by
  have same : reg % 64 = reg := Nat.mod_eq_of_lt inside
  simp [Run.setReg, same, inside]

theorem Run.setReg_g_other {reg k : Nat} (inside : reg < 64) (other : k ≠ reg) (r : Run) (v : Word) :
    (r.setReg (BitVec.ofNat 6 reg) v).g[k]? = r.g[k]? := by
  have same : reg % 64 = reg := Nat.mod_eq_of_lt inside
  simp [Run.setReg, same, other.symm]

theorem Run.g_ofNat {reg : Nat} (inside : reg < 64) (r : Run) : r.g[reg]? = some (r.reg (BitVec.ofNat 6 reg)) := by
  have same : reg % 64 = reg := Nat.mod_eq_of_lt inside
  simp [Run.reg, same, inside]

/-- An engine that stands on an instruction of this opcode executes it. -/
theorem State.onInstr_standsOn {s : State} {d : CtrlId} {e : EngineNo} {r : Run} {w : Dword} (stands : s.standsOn d e r w)
    (k : Run → Dword → State) : s.onInstr d e (opOf w) k = k r w := by
  obtain ⟨running, run, word, user⟩ := stands
  simp only [State.onInstr, running, run, word, user, and_self, if_true]

/-! ## Loads (R102, R108, R149, R155) -/

/-- A load of the signal needs no access of the board: it is buffered, or latched and was not poisoned then. -/
def Run.holds (r : Run) (a : Nat) : Prop :=
  kvHas r.wbuf a = true ∨ (kvHas r.latch a = true ∧ r.latchBad.contains a = false)

/-- What such a load gives: the buffered value before the latched one (R102). -/
def Run.heldValue (r : Run) (a : Nat) : Word :=
  if kvHas r.wbuf a then kvGet 0 r.wbuf a else kvGet 0 r.latch a

section
variable {die : CtrlId} {now : Nat} {x : CtrlDie}

theorem loadSig_held {r : Run} {a : Nat} (plain : a < 0x3F000) (held : r.holds a) :
    loadSig r x die now a = .ok (r.heldValue a) r x [] := by
  unfold loadSig Run.heldValue
  rw [if_neg (Nat.not_le.2 plain)]
  by_cases buffered : kvHas r.wbuf a = true
  · rw [if_pos buffered, if_pos buffered]
  · obtain ⟨latched, sound⟩ := held.resolve_left buffered
    rw [if_neg buffered, if_neg buffered, if_pos latched, sound]
    rfl

theorem loadMany_succ_ok {n reg a : Nat} {r r1 : Run} {v : Word} {x1 : CtrlDie} {ev e1 : List Event}
    (address : a < 2 ^ 18) (first : loadSig r x die now a = .ok v r1 x1 e1) :
    loadMany die now (n + 1) reg a r x ev = loadMany die now n (reg + 1) (a + 1) (r1.setReg (BitVec.ofNat 6 reg) v) x1 (ev ++ e1) := by
  simp only [loadMany, Nat.mod_eq_of_lt address, first]

theorem loadMany_held {n reg a : Nat} {r : Run} (regs : reg + n ≤ 64) (plain : a + n ≤ 0x3F000) (held : ∀ i < n, r.holds (a + i)) :
    ∃ g, loadMany die now n reg a r x [] = .ok 0 { r with g := g } x []
      ∧ (∀ i < n, g[reg + i]? = some (r.heldValue (a + i)))
      ∧ ∀ k, (k < reg ∨ reg + n ≤ k) → g[k]? = r.g[k]? := by
  induction n generalizing reg a r with
  | zero => exact ⟨r.g, rfl, fun i none => absurd none (Nat.not_lt_zero i), fun k outside => rfl⟩
  | succ n ih =>
    have first : loadSig r x die now a = .ok (r.heldValue a) r x [] := loadSig_held (by omega) (held 0 (Nat.succ_pos n))
    obtain ⟨g, rest, loaded, kept⟩ := ih (reg := reg + 1) (a := a + 1) (r := r.setReg (BitVec.ofNat 6 reg) (r.heldValue a))
      (by omega) (by omega) (fun i below => Nat.add_right_comm a 1 i ▸ held (i + 1) (Nat.succ_lt_succ below))
    refine ⟨g, (loadMany_succ_ok (by omega) first).trans rest, fun i below => ?_, fun k outside => ?_⟩
    · cases i with
      | zero => exact (kept reg (.inl (Nat.lt_succ_self reg))).trans (Run.setReg_g_self (by omega) r _)
      | succ i =>
        have shifted := loaded i (Nat.lt_of_succ_lt_succ below)
        rw [Nat.add_right_comm reg 1 i, Nat.add_right_comm a 1 i] at shifted
        exact shifted
    · exact (kept k (by omega)).trans (Run.setReg_g_other (by omega) (by omega) r _)

end

/-- A load that does not touch the board changes only the run. -/
theorem State.afterLoad_held (s : State) (d : CtrlId) (e : EngineNo) (r0 r : Run) (v : Word) :
    s.afterLoad d e r0 (.ok v r (s.die d) []) = s.setRun d e { r with pc := r.pc + 1 } := by
  have unchanged : s.modCtrl d (fun _ => s.die d) = s := State.modCtrl_of_fixed rfl
  exact congrArg (fun t : State => t.setRun d e { r with pc := r.pc + 1 }) unchanged

section
variable {s : State} {d : CtrlId} {e : EngineNo} {r : Run} {w : Dword} (stands : s.standsOn d e r w)

include stands

theorem execLds_standsOn (op : opOf w = 0x60) :
    execLds d e s = .next (s.afterLoad d e r (loadMany d s.now 1 (fD w).toNat (r.ea w) r (s.die d) [])) := by
  rw [execLds, ← op, State.onInstr_standsOn stands]

theorem execLdv_standsOn (op : opOf w = 0x61) :
    execLdv d e s = .next (s.afterLoad d e r (loadMany d s.now (fCount w) (fD w).toNat (r.ea w) r (s.die d) [])) := by
  rw [execLdv, ← op, State.onInstr_standsOn stands]

/-- LDS and LDV are one load of n signals. -/
theorem exec_signalLoad {c : Instr} {n : Nat} (form : (c = .lds d e ∧ opOf w = 0x60 ∧ n = 1) ∨ (c = .ldv d e ∧ opOf w = 0x61 ∧ n = fCount w)) :
    exec c s = .next (s.afterLoad d e r (loadMany d s.now n (fD w).toNat (r.ea w) r (s.die d) [])) := by
  rcases form with ⟨rfl, op, rfl⟩ | ⟨rfl, op, rfl⟩
  · exact execLds_standsOn stands op
  · exact execLdv_standsOn stands op

end

/-- Settles O8: every load finds its signal in the run, so the loads in a row change registers only. -/
theorem engineSignalLoads : Obligations.EngineSignalLoads := by
  unfold Obligations.EngineSignalLoads
  intro s d e r w c n stands form regs plain held
  obtain ⟨g, loads, loaded, kept⟩ := loadMany_held (die := d) (now := s.now) (x := s.die d) regs plain held
  refine ⟨g, ?_, loaded, fun k outside => ?_⟩
  · rw [exec_signalLoad stands form, loads, State.afterLoad_held]
  · have same := kept k.val outside
    rwa [Vector.getElem?_eq_getElem k.isLt, Vector.getElem?_eq_getElem k.isLt, Option.some_inj] at same

/-! ## The first latch of a signal outside any group (R108) -/

theorem CtrlDie.read_assigned {x : CtrlDie} {a : Nat} (die : CtrlId) (now owner : Nat) (assigned : ((x.ecc die now a).1.entryOf a).isSome) :
    x.read die now owner a = (kvGet 0 (x.ecc die now a).1.board a, x.ecc die now a) := by
  obtain ⟨entry, found⟩ := Option.isSome_iff_exists.1 assigned
  simp only [CtrlDie.read, found]

section
variable {die : CtrlId} {now : Nat} {x : CtrlDie} {r : Run} {a : Nat}
  (assigned : (x.entryOf a).isSome) (alone : x.groupOf a = none) (sound : kvGet 0 x.eccBad a = 0) (clean : x.poisoned.contains a = false)

include assigned sound

theorem CtrlDie.read_sound (owner : Nat) : x.read die now owner a = (kvGet 0 x.board a, x, []) := by
  have untouched : x.ecc die now a = (x, []) := CtrlDie.ecc_sound die now sound
  rw [CtrlDie.read_assigned die now owner (untouched ▸ assigned), untouched]

include clean

theorem latchAddrs_single : latchAddrs r x die now [a] =
    ({ r with latch := kvPut r.latch a (kvGet 0 x.board a), latchBad := r.latchBad.filter (fun b => b != a) }, x, []) := by
  have others : (fun b => !([a].contains b)) = fun b => b != a := by
    funext b
    simp only [List.contains_cons, List.contains_nil, Bool.or_false, bne]
  simp only [latchAddrs, CtrlDie.readMany, CtrlDie.read_sound assigned sound, others, List.filter_cons, List.filter_nil, clean,
    List.zip_cons_cons, List.zip_nil_right, List.foldl_cons, List.foldl_nil, List.append_nil, Bool.false_eq_true, if_false]

include alone

theorem loadSig_first (plain : a < 0x3F000) (unbuffered : kvHas r.wbuf a = false) (unlatched : kvHas r.latch a = false) (room : r.latch.length < 1024) :
    loadSig r x die now a = .ok (kvGet 0 x.board a)
      { r with latch := kvPut r.latch a (kvGet 0 x.board a), latchBad := r.latchBad.filter (fun b => b != a) } x [] := by
  have itself : x.latchSet a = [a] := by simp only [CtrlDie.latchSet, alone]
  have fits : ¬ 1024 < (kvPut r.latch a (kvGet 0 x.board a)).length :=
    Nat.not_lt.2 ((length_kvPut_le r.latch a _).trans room)
  have good : (r.latchBad.filter (fun b => b != a)).contains a = false := by simp
  simp only [loadSig, if_neg (Nat.not_le.2 plain), unbuffered, unlatched, itself, latchAddrs_single assigned sound clean, if_neg fits, good,
    kvGet_kvPut_self, Bool.false_eq_true, if_false]

end

/-- Settles O9: the load latches the signal alone, from a board whose word is sound, and gD gets the latched value. -/
theorem engineFirstLatch : Obligations.EngineFirstLatch := by
  unfold Obligations.EngineFirstLatch
  intro s d e r w stands op a plain unbuffered unlatched assigned alone sound clean room
  have first := loadSig_first (die := d) (now := s.now) assigned alone sound clean plain unbuffered unlatched room
  have loads := loadMany_succ_ok (n := 0) (reg := (fD w).toNat) (ev := []) (by omega) first
  have flags : r.flags ||| (0 : FlagSet) = r.flags := BitVec.or_zero
  refine (execLds_standsOn stands op).trans (congrArg Host.Outcome.next ?_)
  rw [loads]
  refine (State.afterLoad_held s d e r _ 0).trans ?_
  simp only [Run.wrote, Run.setReg, BitVec.ofNat_toNat, BitVec.setWidth_eq, flags]

/-! ## Stores (R102, R109, R156) -/

theorem storeSig_room {r : Run} {a : Nat} {v : Word} (room : r.wbuf.length < 256) : storeSig r a v = some { r with wbuf := kvPut r.wbuf a v } :=
  if_neg (Nat.not_lt.2 ((length_kvPut_le r.wbuf a v).trans room))

theorem storeMany_succ_room {n reg a : Nat} {r : Run} (room : r.wbuf.length < 256) (address : a < 2 ^ 18) :
    storeMany (n + 1) reg a r = storeMany n (reg + 1) (a + 1) { r with wbuf := kvPut r.wbuf a (r.reg (BitVec.ofNat 6 reg)) } := by
  simp only [storeMany, Nat.mod_eq_of_lt address, storeSig_room room]

theorem storeMany_room {n reg a : Nat} {r : Run} (regs : reg + n ≤ 64) (addresses : a + n ≤ 2 ^ 18) (room : r.wbuf.length + n ≤ 256) :
    ∃ b, storeMany n reg a r = some { r with wbuf := b }
      ∧ (∀ i < n, kvHas b (a + i) = true ∧ some (kvGet 0 b (a + i)) = r.g[reg + i]?)
      ∧ ∀ k, (k < a ∨ a + n ≤ k) → kvHas b k = kvHas r.wbuf k ∧ kvGet 0 b k = kvGet 0 r.wbuf k := by
  induction n generalizing reg a r with
  | zero => exact ⟨r.wbuf, rfl, fun i none => absurd none (Nat.not_lt_zero i), fun k outside => ⟨rfl, rfl⟩⟩
  | succ n ih =>
    have longer := length_kvPut_le r.wbuf a (r.reg (BitVec.ofNat 6 reg))
    obtain ⟨b, rest, stored, kept⟩ := ih (reg := reg + 1) (a := a + 1) (r := { r with wbuf := kvPut r.wbuf a (r.reg (BitVec.ofNat 6 reg)) })
      (by omega) (by omega) (by dsimp only; omega)
    refine ⟨b, (storeMany_succ_room (by omega) (by omega)).trans rest, fun i below => ?_, fun k outside => ?_⟩
    · cases i with
      | zero =>
        obtain ⟨has, get⟩ := kept a (.inl (Nat.lt_succ_self a))
        exact ⟨has.trans (kvHas_kvPut_self _ _ _), (congrArg some (get.trans (kvGet_kvPut_self _ _ _ _))).trans (Run.g_ofNat (by omega) r).symm⟩
      | succ i =>
        have shifted := stored i (Nat.lt_of_succ_lt_succ below)
        rw [Nat.add_right_comm reg 1 i, Nat.add_right_comm a 1 i] at shifted
        exact shifted
    · have other : k ≠ a := by omega
      obtain ⟨has, get⟩ := kept k (by omega)
      exact ⟨has.trans (kvHas_kvPut_other _ _ _ other), get.trans (kvGet_kvPut_other _ _ _ _ _ other)⟩

/-- STS and STV are one store of n registers. -/
theorem exec_signalStore {s : State} {d : CtrlId} {e : EngineNo} {r : Run} {w : Dword} {c : Instr} {n : Nat} (stands : s.standsOn d e r w)
    (form : (c = .sts d e ∧ opOf w = 0x62 ∧ n = 1) ∨ (c = .stv d e ∧ opOf w = 0x63 ∧ n = fCount w)) :
    exec c s = .next (s.afterStore d e r (storeMany n (fA w).toNat (r.ea w) r)) := by
  rcases form with ⟨rfl, op, rfl⟩ | ⟨rfl, op, rfl⟩
  · show execSts d e s = _
    rw [execSts, ← op, State.onInstr_standsOn stands]
  · show execStv d e s = _
    rw [execStv, ← op, State.onInstr_standsOn stands]

/-- Settles O10: each store of the row finds room in the write buffer and writes that buffer alone. -/
theorem engineSignalStores : Obligations.EngineSignalStores := by
  unfold Obligations.EngineSignalStores
  intro s d e r w c n stands form regs addresses room
  obtain ⟨b, stores, stored, kept⟩ := storeMany_room regs addresses room
  refine ⟨b, ?_, stored, kept⟩
  rw [exec_signalStore stands form, stores]
  rfl

/-! ## WAIT (R110) -/

/-- Of the events a control die raises, those other than the first read of an unassigned signal do not depend on what its twin has raised. -/
theorem State.raiseFor_assigned {ev : List Event} (s : State) (d : CtrlId) (assigned : ∀ x ∈ ev, x.code ≠ 0x0112) :
    s.raiseFor d ev = s.raiseAll ev := by
  refine congrArg s.raiseAll (List.filter_eq_self.2 fun x mem => ?_)
  rw [bne_iff_ne.2 (assigned x mem), Bool.true_or]

section
variable (x : CtrlDie) (die : CtrlId) (now a : Nat)

/-- What an access of a codeword can do: nothing, correct it, tell of the correction, or poison it (R118, R119). -/
theorem CtrlDie.ecc_dir_code : (x.ecc die now a).1.dir = x.dir ∧ ∀ y ∈ (x.ecc die now a).2, y.code ≠ 0x0112 := by
  simp only [CtrlDie.ecc]
  split
  · exact ⟨rfl, fun y none => absurd none List.not_mem_nil⟩
  · split
    · split
      · exact ⟨rfl, by simp⟩
      · exact ⟨rfl, fun y none => absurd none List.not_mem_nil⟩
    · exact ⟨rfl, by simp⟩

theorem CtrlDie.ecc_entryOf (b : Nat) : (x.ecc die now a).1.entryOf b = x.entryOf b := by
  rw [CtrlDie.entryOf, (x.ecc_dir_code die now a).1, ← CtrlDie.entryOf]

end

theorem CtrlDie.readMany_assigned {x : CtrlDie} {as : List Nat} (die : CtrlId) (now owner : Nat) (assigned : ∀ a ∈ as, (x.entryOf a).isSome) :
    ∀ y ∈ (x.readMany die now owner as).2.2, y.code ≠ 0x0112 := by
  induction as generalizing x with
  | nil => exact fun y none => absurd none List.not_mem_nil
  | cons a as ih =>
    have first : x.read die now owner a = (kvGet 0 (x.ecc die now a).1.board a, x.ecc die now a) :=
      CtrlDie.read_assigned die now owner (by rw [CtrlDie.ecc_entryOf]; exact assigned a List.mem_cons_self)
    have rest := ih (x := (x.ecc die now a).1) fun b mem => by
      rw [CtrlDie.ecc_entryOf]
      exact assigned b (List.mem_cons_of_mem a mem)
    intro y mem
    simp only [CtrlDie.readMany, first, List.mem_append] at mem
    exact mem.elim ((x.ecc_dir_code die now a).2 y) (rest y)

section
variable {x : CtrlDie} {a : Nat}

/-- The group's own entry covers every signal that is latched with a signal of it. -/
theorem CtrlDie.latchSet_assigned (grouped : (x.groupOf a).isSome) : ∀ b ∈ x.latchSet a, (x.entryOf b).isSome := by
  obtain ⟨g, group⟩ := Option.isSome_iff_exists.1 grouped
  have entry := List.find?_some group
  simp only [Bool.and_eq_true] at entry
  obtain ⟨⟨settled, _⟩, _⟩ := entry
  intro b mem
  simp only [CtrlDie.latchSet, group, List.mem_map, List.mem_range] at mem
  obtain ⟨i, inside, rfl⟩ := mem
  refine List.find?_isSome.2 ⟨g, List.mem_of_find?_eq_some group, ?_⟩
  rw [settled, Bool.true_and]
  exact decide_eq_true ⟨Nat.le_add_left _ _, by omega⟩

theorem latchAddrs_group_code (r : Run) (die : CtrlId) (now : Nat) (grouped : (x.groupOf a).isSome) :
    ∀ y ∈ (latchAddrs r x die now (x.latchSet a)).2.2, y.code ≠ 0x0112 :=
  CtrlDie.readMany_assigned die now _ (CtrlDie.latchSet_assigned grouped)

theorem CtrlDie.freshFor_ungrouped {ref : Nat} (alone : x.groupOf a = none) : x.freshFor a ref = true := by
  simp only [CtrlDie.freshFor, alone]

end

section
variable {s : State} {d : CtrlId} {e : EngineNo} {r : Run}

theorem State.finishWait_ungrouped {a : Nat} (running : (s.engine d e).phase = .running) (alone : (s.die d).groupOf a = none) :
    s.finishWait d e r a = s.setRun d e { r with pc := r.pc + 1 } := by
  simp only [State.finishWait, alone]
  exact State.setRun_running running _

theorem State.finishWait_latches {a : Nat} {l : Run × CtrlDie × List Event} (grouped : ((s.die d).groupOf a).isSome)
    (latched : latchAddrs r (s.die d) d s.now ((s.die d).latchSet a) = l) (room : l.1.latch.length ≤ 1024) (sound : l.1.latchBad.contains a = false) :
    s.finishWait d e r a = (((s.modCtrl d (fun _ => l.2.1)).modEngine d e (fun g => { g with phase := .running })).raiseAll l.2.2).setRun d e
      { l.1 with pc := l.1.pc + 1 } := by
  subst latched
  obtain ⟨g, group⟩ := Option.isSome_iff_exists.1 grouped
  simp only [State.finishWait, group, if_neg (Nat.not_lt.2 room), sound, Bool.false_eq_true, if_false,
    State.raiseFor_assigned _ _ (latchAddrs_group_code r d s.now grouped)]
  rfl

theorem execWaitCompletion_fresh (waiting : (s.engine d e).phase = .waiting) (run : (s.engine d e).run = some r)
    (fresh : (s.die d).freshFor r.waitAt r.refInstant = true) : execWaitCompletion d e s = .next (s.finishWait d e r r.waitAt) := by
  simp only [execWaitCompletion, waiting, run, fresh, if_true]

variable {w : Dword} (stands : s.standsOn d e r w) (op : opOf w = 0x02)

include stands op

theorem execWait_standsOn : execWait d e s = .next (
    if 0x3F000 ≤ r.ea w then s.failRun d e r 5
    else if (s.die d).poisoned.contains (r.ea w) then s.failRun d e r 3
    else if (s.die d).freshFor (r.ea w) r.refInstant then s.finishWait d e r (r.ea w)
    else (s.setRun d e { r with waitAt := r.ea w }).modEngine d e (fun g => { g with phase := .waiting })) := by
  rw [execWait, ← op, State.onInstr_standsOn stands]

theorem execWait_exempt (exempt : 0x3F000 ≤ r.ea w) : execWait d e s = .next (s.failRun d e r 5) :=
  (execWait_standsOn stands op).trans (congrArg _ (if_pos exempt))

variable (plain : r.ea w < 0x3F000) (clean : (s.die d).poisoned.contains (r.ea w) = false)

include plain clean

theorem execWait_judged : execWait d e s = .next (
    if (s.die d).freshFor (r.ea w) r.refInstant then s.finishWait d e r (r.ea w)
    else (s.setRun d e { r with waitAt := r.ea w }).modEngine d e (fun g => { g with phase := .waiting })) :=
  (execWait_standsOn stands op).trans (congrArg _ ((if_neg (Nat.not_le.2 plain)).trans (if_neg (Bool.eq_false_iff.1 clean))))

theorem execWait_fresh (fresh : (s.die d).freshFor (r.ea w) r.refInstant = true) : execWait d e s = .next (s.finishWait d e r (r.ea w)) :=
  (execWait_judged stands op plain clean).trans (congrArg _ (if_pos fresh))

theorem execWait_stalls (stale : (s.die d).freshFor (r.ea w) r.refInstant = false) :
    execWait d e s = .next ((s.setRun d e { r with waitAt := r.ea w }).modEngine d e (fun g => { g with phase := .waiting })) :=
  (execWait_judged stands op plain clean).trans (congrArg _ (if_neg (Bool.eq_false_iff.1 stale)))

theorem execWait_ungrouped (alone : (s.die d).groupOf (r.ea w) = none) : execWait d e s = .next (s.setRun d e { r with pc := r.pc + 1 }) := by
  have ⟨running, _⟩ := stands
  rw [execWait_fresh stands op plain clean (CtrlDie.freshFor_ungrouped alone), State.finishWait_ungrouped running alone]

end

/-- Settles O12: WAIT takes the branch its signal names, and the accesses of a group's latch find an entry everywhere, so all their events are raised. -/
theorem engineWaits : Obligations.EngineWaits := by
  unfold Obligations.EngineWaits
  intro s d e r w
  exact ⟨execWait_exempt, execWait_ungrouped, execWait_stalls, execWait_fresh, execWaitCompletion_fresh,
    fun a grouped => State.finishWait_latches grouped rfl⟩

end Sys2Proof.Machine
end

section
/-! PROOFS. What the engines' instructions write: the integer, binary32 and angle rows, scratch moves, branches and loops, the table look-ups (04_oryx_engines.md R148 to R153, R160 to R166; 05_engine_arithmetic.md R173 to R198). -/

namespace Sys2Proof.Machine

/-! ## The shared forms (R148): what a row answers is out -/

section
variable {s : State} {d : CtrlId} {e : EngineNo} {r : Run} {w : Dword} {n : Nat} {out : Out} {v : Word} {fl : FlagSet}
  (stands : s.standsOn d e r w) (op : opOf w = n)

include stands op

/-- A row that only changes its run replaces the run of the engine that stands on it. -/
theorem onRun_row {k : Run → Dword → Run} {q : Run} (row : out = .next (s.onRun d e n k)) (result : k r w = q) : out = .next (s.setRun d e q) := by
  subst op result
  exact row.trans (congrArg _ (State.onInstr_standsOn stands _))

theorem alu1_row {f : Word → FRes} (row : out = .next (s.alu1 d e n f)) (result : f (r.reg (fA w)) = ⟨v, fl⟩) :
    out = .next (s.setRun d e (r.wrote w v fl)) :=
  onRun_row stands op row (congrArg (r.put w) result)

theorem alu2_row {f : Word → Word → FRes} (row : out = .next (s.alu2 d e n f)) (result : f (r.reg (fA w)) (r.opB w) = ⟨v, fl⟩) :
    out = .next (s.setRun d e (r.wrote w v fl)) :=
  onRun_row stands op row (congrArg (r.put w) result)

theorem alu3_row {f : Word → Word → Word → FRes} (row : out = .next (s.alu3 d e n f))
    (result : f (r.reg (fA w)) (r.reg (fB w)) (r.reg (fC w)) = ⟨v, fl⟩) : out = .next (s.setRun d e (r.wrote w v fl)) :=
  onRun_row stands op row (congrArg (r.put w) result)

/-- A table instruction judges the header at its own address (R160). -/
theorem lookup_row {kind : Nat} {addr : Run → Dword → Nat} {f : CtrlDie → Nat → Run → Dword → FRes} (row : out = .next (s.lookup d e n kind addr f)) :
    out = .next (if tableBad (s.die d) kind (addr r w) then s.failRun d e r 4 else s.setRun d e (r.put w (f (s.die d) (addr r w) r w))) := by
  subst op
  exact row.trans (congrArg _ (State.onInstr_standsOn stands _))

end

/-! ## Integer, binary32 and angle rows (R150, R173 to R198) -/

theorem pureRes_boolWord (p : Prop) [Decidable p] : pureRes (boolWord (decide p)) = ⟨if p then 1 else 0, 0⟩ := by
  simp only [pureRes, boolWord, decide_eq_true_eq]

/-- Settles O3: each row is one of the shared forms with the operation of its name. -/
theorem engineArithmeticResults : Obligations.EngineArithmeticResults := by
  unfold Obligations.EngineArithmeticResults
  refine ⟨?integer, ?binary32, ?angle⟩
  case integer =>
    intro s d e r w stands a b to_
    refine ⟨?add, ?sub, ?mul, ?mulh, ?mulhu, ?and, ?or, ?xor, ?shl, ?shr, ?sar, ?min, ?max, ?minu, ?maxu, ?seq, ?slt, ?sltu, ?sel, ?movi⟩
    case seq | slt | sltu => exact fun op => alu2_row stands op rfl (pureRes_boolWord _)
    case sel => exact fun op => alu3_row stands op rfl rfl
    case movi => exact fun op => onRun_row stands op rfl rfl
    all_goals exact fun op => alu2_row stands op rfl rfl
  case binary32 =>
    intro s d e r w stands a b b3 c to_
    refine ⟨?fadd, ?fsub, ?fmul, ?fma, ?fms, ?fnma, ?fdiv, ?fsqrt, ?frsq, ?fmin, ?fmax, ?fabs, ?fneg, ?feq, ?flt, ?fle, ?fclamp,
      ?cvtfi, ?cvtif, ?cvtuf, ?cvtfq, ?cvtqf⟩
    case fma | fms | fnma | fclamp => exact fun op => alu3_row stands op rfl rfl
    case fsqrt | frsq | fabs | fneg | cvtfi | cvtif | cvtuf | cvtfq | cvtqf => exact fun op => alu1_row stands op rfl rfl
    all_goals exact fun op => alu2_row stands op rfl rfl
  case angle =>
    intro s d e r w stands a b to_
    refine ⟨?sincos, ?atan2, ?aadd, ?asub, ?cvtaf, ?cvtfa⟩
    case sincos => exact fun op => onRun_row stands op rfl rfl
    case cvtaf | cvtfa => exact fun op => alu1_row stands op rfl rfl
    all_goals exact fun op => alu2_row stands op rfl rfl

/-! ## Scratch moves (R165), branches and loops (R151, R152) -/

section
variable {s : State} {d : CtrlId} {e : EngineNo} {r : Run} {w : Dword} (stands : s.standsOn d e r w)

include stands

theorem execXrd_selects {sel : Nat} (op : opOf w = 0x70) (selects : (fImm w).toNat = sel) :
    execXrd d e s = .next (s.setRun d e (r.wroteX w (s.xrdValue d e r sel))) :=
  onRun_row stands op rfl (by rw [selects]; rfl)

theorem execBz_standsOn (op : opOf w = 0x04) :
    execBz d e s = .next (if r.reg (fA w) = 0 then s.setRun d e (r.jump (fImm w)) else s.setRun d e r.step) :=
  (onRun_row stands op rfl rfl).trans (congrArg _ (apply_ite (s.setRun d e) _ _ _))

theorem execBnz_standsOn (op : opOf w = 0x05) :
    execBnz d e s = .next (if r.reg (fA w) ≠ 0 then s.setRun d e (r.jump (fImm w)) else s.setRun d e r.step) :=
  (onRun_row stands op rfl rfl).trans (congrArg _ (apply_ite (s.setRun d e) _ _ _))

/-- LPS judges its count: zero skips the loop, more than BOUND fails the run. -/
theorem execLps_standsOn (op : opOf w = 0x06) : execLps d e s = .next (
    if r.reg (fA w) = 0 then s.setRun d e { r with pc := r.pc + 1 + (fImm w).toNat % 2 ^ 16 }
    else if (fImm w).toNat / 2 ^ 16 < (r.reg (fA w)).toNat then s.failRun d e r 1
    else s.setRun d e { r with pc := r.pc + 1, loops := r.reg (fA w) :: r.loops }) := by
  have skip : bitsAt (fImm w) 0 16 = (fImm w).toNat % 2 ^ 16 := by rw [bitsAt, Nat.pow_zero, Nat.div_one]
  have bound : bitsAt (fImm w) 16 16 = (fImm w).toNat / 2 ^ 16 := Nat.mod_eq_of_lt (by omega)
  rw [execLps, ← op, State.onInstr_standsOn stands, skip, bound]
  rfl

theorem execLpe_again {c : Word} {cs : List Word} (op : opOf w = 0x07) (counts : r.loops = c :: cs) (more : c ≠ 1) :
    execLpe d e s = .next (s.setRun d e { r.jump (fImm w) with loops := (c - 1) :: cs }) := by
  have left : c - 1 ≠ 0 := mt sub_eq_zero.1 more
  exact onRun_row stands op rfl (by simp only [counts, if_pos left])

theorem execLpe_last {cs : List Word} (op : opOf w = 0x07) (counts : r.loops = 1 :: cs) :
    execLpe d e s = .next (s.setRun d e { r.step with loops := cs }) := by
  have spent : ¬ ((1 : Word) - 1 ≠ 0) := by decide
  exact onRun_row stands op rfl (by simp only [counts, if_neg spent])

end

/-- Settles O7: XRD by what it selects, the branches by their register, LPS and LPE by their count; every other row only changes its run. -/
theorem engineControlResults : Obligations.EngineControlResults := by
  unfold Obligations.EngineControlResults
  refine ⟨?scratch, ?control⟩
  case scratch =>
    intro s d e r w stands
    refine ⟨?die, ?engine, ?timeLo, ?timeHi, ?interval, ?ticks, ?xmov, ?xadd, ?xsub, ?xst⟩
    case die | engine | timeLo | timeHi | interval | ticks => exact execXrd_selects stands
    all_goals exact fun op => onRun_row stands op rfl rfl
  case control =>
    intro s d e r w stands a on target jumped
    refine ⟨?nop, ?br, execBz_standsOn stands, execBnz_standsOn stands, ?skip, ?push, ?above, ?again, ?last, ?rinfo⟩
    case nop | br | rinfo => exact fun op => onRun_row stands op rfl rfl
    case skip => exact fun op zero => (execLps_standsOn stands op).trans (congrArg _ (if_pos zero))
    case push => exact fun op nonzero within => (execLps_standsOn stands op).trans (congrArg _ ((if_neg nonzero).trans (if_neg (Nat.not_lt.2 within))))
    case above =>
      intro op more
      have nonzero : a ≠ 0 := fun zero => Nat.not_lt_zero _ (zero ▸ more)
      exact (execLps_standsOn stands op).trans (congrArg _ ((if_neg nonzero).trans (if_pos more)))
    case again => exact fun op c cs => execLpe_again stands op
    case last => exact fun op cs => execLpe_last stands op

/-! ## Table look-ups (R160 to R162) -/

/-- Settles O11: the four rows are one look-up, each with its kind and its address. -/
theorem engineTableLookups : Obligations.EngineTableLookups := by
  unfold Obligations.EngineTableLookups
  intro s d e r w stands t x y at_ to_
  refine ⟨?tl1, ?tl1r, ?tl2, ?tl2r, ?tl1Bad, ?tl1rBad, ?tl2Bad, ?tl2rBad⟩
  case tl1 | tl1r | tl2 | tl2r => exact fun op good => (lookup_row stands op rfl).trans (congrArg _ (if_neg (Bool.eq_false_iff.1 good)))
  all_goals exact fun op bad => (lookup_row stands op rfl).trans (congrArg _ (if_pos bad))

end Sys2Proof.Machine
end

section
/-! PROOFS. The life of a run and of a program: ready, start and FEND of a run, decisions, moves, swaps and deadlines (04_oryx_engines.md R138 to R142; 06_planning_and_ageing.md R220 to R234; 13_lockstep.md R445). -/

namespace Sys2Proof.Machine

/-! ## Ready, start and FEND (R138 to R142) -/

section
variable {s : State} {d : CtrlId} {e : EngineNo}

theorem execRunReady_appends {c : SlotCode} {k ref : Nat}
    (first : (s.openFrames (s.slotOf d c).channel).find? (fun f => (s.slotOf d c).state == .active && (s.slotOf d c).runsIn f.1
      && !(s.slotOf d c).isReady f.1 && !(s.slotOf d c).isDone f.1 && (d == .b || !s.deadlinePassed c f.1)
      && (s.slotOf d c).inputs.all (fun a => (s.die d).freshFor a f.2)) = some (k, ref)) :
    execRunReady d c s = .next ((s.modCtrl d (fun y => { y with ready := y.ready ++ [⟨c, k, ref⟩] })).modSlot d c
      (fun y => { y with readyFrame := some k })) := by
  simp only [execRunReady, first]

/-- The run that begins for the ready run q, before it has latched its declared inputs. -/
def State.newRun (s : State) (d : CtrlId) (q : ReadyRun) : Run where
  slot := q.slot
  channel := (s.slotOf d q.slot).channel
  frame := q.frame
  refInstant := q.refInstant
  frameLen := s.ch[(s.slotOf d q.slot).channel].frameLen
  runNo := (s.slotOf d q.slot).runNo
  div := (s.slotOf d q.slot).divNow
  startTime := s.now
  g := startRegs (s.slotOf d q.slot).persist

theorem execRunStart_latches {q : ReadyRun} {l : Run × CtrlDie × List Event} (idle : (s.engine d e).phase = .idle) (picked : s.pickRun d e = some q)
    (latched : (s.slotOf d q.slot).inputs.foldl (latchInput q.refInstant d s.now) (s.newRun d q, s.die d, []) = l) (room : l.1.latch.length ≤ 1024) :
    execRunStart d e s = .next (((s.modCtrl d (fun _ => { l.2.1 with ready := l.2.1.ready.filter (fun z => z != q) })).raiseFor d l.2.2).modEngine d e
      (fun g => { g with phase := .running, run := some l.1 })) := by
  subst latched
  simp only [execRunStart, if_neg (not_not_intro idle), picked]
  exact if_neg (Nat.not_lt.2 room)

variable {r : Run} {w : Dword}

/-- FEND of a user's program is that of its run. -/
theorem State.fend_standsOn (stands : s.standsOn d e r w) (op : opOf w = 0x01) : s.fend d e = s.fendRun d e r := by
  have fends := State.onInstr_standsOn stands (fun q _ => s.fendRun d e q)
  obtain ⟨running, run, _, user⟩ := stands
  simp only [State.fend, running, run, user, if_true, ← op, fends]

theorem execFend_b (stands : s.standsOn .b e r w) (op : opOf w = 0x01) : execFend .b e s = .next (s.holdB e r) :=
  congrArg Host.Outcome.next (State.fend_standsOn stands op)

theorem execFend_a (stands : s.standsOn .a e r w) (op : opOf w = 0x01) : execFend .a e s = .next (s.afterCommit (s.commitA e r) r.slot) := by
  have ⟨_, run, _⟩ := stands
  simp only [execFend, State.fend_standsOn stands op, run]
  rfl

end

/-- Settles O15: each command finds what it asks for and does its one thing. -/
theorem runLifecycle : Obligations.RunLifecycle := by
  unfold Obligations.RunLifecycle
  exact ⟨fun s d c k ref => execRunReady_appends, fun s d e q idle picked => execRunStart_latches idle picked rfl,
    fun s e r w => execFend_b, fun s e r w => execFend_a⟩

/-! ## Decisions on pending changes (R223, R224) -/

section
variable {s : State} (settled : s.planSettled = true)

include settled

theorem execPlanDecision_swap {old new : Option SlotCode} {ring index : Nat} {rest : List PlanChange}
    (oldest : s.planner.pending = .swap old new ring index :: rest) : execPlanDecision s = .next (s.decideSwap old new ring index) := by
  simp only [execPlanDecision, if_neg (not_not_intro settled), oldest]

/-- Settings wait while earlier ones of a channel have yet to take effect, or its cut-off has passed. -/
theorem execPlanDecision_mode {mask : BitVec 8} {g : ChanSettings} {rest : List PlanChange} (oldest : s.planner.pending = .mode mask g :: rest)
    (free : ∀ c ∈ maskChans mask, s.ch[c].settings = none ∧ (s.ch[c].running = false ∨ s.ch[c].cutoffDone = false)) :
    execPlanDecision s = .next (s.decideMode mask g) := by
  have noneWaits : ¬ (maskChans mask).any (fun c => s.ch[c].settings.isSome || (s.ch[c].running && s.ch[c].cutoffDone)) = true := by
    rw [List.any_eq_true]
    rintro ⟨c, mem, waits⟩
    obtain ⟨unset, early⟩ := free c mem
    rw [unset, Option.isSome_none, Bool.false_or, Bool.and_eq_true] at waits
    obtain ⟨runs, cut⟩ := waits
    exact early.elim (Bool.eq_false_iff.1 · runs) (Bool.eq_false_iff.1 · cut)
  simp only [execPlanDecision, if_neg (not_not_intro settled), oldest, if_neg noneWaits]

end

section
variable {s : State} {old : Option SlotCode} {n : SlotCode} {ring index : Nat}

theorem State.decideSwap_rejected (taken : s.samplePathTaken old n = true ∨ s.claimTaken old n = true) :
    s.decideSwap old (some n) ring index = s.dropChange.complete ring index 1 1 0 :=
  if_pos (Bool.or_eq_true_iff.2 taken)

variable (path : s.samplePathTaken old n = false) (claim : s.claimTaken old n = false)

include path claim

theorem State.decideSwap_served {e : EngineNo} (serves : s.asAccepted.engineFor old n = some e) :
    s.decideSwap old (some n) ring index = s.acceptSwap old (some n) ring index (some e) := by
  simp only [State.decideSwap, path, claim, serves, Bool.or_self, Bool.false_eq_true, if_false]

theorem State.decideSwap_unserved (unserved : s.asAccepted.engineFor old n = none) :
    s.decideSwap old (some n) ring index = (s.decideStep s.asAccepted (s.asAccepted.swapSet old (some n) (s.asAccepted.tryEngine old n)) (some n) old).getD
      (s.refuseSwap old (some n) ring index) := by
  simp only [State.decideSwap, path, claim, unserved, Bool.or_self, Bool.false_eq_true, if_false]

end

/-! ## Moves and swaps at boundaries (R219, R220, R234) -/

theorem State.modCtrl_die_other (s : State) {d k : CtrlId} (f : CtrlDie → CtrlDie) (other : d ≠ k) : (s.modCtrl d f).die k = s.die k := by
  cases d <;> cases k
  · exact absurd rfl other
  · exact vUpd_other s.ctrl 0 1 f (by decide)
  · exact vUpd_other s.ctrl 1 0 f (by decide)
  · exact absurd rfl other

theorem State.modSlot_slotOf_same (s : State) (d : CtrlId) (c : SlotCode) (f : Slot → Slot) : (s.modSlot d c f).slotOf d c = f (s.slotOf d c) := by
  simp only [State.slotOf, State.modSlot, State.modCtrl_die_same, vUpd_same]

section
variable {s : State} {c : SlotCode}

theorem execProgramMove_due {e : EngineNo} (moves : (s.slotOf .a c).moveTo = some e) (due : (s.slotOf .a c).moveDue = true)
    (ended : (s.die .b).running c = false) :
    execProgramMove c s = .next (((s.moveBoth c).setStep 2).cutLanes s.ch[(s.slotOf .a c).channel].boundary) := by
  simp only [execProgramMove, moves, due, ended, Bool.false_eq_true, if_false]

/-- The move on CTRL-B leaves the slot of CTRL-A as the move there has made it. -/
theorem State.moveBoth_slotOf : (s.moveBoth c).slotOf .a c =
    { s.slotOf .a c with engine := (s.slotOf .a c).moveTo.getD (s.slotOf .a c).engine, moveTo := none, moveDue := false } := by
  rw [State.moveBoth, State.slotOf, State.modSlot, State.modCtrl_die_other _ _ (by decide)]
  exact State.modSlot_slotOf_same s .a c _

theorem execSwapBoundary_due {ch : Channel} {w : Swap} {rest : List Swap} (oldest : s.planner.swaps = w :: rest) (pending : w.done = false)
    (bound : w.channel = ch) (due : w.due = true) : execSwapBoundary ch s = .next ((s.applySwap w).cutLanes s.ch[ch].boundary) := by
  have first : s.planner.swaps.find? (fun w => !w.done && w.due && w.channel == ch) = some w := by
    rw [oldest, List.find?_cons_of_pos (by simp [pending, due, bound])]
  simp only [execSwapBoundary, first]

/-! ## Deadlines (R229, R230) -/

theorem execRunDeadline_inProgress {e : EngineNo} {r : Run} (active : (s.slotOf .a c).state = .active) (running : (s.die .a).engineOf c = some (e, r))
    (passed : s.deadlinePassed c r.frame = true) : execRunDeadline c s = .next (s.abortRun e r (some 1)) := by
  simp only [execRunDeadline, if_neg (not_not_intro active), running, passed, if_true]

/-- The run of the frame before has its outcome, so the present frame's is the first that is judged. -/
theorem execRunDeadline_notStarted {k : Nat} (frame : s.ch[(s.slotOf .a c).channel].frame = k) (active : (s.slotOf .a c).state = .active)
    (idle : (s.die .a).engineOf c = none) (before : (s.slotOf .a c).isDone ((k + 2 ^ 32 - 1) % 2 ^ 32) = true) (its : (s.slotOf .a c).runsIn k = true)
    (unfinished : (s.slotOf .a c).isDone k = false) (passed : s.deadlinePassed c k = true) :
    execRunDeadline c s = .next (((s.notRun .a c k (s.refOf (s.slotOf .a c).channel k)).verdict c k 7).miss c (s.slotOf .a c).channel k 2 0) := by
  have first : [(k + 2 ^ 32 - 1) % 2 ^ 32, k, (k + 1) % 2 ^ 32].find? (fun k => (s.slotOf .a c).runsIn k && !(s.slotOf .a c).isDone k && s.deadlinePassed c k)
      = some k := by
    rw [List.find?_cons_of_neg, List.find?_cons_of_pos]
    · simp only [its, unfinished, passed, Bool.not_false, Bool.and_true]
    · simp only [before, Bool.not_true, Bool.and_false, Bool.false_and, Bool.false_eq_true, not_false_eq_true]
  simp only [execRunDeadline, if_neg (not_not_intro active), idle, frame, first]

end

/-- Settles O20: the oldest change takes the branch of its decision, and a move, a swap or a deadline that is due takes effect. -/
theorem programChanges : Obligations.ProgramChanges := by
  unfold Obligations.ProgramChanges
  refine ⟨?stop, ?bring, ?mode, ?move, ?swap, ?inProgress, ?notStarted⟩
  case stop => exact fun s old ring index rest settled oldest => execPlanDecision_swap settled oldest
  case bring =>
    intro s old n ring index rest settled oldest
    have decides := execPlanDecision_swap settled oldest
    exact ⟨fun e path claim serves => decides.trans (congrArg _ (State.decideSwap_served path claim serves)),
      fun path claim unserved => decides.trans (congrArg _ (State.decideSwap_unserved path claim unserved)),
      fun taken => decides.trans (congrArg _ (State.decideSwap_rejected taken))⟩
  case mode => exact fun s mask g rest settled oldest => execPlanDecision_mode settled oldest
  case move =>
    intro s c e moves due ended
    refine ⟨execProgramMove_due moves due ended, ?_⟩
    rw [State.moveBoth_slotOf, moves]
    exact ⟨rfl, rfl⟩
  case swap => exact fun s c w rest => execSwapBoundary_due
  case inProgress => exact fun s c e r => execRunDeadline_inProgress
  case notStarted => exact fun s c => execRunDeadline_notStarted rfl

end Sys2Proof.Machine
end

section
/-! PROOFS. What the end of a run leaves of the control dies: what sending, recording and a commit touch, and that a failed run commits nothing (04_oryx_engines.md R143, R144; 03_signal_board.md R103, R104). -/

namespace Sys2Proof.Machine

/-! ## Entries of updated vectors -/

/-- A field that the update of one entry leaves alone is as before in every entry. -/
theorem vUpd_field {α β : Type} {n : Nat} {v : Vector α n} {i : Fin n} {f : α → α} (g : α → β) (keeps : g (f v[i]) = g v[i]) (j : Fin n) :
    g (vUpd v i f)[j] = g v[j] := by
  by_cases same : i = j
  · subst same
    exact (congrArg g (vUpd_same v i f)).trans keeps
  · rw [vUpd_other v i j f same]

theorem vUpd_vUpd {α : Type} {n : Nat} (v : Vector α n) (i : Fin n) (f g : α → α) : vUpd (vUpd v i f) i g = vUpd v i (fun x => g (f x)) := by
  simp [vUpd]

/-! ## Sending and recording leave the control dies alone -/

/-- t has the control dies of s, and the links that stand in s. -/
structure Sends (s t : State) : Prop where
  ctrl : t.ctrl = s.ctrl
  part : t.part = s.part
  failed : ∀ l : Fin 27, t.links[l].failed = s.links[l].failed

theorem Sends.refl (s : State) : Sends s s := ⟨rfl, rfl, fun _ => rfl⟩

theorem Sends.trans {s t u : State} (h : Sends s t) (k : Sends t u) : Sends s u :=
  ⟨k.ctrl.trans h.ctrl, k.part.trans h.part, fun l => (k.failed l).trans (h.failed l)⟩

theorem Sends.die {s t : State} (h : Sends s t) (d : CtrlId) : t.die d = s.die d := congrArg (·[d.ix]) h.ctrl

theorem Sends.linkUp {s t : State} (h : Sends s t) (a b : Die) : t.linkUp a b = s.linkUp a b := by
  have stands : (fun l => t.hasLink l && !t.links[l].failed) = fun l => s.hasLink l && !s.links[l].failed := by
    funext l
    rw [h.failed l, State.hasLink, h.part, State.hasLink]
  rw [State.linkUp, State.linkUp, stands]

theorem sends_foldl {α : Type} {f : State → α → State} (each : ∀ v x, Sends v (f v x)) (l : List α) (s : State) : Sends s (l.foldl f s) := by
  induction l generalizing s with
  | nil => exact Sends.refl s
  | cons x l ih => exact (each s x).trans (ih _)

theorem sends_ite {s a b : State} {c : Prop} [Decidable c] (yes : Sends s a) (no : Sends s b) : Sends s (if c then a else b) := by
  split
  · exact yes
  · exact no

section
variable (s : State)

theorem raise_sends (code source sev : Nat) (payload : List Word) : Sends s (s.raise code source sev payload) := ⟨rfl, rfl, fun _ => rfl⟩

theorem raiseAll_sends (es : List Event) : Sends s (s.raiseAll es) := by
  induction es generalizing s with
  | nil => exact Sends.refl s
  | cons e es ih =>
    refine Sends.trans ?_ (ih (s.raiseAt e.time e.code e.source e.sev e.payload))
    exact ⟨rfl, rfl, fun _ => rfl⟩

theorem modCh_sends (c : Channel) (f : ChanTime → ChanTime) : Sends s (s.modCh c f) := ⟨rfl, rfl, fun _ => rfl⟩

theorem sendFlit_sends (l : Fin 27) (type len : Nat) (payload : BitVec 96) : Sends s (s.sendFlit l type len payload) := by
  simp only [State.sendFlit]
  refine sends_ite (Sends.refl s) (sends_ite ?waits ?leaves)
  case waits => exact ⟨rfl, rfl, vUpd_field _ rfl⟩
  case leaves => exact ⟨rfl, rfl, vUpd_field _ rfl⟩

theorem sendFlits_sends (fs : List (Nat × Nat × Nat × BitVec 96)) : Sends s (s.sendFlits fs) :=
  sends_foldl (fun v _ => sendFlit_sends v _ _ _ _) fs s

theorem sendWords_sends (src dst : Die) (kind : String) (ws : List Nat) : Sends s (s.sendWords src dst kind ws) := by
  simp only [State.sendWords]
  split
  · exact Sends.refl s
  · exact sends_foldl (fun v _ => sendFlit_sends v _ _ _ _) _ s

theorem sendDie_sends (src dst : Die) (kind : String) (ws : List Nat) : Sends s (s.sendDie src dst kind ws) :=
  sends_ite ((sendWords_sends s src dst kind ws).trans ⟨rfl, rfl, fun _ => rfl⟩) (Sends.refl s)

/-- A consumer's record is updated, and the message that says so goes out, where the link to it stands. -/
theorem told_sends {s t : State} {up : Bool} (updated : Sends s t) (src dst : Die) (kind : String) (ws : List Nat) :
    Sends s (if up then t.sendDie src dst kind ws else s) :=
  sends_ite (updated.trans (sendDie_sends t src dst kind ws)) (Sends.refl s)

theorem traceOne_sends (stamp : Nat) (w : Nat × Word) : Sends s (s.traceOne stamp w) := by
  simp only [State.traceOne]
  split
  · split
    · exact ⟨rfl, rfl, fun _ => rfl⟩
    · exact ⟨rfl, rfl, fun _ => rfl⟩
  · exact Sends.refl s

theorem traceOneB_sends (stamp : Nat) (w : Nat × Word) : Sends s (s.traceOneB stamp w) :=
  sends_ite ⟨rfl, rfl, fun _ => rfl⟩ (Sends.refl s)

theorem sendCommand_sends (c : Channel) : Sends s (s.sendCommand c) := by
  simp only [State.sendCommand]
  refine told_sends ?_ _ _ _ _
  exact ⟨rfl, rfl, fun _ => rfl⟩

theorem sendAdcRequest_sends (c : Channel) : Sends s (s.sendAdcRequest c) := by
  simp only [State.sendAdcRequest]
  refine told_sends ?_ _ _ _ _
  exact ⟨rfl, rfl, fun _ => rfl⟩

theorem sendMeas_sends (stamp : Nat) (c : Channel) : Sends s (s.sendMeas stamp c) := by
  simp only [State.sendMeas]
  refine told_sends ?_ _ _ _ _
  exact ⟨rfl, rfl, fun _ => rfl⟩

theorem sendCanBlock_sends (stamp base : Nat) : Sends s (s.sendCanBlock stamp base) := by
  simp only [State.sendCanBlock]
  refine told_sends ?_ _ _ _ _
  exact ⟨rfl, rfl, fun _ => rfl⟩

theorem sendSlotCommand_sends (stamp : Nat) (n : AuxSlot) : Sends s (s.sendSlotCommand stamp n) := by
  simp only [State.sendSlotCommand]
  refine told_sends ?_ _ _ _ _
  exact ⟨rfl, rfl, fun _ => rfl⟩

theorem sendSubscribed_sends (stamp : Nat) (ws : Kv Word) : Sends s (s.sendSubscribed stamp ws) := by
  simp only [State.sendSubscribed]
  refine ((((sends_foldl ?command _ s).trans (sends_foldl ?request _ _)).trans (sends_foldl ?meas _ _)).trans (sends_foldl ?block _ _)).trans
    (sends_foldl ?slot _ _)
  case command => exact sendCommand_sends
  case request => exact sendAdcRequest_sends
  case meas => exact fun v c => sendMeas_sends v stamp c
  case block => exact fun v b => sendCanBlock_sends v stamp b
  case slot => exact fun v n => sendSlotCommand_sends v stamp n

theorem traceCommit_sends (d : CtrlId) (stamp : Nat) (ws : Kv Word) : Sends s (s.traceCommit d stamp ws) := by
  cases d with
  | a => exact (sends_foldl (fun v w => traceOne_sends v stamp w) ws s).trans (sendSubscribed_sends _ stamp ws)
  | b => exact sends_foldl (fun v w => traceOneB_sends v stamp w) ws s

theorem sendDelivery_sends (owner stamp : Nat) (ws : Kv Word) : Sends s (s.sendDelivery owner stamp ws) := by
  simp only [State.sendDelivery]
  split
  · exact Sends.refl s
  · exact (sendWords_sends s _ _ _ _).trans (sendWords_sends _ _ _ _ _)

theorem verdict_sends (c : SlotCode) (frame outcome : Nat) : Sends s (s.verdict c frame outcome) :=
  sends_ite (Sends.trans (t := { s with verdicts := s.verdicts ++ [⟨c, frame, outcome⟩] }) ⟨rfl, rfl, fun _ => rfl⟩ (sendWords_sends _ _ _ _ _)) (Sends.refl s)

/-- Over a link in order the verdict joins those on their way to CTRL-B (R444). -/
theorem State.verdict_verdicts {s : State} (c : SlotCode) (frame outcome : Nat) (up : s.linkUp .ctrlA .ctrlB = true) :
    (s.verdict c frame outcome).verdicts = s.verdicts ++ [⟨c, frame, outcome⟩] := by
  rw [State.verdict, if_pos up]
  exact (sendWords_quiet _ _ _ _ _).verdicts

end

/-! ## Commits write the board and leave engines and slots alone (R103, R104) -/

/-- y has the engines and slots of x and, but for the signals of the set, its board. -/
structure CtrlDie.WritesIn (signals : Set Nat) (x y : CtrlDie) : Prop where
  engines : y.engines = x.engines
  slots : y.slots = x.slots
  board : ∀ a ∉ signals, kvGet 0 y.board a = kvGet 0 x.board a

section
variable {signals : Set Nat} {x y z : CtrlDie}

theorem CtrlDie.WritesIn.refl (x : CtrlDie) : WritesIn signals x x := ⟨rfl, rfl, fun _ _ => rfl⟩

theorem CtrlDie.WritesIn.trans (h : WritesIn signals x y) (k : WritesIn signals y z) : WritesIn signals x z :=
  ⟨k.engines.trans h.engines, k.slots.trans h.slots, fun a other => (k.board a other).trans (h.board a other)⟩

theorem CommitRes.refuse_writesIn (c : CommitRes) (now owner a : Nat) (v : Word) : CtrlDie.WritesIn signals c.die (c.refuse now owner a v).die := by
  rw [CommitRes.refuse]
  generalize (if kvHas c.die.lastRefused owner then some (kvGet 0 c.die.lastRefused owner) else none) = last
  dsimp only
  split
  · exact ⟨rfl, rfl, fun _ _ => rfl⟩
  · exact .refl _

theorem CommitRes.write_writesIn {a : Nat} (c : CommitRes) (now owner stamp : Nat) (v : Word) (mem : a ∈ signals) :
    CtrlDie.WritesIn signals c.die (c.write now owner stamp a v).die := by
  have stamped : ∀ e : DirEntry, CtrlDie.WritesIn signals c.die (if e.group then { c.die with stamps := kvPut c.die.stamps e.base stamp } else c.die) := by
    intro e
    split
    · exact ⟨rfl, rfl, fun _ _ => rfl⟩
    · exact .refl _
  simp only [CommitRes.write]
  split
  · exact c.refuse_writesIn _ _ _ _
  · next e _ =>
    split
    · exact c.refuse_writesIn _ _ _ _
    · split
      · exact stamped e
      · exact (stamped e).trans ⟨rfl, rfl, fun b other => kvGet_kvSet_other _ _ _ _ _ _ fun same => other (same ▸ mem)⟩

theorem CommitRes.foldl_writesIn {α : Type} {f : CommitRes → α → CommitRes} {l : List α}
    (each : ∀ c, ∀ w ∈ l, CtrlDie.WritesIn signals c.die (f c w).die) (c : CommitRes) : CtrlDie.WritesIn signals c.die (l.foldl f c).die := by
  induction l generalizing c with
  | nil => exact .refl _
  | cons w l ih => exact (each c w List.mem_cons_self).trans (ih (fun c v mem => each c v (List.mem_cons_of_mem w mem)) _)

theorem CtrlDie.commit_writesIn (now owner stamp : Nat) {ws : Kv Word} (inside : ∀ w ∈ ws, w.1 ∈ signals) :
    WritesIn signals x (x.commit now owner stamp ws).die :=
  have writes := CommitRes.foldl_writesIn (fun c w mem => c.write_writesIn now owner stamp w.2 (inside w mem))
    ⟨{ x with past := (x.past ++ x.replaced owner ws).filter (fun p => decide (now ≤ p.stamp + pastTicks)) }, [], false, []⟩
  ⟨writes.engines, writes.slots, writes.board⟩

end

/-- Each control die of t has the engines and slots it has in s and, but for the signals of the set, its board. -/
def WritesIn (signals : Set Nat) (s t : State) : Prop := ∀ d, CtrlDie.WritesIn signals (s.die d) (t.die d)

section
variable {signals : Set Nat} {s t u : State}

theorem WritesIn.refl (s : State) : WritesIn signals s s := fun _ => .refl _

theorem WritesIn.trans (h : WritesIn signals s t) (k : WritesIn signals t u) : WritesIn signals s u := fun d => (h d).trans (k d)

theorem Sends.writesIn (h : Sends s t) : WritesIn signals s t := fun d => h.die d ▸ .refl _

theorem modCtrl_writesIn {d : CtrlId} {f : CtrlDie → CtrlDie} (writes : CtrlDie.WritesIn signals (s.die d) (f (s.die d))) :
    WritesIn signals s (s.modCtrl d f) := by
  intro k
  by_cases same : d = k
  · subst same
    rwa [State.modCtrl_die_same]
  · rw [State.modCtrl_die_other s f same]
    exact .refl _

theorem hwCommit_writesIn (s : State) (owner stamp : Nat) {ws : Kv Word} (inside : ∀ w ∈ ws, w.1 ∈ signals) :
    WritesIn signals s (s.hwCommit owner stamp ws) := by
  have one : ∀ (v : State) (d : CtrlId), WritesIn signals v (if v.reaches owner d then
      ((if d = .a then (v.modCtrl d (fun _ => ((v.die d).commit v.now owner stamp ws).die)).raiseAll ((v.die d).commit v.now owner stamp ws).events
        else v.modCtrl d (fun _ => ((v.die d).commit v.now owner stamp ws).die)).traceCommit d stamp ((v.die d).commit v.now owner stamp ws).written) else v) := by
    intro v d
    have commits : WritesIn signals v (v.modCtrl d (fun _ => ((v.die d).commit v.now owner stamp ws).die)) :=
      modCtrl_writesIn (CtrlDie.commit_writesIn _ _ _ inside)
    split
    · refine WritesIn.trans ?_ (traceCommit_sends _ _ _ _).writesIn
      split
      · exact commits.trans (raiseAll_sends _ _).writesIn
      · exact commits
    · exact .refl v
  exact ((sendDelivery_sends s owner stamp ws).writesIn.trans (one _ .a)).trans (one _ .b)

/-! ## Misses (R143, R230, R231) -/

/-- The miss counters that a run of the channel may count on: its own and its pair mate's (R231, R326). -/
def missSignals (ch : Channel) : Set Nat :=
  { a | a ∈ [chBase ch + 0x18, chBase ch + 0x19, chBase (pairMate ch) + 0x18, chBase (pairMate ch) + 0x19] }

theorem missOf_writesIn (s : State) {ch : Channel} (frame : Nat) (samplePath : Bool) (run : chBase ch + 0x18 ∈ signals) (total : chBase ch + 0x19 ∈ signals) :
    WritesIn signals s (s.missOf ch frame samplePath) := by
  have counters : ∀ v : State, WritesIn signals v (v.publishMiss ch) := fun v => hwCommit_writesIn v _ _ (by
    rintro w (_ | ⟨_, _ | ⟨_, ⟨⟩⟩⟩)
    · exact run
    · exact total)
  simp only [State.missOf]
  refine WritesIn.trans (Sends.writesIn ?_) (counters _)
  split
  · split
    · exact (((modCh_sends s _ _).trans (modCh_sends _ _ _)).trans (modCh_sends _ _ _)).trans (raise_sends _ _ _ _ _)
    · exact (modCh_sends s _ _).trans (modCh_sends _ _ _)
  · exact modCh_sends s _ _

theorem miss_writesIn (s : State) (slot : SlotCode) (ch : Channel) (frame cause fcause : Nat) :
    WritesIn (missSignals ch) s (s.miss slot ch frame cause fcause) := by
  have own : ∀ (v : State) (p : Bool), WritesIn (missSignals ch) v (v.missOf ch frame p) := fun v p =>
    missOf_writesIn v frame p (by simp [missSignals]) (by simp [missSignals])
  have mate : ∀ (v : State) (p : Bool), WritesIn (missSignals ch) v (v.missOf (pairMate ch) frame p) := fun v p =>
    missOf_writesIn v frame p (by simp [missSignals]) (by simp [missSignals])
  have raised := (raise_sends s 0x1047 slot.val 6 [w32 ch.val, w32 frame, w32 cause, w32 fcause]).writesIn (signals := missSignals ch)
  simp only [State.miss]
  split
  · exact (raised.trans (own _ _)).trans (mate _ _)
  · exact raised.trans (own _ _)

end

/-! ## A discarded run (R143, R144) -/

/-- The engine of a discarded run: free, the failure counted. -/
def Engine.discarded (g : Engine) : Engine := { phase := .idle, run := none, fails := holdInc 0xFFFF g.fails }

/-- The slot of a discarded run: its frame has its outcome, and one that did not take place on CTRL-A counts for none. -/
def Slot.discarded (x : Slot) (frame outcome : Nat) : Slot :=
  { x.ended frame with runNo := if outcome = 7 then x.runNo else (x.runNo + 1) % 2 ^ 32 }

section
variable (x : Slot)

/- The fields that a run's end sets are variables here: the kernel would compare their values, arithmetic modulo 2^32, with those of x. -/
theorem Slot.setEnd_persist (anchor : Nat) (owed done : Option Nat) : ({ x with anchor := anchor, owed := owed, doneFrame := done } : Slot).persist = x.persist := rfl

theorem Slot.setRunNo_persist (n : Nat) : ({ x with runNo := n } : Slot).persist = x.persist := rfl

theorem Slot.ended_persist (frame : Nat) : (x.ended frame).persist = x.persist := x.setEnd_persist _ _ _

theorem Slot.discarded_persist (frame outcome : Nat) : (x.discarded frame outcome).persist = x.persist :=
  ((x.ended frame).setRunNo_persist _).trans (x.ended_persist frame)

end

section
variable (s : State) (d : CtrlId) (e : EngineNo) (r : Run) (outcome : Nat)

theorem State.discardRun_die : (s.discardRun d e r outcome).die d = { s.die d with
    engines := vUpd (s.die d).engines e Engine.discarded
    slots := vUpd (s.die d).slots r.slot (fun x => x.discarded r.frame outcome)
    outcomes := (s.die d).outcomes ++ [⟨e, r.slot.val, r.channel, r.frame, r.refInstant, outcome, runSig [] [] (runRecord outcome r.slot.val 0 r.frame)⟩] } := by
  simp only [State.discardRun, State.fileOutcome, State.modSlot, State.freeEngine, State.modEngine, State.modCtrl_die_same, vUpd_vUpd]
  rfl

theorem State.discardRun_die_other {k : CtrlId} (other : d ≠ k) : (s.discardRun d e r outcome).die k = s.die k := by
  simp only [State.discardRun, State.fileOutcome, State.modSlot, State.freeEngine, State.modEngine, State.modCtrl_die_other _ _ other]

theorem State.discardRun_engine : (s.discardRun d e r outcome).engine d e = (s.engine d e).discarded := by
  simp only [State.engine, State.discardRun_die, vUpd_same]

/-- A discarded run keeps the persistent registers of every slot. -/
theorem State.discardRun_persist (c : SlotCode) : ((s.discardRun d e r outcome).slotOf d c).persist = (s.slotOf d c).persist := by
  simp only [State.slotOf, State.discardRun_die]
  exact vUpd_field Slot.persist (Slot.discarded_persist _ _ _) c

end

/-- What a failed run of CTRL-A does besides being discarded: its verdict and its miss. -/
theorem State.failRun_a_writesIn (s : State) (e : EngineNo) (r : Run) (cause : Nat) :
    WritesIn (missSignals r.channel) (s.discardRun .a e r cause) (s.failRun .a e r cause) := by
  refine WritesIn.trans (Sends.writesIn (Sends.trans ?_ (verdict_sends _ _ _ _))) (miss_writesIn _ _ _ _ _ _)
  exact sends_ite (raise_sends _ _ _ _ _) (raise_sends _ _ _ _ _)

/-- Settles O17: on CTRL-B a failed run is discarded and no more; on CTRL-A the miss that it counts writes the miss counters. -/
theorem failedRunCommitsNothing : Obligations.FailedRunCommitsNothing := by
  unfold Obligations.FailedRunCommitsNothing
  refine ⟨?ctrlB, ?ctrlA⟩
  case ctrlB =>
    intro s e r cause t
    have die : t.die .b = _ := s.discardRun_die .b e r cause
    have engine : t.engine .b e = _ := s.discardRun_engine .b e r cause
    rw [die, engine]
    exact ⟨rfl, rfl, rfl, rfl, rfl, s.discardRun_die_other .b e r cause (by decide), s.discardRun_persist .b e r cause, rfl, rfl, rfl⟩
  case ctrlA =>
    intro s e r cause t
    obtain ⟨engines, slots, board⟩ := s.failRun_a_writesIn e r cause .a
    have engine : t.engine .a e = _ := (congrArg (·[e]) engines).trans (s.discardRun_engine .a e r cause)
    have kept : ((s.discardRun .a e r cause).die .a).board = (s.die .a).board := by rw [State.discardRun_die]
    rw [engine]
    refine ⟨fun c => ?_, rfl, rfl, fun a other => (board a other).trans (by rw [kept])⟩
    exact (congrArg (fun v => v[c].persist) slots).trans (s.discardRun_persist .a e r cause c)

end Sys2Proof.Machine
end

section
/-! PROOFS. FEND of a run of CTRL-A: its commit, the verdict and the end of a swap (04_oryx_engines.md R142; 06_planning_and_ageing.md R235; 13_lockstep.md R444). -/

namespace Sys2Proof.Machine

/-! ## The commit of a run on its die -/

/-- The slot of a run that commits. -/
def Slot.committed (x : Slot) (r : Run) : Slot :=
  { x.ended r.frame with
    persist := (r.g.drop 32).cast (by omega)
    dsState := r.ds
    runNo := (x.runNo + 1) % 2 ^ 32
    freshFlags := false }

theorem Slot.committed_persist (x : Slot) (r : Run) (i : Fin 32) : (x.committed r).persist[i] = r.g[(⟨i.val + 32, by omega⟩ : Fin 64)] := by
  simp only [Slot.committed, Fin.getElem_fin, Vector.getElem_cast, Vector.getElem_drop, Nat.add_comm]

theorem Slot.committed_runNo (x : Slot) (r : Run) : (x.committed r).runNo = (x.runNo + 1) % 2 ^ 32 := rfl

/-- A commit writes the board, then ends the run in its slot. -/
theorem CtrlDie.commitRun_die (x : CtrlDie) (now : Nat) (r : Run) :
    ∃ y, WritesIn Set.univ x y ∧ (x.commitRun now r).die = { y with slots := vUpd y.slots r.slot (fun z => z.committed r) } := by
  refine ⟨_, ?_, rfl⟩
  have commits : ∀ (y : CtrlDie) (owner : Nat) (ws : Kv Word), WritesIn Set.univ y (y.commit now owner r.refInstant ws).die := fun y owner ws =>
    CtrlDie.commit_writesIn now owner _ fun w _ => Set.mem_univ w.1
  exact (((commits _ _ _).trans (CommitRes.foldl_writesIn (fun c w _ => c.refuse_writesIn _ _ _ _) _)).trans
    (CommitRes.foldl_writesIn (fun c w _ => c.write_writesIn _ _ _ _ (Set.mem_univ w.1)) _)).trans (commits _ _ _)

section
variable (s : State) (e : EngineNo) (r : Run)

/-- CTRL-A when a run's commit has reached its die and its engine is free. -/
def State.committedRun (s : State) (e : EngineNo) (r : Run) : State :=
  (s.modCtrl .a (fun _ => ((s.die .a).commitRun s.now r).die)).freeEngine .a e

theorem State.committedRun_engine : (s.committedRun e r).engine .a e = { (((s.die .a).commitRun s.now r).die.engines[e]) with phase := .idle, run := none } := by
  rw [State.committedRun, State.freeEngine, State.modEngine_engine_same, State.engine, State.modCtrl_die_same]

theorem State.committedRun_slot : (s.committedRun e r).slotOf .a r.slot = (s.slotOf .a r.slot).committed r := by
  obtain ⟨y, writes, die⟩ := (s.die .a).commitRun_die s.now r
  rw [State.committedRun, State.freeEngine, State.modEngine, State.slotOf, State.modCtrl_die_same, State.modCtrl_die_same, die]
  exact (vUpd_same _ _ _).trans (by rw [writes.slots]; rfl)

theorem State.committedRun_b : (s.committedRun e r).die .b = s.die .b := by
  simp only [State.committedRun, State.freeEngine, State.modEngine, State.modCtrl_die_other _ _ (show CtrlId.a ≠ .b by decide)]

/-- After its commit a run only sends, records and files its outcome. -/
theorem State.endRun_a : ∃ t sig, Sends (s.committedRun e r) t
    ∧ (s.endRun .a e r).1 = t.fileOutcome .a e r.slot.val r.channel r.frame r.refInstant 0 sig :=
  ⟨_, _, ((raiseAll_sends _ _).trans (sendFlits_sends _ _)).trans (traceCommit_sends _ _ _ _), rfl⟩

theorem fileOutcome_writesIn (d : CtrlId) (slot : Nat) (ch : Channel) (frame ref outcome : Nat) (sig : Dword) :
    WritesIn ∅ s (s.fileOutcome d e slot ch frame ref outcome sig) :=
  modCtrl_writesIn ⟨rfl, rfl, fun _ _ => rfl⟩

theorem endRun_quiet : Quiet s (s.endRun .a e r).1 :=
  ((((modCtrl_quiet s _ _).trans (modCtrl_quiet _ _ _)).trans (raiseAll_quiet _ _)).trans (quiet_foldl (fun v _ => sendFlit_quiet v _ _ _ _) (Quiet.refl _))).trans
    ((traceCommit_quiet _ _ _ _).trans (modCtrl_quiet _ _ _))

theorem endRun_writesIn : WritesIn ∅ (s.committedRun e r) (s.endRun .a e r).1 := by
  obtain ⟨t, sig, sends, ends⟩ := s.endRun_a e r
  rw [ends]
  exact sends.writesIn.trans (fileOutcome_writesIn t e _ _ _ _ _ _ _)

theorem State.endRun_linkUp (a b : Die) : (s.endRun .a e r).1.linkUp a b = s.linkUp a b := by
  obtain ⟨t, sig, sends, ends⟩ := s.endRun_a e r
  rw [ends]
  exact sends.linkUp a b

variable (fl : BitVec 8)

theorem State.arithEvent_cases : s.arithEvent r fl = s ∨ s.arithEvent r fl =
    (s.raise 0x1030 (0x100 + r.slot.val) 4 [w32 r.channel.val, w32 r.frame, fl.zeroExtend 32]).modCtrl .a
      (fun d => { d with lastArith := kvPut d.lastArith r.slot.val s.now }) :=
  (ite_eq_or_eq _ _ _).symm

theorem arithEvent_quiet : Quiet s (s.arithEvent r fl) := quiet_ite ((raise_quiet s _ _ _ _).trans (modCtrl_quiet _ _ _)) (Quiet.refl s)

theorem arithEvent_writesIn : WritesIn ∅ s (s.arithEvent r fl) := by
  rcases s.arithEvent_cases r fl with none | raised
  · rw [none]
    exact .refl s
  · rw [raised]
    exact (raise_sends s _ _ _ _).writesIn.trans (modCtrl_writesIn ⟨rfl, rfl, fun _ _ => rfl⟩)

theorem State.arithEvent_linkUp (a b : Die) : (s.arithEvent r fl).linkUp a b = s.linkUp a b := by
  rcases s.arithEvent_cases r fl with none | raised
  · rw [none]
  · rw [raised]
    rfl

end

/-! ## What follows the verdict: the publication of a reference set, or the end of a swap (R37, R235) -/

/-- t has the engines, the slot c of CTRL-A and the verdicts of s. -/
structure SlotStands (c : SlotCode) (s t : State) : Prop where
  engines : ∀ d, (t.die d).engines = (s.die d).engines
  slot : t.slotOf .a c = s.slotOf .a c
  verdicts : t.verdicts = s.verdicts

section
variable {s t u : State} {c : SlotCode}

theorem SlotStands.refl (s : State) : SlotStands c s s := ⟨fun _ => rfl, rfl, rfl⟩

theorem SlotStands.trans (h : SlotStands c s t) (k : SlotStands c t u) : SlotStands c s u :=
  ⟨fun d => (k.engines d).trans (h.engines d), k.slot.trans h.slot, k.verdicts.trans h.verdicts⟩

theorem publishRef_stands (s : State) (ch : Channel) (slot : SlotCode) (frame : Nat) (written : Kv Word) :
    SlotStands c s (s.publishRef ch slot frame written) := by
  simp only [State.publishRef]
  split
  · exact ⟨fun _ => rfl, rfl, rfl⟩
  · exact .refl s

theorem emptySlot_stands (s : State) (d : CtrlId) {o : SlotCode} (other : o ≠ c) : SlotStands c s (s.emptySlot d o) := by
  have slots : ∀ x : CtrlDie, (x.slots.set o.val {} o.isLt)[c] = x.slots[c] := fun x => vUpd_other x.slots o c (fun _ => {}) other
  have engines : ∀ k, ((s.emptySlot d o).die k).engines = (s.die k).engines ∧ ((s.emptySlot d o).die k).slots[c] = (s.die k).slots[c] := by
    intro k
    by_cases same : d = k
    · subst same
      rw [State.emptySlot, State.modCtrl_die_same]
      exact ⟨rfl, slots _⟩
    · rw [State.emptySlot, State.modCtrl_die_other s _ same]
      exact ⟨rfl, rfl⟩
  exact ⟨fun k => (engines k).1, (engines .a).2, rfl⟩

theorem emptyBoth_stands (s : State) {o : SlotCode} (other : o ≠ c) : SlotStands c s (s.emptyBoth o) :=
  (emptySlot_stands s .a other).trans (emptySlot_stands _ .b other)

theorem planner_stands (s : State) (p : Planner) : SlotStands c s { s with planner := p } := ⟨fun _ => rfl, rfl, rfl⟩

theorem complete_stands (s : State) (ring index status detail : Nat) (result : Word) : SlotStands c s (s.complete ring index status detail result) :=
  ⟨fun _ => rfl, rfl, rfl⟩

/-- A swap that completes empties the slot of the program it replaced, and no other (R235). -/
theorem finishSwap_stands (s : State) (slot : SlotCode) (status detail : Nat) (stays : ∀ w ∈ s.planner.swaps, w.old ≠ some c) :
    SlotStands c s (s.finishSwap slot status detail) := by
  simp only [State.finishSwap]
  split
  · exact .refl s
  · next w found =>
    have kept := stays w (List.mem_of_find?_eq_some found)
    refine SlotStands.trans ?_ (complete_stands _ _ _ _ _ _)
    split
    · next o old =>
      have other : o ≠ c := fun same => kept (old.trans (congrArg some same))
      split
      · exact (planner_stands s _).trans (emptyBoth_stands _ other)
      · exact planner_stands s _
    · exact planner_stands s _

end

section
variable (s : State) (e : EngineNo) (r : Run)

/-- A committed run of CTRL-A when its verdict is on the way. -/
def State.sentCommit (s : State) (e : EngineNo) (r : Run) : State :=
  ((s.endRun .a e r).1.arithEvent r (s.endRun .a e r).2.flags).verdict r.slot r.frame 0

theorem sentCommit_writesIn : WritesIn ∅ (s.committedRun e r) (s.sentCommit e r) :=
  ((endRun_writesIn s e r).trans (arithEvent_writesIn _ r _)).trans (verdict_sends _ _ _ _).writesIn

theorem State.sentCommit_verdicts (up : s.linkUp .ctrlA .ctrlB = true) : (s.sentCommit e r).verdicts = s.verdicts ++ [⟨r.slot, r.frame, 0⟩] := by
  rw [State.sentCommit, State.verdict_verdicts _ _ _ (by rw [State.arithEvent_linkUp, State.endRun_linkUp, up]), (arithEvent_quiet _ r _).verdicts,
    (endRun_quiet s e r).verdicts]

theorem State.verdict_planner (c : SlotCode) (frame outcome : Nat) : (s.verdict c frame outcome).planner = s.planner := by
  rw [State.verdict]
  split
  · exact (sendWords_quiet _ _ _ _ _).planner
  · rfl

theorem State.sentCommit_planner : (s.sentCommit e r).planner = s.planner := by
  rw [State.sentCommit, State.verdict_planner, (arithEvent_quiet _ r _).planner, (endRun_quiet s e r).planner]

/-- After the verdict a sample-path program publishes its reference set, DS-D3-IN that of its mate too; another program ends its swap. -/
theorem State.commitA_sent : s.commitA e r =
    if ((s.sentCommit e r).slotOf .a r.slot).samplePath then
      let own := (s.sentCommit e r).publishRef r.channel r.slot r.frame (s.endRun .a e r).2.written
      if ((s.sentCommit e r).slotOf .a r.slot).ds = 3 then
        own.publishRef (pairMate r.channel) r.slot ((own.ch[pairMate r.channel].frame + 1) % 2 ^ 32) (s.endRun .a e r).2.written
      else own
    else (s.sentCommit e r).finishSwap r.slot 0 0 := rfl

/-- What a run's commit does after the verdict leaves its engine and slot alone, unless a swap is to replace its program. -/
theorem commitA_stands (stays : ∀ w ∈ s.planner.swaps, w.old ≠ some r.slot) : SlotStands r.slot (s.sentCommit e r) (s.commitA e r) := by
  rw [State.commitA_sent]
  split
  · dsimp only
    split
    · exact (publishRef_stands _ _ _ _ _).trans (publishRef_stands _ _ _ _ _)
    · exact publishRef_stands _ _ _ _ _
  · refine finishSwap_stands (s.sentCommit e r) r.slot 0 0 ?_
    rwa [State.sentCommit_planner]

end

/-- The status words of a Drive Set program alone are compared after a commit (R350). -/
theorem State.afterCommit_user {s0 s : State} {slot : SlotCode} (user : (s0.slotOf .a slot).ds = 0) : s0.afterCommit s slot = s := by
  simp [State.afterCommit, user]

/-- Settles O16: the commit frees the engine and ends the run in its slot, then the verdict goes out, and nothing after it touches either. -/
theorem ctrlACommitKeepsPersistents : Obligations.CtrlACommitKeepsPersistents := by
  unfold Obligations.CtrlACommitKeepsPersistents
  intro s e r w stands op stays up
  have ⟨_, _, _, user⟩ := stands
  have sent := sentCommit_writesIn s e r
  obtain ⟨engines, slot, verdicts⟩ := commitA_stands s e r stays
  have engine : (s.commitA e r).engine .a e = _ :=
    (congrArg (·[e]) ((engines .a).trans (sent .a).engines)).trans (s.committedRun_engine e r)
  have ended : (s.commitA e r).slotOf .a r.slot = (s.slotOf .a r.slot).committed r :=
    slot.trans ((congrArg (·[r.slot]) (sent .a).slots).trans (s.committedRun_slot e r))
  refine ⟨s.commitA e r, ?_, ?_⟩
  · exact (execFend_a stands op).trans (congrArg _ (State.afterCommit_user user))
  · rw [engine, ended]
    refine ⟨rfl, rfl, Slot.committed_persist _ r, Slot.committed_runNo _ r, verdicts.trans (s.sentCommit_verdicts e r up), ?_⟩
    exact ((engines .b).trans (sent .b).engines).trans (congrArg CtrlDie.engines (s.committedRun_b e r))

end Sys2Proof.Machine
end

section
/-! PROOFS. The arithmetic of the engines by itself: the NaNs and comparisons of binary32 and of the table look-ups (05_engine_arithmetic.md R177 to R184; 04_oryx_engines.md R161, R162), and the saturating rows (05_engine_arithmetic.md R191 to R193). -/

namespace Sys2Proof.Machine

/-! ## Words that are no NaN but the default one (R177) -/

/-- The word is a number, an infinity or the default NaN. -/
def DefaultNaNOnly (v : Word) : Prop := f32IsNaN v = true → v = 0x7FC00000

theorem f32IsNaN_iff {w : Word} : f32IsNaN w = true ↔ 0x7F800000 < f32Mag w := decide_eq_true_iff

theorem f32Mag_signed (neg : Bool) {mag : Nat} (small : mag < 2 ^ 31) : f32Mag (f32Signed neg mag) = mag := by
  unfold f32Mag f32Signed
  rw [BitVec.toNat_ofNat]
  split <;> omega

theorem f32Val_of_nan {w : Word} (nan : f32IsNaN w = true) : ∃ signalling, f32Val w = .nan signalling := by
  have above := f32IsNaN_iff.1 nan
  have below : f32Mag w < 2 ^ 31 := Nat.mod_lt _ (by decide)
  have exponent : f32Mag w / 2 ^ 23 = 255 := by omega
  have fraction : f32Mag w % 2 ^ 23 ≠ 0 := by omega
  exact ⟨decide (f32Mag w % 2 ^ 23 < 2 ^ 22), by simp only [f32Val, exponent, fraction, if_true, if_false]⟩

namespace DefaultNaNOnly

theorem defaultNaN : DefaultNaNOnly f32NaN := fun _ => rfl

theorem of_number {v : Word} (number : ¬ f32IsNaN v = true) : DefaultNaNOnly v := fun nan => absurd nan number

theorem signed (neg : Bool) {mag : Nat} (upToInf : mag ≤ 0x7F800000) : DefaultNaNOnly (f32Signed neg mag) :=
  .of_number fun nan => by
    have above := f32IsNaN_iff.1 nan
    rw [f32Mag_signed neg (by omega)] at above
    exact absurd upToInf (Nat.not_le.2 above)

theorem inf (neg : Bool) : DefaultNaNOnly (f32InfOf neg) := .signed neg le_rfl

theorem zero (neg : Bool) : DefaultNaNOnly (f32Signed neg 0) := .signed neg (Nat.zero_le _)

theorem ite {p : Prop} [Decidable p] {x y : FRes} (yes : DefaultNaNOnly x.val) (no : DefaultNaNOnly y.val) : DefaultNaNOnly (if p then x else y).val := by
  split
  · exact yes
  · exact no

end DefaultNaNOnly

/-! ## Rounding -/

/-- Bits from those of infinity on overflow; bits below them are no NaN. -/
theorem overflowed_defaultNaNOnly (neg : Bool) (bits : Int) (above below : FlagSet) :
    DefaultNaNOnly (if 0x7F800000 ≤ bits then (⟨f32InfOf neg, above⟩ : FRes) else ⟨f32Signed neg bits.toNat, below⟩).val := by
  split
  · exact .inf neg
  · exact .signed neg (by omega)

theorem f32Round_defaultNaNOnly (neg : Bool) (num den : Nat) (e : Int) : DefaultNaNOnly (f32Round neg num den e).val :=
  .ite (.zero neg) (overflowed_defaultNaNOnly neg _ _ _)

theorem f32RoundInt_defaultNaNOnly (zeroNeg : Bool) (v e : Int) : DefaultNaNOnly (f32RoundInt zeroNeg v e).val :=
  .ite (.zero zeroNeg) (f32Round_defaultNaNOnly _ _ _ _)

/-! ## The operations on decoded values (R173 to R179): a NaN or invalid case gives the default NaN, an infinity or a rounding any other -/

theorem addVal_defaultNaNOnly (a b : FVal) : DefaultNaNOnly (addVal a b).val := by
  cases a with
  | nan s => cases b <;> exact .defaultNaN
  | inf x =>
    cases b with
    | nan t => exact .defaultNaN
    | inf y => exact .ite (.inf x) .defaultNaN
    | fin n m e => exact .inf x
  | fin n m e =>
    cases b with
    | nan t => exact .defaultNaN
    | inf y => exact .inf y
    | fin n2 m2 e2 => exact f32RoundInt_defaultNaNOnly _ _ _

theorem fmaInf_defaultNaNOnly (p : Bool) (c : FVal) : DefaultNaNOnly (fmaVal.fmaInf p c).val := by
  cases c with
  | nan s => exact .defaultNaN
  | inf z => exact .ite (.inf p) .defaultNaN
  | fin n m e => exact .inf p

theorem fmaVal_defaultNaNOnly (a b c : FVal) : DefaultNaNOnly (fmaVal a b c).val := by
  cases a with
  | nan s => exact .defaultNaN
  | inf x =>
    cases b with
    | nan t => exact .defaultNaN
    | inf y => exact fmaInf_defaultNaNOnly _ c
    | fin n m e => exact .ite .defaultNaN (fmaInf_defaultNaNOnly _ c)
  | fin n m e =>
    cases b with
    | nan t => exact .defaultNaN
    | inf y => exact .ite .defaultNaN (fmaInf_defaultNaNOnly _ c)
    | fin n2 m2 e2 =>
      cases c with
      | nan s => exact .defaultNaN
      | inf z => exact .inf z
      | fin n3 m3 e3 => exact f32RoundInt_defaultNaNOnly _ _ _

theorem fmul_defaultNaNOnly (a b : Word) : DefaultNaNOnly (fmul a b).val := by
  unfold fmul
  cases f32Val a with
  | nan s => cases f32Val b <;> exact .defaultNaN
  | inf x =>
    cases f32Val b with
    | nan t => exact .defaultNaN
    | inf y => exact .inf _
    | fin n m e => exact .ite .defaultNaN (.inf _)
  | fin n m e =>
    cases f32Val b with
    | nan t => exact .defaultNaN
    | inf y => exact .ite .defaultNaN (.inf _)
    | fin n2 m2 e2 => exact f32Round_defaultNaNOnly _ _ _ _

theorem fdiv_defaultNaNOnly (a b : Word) : DefaultNaNOnly (fdiv a b).val := by
  unfold fdiv
  cases f32Val a with
  | nan s => cases f32Val b <;> exact .defaultNaN
  | inf x =>
    cases f32Val b with
    | nan t => exact .defaultNaN
    | inf y => exact .defaultNaN
    | fin n m e => exact .inf _
  | fin n m e =>
    cases f32Val b with
    | nan t => exact .defaultNaN
    | inf y => exact .zero _
    | fin n2 m2 e2 => exact .ite (.ite .defaultNaN (.inf _)) (f32Round_defaultNaNOnly _ _ _ _)

/-- The root of a zero is the operand, which is a number. -/
theorem fsqrt_defaultNaNOnly (a : Word) : DefaultNaNOnly (fsqrt a).val := by
  unfold fsqrt
  cases decoded : f32Val a with
  | nan s => exact .defaultNaN
  | inf n => exact .ite .defaultNaN (.inf false)
  | fin n m e =>
    have number : ¬ f32IsNaN a = true := fun nan => by
      obtain ⟨s, isNaN⟩ := f32Val_of_nan nan
      exact FVal.noConfusion (isNaN.symm.trans decoded)
    exact .ite (.of_number number) (.ite .defaultNaN (f32Round_defaultNaNOnly _ _ _ _))

theorem frsq_defaultNaNOnly (a : Word) : DefaultNaNOnly (frsq a).val := by
  unfold frsq
  cases f32Val a with
  | nan s => exact .defaultNaN
  | inf n => exact .ite .defaultNaN (.zero false)
  | fin n m e => exact .ite (.inf n) (.ite .defaultNaN (f32Round_defaultNaNOnly _ _ _ _))

/-! ## FMIN, FMAX and FCLAMP (R181, R182) -/

section
variable {takeA : Word → Word → Bool} {a b : Word}

theorem fminmax_fl : (fminmax takeA a b).fl = if f32IsSNaN a ∨ f32IsSNaN b then flagNV else 0 := by
  simp only [fminmax, apply_ite FRes.fl, ite_self, Bool.or_eq_true]

theorem fminmax_nan_left (nan : f32IsNaN a = true) (number : ¬ f32IsNaN b = true) : (fminmax takeA a b).val = b := by
  simp only [fminmax, if_pos nan, if_neg number]

theorem fminmax_nan_right (number : ¬ f32IsNaN a = true) (nan : f32IsNaN b = true) : (fminmax takeA a b).val = a := by
  simp only [fminmax, if_neg number, if_pos nan]

theorem fminmax_nans (left : f32IsNaN a = true) (right : f32IsNaN b = true) : (fminmax takeA a b).val = 0x7FC00000 := by
  simp only [fminmax, if_pos left, if_pos right, f32NaN]

theorem fminmax_numbers (left : ¬ f32IsNaN a = true) (right : ¬ f32IsNaN b = true) :
    (fminmax takeA a b).val = if takeA a b then a else b := by
  simp only [fminmax, if_neg left, if_neg right]

theorem fminmax_defaultNaNOnly : DefaultNaNOnly (fminmax takeA a b).val := by
  by_cases left : f32IsNaN a = true
  · by_cases right : f32IsNaN b = true
    · exact fun _ => fminmax_nans left right
    · rw [fminmax_nan_left left right]
      exact .of_number right
  · by_cases right : f32IsNaN b = true
    · rw [fminmax_nan_right left right]
      exact .of_number left
    · rw [fminmax_numbers left right]
      split
      · exact .of_number left
      · exact .of_number right

end

theorem fclamp_defaultNaNOnly (a lo hi : Word) : DefaultNaNOnly (fclamp a lo hi).val := .ite .defaultNaN fminmax_defaultNaNOnly

/-! ## Table look-ups (R161, R162) -/

section
variable (d : CtrlDie) (k : Nat) (x y : Word)

theorem lookup1_defaultNaNOnly : DefaultNaNOnly (lookup1 d k x).val := .ite .defaultNaN (.ite .defaultNaN (fmaVal_defaultNaNOnly _ _ _))

theorem lookup2_defaultNaNOnly : DefaultNaNOnly (lookup2 d k x y).val :=
  .ite .defaultNaN (.ite .defaultNaN (.ite .defaultNaN (fmaVal_defaultNaNOnly _ _ _)))

end

/-! ## FABS, FNEG and the bit of a signalling NaN (R177) -/

section
variable (a : Word)

theorem fabs_clears_sign : (fabs a).val.getLsbD 31 = false := by
  have cleared : (0x7FFFFFFF : Word).getLsbD 31 = false := by decide
  rw [fabs, BitVec.getLsbD_and, cleared, Bool.and_false]

theorem fneg_inverts_sign : (fneg a).val.getLsbD 31 = !a.getLsbD 31 := by
  have inverted : (0x80000000 : Word).getLsbD 31 = true := by decide
  rw [fneg, BitVec.getLsbD_xor, inverted, Bool.xor_true]

theorem fabs_keeps_magnitude {i : Nat} (low : i < 31) : (fabs a).val.getLsbD i = a.getLsbD i := by
  have kept : ∀ j < 31, (0x7FFFFFFF : Word).getLsbD j = true := by decide
  rw [fabs, BitVec.getLsbD_and, kept i low, Bool.and_true]

theorem fneg_keeps_magnitude {i : Nat} (low : i < 31) : (fneg a).val.getLsbD i = a.getLsbD i := by
  have kept : ∀ j < 31, (0x80000000 : Word).getLsbD j = false := by decide
  rw [fneg, BitVec.getLsbD_xor, kept i low, Bool.xor_false]

end

theorem f32IsSNaN_iff_of_nan {a : Word} (nan : f32IsNaN a = true) : f32IsSNaN a = true ↔ a.getLsbD 22 = false := by
  have above : 0x7F800000 < a.toNat % 2 ^ 31 := f32IsNaN_iff.1 nan
  have bit : a.getLsbD 22 = decide (a.toNat / 2 ^ 22 % 2 = 1) := Nat.testBit_eq_decide_div_mod_eq
  rw [f32IsSNaN, nan, Bool.true_and, decide_eq_true_iff, f32Mag, bit, decide_eq_false_iff_not]
  omega

/-- Settles O6: every delivered word is an infinity or a zero, a rounding, an operand that is no NaN, or the default NaN. -/
theorem binary32NaNs : Obligations.Binary32NaNs := by
  unfold Obligations.Binary32NaNs
  refine ⟨fun a => ⟨rfl, rfl, fabs_clears_sign a, fneg_inverts_sign a, fun i low => ⟨fabs_keeps_magnitude a low, fneg_keeps_magnitude a low⟩⟩,
    fun a => f32IsSNaN_iff_of_nan, fun d k a b => ?tables, fun a b c => ?arithmetic⟩
  case tables => exact List.forall_mem_cons.2 ⟨lookup1_defaultNaNOnly d k a, List.forall_mem_singleton.2 (lookup2_defaultNaNOnly d k a b)⟩
  case arithmetic =>
    simp only [List.forall_mem_cons]
    exact ⟨addVal_defaultNaNOnly _ _, addVal_defaultNaNOnly _ _, fmul_defaultNaNOnly a b, fdiv_defaultNaNOnly a b, fsqrt_defaultNaNOnly a,
      frsq_defaultNaNOnly a, fmaVal_defaultNaNOnly _ _ _, fmaVal_defaultNaNOnly _ _ _, fmaVal_defaultNaNOnly _ _ _, fclamp_defaultNaNOnly a b c,
      f32RoundInt_defaultNaNOnly _ _ _, f32RoundInt_defaultNaNOnly _ _ _, f32RoundInt_defaultNaNOnly _ _ _, List.forall_mem_nil _⟩

/-! ## Comparisons (R180) -/

theorem boolWord_eq_one_iff {p : Prop} [Decidable p] : boolWord (decide p) = 1 ↔ p := by
  by_cases h : p <;> simp [boolWord, h]

theorem boolWord_eq_zero_iff {p : Prop} [Decidable p] : boolWord (decide p) = 0 ↔ ¬ p := by
  by_cases h : p <;> simp [boolWord, h]

section
variable {a b : Word}

section
variable (nan : f32IsNaN a = true ∨ f32IsNaN b = true)

include nan

theorem feq_nan : feq a b = ⟨0, if f32IsSNaN a ∨ f32IsSNaN b then flagNV else 0⟩ := by
  simp only [feq, Bool.or_eq_true, if_pos nan]

theorem flt_nan : flt a b = ⟨0, flagNV⟩ := by
  simp only [flt, Bool.or_eq_true, if_pos nan]

theorem fle_nan : fle a b = ⟨0, flagNV⟩ := by
  simp only [fle, Bool.or_eq_true, if_pos nan]

end

section
variable (left : ¬ f32IsNaN a = true) (right : ¬ f32IsNaN b = true)

include left right

theorem feq_numbers : feq a b = ⟨boolWord (decide (f32Key a = f32Key b)), 0⟩ := by
  simp only [feq, Bool.or_eq_true, if_neg (not_or.2 ⟨left, right⟩)]

theorem flt_numbers : flt a b = ⟨boolWord (decide (f32Key a < f32Key b)), 0⟩ := by
  simp only [flt, Bool.or_eq_true, if_neg (not_or.2 ⟨left, right⟩)]

theorem fle_numbers : fle a b = ⟨boolWord (decide (f32Key a ≤ f32Key b)), 0⟩ := by
  simp only [fle, Bool.or_eq_true, if_neg (not_or.2 ⟨left, right⟩)]

theorem flt_numbers_iff : (flt a b).val = 1 ↔ f32Key a < f32Key b := by
  rw [flt_numbers left right, boolWord_eq_one_iff]

theorem fle_numbers_iff : (fle a b).val = 1 ↔ f32Key a ≤ f32Key b := by
  rw [fle_numbers left right, boolWord_eq_one_iff]

theorem feq_numbers_iff : (feq a b).val = 1 ↔ f32Key a = f32Key b := by
  rw [feq_numbers left right, boolWord_eq_one_iff]

theorem fle_numbers_zero_iff : (fle a b).val = 0 ↔ f32Key b < f32Key a := by
  rw [fle_numbers left right, boolWord_eq_zero_iff, Int.not_le]

end

/-- The order with −0 below +0 refines the order of the values (R181). -/
theorem f32KeyZ_lt_of_f32Key_lt (below : f32Key a < f32Key b) : f32KeyZ a < f32KeyZ b := by
  unfold f32Key at below
  unfold f32KeyZ
  split_ifs at below ⊢ <;> omega

/-- FMIN and FMAX of two numbers of different value, in both orders of the operands. -/
theorem fmin_fmax_ordered (left : ¬ f32IsNaN a = true) (right : ¬ f32IsNaN b = true) (below : f32Key a < f32Key b) :
    (fmin a b).val = a ∧ (fmax a b).val = b ∧ (fmin b a).val = a ∧ (fmax b a).val = b := by
  have ordered := f32KeyZ_lt_of_f32Key_lt below
  have le : f32KeyZ a ≤ f32KeyZ b := Int.le_of_lt ordered
  have not_ge : ¬ f32KeyZ b ≤ f32KeyZ a := Int.not_le.2 ordered
  simp only [fmin, fmax, fminmax_numbers left right, fminmax_numbers right left, decide_eq_true_eq, if_pos le, if_neg not_ge, and_self]

end

/-- Settles O5: the cases of a NaN from the equations of the operations, the others from the order of the keys. -/
theorem binary32Comparisons : Obligations.Binary32Comparisons := by
  unfold Obligations.Binary32Comparisons
  refine ⟨?nan, ?numbers, ?zeros, fun a b => ⟨fminmax_fl, fminmax_fl.trans fminmax_fl.symm⟩, ?oneNaN, ?twoNaNs, ?minMaxZeros, ?ordered⟩
  case nan =>
    intro a b nan
    rw [feq_nan nan, flt_nan nan, fle_nan nan]
    exact ⟨rfl, rfl, rfl, rfl, rfl, rfl⟩
  case numbers =>
    intro a b left right
    refine ⟨by rw [feq_numbers left right], by rw [flt_numbers left right], by rw [fle_numbers left right], ?_, ?_⟩
    · rw [fle_numbers_iff left right, flt_numbers_iff left right, feq_numbers_iff left right, le_iff_lt_or_eq]
    · rw [flt_numbers_iff left right, fle_numbers_zero_iff right left]
  case zeros => decide
  case oneNaN =>
    intro a b nan number
    exact ⟨fminmax_nan_left nan number, fminmax_nan_left nan number, fminmax_nan_right number nan, fminmax_nan_right number nan⟩
  case twoNaNs => exact fun a b left right => ⟨fminmax_nans left right, fminmax_nans left right⟩
  case minMaxZeros => decide
  case ordered => exact fun a b left right below => fmin_fmax_ordered left right ((flt_numbers_iff left right).1 below)

/-! ## Q16 and saturating rows (R191 to R193) -/

/-- A saturated result as the pair of its word and its flag. -/
theorem satI32_eq (v : Int) : satI32 v = (fun p : Word × FlagSet => ⟨p.1, p.2⟩)
    (if v < -(2 ^ 31) then (0x80000000, flagSAT) else if 2 ^ 31 - 1 < v then (0x7FFFFFFF, flagSAT) else (BitVec.ofInt 32 v, 0)) := by
  unfold satI32
  split
  · rfl
  · split <;> rfl

section
variable {d a b : Word} {q : Word × FlagSet} (product : qmul a b = ⟨q.1, q.2⟩)

include product

theorem qint_clamp : qint true d a b = ⟨(satI32 (d.toInt + q.1.toInt)).val, q.2 ||| (satI32 (d.toInt + q.1.toInt)).fl⟩ := by
  simp only [qint, product, if_true]

/-- The wrapped sum is the exact one modulo 2^32. -/
theorem qint_wrap : qint false d a b = ⟨BitVec.ofInt 32 (d.toInt + q.1.toInt), q.2⟩ := by
  have wraps : d + q.1 = BitVec.ofInt 32 (d.toInt + q.1.toInt) := by rw [BitVec.ofInt_add, BitVec.ofInt_toInt, BitVec.ofInt_toInt]
  simp only [qint, product, Bool.false_eq_true, if_false, wraps]

end

/-- Settles O4: each row is a shared form of the operation of its name, whose result is saturated. -/
theorem engineQ16Results : Obligations.EngineQ16Results := by
  unfold Obligations.EngineQ16Results
  intro s d e r w stands a b sat q sum to_
  have product : qmul a b = ⟨q.1, q.2⟩ := satI32_eq _
  refine ⟨?qmul, ?qint, ?sadd, ?ssub⟩
  case qmul => exact fun op => alu2_row stands op rfl product
  case qint =>
    refine fun op => onRun_row stands op rfl ?_
    cases w.getLsbD 33 with
    | false => exact congrArg (r.put w) (qint_wrap product)
    | true => exact congrArg (r.put w) ((qint_clamp product).trans (by rw [satI32_eq sum]))
  case sadd | ssub => exact fun op => alu2_row stands op rfl (satI32_eq _)

end Sys2Proof.Machine
end

section
/-! PROOFS. The planner's readings: voltage writes and their read-back, the delay and ageing readings, the end-of-life check and the ageing records (06_planning_and_ageing.md R201 to R237). -/

namespace Sys2Proof.Machine

/-! ## Voltage writes (R226, R228) -/

section
variable {s : State} {d : CtrlId} {w : AvsWrite}

theorem State.avsRetry_first (fresh : w.retried = false) : s.avsRetry d w =
    (s.modPlan d (fun p => { p with avs := some { w with retried := true, sentAt := s.now } })).emit (.avs d.code w.mV) :=
  if_neg (Bool.eq_false_iff.1 fresh)

theorem State.avsRetry_second (retried : w.retried = true) : s.avsRetry d w =
    (s.modPlan d (fun p => { p with avs := none, avsFailed := true })).raise 0x1049 d.code 12 [w32 w.mV] :=
  if_pos retried

variable (waits : (s.plan[d.ix]).avs = some w)

include waits

theorem execAvsReadback_match {mV : Nat} (same : mV = w.mV) :
    execAvsReadback d mV s = .next (s.modPlan d (fun p => { p with avs := none, avsMatched := some s.now })) := by
  simp only [execAvsReadback, waits, if_pos same]

theorem execAvsReadback_mismatch {mV : Nat} (other : mV ≠ w.mV) : execAvsReadback d mV s = .next (s.avsRetry d w) := by
  simp only [execAvsReadback, waits, if_neg other]

theorem execAvsTimeout_late (late : w.sentAt + 40000 ≤ s.now) : execAvsTimeout d s = .next (s.avsRetry d w) := by
  simp only [execAvsTimeout, waits]
  exact if_pos late

end

/-! ## Delay readings (R201, R216, R218 to R221, R225, R228) -/

/-- The planner's state where it weighs the steps of the ladder at a reading of the die: the least slack shown, the programs of unusable engines on their way. -/
def State.weighing (s : State) (d : CtrlId) : State :=
  (s.modPlan d (fun p => { p with slack := s.leastSlack d s.planSet })).evacuate

theorem State.evacuate_eq_weighing (s : State) (d : CtrlId) :
    (s.modPlan d (fun p => { p with slack := s.leastSlack d s.planSet })).evacuate = s.weighing d := rfl

theorem State.checked_of_settled {s : State} {d : CtrlId} (settled : s.planSettled = true) : (s.plan[d.ix]).checked = true := by
  simp only [State.planSettled, Bool.and_eq_true] at settled
  obtain ⟨⟨a, b⟩, -⟩ := settled
  cases d
  · exact a
  · exact b

section
variable {s : State} {d : CtrlId}

/-- A move out of an unusable engine ends the step: the die is to be read again first. -/
theorem State.planReading_moves (moved : ((s.weighing d).plan[d.ix]).checked = false) : s.planReading d = s.weighing d :=
  if_pos (by rw [State.evacuate_eq_weighing, moved, Bool.not_false])

theorem State.planReading_raises (stays : ((s.weighing d).plan[d.ix]).checked = true)
    (tight : (s.weighing d).dieFits d s.planSet (s.weighing d).guard = false) (room : (s.weighing d).canRaise d = true) :
    s.planReading d = (s.weighing d).raiseVdd d (s.leastSlack d s.planSet) := by
  simp only [State.planReading, State.evacuate_eq_weighing, stays, tight, room, Bool.not_true, Bool.not_false, Bool.and_self, Bool.false_eq_true, if_true, if_false]

/-- CTRL-B, which decides no step but those of its voltage. -/
theorem State.planReading_b (stays : ((s.weighing .b).plan[CtrlId.b.ix]).checked = true)
    (fits : (s.weighing .b).dieFits .b s.planSet (s.weighing .b).guard = true) : s.planReading .b = (s.weighing .b).lowerVdd .b := by
  simp only [State.planReading, State.evacuate_eq_weighing, stays, fits, Bool.not_true, Bool.false_and, Bool.false_eq_true, if_false]

theorem State.planReading_a (settled : (s.weighing .a).planSettled = true) (proved : (s.weighing .a).proved s.planSet (s.weighing .a).guard = true)
    (fit : (s.weighing .a).unfit (s.weighing .a).planSet = []) : s.planReading .a = (s.weighing .a).restoreDiv.lowerVdd .a := by
  have stays := State.checked_of_settled (d := .a) settled
  have fits : (s.weighing .a).dieFits .a s.planSet (s.weighing .a).guard = true := by
    simp only [State.proved, Bool.and_eq_true] at proved
    obtain ⟨⟨-, fitsA⟩, -⟩ := proved
    exact fitsA
  simp only [State.planReading, State.evacuate_eq_weighing, stays, fits, settled, proved, fit, List.isEmpty_nil, Bool.not_true, Bool.false_and, Bool.and_self,
    Bool.false_eq_true, if_true, if_false]

variable {rs : List (Nat × Nat)} (started : s.pwr.started = true) (rung : s.pwr.rung ≤ 1) (due : s.readingDue (s.plan[d.ix]).lastReading = true)

include started rung due

theorem execVelvetReading_due : execVelvetReading d rs s =
    if rateOk (s.plan[d.ix]).avsMatched s.now 8000 then
      .next (((s.modPlan d (fun p => { p with lastReading := some s.now })).takeReading d rs).planReading d)
    else .next (s.modPlan d (fun p => { p with lastReading := some s.now })) := by
  refine if_neg ?_
  rintro (off | low | early)
  · exact off started
  · exact Nat.not_le.2 low rung
  · exact early due

end

/-! ## Ageing (R207, R217, R236, R237) -/

/-- The loss a die's record shows changes, and a free value may be taken for it. -/
theorem State.showLoss_eq (s : State) (d : CtrlId) :
    ∃ shown ctr, s.showLoss d = { s.modPlan d (fun p => { p with lossShown := shown }) with freeCtr := ctr } := by
  by_cases gained : (s.plan[d.ix]).lossPpm < 0
  · exact ⟨_, _, if_pos gained⟩
  · exact ⟨_, s.freeCtr, if_neg gained⟩

/-- The history of a die's ageing readings after one at the present time (R236). -/
def State.ageHistWith (s : State) (d : CtrlId) (fs fu : Nat) : List (Nat × Nat × Nat) :=
  (s.plan[d.ix]).ageHist.filter (fun h => decide (s.now ≤ h.1 + 24000000000)) ++ [(s.now, fs, fu)]

/-- The planner's record of a die after an ageing reading that is due. -/
theorem execAgeingPairReading_due {s : State} {d : CtrlId} {fs fu : Nat} (due : s.ageingDue (s.plan[d.ix]).lastAgeing = true) :
    ∃ t, execAgeingPairReading d fs fu s = .next t ∧ t.ctrl = s.ctrl ∧ t.regs = s.regs ∧ ∃ warned budget shown, t.plan[d.ix] = { s.plan[d.ix] with
      ageHist := s.ageHistWith d fs fu
      lossPpm := lossPpm (s.ageingCal d).1 (s.ageingCal d).2 (s.ageHistWith d fs fu)
      lastAgeing := some s.now
      warned := warned
      budget := budget
      lossShown := shown } := by
  refine ⟨_, if_pos due, ?_⟩
  obtain ⟨shown, ctr, shows⟩ := State.showLoss_eq _ d
  rw [shows]
  simp only [apply_ite State.ctrl, apply_ite State.regs, apply_ite State.plan, State.raise_ctrl, State.raise_regs, State.raise_plan, ite_self,
    State.modPlan_ctrl, State.modPlan_regs, State.modPlan_plan, vUpd_vUpd]
  exact ⟨trivial, trivial, _, _, shown, vUpd_same _ _ _⟩

theorem execEolMargin_due {s : State} (due : rateOk s.planner.lastEol s.now 1440000000000 = true) : execEolMargin s =
    .next (({ s with planner := { s.planner with lastEol := some s.now } } : State).raiseAll (s.eolEvents s.planSet)) :=
  if_pos due

theorem execAgeingRecord_due {s : State} {d : CtrlId} {a b : Word} (due : s.ageRecordDue d = true) (rung : s.pwr.rung ≤ 1) :
    execAgeingRecord a b s = .next (s.ageRecordsWith s.ageRecordDue a b) := by
  have one : s.ageRecordDue .a = true ∨ s.ageRecordDue .b = true := by
    cases d
    · exact .inl due
    · exact .inr due
  exact if_pos ⟨one, rung⟩

/-- Settles O19: each waiting write and each reading that is due takes the branch its conditions name. -/
theorem plannerReadings : Obligations.PlannerReadings := by
  unfold Obligations.PlannerReadings
  refine ⟨?voltages, ?delays, ?ageing, fun s => execEolMargin_due, ?records⟩
  case voltages =>
    intro s d w mV waits
    exact ⟨execAvsReadback_match waits,
      fun other fresh => (execAvsReadback_mismatch waits other).trans (congrArg _ (State.avsRetry_first fresh)),
      fun other retried => (execAvsReadback_mismatch waits other).trans (congrArg _ (State.avsRetry_second retried)),
      fun late fresh => (execAvsTimeout_late waits late).trans (congrArg _ (State.avsRetry_first fresh)),
      fun late retried => (execAvsTimeout_late waits late).trans (congrArg _ (State.avsRetry_second retried))⟩
  case delays =>
    intro s d rs s0 s1 before s2 started rung due
    have reads := execVelvetReading_due (rs := rs) started rung due
    have trusted (ok : rateOk (s.plan[d.ix]).avsMatched s.now 8000 = true) : execVelvetReading d rs s = .next (s1.planReading d) := reads.trans (if_pos ok)
    refine ⟨fun ok moved => (trusted ok).trans (congrArg _ (State.planReading_moves moved)),
      fun ok stays tight room => (trusted ok).trans (congrArg _ (State.planReading_raises stays tight room)), ?ctrlB, ?ctrlA,
      fun untrusted => reads.trans (if_neg (Bool.eq_false_iff.1 untrusted))⟩
    case ctrlB =>
      rintro ok stays rfl fits
      exact (trusted ok).trans (congrArg _ (State.planReading_b stays fits))
    case ctrlA =>
      rintro ok rfl settled proved fit
      exact (trusted ok).trans (congrArg _ (State.planReading_a settled proved fit))
  case ageing =>
    intro s d fs fu due
    obtain ⟨t, reads, ctrl, regs, warned, budget, shown, entry⟩ := execAgeingPairReading_due (fs := fs) (fu := fu) due
    refine ⟨t, reads, ?_⟩
    rw [entry]
    exact ⟨rfl, rfl, rfl, rfl, ctrl, regs⟩
  case records => exact fun s a b d due rung => execAgeingRecord_due (decide_eq_true due) rung

end Sys2Proof.Machine
end

section
/-! PROOFS. The stuck watch and the sinc3 filter of a bitstream input, and the pointers of a sample buffer (07_current_and_voltage_sensing.md R244, R245, R281, R282). -/

namespace Sys2Proof.Machine

/-! ## The stuck watch (R244) -/

section
variable {s : State} {d : Fin 2} {i : Fin 24} {b : Bool}

/-- The bit continues the present run of equal bits. -/
def SdmInput.continues (x : SdmInput) (b : Bool) : Bool := decide (x.run ≠ 0) && x.lastBit == b

theorem SdmInput.continues_iff {x : SdmInput} : x.continues b = true ↔ x.run ≠ 0 ∧ x.lastBit = b := by
  rw [SdmInput.continues, Bool.and_eq_true, decide_eq_true_iff, beq_iff_eq]

/-- The run of equal bits that ends in the bit, held at 128. -/
def SdmInput.runWith (x : SdmInput) (b : Bool) : Nat := if x.continues b then min 128 (x.run + 1) else 1

theorem SdmInput.runWith_below {x : SdmInput} (short : x.run < 127) : x.runWith b = if x.run ≠ 0 ∧ x.lastBit = b then x.run + 1 else 1 := by
  simp only [SdmInput.runWith, SdmInput.continues_iff, Nat.min_eq_right (show x.run + 1 ≤ 128 by omega)]

/-- The stuck watch in terms of the run that the bit makes. -/
theorem State.stuckJudge_eq (s : State) (d : Fin 2) (i : Fin 24) (b : Bool) : s.stuckJudge d i b =
    if (s.sdm d i).stuck && !(s.sdm d i).continues b then
      (s.modSdm d i (fun y => { y.restart with stuck := false, run := 1, lastBit := b })).raise 0x2002 (4 + d.val) 3 [w32 i.val]
    else if (s.sdm d i).runWith b = 128 ∧ ¬ (s.sdm d i).stuck = true then
      (s.modSdm d i (fun y => { y with stuck := true, run := (s.sdm d i).runWith b, lastBit := b })).raise 0x2001 (4 + d.val) 8 [w32 i.val, w32 (b2n b)]
    else s.modSdm d i (fun y => { y with run := (s.sdm d i).runWith b, lastBit := b }) := rfl

theorem w32_b2n (b : Bool) : w32 (b2n b) = if b then 1 else 0 := by
  cases b <;> rfl

theorem State.stuckJudge_sticks (run : (s.sdm d i).run = 127) (equal : (s.sdm d i).lastBit = b) (free : (s.sdm d i).stuck = false) :
    s.stuckJudge d i b = (s.modSdm d i (fun y => { y with stuck := true, run := 128, lastBit := b })).raise 0x2001 (4 + d.val) 8
      [w32 i.val, if b then 1 else 0] := by
  have full : (s.sdm d i).runWith b = 128 := by
    rw [SdmInput.runWith, if_pos (SdmInput.continues_iff.2 ⟨by omega, equal⟩), run]
    rfl
  simp only [State.stuckJudge_eq, full, free, w32_b2n, Bool.false_and, Bool.false_eq_true, if_false, not_false_eq_true, and_self, if_true]

theorem State.stuckJudge_restores (stuck : (s.sdm d i).stuck = true) (differs : (s.sdm d i).lastBit ≠ b) :
    s.stuckJudge d i b = (s.modSdm d i (fun y => { y.restart with stuck := false, run := 1, lastBit := b })).raise 0x2002 (4 + d.val) 3 [w32 i.val] := by
  have breaks : (s.sdm d i).continues b = false := Bool.eq_false_iff.2 fun h => differs (SdmInput.continues_iff.1 h).2
  rw [State.stuckJudge_eq, stuck, breaks]
  rfl

theorem State.stuckJudge_counts (short : (s.sdm d i).run < 127) (free : (s.sdm d i).stuck = false) :
    s.stuckJudge d i b = s.modSdm d i (fun y => { y with
      run := if (s.sdm d i).run ≠ 0 ∧ (s.sdm d i).lastBit = b then (s.sdm d i).run + 1 else 1
      lastBit := b }) := by
  have counted := SdmInput.runWith_below (b := b) short
  have below : ¬ (s.sdm d i).runWith b = 128 := by
    rw [counted]
    split <;> omega
  rw [State.stuckJudge_eq, if_neg (by simp [free]), if_neg (fun ⟨full, _⟩ => below full), counted]

end

/-! ## The sinc3 filter (R245) -/

section
variable (x : SdmInput) (osr : Nat) (b : Bool)

/-- The filter keeps as much of its history as the three differences reach back. -/
theorem SdmInput.sinc3_raw : (x.sinc3 osr b).raw =
    let h := (x.sinc3 osr b).i3 :: x.hist
    min 32767 ((65536 * ((x.sinc3 osr b).i3 - 3 * h.getD osr 0 + 3 * h.getD (2 * osr) 0 - h.getD (3 * osr) 0) + osr ^ 3) / (2 * osr ^ 3)) := by
  have kept (k : Nat) (near : k < 3 * osr + 1) (l : List Int) : (l.take (3 * osr + 1)).getD k 0 = l.getD k 0 := by
    rw [List.getD_eq_getElem?_getD, List.getElem?_take_of_lt near, ← List.getD_eq_getElem?_getD]
  simp only [SdmInput.sinc3]
  rw [kept osr (by omega), kept (2 * osr) (by omega), kept (3 * osr) (by omega)]

end

theorem SdmInput.settled_iff {x : SdmInput} {osr : Nat} : x.settled osr = true ↔ 3 * osr ≤ x.count := decide_eq_true_iff

/-- Settles O29: the watch is judged by the run that the bit makes, the filter's history is long enough for its three differences. -/
theorem stuckWatchAndFilter : Obligations.StuckWatchAndFilter := by
  unfold Obligations.StuckWatchAndFilter
  refine ⟨?watch, ?filter, fun s d i m => rfl⟩
  case watch =>
    intro s d i b x
    exact ⟨State.stuckJudge_sticks, fun stuck differs _ => State.stuckJudge_restores stuck differs, State.stuckJudge_counts⟩
  case filter =>
    intro x osr b y
    exact ⟨rfl, rfl, rfl, rfl, ⟨rfl, rfl, rfl, rfl, rfl⟩, x.sinc3_raw osr b, SdmInput.settled_iff⟩

/-! ## The pointers of a sample buffer (R281, R282) -/

/-- The events raised, oldest first. -/
def State.events (s : State) : List Event := s.ev.raised.map (fun e => e.1)

/-- The state after an event of a sample buffer and the update that goes with it, where p holds. -/
def State.smpTell (s : State) (b : Fin 64) (p : Bool) (code sev : Nat) (ws : List Word) (f : SampleBuffer → SampleBuffer) : State :=
  if p then (s.raise code b.val sev ws).modSmp b f else s

section
variable (s : State) (b : Fin 64) (p : Bool) (code sev : Nat) (ws : List Word) (f : SampleBuffer → SampleBuffer)

@[simp] theorem State.smpTell_now : (s.smpTell b p code sev ws f).now = s.now := by
  unfold State.smpTell; split <;> rfl

@[simp] theorem State.smpTell_regs : (s.smpTell b p code sev ws f).regs = s.regs := by
  unfold State.smpTell; split <;> rfl

@[simp] theorem State.smpTell_ctrl : (s.smpTell b p code sev ws f).ctrl = s.ctrl := by
  unfold State.smpTell; split <;> rfl

@[simp] theorem State.smpTell_sampleMem : (s.smpTell b p code sev ws f).sampleMem = s.sampleMem := by
  unfold State.smpTell; split <;> rfl

@[simp] theorem State.smpTell_smp : (s.smpTell b p code sev ws f).smp[b] = if p then f s.smp[b] else s.smp[b] := by
  unfold State.smpTell
  split
  · exact vUpd_same s.smp b f
  · rfl

@[simp] theorem State.smpTell_events : (s.smpTell b p code sev ws f).events = s.events ++ if p then [⟨s.now, code, b.val, sev, ws⟩] else [] := by
  unfold State.smpTell
  split
  · exact List.map_append
  · exact (List.append_nil _).symm

end

/-- SAMPLE_WATERMARK is due: the unread records have reached the watermark, and it has not been told since the read pointer changed. -/
def State.watermarkDue (s : State) (b : Fin 64) : Bool := decide (max 1 (s.fld (Reg.smpWm b.val) 0 20) ≤ s.smpUnread b) && !(s.smp[b]).wmRaised

/-- SAMPLE_OVERRUN is due: unread records have been overwritten, and none was told within the last second. -/
def State.overrunDue (s : State) (b : Fin 64) : Bool := decide (2 ^ s.smpLog b < s.smpUnread b) && rateOk (s.smp[b]).lastOverrun s.now sTicks

theorem State.smpJudge_eq (s : State) (b : Fin 64) : s.smpJudge b =
    (s.smpTell b (s.watermarkDue b) 0x2030 2 [w32 (s.smp[b]).wptr] (fun y => { y with wmRaised := true })).smpTell b (s.overrunDue b) 0x2031 5
      [w32 (s.smp[b]).wptr, s.reg (Reg.smpRptr b.val)] (fun y => { y with lastOverrun := some s.now }) := by
  simp only [State.smpJudge, State.smpTell, State.watermarkDue, State.overrunDue, Bool.and_eq_true, decide_eq_true_eq, Bool.not_eq_true', Bool.not_eq_true]

theorem State.smpJudge_now (s : State) (b : Fin 64) : (s.smpJudge b).now = s.now := by
  rw [State.smpJudge_eq, State.smpTell_now, State.smpTell_now]

theorem State.smpJudge_regs (s : State) (b : Fin 64) : (s.smpJudge b).regs = s.regs := by
  rw [State.smpJudge_eq, State.smpTell_regs, State.smpTell_regs]

theorem State.smpJudge_ctrl (s : State) (b : Fin 64) : (s.smpJudge b).ctrl = s.ctrl := by
  rw [State.smpJudge_eq, State.smpTell_ctrl, State.smpTell_ctrl]

theorem State.smpJudge_sampleMem (s : State) (b : Fin 64) : (s.smpJudge b).sampleMem = s.sampleMem := by
  rw [State.smpJudge_eq, State.smpTell_sampleMem, State.smpTell_sampleMem]

theorem State.smpJudge_reg (s : State) (b : Fin 64) (off : Nat) : (s.smpJudge b).reg off = s.reg off := by
  rw [State.reg, State.smpJudge_regs, State.reg]

/-- What judging a buffer leaves of it: only the two marks of what has been told change. -/
theorem State.smpJudge_smp (s : State) (b : Fin 64) : (s.smpJudge b).smp[b] = { s.smp[b] with
    wmRaised := (s.smp[b]).wmRaised || s.watermarkDue b
    lastOverrun := if s.overrunDue b then some s.now else (s.smp[b]).lastOverrun } := by
  rw [State.smpJudge_eq, State.smpTell_smp, State.smpTell_smp]
  cases s.overrunDue b <;> cases s.watermarkDue b <;> simp

theorem State.smpJudge_events (s : State) (b : Fin 64) : (s.smpJudge b).events = s.events
    ++ (if s.watermarkDue b then [⟨s.now, 0x2030, b.val, 2, [w32 (s.smp[b]).wptr]⟩] else [])
    ++ (if s.overrunDue b then [⟨s.now, 0x2031, b.val, 5, [w32 (s.smp[b]).wptr, s.reg (Reg.smpRptr b.val)]⟩] else []) := by
  rw [State.smpJudge_eq, State.smpTell_events, State.smpTell_events, State.smpTell_now]

/-- The state that a write of the read pointer leaves to be judged. -/
def State.rptrMoved (s : State) (b : Fin 64) (v : Word) : State :=
  (s.setReg (Reg.smpRptr b.val) v).modSmp b (fun y => { y with wmRaised := y.wmRaised && decide (s.reg (Reg.smpRptr b.val) = v) })

theorem execSmpRptr_next (s : State) (b : Fin 64) (v : Word) : execSmpRptr b v s = .next ((s.rptrMoved b v).smpJudge b) := by
  simp only [execSmpRptr, State.setRptr, State.rptrMoved, ne_eq, decide_not, Bool.not_not]

theorem State.rptrMoved_smp (s : State) (b : Fin 64) (v : Word) :
    (s.rptrMoved b v).smp[b] = { s.smp[b] with wmRaised := (s.smp[b]).wmRaised && decide (s.reg (Reg.smpRptr b.val) = v) } :=
  vUpd_same s.smp b _

theorem State.rptrMoved_reg {s : State} (canonical : s.memWf = true) (b : Fin 64) (v : Word) : (s.rptrMoved b v).reg (Reg.smpRptr b.val) = v := by
  obtain ⟨regs, -⟩ := memWf_iff.1 canonical
  exact reg_setReg_same s (Reg.smpRptr b.val) v regs

/-- Settles O31: judging a buffer is two tellings, each with its own condition, and a write of the read pointer moves it and judges. -/
theorem sampleBufferPointers : Obligations.SampleBufferPointers := by
  unfold Obligations.SampleBufferPointers
  refine ⟨?write, ?judge⟩
  case write =>
    intro s b v canonical
    have pointer := State.rptrMoved_reg canonical b v
    refine ⟨s.rptrMoved b v, (s.rptrMoved b v).smpJudge b, execSmpRptr_next s b v, rfl, pointer, ?_,
      ((s.rptrMoved b v).smpJudge_reg b _).trans pointer, State.smpJudge_sampleMem _ b, ?_, State.smpJudge_ctrl _ b, State.smpJudge_now _ b⟩
    · rw [State.rptrMoved_smp]
    · rw [State.smpJudge_smp, State.rptrMoved_smp]
  case judge =>
    intro s b
    have entry := s.smpJudge_smp b
    exact ⟨congrArg SampleBuffer.wmRaised entry, congrArg SampleBuffer.lastOverrun entry, s.smpJudge_events b, s.smpJudge_sampleMem b,
      (congrArg SampleBuffer.wptr entry :), s.smpJudge_regs b⟩

end Sys2Proof.Machine
end

section
/-! PROOFS. The bits of the bitstream inputs, the measurement groups and the open-wire bits of the SENSE dies (07_current_and_voltage_sensing.md R243 to R250, R271 to R279). -/

namespace Sys2Proof.Machine

/-! ## One bit of an input (R243 to R249, R279) -/

section
variable {s : State} {d : Fin 2} {i : Fin 24} (b : Bool) (on : bitAt (s.reg (Reg.sdmCfg d.val i.val)) 31 = true) (clocked : s.clkOn d (s.sdmClk d i) = true)

include on clocked

theorem State.takesBits_one : s.takesBits d i [b] = true := by
  rw [State.takesBits, on, clocked]
  rfl

/-- The one bit of a command was sampled at the input's latest bit time. -/
theorem State.filterBits_one : s.filterBits d i [b] = s.feedBit d i b (s.bitTime d i) :=
  if_pos (State.takesBits_one b on clocked)

theorem State.showBits_one : s.showBits d i [b] = s.hwCommit (3 + d.val) (s.bitTime d i) [(0x10000 + d.val * 0x1000 + i.val, i32 (s.sdm d i).raw),
    (0x10000 + d.val * 0x1000 + 0x20 + i.val, i32 (correct (s.reg (Reg.sdmCorr d.val i.val)) (s.sdm d i).raw).1)] :=
  if_pos (State.takesBits_one b on clocked)

theorem State.bitsArrive_one (present : s.hasDie (senseDie d) = true) :
    s.bitsArrive d i [b] = .next ((s.feedBit d i b (s.bitTime d i)).showBits d i [b]) := by
  rw [State.bitsArrive, if_pos present, State.feedBits, State.filterBits_one b on clocked]

end

/-! ## Measurement groups (R271 to R277) -/

/-- The state after a group of a channel is sent: the first group reaches the protection unit. -/
def State.groupSent (s : State) (c : Channel) (second : Bool) : State :=
  if second then s.sendGroup c true else (s.sendGroup c false).protOnMeas c

/-- The state `after` the position groups of c's SENSE die that were not there `before` have reached the protection unit. -/
def State.posfbsTaken (before after : State) (c : Channel) : State :=
  (idxs 8).foldl (fun u q =>
    if senseOf q = senseOf c ∧ (after.die .a).stampOf (chBase q + 0x40) ≠ (before.die .a).stampOf (chBase q + 0x40) then u.protOnPosfb q else u) after

theorem State.posfbsTaken_eq (before after : State) (c : Channel) : before.posfbsTaken after c = (idxs 8).foldl (fun u q =>
    if senseOf q == senseOf c && (after.die .a).stampOf (chBase q + 0x40) != (before.die .a).stampOf (chBase q + 0x40) then u.protOnPosfb q else u) after := by
  refine congrArg (fun f => List.foldl f after (idxs 8)) (funext₂ fun u q => if_congr ?_ rfl rfl)
  rw [Bool.and_eq_true, beq_iff_eq, bne_iff_ne]

section
variable {s : State} {c : Channel} (present : s.hasChannel c = true)

include present

theorem execMeasDelivery_turn {second : Bool} (ready : s.groupReady c second = true) (turn : s.groupTurn c second = true)
    (unsent : s.groupUnsent c second = true) :
    execMeasDelivery c second s = .next ((s.groupSent c second).posfbsTaken ((s.groupSent c second).sendPosfbs c) c) := by
  have sent : (if second then s.sendGroup c second else (s.sendGroup c second).protOnMeas c) = s.groupSent c second := by
    cases second
    · simp only [State.groupSent, Bool.false_eq_true, if_false]
    · simp only [State.groupSent, if_true]
  rw [execMeasDelivery, if_neg (not_not_intro present), if_pos ⟨ready, turn, unsent⟩, State.posfbsTaken_eq, ← sent]

theorem execMeasLate_late :
    let late := (idxs 10).filter (fun m => memberOn (measReg s c m.val) && !(s.meas[c].members[m]).ready)
    let s1 := s.modMeas c (fun y => { y with members := Vector.ofFn (fun m => if late.contains m then { y.members[m] with
      ready := true
      reason := s.lateReason c m.val } else y.members[m]) })
    s.meas[c].sample + 200 ≤ s.now → late ≠ [] → execMeasLate c s = .next (if rateOk s.meas[c].lastLate s.now sTicks then
      (s1.modMeas c (fun y => { y with lastLate := some s.now })).raise 0x2021 c.val 6 [packFields (late.map (fun m => (m.val, 1))), w32 s.meas[c].frame]
      else s1) := by
  intro late s1 due some_late
  rw [execMeasLate, if_neg (not_not_intro present)]
  exact (if_pos ⟨due, some_late⟩).trans (apply_ite Host.Outcome.next _ _ _).symm

end

/-! ## Open-wire bits (R277) -/

theorem State.modSense_congr {s : State} {d : Fin 2} {f g : SenseDie → SenseDie} (agree : f s.sense[d] = g s.sense[d]) : s.modSense d f = s.modSense d g := by
  simp only [State.modSense, vUpd]
  exact congrArg (fun x => { s with sense := s.sense.set d.val x d.isLt }) agree

section
variable {s : State} {d i : Fin 2} {v : Word}

theorem execOwStatus_absent (absent : s.hasDie (senseDie d) = false) : execOwStatus d i v s = .next s :=
  if_neg (Bool.eq_false_iff.1 absent)

/-- The die after the host has written v to one of its two words of open-wire bits. -/
def SenseDie.owCleared (x : SenseDie) (i : Fin 2) (v : Word) : SenseDie :=
  if i = 0 then { x with owLo := x.owLo &&& ~~~v } else { x with owHi := x.owHi &&& ~~~v }

/-- f clears the bits on the die as it stands; both words are published, whichever was written. -/
theorem execOwStatus_clears {f : SenseDie → SenseDie} (present : s.hasDie (senseDie d) = true) (clears : (s.sense[d]).owCleared i v = f s.sense[d]) :
    execOwStatus d i v s = .next ((s.modSense d f).hwCommit (3 + d.val) s.now
      [(0x10320 + d.val * 0x1000, (f s.sense[d]).owLo), (0x10321 + d.val * 0x1000, (f s.sense[d]).owHi)]) := by
  have shared (n : Nat) : senseBase d + n = 0x10000 + n + d.val * 0x1000 := by
    rw [senseBase]
    omega
  have die : (s.modSense d f).sense[d] = f s.sense[d] := vUpd_same s.sense d f
  rw [execOwStatus, if_pos present, State.owClear, State.modSense_congr (g := f) clears, shared, shared, die]
  rfl

end

/-- Settles O28: each command of an input hands its one bit on, and each event of a group or of the open-wire bits takes the branch its conditions name. -/
theorem inputsAndGroups : Obligations.InputsAndGroups := by
  unfold Obligations.InputsAndGroups
  refine ⟨⟨?commands, ?shown, fun s d i b t => rfl⟩, ?delivery, ?late, fun s d i v => execOwStatus_absent, fun s c m => rfl, ?openWire⟩
  case commands =>
    intro s d i b present on clocked
    have arrives := State.bitsArrive_one b on clocked present
    exact ⟨arrives, arrives, arrives, arrives, arrives⟩
  case shown => exact fun s d i b => State.showBits_one b
  case delivery => exact fun s c second present => execMeasDelivery_turn present
  case late => exact fun s c => execMeasLate_late
  case openWire => exact fun s d v present => ⟨execOwStatus_clears present (if_pos rfl), execOwStatus_clears present (if_neg Fin.zero_ne_one.symm)⟩

end Sys2Proof.Machine
end

section
/-! PROOFS. The converters of the SENSE dies: triggers, urgent requests, the ends of conversions, plausibility and housekeeping (07_current_and_voltage_sensing.md R252 to R267). -/

namespace Sys2Proof.Machine

/-! ## Triggers (R256, R257, R263) -/

/-- A plausibility or housekeeping conversion, which a trigger or an urgent request aborts (R263). -/
def ConvWork.isLow : ConvWork → Bool
  | .plaus _ => true
  | .house _ _ => true
  | _ => false

section
variable {s : State} {d : Fin 2} {c : Fin 6}

theorem State.abortLow_high {w : ConvWork} (work : (s.conv d c).work = w) (high : w.isLow = false) : s.abortLow d c = s := by
  unfold State.abortLow
  rw [work]
  cases w with
  | plaus | house => cases high
  | idle | pass | urgent => rfl

theorem execAdcTimerTrigger_due (present : s.hasDie (senseDie d) = true) (timer : s.fld (Reg.adcCtrl d.val c.val) 29 2 = 2) :
    let t := s.now / max 80 (s.fld (Reg.adcCtrl d.val c.val) 0 18) * max 80 (s.fld (Reg.adcCtrl d.val c.val) 0 18)
    (s.conv d c).lastTimer ≠ some t →
      execAdcTimerTrigger d c s = .next ((s.modConv d c (fun x => { x with lastTimer := some t })).trigger d c .timer t) :=
  fun new => (if_neg (not_not_intro present)).trans (if_pos ⟨timer, new⟩)

variable {g : Trigger} {t : Nat} (on : s.adcOn d c = true)

include on

theorem State.trigger_idle (idle : (s.conv d c).work = .idle) : s.trigger d c g t = ((s.beginPass d c g t t false).serve d c t).serve d (mateOf c) t := by
  simp only [State.trigger, on, State.abortLow_high idle rfl, idle, Bool.not_true, Bool.false_eq_true, if_false, if_true]

variable {w : ConvWork} (work : (s.conv d c).work = w) (high : w.isLow = false) (busy : w ≠ .idle)

include work high busy

theorem State.trigger_latches (empty : (s.conv d c).latched = none) :
    s.trigger d c g t = s.modConv d c (fun y => { y with latched := some (g, t) }) := by
  simp only [State.trigger, on, State.abortLow_high work high, work, busy, empty, Bool.not_true, Bool.false_eq_true, if_false]

theorem State.trigger_overruns {q : Trigger × Nat} (full : (s.conv d c).latched = some q) :
    let n := holdInc 0xFFFFFFFF (s.conv d c).overruns
    let s2 := (s.modConv d c (fun y => { y with overruns := n })).hwCommit (3 + d.val) s.now [(0x10119 + d.val * 0x1000 + 0x20 * c.val, w32 n)]
    s.trigger d c g t = if rateOk (s.conv d c).lastOverrunEvent s.now msTicks then
      (s2.modConv d c (fun y => { y with lastOverrunEvent := some s.now })).raise 0x2010 (4 + d.val) 5 [w32 c.val, w32 n] else s2 := by
  have signal : senseBase d + 0x119 + 0x20 * c.val = 0x10119 + d.val * 0x1000 + 0x20 * c.val := by
    rw [senseBase]
    omega
  simp only [State.trigger, on, State.abortLow_high work high, work, busy, full, signal, senseOwner, senseSource, Bool.not_true, Bool.false_eq_true, if_false]

end

/-! ## Urgent requests (R259 to R261, R263) -/

section
variable {s : State} {d : Fin 2} {c : Fin 6} {u : Urgent}

theorem State.urgent_idle (idle : (s.conv d c).work = .idle) : s.urgent d c u = s.modConv d c (fun y => { y with work := .urgent u (s.now + 1) }) := by
  simp only [State.urgent, State.abortLow_high idle rfl, idle]

theorem State.urgent_suspends {p : Pass} (pass : (s.conv d c).work = .pass p) : s.urgent d c u = s.modConv d c (fun y => { y with
    suspended := some { p with preempted := true }
    work := .urgent u (s.now + 1) }) := by
  simp only [State.urgent, State.abortLow_high pass rfl, pass]

variable {v : Urgent} {b : Nat} (runs : (s.conv d c).work = .urgent v b)

include runs

theorem State.urgent_waits (free : (s.conv d c).pendingUrgent = none) : s.urgent d c u = s.modConv d c (fun y => { y with pendingUrgent := some u }) := by
  simp only [State.urgent, State.abortLow_high runs rfl, runs, free, Option.isNone_none, if_true]

theorem State.urgent_drops {q : Urgent} (held : (s.conv d c).pendingUrgent = some q) : s.urgent d c u = s.dropUrgent d c.val u.chan u.reqId := by
  simp only [State.urgent, State.abortLow_high runs rfl, runs, held, Option.isNone_some, Bool.false_eq_true, if_false]

end

/-- The state after the oldest commit of a channel's adc_req, the word w, has arrived; ws are still on their way. -/
def State.requestTaken (s : State) (ch : Channel) (w : Word) (ws : List Word) : State :=
  s.modMeas ch (fun m => { m with lastReqId := bitsAt w 16 16, requests := ws })

section
variable {s : State} {ch : Channel} {w : Word} {ws : List Word} (present : s.hasChannel ch = true) (oldest : s.meas[ch].requests = w :: ws)

include present oldest

theorem execUrgentRequest_none (stale : bitsAt w 16 16 = 0 ∨ bitsAt w 16 16 = s.meas[ch].lastReqId) :
    execUrgentRequest ch s = .next (s.requestTaken ch w ws) := by
  simp only [execUrgentRequest, if_neg (not_not_intro present), oldest]
  exact if_pos stale

variable (numbered : bitsAt w 16 16 ≠ 0) (new : bitsAt w 16 16 ≠ s.meas[ch].lastReqId)

include numbered new

/-- A new request for a converter that is on: t is the state after it has reached the converter, whose mate may then have work to start. -/
theorem execUrgentRequest_reaches {c : Fin 6} {t : State} (named : bitsAt w 0 3 = c.val) (on : s.adcOn (senseOf ch) c = true)
    (reached : (s.requestTaken ch w ws).urgent (senseOf ch) c ⟨ch, bitsAt w 3 5, bitsAt w 16 16⟩ = t) :
    execUrgentRequest ch s = .next (t.serve (senseOf ch) (mateOf c) s.now) := by
  obtain ⟨c, small⟩ := c
  subst named reached
  simp only [execUrgentRequest, if_neg (not_not_intro present), oldest, if_neg (not_or.2 ⟨numbered, new⟩), dif_pos small, if_pos on]
  rfl

theorem execUrgentRequest_drops (unknown : 6 ≤ bitsAt w 0 3) :
    execUrgentRequest ch s = .next ((s.requestTaken ch w ws).dropUrgent (senseOf ch) (bitsAt w 0 3) ch (bitsAt w 16 16)) := by
  simp only [execUrgentRequest, if_neg (not_not_intro present), oldest, if_neg (not_or.2 ⟨numbered, new⟩), dif_neg (Nat.not_lt.2 unknown)]
  rfl

end

/-! ## The end of an urgent conversion (R260 to R263) -/

theorem convTicks_zero : convTicks 0 = 80 := rfl

section
variable {s : State} {d : Fin 2} {c : Fin 6} {nv : Int} {u : Urgent} {b : Nat}

/-- The state after an urgent conversion that began at b has committed its result group. -/
def State.urgentResult (s : State) (d : Fin 2) (c : Fin 6) (nv : Int) (u : Urgent) (b : Nat) : State :=
  s.hwCommit (3 + d.val) (b + 16) [(chBase u.chan + 0x32, i32 (correct (s.reg (Reg.adcCorr d.val c.val u.mux)) (rawCode nv)).1), (chBase u.chan + 0x33, w32 u.reqId)]

variable (present : s.hasDie (senseDie d) = true) (work : (s.conv d c).work = .urgent u b) (ended : b + 80 ≤ s.now)

include present work ended

theorem execUrgentConversionEnd_pending {v : Urgent} (pending : (s.conv d c).pendingUrgent = some v) :
    execUrgentConversionEnd d c nv s = .next ((s.urgentResult d c nv u b).modConv d c (fun x => { x with
      work := .urgent v (b + 80)
      pendingUrgent := none })) := by
  simp only [execUrgentConversionEnd, if_neg (not_not_intro present), work, convTicks_zero, if_neg (Nat.not_lt.2 ended), pending]
  rfl

variable (free : (s.conv d c).pendingUrgent = none)

include free

theorem execUrgentConversionEnd_resumes {p : Pass} (suspended : (s.conv d c).suspended = some p) :
    execUrgentConversionEnd d c nv s = .next ((s.urgentResult d c nv u b).modConv d c (fun x => { x with
      work := .pass { p with convStart := b + 80 }
      suspended := none })) := by
  simp only [execUrgentConversionEnd, if_neg (not_not_intro present), work, convTicks_zero, if_neg (Nat.not_lt.2 ended), free, suspended]
  rfl

theorem execUrgentConversionEnd_serves (nothing : (s.conv d c).suspended = none) :
    execUrgentConversionEnd d c nv s = .next (((s.urgentResult d c nv u b).modConv d c (fun x => { x with work := .idle })).serve d c (b + 80)) := by
  simp only [execUrgentConversionEnd, if_neg (not_not_intro present), work, convTicks_zero, if_neg (Nat.not_lt.2 ended), free, nothing]
  rfl

end

/-! ## The ends of the other conversions (R258, R263, R265, R267) -/

section
variable {s : State} {d : Fin 2} {c : Fin 6} {nv : Int} (present : s.hasDie (senseDie d) = true)

include present

theorem execConversionEnd_pass {p : Pass} (work : (s.conv d c).work = .pass p) (ended : p.convStart + convTicks (s.acq d c p.entry) ≤ s.now) :
    execConversionEnd d c nv s = .next ((s.passConvEnd d c p nv).judgeNtc d c.val p.entry) := by
  simp only [execConversionEnd, if_neg (not_not_intro present), work, if_neg (Nat.not_lt.2 ended), State.conversionEnd]

theorem execConversionEnd_plaus {b : Nat} (work : (s.conv d c).work = .plaus b) (ended : b + 80 ≤ s.now) :
    execConversionEnd d c nv s = .next (((s.plausConvEnd d c nv).modConv d c (fun x => { x with work := .idle })).serve d c (b + 80)) := by
  simp only [execConversionEnd, if_neg (not_not_intro present), work, convTicks_zero, State.conversionEnd]
  exact congrArg Host.Outcome.next (if_neg (Nat.not_lt.2 ended))

theorem execConversionEnd_house {j b : Nat} (work : (s.conv d c).work = .house j b) (ended : b + 80 ≤ s.now) :
    execConversionEnd d c nv s = .next (((s.houseConvEnd d c j nv).modConv d c (fun x => { x with work := .idle })).serve d c (b + 80)) := by
  simp only [execConversionEnd, if_neg (not_not_intro present), work, convTicks_zero, State.conversionEnd]
  exact congrArg Host.Outcome.next (if_neg (Nat.not_lt.2 ended))

/-! ## Plausibility and housekeeping (R265 to R267) -/

theorem execPlausibilityPeriod_due {k : Fin 3} (on : bitAt (s.reg (Reg.plaus d.val k.val)) 31 = true) (runs : s.senseRuns = true)
    (due : rateOk ((s.sense[d]).pairs[k]).lastPeriod s.now (max 1 (bitsAt (s.reg (Reg.plaus d.val k.val)) 16 8) * 40000) = true) :
    execPlausibilityPeriod d k s = .next (((if ((s.sense[d]).pairs[k]).want then s.skipPair d k else s).modPair d k (fun q => { q with
      want := true
      lastPeriod := some s.now })).servePair d k s.now) :=
  (if_neg (not_not_intro present)).trans (if_pos ⟨on, runs, due⟩)

theorem execHousekeeping_due (rung : s.pwr.rung ≤ 1) (due : rateOk (s.sense[d]).lastHouse s.now msTicks = true) :
    execHousekeeping d s = .next (((s.modSense d (fun x => { x with lastHouse := some s.now })).modConv d 5
      (fun x => { x with house := [24, 25, 26, 27, 28] })).serve d 5 s.now) :=
  (if_neg (not_not_intro present)).trans (if_pos ⟨rung, due⟩)

end

/-- Settles O30: each trigger, request, end of a conversion and period takes the branch that its conditions name. -/
theorem conversions : Obligations.Conversions := by
  unfold Obligations.Conversions
  refine ⟨⟨fun s d c => execAdcTimerTrigger_due, ?triggers, ?requests⟩, ?urgentEnd, ?ends,
    fun s d k present => execPlausibilityPeriod_due present, fun s d => execHousekeeping_due⟩
  case triggers =>
    intro s d c g t on
    exact ⟨State.trigger_idle on, fun p pass => State.trigger_latches on pass rfl nofun, fun u b runs => State.trigger_latches on runs rfl nofun,
      fun p q pass => State.trigger_overruns on pass rfl nofun⟩
  case requests =>
    intro s ch c w ws present oldest
    refine ⟨execUrgentRequest_none present oldest, fun numbered new named on => ?_, execUrgentRequest_drops present oldest⟩
    have reaches {t : State} := execUrgentRequest_reaches (t := t) present oldest numbered new named on
    exact ⟨fun idle => reaches (State.urgent_idle idle), fun p pass => reaches (State.urgent_suspends pass),
      fun v b runs free => reaches (State.urgent_waits runs free), fun v b q runs held => reaches (State.urgent_drops runs held)⟩
  case urgentEnd =>
    intro s d c nv u b present work ended
    exact ⟨fun v => execUrgentConversionEnd_pending present work ended, fun p free => execUrgentConversionEnd_resumes present work ended free,
      execUrgentConversionEnd_serves present work ended⟩
  case ends =>
    intro s d c nv present
    exact ⟨fun p work ended => execConversionEnd_pass present work (by rwa [convTicks, ← Nat.add_assoc]), fun b => execConversionEnd_plaus present,
      fun j b => execConversionEnd_house present⟩

end Sys2Proof.Machine
end

section
/-! PROOFS. The commands of the position interfaces on an interface that works (08_position_and_speed.md R289 to R304, R309, R318). -/

namespace Sys2Proof.Machine

section
variable {s : State} {d : Fin 2} {k : Fin 4} (present : s.hasDie (senseDie d) = true) (on : s.pifOn d k = true)

include present on

theorem State.onPif_mode {mode : Nat} {f : State → State} (m : s.pifMode d k = mode) : s.onPif d k mode f = .next (f s) :=
  (if_neg (not_not_intro present)).trans (if_pos ⟨on, .inl m⟩)

theorem State.onPif_counting {f : State → State} (m : 3 ≤ s.pifMode d k) : s.onPif d k 3 f = .next (f s) :=
  (if_neg (not_not_intro present)).trans (if_pos ⟨on, .inr (.inl ⟨rfl, m⟩)⟩)

theorem State.onPif_any {f : State → State} : s.onPif d k 0 f = .next (f s) :=
  (if_neg (not_not_intro present)).trans (if_pos ⟨on, .inr (.inr rfl)⟩)

end

/-! ## Resolver samples (R291, R292, R294) -/

/-- The number of the resolver sample whose instant came last (R291). -/
def State.resSample (s : State) (d : Fin 2) (k : Fin 4) : Nat :=
  (s.now - s.fld (Reg.resPh d.val k.val) 0 17) / (s.resPeriod d k / 32)

/-- The instant of that sample. -/
def State.resInstant (s : State) (d : Fin 2) (k : Fin 4) : Nat :=
  s.resSample d k * (s.resPeriod d k / 32) + s.fld (Reg.resPh d.val k.val) 0 17

/-- The state with the A-path sample in the window. -/
def State.resWindowed (s : State) (d : Fin 2) (k : Fin 4) (aSin aCos : Int) : State :=
  s.modPif d k (fun q => { q with
    lastSample := some (s.resSample d k)
    win := ((s.resSample d k % 32, (correct (s.reg (Reg.resCorrSin d.val k.val)) (rawCode aSin)).1,
      (correct (s.reg (Reg.resCorrCos d.val k.val)) (rawCode aCos)).1) :: q.win).take 32 })

/-- The state after SENSE has told SAFE the values v of the B path, formed at sample 24 of instant t (R294). -/
def State.resTold (s : State) (d : Fin 2) (k : Fin 4) (v : Int × Int) (t : Nat) : State :=
  if s.linkUp (senseDie d) .safe then
    (s.modPif d k (fun q => { q with bSafe := q.bSafe ++ [(v.1, v.2, t)] })).sendDie (senseDie d) .safe "resolver" [k.val, (i32 v.1).toNat, (i32 v.2).toNat, t]
  else s

section
variable {s : State} {d : Fin 2} {k : Fin 4} {aSin aCos bSin bCos : Int} (present : s.hasDie (senseDie d) = true) (on : s.pifOn d k = true)
  (resolver : s.pifMode d k = 1) (begun : s.fld (Reg.resPh d.val k.val) 0 17 ≤ s.now) (new : (s.pif d k).lastSample ≠ some (s.resSample d k))

include present on resolver begun new

theorem execResolverSample_new : execResolverSample d k aSin aCos bSin bCos s = .next (State.resolverMeasure
    (if s.resSample d k % 32 = 8 then (s.resWindowed d k aSin aCos).modPif d k (fun q => { q with b8 := (rawCode bSin, rawCode bCos) })
      else if s.resSample d k % 32 = 24 then
        (s.resWindowed d k aSin aCos).resTold d k ((s.pif d k).b8.1 - rawCode bSin, (s.pif d k).b8.2 - rawCode bCos) (s.resInstant d k)
      else s.resWindowed d k aSin aCos) d k (s.resInstant d k)) :=
  (State.onPif_mode present on resolver).trans (congrArg _ (if_neg (not_or.2 ⟨Nat.not_lt.2 begun, new⟩)))

theorem execResolverSample_keepsB (eighth : s.resSample d k % 32 = 8) : execResolverSample d k aSin aCos bSin bCos s =
    .next (((s.resWindowed d k aSin aCos).modPif d k (fun q => { q with b8 := (rawCode bSin, rawCode bCos) })).resolverMeasure d k (s.resInstant d k)) := by
  rw [execResolverSample_new present on resolver begun new, if_pos eighth]

theorem execResolverSample_tellsB (last : s.resSample d k % 32 = 24) : execResolverSample d k aSin aCos bSin bCos s = .next
    (((s.resWindowed d k aSin aCos).resTold d k ((s.pif d k).b8.1 - rawCode bSin, (s.pif d k).b8.2 - rawCode bCos) (s.resInstant d k)).resolverMeasure
      d k (s.resInstant d k)) := by
  rw [execResolverSample_new present on resolver begun new, if_neg (by omega), if_pos last]

theorem execResolverSample_windows (other : s.resSample d k % 32 ≠ 8) (before : s.resSample d k % 32 ≠ 24) :
    execResolverSample d k aSin aCos bSin bCos s = .next ((s.resWindowed d k aSin aCos).resolverMeasure d k (s.resInstant d k)) := by
  rw [execResolverSample_new present on resolver begun new, if_neg other, if_neg before]

end

/-! ## SSI words (R295 to R299) -/

/-- The state after a complete word w, requested at tr, has been told to SAFE (R299). -/
def State.ssiTold (s : State) (d : Fin 2) (k : Fin 4) (w tr : Nat) : State :=
  let s0 := s.modPif d k (fun p => { p with wordAt := none })
  if s.linkUp (senseDie d) .safe then
    (s0.modPif d k (fun p => { p with ssiSafe := p.ssiSafe ++ [⟨s.ssiTheta d k w, s.ssiBad d k w == 0, tr⟩] })).sendDie
      (senseDie d) .safe "ssi" [k.val, w, b2n (s.ssiBad d k w == 0), tr]
  else s0

section
variable {s : State} {d : Fin 2} {k : Fin 4} (present : s.hasDie (senseDie d) = true) (on : s.pifOn d k = true) (ssi : s.pifMode d k = 2)

include present on ssi

theorem execSsiRequest_skips {n : Nat} {high : Bool} (due : s.ssiDue d k = some n)
    (busy : high = false ∨ s.now < (s.pif d k).busyUntil ∨ (s.pif d k).wordAt.isSome) :
    execSsiRequest d k high s = .next ((s.modPif d k (fun p => { p with lastReq := some n })).rejectPos d k 5) := by
  have skipped : (!high || decide (s.now < (s.pif d k).busyUntil) || (s.pif d k).wordAt.isSome) = true := by
    simpa only [Bool.or_eq_true, Bool.not_eq_true', decide_eq_true_eq, or_assoc] using busy
  simp only [execSsiRequest, State.onPif_mode present on ssi, due, skipped, if_true]

theorem execSsiRequest_starts {n : Nat} (due : s.ssiDue d k = some n) (ready : (s.pif d k).busyUntil ≤ s.now) (idle : (s.pif d k).wordAt = none) :
    let last := s.now + s.ssiCycles d k * s.ssiClk d k
    execSsiRequest d k true s = .next ((s.modPif d k (fun p => { p with lastReq := some n })).modPif d k (fun q => { q with
      wordAt := some s.now
      monoAt := some (last + s.mono d k)
      busyUntil := last + s.mono d k })) := by
  simp only [execSsiRequest, State.onPif_mode present on ssi, due, decide_eq_false (Nat.not_lt.2 ready), idle, Option.isSome_none, Bool.not_true, Bool.or_false,
    Bool.false_eq_true, if_false]

theorem execSsiWord_complete {tr : Nat} {bits : BitVec 64} (word : (s.pif d k).wordAt = some tr) (ended : s.ssiEnd d k tr ≤ s.now) :
    let w := bits.toNat % 2 ^ (s.ssiLen d k + s.ssiCrcLen d k)
    execSsiWord d k bits s = .next (if s.ssiBad d k w = 0 then (s.ssiTold d k w tr).observe d k (s.ssiTheta d k w) tr
      else (s.ssiTold d k w tr).rejectPos d k (s.ssiBad d k w)) := by
  simp only [execSsiWord, State.onPif_mode present on ssi, word, if_neg (Nat.not_lt.2 ended)]
  rfl

theorem execMonoflopEnd_due {u : Nat} {high : Bool} (mono : (s.pif d k).monoAt = some u) (due : u ≤ s.now) :
    let s1 := s.modPif d k (fun p => { p with monoAt := none })
    execMonoflopEnd d k high s = .next (if high then s1 else s1.rejectPos d k 6) := by
  simp only [execMonoflopEnd, State.onPif_mode present on ssi, mono, if_neg (Nat.not_lt.2 due)]

end

/-! ## Counting inputs (R300, R301) -/

/-- One of A and B has held its level long enough for the filter. -/
def State.encHeard (s : State) (d : Fin 2) (k : Fin 4) (la lb : Held Bool) : Bool := s.encAccepts d k la.ticks || s.encAccepts d k lb.ticks

/-- The interface q with the levels that A and B have after the filter. -/
def State.withLevels (s : State) (d : Fin 2) (k : Fin 4) (la lb : Held Bool) (q : Pif) : Pif :=
  { q with a := s.filtered d k (s.pif d k).a la, b := s.filtered d k (s.pif d k).b lb }

section
variable {s : State} {d : Fin 2} {k : Fin 4} {la lb : Held Bool} (present : s.hasDie (senseDie d) = true) (on : s.pifOn d k = true)

include present on

theorem execEncoderEdge_unheard (counting : 3 ≤ s.pifMode d k) (short : s.encHeard d k la lb = false) : execEncoderEdge d k la lb s = .next s := by
  have skipped : (!s.encAccepts d k la.ticks && !s.encAccepts d k lb.ticks) = true := by
    rw [← Bool.not_or]
    exact congrArg (!·) short
  exact (State.onPif_counting present on counting).trans (congrArg _ (if_pos skipped))

variable (heard : s.encHeard d k la lb = true)

include heard

/-- What a heard edge does, by MODE. -/
theorem execEncoderEdge_heard (counting : 3 ≤ s.pifMode d k) :
    let a := s.filtered d k (s.pif d k).a la
    let b := s.filtered d k (s.pif d k).b lb
    let inv := bitAt (s.posCfg d k) 24
    let lev := s.withLevels d k la lb
    let mv := fun (q : Pif) (up : Bool) => q.count (s.cpr d k) (up != inv)
    let dq := (quadIx a b + 4 - quadIx (s.pif d k).a (s.pif d k).b) % 4
    execEncoderEdge d k la lb s = .next (if s.pifMode d k = 3 then
        if dq = 2 then (s.modPif d k lev).stateError d k
        else if dq = 1 then s.modPif d k (fun q => lev (mv q true))
        else if dq = 3 then s.modPif d k (fun q => lev (mv q false))
        else s
      else if s.pifMode d k = 4 then s.modPif d k (fun q => lev (if a && !q.a then mv q b else q))
      else s.modPif d k (fun q =>
        let r := if a && !q.a then mv q true else q
        lev (if b && !q.b then mv r false else r))) := by
  have taken : ¬ (!s.encAccepts d k la.ticks && !s.encAccepts d k lb.ticks) = true := by
    rw [← Bool.not_or, ← State.encHeard, heard]
    decide
  exact (State.onPif_counting present on counting).trans (congrArg _ (if_neg taken))

theorem execEncoderEdge_quadrature (m : s.pifMode d k = 3) :
    let inv := bitAt (s.posCfg d k) 24
    let lev := s.withLevels d k la lb
    let dq := (quadIx (s.filtered d k (s.pif d k).a la) (s.filtered d k (s.pif d k).b lb) + 4 - quadIx (s.pif d k).a (s.pif d k).b) % 4
    execEncoderEdge d k la lb s = .next (if dq = 2 then (s.modPif d k lev).stateError d k
      else if dq = 1 then s.modPif d k (fun q => lev (q.count (s.cpr d k) (!inv)))
      else if dq = 3 then s.modPif d k (fun q => lev (q.count (s.cpr d k) inv))
      else s) := by
  simp only [execEncoderEdge_heard present on heard m.ge, if_pos m, Bool.true_bne, Bool.false_bne]

theorem execEncoderEdge_stepDirection (m : s.pifMode d k = 4) :
    execEncoderEdge d k la lb s = .next (s.modPif d k (fun q => s.withLevels d k la lb (if s.filtered d k (s.pif d k).a la && !q.a then
      q.count (s.cpr d k) (s.filtered d k (s.pif d k).b lb != bitAt (s.posCfg d k) 24) else q))) := by
  rw [execEncoderEdge_heard present on heard (by omega), if_neg (by omega), if_pos m]

theorem execEncoderEdge_upDown (m : s.pifMode d k = 5) :
    let inv := bitAt (s.posCfg d k) 24
    execEncoderEdge d k la lb s = .next (s.modPif d k (fun q =>
      let r := if s.filtered d k (s.pif d k).a la && !q.a then q.count (s.cpr d k) (!inv) else q
      s.withLevels d k la lb (if s.filtered d k (s.pif d k).b lb && !q.b then r.count (s.cpr d k) inv else r))) := by
  have notQuadrature : s.pifMode d k ≠ 3 := by omega
  have notStep : s.pifMode d k ≠ 4 := by omega
  simp only [execEncoderEdge_heard present on heard (by omega), if_neg notQuadrature, if_neg notStep, Bool.true_bne, Bool.false_bne]

end

/-! ## The index (R302) -/

/-- How far the count stands from the index, the shorter way round (R302). -/
def Pif.deviation (p : Pif) (cpr : Nat) : Int := if 2 * p.c ≤ cpr then (p.c : Int) else (p.c : Int) - cpr

section
variable {s : State} {d : Fin 2} {k : Fin 4} {held : Nat} (present : s.hasDie (senseDie d) = true) (on : s.pifOn d k = true) (incremental : s.pifMode d k = 3)
  (stood : s.encAccepts d k held = true) (used : bitAt (s.reg (Reg.encCfg d.val k.val)) 27 = true) (homes : bitAt (s.reg (Reg.encCfg d.val k.val)) 26 = true)
  (qualified : zQualified (bitsAt (s.reg (Reg.encCfg d.val k.val)) 24 2) (s.pif d k).a (s.pif d k).b = true)

include present on incremental stood used homes qualified

theorem execIndexPulse_accepted : execIndexPulse d ⟨k, held⟩ s = .next (
    if !(s.pif d k).homed then (s.modPif d k (fun q => { q with c := 0, cycles := 0, homed := true })).publishPif d k
    else if 2 < ((s.pif d k).deviation (s.cpr d k)).natAbs then
      ((s.modPif d k (fun q => { q with c := 0, reason := 8 })).raise 0x3005 (senseSource d) 6 [w32 k.val, i32 ((s.pif d k).deviation (s.cpr d k))]).publishPif d k
    else s) := by
  simp only [execIndexPulse, State.onPif_counting present on incremental.ge, incremental, stood, used, homes, qualified, ne_eq, not_true_eq_false, decide_false,
    Bool.not_true, Bool.or_self, Bool.and_self, Bool.false_eq_true, if_false, if_true]
  rfl

theorem execIndexPulse_homes (fresh : (s.pif d k).homed = false) :
    execIndexPulse d ⟨k, held⟩ s = .next ((s.modPif d k (fun q => { q with c := 0, cycles := 0, homed := true })).publishPif d k) := by
  rw [execIndexPulse_accepted present on incremental stood used homes qualified, fresh]
  rfl

theorem execIndexPulse_corrects (homed : (s.pif d k).homed = true) (drifted : 2 < ((s.pif d k).deviation (s.cpr d k)).natAbs) :
    execIndexPulse d ⟨k, held⟩ s = .next (((s.modPif d k (fun q => { q with c := 0, reason := 8 })).raise 0x3005 (senseSource d) 6
      [w32 k.val, i32 ((s.pif d k).deviation (s.cpr d k))]).publishPif d k) := by
  rw [execIndexPulse_accepted present on incremental stood used homes qualified, homed, if_pos drifted]
  rfl

end

/-! ## Periodic events of an interface (R301, R304, R318) -/

section
variable {s : State} {d : Fin 2} {k : Fin 4} (present : s.hasDie (senseDie d) = true)

include present

theorem execCountDelivery_new (on : s.pifOn d k = true) (counting : 3 ≤ s.pifMode d k) (new : (s.pif d k).lastCount ≠ some (s.now / 400 * 400)) :
    execCountDelivery d k s = .next ((s.modPif d k (fun p => { p with lastCount := some (s.now / 400 * 400) })).observe d k
      ((s.pif d k).countTheta (s.cpr d k)) (s.now / 400 * 400)) :=
  (State.onPif_counting present on counting).trans (congrArg _ (if_neg new))

theorem execObserverTimeout_due (on : s.pifOn d k = true) (observes : 0 < (s.pif d k).obs.good) (late : (s.pif d k).accepted + 4 * s.tExp d k < s.now) :
    execObserverTimeout d k s = .next (((s.restartObserver d k).rejectPos d k 9).judgeValid d k) :=
  (State.onPif_any present on).trans (congrArg _ (if_pos ⟨observes, late⟩))

theorem execInterfaceSignals_new (new : (s.pif d k).lastSignals ≠ some (s.now / 4000 * 4000)) : execInterfaceSignals d k s =
    .next (((s.judgeValid d k).modPif d k (fun p => { p with lastSignals := some (s.now / 4000 * 4000) })).publishPif d k) :=
  if_neg (not_or.2 ⟨not_not_intro present, new⟩)

end

/-- Settles O36: each command of an interface takes the branch that its mode and its conditions name. -/
theorem positionInputs : Obligations.PositionInputs := by
  unfold Obligations.PositionInputs
  refine ⟨?resolver, ?ssi, ?encoder, ?index, ?periodic⟩
  case resolver =>
    intro s d k x present on mode p dly n t j s1 b v begun new
    exact ⟨execResolverSample_keepsB present on mode begun new, execResolverSample_tellsB present on mode begun new,
      execResolverSample_windows present on mode begun new⟩
  case ssi =>
    intro s d k present on mode
    refine ⟨fun n high due => ⟨execSsiRequest_skips present on mode due, ?_⟩, fun tr bits => execSsiWord_complete present on mode,
      fun u high => execMonoflopEnd_due present on mode⟩
    rintro rfl
    exact execSsiRequest_starts present on mode due
  case encoder =>
    intro s d k la lb present on p a b heard cpr inv lev dq
    exact ⟨execEncoderEdge_unheard present on, fun mode moved => execEncoderEdge_quadrature present on moved mode,
      fun mode moved => execEncoderEdge_stepDirection present on moved mode, fun mode moved => execEncoderEdge_upDown present on moved mode⟩
  case index =>
    intro s d k held p cfg present on mode stood used homes qualified
    exact ⟨execIndexPulse_homes present on mode stood used homes qualified, execIndexPulse_corrects present on mode stood used homes qualified⟩
  case periodic =>
    intro s d k present
    exact ⟨execCountDelivery_new present, execObserverTimeout_due present, execInterfaceSignals_new present⟩

end Sys2Proof.Machine
end

section
/-! PROOFS. The compare units and the encoder emulators of the SENSE dies (08_position_and_speed.md R311 to R317). -/

namespace Sys2Proof.Machine

/-- A compare unit or an emulator, enabled by its register and left so by the set-up checks, has its turn at an instant t it has not served. -/
theorem not_waiting {en disabled runs : Bool} {last : Option Nat} {t : Nat} (on : en = true) (enabled : disabled = false) (works : runs = true) (new : last ≠ some t) :
    ¬ (!en || disabled || !runs || last == some t) = true := by
  simp [on, enabled, works, new]

/-! ## Evaluation (R311 to R313) -/

/-- The unit after it has taken the position of instant t. -/
def State.cmpTaken (s : State) (d : Fin 2) (u : Fin 4) (t : Nat) : CompareUnit :=
  { (s.pos[d]).cmp[u] with
    lastEval := some t
    prev := some (s.cmpPos d (s.cmpSrc d u) t) }

/-- The unit after the entries that the move from position q crosses have fired, and how many did. -/
def State.cmpFired (s : State) (d : Fin 2) (u : Fin 4) (q : Int) (t : Nat) : CompareUnit × Nat :=
  s.fireEntries d u q (s.cmpPos d (s.cmpSrc d u) t) (bitsAt (s.cmpReg d u) 16 6 + 1) (s.cmpTaken d u t)

section
variable {s : State} {d : Fin 2} {u : Fin 4} (present : s.hasDie (senseDie d) = true)

include present

section
variable (on : bitAt (s.cmpReg d u) 31 = true) (enabled : (s.pos[d]).cmp[u].disabled = false) (runs : s.senseRuns = true)
  (new : (s.pos[d]).cmp[u].lastEval ≠ some (s.now / 100 * 100))

include on enabled runs new

theorem execCompareEvaluation_first (first : (s.pos[d]).cmp[u].prev = none) :
    execCompareEvaluation d u s = .next (s.modCmp d u (fun _ => s.cmpTaken d u (s.now / 100 * 100))) := by
  simp only [execCompareEvaluation, if_neg (not_not_intro present), if_neg (not_waiting on enabled runs new), first]
  rfl

theorem execCompareEvaluation_moved {q : Int} (earlier : (s.pos[d]).cmp[u].prev = some q) :
    let t := s.now / 100 * 100
    execCompareEvaluation d u s = if (s.cmpFired d u q t).2 = 0 then .next (s.modCmp d u (fun _ => s.cmpTaken d u t))
      else .next ((s.modCmp d u (fun _ => { (s.cmpFired d u q t).1 with outEnd := some (t + max 1 (bitsAt (s.cmpReg d u) 0 16)) })).publishPif d u) := by
  simp only [execCompareEvaluation, if_neg (not_not_intro present), if_neg (not_waiting on enabled runs new), earlier]
  rfl

end

theorem execCompOutPulseEnd_due {e : Nat} (pulse : (s.pos[d]).cmp[u].outEnd = some e) (due : e ≤ s.now) :
    execCompOutPulseEnd d u s = .next (s.modCmp d u (fun x => { x with outEnd := none })) := by
  simp only [execCompOutPulseEnd, if_neg (not_not_intro present), pulse, if_pos due]

/-! ## Writes of a unit's registers (R314) -/

/-- The state after CMP_CTRL has taken the word v and sent it on. -/
def State.cmpCtrlWritten (s : State) (d : Fin 2) (u : Fin 4) (v : Word) : State :=
  (s.setReg (Reg.cmpCtrl d.val u.val) (v &&& 0xFC3FFFFF)).setupSent (Reg.cmpCtrl d.val u.val) (v &&& 0xFC3FFFFF)

theorem execCmpCtrl_enables {v : Word} (sets : bitAt v 31 = true) (off : bitAt (s.cmpReg d u) 31 = false) :
    execCmpCtrl d u v s = .next ((s.cmpCtrlWritten d u v).modCmp d u (fun x => { x with ptr := 0, stopped := false, prev := none })) := by
  rw [execCmpCtrl, if_pos present, State.writeCmpCtrl, sets, off]
  rfl

theorem execCmpCtrl_writes {v : Word} (h : bitAt v 31 = false ∨ bitAt (s.cmpReg d u) 31 = true) :
    execCmpCtrl d u v s = .next (s.cmpCtrlWritten d u v) := by
  have stays : ¬ (bitAt v 31 && !bitAt (s.cmpReg d u) 31) = true := by
    rcases h with clears | on
    · simp [clears]
    · simp [on]
  exact (if_pos present).trans (congrArg _ (if_neg stays))

variable {e : Fin 64} {high : Bool} {v : Word}

theorem execCmpList_ignored (on : bitAt (s.cmpReg d u) 31 = true) : execCmpList d u e high v s = .next s :=
  (if_pos present).trans (congrArg _ (if_pos on))

theorem execCmpList_writes (off : bitAt (s.cmpReg d u) 31 = false) :
    let entry := if high then Reg.cmpListHi d.val u.val e.val else Reg.cmpList d.val u.val e.val
    execCmpList d u e high v s = .next ((s.setReg entry v).setupSent entry v) :=
  (if_pos present).trans (congrArg _ (if_neg (Bool.eq_false_iff.1 off)))

end

theorem reg_setReg_of_memWf {s : State} (canonical : s.memWf = true) (off : Nat) (v : Word) : (s.setReg off v).reg off = v := by
  obtain ⟨regs, -⟩ := memWf_iff.1 canonical
  exact reg_setReg_same s off v regs

theorem State.setupSent_eq (s : State) (off : Nat) (v : Word) :
    s.setupSent off v = if s.glb.checked ∧ setupFlit off then s.pseudoRun [(off, v)] else s := by
  simp only [State.setupSent, Bool.and_eq_true]

/-! ## Encoder emulation (R315 to R317) -/

/-- Updates the emulator of a SENSE die. -/
def State.modEmu (s : State) (d : Fin 2) (f : Emulator → Emulator) : State := s.modPos d (fun p => { p with emu := f p.emu })

/-- How far the target of the instant lies ahead of the counts sent (R315). -/
def State.emuGap (s : State) (d : Fin 2) : Int := s.emuTarget d (s.now / 100 * 100) - (s.pos[d]).emu.n

/-- The state after an emulator has followed its target by at most two counts (R315). -/
def State.emuFollowed (s : State) (d : Fin 2) : State := s.modEmu d (fun e => { e with
  lastUpdate := some (s.now / 100 * 100)
  n := (s.pos[d]).emu.n + max (-2) (min 2 (s.emuGap d))
  second := if (s.emuGap d).natAbs < 2 then none else some (s.now / 100 * 100 + 50, if 0 < s.emuGap d then 1 else -1) })

section
variable {s : State} {d : Fin 2} (present : s.hasDie (senseDie d) = true) (on : bitAt (s.reg (Reg.emuCfg d.val)) 31 = true)
  (enabled : (s.pos[d]).emu.disabled = false) (runs : s.senseRuns = true) (new : (s.pos[d]).emu.lastUpdate ≠ some (s.now / 100 * 100))

include present on enabled runs new

/-- What an update that is due does, by the state of the emulator and of the observer it follows. -/
theorem execEmulatorUpdate_due :
    let t := s.now / 100 * 100
    execEmulatorUpdate d s = if !(s.pos[d]).emu.started then .next (s.modEmu d (fun e => { e with started := true, n := s.emuTarget d t, lastUpdate := some t }))
      else if !(s.pif d (s.emuSrc d)).obs.settled then .next (s.modEmu d (fun e => { e with lastUpdate := some t }))
      else if 64 < (s.emuGap d).natAbs ∧ rateOk (s.pos[d]).emu.lastLag s.now (10 * msTicks) then
        .next (((s.emuFollowed d).modEmu d (fun e => { e with lastLag := some s.now })).raise 0x3006 (senseSource d) 4 [w32 d.val, i32 (s.emuGap d)])
      else .next (s.emuFollowed d) :=
  (if_neg (not_not_intro present)).trans (if_neg (not_waiting on enabled runs new))

theorem execEmulatorUpdate_first (first : (s.pos[d]).emu.started = false) : execEmulatorUpdate d s = .next (s.modEmu d (fun e => { e with
    started := true
    n := s.emuTarget d (s.now / 100 * 100)
    lastUpdate := some (s.now / 100 * 100) })) := by
  rw [execEmulatorUpdate_due present on enabled runs new, first]
  rfl

variable (started : (s.pos[d]).emu.started = true)

include started

theorem execEmulatorUpdate_unsettled (unsettled : (s.pif d (s.emuSrc d)).obs.settled = false) :
    execEmulatorUpdate d s = .next (s.modEmu d (fun e => { e with lastUpdate := some (s.now / 100 * 100) })) := by
  rw [execEmulatorUpdate_due present on enabled runs new, started, unsettled]
  rfl

theorem execEmulatorUpdate_follows (settled : (s.pif d (s.emuSrc d)).obs.settled = true) :
    execEmulatorUpdate d s = .next (if 64 < (s.emuGap d).natAbs ∧ rateOk (s.pos[d]).emu.lastLag s.now 4000000 = true then
      ((s.emuFollowed d).modEmu d (fun e => { e with lastLag := some s.now })).raise 0x3006 (4 + d.val) 4 [w32 d.val, i32 (s.emuGap d)]
      else s.emuFollowed d) := by
  rw [execEmulatorUpdate_due present on enabled runs new, started, settled]
  exact (apply_ite Host.Outcome.next _ _ _).symm

end

/-- Settles O37: each command takes the branch its conditions name; the words of the unit's registers read back by the canonical form. -/
theorem compareAndEmulator : Obligations.CompareAndEmulator := by
  unfold Obligations.CompareAndEmulator
  refine ⟨?evaluation, fun s d u e present => execCompOutPulseEnd_due present, ?writes, ?emulator⟩
  case evaluation =>
    intro s d u present x t pos y on enabled runs new
    refine ⟨execCompareEvaluation_first present on enabled runs new, fun q earlier => ?_⟩
    have moved := execCompareEvaluation_moved present on enabled runs new earlier
    exact ⟨fun unfired => moved.trans (if_pos unfired), fun fired => moved.trans (if_neg fired)⟩
  case writes =>
    intro s d u e high v present off kept s1
    exact ⟨execCmpCtrl_enables present, execCmpCtrl_writes present, execCmpList_ignored present, execCmpList_writes present,
      fun canonical => ⟨reg_setReg_of_memWf canonical _ _, reg_setReg_of_memWf canonical _ _⟩, s.setupSent_eq⟩
  case emulator =>
    intro s d present x t nt gap mv on enabled runs new
    exact ⟨execEmulatorUpdate_first present on enabled runs new, execEmulatorUpdate_unsettled present on enabled runs new,
      execEmulatorUpdate_follows present on enabled runs new⟩

end Sys2Proof.Machine
end

section
/-! PROOFS. The messages a satellite takes or discards, and HOLD sets (11_gate_arrays.md R378, R379, R384, R388, R389, R393, R395, R403, R405; 12_protection_and_discharge.md R423). -/

namespace Sys2Proof.Machine

/-! ## What a satellite takes, and what it discards (R378, R395) -/

section
variable {s : State} {t : Port} {type op q : Nat} {body p : List Byte} {v : Bool} {ok : List Byte → Bool} {k : State → List Byte → State} {kc : State → Nat → State}

theorem State.onDown_discarded (fails : judge type 0 true body v = .discard) : s.onDown t type body v ok k = s.satDiscard t := by
  simp only [State.onDown, fails]

theorem State.onDown_valid (taken : judge type 0 true body v = .take q p) (valid : ok p = true) :
    s.onDown t type body v ok k = k (s.satHeard t q) p := by
  simp only [State.onDown, taken, if_pos valid]

theorem State.onDown_invalid (taken : judge type 0 true body v = .take q p) (invalid : ok p = false) :
    s.onDown t type body v ok k = s.satDiscard t := by
  simp only [State.onDown, taken, invalid, Bool.false_eq_true, if_false]

theorem State.onCmd_discarded (fails : judge 4 0 true body v = .discard) : s.onCmd t op body v kc = s.satDiscard t :=
  State.onDown_discarded fails

theorem State.onCmd_taken (taken : judge 4 0 true body v = .take q p) (operation : fieldLe p 0 1 = op) :
    s.onCmd t op body v kc = kc (s.satHeard t q) (fieldLe p 1 4) :=
  (State.onDown_valid taken rfl).trans (if_pos operation)

end

theorem State.satDiscard_errors (s : State) (t : Port) : (s.satDiscard t).sats[t].errors = holdInc 0xFFFF s.sats[t].errors :=
  congrArg Satellite.errors (vUpd_same s.sats t _)

/-! ## EDGE (R388, R389, R392, R393, R395) -/

/-- The half that an EDGE payload arms at base b: a wire that holds the satellite leaves it no entries (R41). -/
def State.edgeHalf (s : State) (t : Port) (p : List Byte) (b : Nat) : Half where
  base := b
  len := fieldLe p 0 5 / 2 ^ 18 % 2 ^ 18
  tset := if (fieldLe p 0 5).testBit 37 then 1 else 0
  last := (fieldLe p 0 5).testBit 36
  entries := if s.gateWire t = .follow then edgeEntries (p.drop 5) (fieldLe p 0 5 / 2 ^ 38) else []

section
variable {s : State} {t : Port} {p : List Byte}

theorem State.takeEdge_lost (lost : s.sats[t].loss = true) : s.takeEdge t p = s := if_pos lost

theorem State.takeEdge_resync (linked : s.sats[t].loss = false) (resync : s.sats[t].resyncHalf (fieldLe p 0 5 % 2 ^ 18) = true) :
    s.takeEdge t p = s.modSat t (fun x => ({ x with
      hold := none
      afterLast := true } : Satellite).startHalf (s.edgeHalf t p (x.hold.getD 0))) :=
  (if_neg (Bool.eq_false_iff.1 linked)).trans (if_pos resync)

theorem State.takeEdge_arms (linked : s.sats[t].loss = false) (plain : s.sats[t].resyncHalf (fieldLe p 0 5 % 2 ^ 18) = false) :
    s.takeEdge t p = s.modSat t (fun x => { x with
      armed := x.armed ++ [s.edgeHalf t p (resolveAfter 18 (s.satNow t) (fieldLe p 0 5 % 2 ^ 18))] }) :=
  (if_neg (Bool.eq_false_iff.1 linked)).trans (if_neg (Bool.eq_false_iff.1 plain))

end

/-! ## The messages that pass -/

section
variable {s : State} {t : Port} {body p : List Byte} {v : Bool} {q : Nat}

theorem execEdge_valid (taken : judge 1 0 true body v = .take q p) (valid : s.edgeValid t p = true) :
    execEdge t body v s = .next ((s.satHeard t q).takeEdge t p) :=
  congrArg Host.Outcome.next (State.onDown_valid taken valid)

theorem execEdge_invalid (taken : judge 1 0 true body v = .take q p) (invalid : s.edgeValid t p = false) :
    execEdge t body v s = .next (s.satDiscard t) :=
  congrArg Host.Outcome.next (State.onDown_invalid taken invalid)

theorem execMark_takes (taken : judge 2 0 true body v = .take q p) : execMark t body v s = .next ((s.satHeard t q).takeMark t p) :=
  congrArg Host.Outcome.next (State.onDown_valid taken rfl)

/-- The trim set that a TRIM payload addresses (R389). -/
def trimSet (p : List Byte) : Fin 2 := if (fieldLe p 0 1).testBit 0 then 1 else 0

theorem execTrim_takes (taken : judge 3 0 true body v = .take q p) :
    let s1 := s.satHeard t q
    execTrim t body v s = .next (if trimSet p = s1.sats[t].tset then s1.satDiscard t
      else s1.modSat t (fun x => { x with
        trims := vUpd x.trims (trimSet p) (fun w => w.set (fieldLe p 0 1 / 16 % 16) (w32 (fieldLe p 1 4)) (Nat.mod_lt _ (by decide))) })) :=
  congrArg Host.Outcome.next (State.onDown_valid taken rfl)

/-- The satellite with the dies of a mask given back (R403, R409). -/
def Satellite.cleared (x : Satellite) (m : BitVec 16) : Satellite :=
  { x with
    retired := x.retired &&& ~~~m
    latched := x.latched &&& ~~~m
    causes := Vector.ofFn (fun d => if m.getLsbD d.val then 0 else x.causes[d]) }

section
variable (taken : judge 4 0 true body v = .take q p) (operation : fieldLe p 0 1 = 3)

include taken operation

theorem execClear_takes : let s1 := s.satHeard t q
    execClear t body v s = .next (s1.modSat t (fun x => if s1.shorted t then (x.cleared (BitVec.ofNat 16 (fieldLe p 1 4))).shortOn
      else x.cleared (BitVec.ofNat 16 (fieldLe p 1 4)))) :=
  congrArg Host.Outcome.next (State.onCmd_taken taken operation)

theorem execClear_plain (plain : (s.satHeard t q).shorted t = false) :
    execClear t body v s = .next ((s.satHeard t q).modSat t (fun x => x.cleared (BitVec.ofNat 16 (fieldLe p 1 4)))) := by
  rw [execClear_takes taken operation, plain]
  rfl

theorem execClear_shorted (short : (s.satHeard t q).shorted t = true) :
    execClear t body v s = .next ((s.satHeard t q).modSat t (fun x => (x.cleared (BitVec.ofNat 16 (fieldLe p 1 4))).shortOn)) := by
  rw [execClear_takes taken operation, short]
  rfl

end

end

/-! ## HOLD sets (R393) -/

section
variable {s : State} {t : Port} {data : BitVec 32}

theorem execHoldSet_holds (sound : setOk data = true) :
    let tb := resolveNear 18 (s.satNow t) (data.toNat % 2 ^ 18)
    execHoldSet t data s = .next (s.modSat t (fun x => { x with
      hold := some tb
      armed := []
      edges := x.edges.filter (fun e => decide (e.at32 < 32 * tb)) })) :=
  if_pos sound

theorem execHoldSet_damaged (damaged : setOk data = false) : execHoldSet t data s = .next (s.satDiscard t) :=
  if_neg (Bool.eq_false_iff.1 damaged)

end

/-! ## The obligation -/

/-- Settles O38: a message that passes acts on the state in which it has been heard, by the branch its payload names; any other is discarded. -/
theorem satelliteMessages : Obligations.SatelliteMessages := by
  unfold Obligations.SatelliteMessages
  refine ⟨fun s t body p v q => ⟨?edge, execMark_takes, ?trim, ?command⟩, ?discarded, fun s t data => ⟨execHoldSet_holds, execHoldSet_damaged⟩⟩
  case edge =>
    intro taken x h half
    refine ⟨execEdge_invalid taken, fun valid lost => ?_, fun valid linked resync => ?_, fun valid linked plain => ?_⟩
    · exact (execEdge_valid taken valid).trans (congrArg _ (State.takeEdge_lost lost))
    · exact (execEdge_valid taken valid).trans (congrArg _ (State.takeEdge_resync linked resync))
    · exact (execEdge_valid taken valid).trans (congrArg _ (State.takeEdge_arms linked plain))
  case trim =>
    intro taken b set
    exact ⟨fun inForce => (execTrim_takes taken).trans (congrArg _ (if_pos inForce)), fun other => (execTrim_takes taken).trans (congrArg _ (if_neg other))⟩
  case command =>
    intro taken a m
    refine ⟨?config, ?retire, ?clear, ?identity, ?resume⟩
    case clear => exact fun operation => ⟨execClear_plain taken operation, execClear_shorted taken operation⟩
    all_goals exact fun operation => congrArg Host.Outcome.next (State.onCmd_taken taken operation)
  case discarded =>
    intro s t body v
    refine ⟨?_, ?_, ?_, fun fails => ⟨?_, ?_, ?_, ?_, ?_⟩, s.satDiscard_errors t⟩
    iterate 3 exact fun fails => congrArg Host.Outcome.next (State.onDown_discarded fails)
    all_goals exact congrArg Host.Outcome.next (State.onCmd_discarded fails)

end Sys2Proof.Machine
end

section
/-! PROOFS. What a satellite does at its own instants: marks, edges, halves, HOLD, silence and die faults (11_gate_arrays.md R382, R385, R390, R392, R393, R395, R396, R401; 12_protection_and_discharge.md R423). -/

namespace Sys2Proof.Machine

/-! ## A missed half (R392, R395, R423) -/

section
variable (x : Satellite) (base : Nat) (short : Bool)

theorem Satellite.beginHalf_eq : ∃ f n off, x.beginHalf base = { x with frameBase := f, halfNo := n, turnedOff := off } := by
  unfold Satellite.beginHalf
  split
  · exact ⟨base, 0, 0, rfl⟩
  · exact ⟨x.frameBase, x.halfNo + 1, x.turnedOff, rfl⟩

theorem Satellite.loseDies_eq : ∃ off steps, x.loseDies short = { x with
    edges := []
    on := if short then x.on else 0
    turnedOff := off
    steps := steps } := by
  cases short with
  | true => exact ⟨x.turnedOff, x.steps, rfl⟩
  | false =>
    simp only [Satellite.loseDies, Satellite.allOff, Satellite.switch, Bool.false_eq_true, if_false, BitVec.and_not_self]
    exact ⟨_, _, rfl⟩

/-- The satellite with the half from `base` on missed, before it is known whether that is its third in a row. -/
def Satellite.halfMissed : Satellite :=
  let z := (x.beginHalf base).loseDies short
  { z with
    current := none
    halfEnd := some (base + x.lastLen)
    missed := x.missed + 1
    afterLast := decide (z.perFrame ≤ z.halfNo + 1) }

theorem Satellite.halfMissed_eq : ∃ f n off steps last, x.halfMissed base short = { x with
    frameBase := f
    halfNo := n
    edges := []
    on := if short then x.on else 0
    turnedOff := off
    steps := steps
    current := none
    halfEnd := some (base + x.lastLen)
    missed := x.missed + 1
    afterLast := last } := by
  obtain ⟨f, n, _, begun⟩ := x.beginHalf_eq base
  obtain ⟨off, steps, lost⟩ := (x.beginHalf base).loseDies_eq short
  rw [Satellite.halfMissed, lost, begun]
  exact ⟨f, n, off, steps, _, rfl⟩

variable {x}

theorem Satellite.miss_third (third : 2 ≤ x.missed) : x.miss short base = (x.halfMissed base short).enterLoss short :=
  if_pos (Nat.succ_le_succ third)

theorem Satellite.miss_earlier (earlier : x.missed < 2) : x.miss short base = x.halfMissed base short :=
  if_neg (Nat.not_le.2 (Nat.succ_lt_succ earlier))

end

/-- A missed half leaves no edges and no half in force, and every die off unless the ASC input is asserted. -/
theorem Satellite.miss_dies (x : Satellite) (base : Nat) (short : Bool) :
    (x.miss short base).edges = [] ∧ (x.miss short base).current = none ∧ (x.miss short base).on = if short then x.on else 0 := by
  obtain ⟨f, n, off, steps, last, half⟩ := x.halfMissed_eq base short
  rcases Nat.lt_or_ge x.missed 2 with earlier | third
  · rw [Satellite.miss_earlier base short earlier, half]
    exact ⟨rfl, rfl, rfl⟩
  · obtain ⟨off', steps', lost⟩ := (x.halfMissed base short).loseDies_eq short
    rw [Satellite.miss_third base short third, Satellite.enterLoss, lost, half]
    exact ⟨rfl, rfl, by cases short <;> rfl⟩

/-- The third missed half in a row is link loss. -/
theorem Satellite.miss_third_loss {x : Satellite} (base : Nat) (short : Bool) (third : 2 ≤ x.missed) :
    (x.miss short base).loss = true ∧ (x.miss short base).armed = [] ∧ (x.miss short base).halfEnd = none := by
  rw [Satellite.miss_third base short third]
  exact ⟨rfl, rfl, rfl⟩

/-- One before the third is counted and runs as long as the half before it. -/
theorem Satellite.miss_earlier_runs {x : Satellite} (base : Nat) (short : Bool) (earlier : x.missed < 2) :
    (x.miss short base).loss = x.loss ∧ (x.miss short base).armed = x.armed ∧ (x.miss short base).halfEnd = some (base + x.lastLen)
      ∧ (x.miss short base).missed = x.missed + 1 := by
  obtain ⟨f, n, off, steps, last, half⟩ := x.halfMissed_eq base short
  rw [Satellite.miss_earlier base short earlier, half]
  exact ⟨rfl, rfl, rfl, rfl⟩

theorem Satellite.loseDies_dies (x : Satellite) (short : Bool) :
    (x.loseDies short).edges = [] ∧ (x.loseDies true).on = x.on ∧ (x.loseDies false).on = 0 := by
  obtain ⟨off, steps, lost⟩ := x.loseDies_eq short
  obtain ⟨off', steps', allOff⟩ := x.loseDies_eq false
  rw [lost, allOff]
  exact ⟨rfl, rfl, rfl⟩

/-! ## Time marks (R382) -/

theorem execSatelliteTimeMark_due {s : State} {t : Port} (reached : 2048 ≤ s.satNow t) (new : ∀ l, s.sats[t].lastMark = some l → l < (s.satNow t + 2048) / 4096) :
    execSatelliteTimeMark t s = .next (((s.modSat t (fun x => { x with lastMark := some ((s.satNow t + 2048) / 4096) })).emit (.timeMark t.val false s.now)).sendUp t 9
      (leBytes 4 s.sats[t].t2 ++ leBytes 4 (s.sat32 t) ++ leBytes 1 (s.sats[t].time + if s.sats[t].loss then 128 else 0))) := by
  have unsent : s.sats[t].lastMark.elim true (fun l => decide (l < (s.satNow t + 2048) / 4096)) = true := by
    cases last : s.sats[t].lastMark with
    | none => rfl
    | some l => exact decide_eq_true (new l last)
  exact if_pos ⟨reached, unsent⟩

/-! ## Edges (R385, R390, R423) -/

/-- The satellite without an edge that has been taken. -/
def Satellite.withoutEdge (x : Satellite) (e : DieEdge) : Satellite := { x with edges := x.edges.erase e }

/-- A satellite whose edge of die d is due switches the die (R385, R390, R423). -/
def State.edgeSwitches (s : State) (t : Port) (d : Fin 16) : Prop :=
  s.gateWire t = .follow ∧ s.sats[t].loss = false ∧ (s.sats[t].latched ||| s.sats[t].retired).getLsbD d.val = false

section
variable {s : State} {t : Port} {d : Fin 16} {e : DieEdge}

theorem edge_taken_iff : (s.gateWire t == .follow && !s.sats[t].loss && !(s.sats[t].latched ||| s.sats[t].retired).getLsbD d.val) = true ↔ s.edgeSwitches t d := by
  simp only [Bool.and_eq_true, beq_iff_eq, Bool.not_eq_true', and_assoc, State.edgeSwitches]

variable (first : firstEdge s.sats[t].edges d.val = some e) (due : e.at32 ≤ s.sat32 t)

include first due

theorem execDieSwitch_due : execDieSwitch t d s = .next (s.modSat t (fun _ =>
    if s.gateWire t == .follow && !s.sats[t].loss && !(s.sats[t].latched ||| s.sats[t].retired).getLsbD d.val then
      (s.sats[t].withoutEdge e).switch (BitVec.ofNat 16 (2 ^ d.val)) e.on (fun _ => e.step)
    else s.sats[t].withoutEdge e)) := by
  simp only [execDieSwitch, first, if_pos due]
  rfl

theorem execDieSwitch_switches (takes : s.edgeSwitches t d) :
    execDieSwitch t d s = .next (s.modSat t (fun _ => (s.sats[t].withoutEdge e).switch (BitVec.ofNat 16 (2 ^ d.val)) e.on (fun _ => e.step))) := by
  rw [execDieSwitch_due first due]
  simp only [if_pos (edge_taken_iff.2 takes)]

theorem execDieSwitch_drops (held : ¬ s.edgeSwitches t d) : execDieSwitch t d s = .next (s.modSat t (fun _ => s.sats[t].withoutEdge e)) := by
  rw [execDieSwitch_due first due]
  simp only [if_neg (mt edge_taken_iff.1 held)]

end

/-! ## Halves (R392, R395, R396) -/

/-- The satellite at the end of a half that was its frame's last or not. -/
def Satellite.halfOver (x : Satellite) (last : Bool) : Satellite :=
  { x with
    current := none
    afterLast := last
    perFrame := if last then x.halfNo + 1 else x.perFrame }

/-- What follows a half that has ended at e, unless a HOLD stands: the armed half that begins there, else a missed one. -/
def Satellite.nextHalf (y : Satellite) (short : Bool) (e : Nat) : Satellite :=
  if y.hold.isSome then y else match y.armed with
    | n :: r => if n.base = e then ({ y with armed := r } : Satellite).startHalf n else y.miss short e
    | [] => y.miss short e

section
variable {s : State} {t : Port} {meas : List (BitVec 16 × BitVec 16 × BitVec 16 × Bool)} (linked : s.sats[t].loss = false)

include linked

theorem execHalfEnd_ends {h : Half} (inForce : s.sats[t].current = some h) (ended : h.base + h.len ≤ s.satNow t) :
    execHalfEnd t meas s = .next ((if h.last then s.sendTelem t meas else s).modSat t (fun x => (x.halfOver h.last).nextHalf (s.shorted t) (h.base + h.len))) := by
  simp only [execHalfEnd, linked, Bool.false_eq_true, if_false, inForce, if_neg (Nat.not_lt.2 ended)]
  refine congrArg Host.Outcome.next (congrArg _ (funext fun x => ?_))
  show _ = Satellite.nextHalf _ _ _
  cases hold : x.hold with
  | some tb => simp only [Satellite.nextHalf, Satellite.halfOver, hold, Option.isSome_some, if_true]
  | none =>
    cases armed : x.armed with
    | nil => simp only [Satellite.nextHalf, Satellite.halfOver, hold, armed, Option.isSome_none, Bool.false_eq_true, if_false]
    | cons n r => simp only [Satellite.nextHalf, Satellite.halfOver, hold, armed, Option.isSome_none, Bool.false_eq_true, if_false]

variable (idle : s.sats[t].current = none) (free : s.sats[t].hold = none)

include idle free

theorem execHalfEnd_starts {n : Half} {r : List Half} (armed : s.sats[t].armed = n :: r) (begins : n.base ≤ s.satNow t) :
    execHalfEnd t meas s = .next (s.modSat t (fun x => ({ x with armed := r } : Satellite).startHalf n)) := by
  simp only [execHalfEnd, linked, Bool.false_eq_true, if_false, idle, armed, if_pos (And.intro begins free)]

theorem execHalfEnd_misses {e : Nat} (unarmed : s.sats[t].armed = []) (missed : s.sats[t].halfEnd = some e) (ended : e ≤ s.satNow t)
    (ran : 0 < s.sats[t].lastLen) : execHalfEnd t meas s = .next (s.modSat t (fun x => x.miss (s.shorted t) e)) := by
  simp only [execHalfEnd, linked, Bool.false_eq_true, if_false, idle, unarmed, missed, free, if_pos (And.intro ended ran)]

end

/-! ## HOLD and silence (R393, R395) -/

theorem execHoldDeadline_misses {s : State} {t : Port} {tb : Nat} (held : s.sats[t].hold = some tb) (unanswered : tb + 400 ≤ s.satNow t) :
    execHoldDeadline t s = .next (s.modSat t (fun x => ({ x with
      hold := none
      afterLast := true } : Satellite).miss (s.shorted t) tb)) := by
  simp only [execHoldDeadline, held, if_pos unanswered]

theorem execSatelliteLinkLoss_silent {s : State} {t : Port} (linked : s.sats[t].loss = false) (silent : s.sats[t].lastDown + 16000 ≤ s.now) :
    execSatelliteLinkLoss t s = .next (s.modSat t (fun x => x.enterLoss (s.shorted t))) :=
  if_pos ⟨Bool.eq_false_iff.1 linked, silent⟩

/-! ## Die faults (R401) -/

/-- The dies that OVERTEMPERATURE_CHECK finds too hot: fitted, not retired, not yet latched for it, above the limit. -/
def State.hotDies (s : State) (t : Port) (temps : List (BitVec 16)) : BitVec 16 :=
  dieMask ((idxs 16).filter (fun d => decide (d.val < s.sats[t].dies) && !s.sats[t].retired.getLsbD d.val && !(s.sats[t].causes[d]).testBit 2
    && decide ((s.sats[t].otLimit : Int) * 100 < (temps.getD d.val 0).toInt)))

section
variable {s : State} {t : Port} {temps : List (BitVec 16)}

theorem execOvertemperatureCheck_cool (cool : s.hotDies t temps = 0) : execOvertemperatureCheck t temps s = .next s :=
  congrArg Host.Outcome.next (if_pos cool)

theorem execOvertemperatureCheck_hot (hot : s.hotDies t temps ≠ 0) :
    execOvertemperatureCheck t temps s = .next (s.latchDie t (s.hotDies t temps) 4) :=
  congrArg Host.Outcome.next (if_neg hot)

end

theorem execFaultSetRepeat_due {s : State} {t : Port} {a m c : Nat} {r : List (Nat × Nat × Nat)} (waits : s.sats[t].repeat_ = (a, m, c) :: r) (due : a ≤ s.now) :
    execFaultSetRepeat t s = .next ((s.modSat t (fun x => { x with repeat_ := r })).emit (.tolpelSet t.val false (setData (m + 65536 * c)))) := by
  simp only [execFaultSetRepeat, waits, if_pos due]

/-! ## The obligation -/

/-- Settles O39: each command takes the branch its conditions name; what a missed half leaves of the dies is the same for its first, second and third in a row. -/
theorem satelliteEvents : Obligations.SatelliteEvents := by
  unfold Obligations.SatelliteEvents
  refine ⟨fun s t f => rfl, fun s t => execSatelliteTimeMark_due, ?edges, fun s t meas h linked inForce ended => execHalfEnd_ends linked inForce ended, ?idle,
    fun s t tb => execHoldDeadline_misses, fun s t => execSatelliteLinkLoss_silent, ?missed, fun s t d b => rfl,
    fun s t temps => ⟨execOvertemperatureCheck_cool, execOvertemperatureCheck_hot⟩, fun s t a m c r => execFaultSetRepeat_due⟩
  case edges =>
    intro s t d e first due x
    refine ⟨execDieSwitch_switches first due, fun held => execDieSwitch_drops first due fun ⟨follows, linked, free⟩ => ?_⟩
    rcases held with wire | lost | off
    · exact wire follows
    · exact Bool.eq_false_iff.1 linked lost
    · exact Bool.eq_false_iff.1 free off
  case idle =>
    intro s t meas linked idle free
    exact ⟨fun n r => execHalfEnd_starts linked idle free, fun e => execHalfEnd_misses linked idle free⟩
  case missed =>
    intro x b u
    obtain ⟨edges, current, on⟩ := x.miss_dies u b
    refine ⟨⟨edges, current, ?off, ?on⟩, Satellite.miss_third_loss u b, Satellite.miss_earlier_runs u b, x.loseDies_dies b⟩
    case off =>
      rintro rfl
      exact on
    case on =>
      rintro rfl
      exact on

end Sys2Proof.Machine
end

section
/-! PROOFS. What LINK does with its Tolpel ports: lock, identity, time marks, messages, silence, fault sets and the return of retired dies (11_gate_arrays.md R379 to R384, R394, R396, R402, R403, R409; 22_setup_registers.md R693). -/

namespace Sys2Proof.Machine

/-! ## What LINK takes, and what it discards (R378) -/

section
variable {s : State} {t : Port} {type q : Nat} {body p : List Byte} {v : Bool} {k : State → List Byte → State} (up : s.ports[t].state ≠ .down)

include up

theorem State.onUp_discarded (fails : judge type (s.diesOf (portChannel t)) false body v = .discard) : s.onUp t type body v k = s.portDiscard t := by
  simp only [State.onUp, if_neg up, fails]

theorem State.onUp_taken (taken : judge type (s.diesOf (portChannel t)) false body v = .take q p) :
    s.onUp t type body v k = k (s.portHeard t q) p := by
  simp only [State.onUp, if_neg up, taken]

end

theorem State.portDiscard_errors (s : State) (t : Port) : (s.portDiscard t).ports[t].errors = holdInc 0xFFFF s.ports[t].errors := by
  simp only [State.portDiscard]
  split
  · exact (congrArg TpPort.errors (vUpd_same _ t _)).trans (congrArg TpPort.errors (vUpd_same s.ports t _))
  · exact congrArg TpPort.errors (vUpd_same s.ports t _)

/-! ## Lock, idle pairs and requests for the identity (R379, R380, R601) -/

section
variable {s : State} {t : Port}

theorem State.portDown_state (s : State) (t : Port) : (s.portDown t).ports[t].state = .down := congrArg TpPort.state (vUpd_same s.ports t _)

theorem execCharacterLockLoss_ready (ready : s.ports[t].state = .ready) :
    execCharacterLockLoss t s = .next ((s.portDown t).gateCause (portChannel t)) :=
  congrArg Host.Outcome.next (if_pos ready)

theorem execCharacterLockLoss_other (other : s.ports[t].state ≠ .ready) : execCharacterLockLoss t s = .next (s.portDown t) :=
  congrArg Host.Outcome.next (if_neg other)

theorem execIdleLock_identifies (down : s.ports[t].state = .down) (enabled : s.gaOn (portChannel t) = true) (rung : s.pwr.rung ≤ 1) :
    execIdleLock t s = .next ((s.modPort t (fun p => { p with
      state := .ident
      lastIdentReq := some s.now })).sendCmd t 4 0) :=
  if_pos ⟨down, enabled, rung⟩

theorem execIdentReqPeriod_due (asks : s.ports[t].state = .ident) (due : rateOk s.ports[t].lastIdentReq s.now 40000 = true) :
    execIdentReqPeriod t s = .next ((s.modPort t (fun p => { p with lastIdentReq := some s.now })).sendCmd t 4 0) :=
  if_pos ⟨asks, due⟩

end

/-! ## The identity (R379) -/

/-- LINK notes the identity that an IDENT payload gives. -/
def State.notesIdent (s : State) (t : Port) (p : List Byte) : State :=
  s.modPort t (fun x => { x with
    satId := BitVec.ofNat 64 (fieldLe p 0 8)
    fitted := fieldLe p 12 1
    identified := true })

/-- CONFIG goes out on a port: the dies of its channel and their temperature limit. -/
def State.sendConfig (s : State) (t : Port) : State :=
  s.sendCmd t 1 (s.diesOf (portChannel t) + 256 * s.fld (Reg.gaTemp (portChannel t).val) 16 8)

section
variable {s : State} {t : Port} {p : List Byte}

theorem State.takeIdent_later (later : s.ports[t].state ≠ .ident) : s.takeIdent t p = s.notesIdent t p := if_pos later

variable (asks : s.ports[t].state = .ident)

include asks

theorem State.takeIdent_few (few : fieldLe p 12 1 < s.diesOf (portChannel t)) :
    s.takeIdent t p = (s.notesIdent t p).raise 0x501A (portChannel t).val 10 [2, w32 t.val] :=
  (if_neg (not_not_intro asks)).trans (if_pos few)

variable (enough : s.diesOf (portChannel t) ≤ fieldLe p 12 1)

include enough

theorem State.takeIdent_enough : s.takeIdent t p =
    if s.store.ident.satIds[t] = BitVec.ofNat 64 (fieldLe p 0 8) ∧ BitVec.ofNat 64 (fieldLe p 0 8) ≠ 0 then ((s.notesIdent t p).sendConfig t).enterTime t
    else (((s.notesIdent t p).sendConfig t).modPort t (fun x => { x with state := .foreign })).raise 0x5004 t.val 10
      (timeWords (BitVec.ofNat 64 (fieldLe p 0 8)).toNat) :=
  (if_neg (not_not_intro asks)).trans (if_neg (Nat.not_lt.2 enough))

theorem State.takeIdent_known (known : s.store.ident.satIds[t] = BitVec.ofNat 64 (fieldLe p 0 8)) (bound : BitVec.ofNat 64 (fieldLe p 0 8) ≠ 0) :
    s.takeIdent t p = ((s.notesIdent t p).sendConfig t).enterTime t :=
  (State.takeIdent_enough asks enough).trans (if_pos ⟨known, bound⟩)

theorem State.takeIdent_foreign (foreign : s.store.ident.satIds[t] ≠ BitVec.ofNat 64 (fieldLe p 0 8) ∨ BitVec.ofNat 64 (fieldLe p 0 8) = 0) :
    s.takeIdent t p = (((s.notesIdent t p).sendConfig t).modPort t (fun x => { x with state := .foreign })).raise 0x5004 t.val 10
      (timeWords (BitVec.ofNat 64 (fieldLe p 0 8)).toNat) :=
  (State.takeIdent_enough asks enough).trans (if_neg fun ⟨known, bound⟩ => foreign.elim (absurd known) bound)

end

@[simp] theorem State.portHeard_state (s : State) (t : Port) (q : Nat) : ((s.portHeard t q).ports[t]).state = s.ports[t].state :=
  vUpd_field TpPort.state rfl t

/-! ## The messages that pass -/

section
variable {s : State} {t : Port} {q : Nat} {body p : List Byte} {v : Bool} (up : s.ports[t].state ≠ .down)

include up

theorem execIdent_takes (taken : judge 10 (s.diesOf (portChannel t)) false body v = .take q p) :
    execIdent t body v s = .next ((s.portHeard t q).takeIdent t p) :=
  congrArg Host.Outcome.next (State.onUp_taken up taken)

theorem execEcho_takes (taken : judge 9 (s.diesOf (portChannel t)) false body v = .take q p) :
    execEcho t body v s = .next ((s.portHeard t q).takeEcho t p) :=
  congrArg Host.Outcome.next (State.onUp_taken up taken)

theorem execTelem_takes (taken : judge 8 (s.diesOf (portChannel t)) false body v = .take q p) :
    execTelem t body v s = .next ((s.portHeard t q).takeTelem t p) :=
  congrArg Host.Outcome.next (State.onUp_taken up taken)

end

/-! ## Time marks (R382 to R384) -/

/-- The correction that an offset asks for, in 1/32 tick: none before an ECHO has given one. -/
def offsetCorr : Option Int → Int
  | some o => -(roundAway o 2)
  | none => 0

theorem offsetCorr_eq_elim (offset : Option Int) : offsetCorr offset = offset.elim 0 (fun o => -(roundAway o 2)) := by
  cases offset <;> rfl

/-- The correction that a port's last ECHO asks for. -/
def State.wantedCorr (s : State) (t : Port) : Int := s.ports[t].offset2.elim 0 (fun o => -(roundAway o 2))

/-- The mark of the present multiple of 4,096 ticks goes out, with its MARK. -/
def State.sendMark (s : State) (t : Port) (corr : Int) (step : Bool) : State :=
  let m := s.now / 4096 * 4096
  ((s.modPort t (fun p => { p with
    marks := (m :: p.marks).take 4
    offset2 := none
    goodMarks := if step && corr != 0 then 0 else p.goodMarks })).emit (.timeMark t.val true m)).sendDown t 2
      (leBytes 8 m ++ leBytes 2 (BitVec.ofInt 16 corr).toNat ++ leBytes 1 (b2n step))

/-- The correction a MARK carries in a port state, and whether it is a step (R384). -/
def markCorr (state : PortState) (want : Int) : Int × Bool :=
  match state with
  | .ready => (max (-1) (min 1 want), false)
  | .time => (max (-32768) (min 32767 want), true)
  | _ => (0, true)

section
variable {s : State} {t : Port} (enabled : s.gaOn (portChannel t) = true) (new : s.ports[t].marks.head? ≠ some (s.now / 4096 * 4096))

include enabled new

theorem execTimeMarkSend_due {state : PortState} (stands : s.ports[t].state = state) (up : state ≠ .down) :
    execTimeMarkSend t s = .next (s.sendMark t (markCorr state (s.wantedCorr t)).1 (markCorr state (s.wantedCorr t)).2) := by
  have passes : ¬ (state = .down ∨ ¬ s.gaOn (portChannel t) = true ∨ s.ports[t].marks.head? = some (s.now / 4096 * 4096)) :=
    not_or.2 ⟨up, not_or.2 ⟨not_not_intro enabled, new⟩⟩
  rw [State.wantedCorr, ← offsetCorr_eq_elim]
  simp only [execTimeMarkSend, stands, if_neg passes]
  cases state <;> rfl

theorem execTimeMarkSend_ready (ready : s.ports[t].state = .ready) :
    execTimeMarkSend t s = .next (s.sendMark t (max (-1) (min 1 (s.wantedCorr t))) false) :=
  execTimeMarkSend_due (state := .ready) enabled new ready (by decide)

theorem execTimeMarkSend_time (time : s.ports[t].state = .time) :
    execTimeMarkSend t s = .next (s.sendMark t (max (-32768) (min 32767 (s.wantedCorr t))) true) :=
  execTimeMarkSend_due (state := .time) enabled new time (by decide)

theorem execTimeMarkSend_uncorrected (early : s.ports[t].state = .ident ∨ s.ports[t].state = .foreign) :
    execTimeMarkSend t s = .next (s.sendMark t 0 true) := by
  rcases early with ident | foreign
  · exact execTimeMarkSend_due (state := .ident) enabled new ident (by decide)
  · exact execTimeMarkSend_due (state := .foreign) enabled new foreign (by decide)

end

theorem execUpstreamTimeMark_noted {s : State} {t : Port} (f : Fin 32) (up : s.ports[t].state ≠ .down) :
    execUpstreamTimeMark t f s = .next (s.modPort t (fun p => { p with t4 := some (32 * s.now + f.val) })) :=
  if_neg up

/-! ## Silence (R394) -/

theorem execUpstreamSilence_loses {s : State} {t : Port} (timed : s.ports[t].state = .time ∨ s.ports[t].state = .ready)
    (silent : s.ports[t].lastUp + 16000 ≤ s.now) : execUpstreamSilence t s = .next (s.linkLoss t 1) :=
  if_pos ⟨timed, silent⟩

/-! ## Fault sets and decisions (R402, R403) -/

section
variable {s : State} {t : Port} {data : BitVec 32} (up : s.ports[t].state ≠ .down)

include up

theorem execFaultSet_takes (sound : setOk data = true) :
    execFaultSet t data s = .next (s.takeFault t (data.extractLsb' 0 16) (data.toNat / 65536 % 8)) :=
  (if_neg up).trans (if_pos sound)

theorem execFaultSet_damaged (damaged : setOk data = false) : execFaultSet t data s = .next (s.portDiscard t) :=
  (if_neg up).trans (if_neg (Bool.eq_false_iff.1 damaged))

end

theorem execFaultDecision_due {s : State} {t : Port} {r : DieFaultRec} {rs : List DieFaultRec} (waits : s.gates[t].open_ = r :: rs) (due : r.tf + 4000 ≤ s.now) :
    execFaultDecision t s = .next ((s.modGate t (fun g => { g with open_ := rs })).decideFault t r) := by
  simp only [execFaultDecision, waits]
  exact if_pos due

/-! ## Retired dies given back (R409) -/

/-- The dies of a mask given back: in the position's masks, at the satellite, and in the retirement record. -/
def State.unretired (s : State) (t : Port) (m : BitVec 16) : State :=
  let s1 := s.modGate t (fun g => { g with
    retired := g.retired &&& ~~~m
    latched := g.latched &&& ~~~m })
  let s2 := (s1.modGate t (fun g => { g with belowFloor := s1.floorBroken t })).sendCmd t 3 m.toNat
  { s2 with store := { s2.store with life := { s2.store.life with retire := { s2.store.life.retire with
    masks := vUpd s2.store.life.retire.masks t (fun x => x &&& ~~~m) } } } }

section
variable {s : State} {c : Channel} {v : BitVec 32} (position : bitsAt v 16 3 < 6) (present : s.hasChannel c = true)

include present

theorem execGaUnretire_applied (maintain : s.lifecycle = 3) (sto : s.prot[c].state = .sto) :
    let t := portOf c ⟨bitsAt v 16 3, position⟩
    execGaUnretire c v s = .next ((((s.unretired t (v.extractLsb' 0 16)).writeKind 3).publishPos t).raise 0x5018 c.val 6
      [w32 (bitsAt v 16 3), (v.extractLsb' 0 16).zeroExtend 32]) :=
  (if_neg (not_not_intro present)).trans ((dif_pos position).trans (if_pos ⟨maintain, sto⟩))

include position

theorem execGaUnretire_refused (barred : s.lifecycle ≠ 3 ∨ s.prot[c].state ≠ .sto) :
    execGaUnretire c v s = .next (s.raise 0x5019 c.val 5 [w32 (bitsAt v 16 3), (v.extractLsb' 0 16).zeroExtend 32]) :=
  (if_neg (not_not_intro present)).trans ((dif_pos position).trans (if_neg fun ⟨maintain, sto⟩ => barred.elim (absurd maintain) (absurd sto)))

end

/-! ## The obligation -/

/-- Settles O40: each command takes the branch its conditions name; an IDENT is judged in the state in which it has been heard, whose port state is the one before. -/
theorem tolpelPorts : Obligations.TolpelPorts := by
  unfold Obligations.TolpelPorts
  refine ⟨fun s t => ⟨execCharacterLockLoss_ready, execCharacterLockLoss_other, s.portDown_state t, rfl⟩, fun s t => execIdleLock_identifies,
    fun s t => execIdentReqPeriod_due, ?messages, ?marks, fun s t f => execUpstreamTimeMark_noted f, fun s t => execUpstreamSilence_loses,
    fun s t data up => ⟨execFaultSet_takes up, execFaultSet_damaged up⟩, fun s t r rs => execFaultDecision_due, ?unretire, fun s t => rfl⟩
  case messages =>
    intro s t body p v q up n
    refine ⟨?ident, execEcho_takes up, execTelem_takes up, ?_, ?_, ?_, s.portDiscard_errors t⟩
    case ident =>
      intro taken c id s1 s2
      have heard := s.portHeard_state t q
      refine ⟨fun later => ?_, fun asks few => ?_, fun asks enough known bound => ?_, fun asks enough foreign => ?_⟩
      · exact (execIdent_takes up taken).trans (congrArg _ (State.takeIdent_later (heard.trans_ne later)))
      · exact (execIdent_takes up taken).trans (congrArg _ (State.takeIdent_few (heard.trans asks) few))
      · exact (execIdent_takes up taken).trans (congrArg _ (State.takeIdent_known (heard.trans asks) enough known bound))
      · exact (execIdent_takes up taken).trans (congrArg _ (State.takeIdent_foreign (heard.trans asks) enough foreign))
    all_goals exact fun fails => congrArg Host.Outcome.next (State.onUp_discarded up fails)
  case marks =>
    intro s t m want send enabled new
    exact ⟨execTimeMarkSend_ready enabled new, execTimeMarkSend_time enabled new, execTimeMarkSend_uncorrected enabled new⟩
  case unretire =>
    intro s c v position t m
    exact ⟨execGaUnretire_applied position, execGaUnretire_refused position⟩

end Sys2Proof.Machine
end

section
/-! PROOFS. Over-current, phase loss, T_ASC, a release and the discharge commands (12_protection_and_discharge.md R412 to R416, R420, R427 to R430, R435, R436). -/

namespace Sys2Proof.Machine

/-! ## The safe state a channel holds (R412, R434) -/

section
variable {s : State} {c : Channel}

theorem State.safeHeld_safeOpen (stands : s.prot[c].state = .safeOpen) : s.safeHeld c = some false := by
  simp only [State.safeHeld, stands]

theorem State.safeHeld_safeAsc (stands : s.prot[c].state = .safeAsc) : s.safeHeld c = some true := by
  simp only [State.safeHeld, stands]

theorem State.safeHeld_discharge (stands : s.prot[c].state = .discharge) :
    s.safeHeld c = if s.prot[c].inSafe then some (s.sw.asc.getLsbD c.val) else none := by
  simp only [State.safeHeld, stands]

theorem State.safeHeld_run (stands : s.prot[c].state = .run) : s.safeHeld c = none := by
  simp only [State.safeHeld, stands]

end

/-! ## Over-current (R250, R414, R415) -/

/-- LINK has taken the assertion of OC_TRIP_n. -/
def State.tripTaken (s : State) (c : Channel) : State :=
  s.modProt c (fun p => { p with
    ocTaken := true
    ocClear := none })

section
variable {s : State} {c : Channel}

section
variable (asserted : s.wires.ocTrip[c] = true) (new : s.prot[c].ocTaken = false)

include asserted new

theorem execOcTrip_counts (asc : s.safeHeld c = some true) :
    execOcTrip c s = .next (((s.tripTaken c).modProt c (fun p => { p with ocInAsc := if p.ocInAsc < 0xFFF then p.ocInAsc + 1 else 0xFFF })).settle) :=
  (if_pos ⟨asserted, Bool.eq_false_iff.1 new⟩).trans (if_pos asc)

theorem execOcTrip_opens (other : s.safeHeld c ≠ some true) :
    execOcTrip c s = .next (((((s.tripTaken c).causeOn c 0 f32NaN).modProt c (fun p => { p with
      ocForce := true
      ascAt := none })).linkSto c true).enterSafe c 0) :=
  (if_pos ⟨asserted, Bool.eq_false_iff.1 new⟩).trans (if_neg other)

end

theorem execOcTripRelease_released (present : s.hasChannel c = true) (asserted : s.wires.ocTrip[c] = true) (released : (s.ocRelease c).wires.ocTrip[c] = false) :
    execOcTripRelease c s = .next ((((s.ocRelease c).modProt c (fun p => { p with
      ocTaken := false
      ocClear := some s.now })).causeOff c 0).settle) :=
  (if_neg (not_not_intro present)).trans (if_pos ⟨asserted, Bool.eq_false_iff.1 released⟩)

theorem execOcHoldExpiry_due {u : Nat} (cleared : s.prot[c].ocClear = some u) (forced : s.prot[c].ocForce = true) (due : u + s.ocHold c ≤ s.now) :
    execOcHoldExpiry c s = .next ((s.modProt c (fun p => { p with
      ocForce := false
      ocClear := none })).repeatChoice c) := by
  simp only [execOcHoldExpiry, cleared]
  exact if_pos ⟨forced, due⟩

end

/-! ## Phase loss (R416) -/

/-- How a phase-loss window is judged under PROT_PL_n: the root of the smallest mean square, and whether it is lopsided. -/
def State.judgedWindow (s : State) (c : Channel) (w : PhaseWindow) : Word × Bool :=
  judgeWindow w (max 1 (min 100 (bitsAt (s.reg (Reg.protPl c.val)) 12 8))) (max 1 (bitsAt (s.reg (Reg.protPl c.val)) 0 12))

/-- Lopsided windows in a row once a window has been judged. -/
def State.lopsidedRow (s : State) (c : Channel) (w : PhaseWindow) : Nat := if (s.judgedWindow c w).2 then s.prot[c].lopsided + 1 else 0

theorem execPhaseLossWindow_due {s : State} {c : Channel} {w : PhaseWindow} (opened : s.prot[c].window = some w)
    (due : w.opened + max 10 (min 2000 (bitsAt (s.reg (Reg.protPl c.val)) 20 11)) * 400000 ≤ s.now) :
    let s1 := s.modProt c (fun p => { p with
      window := none
      lopsided := s.lopsidedRow c w })
    execPhaseLossWindow c s = .next (if 2 ≤ s.lopsidedRow c w then s1.protCause c 6 (s.judgedWindow c w).1 else s1) := by
  simp only [execPhaseLossWindow, opened]
  exact if_pos due

/-! ## T_ASC (R420, R428) -/

section
variable {s : State} {c : Channel} {u : Nat} (due : u ≤ s.now)

include due

theorem execTAscExpiry_asserts (waits : s.prot[c].ascAt = some u) :
    let s1 := (s.modProt c (fun p => { p with ascAt := none })).driveAsc c true
    execTAscExpiry c s = .next (if s.safeHeld c = some false then (s1.raise 0x6002 c.val 6 [1, s.rpmOrNaN c]).showSafe c .safeAsc else s1) := by
  simp only [execTAscExpiry, waits, if_pos due]

theorem execTAscExpiry_releases (noAsc : s.prot[c].ascAt = none) (waits : s.prot[c].stoReleaseAt = some u) :
    execTAscExpiry c s = .next ((s.modProt c (fun p => { p with stoReleaseAt := none })).linkSto c false) := by
  simp only [execTAscExpiry, noAsc, waits, if_pos due]

end

/-! ## Release (R404, R427, R428) -/

section
variable {s : State} {c : Channel}

theorem State.requestRelease_granted (free : s.releaseReason c = none) : (s.requestRelease c).1 = s.grantRelease c := by
  simp only [State.requestRelease, free]

theorem State.requestRelease_refused {r : Nat} (barred : s.releaseReason c = some r) :
    let held := (idxs 6).map (fun p => (s.heldDies (portOf c p)).zeroExtend 32)
    (s.requestRelease c).1 = (if held.any (· != 0) then s.raise 0x5017 c.val 6 held else s).raise 0x6005 c.val 5 [w32 r] := by
  simp only [State.requestRelease, barred]

theorem execRelease_enabled (enabled : s.ch[c].enabled = true) : execRelease c s = .next (s.requestRelease c).1 := if_pos enabled

end

/-! ## Discharge commands (R429, R430, R435, R436) -/

section
variable {s : State} {c : Channel}

theorem execDisch_enabled (enabled : s.ch[c].enabled = true) : execDisch c s = .next (s.startDischarge c false) := if_pos enabled

theorem State.startDischarge_noMethod {b : Bool} (none : s.dischMethod c = 0) : s.startDischarge c b = s.raise 0x6014 c.val 5 [1] := if_pos none

section
variable (method : s.dischMethod c ≠ 0)

include method

theorem State.startDischarge_again {b : Bool} (runs : s.prot[c].state = .discharge) : s.startDischarge c b = s.raise 0x6014 c.val 5 [4] :=
  (if_neg method).trans (if_pos runs)

variable (idle : s.prot[c].state ≠ .discharge)

include idle

theorem State.startDischarge_inShutdown (shuts : s.shut.active = true) : s.startDischarge c false = s.raise 0x6014 c.val 5 [3] :=
  (if_neg method).trans ((if_neg idle).trans (if_pos ⟨shuts, Bool.false_ne_true⟩))

variable (up : s.shut.active = false)

include up

theorem State.startDischarge_noWinding (lacks : s.dischMethod c = 1 ∧ s.windingReady c = false) : s.startDischarge c false = s.raise 0x6014 c.val 5 [2] :=
  (if_neg method).trans ((if_neg idle).trans ((if_neg fun ⟨shuts, _⟩ => Bool.eq_false_iff.1 up shuts).trans
    (if_pos ⟨lacks.1, Bool.eq_false_iff.1 lacks.2⟩)))

theorem State.startDischarge_starts (able : ¬ (s.dischMethod c = 1 ∧ s.windingReady c = false)) :
    s.startDischarge c false = ((s.modProt c (fun p => { p with
      discharge := some ⟨s.now, s.windingReady c, 0, 0⟩
      inSafe := false
      uMin := p.udc
      dischPin := p.dischPin || s.dischMethod c != 1
      ascAt := none })).raise 0x6010 c.val 3
        [w32 (if s.dischMethod c = 3 ∧ ¬ s.windingReady c then 2 else s.dischMethod c), s.prot[c].udc]).setProt c .discharge :=
  (if_neg method).trans ((if_neg idle).trans ((if_neg fun ⟨shuts, _⟩ => Bool.eq_false_iff.1 up shuts).trans
    (if_neg fun ⟨winding, lacks⟩ => able ⟨winding, Bool.eq_false_iff.2 lacks⟩)))

end

section
variable {d : Discharge} (runs : s.prot[c].discharge = some d)

include runs

theorem execDischStop_stops :
    execDischStop c s = .next ({ s.raise 0x6012 c.val 13 [s.prot[c].uMin, s.prot[c].udc] with freeCtr := s.freeCtr + 1 }.stopDischarge c
      (Config.free 32 s.freeCtr)) :=
  if_pos (Option.isSome_iff_exists.2 ⟨d, runs⟩)

theorem execDischargeTimeout_due (due : d.start + max 1 (s.fld (Reg.dischCfg c.val) 16 13) * 4000000 ≤ s.now) :
    execDischargeTimeout c s = .next (((s.raise 0x6013 c.val 12 [s.prot[c].uMin]).causeOn c 13 f32NaN).stopDischarge c 13) := by
  simp only [execDischargeTimeout, runs, Nat.mul_assoc]
  exact if_pos due

end

end

/-! ## The obligation -/

/-- Settles O32: each command takes the branch its conditions name; RELEASE by the reason against it, DISCH by the first refusal that holds. -/
theorem protectionActs : Obligations.ProtectionActs := by
  unfold Obligations.ProtectionActs
  refine ⟨fun s c asserted new => ⟨execOcTrip_counts asserted new, execOcTrip_opens asserted new⟩,
    fun s c => ⟨State.safeHeld_safeOpen, State.safeHeld_safeAsc, State.safeHeld_discharge, State.safeHeld_run, fun w => rfl⟩,
    fun s c => execOcTripRelease_released, fun s c u => execOcHoldExpiry_due, fun s c w => execPhaseLossWindow_due,
    fun s c u due => ⟨execTAscExpiry_asserts due, execTAscExpiry_releases due⟩, ?release, fun s c => rfl, ?disch,
    fun s c d runs => ⟨execDischStop_stops runs, execDischargeTimeout_due runs⟩⟩
  case release =>
    intro s c enabled
    refine ⟨fun free => ?_, fun r barred => ?_⟩
    · exact (execRelease_enabled enabled).trans (congrArg _ (State.requestRelease_granted free))
    · exact (execRelease_enabled enabled).trans (congrArg _ (State.requestRelease_refused barred))
  case disch =>
    intro s c enabled m refused
    have asked := execDisch_enabled enabled
    refine ⟨fun none => ?_, fun method runs => ?_, fun method idle shuts => ?_, fun method idle up => ⟨fun lacks => ?_, fun able => ?_⟩⟩
    · exact asked.trans (congrArg _ (State.startDischarge_noMethod none))
    · exact asked.trans (congrArg _ (State.startDischarge_again method runs))
    · exact asked.trans (congrArg _ (State.startDischarge_inShutdown method idle shuts))
    · exact asked.trans (congrArg _ (State.startDischarge_noWinding method idle up lacks))
    · exact asked.trans (congrArg _ (State.startDischarge_starts method idle up able))

end Sys2Proof.Machine
end

section
/-! PROOFS. The orderly shutdown (12_protection_and_discharge.md R413, R438 to R440). -/

namespace Sys2Proof.Machine

/-! ## Start (R438, R439) -/

/-- The descriptor that waits for its effect is the one an opcode's effect runs on. -/
theorem State.onDesc_taken {s s1 : State} {ring : BitVec 16} {op : Nat} {p : Desc → Bool} {t : Taken} {f : Taken → State → State}
    (taken : s.take ring.toNat op p = some (t, s1)) : s.onDesc ring op p f = f t s1 := by
  simp only [State.onDesc, taken]

theorem execShutdownVsup_starts {s : State} {mv : Nat} (idle : s.shut.active = false) (watched : s.shutV ≠ 0) (low : mv < s.shutV)
    (rung : s.pwr.rung ≤ 3) (started : s.pwr.started = true) : execShutdownVsup mv s = .next (s.startShutdown true none) :=
  if_neg (not_or.2 ⟨Bool.eq_false_iff.1 idle, not_or.2 ⟨watched, not_or.2 ⟨Nat.not_le.2 low, not_or.2 ⟨Nat.not_lt.2 rung, not_not_intro started⟩⟩⟩⟩)

section
variable {s s1 : State} {ring : BitVec 16} {t : Taken} (taken : s.take ring.toNat 0x40 (fun d => d.w[0] == 1) = some (t, s1))
  (empty : t.desc.length = 0) (addr : t.desc.addr = 0) (words : t.desc.zeroFrom 1 = true)

include taken empty addr words

theorem execShutdownRequest_plain : execShutdownRequest ring s =
    .next (if s1.shut.active then s1.complete t.ring t.index 1 4 0 else s1.startShutdown false (some (t.ring, t.index))) :=
  congrArg Host.Outcome.next ((State.onDesc_taken taken).trans
    ((if_neg (not_not_intro empty)).trans (if_neg (not_or.2 ⟨not_not_intro addr, not_not_intro words⟩))))

theorem execShutdownRequest_starts (idle : s1.shut.active = false) :
    execShutdownRequest ring s = .next (s1.startShutdown false (some (t.ring, t.index))) :=
  (execShutdownRequest_plain taken empty addr words).trans (congrArg _ (if_neg (Bool.eq_false_iff.1 idle)))

theorem execShutdownRequest_again (active : s1.shut.active = true) : execShutdownRequest ring s = .next (s1.complete t.ring t.index 1 4 0) :=
  (execShutdownRequest_plain taken empty addr words).trans (congrArg _ (if_pos active))

end

/-! ## Steps 2 to 5 (R413, R438) -/

/-- Step 2 on a channel: one that is stopping comes to its safe state. -/
def State.rampEnds (u : State) (c : Channel) : State :=
  if u.prot[c].state = .zeroVector ∨ u.prot[c].state = .freewheel then u.protCause c 15 f32NaN else u

/-- Step 3 on a channel, from the state in which SD_RAMP ended: its discharge starts, or it enters its safe state; one that a cause has taken there before stays. -/
def State.rampDischarges (s u : State) (c : Channel) : State :=
  if s.shut.early.getLsbD c.val then u
  else if s.dischMethod c ≠ 0 then (u.causeOn c 15 f32NaN).startDischarge c true else u.protCause c 15 f32NaN

section
variable {s : State} (active : s.shut.active = true)

include active

theorem execSdRampExpiry_due (step : s.shut.step = 1) (due : s.shut.start + min 60000 (s.fld Reg.shutCfg 16 16) * 400000 ≤ s.now) :
    let cs := (idxs 8).filter (fun c => s.ch[c].enabled)
    execSdRampExpiry s = .next ((cs.foldl s.rampDischarges (cs.foldl State.rampEnds s)).modShut (fun x => { x with step := 3 })) := by
  intro cs
  refine (if_pos ⟨active, step, due⟩).trans
    (congrArg (fun ends => Host.Outcome.next ((cs.foldl s.rampDischarges (cs.foldl ends s)).modShut (fun x => { x with step := 3 }))) (funext₂ fun u c => ?_))
  simp only [State.rampEnds]
  cases u.prot[c].state <;> rfl

theorem execShutdownDischargesEnded_ended (step : s.shut.step = 3) (ended : ∀ c : Channel, s.prot[c].state ≠ .discharge) :
    let s1 := ((idxs 8).filter (fun c => s.ch[c].enabled)).foldl (fun u c => u.protCause c 15 f32NaN) s
    let s2 := s1.partChannels.foldl (fun u c => u.askSafe c true) s1
    let s3 := s2.modChamois (fun x => { x with shutAux := true })
    let s4 : State := { s3 with sw := { s3.sw with auxOffB := true } }
    execShutdownDischargesEnded s = .next ((s4.settle.ageRecords.flushLog).modShut (fun x => { x with step := 5 })) :=
  if_pos ⟨active, step, List.all_eq_true.2 fun c _ => bne_iff_ne.2 (ended c)⟩

end

/-! ## Step 6, and a dip of VSUP (R440, R611, R631) -/

/-- The shutdown has ended: its end is raised and its descriptor completed. -/
def State.shutdownEnded (s : State) : State :=
  let s1 := s.raise 0x6021 6 8 [w32 (b2n s.shut.dipSeen)]
  (s.shut.desc.elim s1 (fun d => (s1.complete d.1 d.2 0 0 0).flushDone)).modShut (fun _ => {})

section
variable {s : State} (active : s.shut.active = true)

include active

theorem execShutdownDone_written (step : s.shut.step = 5) (write : s.store.write = none) (queue : s.store.queue = []) (waiting : s.store.waiting = []) :
    execShutdownDone s = .next (if s.shut.dipSeen then s.shutdownEnded.coldBegin 4 0 else if s.st.coldOwed then s.shutdownEnded.coldBegin 6 0
      else if s.pwr.rung < s.shutRung then s.shutdownEnded.startDescent { target := s.shutRung, source := 0 } else s.shutdownEnded) := by
  refine (if_pos ⟨active, step, .inl ⟨Option.isNone_iff_eq_none.2 write, List.isEmpty_iff.2 queue, List.isEmpty_iff.2 waiting⟩⟩).trans ?_
  simp only [State.shutdownEnded, apply_ite Host.Outcome.next]
  cases s.shut.desc <;> rfl

theorem execVsupDip_dips {mv : Nat} (dips : (mv < s.shutV ∧ s.shut.below = false) ∨ (s.shut.byVsup = true ∧ s.shutV + 500 < mv)) :
    execVsupDip mv s = .next (s.modShut (fun x => { x with
      dipSeen := true
      below := decide (mv < s.shutV) })) := by
  have dip : (decide (mv < s.shutV) && !s.shut.below || s.shut.byVsup && decide (s.shutV + 500 < mv)) = true := by
    simpa only [Bool.or_eq_true, Bool.and_eq_true, decide_eq_true_eq, Bool.not_eq_true'] using dips
  simp only [execVsupDip, if_pos active, dip, Bool.or_true]

end

end Sys2Proof.Machine
end

section
/-! PROOFS. The power ladder: descents, wakes, the ladder image and the steps of a climb (18_power_ladder.md R609, R611, R612, R614 to R617, R622). -/

namespace Sys2Proof.Machine

/-! ## Requests (R611, R612, R614, R617) -/

section
variable {s : State} {v : Word} (known : bitsAt v 0 3 ≤ 5)

include known

theorem execTargetDescent_asks (lower : s.pwr.rung < bitsAt v 0 3) :
    execTargetDescent v s = .next ((s.setReg Reg.pwrCtrl (w32 (bitsAt v 0 3))).askDescent { target := bitsAt v 0 3, source := 0 }) := by
  simp only [execTargetDescent, if_pos known, if_pos (And.intro lower known)]

theorem execTargetWake_wakes (higher : bitsAt v 0 3 < s.pwr.rung) (rung : s.pwr.rung ≤ 3) :
    execTargetWake v s = .next ((s.setReg Reg.pwrCtrl (w32 (bitsAt v 0 3))).wake { target := bitsAt v 0 3, source := 3 }) := by
  simp only [execTargetWake, if_pos known, if_pos (And.intro higher rung)]

end

section
variable {s : State} {q : RungRequest}

theorem State.askDescent_refused {r : Nat} (refused : s.descentRefused q.target = some r) :
    s.askDescent q = (s.raise 0xA002 6 5 [w32 q.target, w32 r]).endRequest q 1 1 := by
  simp only [State.askDescent, refused]

theorem State.askDescent_allowed (allowed : s.descentRefused q.target = none) :
    s.askDescent q = if s.pwr.descent.isSome ∨ s.pwr.climb.isSome ∨ s.extendedRuns then s.holdRequest q else s.startDescent q := by
  simp only [State.askDescent, allowed]

end

section
variable {s : State} (higher : s.wakeTarget < s.pwr.rung)

include higher

theorem execWakeN_wakes : execWakeN s = .next (s.wake { target := s.wakeTarget, source := 1 }) := if_pos (.inl higher)

theorem execWakeTimer_due (enabled : bitAt (s.reg Reg.pwrCfg) 31 = true) (due : s.pwr.timer ≤ s.now) (once : s.pwr.timerFired = false)
    (below : 1 ≤ s.pwr.rung) (above : s.pwr.rung ≤ 4) :
    execWakeTimer s = .next ((s.modPwr (fun p => { p with timerFired := true })).wake { target := s.wakeTarget, source := 2 }) :=
  (if_pos ⟨enabled, due, Bool.eq_false_iff.1 once, below, above⟩).trans (if_pos (.inl higher))

end

/-- The rung request of a SET_STATE descriptor. -/
def Taken.rungRequest (t : Taken) : RungRequest := { target := t.desc.w[1].toNat, source := 0, desc := some (t.ring, t.index) }

section
variable {s s1 : State} {ring : BitVec 16} {t : Taken} (taken : s.take ring.toNat 0x40 (fun d => d.w[0] == 2) = some (t, s1))
  (empty : t.desc.length = 0) (addr : t.desc.addr = 0) (words : t.desc.zeroFrom 2 = true) (known : t.desc.w[1].toNat ≤ 5)

include taken empty addr words known

theorem execRungRequest_plain : execRungRequest ring s = .next (if s1.shut.active then s1.complete t.ring t.index 1 4 0
    else if s1.pwr.rung < t.rungRequest.target then s1.askDescent t.rungRequest
    else if t.rungRequest.target < s1.pwr.rung then s1.wake { t.rungRequest with source := 4 }
    else s1.complete t.ring t.index 0 0 (w32 t.rungRequest.target)) :=
  congrArg Host.Outcome.next ((State.onDesc_taken taken).trans ((if_neg (not_not_intro empty)).trans
    (if_neg (not_or.2 ⟨not_not_intro addr, not_or.2 ⟨not_not_intro words, Nat.not_lt.2 known⟩⟩))))

theorem execRungRequest_inShutdown (active : s1.shut.active = true) : execRungRequest ring s = .next (s1.complete t.ring t.index 1 4 0) :=
  (execRungRequest_plain taken empty addr words known).trans (congrArg _ (if_pos active))

theorem execRungRequest_asks (idle : s1.shut.active = false) : execRungRequest ring s = .next (if s1.pwr.rung < t.rungRequest.target then s1.askDescent t.rungRequest
    else if t.rungRequest.target < s1.pwr.rung then s1.wake { t.rungRequest with source := 4 }
    else s1.complete t.ring t.index 0 0 (w32 t.rungRequest.target)) :=
  (execRungRequest_plain taken empty addr words known).trans (congrArg _ (if_neg (Bool.eq_false_iff.1 idle)))

end

/-! ## The ladder image (R609, R611) -/

/-- The image of the part is written to STORE and kept. -/
def State.imageWritten (s : State) : State :=
  (({ s with freeCtr := s.freeCtr + 1 } : State).writeNow 2 (leBytes s.imageBytes (Config.free (8 * s.imageBytes) s.freeCtr).toNat)).modPwr
    (fun p => { p with image := some s.ladderImage })

theorem execLadderImageWritten_descends {s : State} {q : RungRequest} (descends : s.pwr.descent = some q) (bed : s.pwr.rung = 3) (deep : 4 ≤ q.target)
    (write : s.store.write = none) (queue : s.store.queue = []) (waiting : s.store.waiting = []) (up : s.storeUp = true) :
    execLadderImageWritten s = .next ((((if q.target = 5 then s.imageWritten.enterYard.enterShed else s.imageWritten.enterYard).modPwr
      (fun p => { p with descent := none })).takeHeld)) := by
  have goes : ¬ (s.pwr.rung ≠ 3 ∨ q.target < 4 ∨ s.store.write.isSome ∨ ¬ s.store.queue.isEmpty ∨ ¬ s.store.waiting.isEmpty ∨ ¬ s.storeUp) := by
    simp [bed, deep, write, queue, waiting, up]
  simp only [execLadderImageWritten, descends, if_neg goes]
  rfl

/-! ## Steps of a climb (R615, R616) -/

section
variable {s : State} {rails : BitVec 9} {c : Climb} (climbs : s.pwr.climb = some c)

include climbs

theorem execClimbStepReady_ready (met : ((s.noteRails rails).stepConditions rails).all id = true) :
    execClimbStepReady rails s = .next ((s.noteRails rails).stepUp c) := by
  simp only [execClimbStepReady, climbs, if_pos met]

section
variable (unmet : unmetBits ((s.noteRails rails).stepConditions rails) ≠ 0) (due : c.stepAt + readyTicks s.pwr.rung ≤ s.now)

include unmet due

theorem execReadyTimeout_repeats (first : c.repeated = false) :
    execReadyTimeout rails s = .next ((((s.noteRails rails).modPwr (fun p => { p with
      climb := some { c with
        stepAt := s.now
        repeated := true } })).raise 0xA003 6 6 [w32 s.pwr.rung, w32 (s.pwr.rung - 1)]).stepActions) := by
  simp only [execReadyTimeout, climbs]
  exact (if_neg (not_or.2 ⟨unmet, not_not_intro (.inl due)⟩)).trans (if_neg (Bool.eq_false_iff.1 first))

theorem execReadyTimeout_fails (second : c.repeated = true) :
    execReadyTimeout rails s = .next ((((((s.noteRails rails).modPwr (fun p => { p with
      climb := none
      wakeFail := true })).raise 0xA004 6 12 [w32 (s.pwr.rung - 1), w32 s.pwr.rung, w32 (unmetBits ((s.noteRails rails).stepConditions rails))]).stepBack).endRequest
        c.request 1 1).takeHeld) := by
  simp only [execReadyTimeout, climbs]
  exact (if_neg (not_or.2 ⟨unmet, not_not_intro (.inl due)⟩)).trans (if_pos second)

end

end

/-! ## Registers of the ladder (R616, R622) -/

theorem execPwrStatus_clears (s : State) (v : Word) : execPwrStatus v s = .next (s.modPwr (fun p => { p with wakeFail := p.wakeFail && !bitAt v 27 })) := by
  cases clear : bitAt v 27 <;> simp [execPwrStatus, State.modPwr, clear]

/-! ## The obligation -/

/-- Settles O33: each event of a shutdown, of a request and of a climb takes the branch its conditions name. -/
theorem shutdownAndLadder : Obligations.ShutdownAndLadder := by
  unfold Obligations.ShutdownAndLadder
  refine ⟨⟨fun s mv => execShutdownVsup_starts, fun s v d => rfl, ?request, fun s => execSdRampExpiry_due, fun s => execShutdownDischargesEnded_ended,
      fun s => execShutdownDone_written, fun s mv active => execVsupDip_dips active⟩,
    fun s v known => ⟨execTargetDescent_asks known, execTargetWake_wakes known⟩,
    fun s q => ⟨fun r => State.askDescent_refused, State.askDescent_allowed, rfl⟩,
    fun s higher => ⟨execWakeN_wakes higher, execWakeTimer_due higher⟩, ?rung, fun s q => execLadderImageWritten_descends, ?climb,
    fun s v => ⟨rfl, execPwrStatus_clears s v⟩⟩
  case request =>
    intro s s1 ring t taken empty addr words
    exact ⟨execShutdownRequest_starts taken empty addr words, execShutdownRequest_again taken empty addr words⟩
  case rung =>
    intro s s1 ring t taken empty addr words known q
    exact ⟨execRungRequest_inShutdown taken empty addr words known, execRungRequest_asks taken empty addr words known⟩
  case climb =>
    intro s rails c climbs s0
    exact ⟨execClimbStepReady_ready climbs, fun unmet due => ⟨execReadyTimeout_repeats climbs unmet due, execReadyTimeout_fails climbs unmet due⟩⟩

end Sys2Proof.Machine
end

section
/-! PROOFS. Lockstep: the verdicts on CTRL-B, the windows of the lanes and the comparator with its test (13_lockstep.md R445, R454 to R457, R461 to R463). -/

namespace Sys2Proof.Machine

/-! ## Verdicts on CTRL-B (R445) -/

/-- The state in which the verdict has been taken from those under way. -/
def State.takeVerdict (s : State) (v : Verdict) : State := { s with verdicts := s.verdicts.filter (fun u => u != v) }

section
variable {s : State} {c : SlotCode} {v : Verdict} {vs : List Verdict} (queue : s.verdicts = v :: vs) (names : v.slot = c)

include queue names

theorem find_oldest_verdict : s.verdicts.find? (fun u => u.slot == c) = some v := by
  rw [queue, List.find?_cons_of_pos (by simp [names])]

section
variable {e : EngineNo} {r : Run} (runs : (s.die .b).engineOf c = some (e, r)) (frame : r.frame = v.frame)

include runs frame

theorem execVerdict_commits (holds : (s.engine .b e).phase = .committing) (commit : v.outcome = 0) :
    execVerdict c s = .next ((s.takeVerdict v).endRun .b e r).1 := by
  simp only [execVerdict, find_oldest_verdict queue names, runs, if_neg (not_not_intro frame), if_pos holds, if_pos commit]
  rfl

theorem execVerdict_discards (holds : (s.engine .b e).phase = .committing) (other : v.outcome ≠ 0) :
    execVerdict c s = .next ((s.takeVerdict v).discardRun .b e r (if v.outcome = 6 ∨ v.outcome = 7 then v.outcome else 0)) := by
  simp only [execVerdict, find_oldest_verdict queue names, runs, if_neg (not_not_intro frame), if_pos holds, if_neg other]
  rfl

theorem execVerdict_cuts (inProgress : (s.engine .b e).phase ≠ .committing) (stops : v.outcome = 6 ∨ v.outcome = 7) :
    execVerdict c s = .next ((s.takeVerdict v).discardRun .b e r v.outcome) := by
  simp only [execVerdict, find_oldest_verdict queue names, runs, if_neg (not_not_intro frame), if_neg inProgress, if_pos stops]
  rfl

end

theorem execVerdict_unstarted (idle : (s.die .b).engineOf c = none) (unfinished : (s.slotOf .b c).isDone v.frame = false) (stops : v.outcome = 6 ∨ v.outcome = 7) :
    execVerdict c s = .next (((s.takeVerdict v).fileUnstarted .b c v.frame (s.refOf (s.slotOf .b c).channel v.frame) v.outcome).modSlot .b c
      (fun x => { x with runNo := if v.outcome = 6 then (x.runNo + 1) % 2 ^ 32 else x.runNo })) := by
  simp only [execVerdict, find_oldest_verdict queue names, idle, if_neg (Bool.eq_false_iff.1 unfinished), if_pos stops]
  rfl

end

/-- Settles O21: the verdict at the head is the one its slot finds, and it takes the branch that the run's state and the outcome name. -/
theorem verdictsOnCtrlB : Obligations.VerdictsOnCtrlB := by
  unfold Obligations.VerdictsOnCtrlB
  intro s c v vs queue names s0
  exact ⟨fun e w r => execFend_b, fun e r => execVerdict_commits queue names, fun e r => execVerdict_discards queue names,
    fun e r => execVerdict_cuts queue names, execVerdict_unstarted queue names⟩

/-! ## The comparator (R456) -/

theorem compareRecords_absent {a b : Option Dword} (absent : a = none ∨ b = none) : compareRecords a b = .missing := by
  rcases absent with rfl | rfl
  · rfl
  · cases a <;> rfl

theorem compareRecords_same (x : Dword) : compareRecords (some x) (some x) = .match_ := if_pos rfl

theorem compareRecords_different {x y : Dword} (different : x ≠ y) : compareRecords (some x) (some y) = .mismatch := if_neg different

section
variable {s : State} {l : EngineNo} {w : LockWindow} {ws : List LockWindow} (oldest : s.lock.lanes[l].windows = w :: ws) (due : s.decisionDue l w = true)

include oldest due

theorem execWindowDecision_matches (found : compareRecords w.recA w.recB = .match_) : execWindowDecision l s = .next (s.dropWindow l w) := by
  simp only [execWindowDecision, oldest, due, if_true, found]

theorem execWindowDecision_mismatches (found : compareRecords w.recA w.recB = .mismatch) :
    execWindowDecision l s = .next ((s.dropWindow l w).lockEvent l w.channel w.last false (s.windowMask l w) 0) := by
  simp only [execWindowDecision, oldest, due, if_true, found]

theorem execWindowDecision_misses (found : compareRecords w.recA w.recB = .missing) :
    execWindowDecision l s = .next ((s.dropWindow l w).lockEvent l w.channel w.last true (s.windowMask l w) w.absent) := by
  simp only [execWindowDecision, oldest, due, if_true, found]

end

/-- A window as a record for a channel and last frame leaves it. -/
def LockWindow.record (d : CtrlId) (c : Channel) (frame : Nat) (g : Dword) (w : LockWindow) : LockWindow :=
  if w.channel = c ∧ w.last = frame then (if d = .a then { w with recA := some g } else { w with recB := some g }) else w

theorem LockWindow.record_other {d : CtrlId} {c : Channel} {frame : Nat} {g : Dword} {w : LockWindow} (other : ¬ (w.channel = c ∧ w.last = frame)) :
    w.record d c frame g = w := if_neg other

theorem State.modLane_of_fixed {s : State} {l : EngineNo} {f : Lane → Lane} (fixed : f s.lock.lanes[l] = s.lock.lanes[l]) : s.modLane l f = s := by
  rw [State.modLane, vUpd_of_fixed fixed]

section
variable {s : State} {d : CtrlId} (l : EngineNo) (c : Channel) (f : BitVec 32) (g : BitVec 64) (up : s.linkUp d.die .safe = true)

include up

theorem execWindowRecord_enters :
    execWindowRecord d l c f g s = .next (s.modLane l (fun k => { k with windows := k.windows.map (fun w => w.record d c f.toNat g) })) := by
  cases d <;> exact congrArg Host.Outcome.next (if_neg (not_not_intro up))

theorem execWindowRecord_ignored (unmet : ∀ w ∈ s.lock.lanes[l].windows, ¬ (w.channel = c ∧ w.last = f.toNat)) : execWindowRecord d l c f g s = .next s := by
  have windows : s.lock.lanes[l].windows.map (fun w => w.record d c f.toNat g) = s.lock.lanes[l].windows :=
    (List.map_congr_left fun w mem => LockWindow.record_other (unmet w mem)).trans (List.map_id _)
  rw [execWindowRecord_enters l c f g up, State.modLane_of_fixed]
  rw [windows]

end

/-- Settles O22: a record enters the windows that it names; a decision is what the comparator finds of the oldest window's two records. -/
theorem comparatorDecisions : Obligations.ComparatorDecisions := by
  unfold Obligations.ComparatorDecisions
  refine ⟨fun s d l c f g up => ⟨execWindowRecord_enters l c f g up, execWindowRecord_ignored l c f g up⟩, ?decision⟩
  case decision =>
    intro s l w ws oldest due
    refine ⟨fun a recA recB => execWindowDecision_matches oldest due ?same, fun a b recA recB differ => execWindowDecision_mismatches oldest due ?different,
      fun absent => execWindowDecision_misses oldest due (compareRecords_absent absent)⟩
    case same => rw [recA, recB, compareRecords_same]
    case different => rw [recA, recB, compareRecords_different differ]

/-! ## Windows and lanes (R454, R455, R457) -/

section
variable {s : State} {d : CtrlId} {l : EngineNo}

theorem execWindowClose_closes {w : LockWindow} {ws : List LockWindow} (oldest : s.lock.lanes[l].windows = w :: ws) (unclosed : w.closed d = false)
    (ended : s.openRuns d l w.hi = []) : execWindowClose d l s =
      .next (((s.modCtrl d (fun x => { x with outcomes := x.outcomes.filter (fun o => o.lane != l || !decide (o.refInstant < w.hi)) })).modLane l
        (fun k => { k with windows := k.windows.map (fun v => if v = w then w.close d (s.windowRuns d l w) else v) })).sendDie
          d.die .safe "window" [l.val, w.channel.val, w.last, (windowSig l w (s.windowRuns d l w)).toNat]) := by
  have first : s.lock.lanes[l].windows.find? (fun w => !w.closed d) = some w := by
    rw [oldest, List.find?_cons_of_pos (by simp [unclosed])]
  simp only [execWindowClose, first, if_pos ended]

theorem execLanePlan_takes (up : s.linkUp .ctrlA .safe = true) : execLanePlan l s = .next (s.modLane l (fun k => { k with
    plan := k.channel.map (fun w => (w, s.winN, s.wMax w k.progs))
    lastDecision := if k.plan.isSome then k.lastDecision else s.now })) :=
  congrArg Host.Outcome.next (if_neg (not_not_intro up))

theorem execLaneTimeout_due {c : Channel} {n wmax : Nat} {w : LockWindow} {ws : List LockWindow} (plan : s.lock.lanes[l].plan = some (c, n, wmax))
    (late : s.lock.lanes[l].lastDecision + wmax + 800 ≤ s.now) (oldest : s.lock.lanes[l].windows = w :: ws) :
    execLaneTimeout l s = .next ((s.dropWindow l w).lockEvent l w.channel w.last true s.enabledMask w.absent) := by
  simp only [execLaneTimeout, plan, if_pos late, oldest]

end

/-! ## The cases of the comparator test (R462) -/

theorem flipped_bit_differs (x : Dword) {i : Nat} (inside : i < 64) : x ^^^ 1#64 <<< i ≠ x := by
  intro same
  have bit := congrArg (·.getLsbD i) same
  simp [inside] at bit

section
variable {s : State} {n : Nat} {l : EngineNo}

/-- Over a link that stands the record of a case holds the signature, with one bit inverted where the case names the die and the lane. -/
theorem State.lockTestRecord_inverted {d : CtrlId} (up : s.linkUp d.die .safe = true)
    (named : n ≤ 2048 ∧ (n - 1) / 128 = l.val ∧ (n - 1) / 64 % 2 = d.ix.val) :
    s.lockTestRecord n d l = some (Config.lockTestSig ^^^ 1#64 <<< ((n - 1) % 64)) := by
  cases d <;> exact (if_pos up).trans (congrArg some (if_pos (decide_eq_true named)))

theorem State.lockTestRecord_plain {d : CtrlId} (up : s.linkUp d.die .safe = true)
    (unnamed : ¬ (n ≤ 2048 ∧ (n - 1) / 128 = l.val ∧ (n - 1) / 64 % 2 = d.ix.val)) : s.lockTestRecord n d l = some Config.lockTestSig := by
  cases d <;> exact (if_pos up).trans (congrArg some (if_neg fun hit => unnamed (of_decide_eq_true hit)))

theorem State.lockTestRecord_lost {d : CtrlId} (down : s.linkUp d.die .safe = false) : s.lockTestRecord n d l = none :=
  if_neg (Bool.eq_false_iff.1 down)

end

section
variable {s : State}

/-- In a case that names a lane exactly one of its two records has a bit inverted. -/
theorem State.lockTestOk_up (upA : s.linkUp .ctrlA .safe = true) (upB : s.linkUp .ctrlB .safe = true) (n : Nat) : s.lockTestOk n = true := by
  refine List.all_eq_true.2 fun l _ => beq_iff_eq.2 ?_
  have differs := flipped_bit_differs Config.lockTestSig (Nat.mod_lt (n - 1) (show 64 > 0 by decide))
  by_cases lane : n ≤ 2048 ∧ (n - 1) / 128 = l.val
  · rw [if_pos lane]
    have ⟨inverts, its⟩ := lane
    rcases Nat.mod_two_eq_zero_or_one ((n - 1) / 64) with dieA | dieB
    · rw [State.lockTestRecord_inverted (d := .a) upA ⟨inverts, its, dieA⟩,
        State.lockTestRecord_plain (d := .b) upB fun ⟨_, _, dieB⟩ => absurd (dieA.symm.trans dieB) (by decide)]
      exact compareRecords_different differs
    · rw [State.lockTestRecord_plain (d := .a) upA fun ⟨_, _, dieA⟩ => absurd (dieB.symm.trans dieA) (by decide),
        State.lockTestRecord_inverted (d := .b) upB ⟨inverts, its, dieB⟩]
      exact compareRecords_different differs.symm
  · rw [if_neg lane, State.lockTestRecord_plain (d := .a) upA fun ⟨inverts, its, _⟩ => lane ⟨inverts, its⟩,
      State.lockTestRecord_plain (d := .b) upB fun ⟨inverts, its, _⟩ => lane ⟨inverts, its⟩]
    exact compareRecords_same _

theorem State.lockTestFirst_up (upA : s.linkUp .ctrlA .safe = true) (upB : s.linkUp .ctrlB .safe = true) : s.lockTestFirst = none :=
  List.find?_eq_none.2 fun n _ => by simp [State.lockTestOk_up upA upB n]

/-- Without the records of a die every case fails, for a missing record is never the result expected. -/
theorem State.lockTestOk_down (down : s.linkUp .ctrlA .safe = false ∨ s.linkUp .ctrlB .safe = false) (n : Nat) : s.lockTestOk n = false := by
  refine List.all_eq_false.2 ⟨0, List.mem_finRange 0, ?_⟩
  have absent : s.lockTestRecord n .a 0 = none ∨ s.lockTestRecord n .b 0 = none :=
    down.imp (State.lockTestRecord_lost (d := .a)) (State.lockTestRecord_lost (d := .b))
  rw [compareRecords_absent absent]
  split <;> decide

theorem State.lockTestFirst_down (down : s.linkUp .ctrlA .safe = false ∨ s.linkUp .ctrlB .safe = false) : s.lockTestFirst = some 1 := by
  rw [State.lockTestFirst, List.range_succ_eq_map, List.map_cons, List.find?_cons_of_pos]
  simp [State.lockTestOk_down down]

/-- The first failing case of the comparator test and its result: the comparator's own, over a failed link, before one that a defect causes. -/
def State.lockTestFailure (s : State) (failing : Option (Word × Word)) : Option (Word × Word) :=
  s.lockTestFirst.elim failing (fun n => some (w32 n, Config.lockTestResult n))

theorem State.lockTestFailure_up (upA : s.linkUp .ctrlA .safe = true) (upB : s.linkUp .ctrlB .safe = true) (failing : Option (Word × Word)) :
    s.lockTestFailure failing = failing := by
  rw [State.lockTestFailure, State.lockTestFirst_up upA upB, Option.elim_none]

theorem State.lockTestFailure_down (down : s.linkUp .ctrlA .safe = false ∨ s.linkUp .ctrlB .safe = false) (failing : Option (Word × Word)) :
    s.lockTestFailure failing = some (1, Config.lockTestResult 1) := by
  rw [State.lockTestFailure, State.lockTestFirst_down down, Option.elim_some]
  rfl

/-! ## The outcome of the comparator test (R463) -/

/-- The state after a failed comparator test: the run is blocked and the failure is told. -/
def State.failLockTest (s : State) (case_ result : Word) : State :=
  (((({ s with
    pwr := { s.pwr with testPending := false }
    tahr := { s.tahr with
      testFail := true
      blocked := true } } : State).raise 0x7004 3 15 [case_, result]).raise 0x0202 1 14 [0, w32 s.st.entries, 1]).raise 0x0205 3 15 [2]).modTest
    (fun t => { t with passDue := false })

theorem State.raise_events (s : State) (code source sev : Nat) (ws : List Word) : (s.raise code source sev ws).events = s.events ++ [⟨s.now, code, source, sev, ws⟩] :=
  List.map_append

theorem State.modTest_events (s : State) (f : SelfTest → SelfTest) : (s.modTest f).events = s.events := rfl

theorem State.failLockTest_events (s : State) (case_ result : Word) : (s.failLockTest case_ result).events = s.events
    ++ [⟨s.now, 0x7004, 3, 15, [case_, result]⟩, ⟨s.now, 0x0202, 1, 14, [0, w32 s.st.entries, 1]⟩, ⟨s.now, 0x0205, 3, 15, [2]⟩] := by
  rw [State.failLockTest, State.modTest_events, State.raise_events, State.raise_events, State.raise_events, List.append_assoc, List.append_assoc]
  rfl

/-- The test's meaning by name: without it the unifier would run through its 2,049 cases. -/
theorem exec_comparatorTest (failing : Option (Word × Word)) (s : State) : exec (.comparatorTest failing) s = execComparatorTest failing s := rfl

variable {failing : Option (Word × Word)} (pending : s.pwr.testPending = true)

include pending

theorem execComparatorTest_passes (sound : s.lockTestFailure failing = none) (noPass : s.st.passDue = false) :
    execComparatorTest failing s = .next (State.raise { s with
      pwr := { s.pwr with testPending := false }
      lock := { s.lock with testPass := true } } 0x7003 3 2 [2049]) := by
  rw [State.lockTestFailure] at sound
  simp only [execComparatorTest, if_pos pending, sound, if_neg (Bool.eq_false_iff.1 noPass)]

theorem execComparatorTest_fails {case_ result : Word} (failure : s.lockTestFailure failing = some (case_, result)) :
    execComparatorTest failing s = .next (s.failLockTest case_ result) := by
  rw [State.lockTestFailure] at failure
  simp only [execComparatorTest, if_pos pending, failure]
  rfl

end

/-- Settles O23: each command takes the branch its conditions name; the test's first failing case is the hardware's over sound links and case 1 over a failed one. -/
theorem lanesAndTests : Obligations.LanesAndTests := by
  unfold Obligations.LanesAndTests
  refine ⟨fun s d l w ws => execWindowClose_closes, fun s l => execLanePlan_takes, fun s l c n wmax w ws => execLaneTimeout_due, ?passes, ?fails⟩
  case passes =>
    intro s pending upA upB noPass
    exact (exec_comparatorTest none s).trans (execComparatorTest_passes pending (State.lockTestFailure_up upA upB none) noPass)
  case fails =>
    intro s f c r pending cause
    have failure : s.lockTestFailure f = some (c, r) := by
      rcases cause with ⟨upA, upB, rfl⟩ | ⟨down, rfl, rfl⟩
      · exact State.lockTestFailure_up upA upB _
      · exact State.lockTestFailure_down down f
    exact ⟨s.failLockTest c r, (exec_comparatorTest f s).trans (execComparatorTest_fails pending failure), rfl, rfl, rfl, rfl, s.failLockTest_events c r⟩

end Sys2Proof.Machine
end

section
/-! PROOFS. Every step keeps the canonical form of the sparse memories, and runs the command at the front of the queue (22_setup_registers.md R688 to R695; assumption 1). -/

namespace Sys2Proof.Machine

/-- Each command's meaning keeps the canonical form, by the frame lemma of that meaning. -/
theorem exec_keeps {z s : State} (h : Keeps z s) (i : Instr) : KeepsOut z (exec i s) :=
  match i with
  | .flit link bits => execFlit_keeps h link bits
  | .negativeAcknowledgement link seq => execNegativeAcknowledgement_keeps h link seq
  | .acknowledgementTimeout link => execAcknowledgementTimeout_keeps h link
  | .forwardedEffect => execForwardedEffect_keeps h
  | .dieFault die => execDieFault_keeps h die
  | .referenceSet ch => execReferenceSet_keeps h ch
  | .cutOffInstant ch => execCutOffInstant_keeps h ch
  | .timeBaseLock => execTimeBaseLock_keeps h
  | .lockTimeout => execLockTimeout_keeps h
  | .referenceLost lastEdge => execReferenceLost_keeps h lastEdge
  | .referenceReturn => execReferenceReturn_keeps h
  | .holdoverTimeout => execHoldoverTimeout_keeps h
  | .devTimeLo => execDevTimeLo_keeps h
  | .timeCode die code crc => execTimeCode_keeps h die code crc
  | .frameMessage die message => execFrameMessage_keeps h die message
  | .resyncMessage die message => execResyncMessage_keeps h die message
  | .timerMatch die index => execTimerMatch_keeps h die index
  | .sampleInstant ch bits => execSampleInstant_keeps h ch bits
  | .frameBoundary ch => execFrameBoundary_keeps h ch
  | .carrierStart => execCarrierStart_keeps h
  | .syncEdge edge => execSyncEdge_keeps h edge
  | .missedEdge ch => execMissedEdge_keeps h ch
  | .missedTarget ch => execMissedTarget_keeps h ch
  | .syncOutPulseEnd => execSyncOutPulseEnd_keeps h
  | .chResync ch value => execChResync_keeps h ch value
  | .resyncDropped ch => execResyncDropped_keeps h ch
  | .hardResync ch => execHardResync_keeps h ch
  | .resyncHoldEnd ch => execResyncHoldEnd_keeps h ch
  | .phaseJump ch => execPhaseJump_keeps h ch
  | .scrub die upsets => execScrub_keeps h die upsets
  | .runReady die slot => execRunReady_keeps h die slot
  | .runStart die engine => execRunStart_keeps h die engine
  | .nop die engine => execNop_keeps h die engine
  | .fend die engine => execFend_keeps h die engine
  | .wait die engine => execWait_keeps h die engine
  | .waitCompletion die engine => execWaitCompletion_keeps h die engine
  | .br die engine => execBr_keeps h die engine
  | .bz die engine => execBz_keeps h die engine
  | .bnz die engine => execBnz_keeps h die engine
  | .lps die engine => execLps_keeps h die engine
  | .lpe die engine => execLpe_keeps h die engine
  | .rinfo die engine => execRinfo_keeps h die engine
  | .add die engine => execAdd_keeps h die engine
  | .sub die engine => execSub_keeps h die engine
  | .mul die engine => execMul_keeps h die engine
  | .mulh die engine => execMulh_keeps h die engine
  | .mulhu die engine => execMulhu_keeps h die engine
  | .and die engine => execAnd_keeps h die engine
  | .or die engine => execOr_keeps h die engine
  | .xor die engine => execXor_keeps h die engine
  | .shl die engine => execShl_keeps h die engine
  | .shr die engine => execShr_keeps h die engine
  | .sar die engine => execSar_keeps h die engine
  | .min die engine => execMin_keeps h die engine
  | .max die engine => execMax_keeps h die engine
  | .minu die engine => execMinu_keeps h die engine
  | .maxu die engine => execMaxu_keeps h die engine
  | .seq die engine => execSeq_keeps h die engine
  | .slt die engine => execSlt_keeps h die engine
  | .sltu die engine => execSltu_keeps h die engine
  | .sel die engine => execSel_keeps h die engine
  | .movi die engine => execMovi_keeps h die engine
  | .qmul die engine => execQmul_keeps h die engine
  | .qint die engine => execQint_keeps h die engine
  | .sadd die engine => execSadd_keeps h die engine
  | .ssub die engine => execSsub_keeps h die engine
  | .fadd die engine => execFadd_keeps h die engine
  | .fsub die engine => execFsub_keeps h die engine
  | .fmul die engine => execFmul_keeps h die engine
  | .fma die engine => execFma_keeps h die engine
  | .fms die engine => execFms_keeps h die engine
  | .fnma die engine => execFnma_keeps h die engine
  | .fdiv die engine => execFdiv_keeps h die engine
  | .fsqrt die engine => execFsqrt_keeps h die engine
  | .frsq die engine => execFrsq_keeps h die engine
  | .fmin die engine => execFmin_keeps h die engine
  | .fmax die engine => execFmax_keeps h die engine
  | .fabs die engine => execFabs_keeps h die engine
  | .fneg die engine => execFneg_keeps h die engine
  | .feq die engine => execFeq_keeps h die engine
  | .flt die engine => execFlt_keeps h die engine
  | .fle die engine => execFle_keeps h die engine
  | .fclamp die engine => execFclamp_keeps h die engine
  | .cvtfi die engine => execCvtfi_keeps h die engine
  | .cvtif die engine => execCvtif_keeps h die engine
  | .cvtuf die engine => execCvtuf_keeps h die engine
  | .cvtfq die engine => execCvtfq_keeps h die engine
  | .cvtqf die engine => execCvtqf_keeps h die engine
  | .sincos die engine => execSincos_keeps h die engine
  | .atan2 die engine => execAtan2_keeps h die engine
  | .aadd die engine => execAadd_keeps h die engine
  | .asub die engine => execAsub_keeps h die engine
  | .cvtaf die engine => execCvtaf_keeps h die engine
  | .cvtfa die engine => execCvtfa_keeps h die engine
  | .lds die engine => execLds_keeps h die engine
  | .ldv die engine => execLdv_keeps h die engine
  | .sts die engine => execSts_keeps h die engine
  | .stv die engine => execStv_keeps h die engine
  | .tl1 die engine => execTl1_keeps h die engine
  | .tl1r die engine => execTl1r_keeps h die engine
  | .tl2 die engine => execTl2_keeps h die engine
  | .tl2r die engine => execTl2r_keeps h die engine
  | .xrd die engine => execXrd_keeps h die engine
  | .xmov die engine => execXmov_keeps h die engine
  | .xadd die engine => execXadd_keeps h die engine
  | .xsub die engine => execXsub_keeps h die engine
  | .xst die engine => execXst_keeps h die engine
  | .velvetReading die delays => execVelvetReading_keeps h die delays
  | .programMove slot => execProgramMove_keeps h slot
  | .ageingPairReading die stressed unstressed => execAgeingPairReading_keeps h die stressed unstressed
  | .eolMargin => execEolMargin_keeps h
  | .ageingRecord hotA hotB => execAgeingRecord_keeps h hotA hotB
  | .planDecision => execPlanDecision_keeps h
  | .avsReadback die mV => execAvsReadback_keeps h die mV
  | .avsTimeout die => execAvsTimeout_keeps h die
  | .runDeadline slot => execRunDeadline_keeps h slot
  | .swapBoundary ch => execSwapBoundary_keeps h ch
  | .sdmStuck die input bits => execSdmStuck_keeps h die input bits
  | .sdmRestored die input bits => execSdmRestored_keeps h die input bits
  | .filterSettled die input bits => execFilterSettled_keeps h die input bits
  | .sinc1Trip die input bits => execSinc1Trip_keeps h die input bits
  | .ocTripRelease ch => execOcTripRelease_keeps h ch
  | .adcTimerTrigger die conv => execAdcTimerTrigger_keeps h die conv
  | .conversionEnd die conv nanovolts => execConversionEnd_keeps h die conv nanovolts
  | .urgentRequest ch => execUrgentRequest_keeps h ch
  | .urgentConversionEnd die conv nanovolts => execUrgentConversionEnd_keeps h die conv nanovolts
  | .plausibilityPeriod die pair => execPlausibilityPeriod_keeps h die pair
  | .housekeeping die => execHousekeeping_keeps h die
  | .measDelivery ch second => execMeasDelivery_keeps h ch second
  | .measLate ch => execMeasLate_keeps h ch
  | .smpRptr buffer value => execSmpRptr_keeps h buffer value
  | .owStatus die index value => execOwStatus_keeps h die index value
  | .resolverSample die pif aSin aCos bSin bCos => execResolverSample_keeps h die pif aSin aCos bSin bCos
  | .ssiRequest die pif dataHigh => execSsiRequest_keeps h die pif dataHigh
  | .ssiWord die pif bits => execSsiWord_keeps h die pif bits
  | .monoflopEnd die pif dataHigh => execMonoflopEnd_keeps h die pif dataHigh
  | .encoderEdge die pif a b => execEncoderEdge_keeps h die pif a b
  | .indexPulse die z => execIndexPulse_keeps h die z
  | .countDelivery die pif => execCountDelivery_keeps h die pif
  | .observerTimeout die pif => execObserverTimeout_keeps h die pif
  | .interfaceSignals die pif => execInterfaceSignals_keeps h die pif
  | .compareEvaluation die unit => execCompareEvaluation_keeps h die unit
  | .compOutPulseEnd die unit => execCompOutPulseEnd_keeps h die unit
  | .cmpCtrl die unit value => execCmpCtrl_keeps h die unit value
  | .cmpList die unit entry high value => execCmpList_keeps h die unit entry high value
  | .emulatorUpdate die => execEmulatorUpdate_keeps h die
  | .characterLockLoss port => execCharacterLockLoss_keeps h port
  | .idleLock port => execIdleLock_keeps h port
  | .identReqPeriod port => execIdentReqPeriod_keeps h port
  | .ident port body valid => execIdent_keeps h port body valid
  | .timeMarkSend port => execTimeMarkSend_keeps h port
  | .timeMark port frac => execTimeMark_keeps h port frac
  | .mark port body valid => execMark_keeps h port body valid
  | .satelliteTimeMark port => execSatelliteTimeMark_keeps h port
  | .upstreamTimeMark port frac => execUpstreamTimeMark_keeps h port frac
  | .echo port body valid => execEcho_keeps h port body valid
  | .edge port body valid => execEdge_keeps h port body valid
  | .trim port body valid => execTrim_keeps h port body valid
  | .config port body valid => execConfig_keeps h port body valid
  | .retire port body valid => execRetire_keeps h port body valid
  | .clear port body valid => execClear_keeps h port body valid
  | .identReq port body valid => execIdentReq_keeps h port body valid
  | .resume port body valid => execResume_keeps h port body valid
  | .holdSet port data => execHoldSet_keeps h port data
  | .holdDeadline port => execHoldDeadline_keeps h port
  | .dieSwitch port die => execDieSwitch_keeps h port die
  | .halfEnd port meas => execHalfEnd_keeps h port meas
  | .satelliteLinkLoss port => execSatelliteLinkLoss_keeps h port
  | .desaturation port die supply => execDesaturation_keeps h port die supply
  | .overtemperatureCheck port temps => execOvertemperatureCheck_keeps h port temps
  | .faultSetRepeat port => execFaultSetRepeat_keeps h port
  | .faultSet port data => execFaultSet_keeps h port data
  | .faultDecision port => execFaultDecision_keeps h port
  | .telem port body valid => execTelem_keeps h port body valid
  | .upstreamSilence port => execUpstreamSilence_keeps h port
  | .gaUnretire ch value => execGaUnretire_keeps h ch value
  | .tpIdLo port => execTpIdLo_keeps h port
  | .ocTrip ch => execOcTrip_keeps h ch
  | .ocHoldExpiry ch => execOcHoldExpiry_keeps h ch
  | .phaseLossWindow ch => execPhaseLossWindow_keeps h ch
  | .tAscExpiry ch => execTAscExpiry_keeps h ch
  | .release ch => execRelease_keeps h ch
  | .disch ch => execDisch_keeps h ch
  | .dischStop ch => execDischStop_keeps h ch
  | .dischargeTimeout ch => execDischargeTimeout_keeps h ch
  | .shutdownVsup millivolts => execShutdownVsup_keeps h millivolts
  | .sdRampExpiry => execSdRampExpiry_keeps h
  | .shutdownDischargesEnded => execShutdownDischargesEnded_keeps h
  | .shutdownDone => execShutdownDone_keeps h
  | .vsupDip millivolts => execVsupDip_keeps h millivolts
  | .verdict slot => execVerdict_keeps h slot
  | .windowClose die lane => execWindowClose_keeps h die lane
  | .lanePlan lane => execLanePlan_keeps h lane
  | .windowRecord die lane ch frame sig => execWindowRecord_keeps h die lane ch frame sig
  | .windowDecision lane => execWindowDecision_keeps h lane
  | .laneTimeout lane => execLaneTimeout_keeps h lane
  | .comparatorTest failing => execComparatorTest_keeps h failing
  | .tahrCycle checks stoABack soBack => execTahrCycle_keeps h checks stoABack soBack
  | .safeLevelChange chamois input millivolts => execSafeLevelChange_keeps h chamois input millivolts
  | .tChExpiry f => execTChExpiry_keeps h f
  | .functionRelease f => execFunctionRelease_keeps h f
  | .testPulse t => execTestPulse_keeps h t
  | .testPulseSample t millivolts => execTestPulseSample_keeps h t millivolts
  | .testPulseEnd t => execTestPulseEnd_keeps h t
  | .chamoisParameters equal => execChamoisParameters_keeps h equal
  | .tahrStatus valid => execTahrStatus_keeps h valid
  | .tahrLost => execTahrLost_keeps h
  | .ss1Request ch sto source => execSs1Request_keeps h ch sto source
  | .soTest out second => execSoTest_keeps h out second
  | .bleat => execBleat_keeps h
  | .lockoutExpiry => execLockoutExpiry_keeps h
  | .read ring data => execRead_keeps h ring data
  | .write ring data => execWrite_keeps h ring data
  | .confirm ring data => execConfirm_keeps h ring data
  | .setPassword ring data => execSetPassword_keeps h ring data
  | .readLog ring data => execReadLog_keeps h ring data
  | .ackFault ring data => execAckFault_keeps h ring data
  | .hold ring data => execHold_keeps h ring data
  | .auxOff => execAuxOff_keeps h
  | .auxOffRelease => execAuxOffRelease_keeps h
  | .valley slot codes ain pwm => execValley_keeps h slot codes ain pwm
  | .legFault slot leg high measured => execLegFault_keeps h slot leg high measured
  | .supplyMonitor monitor hb millivolts => execSupplyMonitor_keeps h monitor hb millivolts
  | .thermalUpdate slot => execThermalUpdate_keeps h slot
  | .slotCommand slot => execSlotCommand_keeps h slot
  | .cmdTmoExpiry slot => execCmdTmoExpiry_keeps h slot
  | .hallChange slot hall => execHallChange_keeps h slot hall
  | .hallTimeout slot => execHallTimeout_keeps h slot
  | .blockAdvance slot => execBlockAdvance_keeps h slot
  | .pwmInTimeout input => execPwmInTimeout_keeps h input
  | .profileUpdate slot => execProfileUpdate_keeps h slot
  | .holdReduction slot => execHoldReduction_keeps h slot
  | .doorbellTail ring value => execDoorbellTail_keeps h ring value
  | .doorbellHead ring value => execDoorbellHead_keeps h ring value
  | .enable => execEnable_keeps h
  | .disable => execDisable_keeps h
  | .readContext => execReadContext_keeps h
  | .descriptorFetch ring good bytes => execDescriptorFetch_keeps h ring good bytes
  | .descriptorNop ring => execDescriptorNop_keeps h ring
  | .fence ring => execFence_keeps h ring
  | .fenceCompletion ring => execFenceCompletion_keeps h ring
  | .writeSignals ring data => execWriteSignals_keeps h ring data
  | .readSignals ring => execReadSignals_keeps h ring
  | .writeSignalsAtFrame ring data => execWriteSignalsAtFrame_keeps h ring data
  | .timedWriteCommit ch => execTimedWriteCommit_keeps h ch
  | .loadProgram ring data => execLoadProgram_keeps h ring data
  | .swapProgram ring => execSwapProgram_keeps h ring
  | .loadTable ring data => execLoadTable_keeps h ring data
  | .armTrace ring data => execArmTrace_keeps h ring data
  | .disarm ring => execDisarm_keeps h ring
  | .drainTrace ring => execDrainTrace_keeps h ring
  | .drainSamples ring => execDrainSamples_keeps h ring
  | .channelModeSettings ring => execChannelModeSettings_keeps h ring
  | .channelModeResync ring => execChannelModeResync_keeps h ring
  | .channelModeRelease ring => execChannelModeRelease_keeps h ring
  | .settingsEffect ch => execSettingsEffect_keeps h ch
  | .shutdownRequest ring => execShutdownRequest_keeps h ring
  | .rungRequest ring => execRungRequest_keeps h ring
  | .storeRecord ring data => execStoreRecord_keeps h ring data
  | .readRecord ring => execReadRecord_keeps h ring
  | .identityChallenge ring => execIdentityChallenge_keeps h ring
  | .descriptorCompletion cring => execDescriptorCompletion_keeps h cring
  | .modTimeExpiry ring => execModTimeExpiry_keeps h ring
  | .disconnect cause => execDisconnect_keeps h cause
  | .hostConnect speed width => execHostConnect_keeps h speed width
  | .reCtrl value => execReCtrl_keeps h value
  | .canFrameReceived k id ide fdf brs esi remote dlc data sof => execCanFrameReceived_keeps h k id ide fdf brs esi remote dlc data sof
  | .transmitCommit k object => execTransmitCommit_keeps h k object
  | .transmissionEnd k outcome sof => execTransmissionEnd_keeps h k outcome sof
  | .recover k => execRecover_keeps h k
  | .canBusOn k => execCanBusOn_keeps h k
  | .txFlush k => execTxFlush_keeps h k
  | .objectLock k object => execObjectLock_keeps h k object
  | .objectUnlock k object => execObjectUnlock_keeps h k object
  | .canLockTimeout k => execCanLockTimeout_keeps h k
  | .canStatusCommit k => execCanStatusCommit_keeps h k
  | .targetDescent value => execTargetDescent_keeps h value
  | .targetWake value => execTargetWake_keeps h value
  | .wakeN => execWakeN_keeps h
  | .wakeTimer => execWakeTimer_keeps h
  | .ladderImageWritten => execLadderImageWritten_keeps h
  | .climbStepReady rails => execClimbStepReady_keeps h rails
  | .readyTimeout rails => execReadyTimeout_keeps h rails
  | .pwrStatus value => execPwrStatus_keeps h value
  | .pwrTimerHi value => execPwrTimerHi_keeps h value
  | .powerOn => execPowerOn_keeps h
  | .resetN lowTicks refSel ioMillivolts => execResetN_keeps h lowTicks refSel ioMillivolts
  | .railFault rail millivolts => execRailFault_keeps h rail millivolts
  | .coldStart vsup tahrOk => execColdStart_keeps h vsup tahrOk
  | .setupLock value => execSetupLock_keeps h value
  | .setupLocked => execSetupLocked_keeps h
  | .registerWrite offset value => execRegisterWrite_keeps h offset value
  | .start rails tickOk => execStart_keeps h rails tickOk
  | .fuse => execFuse_keeps h
  | .selfTestEnd cells logic analogue repeats => execSelfTestEnd_keeps h cells logic analogue repeats
  | .selfTestAbort rails tickOk => execSelfTestAbort_keeps h rails tickOk
  | .fuseDone => execFuseDone_keeps h
  | .bankWriteDone => execBankWriteDone_keeps h
  | .eventLogFlush => execEventLogFlush_keeps h
  | .enterField ring data => execEnterField_keeps h ring data
  | .enterMaintain ring data => execEnterMaintain_keeps h ring data
  | .bind ring data => execBind_keeps h ring data
  | .unbind ring data => execUnbind_keeps h ring data
  | .ackSatellite ring data => execAckSatellite_keeps h ring data
  | .ownerLock ring data => execOwnerLock_keeps h ring data
  | .lifecycleRetire ring data => execLifecycleRetire_keeps h ring data
  | .devIdLo => execDevIdLo_keeps h
  | .lcNonceLo => execLcNonceLo_keeps h
  | .trialTimer => execTrialTimer_keeps h
  | .hello frame => execHello_keeps h frame
  | .auth frame => execAuth_keeps h frame
  | .close frame => execClose_keeps h frame
  | .sessionTimeout => execSessionTimeout_keeps h
  | .svcReadSignals frame => execSvcReadSignals_keeps h frame
  | .svcReadRecord frame => execSvcReadRecord_keeps h frame
  | .writeBegin frame => execWriteBegin_keeps h frame
  | .writeData frame => execWriteData_keeps h frame
  | .writeEnd frame => execWriteEnd_keeps h frame
  | .lifecycle frame => execLifecycle_keeps h frame
  | .identity frame => execIdentity_keeps h frame
  | .eventArrival index => execEventArrival_keeps h index
  | .eventRelease => execEventRelease_keeps h
  | .sdmSampleRecord die input bits => execSdmSampleRecord_keeps h die input bits
  | .soTestEnd out second on => execSoTestEnd_keeps h out second on
  | .completionTimeout ring => execCompletionTimeout_keeps h ring
  | .canReceiveError k dominant => execCanReceiveError_keeps h k dominant
  | .resetNLow => execResetNLow_keeps h
  | .pcieError uncorrectable correctable => execPcieError_keeps h uncorrectable correctable

/-- What waits in the queue is no part of the memories. -/
theorem keeps_pending (s : State) (cs : List Instr) : Keeps s { s with pending := cs } := ⟨id⟩

theorem step_front (s : State) (c : Instr) (cs : List Instr) : step { s with pending := c :: cs } = exec c { s with pending := cs } := rfl

theorem step_waiting {s : State} {c : Instr} {cs : List Instr} (queue : s.pending = c :: cs) : step s = exec c { s with pending := cs } := by
  simp only [step, queue]

theorem step_keeps (s : State) : KeepsOut s (step s) := by
  rcases queue : s.pending with _ | ⟨c, cs⟩
  · rw [step_idle queue]
    exact keepsOut_next (State.tick_keeps (Keeps.refl s))
  · rw [step_waiting queue]
    exact exec_keeps (keeps_pending s cs) c

/-- Settles O59: a step is a tick or the front command's meaning, and each of them keeps the canonical form. -/
theorem memoriesStayCanonical : Obligations.MemoriesStayCanonical := by
  unfold Obligations.MemoriesStayCanonical
  exact fun s t canonical stepped => ((step_keeps s).keeps t stepped).keeps canonical

/-- Settles O1: the equation of `step` on a queue that is not empty. -/
theorem stepRunsFrontCommand : Obligations.StepRunsFrontCommand := by
  unfold Obligations.StepRunsFrontCommand
  exact step_front

end Sys2Proof.Machine
end

section
/-! PROOFS. The reorder stage, the arrival of events and their release into the device event queue (21_guarantees.md R679 to R684, 18_power_ladder.md R618). -/

namespace Sys2Proof.Machine

/-! ## The order of the reorder stage (R679) -/

theorem Staged.before_iff (x y : Staged) : x.before y = true ↔
    toLex (x.ev.time, toLex (x.ev.source, toLex (x.ev.code, x.order))) < toLex (y.ev.time, toLex (y.ev.source, toLex (y.ev.code, y.order))) := by
  simp only [Staged.before, Prod.Lex.toLex_lt_toLex]
  split_ifs with time source code <;> simp_all [lt_iff_le_and_ne]

/-- The order is total: an entry that does not come before another comes after it or ties with it, so what it precedes the other precedes too. -/
theorem Staged.not_before_of_before {x y z : Staged} (first : x.before y = true) (later : z.before y = false) : z.before x = false := by
  rw [← Bool.not_eq_true, Staged.before_iff] at later ⊢
  rw [Staged.before_iff] at first
  exact fun earlier => later (earlier.trans first)

theorem Staged.not_before_of_before_self {x y : Staged} (first : x.before y = true) : y.before x = false := by
  rw [← Bool.not_eq_true, Staged.before_iff]
  exact lt_asymm ((Staged.before_iff x y).1 first)

theorem stagePut_perm (x : Staged) (l : List Staged) : (stagePut x l).Perm (x :: l) := by
  induction l with
  | nil => exact .refl _
  | cons y ys ih =>
    rw [stagePut]
    split
    · exact .refl _
    · exact (ih.cons y).trans (.swap x y ys)

theorem stagePut_sorted (x : Staged) (l : List Staged) (sorted : l.Pairwise (fun a b => b.before a = false)) :
    (stagePut x l).Pairwise (fun a b => b.before a = false) := by
  induction l with
  | nil => exact List.pairwise_singleton _ x
  | cons y ys ih =>
    obtain ⟨head, tail⟩ := List.pairwise_cons.1 sorted
    rw [stagePut]
    split
    case isTrue first =>
      refine List.pairwise_cons.2 ⟨fun z mem => ?_, sorted⟩
      rcases List.mem_cons.1 mem with rfl | behind
      · exact Staged.not_before_of_before_self first
      · exact Staged.not_before_of_before first (head z behind)
    case isFalse later =>
      refine List.pairwise_cons.2 ⟨fun z mem => ?_, ih tail⟩
      rcases List.mem_cons.1 ((stagePut_perm x ys).mem_iff.1 mem) with rfl | behind
      · exact Bool.eq_false_iff.2 later
      · exact head z behind

/-- Settles O52: the entry goes in front of the first one that it comes before. -/
theorem reorderStageSorted : Obligations.ReorderStageSorted := by
  unfold Obligations.ReorderStageSorted
  exact fun x l => ⟨stagePut_perm x l, stagePut_sorted x l⟩

/-! ## Arrival (R618, R679, R680, R684) -/

section
variable {s : State} {i : Nat} {e : Event} {o : Nat}

theorem execEventArrival_on (on : s.ctrlAOn = true) (due : (s.ev.aon ++ s.ev.raised)[i]? = some (e, o)) :
    execEventArrival i s = .next ((s.modEv (fun u => { u with
      aon := u.aon.eraseIdx i
      raised := if i < s.ev.aon.length then u.raised else u.raised.eraseIdx (i - s.ev.aon.length) })).arrive e o) := by
  simp only [execEventArrival, due, if_pos on]

/-- With CTRL-A off an event still raised moves to the always-on domain, or is dropped there. -/
theorem execEventArrival_off (off : s.ctrlAOn = false) (due : s.ev.raised[i]? = some (e, o)) :
    execEventArrival (s.ev.aon.length + i) s = .next (s.modEv (fun u => { u with
      raised := u.raised.eraseIdx i
      aon := if s.ev.aon.length < 8 then u.aon ++ [(e, o)] else u.aon
      aonDropped := if s.ev.aon.length < 8 then u.aonDropped else holdInc 0xFFFF u.aonDropped })) := by
  have oldest : (s.ev.aon ++ s.ev.raised)[s.ev.aon.length + i]? = some (e, o) := by
    rw [List.getElem?_append_right (Nat.le_add_right _ _), Nat.add_sub_cancel_left, due]
  have raised : ¬ s.ev.aon.length + i < s.ev.aon.length := by omega
  simp only [execEventArrival, oldest, off, Bool.false_eq_true, if_false, if_neg raised, Nat.add_sub_cancel_left, State.modEv]
  split <;> rfl

theorem State.arrive_inTime (room : s.ev.fill < eventPlaces) (early : s.now ≤ e.time + reorderTicks) :
    s.arrive e o = s.modEv (fun u => { u with stage := stagePut ⟨e, o, false⟩ u.stage }) := by
  simp only [State.arrive, if_pos room, if_neg (Nat.not_lt.2 early)]

theorem State.arrive_late (room : s.ev.fill < eventPlaces) (late : e.time + reorderTicks < s.now) :
    s.arrive e o = (s.modEv (fun u => { u with late := holdInc 0xFFFF u.late })).enterQueue e := by
  simp only [State.arrive, if_pos room, if_pos late, State.arriveLate, Bool.false_eq_true, if_false]

/-- The lowest severity among the arriving event, the queue and what the stage still holds (R684). -/
def State.lowestSev (s : State) (e : Event) : Nat :=
  leastSev (e.sev :: (s.ev.queue.map (fun q => q.ev.sev) ++ (s.ev.stage.filter (fun x => !x.dropped)).map (fun x => x.ev.sev)))

/-- The lowest severity stands in the queue, so it is one of the queue's entries that goes. -/
theorem State.makeRoom_queue (stands : s.ev.queue.any (fun q => q.ev.sev == s.lowestSev e) = true) :
    s.makeRoom e = (s.modEv (fun u => { u with
      dropped := holdInc 0xFFFFFFFF u.dropped
      queue := dropFirst (fun q => q.ev.sev == s.lowestSev e) u.queue }), false, s.lowestSev e) :=
  if_pos stands

end

/-! ## Release (R681, R682) -/

theorem State.enterQueue_eq (s : State) (e : Event) : s.enterQueue e = (((s.modEv (fun u => { u with
    eseq := (s.ev.eseq + 1) % 2 ^ 24
    queue := u.queue ++ [⟨e, s.ev.eseq, []⟩] })).logEvent e s.ev.eseq).canEvent e (eventRecord e s.ev.eseq false)).deliverAll := rfl

section
variable {s : State} {x : Staged} {xs : List Staged} (on : s.ctrlAOn = true) (first : s.ev.stage = x :: xs) (due : x.ev.time + reorderTicks ≤ s.now)

include on first due

theorem execEventRelease_due : execEventRelease s = if x.dropped then .next ((s.modEv (fun u => { u with stage := xs })).modEv (fun u => { u with eseq := (u.eseq + 1) % 2 ^ 24 }))
    else .next ((s.modEv (fun u => { u with stage := xs })).enterQueue x.ev) := by
  have stands : ¬ (¬ s.ctrlAOn ∨ s.now < x.ev.time + reorderTicks) := by
    simp only [on, not_true_eq_false, false_or]
    omega
  simp only [execEventRelease, first, if_neg stands]

theorem execEventRelease_dropped (gone : x.dropped = true) :
    execEventRelease s = .next ((s.modEv (fun u => { u with stage := xs })).modEv (fun u => { u with eseq := (s.ev.eseq + 1) % 2 ^ 24 })) :=
  (execEventRelease_due on first due).trans (if_pos gone)

theorem execEventRelease_enters (stays : x.dropped = false) : execEventRelease s = .next ((s.modEv (fun u => { u with stage := xs })).enterQueue x.ev) :=
  (execEventRelease_due on first due).trans (if_neg (Bool.eq_false_iff.1 stays))

end

/-- Settles O51: each arrival and each release takes the branch that its conditions name. -/
theorem eventQueue : Obligations.EventQueue := by
  unfold Obligations.EventQueue
  refine ⟨?arrival, fun s i e o => execEventArrival_off, fun s e => State.makeRoom_queue, ?release⟩
  case arrival =>
    intro s i e o on due s1
    exact ⟨execEventArrival_on on due, fun room => State.arrive_inTime (s := s1) room, fun room => State.arrive_late (s := s1) room⟩
  case release =>
    intro s x xs on first due s1 n
    exact ⟨execEventRelease_dropped on first due, fun stays => (execEventRelease_enters on first due stays).trans (congrArg _ (State.enterQueue_eq _ x.ev))⟩

end Sys2Proof.Machine
end

section
/-! PROOFS. Writes to the set-up window before and after SETUP_LOCK (22_setup_registers.md R689 to R697, 13_lockstep.md R450). -/

namespace Sys2Proof.Machine

/-! ## What a pseudo-run and a write leave of the registers -/

section
variable (s : State)

theorem State.sendFlits_regs (fs : List (Nat × Nat × Nat × BitVec 96)) : (s.sendFlits fs).regs = s.regs :=
  Quiet.regs (quiet_foldl (fun v _ => sendFlit_quiet v _ _ _ _) (Quiet.refl s))

theorem State.sendLanePlan_regs (l : EngineNo) : (s.sendLanePlan l).regs = s.regs := by
  unfold State.sendLanePlan
  dsimp only
  split <;> exact (sendDie_quiet s _ _ _ _).regs

theorem State.endWindow_regs (l : EngineNo) (last hi at_ : Nat) : (s.endWindow l last hi at_).regs = s.regs := by
  unfold State.endWindow
  dsimp only
  split
  · rfl
  · split <;> rfl

theorem State.cutLane_regs (l : EngineNo) (at_ : Nat) : (s.cutLane l at_).regs = s.regs := by
  unfold State.cutLane
  dsimp only
  split
  · rfl
  · rw [State.sendLanePlan_regs, State.modLane_regs]
    split
    · rfl
    · exact State.endWindow_regs s l _ _ _

theorem State.pseudoRun_regs (writes : Kv Word) : (s.pseudoRun writes).regs = s.regs := by
  simp only [State.pseudoRun, apply_ite State.regs, State.cutLane_regs, State.modLane_regs, State.fileOutcome, State.modCtrl_regs, State.sendFlits_regs, ite_self]

theorem State.setupSent_regs (off : Nat) (v : Word) : (s.setupSent off v).regs = s.regs := by
  rw [State.setupSent_eq]
  split
  · exact s.pseudoRun_regs _
  · rfl

/-- A word ends the SYNC_OUT pulse under way (R81). -/
def State.endsPulse (off : Nat) (w : Word) : Prop := off = Reg.syncPins ∧ (bitAt w 28 = false ∨ bitsAt w 29 3 ≠ bitsAt (s.reg off) 29 3)

variable {s} in
theorem State.writeWord_plain {off : Nat} {w : Word} (goesOn : ¬ s.endsPulse off w) : s.writeWord off w = (s.setReg off w).setupSent off w := by
  rw [State.endsPulse, ← Bool.not_eq_true] at goesOn
  exact if_neg goesOn

variable {s} in
theorem State.writeWord_ends {off : Nat} {w : Word} (ends : s.endsPulse off w) :
    s.writeWord off w = { (s.setReg off w).setupSent off w with syncOutEnd := none } := by
  rw [State.endsPulse, ← Bool.not_eq_true] at ends
  exact if_pos ends

theorem State.writeWord_regs (off : Nat) (w : Word) : (s.writeWord off w).regs = (s.setReg off w).regs := by
  by_cases ends : s.endsPulse off w
  · rw [State.writeWord_ends ends]
    exact State.setupSent_regs _ off w
  · rw [State.writeWord_plain ends]
    exact State.setupSent_regs _ off w

theorem State.writeIgnored_regs (off : Nat) (v : Word) : (s.writeIgnored off v).regs = s.regs := by
  unfold State.writeIgnored
  dsimp only
  split <;> rfl

theorem State.writeMsix_regs (off : Nat) (v : Word) : ∃ w, (s.writeMsix off v).regs = (s.setReg off w).regs := by
  unfold State.writeMsix
  dsimp only
  split
  · exact ⟨v &&& 1, by split <;> rfl⟩
  · exact ⟨v, rfl⟩

end

/-! ## The branches of a write (R689, R690, R695, R697) -/

/-- The state in which a write after SETUP_LOCK that would have changed an RWL field has been noticed (R697). -/
def State.noticed (s : State) (r : RegDef) (off : Nat) (v : Word) : State :=
  if r.holds .rwl && (r.take (fun a => a == .rw) (s.reg off) v != r.take (fun a => a == .rw || a == .rwl) (s.reg off) v || !r.holds .rw) then s.writeIgnored off v
  else s

theorem State.noticed_regs (s : State) (r : RegDef) (off : Nat) (v : Word) : (s.noticed r off v).regs = s.regs := by
  unfold State.noticed
  split
  · exact s.writeIgnored_regs off v
  · rfl

section
variable {s : State} {offset : BitVec 20} {v : Word} {r : RegDef}

/-- A write that nothing takes: the offset is unaligned, in a window the host cannot write, or not in the map. -/
theorem execRegisterWrite_nothing (h : offset.toNat % 4 ≠ 0 ∨ s.windowShut offset.toNat = true
      ∨ regAt offset.toNat = none ∧ (offset.toNat < 0x98000 ∨ 0xA0000 ≤ offset.toNat)) :
    execRegisterWrite offset v s = .next s := by
  unfold execRegisterWrite
  dsimp only
  split
  · rfl
  · rename_i open_
    obtain ⟨unnamed, outside⟩ : regAt offset.toNat = none ∧ (offset.toNat < 0x98000 ∨ 0xA0000 ≤ offset.toNat) := by tauto
    rw [if_neg (by omega), unnamed]

section
variable (aligned : offset.toNat % 4 = 0) (opened : s.windowShut offset.toNat = false) (other : ownRow offset.toNat = false)
  (outside : offset.toNat < 0x98000 ∨ 0xA0000 ≤ offset.toNat) (named : regAt offset.toNat = some r)

include aligned opened other outside named

/-- A write that reaches a register of the map. -/
theorem execRegisterWrite_reaches : execRegisterWrite offset v s = if s.glb.locked then
      .next (if r.holds .rw then (s.noticed r offset.toNat v).writeWord offset.toNat (specialWord offset.toNat (r.take (fun a => a == .rw) (s.reg offset.toNat) v))
      else s.noticed r offset.toNat v)
    else if r.holds .rw || r.holds .rwl then .next (s.writeWord offset.toNat (cleanWord offset.toNat (s.reg offset.toNat) v))
    else .next s := by
  have passes : ¬ (offset.toNat % 4 ≠ 0 ∨ s.windowShut offset.toNat = true ∨ ownRow offset.toNat = true) := by simp [aligned, opened, other]
  have mapped : ¬ (0x98000 ≤ offset.toNat ∧ offset.toNat < 0xA0000) := by omega
  simp only [execRegisterWrite, if_neg passes, if_neg mapped, named, State.noticed]

theorem execRegisterWrite_before (unlocked : s.glb.locked = false) (holds : r.holds .rw = true ∨ r.holds .rwl = true) :
    execRegisterWrite offset v s = .next (s.writeWord offset.toNat (cleanWord offset.toNat (s.reg offset.toNat) v)) := by
  have takes : (r.holds .rw || r.holds .rwl) = true := by simpa using holds
  rw [execRegisterWrite_reaches aligned opened other outside named, unlocked, takes]
  rfl

theorem execRegisterWrite_after_rw (locked : s.glb.locked = true) (rw_ : r.holds .rw = true) (rwl : r.holds .rwl = false) :
    execRegisterWrite offset v s = .next (s.writeWord offset.toNat (specialWord offset.toNat (r.take (fun a => a == .rw) (s.reg offset.toNat) v))) := by
  simp [execRegisterWrite_reaches aligned opened other outside named, State.noticed, locked, rw_, rwl]

theorem execRegisterWrite_after_rwl (locked : s.glb.locked = true) (rw_ : r.holds .rw = false) (rwl : r.holds .rwl = true) :
    execRegisterWrite offset v s = .next (s.writeIgnored offset.toNat v) := by
  simp [execRegisterWrite_reaches aligned opened other outside named, State.noticed, locked, rw_, rwl]

end

/-- Settles O49: a write takes the branch that the lock and the access types of its register name. -/
theorem registerWrites : Obligations.RegisterWrites := by
  unfold Obligations.RegisterWrites
  refine ⟨?reaches, ?word, ?sent, fun s offset v => execRegisterWrite_nothing⟩
  case reaches =>
    intro s offset v r off aligned opened other outside named
    exact ⟨execRegisterWrite_before aligned opened other outside named, execRegisterWrite_after_rw aligned opened other outside named,
      fun locked rw_ rwl => ⟨execRegisterWrite_after_rwl aligned opened other outside named locked rw_ rwl, s.writeIgnored_regs off v⟩⟩
  case word => exact fun s off w => ⟨State.writeWord_plain, State.writeWord_ends⟩
  case sent =>
    intro s off w
    rw [State.setupSent_eq]
    refine ⟨fun checked flit => if_pos ⟨checked, flit⟩, fun h => if_neg ?_⟩
    rintro ⟨checked, flit⟩
    rcases h with h | h <;> simp_all

/-! ## After SETUP_LOCK (R695, R697) -/

/-- What a write after SETUP_LOCK can do to the registers: nothing, a word of the MSI-X table, or the RW fields of a register that has some. -/
theorem execRegisterWrite_locked {t : State} (locked : s.glb.locked = true) (next : execRegisterWrite offset v s = .next t) :
    t.regs = s.regs
    ∨ (0x98000 ≤ offset.toNat ∧ offset.toNat < 0xA0000) ∧ (∃ w, t.regs = (s.setReg offset.toNat w).regs)
    ∨ ∃ r, regAt offset.toNat = some r ∧ r.holds .rw = true
      ∧ t.regs = (s.setReg offset.toNat (specialWord offset.toNat (r.take (fun a => a == .rw) (s.reg offset.toNat) v))).regs := by
  unfold execRegisterWrite at next
  dsimp only at next
  split at next
  · cases next
    exact .inl rfl
  · split at next
    case isTrue msix =>
      cases next
      exact .inr (.inl ⟨msix, s.writeMsix_regs _ v⟩)
    case isFalse =>
      split at next
      · cases next
        exact .inl rfl
      · rename_i r named
        have told := s.noticed_regs r offset.toNat v
        by_cases rw_ : r.holds .rw = true
        · rw [if_pos rw_] at next
          cases next
          refine .inr (.inr ⟨r, named, rw_, ?_⟩)
          rw [State.writeWord_regs, State.setReg_regs, State.setReg_regs]
          exact congrArg (fun m => kvSet _ m _ _) told
        · rw [if_neg rw_] at next
          cases next
          exact .inl told

end

theorem bitsAt_testBit (w : Word) (lo width i : Nat) : (bitsAt w lo width).testBit i = (decide (i < width) && w.getLsbD (lo + i)) := by
  rw [bitsAt, Nat.testBit_mod_two_pow, Nat.testBit_div_two_pow, BitVec.testBit_toNat, Nat.add_comm]

/-- Two fields of a register share no bit. -/
def FieldDef.Apart (f g : FieldDef) : Prop := f.lo + f.width ≤ g.lo ∨ g.lo + g.width ≤ f.lo

theorem bitsAt_putBits_apart {f g : FieldDef} (apart : f.Apart g) (w : Word) (v : Nat) :
    bitsAt (putBits w f.lo f.width v) g.lo g.width = bitsAt w g.lo g.width := by
  refine Nat.eq_of_testBit_eq fun i => ?_
  rw [bitsAt_testBit, bitsAt_testBit]
  by_cases inside : i < g.width
  · have outside : ¬ (f.lo ≤ g.lo + i ∧ g.lo + i - f.lo < f.width) := by
      rcases apart with below | above <;> omega
    have clear : ∀ x : Nat, x < 2 ^ f.width → (x * 2 ^ f.lo).testBit (g.lo + i) = false := by
      intro x small
      rw [Nat.testBit_mul_two_pow]
      by_cases reaches : f.lo ≤ g.lo + i
      · rw [Nat.testBit_lt_two_pow (lt_of_lt_of_le small (Nat.pow_le_pow_right (by decide) (by omega))), Bool.and_false]
      · simp [reaches]
    have mask := clear (2 ^ f.width - 1) (Nat.sub_lt (Nat.two_pow_pos _) Nat.one_pos)
    have value := clear (v % 2 ^ f.width) (Nat.mod_lt _ (Nat.two_pow_pos _))
    simp [putBits, inside, mask, value, BitVec.getLsbD_ofNat]
    intro h
    exact BitVec.lt_of_getLsbD h
  · simp [inside]

/-- A write leaves the fields it does not take. -/
theorem foldl_take_apart {ok : Access → Bool} {g : FieldDef} (v : Word) (fs : List FieldDef) (apart : ∀ f ∈ fs, ok f.access = true → f.Apart g) (w : Word) :
    bitsAt (fs.foldl (fun w f => if ok f.access then f.take w v else w) w) g.lo g.width = bitsAt w g.lo g.width := by
  induction fs generalizing w with
  | nil => rfl
  | cons f fs ih =>
    rw [List.foldl_cons, ih fun x mem => apart x (List.mem_cons_of_mem f mem)]
    split
    case isTrue takes => exact bitsAt_putBits_apart (apart f List.mem_cons_self takes) w _
    case isFalse => rfl

/-- The fields of every register lie apart. -/
theorem regMap_fields_apart : ∀ r ∈ regMap, r.fields.Pairwise FieldDef.Apart := by
  unfold FieldDef.Apart
  decide +kernel

theorem RegDef.take_keeps {r : RegDef} (mapped : r ∈ regMap) {ok : Access → Bool} {g : FieldDef} (mem : g ∈ r.fields) (kept : ok g.access = false) (old v : Word) :
    bitsAt (r.take ok old v) g.lo g.width = bitsAt old g.lo g.width := by
  refine foldl_take_apart v r.fields (fun f field takes => ?_) old
  have different : f ≠ g := fun same => by simp [same, kept] at takes
  have symmetric : Std.Symm FieldDef.Apart := ⟨fun _ _ => Or.symm⟩
  exact (regMap_fields_apart r mapped).forall field mem different

/-- Only SYNC_PINS and the planner's control word mix RW and RWL fields. -/
theorem regMap_mixed : ∀ r ∈ regMap, r.holds .rw = true → r.holds .rwl = true → r.dims = [] ∧ (r.base = 0x60010 ∨ r.base = 0x10E00) := by
  decide +kernel

theorem inDims_nil {off : Nat} (inside : inDims [] off = true) : off = 0 := by simpa [inDims] using inside

theorem specialWord_mixed {r : RegDef} (mapped : r ∈ regMap) {off : Nat} (has : r.has off = true) (rw_ : r.holds .rw = true) (rwl : r.holds .rwl = true) (v : Word) :
    specialWord off v = v := by
  obtain ⟨single, base⟩ := regMap_mixed r mapped rw_ rwl
  obtain ⟨above, offset⟩ : r.base ≤ off ∧ inDims [] (off - r.base) = true := by simpa [RegDef.has, single] using has
  have only : off = r.base := by
    have := inDims_nil offset
    omega
  rcases base with base | base <;> rw [only, base] <;> rfl

/-- The last offset of a family, from its first. -/
def dimsSpan : List (Nat × Nat) → Nat
  | [] => 0
  | (stride, count) :: ds => stride * (count - 1) + dimsSpan ds

theorem inDims_span {ds : List (Nat × Nat)} {off : Nat} (inside : inDims ds off = true) : off ≤ dimsSpan ds := by
  induction ds generalizing off with
  | nil => exact (inDims_nil inside).le
  | cons d ds ih =>
    obtain ⟨stride, count⟩ := d
    obtain ⟨few, rest⟩ : off / stride < count ∧ inDims ds (off % stride) = true := by simpa [inDims] using inside
    have steps := Nat.mul_le_mul_left stride (Nat.le_sub_one_of_lt few)
    have := Nat.div_add_mod off stride
    have := ih rest
    rw [dimsSpan]
    omega

/-- No register of the map lies in the MSI-X table. -/
theorem regMap_msix : ∀ r ∈ regMap, r.base + dimsSpan r.dims < 0x98000 ∨ 0xA0000 ≤ r.base := by
  decide +kernel

theorem regAt_mem {off : Nat} {r : RegDef} (named : regAt off = some r) : r ∈ regMap ∧ r.has off = true :=
  ⟨List.mem_of_find?_eq_some named, List.find?_some (p := fun r : RegDef => r.has off) named⟩

theorem regAt_msix {off : Nat} {r : RegDef} (named : regAt off = some r) : ¬ (0x98000 ≤ off ∧ off < 0xA0000) := by
  obtain ⟨mapped, has⟩ := regAt_mem named
  obtain ⟨above, inside⟩ : r.base ≤ off ∧ inDims r.dims (off - r.base) = true := by simpa [RegDef.has] using has
  have := inDims_span inside
  have := regMap_msix r mapped
  omega

theorem State.reg_of_regs {s t : State} (same : t.regs = s.regs) (off : Nat) : t.reg off = s.reg off := by rw [State.reg, same, State.reg]

/-- Settles O50: a write after SETUP_LOCK reaches one word, and of that word it takes the RW fields, which lie apart from the RWL fields. -/
theorem lockedConfigurationStays : Obligations.LockedConfigurationStays := by
  unfold Obligations.LockedConfigurationStays
  intro s t offset v locked canonical next off r f named mem rwl
  obtain ⟨mapped, has⟩ := regAt_mem named
  rcases execRegisterWrite_locked locked next with same | ⟨msix, w, one⟩ | ⟨q, its, rw_, one⟩
  · rw [State.reg_of_regs same]
  · have other : off ≠ offset.toNat := fun same => regAt_msix named (same ▸ msix)
    rw [State.reg_of_regs one, reg_setReg_other s _ _ _ other]
  · rw [State.reg_of_regs one]
    by_cases same : off = offset.toNat
    · subst same
      obtain rfl : q = r := Option.some.inj (its.symm.trans named)
      have holds : q.holds .rwl = true := List.any_eq_true.2 ⟨f, mem, by simp [rwl]⟩
      rw [reg_setReg_same s _ _ canonical, specialWord_mixed mapped has rw_ holds, RegDef.take_keeps mapped mem (by simp [rwl])]
    · rw [reg_setReg_other s _ _ _ same]

end Sys2Proof.Machine
end

section
/-! PROOFS. A written bank comes into force (20_store_update_identity.md R640 to R642). -/

namespace Sys2Proof.Machine

/-! ## Fields of byte strings (R12) -/

theorem leBytes_succ (n v : Nat) : leBytes (n + 1) v = BitVec.ofNat 8 v :: leBytes n (v / 256) := by
  simp only [leBytes, List.range_succ_eq_map, List.map_cons, List.map_map, pow_zero, Nat.div_one]
  congr 2
  funext i
  rw [Function.comp_apply, Nat.div_div_eq_div_mul, Nat.pow_succ']

theorem leNat_leBytes {n v : Nat} (small : v < 256 ^ n) : leNat (leBytes n v) = v := by
  induction n generalizing v with
  | zero =>
    rw [Nat.pow_zero] at small
    exact (Nat.lt_one_iff.1 small).symm
  | succ n ih =>
    rw [Nat.pow_succ] at small
    rw [leBytes_succ, leNat, ih (Nat.div_lt_of_lt_mul (by omega)), BitVec.toNat_ofNat]
    exact Nat.mod_add_div v 256

theorem leNat_lt (bs : List Byte) : leNat bs < 256 ^ bs.length := by
  induction bs with
  | nil => exact Nat.one_pos
  | cons b bs ih =>
    rw [leNat, List.length_cons, Nat.pow_succ]
    have := b.isLt
    omega

theorem fieldLe_lt (bs : List Byte) (o n : Nat) : fieldLe bs o n < 256 ^ n :=
  (leNat_lt _).trans_le (Nat.pow_le_pow_right (by decide) (List.length_take_le _ _))

/-- A field behind bytes of its offset's length. -/
theorem fieldLe_append {a : List Byte} {o : Nat} (length : a.length = o) (b : List Byte) (n : Nat) : fieldLe (a ++ b) o n = fieldLe b 0 n := by
  rw [fieldLe, fieldLe, ← length, List.drop_left, List.drop_zero]

theorem fieldLe_leBytes {n v : Nat} (small : v < 256 ^ n) (rest : List Byte) : fieldLe (leBytes n v ++ rest) 0 n = v := by
  rw [fieldLe, List.drop_zero, List.take_left' (leBytes_length n v), leNat_leBytes small]

/-! ## The header of a bank (R640) -/

theorem Bank.seq_lt (b : Bank) : b.seq < 2 ^ 32 := by
  unfold Bank.seq
  split
  · decide
  · exact fieldLe_lt _ _ _

theorem State.nextSeq_pos (s : State) (k : Nat) : s.nextSeq k ≠ 0 ∧ s.nextSeq k < 2 ^ 32 := by
  unfold State.nextSeq
  split
  · decide
  · dsimp only
    split
    · decide
    · exact ⟨‹_›, Nat.mod_lt _ (by decide)⟩

section
variable {k seq : Nat} {content : List Byte}

theorem bankHead_length (k seq len : Nat) : (bankHead k seq len).length = 16 := rfl

theorem bankHeader_take (k seq : Nat) (content : List Byte) : (bankHeader k seq content).take 16 = bankHead k seq content.length := by
  rw [bankHeader, List.append_assoc]
  exact List.take_left' (bankHead_length _ _ _)

theorem bankHeader_crc (k seq : Nat) (content : List Byte) :
    fieldLe (bankHeader k seq content) 16 4 = crc32c (bankHead k seq content.length ++ content) := by
  rw [bankHeader, List.append_assoc, fieldLe_append (bankHead_length _ _ _)]
  exact fieldLe_leBytes (crc32c_lt _) _

theorem bankHeader_magic (k seq : Nat) (content : List Byte) : fieldLe (bankHeader k seq content) 0 4 = bankMagic := by
  simp only [bankHeader, bankHead, List.append_assoc]
  exact fieldLe_leBytes (by decide) _

theorem bankHeader_kind (small : k < 256) (seq : Nat) (content : List Byte) : fieldLe (bankHeader k seq content) 4 1 = k := by
  simp only [bankHeader, bankHead, List.append_assoc]
  rw [fieldLe_append (leBytes_length 4 _)]
  exact fieldLe_leBytes small _

theorem bankHeader_format (k seq : Nat) (content : List Byte) : fieldLe (bankHeader k seq content) 5 1 = 1 := by
  simp only [bankHeader, bankHead, List.append_assoc]
  rfl

theorem bankHeader_seq (k : Nat) (small : seq < 2 ^ 32) (content : List Byte) : fieldLe (bankHeader k seq content) 8 4 = seq := by
  simp only [bankHeader, bankHead]
  rw [List.append_assoc, List.append_assoc, List.append_assoc _ _ (leBytes 4 content.length ++ _), fieldLe_append (by rfl)]
  exact fieldLe_leBytes small _

theorem bankHeader_length_field (k seq : Nat) (small : content.length < 2 ^ 32) : fieldLe (bankHeader k seq content) 12 4 = content.length := by
  simp only [bankHeader, bankHead]
  rw [List.append_assoc, List.append_assoc, fieldLe_append (by rfl)]
  exact fieldLe_leBytes small _

end

/-! ## Which bank is in force (R641, R642) -/

theorem bankSize_lt (k : Nat) : bankSize k < 2 ^ 32 := by
  unfold bankSize
  split <;> decide

/-- The bank that steps 3 to 5 of a write leave (R642). -/
def writtenBank (k seq : Nat) (content : List Byte) : Bank := { header := bankHeader k seq content, content := content, factory := false }

theorem writtenBank_seq {k seq : Nat} {content : List Byte} (small : seq < 2 ^ 32) : (writtenBank k seq content).seq = seq := bankHeader_seq k small content

theorem writtenBank_valid {k seq : Nat} {content : List Byte} (kind : k < 256) (positive : seq ≠ 0) (small : seq < 2 ^ 32)
    (fits : content.length ≤ bankSize k - 32) (own : k = 4 → fieldLe content 0 8 = Config.deviceId.toNat) : (writtenBank k seq content).valid k = true := by
  have short : content.length < 2 ^ 32 := by
    have := bankSize_lt k
    omega
  have device : (k != 4 || fieldLe content 0 8 == Config.deviceId.toNat) = true := by
    by_cases four : k = 4
    · simp [own four]
    · simp [four]
  simp only [Bank.valid, writtenBank_seq small]
  simp [writtenBank, bankHeader_magic, bankHeader_kind kind, bankHeader_format, bankHeader_length_field k seq short, bankHeader_crc, bankHeader_take, positive, fits, device]

theorem bankIx_other (k : Nat) (b : Fin 2) : bankIx k b ≠ bankIx k (1 - b) := by
  intro same
  have := congrArg Fin.val same
  have two : b = 0 ∨ b = 1 := by omega
  rcases two with rfl | rfl <;> simp [bankIx, finOf, Fin.ofNat] at this <;> omega

section
variable (s : State) (k : Nat) (content : List Byte) (by_ : WriteBy) (b : Fin 2)

theorem State.putBank_other : (s.putBank ⟨k, b, content, by_⟩).bank k (1 - b) = s.bank k (1 - b) :=
  vUpd_other _ _ _ _ (bankIx_other k b)

theorem State.putBank_bank : (s.putBank ⟨k, b, content, by_⟩).bank k b = writtenBank k (s.nextSeq k) content :=
  vUpd_same _ _ _

end

/-- Of two valid banks the one whose SEQ follows the other's is in force. -/
theorem State.inForce_next {s : State} {k : Nat} {b : Fin 2} (new : (s.bank k b).valid k = true)
    (next : (s.bank k (1 - b)).valid k = true →
      (s.bank k b).seq = if ((s.bank k (1 - b)).seq + 1) % 2 ^ 32 = 0 then 1 else ((s.bank k (1 - b)).seq + 1) % 2 ^ 32) :
    s.inForce k = some b := by
  have small := (s.bank k (1 - b)).seq_lt
  have two : b = 0 ∨ b = 1 := by omega
  rcases two with rfl | rfl
  · rw [show (1 : Fin 2) - 0 = 1 from rfl] at next small
    cases old : (s.bank k 1).valid k
    · simp only [State.inForce, new, old]
    · simp only [State.inForce, new, old, next old]
      rw [if_pos]
      split <;> omega
  · rw [show (1 : Fin 2) - 1 = 0 from rfl] at next small
    cases old : (s.bank k 0).valid k
    · simp only [State.inForce, new, old]
    · simp only [State.inForce, new, old, next old]
      rw [if_neg]
      split <;> omega

/-- The target of a write is the bank that is not in force: where the other one is valid, it is the one in force. -/
theorem State.inForce_target {s : State} {k : Nat} (record : k ≠ 7) (old : (s.bank k (1 - s.target k)).valid k = true) : s.inForce k = some (1 - s.target k) := by
  rw [State.target, if_neg record] at old ⊢
  split at old
  case h_1 none_ =>
    unfold State.inForce at none_
    dsimp only at none_
    rw [show (1 : Fin 2) - 0 = 1 from rfl] at old
    rw [old] at none_
    split at none_ <;> (try split at none_) <;> simp_all
  case h_2 b force =>
    rw [force, sub_sub_cancel]

theorem State.nextSeq_of_inForce {s : State} {k : Nat} {b : Fin 2} (force : s.inForce k = some b) :
    s.nextSeq k = if ((s.bank k b).seq + 1) % 2 ^ 32 = 0 then 1 else ((s.bank k b).seq + 1) % 2 ^ 32 := by
  simp only [State.nextSeq, force]

/-- Settles O55: the written bank is valid, and its SEQ follows that of the bank in force, which is the other one where that is valid. -/
theorem writtenBankComesIntoForce : Obligations.WrittenBankComesIntoForce := by
  unfold Obligations.WrittenBankComesIntoForce
  intro s k content by_ from1 to6 fits own t
  obtain ⟨positive, small⟩ := s.nextSeq_pos k
  have written : t.bank k (s.target k) = writtenBank k (s.nextSeq k) content := s.putBank_bank k content by_ (s.target k)
  have other : t.bank k (1 - s.target k) = s.bank k (1 - s.target k) := s.putBank_other k content by_ (s.target k)
  have valid : (t.bank k (s.target k)).valid k = true := by
    rw [written]
    exact writtenBank_valid (by omega) positive small fits own
  refine ⟨State.inForce_next valid fun old => ?_, congrArg Bank.content written, valid⟩
  rw [other] at old
  rw [written, other, writtenBank_seq small, State.nextSeq_of_inForce (State.inForce_target (by omega) old)]

end Sys2Proof.Machine
end

section
/-! PROOFS. What sending leaves alone, and the SAFETY_CONFIG commands (14_functional_safety.md R484, R501 to R504; 16_host_rings.md R549, R552, R562). -/

namespace Sys2Proof.Machine

/-! ## A message changes the links and the record of what has left (R25, R26) -/

theorem State.sendFlit_changes (s : State) (l : Fin 27) (type len : Nat) (payload : BitVec 96) :
    ∃ ls os, s.sendFlit l type len payload = { s with links := ls, outs := os } := by
  unfold State.sendFlit
  dsimp only
  split
  · exact ⟨s.links, s.outs, rfl⟩
  · split
    · exact ⟨_, s.outs, rfl⟩
    · exact ⟨_, _, rfl⟩

theorem State.sendWords_changes (s : State) (src dst : Die) (kind : String) (ws : List Nat) :
    ∃ ls os, s.sendWords src dst kind ws = { s with links := ls, outs := os } := by
  unfold State.sendWords
  split
  · exact ⟨s.links, s.outs, rfl⟩
  · generalize flitChunks ws = chunks
    induction chunks generalizing s with
    | nil => exact ⟨s.links, s.outs, rfl⟩
    | cons c chunks ih =>
      rename_i l _
      obtain ⟨ls, os, one⟩ := s.sendFlit_changes l (Config.flitType kind).toNat (4 * c.length) (flitPayload c)
      rw [List.foldl_cons, one]
      exact ih _

theorem State.sendDie_changes (s : State) (src dst : Die) (kind : String) (ws : List Nat) :
    ∃ ls os, s.sendDie src dst kind ws = { s with links := ls, outs := os } := by
  unfold State.sendDie
  split
  · obtain ⟨ls, os, sent⟩ := s.sendWords_changes src dst kind ws
    rw [sent]
    exact ⟨ls, _, rfl⟩
  · exact ⟨s.links, s.outs, rfl⟩

theorem State.sendDie_tahr (s : State) (src dst : Die) (kind : String) (ws : List Nat) : (s.sendDie src dst kind ws).tahr = s.tahr := by
  obtain ⟨ls, os, sent⟩ := s.sendDie_changes src dst kind ws
  rw [sent]

/-! ## The descriptor and its block (R502, R549, R562) -/

section
variable {s s1 : State} {ring : BitVec 16} {t : Taken} {data : Option (List Byte)} {b : List Byte} {sub : Nat}

section
variable (taken : s.take ring.toNat 0x60 (fun _ => true) = some (t, s1))

include taken

theorem safetyConfig_noData (failed : dataOf t data = none) : safetyConfig sub ring data s = s1.finish t 2 12 0 := by
  simp only [safetyConfig, taken, failed]

theorem safetyConfig_runs (read : dataOf t data = some b) (own : fieldLe b 0 1 = sub) : safetyConfig sub ring data s = s1.runSafety t b := by
  simp only [safetyConfig, taken, read, if_pos (Or.inl own)]

end

/-- The commands and their SUBOPs. -/
theorem exec_safetyConfig (s : State) (ring : BitVec 16) (data : Option (List (BitVec 8))) :
    ∀ i ∈ [(1, Instr.read ring data), (2, Instr.write ring data), (3, Instr.confirm ring data), (4, Instr.setPassword ring data),
      (5, Instr.readLog ring data), (6, Instr.ackFault ring data), (7, Instr.hold ring data)], exec i.2 s = .next (safetyConfig i.1 ring data s) := by
  simp only [List.forall_mem_cons, List.not_mem_nil, false_imp_iff, implies_true, and_true]
  exact ⟨rfl, rfl, rfl, rfl, rfl, rfl, rfl⟩

/-- The state after a request that completes at once (R562). -/
def Taken.safetyAnswered (t : Taken) (a : State × SafetyAnswer) : State :=
  (if a.2.image.isEmpty then a.1 else a.1.emit (.hostWrite (t.desc.addr + 72) a.2.image)).finish t a.2.status a.2.detail (w32 a.2.result)

/-- The state after a request whose record is to be written (R504). -/
def Taken.safetyStored (t : Taken) (a : State × SafetyAnswer) : State :=
  a.1.safetyStore (.ring t.ring t.index) ⟨t.ring, t.index, a.2.status, a.2.detail, w32 a.2.result⟩

theorem State.runSafety_busy (busy : s.safetyBusy = true) : s.runSafety t b = s.finish t 5 2 0 := if_pos busy

section
variable (free : s.safetyBusy = false)

include free

theorem State.runSafety_cut (cut : (s.safetyWrites b = true ∧ s.lifecycle = 4) ∨ s.tahrReached (s.safetyWrites b) = false) :
    s.runSafety t b = s.finish t 1 1 0 := by
  rw [← Bool.not_eq_true (s.tahrReached _)] at cut
  exact (if_neg (Bool.eq_false_iff.1 free)).trans (if_pos cut)

/-- A request that changes nothing completes at once. -/
theorem State.runSafety_answers (keeps : s.safetyWrites b = false) (up : s.tahrReached false = true) :
    s.runSafety t b = t.safetyAnswered (s.safetyRequest b 0) := by
  simp only [State.runSafety, free, keeps, up]
  rfl

theorem State.runSafety_stores (writes : s.safetyWrites b = true) (alive : s.lifecycle ≠ 4) (up : s.tahrReached true = true) :
    s.runSafety t b = t.safetyStored (s.safetyRequest b 0) := by
  simp only [State.runSafety, free, writes, up, alive, and_false, not_true_eq_false, or_self, if_false, Bool.false_eq_true, if_true]
  rfl

end

/-! ## Blocks that are refused (R502) -/

theorem State.safetyRequest_badForm (bad : blockBad b = true) : s.safetyWrites b = false ∧ s.safetyRequest b 0 = (s, ⟨2, 2, 0, []⟩) :=
  ⟨by simp [State.safetyWrites, bad], if_pos bad⟩

section
variable (good : blockBad b = false)

include good

theorem State.safetyRequest_badLength (wrong : b.length ≠ blockLen (fieldLe b 0 1)) :
    s.safetyWrites b = false ∧ s.safetyRequest b 0 = (s, ⟨2, 4, 0, []⟩) := by
  refine ⟨by simp [State.safetyWrites, wrong], ?_⟩
  simp only [State.safetyRequest, good, Bool.false_eq_true, if_false, if_pos wrong]

variable (right : b.length = blockLen (fieldLe b 0 1))

include right

theorem State.safetyRequest_absent (absent : s.acksAbsent b = true) : s.safetyWrites b = false ∧ s.safetyRequest b 0 = (s, ⟨2, 6, 0, []⟩) := by
  refine ⟨by simp [State.safetyWrites, absent], ?_⟩
  simp only [State.safetyRequest, good, Bool.false_eq_true, if_false, if_neg (not_not_intro right), absent, if_true]

variable (present : s.acksAbsent b = false)

include present

/-- A block of the right form asks for a write unless it only reads. -/
theorem State.safetyWrites_eq : s.safetyWrites b = (fieldLe b 0 1 != 1 && fieldLe b 0 1 != 5) := by
  simp [State.safetyWrites, good, present, right]

theorem State.safetyRequest_read (own : fieldLe b 0 1 = 1) : (s.safetyRequest b 0).2.status = 0
    ∧ ∀ im, (if fieldLe b 4 4 = 1 then s.tahr.pendingImage else s.tahr.image) = some im → (s.safetyRequest b 0).2.image = im := by
  simp only [State.safetyRequest, good, Bool.false_eq_true, if_false, if_neg (not_not_intro right), present, if_pos own]
  cases held : (if fieldLe b 4 4 = 1 then s.tahr.pendingImage else s.tahr.image) with
  | none => exact ⟨rfl, nofun⟩
  | some im => exact ⟨rfl, fun _ => Option.some.inj⟩

theorem State.safetyRequest_readLog (own : fieldLe b 0 1 = 5) :
    s.safetyRequest b 0 = (s, ⟨0, 0, 0, (List.range 8).flatMap (fun i => fitBytes 32 (s.tahr.log.getD ((fieldLe b 4 4 + i) % 256) []))⟩) := by
  simp [State.safetyRequest, good, right, present, own]

end

/-! ## Password and STO (R501, R502) -/

/-- Does the request ask for the password (R501)? -/
def State.needsPassword (s : State) (b : List Byte) : Bool :=
  fieldLe b 0 1 == 2 || fieldLe b 0 1 == 3 || fieldLe b 0 1 == 7 || (fieldLe b 0 1 == 4 && s.tahr.password.isSome)

theorem State.needsPassword_iff : s.needsPassword b = true ↔
    fieldLe b 0 1 = 2 ∨ fieldLe b 0 1 = 3 ∨ fieldLe b 0 1 = 7 ∨ (fieldLe b 0 1 = 4 ∧ s.tahr.password.isSome = true) := by
  simp [State.needsPassword, or_assoc]

/-- What a request does once its password has been accepted or none is asked for. -/
def State.safetyEffect (s : State) (b : List Byte) : State × Nat :=
  if (fieldLe b 0 1 == 2 || fieldLe b 0 1 == 3) && !s.allSto 0xFF then (s, 0x82)
  else if fieldLe b 0 1 == 6 && !s.allSto (fieldLe b 4 4) then (s, 0x82)
  else if fieldLe b 0 1 = 2 then s.writeImage ((b.drop 72).take imageLen)
  else if fieldLe b 0 1 = 3 then s.confirmImage (fieldLe b 4 4)
  else if fieldLe b 0 1 = 4 then (s.setPassword ((b.drop 40).take (fieldLe b 2 1)), 0)
  else if fieldLe b 0 1 = 6 then (s.ackFaults (fieldLe b 4 4), 0)
  else (s.modTahr (fun t => { t with hold := fieldLe b 4 4 == 1 }), 0)

/-- The state after a wrong password. -/
def State.wrongPassword (s : State) : State := s.countWrong.raise 0x7133 3 9 [w32 s.countWrong.tahr.pwFails]

/-- The state after a right one. -/
def State.rightPassword (s : State) : State := s.modTahr (fun t => { t with pwFails := 0 })

theorem State.safetyAct_eq (s : State) (b : List Byte) : s.safetyAct b =
    if s.needsPassword b && s.tahr.password.isNone then (s, 0x80)
    else if s.needsPassword b && s.tahr.lockout.isSome then (s, 0x81)
    else if s.needsPassword b && !s.passwordOk ((b.drop 8).take (fieldLe b 1 1)) then (s.wrongPassword, 0x80)
    else if s.needsPassword b then s.rightPassword.safetyEffect b
    else s.safetyEffect b := rfl

theorem State.safetyAct_free (free : s.needsPassword b = false) : s.safetyAct b = s.safetyEffect b := by
  rw [State.safetyAct_eq, free]
  rfl

section
variable (needs : s.needsPassword b = true)

include needs

theorem State.safetyAct_unset (unset : s.tahr.password = none) : s.safetyAct b = (s, 0x80) := by
  rw [State.safetyAct_eq, needs, unset]
  rfl

variable (set_ : s.tahr.password.isSome = true)

include set_

theorem State.safetyAct_lockout (locked : s.tahr.lockout.isSome = true) : s.safetyAct b = (s, 0x81) := by
  rw [State.safetyAct_eq, needs, ← Option.not_isSome, set_, locked]
  rfl

variable (unlocked : s.tahr.lockout = none)

include unlocked

theorem State.safetyAct_wrong (wrong : s.passwordOk ((b.drop 8).take (fieldLe b 1 1)) = false) : s.safetyAct b = (s.wrongPassword, 0x80) := by
  rw [State.safetyAct_eq, needs, ← Option.not_isSome, set_, unlocked, wrong]
  rfl

theorem State.safetyAct_right (right : s.passwordOk ((b.drop 8).take (fieldLe b 1 1)) = true) : s.safetyAct b = s.rightPassword.safetyEffect b := by
  rw [State.safetyAct_eq, needs, ← Option.not_isSome, set_, unlocked, right]
  rfl

end

theorem State.passwordOk_set {pw : List Byte} (right : s.passwordOk pw = true) : s.tahr.password.isSome = true := by
  unfold State.passwordOk at right
  split at right
  · cases right
  · rename_i held
    rw [held]
    rfl

/-! ## The effects (R484, R501, R503) -/

theorem State.safetyEffect_held (own : fieldLe b 0 1 = 2 ∨ fieldLe b 0 1 = 3) (moves : s.allSto 0xFF = false) : s.safetyEffect b = (s, 0x82) := by
  rcases own with own | own <;> simp [State.safetyEffect, own, moves]

theorem State.safetyEffect_write (own : fieldLe b 0 1 = 2) (still : s.allSto 0xFF = true) : s.safetyEffect b = s.writeImage ((b.drop 72).take imageLen) := by
  simp [State.safetyEffect, own, still]

theorem State.safetyEffect_confirm (own : fieldLe b 0 1 = 3) (still : s.allSto 0xFF = true) : s.safetyEffect b = s.confirmImage (fieldLe b 4 4) := by
  simp [State.safetyEffect, own, still]

theorem State.safetyEffect_setPassword (own : fieldLe b 0 1 = 4) : s.safetyEffect b = (s.setPassword ((b.drop 40).take (fieldLe b 2 1)), 0) := by
  simp [State.safetyEffect, own]

theorem State.safetyEffect_ackHeld (own : fieldLe b 0 1 = 6) (moves : s.allSto (fieldLe b 4 4) = false) : s.safetyEffect b = (s, 0x82) := by
  simp [State.safetyEffect, own, moves]

theorem State.safetyEffect_ack (own : fieldLe b 0 1 = 6) (still : s.allSto (fieldLe b 4 4) = true) : s.safetyEffect b = (s.ackFaults (fieldLe b 4 4), 0) := by
  simp [State.safetyEffect, own, still]

theorem State.safetyEffect_hold (own : fieldLe b 0 1 = 7) : s.safetyEffect b = (s.modTahr (fun t => { t with hold := fieldLe b 4 4 == 1 }), 0) := by
  simp [State.safetyEffect, own]

/-- An image that passes R500 becomes the pending one, with the next SERIAL; any other is refused. -/
theorem State.writeImage_result (s : State) (im : List Byte) : (s.writeImage im).2 = s.imageReason im ∧ (s.imageReason im = 0 →
    (s.writeImage im).1.tahr.pendingImage = some (im.take 12 ++ leBytes 4 ((s.tahr.serial + 1) % 2 ^ 32) ++ im.drop 16)
    ∧ (s.writeImage im).1.tahr.image = s.tahr.image) := by
  by_cases sound : s.imageReason im = 0
  · rw [State.writeImage, if_neg (not_not_intro sound)]
    exact ⟨sound.symm, fun _ => ⟨rfl, rfl⟩⟩
  · rw [State.writeImage, if_pos sound]
    exact ⟨rfl, fun none_ => absurd none_ sound⟩

theorem State.startConfig_images (s : State) : s.startConfig.tahr.image = s.tahr.image ∧ s.startConfig.tahr.pendingImage = s.tahr.pendingImage := by
  unfold State.startConfig
  dsimp only
  rw [State.sendDie_tahr]
  exact ⟨rfl, rfl⟩

theorem State.confirmImage_result {im : List Byte} {arg : Nat} (pending : s.tahr.pendingImage = some im) (names : fieldLe im 16 4 = arg) :
    (s.confirmImage arg).2 = 0 ∧ (s.confirmImage arg).1.tahr.image = some im ∧ (s.confirmImage arg).1.tahr.pendingImage = none := by
  obtain ⟨image, none_⟩ := (s.modTahr (fun t => { t with image := some im, pendingImage := none })).startConfig_images
  simp only [State.confirmImage, pending, if_neg (not_not_intro names)]
  exact ⟨trivial, image, none_⟩

/-- An update of the channels in a list ends what the update of one ends, on each of them. -/
theorem foldl_modTahrCh {p : Channel → Bool} {f : TahrChan → TahrChan} {P : TahrChan → Prop} (ends : ∀ x, P (f x)) (c : Channel) (named : p c = true)
    (cs : List Channel) (s : State) (mem : c ∈ cs ∨ P s.tahr.ch[c]) : P ((cs.foldl (fun s c => if p c then s.modTahrCh c f else s) s).tahr.ch[c]) := by
  induction cs generalizing s with
  | nil => exact mem.resolve_left List.not_mem_nil
  | cons d cs ih =>
    rw [List.foldl_cons]
    refine ih _ ?_
    by_cases same : d = c
    · subst same
      rw [if_pos named]
      exact .inr ((vUpd_same s.tahr.ch d f).symm ▸ ends _)
    · refine mem.imp (fun mem => (List.mem_cons.1 mem).resolve_left (Ne.symm same)) fun stands => ?_
      split
      · exact (vUpd_other s.tahr.ch d c f same).symm ▸ stands
      · exact stands

theorem State.ackFaults_ends (s : State) {mask : Nat} {c : Channel} (named : mask.testBit c.val = true) :
    (s.ackFaults mask).tahr.ch[c].tmFault = false ∧ (s.ackFaults mask).tahr.ch[c].rampFault = false :=
  foldl_modTahrCh (p := fun c => mask.testBit c.val) (P := fun x => x.tmFault = false ∧ x.rampFault = false) (fun _ => ⟨rfl, rfl⟩) c named (idxs 8) s
    (.inl (List.mem_finRange c))

theorem execLockoutExpiry_ends {u : Nat} (locked : s.tahr.lockout = some u) (passed : u ≤ s.now) :
    execLockoutExpiry s = .next (s.modTahr (fun t => { t with lockout := none })) := by
  simp only [execLockoutExpiry, locked, if_pos passed]

end

/-- Settles O42: a block runs as its SUBOP's request, which answers by its form, its password and the STO of its channels, in this order. -/
theorem safetyConfigCommands : Obligations.SafetyConfigCommands := by
  unfold Obligations.SafetyConfigCommands
  refine ⟨?runs, ?refused, ?acts, fun s u => execLockoutExpiry_ends⟩
  case runs =>
    intro s s1 ring t data b taken read good right present free a stored answered
    have writes := State.safetyWrites_eq good right present
    have runs : ∀ sub, fieldLe b 0 1 = sub → safetyConfig sub ring data s = s1.runSafety t b := fun sub => safetyConfig_runs taken read
    refine ⟨fun up => ⟨fun own => ?read, fun own => ?readLog⟩, fun up alive => ?stores⟩
    case read =>
      obtain ⟨status, image⟩ := State.safetyRequest_read good right present own
      rw [own] at writes
      exact ⟨congrArg _ ((runs 1 own).trans (State.runSafety_answers free writes up)), status, image⟩
    case readLog =>
      have request := State.safetyRequest_readLog good right present own
      rw [own] at writes
      exact ⟨congrArg _ ((runs 5 own).trans (State.runSafety_answers free writes up)), congrArg (·.2.status) request, congrArg (·.1) request,
        congrArg (·.2.image) request⟩
    case stores =>
      have stores : ∀ sub, sub ≠ 1 → sub ≠ 5 → fieldLe b 0 1 = sub → safetyConfig sub ring data s = stored := by
        intro sub notRead notLog own
        have writes : s1.safetyWrites b = true := by simp [writes, own, notRead, notLog]
        exact (runs sub own).trans (State.runSafety_stores free writes alive up)
      exact ⟨fun own => congrArg _ (stores 2 (by decide) (by decide) own), fun own => congrArg _ (stores 3 (by decide) (by decide) own),
        fun own => congrArg _ (stores 4 (by decide) (by decide) own), fun own => congrArg _ (stores 6 (by decide) (by decide) own),
        fun own => congrArg _ (stores 7 (by decide) (by decide) own)⟩
  case refused =>
    intro s s1 ring t data taken i mem
    rw [exec_safetyConfig s ring data i mem]
    refine ⟨fun failed => congrArg _ (safetyConfig_noData taken failed), fun b read own => ?_⟩
    rw [safetyConfig_runs taken read own]
    refine ⟨fun busy => congrArg _ (State.runSafety_busy busy), fun free cut => congrArg _ (State.runSafety_cut free cut), fun free up => ?_⟩
    have ends : ∀ status detail, s1.safetyWrites b = false ∧ s1.safetyRequest b 0 = (s1, ⟨status, detail, 0, []⟩) → s1.runSafety t b = s1.finish t status detail 0 := by
      rintro status detail ⟨keeps, request⟩
      rw [State.runSafety_answers free keeps up, request]
      rfl
    exact ⟨fun bad => congrArg _ (ends 2 2 (State.safetyRequest_badForm bad)), fun good wrong => congrArg _ (ends 2 4 (State.safetyRequest_badLength good wrong)),
      fun good right absent => congrArg _ (ends 2 6 (State.safetyRequest_absent good right absent))⟩
  case acts =>
    intro s b sub pw needs
    have asks : needs → s.needsPassword b = true := State.needsPassword_iff.2
    refine ⟨fun h => State.safetyAct_unset (asks h), fun h => State.safetyAct_lockout (asks h), ?wrong, ?right, ?first, ?ackHeld, ?ack⟩
    case wrong =>
      intro h set_ unlocked wrong
      rw [State.safetyAct_wrong (asks h) set_ unlocked wrong]
      exact ⟨rfl, rfl, rfl, rfl⟩
    case right =>
      intro h right unlocked
      rw [State.safetyAct_right (asks h) (State.passwordOk_set right) unlocked right]
      refine ⟨fun own moves => ?_, fun own still => ?_, fun own still im pending names => ?_, fun own => ?_⟩
      · rw [State.safetyEffect_held (s := s.rightPassword) own moves]
      · rw [State.safetyEffect_write (s := s.rightPassword) own still]
        exact s.rightPassword.writeImage_result _
      · rw [State.safetyEffect_confirm (s := s.rightPassword) own still]
        exact State.confirmImage_result (s := s.rightPassword) pending names
      · rw [State.safetyEffect_hold own]
        exact ⟨rfl, rfl⟩
    case first =>
      intro own unset
      have free : s.needsPassword b = false := by simp [State.needsPassword, show fieldLe b 0 1 = 4 from own, unset]
      rw [State.safetyAct_free free, State.safetyEffect_setPassword own]
      exact ⟨rfl, rfl⟩
    case ackHeld =>
      intro own moves
      have free : s.needsPassword b = false := by simp [State.needsPassword, show fieldLe b 0 1 = 6 from own]
      rw [State.safetyAct_free free, State.safetyEffect_ackHeld own moves]
    case ack =>
      intro own still
      have free : s.needsPassword b = false := by simp [State.needsPassword, show fieldLe b 0 1 = 6 from own]
      rw [State.safetyAct_free free, State.safetyEffect_ack own still]
      exact ⟨rfl, fun c named => s.ackFaults_ends named⟩

end Sys2Proof.Machine
end

section
/-! PROOFS. Safety inputs, Chamois, the cycle of Tahr and the safety outputs (14_functional_safety.md R465 to R496). -/

namespace Sys2Proof.Machine

section
variable {s : State}

/-! ## Levels (R466, R467, R477) -/

section
variable {on : Bool} {i : Fin 32} {mV : Int} {held : Nat} {b : Bool}

/-- A level is known where the pair has a threshold type: its switch point, and the upper limit below which it is read low (R466). -/
theorem State.inputLevel_known {point : Nat} {limit : Int} (type : (s.thresh on i = 1 ∧ point = (if on then 9000 else 10000) ∧ limit = 15000)
      ∨ (s.thresh on i = 3 ∧ point = (if on then 7000 else 8000) ∧ limit = 11000)) :
    s.inputLevel on i mV = (decide ((point : Int) < mV) && !decide (5000 < mV ∧ mV < limit), s) := by
  rcases type with ⟨thresh, rfl, rfl⟩ | ⟨thresh, rfl, rfl⟩ <;> simp [State.inputLevel, State.readsHigh, thresh, switchPoint, betweenLimits]

theorem State.inputLevel_unknown (not1 : s.thresh on i ≠ 1) (not3 : s.thresh on i ≠ 3) : s.inputLevel on i mV = ((s.fresh 1).1 == 1, (s.fresh 1).2) := by
  simp [State.inputLevel, State.readsHigh, switchPoint, not1, not3]

theorem execSafeLevelChange_short (short : held < s.inputFilt on i) : execSafeLevelChange on i ⟨mV, held⟩ s = .next s := congrArg _ (if_pos short)

/-- A voltage that has stood for FILT is taken as the level it reads. -/
theorem execSafeLevelChange_stands (stood : s.inputFilt on i ≤ held) :
    execSafeLevelChange on i ⟨mV, held⟩ s = .next ((s.inputLevel on i mV).2.acceptLevel on i (s.inputLevel on i mV).1) :=
  congrArg _ (if_neg (Nat.not_lt.2 stood))

theorem State.acceptLevel_same (same : s.tahr.levels.getLsbD i.val = b) : s.acceptLevel false i b = s := if_pos same

theorem State.acceptLevel_new (new : s.tahr.levels.getLsbD i.val ≠ b) : s.acceptLevel false i b = s.modTahr (fun t => { t with
    levels := setBit t.levels i.val b
    levelAt := vUpd t.levelAt i (fun _ => s.now) }) := if_neg new

end

/-! ## Chamois (R477 to R481) -/

theorem execTChExpiry_due {f : Fin 16} {ps : List Byte} {u : Nat} (params : s.chamois.params = some ps) (latched : s.chamois.latched[f] = some u)
    (due : u + chamoisFn ps f.val 8 2 * 10 * 400000 ≤ s.now) :
    execTChExpiry f s = .next ((s.modChamois (fun x => { x with stopped := setBit16 x.stopped f.val true })).settle) := by
  simp only [execTChExpiry, params, latched]
  exact if_pos due

theorem execFunctionRelease_taken {f : Fin 16} (sent : s.chamois.releases.contains f.val = true) (up : s.linkUp .safe .link = true) :
    execFunctionRelease f s = .next ((s.modChamois (fun x => { x with
      releases := x.releases.filter (· != f.val)
      released := setBit16 x.released f.val true })).chamoisEval) := if_pos ⟨sent, up⟩

section
variable {im : List Byte} (image : s.tahr.image = some im)

include image

theorem execChamoisParameters_equal (up : s.linkUp .safe .link = true) :
    execChamoisParameters true s = .next ((s.modChamois (fun x => { x with
      params := some ((im.drop 0x80).take 512)
      latched := Vector.ofFn (fun f => if chamoisActs ((im.drop 0x80).take 512) f.val then some s.now else none)
      stopped := (idxs 16).foldl (fun m f => setBit16 m f.val (chamoisActs ((im.drop 0x80).take 512) f.val)) 0
      released := 0 })).chamoisEval) := by
  simp only [execChamoisParameters, image, if_neg (not_not_intro up), if_true]

theorem execChamoisParameters_differs (up : s.linkUp .safe .link = true) (back : s.linkUp .link .safe = true) (sound : s.tahr.chamoisFault = false) :
    execChamoisParameters false s = .next ((s.modTahr (fun t => { t with chamoisFault := true })).raise 0x7121 3 15 [1]) := by
  simp only [execChamoisParameters, image, if_neg (not_not_intro up), if_pos back, State.chamoisFaultAt, sound, Bool.false_eq_true, if_false]
  rfl

theorem execChamoisParameters_cut (b : Bool) (down : s.linkUp .safe .link = false) : execChamoisParameters b s = .next s := by
  simp only [execChamoisParameters, image, down, Bool.false_eq_true, not_false_eq_true, if_true]

end

theorem execTahrStatus_valid (up : s.linkUp .safe .link = true) : execTahrStatus true s = .next (s.modChamois (fun x => { x with lastStatus := s.now })) :=
  if_pos ⟨rfl, up⟩

theorem execTahrStatus_cut (down : s.linkUp .safe .link = false) : execTahrStatus true s = .next s := if_neg (by simp [down])

theorem execTahrStatus_invalid : execTahrStatus false s = .next s := if_neg (by simp)

theorem execTahrLost_due (started : s.pwr.started = true) (rung : s.pwr.rung ≤ 3) (due : s.chamois.lastStatus + 400000 ≤ s.now) :
    execTahrLost s = .next (s.chamoisLoss 0) := if_pos ⟨started, rung, due⟩

/-! ## Test pulses (R468) -/

theorem execTestPulse_begins {t : Fin 4} {a : Nat} (image : s.tahr.image.isSome = true) (start : s.pulseStart t = some a) (new : s.tahr.pulseAt[t] ≠ some a)
    (lasts : s.now < a + s.tpWidth) : execTestPulse t s = .next (s.modTahr (fun x => { x with
      tpoLow := x.tpoLow ||| BitVec.ofNat 4 (2 ^ t.val)
      pulseAt := vUpd x.pulseAt t (fun _ => some a) })) := by
  obtain ⟨im, image⟩ := Option.isSome_iff_exists.1 image
  simp only [execTestPulse, image, start]
  exact if_neg (not_or.2 ⟨new, Nat.not_le.2 lasts⟩)

/-- What a pulse of TPO_t shows of pair k: one of its inputs that TPO_t supplies still reads high (R468). -/
def State.pulseFails (s : State) (t : Fin 4) (raw : List Int) (k : Fin 16) : Bool :=
  s.sPair k.val 0 1 != 0 && (List.range 2).any (fun j => s.sPair k.val (2 + j) 1 == t.val && s.tahr.levels.getLsbD (2 * k.val + j)
    && s.readsHigh false (finOf 31 (2 * k.val + j)) (raw.getD (2 * k.val + j) 0) == some true)

/-- Marking the pairs of a list that fail a test changes these pairs only. -/
theorem foldl_modSiPair (p : State → Fin 16 → Bool) (f : SiPair → SiPair)
    (fixed : ∀ (u : State) (ps : Vector SiPair 16) (k : Fin 16), p (u.modTahr (fun x => { x with pairs := ps })) k = p u k) (s : State)
    (ks : List (Fin 16)) (once : ks.Nodup) :
    ∃ ps, ks.foldl (fun u k => if p u k then u.modSiPair k f else u) s = s.modTahr (fun x => { x with pairs := ps })
      ∧ ∀ k : Fin 16, ps[k] = if k ∈ ks ∧ p s k then f s.tahr.pairs[k] else s.tahr.pairs[k] := by
  induction ks generalizing s with
  | nil => exact ⟨s.tahr.pairs, rfl, fun k => (if_neg (fun h => List.not_mem_nil h.1)).symm⟩
  | cons j ks ih =>
    obtain ⟨fresh, once⟩ := List.nodup_cons.1 once
    rw [List.foldl_cons]
    by_cases fails : p s j
    · rw [if_pos fails]
      obtain ⟨ps, folded, entries⟩ := ih (s.modSiPair j f) once
      refine ⟨ps, folded, fun k => (entries k).trans ?_⟩
      rw [show p (s.modSiPair j f) k = p s k from fixed s (vUpd s.tahr.pairs j f) k]
      by_cases same : k = j
      · subst same
        rw [if_neg (fun h => fresh h.1), if_pos ⟨List.mem_cons_self, fails⟩]
        exact vUpd_same s.tahr.pairs k f
      · rw [show (s.modSiPair j f).tahr.pairs[k] = s.tahr.pairs[k] from vUpd_other s.tahr.pairs j k f (Ne.symm same)]
        simp [same]
    · rw [if_neg fails]
      obtain ⟨ps, folded, entries⟩ := ih s once
      refine ⟨ps, folded, fun k => (entries k).trans ?_⟩
      by_cases same : k = j
      · subst same
        simp [fails]
      · simp [same]

theorem State.pulseFails_congr {u : State} (image : u.tahr.image = s.tahr.image) (levels : u.tahr.levels = s.tahr.levels) (t : Fin 4) (raw : List Int) (k : Fin 16) :
    u.pulseFails t raw k = s.pulseFails t raw k := by
  have pair : u.sPair = s.sPair := by
    funext k off n
    rw [State.sPair, State.sPair, State.sImg, State.sImg, image]
  have reads : u.readsHigh false = s.readsHigh false := by
    funext i mV
    simp only [State.readsHigh, State.thresh, pair, Bool.false_eq_true, if_false]
  rw [State.pulseFails, State.pulseFails, pair, reads, levels]

theorem execTestPulseSample_due {t : Fin 4} {a : Nat} (raw : List Int) (pulse : s.tahr.pulseAt[t] = some a) (low : s.tahr.tpoLow.getLsbD t.val = true) :
    a + s.tpWidth - 8000 ≤ s.now → ∃ ps, execTestPulseSample t raw s = .next (s.modTahr (fun x => { x with pairs := ps }))
      ∧ ∀ k : Fin 16, ps[k] = { s.tahr.pairs[k] with testFault := (s.tahr.pairs[k]).testFault || s.pulseFails t raw k } := by
  obtain ⟨ps, folded, entries⟩ := foldl_modSiPair (fun u k => u.pulseFails t raw k) (fun p => { p with testFault := true })
    (fun u ps k => State.pulseFails_congr rfl rfl t raw k) s
    (idxs 16) (List.nodup_finRange 16)
  refine fun due => ⟨ps, ?_, fun k => (entries k).trans ?_⟩
  · have fails : ∀ (u : State) (k : Fin 16), (u.sPair k.val 0 1 ≠ 0 ∧ (
        (u.sPair k.val (2 + 0) 1 == t.val && u.tahr.levels.getLsbD (2 * k.val + 0) && u.readsHigh false (finOf 31 (2 * k.val + 0)) (raw.getD (2 * k.val + 0) 0) == some true
        || u.sPair k.val (2 + 1) 1 == t.val && u.tahr.levels.getLsbD (2 * k.val + 1) && u.readsHigh false (finOf 31 (2 * k.val + 1)) (raw.getD (2 * k.val + 1) 0) == some true) = true))
        ↔ u.pulseFails t raw k = true := fun u k => by simp [State.pulseFails, List.range_succ]
    rw [← folded]
    simp only [execTestPulseSample, pulse, if_pos (And.intro low due), fails]
  · cases fails : s.pulseFails t raw k
    · simp
    · simp [idxs]

theorem execTestPulseEnd_due {t : Fin 4} {a : Nat} (pulse : s.tahr.pulseAt[t] = some a) (due : a + s.tpWidth ≤ s.now) :
    execTestPulseEnd t s = .next (s.modTahr (fun x => { x with tpoLow := x.tpoLow &&& ~~~(BitVec.ofNat 4 (2 ^ t.val)) })) := by
  simp only [execTestPulseEnd, pulse, if_pos due]

/-! ## The cycle and BLEAT (R465, R496) -/

/-- The meaning by name: without it the unifier would run through the cycle. -/
theorem exec_tahrCycle (s : State) (ok : Bool) (sto so : BitVec 8) : exec (.tahrCycle ok sto so) s = execTahrCycle ok sto so s := rfl

theorem execTahrCycle_due {ok : Bool} {sto so : BitVec 8} (running : s.tahr.running = true) (due : ∀ l, s.tahr.lastCycle = some l → l / 100000 < s.now / 100000) :
    let back := if s.linkUp .link .safe then sto else s.tahr.stoABack
    let s0 := (s.modTahr (fun t => { t with
      lastCycle := some s.now
      healthy := ok && t.lastCycle.elim true (fun l => decide (s.now / 100000 = l / 100000 + 1))
      stoABack := back })).lockLost
    let s2 := (idxs 16).foldl (fun u f => (u.fnCycle f s0.pairsCycle.2).compareLatch f) s0.pairsCycle.1
    let s4 := (idxs 8).foldl (fun u c => if u.hasChannel c then (((u.tagCycle c).sourceCycle c).torqueCycle c).channelCycle c else u) (s2.wireCycle back)
    let s5 := (idxs 4).foldl (fun u k => u.soCycle k so) s4
    execTahrCycle ok sto so s = .next (((s5.auxCycle.clearTags).mirrorCycle).sendDie .safe .link "tahr_status" []) := by
  have passed : s.tahr.lastCycle.elim true (fun l => decide (l / 100000 < s.now / 100000)) = true := by
    cases last : s.tahr.lastCycle with
    | none => rfl
    | some l => exact decide_eq_true (due l last)
  unfold execTahrCycle
  dsimp only
  rw [if_pos ⟨running, passed⟩]

theorem execBleat_toggles (running : s.tahr.running = true) (healthy : s.tahr.healthy = true) (run : s.tahr.cyclesRun s.now = true)
    (due : s.tahr.lastBleat + 5 * 400000 ≤ s.now) : execBleat s = .next { s with
      sw := { s.sw with bleat := !s.sw.bleat }
      tahr := { s.tahr with lastBleat := s.now } } :=
  (if_neg (by simp [run])).trans (if_pos ⟨running, healthy, run, due⟩)

theorem execBleat_stops (running : s.tahr.running = true) (begun : s.tahr.lastCycle.isSome = true) (missed : s.tahr.cyclesRun s.now = false) :
    execBleat s = .next ((idxs 8).foldl (fun u c => if u.hasChannel c then u.carryStop c false false else u) (s.modTahr (fun t => { t with healthy := false }))) :=
  if_pos ⟨running, begun, by simp [missed]⟩

theorem execSs1Request_taken {c : Channel} {b : Bool} {v : BitVec 32} (sent : s.tahr.requests.contains (c, b, v.toNat) = true)
    (up : s.linkUp (requestDie v.toNat) .safe = true) :
    execSs1Request c b v s = .next ((s.modTahr (fun t => { t with requests := t.requests.erase (c, b, v.toNat) })).modTahrCh c (fun t => { t with
      request := true
      wantSto := t.wantSto || b
      wantSs1 := if b then t.wantSs1 else t.wantSs1 <|> some v.toNat })) := if_pos ⟨sent, up⟩

/-! ## Dark tests of the safety outputs (R495) -/

section
variable {o : Fin 4}

section
variable (asked : (s.sOut o.val 6 1).testBit 0 = true) (on : (s.tahr.outs[o]).latchedOff = false)

include asked on

theorem execSoTest_first (again : rateOk (s.tahr.outs[o]).lastTestA s.now 400000000 = true) : execSoTest o false s = .next (s.modSo o (fun x => { x with
    testA := some s.now
    lastTestA := some s.now
    a := false
    diffA := none })) := by
  have tests : ¬ (¬ (s.sOut o.val 6 1).testBit 0 = true ∨ (s.tahr.outs[o]).latchedOff = true) := not_or.2 ⟨not_not_intro asked, Bool.eq_false_iff.1 on⟩
  exact (if_neg tests).trans (if_pos again)

theorem execSoTest_second {u : Nat} (first : (s.tahr.outs[o]).lastTestA = some u) (apart : u + 200000000 ≤ s.now)
    (again : rateOk (s.tahr.outs[o]).lastTestB s.now 400000000 = true) : execSoTest o true s = .next (s.modSo o (fun x => { x with
    testB := some s.now
    lastTestB := some s.now
    b := false
    diffB := none })) := by
  have tests : ¬ (¬ (s.sOut o.val 6 1).testBit 0 = true ∨ (s.tahr.outs[o]).latchedOff = true) := not_or.2 ⟨not_not_intro asked, Bool.eq_false_iff.1 on⟩
  simp only [execSoTest, if_neg tests, if_true, first]
  exact if_pos ⟨apart, again⟩

end

/-- The output once the test of one of its switches is over. -/
def State.soTested (s : State) (o : Fin 4) (second : Bool) : State := s.modSo o (fun x => if second then { x with testB := none } else { x with testA := none })

variable {second : Bool} {u : Nat} (test : (if second then (s.tahr.outs[o]).testB else (s.tahr.outs[o]).testA) = some u) (due : u + 120000 ≤ s.now)

include test due

theorem execSoTestEnd_stillOn : execSoTestEnd o second true s = .next ((s.soTested o second).soFault o second) := by
  simp only [execSoTestEnd, test, if_pos due]
  rfl

theorem execSoTestEnd_passes : execSoTestEnd o second false s = .next ((s.soTested o second).modSo o (fun x =>
    if second then { x with b := (s.soTested o second).soOn o } else { x with a := (s.soTested o second).soOn o })) := by
  simp only [execSoTestEnd, test, if_pos due]
  rfl

end

end

/-- Settles O41: each command takes the branch its conditions name; the levels by the stage that reads them, a test pulse by the pairs that it shows to fail. -/
theorem safetyInputsAndCycle : Obligations.SafetyInputsAndCycle := by
  unfold Obligations.SafetyInputsAndCycle
  refine ⟨?levels, fun s f ps u => execTChExpiry_due, fun s f => execFunctionRelease_taken, ?params,
    fun s => ⟨execTahrStatus_valid, execTahrStatus_cut, execTahrStatus_invalid, execTahrLost_due⟩, fun s t a => execTestPulse_begins,
    fun s t a pulse => ⟨fun raw => execTestPulseSample_due raw pulse, execTestPulseEnd_due pulse⟩, ?cycle,
    fun s running => ⟨execBleat_toggles running, execBleat_stops running⟩, fun s c b v => execSs1Request_taken, ?test, ?testEnd⟩
  case levels =>
    intro s i mV held on
    refine ⟨?known, fun not1 not3 stood stage => ?unknown, execSafeLevelChange_short⟩
    case known =>
      intro p mem thresh b
      have level : s.inputLevel on i mV = (b, s) := by
        refine State.inputLevel_known ?_
        simp only [List.mem_cons, List.not_mem_nil, or_false] at mem
        rcases mem with rfl | rfl
        · exact .inl ⟨thresh, rfl, rfl⟩
        · exact .inr ⟨thresh, rfl, rfl⟩
      have taken : s.inputFilt on i ≤ held → execSafeLevelChange on i ⟨mV, held⟩ s = .next (s.acceptLevel on i b) := fun stood => by
        rw [execSafeLevelChange_stands stood, level]
      refine ⟨fun stood stage => ?_, fun stood stage new => ?_, fun stage same => ?_⟩
      · subst stage
        exact taken stood
      · subst stage
        exact (taken stood).trans (congrArg _ (State.acceptLevel_new new))
      · subst stage
        rcases Nat.lt_or_ge held (s.inputFilt false i) with short | stood
        · exact execSafeLevelChange_short short
        · exact (taken stood).trans (congrArg _ (State.acceptLevel_same same))
    case unknown =>
      subst stage
      exact (execSafeLevelChange_stands stood).trans (by rw [State.inputLevel_unknown not1 not3]; rfl)
  case params =>
    intro s im image
    exact ⟨execChamoisParameters_equal image, execChamoisParameters_differs image, execChamoisParameters_cut image⟩
  case cycle =>
    intro s ok sto so running due
    exact (exec_tahrCycle s ok sto so).trans (execTahrCycle_due running due)
  case test =>
    intro s o asked on
    exact ⟨execSoTest_first asked on, fun u => execSoTest_second asked on⟩
  case testEnd =>
    intro s o b u test due
    exact ⟨execSoTestEnd_stillOn test due, execSoTestEnd_passes test due⟩

end Sys2Proof.Machine
end

section
/-! PROOFS. The stop wires, monitors, thermal load and commands of the AUX slots (15_aux_drives.md R506 to R517). -/

namespace Sys2Proof.Machine

section
variable {s : State}

/-! ## The stop wires (R506) -/

section
variable (absent : s.hasDie .aux = false)

include absent

theorem aux_lacks : ¬ s.hasDie .aux = true := Bool.eq_false_iff.1 absent

theorem execAuxOff_absent : execAuxOff s = .next s := if_pos (aux_lacks absent)
theorem execAuxOffRelease_absent : execAuxOffRelease s = .next s := if_pos (aux_lacks absent)
theorem execLegFault_absent (n : AuxSlot) (l : Fin 4) (high : Bool) (m : Nat) : execLegFault n l high m s = .next s := if_pos (aux_lacks absent)
theorem execSupplyMonitor_absent (k : Fin 4) (hb : Fin 48) (v : Nat) : execSupplyMonitor k hb v s = .next s := if_pos (aux_lacks absent)
theorem execThermalUpdate_absent (n : AuxSlot) : execThermalUpdate n s = .next s := if_pos (aux_lacks absent)
theorem execSlotCommand_absent (n : AuxSlot) : execSlotCommand n s = .next s := if_pos (.inl (aux_lacks absent))
theorem execCmdTmoExpiry_absent (n : AuxSlot) : execCmdTmoExpiry n s = .next s := if_pos (aux_lacks absent)

end

variable (present : s.hasDie .aux = true)

include present

theorem execAuxOff_stops (stop : s.auxStop = true) (first : s.aux.off = false) : execAuxOff s = .next
    (((s.slotsOn).foldl (fun (u : State) n => (u.modAux n (fun x => { x.legsOff with
      mode := .wireOff
      armed := false
      posUnsure := true
      vel := 0
      acc := 0 })).slotCommit n) { s with aux := { s.aux with
        off := true } }).raise 0x8003 7 10 [packFields [(0, b2n s.auxOffA), (1, b2n s.auxOffB), (2, b2n s.auxLinkFail)]]) :=
  (if_neg (not_not_intro present)).trans (if_neg (not_or.2 ⟨not_not_intro stop, Bool.eq_false_iff.1 first⟩))

theorem execAuxOff_stays (h : s.auxStop = false ∨ s.aux.off = true) : execAuxOff s = .next s :=
  (if_neg (not_not_intro present)).trans (if_pos (h.imp Bool.eq_false_iff.1 id))

theorem execAuxOffRelease_over (gone : s.auxStop = false) : execAuxOffRelease s = .next { s with aux := { s.aux with off := false } } :=
  (if_neg (not_not_intro present)).trans (if_neg (Bool.eq_false_iff.1 gone))

theorem execAuxOffRelease_stays (stop : s.auxStop = true) : execAuxOffRelease s = .next s :=
  (if_neg (not_not_intro present)).trans (if_pos stop)

/-! ## Legs (R510) -/

section
variable {n : AuxSlot} {l : Fin 4} {high : Bool} {m : Nat}

/-- The measured value is over the limit of its switch (R510). -/
def State.legExcess (s : State) (n : AuxSlot) (high : Bool) (m : Nat) : Bool :=
  if high then decide (s.fld (Reg.slotShunt n.val) 16 8 * 10 < m) else decide (s.fld (Reg.slotIlim n.val) 16 16 * 100 < m)

/-- The switch is judged: the high one only once it has been on through blanking and detection (R510). -/
def State.legSeen (s : State) (n : AuxSlot) (l : Fin 4) (high : Bool) : Bool :=
  !high || (s.slot n).highSeen (s.slotPeriod n) (s.fld (Reg.slotPwm n.val) 0 9) l (s.now % s.slotPeriod n)

variable (on : s.slotOn n = true) (leg : l.val < s.slotLegs n) (stands : (s.slot n).legOff.getLsbD (2 * l.val + b2n (!high)) = false)

include on leg stands

theorem execLegFault_latches (excess : s.legExcess n high m = true) (seen : s.legSeen n l high = true) :
    execLegFault n l high m s = .next (((s.modAux n (fun x => { x with legOff := x.legOff ||| BitVec.ofNat 8 (2 ^ (2 * l.val + b2n (!high))) })).raise 0x8001 n.val 8
      [w32 l.val, w32 (b2n (!high)), if high then 2 else 1]).slotCommit n) :=
  (if_neg (not_not_intro present)).trans (if_neg (not_or.2 ⟨not_not_intro on, not_or.2 ⟨Nat.not_le.2 leg, not_or.2 ⟨not_not_intro seen,
    not_or.2 ⟨Bool.eq_false_iff.1 stands, not_not_intro excess⟩⟩⟩⟩))

omit on leg stands in
theorem execLegFault_passes (h : s.legExcess n high m = false ∨ s.legSeen n l high = false) : execLegFault n l high m s = .next s := by
  refine (if_neg (not_not_intro present)).trans (if_pos ?_)
  rcases h with low | unseen
  · exact .inr (.inr (.inr (.inr (Bool.eq_false_iff.1 low))))
  · exact .inr (.inr (.inl (Bool.eq_false_iff.1 unseen)))

end

/-! ## Supplies (R511) -/

section
variable (hb : Fin 48) (v : Nat)

theorem execSupplyMonitor_bootstrap : execSupplyMonitor 0 hb v s = .next (({ s with
    aux := (if hystUnder (s.aux.bst.getLsbD hb.val) 4000 4400 v then { s.aux with bst := s.aux.bst ||| BitVec.ofNat 48 (2 ^ hb.val) }
      else { s.aux with bst := s.aux.bst &&& ~~~(BitVec.ofNat 48 (2 ^ hb.val)) }) } : State).takeHolds) := by
  simp only [execSupplyMonitor, if_neg (not_not_intro present)]
  split <;> simp

theorem execSupplyMonitor_pump : execSupplyMonitor 1 hb v s = .next (({ s with aux := { s.aux with cpUv := hystUnder s.aux.cpUv 7000 7500 v } } : State).takeHolds) := by
  simp [execSupplyMonitor, present]

/-- VM_AUX and VDD_AUX as their monitors have judged them (R511). -/
def AuxUnit.judged (a : AuxUnit) (k : Fin 4) (v : Nat) : AuxUnit :=
  if k = 2 then { a with
    vmMv := v
    vmUv := hystUnder a.vmUv 8000 8500 v
    vmOv := if 62000 < v then true else if v < 61000 then false else a.vmOv }
  else { a with vddUv := hystUnder a.vddUv 4300 4500 v }

/-- The supplies that left or came back between two states of the monitors. -/
def AuxUnit.changedTo (a b : AuxUnit) : List (Nat × Bool × Bool) :=
  [(0, a.vmUv, b.vmUv), (1, a.vmOv, b.vmOv), (2, a.vddUv, b.vddUv)].filter (fun (e : Nat × Bool × Bool) => e.2.1 != e.2.2)

/-- The state with a new judgement of the supplies, its events raised. -/
def State.suppliesTold (s : State) (a : AuxUnit) : State :=
  (s.aux.changedTo a).foldl (fun (u : State) e => u.raise 0x8002 7 8 [w32 e.1, w32 (b2n e.2.2)]) ({ s with aux := a } : State).takeHolds

variable {k : Fin 4} (supply : 2 ≤ k.val)

include supply

theorem execSupplyMonitor_supply : execSupplyMonitor k hb v s = if (s.aux.changedTo (s.aux.judged k v)).isEmpty then .next (s.suppliesTold (s.aux.judged k v))
    else .next ((s.suppliesTold (s.aux.judged k v)).slotsOn.foldl (fun (u : State) n => (u.modAux n (fun x =>
      if (s.aux.changedTo (s.aux.judged k v)).any (fun e => e.2.2) then { x.legsOff with
        posUnsure := true
        vel := 0
        acc := 0 }
      else x)).slotCommit n) (s.suppliesTold (s.aux.judged k v))) := by
  have two : k = 2 ∨ k = 3 := by omega
  rcases two with rfl | rfl <;> exact if_neg (not_not_intro present)

end

/-! ## The thermal load (R512) -/

section
variable {n : AuxSlot} (on : s.slotOn n = true) (due : (s.slot n).thermAt + 40000 ≤ s.now)

include on due

theorem execThermalUpdate_due : execThermalUpdate n s = .next ((if fBelow (s.nextLoad n) 0x3FA00000 ∨ (s.slot n).cause = 1
      then (s.modAux n (fun x => { x with
        load := s.nextLoad n
        thermAt := s.now })).slotCommit n
      else (s.modAux n (fun x => { x with
        load := s.nextLoad n
        thermAt := s.now })).slotFault n 1 0x8007 9 [s.nextLoad n]).modAux n (fun x => { x with samples := [] })) :=
  (if_neg (not_not_intro present)).trans (if_neg (not_or.2 ⟨not_not_intro on, Nat.not_lt.2 due⟩))

theorem execThermalUpdate_cool (cool : fBelow (s.nextLoad n) 0x3FA00000 = true ∨ (s.slot n).cause = 1) :
    execThermalUpdate n s = .next (((s.modAux n (fun x => { x with
      load := s.nextLoad n
      thermAt := s.now })).slotCommit n).modAux n (fun x => { x with samples := [] })) := by
  rw [execThermalUpdate_due present on due, if_pos cool]

theorem execThermalUpdate_faults (hot : fBelow (s.nextLoad n) 0x3FA00000 = false) (new : (s.slot n).cause ≠ 1) :
    execThermalUpdate n s = .next (((s.modAux n (fun x => { x with
      load := s.nextLoad n
      thermAt := s.now })).slotFault n 1 0x8007 9 [s.nextLoad n]).modAux n (fun x => { x with samples := [] })) := by
  rw [execThermalUpdate_due present on due, if_neg (not_or.2 ⟨Bool.eq_false_iff.1 hot, new⟩)]

end

/-! ## Commands (R506, R513, R514) -/

section
variable {n : AuxSlot} (on : s.slotOn n = true)

include on

theorem slot_takes : ¬ (¬ s.hasDie .aux = true ∨ ¬ s.slotOn n = true) := not_or.2 ⟨not_not_intro present, not_not_intro on⟩

theorem execSlotCommand_none (none_ : (s.slot n).inbox = []) : execSlotCommand n s = .next s := by
  simp only [execSlotCommand, if_neg (slot_takes present on), none_]

/-- The slot with a commit of aux_s.cmd taken. -/
def State.slotTaken (s : State) (n : AuxSlot) (ws : List Word) : SlotUnit :=
  (s.slot n).take (s.slotType n) (s.auxStop || s.aux.off) s.now (ws.getD 0 0) (ws.getD 1 0) (ws.getD 2 0) (ws.getD 3 0) (ws.getD 4 0) (ws.getD 5 0)

/-- A commit has released a Hall fault whose state still stands (R513, R519). -/
def State.hallLatches (s : State) (n : AuxSlot) (y : SlotUnit) : Prop :=
  (s.slot n).cause ≠ 0 ∧ y.cause = 0 ∧ s.slotType n = 2 ∧ (y.hall = some 0 ∨ y.hall = some 7)

section
variable {u : Nat} {ws : List Word} {rest : List (Nat × List Word)} (oldest : (s.slot n).inbox = (u, ws) :: rest)

include oldest

theorem execSlotCommand_latches (latches : s.hallLatches n (s.slotTaken n ws)) :
    execSlotCommand n s = .next ((s.modAux n (fun _ => { s.slotTaken n ws with
      stamp := some u
      inbox := rest })).slotFault n 2 0x8004 9 [((s.slotTaken n ws).hall.getD 0).setWidth 32]) := by
  have hall : (s.slot n).cause ≠ 0 ∧ (s.slotTaken n ws).cause = 0
      ∧ (s.slotType n == 2 && ((s.slotTaken n ws).hall == some 0 || (s.slotTaken n ws).hall == some 7)) = true := by
    simpa [State.hallLatches] using latches
  simp only [execSlotCommand, if_neg (slot_takes present on), oldest]
  exact if_pos hall

theorem execSlotCommand_takes (stays : ¬ s.hallLatches n (s.slotTaken n ws)) : execSlotCommand n s = .next
    (if (s.slotTaken n ws).mode = (s.slot n).mode then s.modAux n (fun _ => { s.slotTaken n ws with
      stamp := some u
      inbox := rest })
    else (s.modAux n (fun _ => { s.slotTaken n ws with
      stamp := some u
      inbox := rest })).slotCommit n) := by
  have none_ : ¬ ((s.slot n).cause ≠ 0 ∧ (s.slotTaken n ws).cause = 0
      ∧ (s.slotType n == 2 && ((s.slotTaken n ws).hall == some 0 || (s.slotTaken n ws).hall == some 7)) = true) := by
    simpa [State.hallLatches] using stays
  simp only [execSlotCommand, if_neg (slot_takes present on), oldest]
  exact if_neg none_

end

theorem execCmdTmoExpiry_stale (watched : s.fld (Reg.slotCfg n.val) 0 16 ≠ 0) (fresh : (s.slot n).stale = false)
    (due : (s.slot n).cmdAt.getD s.glb.lockedAt + s.fld (Reg.slotCfg n.val) 0 16 * 400000 ≤ s.now) :
    execCmdTmoExpiry n s = .next (((s.modAux n (fun x => { (if s.slotType n = 3 then x else x.legsOff) with stale := true })).raise 0x8008 n.val 5
      [(s.slot n).seq]).slotCommit n) :=
  (if_neg (not_not_intro present)).trans (if_neg (not_or.2 ⟨not_not_intro on, not_or.2 ⟨watched, not_or.2 ⟨Bool.eq_false_iff.1 fresh, Nat.not_lt.2 due⟩⟩⟩))

end

end

/-- Settles O43: each command takes the branch its conditions name. -/
theorem auxSlots : Obligations.AuxSlots := by
  unfold Obligations.AuxSlots
  refine ⟨?absent, ?off, ?leg, ?supply, ?thermal, ?command, fun s n present on => execCmdTmoExpiry_stale present on⟩
  case absent =>
    intro s n l high m k hb v absent
    exact ⟨execAuxOff_absent absent, execAuxOffRelease_absent absent, execLegFault_absent absent n l high m, execSupplyMonitor_absent absent k hb v,
      execThermalUpdate_absent absent n, execSlotCommand_absent absent n, execCmdTmoExpiry_absent absent n⟩
  case off =>
    exact fun s present => ⟨execAuxOff_stops present, execAuxOff_stays present, execAuxOffRelease_over present, execAuxOffRelease_stays present⟩
  case leg =>
    intro s n l high m bit dt excess seen present on leg stands
    exact ⟨execLegFault_latches present on leg stands, execLegFault_passes present⟩
  case supply =>
    intro s hb v present a under
    refine ⟨execSupplyMonitor_bootstrap present hb v, execSupplyMonitor_pump present hb v, fun k supply => ?_⟩
    have told := execSupplyMonitor_supply present hb v supply
    exact ⟨fun same => told.trans (if_pos (List.isEmpty_iff.2 same)), fun differs => told.trans (if_neg (mt List.isEmpty_iff.1 differs))⟩
  case thermal =>
    intro s n present on due s1
    exact ⟨execThermalUpdate_cool present on due, execThermalUpdate_faults present on due⟩
  case command =>
    intro s n present on
    refine ⟨execSlotCommand_none present on, fun u ws rest oldest => ?_⟩
    exact ⟨execSlotCommand_latches present on oldest, execSlotCommand_takes present on oldest⟩

end Sys2Proof.Machine
end

section
/-! PROOFS. Valleys, Hall inputs, PWM inputs and the profile generator of the AUX slots (15_aux_drives.md R507 to R531). -/

namespace Sys2Proof.Machine

section
variable {s : State} {n : AuxSlot}

section
variable (absent : s.hasDie .aux = false)

include absent

theorem execValley_absent (codes : Vector (BitVec 12) 4) (ain : Nat) (pwm : Option (Nat × Nat)) : execValley n codes ain pwm s = .next s :=
  if_pos (aux_lacks absent)
theorem execHallChange_absent (hall : Held (BitVec 3)) : execHallChange n hall s = .next s := if_pos (aux_lacks absent)
theorem execHallTimeout_absent : execHallTimeout n s = .next s := if_pos (aux_lacks absent)
theorem execBlockAdvance_absent : execBlockAdvance n s = .next s := if_pos (aux_lacks absent)
theorem execPwmInTimeout_absent (i : Fin 8) : execPwmInTimeout i s = .next s := if_pos (aux_lacks absent)
theorem execProfileUpdate_absent : execProfileUpdate n s = .next s := if_pos (aux_lacks absent)
theorem execHoldReduction_absent : execHoldReduction n s = .next s := if_pos (aux_lacks absent)

end

variable (present : s.hasDie .aux = true)

include present

/-! ## The PWM inputs (R524) -/

theorem execPwmInTimeout_turnsBad {i : Fin 8} (good : (s.aux.pwm[i]).bad = false) (due : (s.aux.pwm[i]).edgeAt + s.fld (Reg.auxPwmCfg i.val) 0 16 * 400000 ≤ s.now) :
    execPwmInTimeout i s = .next ((s.slotsOn).foldl (fun (u : State) n => if u.slotType n = 2 ∧ u.slotSrc n = 2 ∧ u.slotIn n = i ∧ (u.slot n).inBad = false then
      ((u.modAux n (fun x => { x with inBad := true })).raise 0x8009 n.val 6 [2, w32 i.val]).slotCommit n else u) { s with aux := { s.aux with
        pwm := vUpd s.aux.pwm i (fun x => { x with bad := true }) } }) :=
  (if_neg (not_not_intro present)).trans (if_neg (not_or.2 ⟨Bool.eq_false_iff.1 good, Nat.not_lt.2 due⟩))

variable (on : s.slotOn n = true)

include on

/-! ## The valley (R507 to R509, R511, R518, R521 to R525, R530) -/

section
variable (codes : Vector (BitVec 12) 4) (ain : Nat) (pwm : Option (Nat × Nat))

/-- The state with what a valley samples: the PWM input, the leg currents and, but for a stepper, the limiter. -/
def State.valleySampled (s : State) (n : AuxSlot) (codes : Vector (BitVec 12) 4) (pwm : Option (Nat × Nat)) : State :=
  if s.slotType n = 3 then (s.takePwm n pwm).sampleLegs n codes else ((s.takePwm n pwm).sampleLegs n codes).limitFactor n

/-- The slot's input at a valley and whether it is bad. -/
def State.valleyInput (s : State) (n : AuxSlot) (codes : Vector (BitVec 12) 4) (ain : Nat) (pwm : Option (Nat × Nat)) : Word × Bool :=
  (s.valleySampled n codes pwm).slotInput n ain

/-- The state with a valley noted: its input, ON and the monitors' holds. -/
def State.valleyNoted (s : State) (n : AuxSlot) (codes : Vector (BitVec 12) 4) (ain : Nat) (pwm : Option (Nat × Nat)) : State :=
  (s.valleySampled n codes pwm).modAux n (fun x => { x.slowSector s.now with
    valley := s.now / s.slotPeriod n
    inBad := s.slotType n == 2 && (s.valleyInput n codes ain pwm).2
    on := s.slotType n == 2 && (s.valleySampled n codes pwm).slotOnBit n (s.valleyInput n codes ain pwm).1
    held := (s.valleySampled n codes pwm).monitorHold n })

/-- The state at a valley before its legs move: INPUT_BAD raised where the input has turned bad. -/
def State.valleyTold (s : State) (n : AuxSlot) (codes : Vector (BitVec 12) 4) (ain : Nat) (pwm : Option (Nat × Nat)) : State :=
  if (s.slotType n == 2 && (s.valleyInput n codes ain pwm).2 && !((s.valleySampled n codes pwm).slot n).inBad) = true then
    (s.valleyNoted n codes ain pwm).raise 0x8009 n.val 6 [w32 (s.slotSrc n), w32 (s.slotIn n).val]
  else s.valleyNoted n codes ain pwm

variable (turns : s.slotPeriod n ≠ 0) (new : (s.slot n).valley < s.now / s.slotPeriod n)

include turns new

/-- What the legs of a slot do at a new valley. -/
theorem execValley_new : execValley n codes ain pwm s = .next ((s.valleyTold n codes ain pwm).modAux n (fun _ =>
    if (!(s.valleyTold n codes ain pwm).slotDrives n) = true then ((s.valleyTold n codes ain pwm).slot n).legsOff
    else if s.slotType n = 1 then (s.valleyTold n codes ain pwm).valleyDc n
    else if s.slotType n = 2 then (s.valleyTold n codes ain pwm).valleyBldc n (s.valleyInput n codes ain pwm).1
    else (s.valleyTold n codes ain pwm).valleyStepper n)) :=
  (if_neg (not_not_intro present)).trans (if_neg (not_or.2 ⟨not_not_intro on, not_or.2 ⟨turns, Nat.not_le.2 new⟩⟩))

theorem execValley_off (off : (s.valleyTold n codes ain pwm).slotDrives n = false) :
    execValley n codes ain pwm s = .next ((s.valleyTold n codes ain pwm).modAux n (fun _ => ((s.valleyTold n codes ain pwm).slot n).legsOff)) := by
  rw [execValley_new present on codes ain pwm turns new, if_pos (by rw [off]; rfl)]

section
variable (drives : (s.valleyTold n codes ain pwm).slotDrives n = true)

include drives

theorem execValley_dc (dc : s.slotType n = 1) :
    execValley n codes ain pwm s = .next ((s.valleyTold n codes ain pwm).modAux n (fun _ => (s.valleyTold n codes ain pwm).valleyDc n)) := by
  rw [execValley_new present on codes ain pwm turns new, if_neg (by simp [drives]), if_pos dc]

theorem execValley_bldc (bldc : s.slotType n = 2) : execValley n codes ain pwm s
    = .next ((s.valleyTold n codes ain pwm).modAux n (fun _ => (s.valleyTold n codes ain pwm).valleyBldc n (s.valleyInput n codes ain pwm).1)) := by
  rw [execValley_new present on codes ain pwm turns new, if_neg (by simp [drives]), if_neg (by omega), if_pos bldc]

theorem execValley_stepper (stepper : s.slotType n = 3) :
    execValley n codes ain pwm s = .next ((s.valleyTold n codes ain pwm).modAux n (fun _ => (s.valleyTold n codes ain pwm).valleyStepper n)) := by
  rw [execValley_new present on codes ain pwm turns new, if_neg (by simp [drives]), if_neg (by omega), if_neg (by omega)]

end

end

/-! ## The Hall inputs (R519, R520, R522, R526) -/

section
variable (bldc : s.slotType n = 2)

include bldc

section
variable {h : BitVec 3} {held : Nat} (new : (s.slot n).hall ≠ some h)

include new

omit on bldc new in
theorem execHallChange_short (short : held < s.fld (Reg.slotBldc n.val) 8 8 * 40) : execHallChange n ⟨h, held⟩ s = .next s :=
  (if_neg (not_not_intro present)).trans (if_pos (.inr (.inr (.inr short))))

variable (stood : s.fld (Reg.slotBldc n.val) 8 8 * 40 ≤ held)

include stood

omit present in
theorem hallChange_counts : ¬ (¬ s.slotOn n = true ∨ s.slotType n ≠ 2 ∨ (s.slot n).hall = some h ∨ held < bitsAt (s.reg (Reg.slotBldc n.val)) 8 8 * 40) :=
  not_or.2 ⟨not_not_intro on, not_or.2 ⟨not_not_intro bldc, not_or.2 ⟨new, Nat.not_lt.2 stood⟩⟩⟩

theorem execHallChange_unknown (unknown : hallSector h = none) :
    execHallChange n ⟨h, held⟩ s = .next ((s.modAux n (fun x => { x with hall := some h })).slotFault n 2 0x8004 9 [h.setWidth 32]) := by
  simp only [execHallChange, if_neg (not_not_intro present), if_neg (hallChange_counts on bldc new stood), unknown]

variable {k : Nat} (sector : hallSector h = some k)

include sector

theorem execHallChange_first (first : (s.slot n).hall.bind hallSector = none) : execHallChange n ⟨h, held⟩ s = .next (s.modAux n (fun x => { x with
    hall := some h
    hallAt := some s.now
    tSec := none
    hallRun := 0
    advanced := false
    sine := false })) := by
  simp only [execHallChange, if_neg (not_not_intro present), if_neg (hallChange_counts on bldc new stood), sector, first]

/-- The state with a change to another known sector taken (R520, R522, R523). -/
def State.hallTaken (s : State) (n : AuxSlot) (h : BitVec 3) (old k : Nat) : State :=
  s.modAux n (fun x => x.hallTo s.now (bitsAt (s.reg (Reg.slotBldc n.val)) 26 5) (bitAt (s.reg (Reg.slotBldc n.val)) 31) h old k)

variable {old : Nat} (known : (s.slot n).hall.bind hallSector = some old)

include known

theorem execHallChange_taken : execHallChange n ⟨h, held⟩ s = .next (if (k + 6 - old) % 6 = 1 ∨ (k + 6 - old) % 6 = 5 then s.hallTaken n h old k
    else (s.hallTaken n h old k).raise 0x8005 n.val 4 [((s.slot n).hall.getD 0).setWidth 32, h.setWidth 32]) := by
  simp only [execHallChange, if_neg (not_not_intro present), if_neg (hallChange_counts on bldc new stood), sector, known]
  rfl

theorem execHallChange_neighbour (next : (k + 6 - old) % 6 = 1 ∨ (k + 6 - old) % 6 = 5) : execHallChange n ⟨h, held⟩ s = .next (s.hallTaken n h old k) := by
  rw [execHallChange_taken present on bldc new stood sector known, if_pos next]

theorem execHallChange_skips (notNext : (k + 6 - old) % 6 ≠ 1) (notLast : (k + 6 - old) % 6 ≠ 5) : execHallChange n ⟨h, held⟩ s
    = .next ((s.hallTaken n h old k).raise 0x8005 n.val 4 [((s.slot n).hall.getD 0).setWidth 32, h.setWidth 32]) := by
  rw [execHallChange_taken present on bldc new stood sector known, if_neg (not_or.2 ⟨notNext, notLast⟩)]

end

section
variable (due : (s.slot n).hallAt.getD 0 + s.fld (Reg.slotBldc n.val) 16 10 * msTicks ≤ s.now)

include due

omit present in
theorem hallTimeout_due : ¬ (¬ s.slotOn n = true ∨ s.slotType n ≠ 2 ∨ s.now < (s.slot n).hallAt.getD 0 + s.fld (Reg.slotBldc n.val) 16 10 * msTicks) :=
  not_or.2 ⟨not_not_intro on, not_or.2 ⟨not_not_intro bldc, Nat.not_lt.2 due⟩⟩

theorem execHallTimeout_undriven (undriven : (s.slot n).drivenAt = none) : execHallTimeout n s = .next (s.modAux n (fun x => { x with speed := 0 })) := by
  simp only [execHallTimeout, if_neg (not_not_intro present), if_neg (hallTimeout_due on bldc due), undriven]

variable {u : Nat} (driven : (s.slot n).drivenAt = some u)

include driven

theorem execHallTimeout_young (young : s.now < u + s.fld (Reg.slotBldc n.val) 16 10 * msTicks) :
    execHallTimeout n s = .next (s.modAux n (fun x => { x with speed := 0 })) := by
  have still : s.now < max u ((s.slot n).hallAt.getD 0) + s.fld (Reg.slotBldc n.val) 16 10 * msTicks := by omega
  simp only [execHallTimeout, if_neg (not_not_intro present), if_neg (hallTimeout_due on bldc due), driven, if_pos still]

theorem execHallTimeout_stalls (old : u + s.fld (Reg.slotBldc n.val) 16 10 * msTicks ≤ s.now) :
    execHallTimeout n s = .next ((s.modAux n (fun x => { x with speed := 0 })).slotFault n 3 0x8006 9 [(s.slot n).duty]) := by
  have over_ : ¬ s.now < max u ((s.slot n).hallAt.getD 0) + s.fld (Reg.slotBldc n.val) 16 10 * msTicks := by omega
  simp only [execHallTimeout, if_neg (not_not_intro present), if_neg (hallTimeout_due on bldc due), driven, if_neg over_]

end

theorem execBlockAdvance_advances {a u : Nat} (block : (s.slot n).sine = false) (first : (s.slot n).advanced = false) (change : (s.slot n).hallAt = some a)
    (sector : (s.slot n).tSec = some u)
    (due : (a : Int) * (6000 * (s.slotAdvance n).2) + (6000 * (s.slotAdvance n).2 - (s.slotAdvance n).1) * u ≤ (s.now : Int) * (6000 * (s.slotAdvance n).2)) :
    execBlockAdvance n s = .next (s.modAux n (fun x => { x with advanced := true })) := by
  simp only [execBlockAdvance, if_neg (not_not_intro present), change, sector]
  exact if_pos ⟨on, bldc, block, first, due⟩

end

/-! ## The profile generator and the hold reduction (R527 to R529, R531) -/

section
variable (stepper : s.slotType n = 3)

include stepper

section
variable (due : (s.slot n).profAt < s.now / 4000)

include due

omit present in
theorem profile_due : ¬ (¬ s.slotOn n = true ∨ s.slotType n ≠ 3 ∨ s.now / 4000 ≤ (s.slot n).profAt) :=
  not_or.2 ⟨not_not_intro on, not_or.2 ⟨not_not_intro stepper, Nat.not_le.2 due⟩⟩

theorem execProfileUpdate_off (off : s.slotDrives n = false) : execProfileUpdate n s = .next (s.modAux n (fun x => { x with
    profAt := s.now / 4000
    vel := 0
    acc := 0
    level := 0
    limit := x.beyond })) := by
  simp only [execProfileUpdate, if_neg (not_not_intro present), if_neg (profile_due on stepper due)]
  exact if_pos (by simp [off])

/-- The position after an update: exact at rest, else on the level's grid (R529). -/
def State.profilePos (s : State) (n : AuxSlot) : Int :=
  if (s.slotMotion n).v = 0 then (s.slotMotion n).x / 2 ^ 64
  else quantised (s.nextLevel n (s.slot n).fine (s.slotMotion n).x (s.slotMotion n).v) (s.slotMotion n).x (s.slotMotion n).v

/-- The update leaves the slot at rest where it was. -/
def State.profileStill (s : State) (n : AuxSlot) : Bool := (s.slotMotion n).v == 0 && (s.slotMotion n).x == (s.slot n).fine

/-- The slot after an update of its generator. -/
def State.profiled (s : State) (n : AuxSlot) : SlotUnit :=
  { s.slot n with
    profAt := s.now / 4000
    fine := (s.slotMotion n).x
    vel := (s.slotMotion n).v
    acc := (s.slotMotion n).a
    level := s.nextLevel n (s.slot n).fine (s.slotMotion n).x (s.slotMotion n).v
    pos := s.profilePos n
    limStop := (s.slot n).limStop && (s.slotMotion n).v != 0
    limit := ({ s.slot n with pos := s.profilePos n } : SlotUnit).beyond
    stillAt := if s.profileStill n then (s.slot n).stillAt.orElse (fun _ => some s.now) else none
    reducing := if s.profileStill n then (s.slot n).reducing else none }

variable (drives : s.slotDrives n = true)

include drives

theorem execProfileUpdate_drives : execProfileUpdate n s = .next (if ((s.slot n).mode == .stopping && (s.slotMotion n).v == 0) = true then
      (s.modAux n (fun _ => if ((s.slot n).mode == .stopping && (s.slotMotion n).v == 0) = true then { (s.profiled n).legsOff with
        mode := .off
        posUnsure := true } else s.profiled n)).slotCommit n
    else s.modAux n (fun _ => if ((s.slot n).mode == .stopping && (s.slotMotion n).v == 0) = true then { (s.profiled n).legsOff with
        mode := .off
        posUnsure := true } else s.profiled n)) := by
  simp only [execProfileUpdate, if_neg (not_not_intro present), if_neg (profile_due on stepper due)]
  exact if_neg (by simp [drives])

theorem execProfileUpdate_moves (going : (s.slot n).mode ≠ .stopping ∨ (s.slotMotion n).v ≠ 0) :
    execProfileUpdate n s = .next (s.modAux n (fun _ => s.profiled n)) := by
  have goes : ¬ ((s.slot n).mode == .stopping && (s.slotMotion n).v == 0) = true := by
    rw [Bool.and_eq_true, beq_iff_eq, beq_iff_eq]
    exact not_and_or.2 going
  rw [execProfileUpdate_drives present on stepper due drives, if_neg goes]
  simp only [if_neg goes]

theorem execProfileUpdate_ends (stopping : (s.slot n).mode = .stopping) (rest : (s.slotMotion n).v = 0) :
    execProfileUpdate n s = .next ((s.modAux n (fun _ => { (s.profiled n).legsOff with
      mode := .off
      posUnsure := true })).slotCommit n) := by
  have ends : ((s.slot n).mode == .stopping && (s.slotMotion n).v == 0) = true := by
    rw [stopping, rest]
    rfl
  rw [execProfileUpdate_drives present on stepper due drives, if_pos ends]
  simp only [if_pos ends]

end

theorem execHoldReduction_reduces {u : Nat} (still : (s.slot n).stillAt = some u) (first : (s.slot n).reducing = none)
    (asked : bitAt (s.reg (Reg.slotStep n.val)) 30 = true ∨ fBelow (s.slot n).load f32One = false)
    (due : u + s.fld (Reg.slotStep n.val) 16 14 * 400000 ≤ s.now) : execHoldReduction n s = .next (s.modAux n (fun x => { x with reducing := some s.now })) := by
  simp only [execHoldReduction, if_neg (not_not_intro present), still]
  exact if_pos ⟨on, stepper, first, due, asked⟩

end

end

/-- Settles O44: each command takes the branch its conditions name. -/
theorem auxMotors : Obligations.AuxMotors := by
  unfold Obligations.AuxMotors
  refine ⟨?absent, ?valley, ?hall, ?timeout, ?advance, fun s i present good due => execPwmInTimeout_turnsBad present good due, ?profile, ?hold⟩
  case absent =>
    intro s n codes ain pwm h held i absent
    exact ⟨execValley_absent absent codes ain pwm, execHallChange_absent absent _, execHallTimeout_absent absent, execBlockAdvance_absent absent,
      execPwmInTimeout_absent absent i, execProfileUpdate_absent absent, execHoldReduction_absent absent⟩
  case valley =>
    intro s n codes ain pwm present on turns new s1 s2 inp bad s3 s4
    exact ⟨execValley_off present on codes ain pwm turns new, fun drives => ⟨execValley_dc present on codes ain pwm turns new drives,
      execValley_bldc present on codes ain pwm turns new drives, execValley_stepper present on codes ain pwm turns new drives⟩⟩
  case hall =>
    intro s n h held present on bldc new
    refine ⟨execHallChange_short present, fun stood => ⟨execHallChange_unknown present on bldc new stood,
      fun k sector => execHallChange_first present on bldc new stood sector, fun k old sector known => ?_⟩⟩
    exact ⟨execHallChange_neighbour present on bldc new stood sector known, execHallChange_skips present on bldc new stood sector known⟩
  case timeout =>
    intro s n tmo present on bldc due s1
    refine ⟨?_, fun u driven old => execHallTimeout_stalls present on bldc due driven old⟩
    rintro (undriven | ⟨u, driven, young⟩)
    · exact execHallTimeout_undriven present on bldc due undriven
    · exact execHallTimeout_young present on bldc due driven young
  case advance =>
    intro s n a u present on bldc block first change sector adv due
    exact execBlockAdvance_advances present on bldc block first change sector due
  case profile =>
    intro s n present on stepper due x m lev pos still y
    exact ⟨execProfileUpdate_off present on stepper due, execProfileUpdate_moves present on stepper due, execProfileUpdate_ends present on stepper due⟩
  case hold =>
    intro s n u present still on stepper first asked due
    exact execHoldReduction_reduces present on stepper still first asked due

end Sys2Proof.Machine
end

section
/-! PROOFS. Doorbells, RING_OP, interrupt moderation and the coming and going of the host (16_host_rings.md R534 to R546, R567, R574, R575). -/

namespace Sys2Proof.Machine

section
variable {s : State}

/-! ## Doorbells (R544 to R546) -/

theorem doorbellIgnored_told {k : Nat} {v : Word} (rate : rateOk (s.ring k).lastIgnored s.now sTicks = true) :
    s.doorbellIgnored k v = (s.raise 0x9004 k 3 [v, w32 (s.ring k).state.code]).modRing k (fun y => { y with lastIgnored := some s.now }) :=
  if_pos rate

theorem doorbellIgnored_untold {k : Nat} {v : Word} (rate : rateOk (s.ring k).lastIgnored s.now sTicks = false) : s.doorbellIgnored k v = s :=
  if_neg (Bool.eq_false_iff.1 rate)

section
variable {r : BitVec 16} {v : Word}

section
variable (asleep : (s.ring r.toNat).state ≠ .active)

include asleep

theorem execDoorbellTail_asleep : execDoorbellTail r v s = .next (s.doorbellIgnored r.toNat v) := if_pos asleep
theorem execDoorbellHead_asleep : execDoorbellHead r v s = .next (s.doorbellIgnored r.toNat v) := if_pos asleep

end

variable (active : (s.ring r.toNat).state = .active)

include active

section
variable (submits : (s.ring r.toNat).submits = true)

include submits

theorem execDoorbellTail_moves (fits : (v.toNat + 2 ^ 32 - (s.ring r.toNat).host) % 2 ^ 32 ≤ (s.ring r.toNat).n - (s.ring r.toNat).occ) :
    execDoorbellTail r v s = .next (s.modRing r.toNat (fun y => { y with host := v.toNat })) :=
  (if_neg (not_not_intro active)).trans ((if_pos submits).trans (if_pos fits))

theorem execDoorbellTail_overruns (past : (s.ring r.toNat).n - (s.ring r.toNat).occ < (v.toNat + 2 ^ 32 - (s.ring r.toNat).host) % 2 ^ 32) :
    execDoorbellTail r v s = .next (s.ringError r.toNat 1 v) :=
  (if_neg (not_not_intro active)).trans ((if_pos submits).trans (if_neg (Nat.not_le.2 past)))

theorem execDoorbellHead_submission : execDoorbellHead r v s = .next s := (if_neg (not_not_intro active)).trans (if_pos submits)

end

variable (takes : (s.ring r.toNat).submits = false)

include takes

theorem execDoorbellTail_other : execDoorbellTail r v s = .next s := (if_neg (not_not_intro active)).trans (if_neg (Bool.eq_false_iff.1 takes))

theorem execDoorbellHead_moves (fits : (v.toNat + 2 ^ 32 - (s.ring r.toNat).host) % 2 ^ 32 ≤ (s.ring r.toNat).occ) :
    execDoorbellHead r v s = .next (if (s.ring r.toNat).type = 3 ∧ s.pwr.rung ≤ 1 then ((s.modRing r.toNat (fun y => { y with host := v.toNat })).deliver r.toNat).purgeQueue
      else s.modRing r.toNat (fun y => { y with host := v.toNat })) :=
  (if_neg (not_not_intro active)).trans ((if_neg (Bool.eq_false_iff.1 takes)).trans (if_pos fits))

theorem execDoorbellHead_overruns (past : (s.ring r.toNat).occ < (v.toNat + 2 ^ 32 - (s.ring r.toNat).host) % 2 ^ 32) :
    execDoorbellHead r v s = .next (s.ringError r.toNat 1 v).purgeQueue :=
  (if_neg (not_not_intro active)).trans ((if_neg (Bool.eq_false_iff.1 takes)).trans (if_neg (Nat.not_le.2 past)))

end

/-! ## ENABLE and DISABLE (R541, R542) -/

/-- The context staged for the selected ring. -/
def State.stagedCtx (s : State) : Vector Word 5 := Vector.ofFn (fun i => s.reg (Reg.ringCtx i.val))

/-- The staged context wants a completion ring that runs, and it does not. -/
def State.lacksCring (s : State) : Prop :=
  bitsAt s.stagedCtx[0] 29 3 ≤ 2 ∧ ¬ ((s.ring (bitsAt s.stagedCtx[0] 0 16)).state = .active ∧ (s.ring (bitsAt s.stagedCtx[0] 0 16)).type = 4)

/-- The state with the selected ring started empty on the staged context. -/
def State.ringStarted (s : State) : State :=
  ((s.modRing s.selRing (fun r => { r with
    ctx := s.stagedCtx
    state := .active
    cause := 0
    dev := 0
    host := 0
    fence := none
    unsignalled := 0
    first := none })).modRe (fun r => { r with fetched := kvSet 0 r.fetched s.selRing 0 })).ringOpEnd 0

theorem execEnable_notOff (busy : (s.ring s.selRing).state ≠ .off) : execEnable s = .next (s.ringOpEnd 1) := if_pos busy

section
variable (off : (s.ring s.selRing).state = .off)

include off

theorem execEnable_badContext (bad : ctxBad s.stagedCtx = true) : execEnable s = .next (s.ringOpEnd 2) :=
  (if_neg (not_not_intro off)).trans (if_pos bad)

variable (good : ctxBad s.stagedCtx = false)

include good

theorem execEnable_noCring (lacks : s.lacksCring) : execEnable s = .next (s.ringOpEnd 3) :=
  (if_neg (not_not_intro off)).trans ((if_neg (Bool.eq_false_iff.1 good)).trans (if_pos lacks))

variable (has : ¬ s.lacksCring)

include has

theorem execEnable_starts (other : bitsAt s.stagedCtx[0] 29 3 ≠ 3) : execEnable s = .next s.ringStarted :=
  (if_neg (not_not_intro off)).trans ((if_neg (Bool.eq_false_iff.1 good)).trans ((if_neg has).trans (if_neg other)))

theorem execEnable_startsEvents (events : bitsAt s.stagedCtx[0] 29 3 = 3) : execEnable s = .next (State.deliverAll { s.ringStarted with ev := { s.ringStarted.ev with
    held := false
    queue := s.ringStarted.ev.queue.map (fun q => { q with written := q.written.filter (· != s.selRing) }) } }) :=
  (if_neg (not_not_intro off)).trans ((if_neg (Bool.eq_false_iff.1 good)).trans ((if_neg has).trans (if_pos events)))

end

/-- The selected ring is a completion ring that a submission ring still uses (R542). -/
def State.cringUsed (s : State) : Prop :=
  (s.ring s.selRing).type = 4
    ∧ s.re.rings.any (fun p => p.2.submits && p.2.cring == s.selRing && (p.2.state == .active || p.2.state == .draining)) = true

theorem execDisable_off (off : (s.ring s.selRing).state = .off) : execDisable s = .next (s.ringOpEnd 0) := if_pos off

section
variable (runs : (s.ring s.selRing).state ≠ .off)

include runs

theorem execDisable_submission (submits : (s.ring s.selRing).submits = true) : execDisable s
    = .next ((s.modRing s.selRing (fun x => { x with state := if s.inFlight s.selRing = 0 then .off else .draining })).ringOpEnd 0) :=
  (if_neg runs).trans (if_pos submits)

variable (takes : (s.ring s.selRing).submits = false)

include takes

theorem execDisable_used (used : s.cringUsed) : execDisable s = .next (s.ringOpEnd 4) :=
  (if_neg runs).trans ((if_neg (Bool.eq_false_iff.1 takes)).trans (if_pos used))

theorem execDisable_other (unused : ¬ s.cringUsed) : execDisable s = .next ((s.modRing s.selRing (fun x => { x with
    state := .off
    unsignalled := 0
    first := none })).ringOpEnd 0).purgeQueue :=
  (if_neg runs).trans ((if_neg (Bool.eq_false_iff.1 takes)).trans (if_neg unused))

end

/-! ## Interrupt moderation and the host (R567, R574) -/

theorem execModTimeExpiry_fires {r : BitVec 16} {f : Nat} (first : (s.ring r.toNat).first = some f) (set : bitsAt (s.ring r.toNat).ctx[3] 0 16 ≠ 0)
    (due : f + bitsAt (s.ring r.toNat).ctx[3] 0 16 * usTicks ≤ s.now) : execModTimeExpiry r s = .next (s.fire r.toNat) := by
  simp only [execModTimeExpiry, first]
  exact if_pos ⟨set, due⟩

/-- The descriptors the host has not had taken when it goes. -/
def State.untaken (s : State) : Nat := s.re.rings.foldl (fun n p => if p.2.submits && p.2.state != .off then n + p.2.occ else n) 0

theorem execDisconnect_linkDown : execDisconnect 1 s = .next ((s.ringsOff.modRe (fun r => { r with
    speed := 0
    width := 0 })).raise 0x9005 1 10 [w32 1, w32 s.untaken]) := rfl

theorem execDisconnect_reset {c : Nat} (up : c ≠ 1) : execDisconnect c s = .next (s.ringsOff.raise 0x9005 1 10 [w32 c, w32 s.untaken]) := by
  simp only [execDisconnect, if_neg up]
  rfl

theorem ringsOff_rings_off : ∀ p ∈ s.ringsOff.re.rings, p.2.state = .off := by
  intro p inRings
  obtain ⟨q, -, rfl⟩ := List.mem_map.1 inRings
  rfl

end

/-- Settles O45: each command takes the branch its conditions name. -/
theorem ringControl : Obligations.RingControl := by
  unfold Obligations.RingControl
  refine ⟨?doorbell, ?enable, ?disable, ?modTime, ?disconnect, fun s a b u v => ⟨rfl, rfl, rfl⟩⟩
  case doorbell =>
    intro s r v x
    refine ⟨fun asleep rate => ?_, fun asleep rate => ?_, fun active submits => ?_, fun active takes => ?_⟩
    · have told := doorbellIgnored_told (k := r.toNat) (v := v) rate
      exact ⟨(execDoorbellTail_asleep asleep).trans (congrArg _ told), (execDoorbellHead_asleep asleep).trans (congrArg _ told)⟩
    · have untold := doorbellIgnored_untold (k := r.toNat) (v := v) rate
      exact ⟨(execDoorbellTail_asleep asleep).trans (congrArg _ untold), (execDoorbellHead_asleep asleep).trans (congrArg _ untold)⟩
    · exact ⟨execDoorbellTail_moves active submits, execDoorbellTail_overruns active submits, execDoorbellHead_submission active submits⟩
    · exact ⟨execDoorbellTail_other active takes, execDoorbellHead_moves active takes, execDoorbellHead_overruns active takes⟩
  case enable =>
    intro s k cw cr
    refine ⟨execEnable_notOff, execEnable_badContext, fun off good submits lacks => execEnable_noCring off good ⟨submits, lacks⟩, fun off good has => ?_⟩
    have hasCring : ¬ s.lacksCring := fun lacks => lacks.2 (has lacks.1)
    exact ⟨execEnable_starts off good hasCring, execEnable_startsEvents off good hasCring⟩
  case disable =>
    exact fun s => ⟨execDisable_off, execDisable_submission, fun runs takes => ⟨execDisable_used runs takes, execDisable_other runs takes⟩, rfl⟩
  case modTime =>
    intro s r f x first set due
    exact execModTimeExpiry_fires first set due
  case disconnect =>
    refine fun s c => ⟨?_, execDisconnect_reset, ringsOff_rings_off, rfl, rfl, rfl, rfl⟩
    rintro rfl
    exact execDisconnect_linkDown

end Sys2Proof.Machine
end

section
/-! PROOFS. Fetching, fencing and completing descriptors (16_host_rings.md R543 to R568, 18_power_ladder.md R601). -/

namespace Sys2Proof.Machine

section
variable {s : State} {r : BitVec 16}

/-! ## Fetching (R543, R548, R568) -/

section
variable (selects : s.selects r.toNat = true)

include selects

/-- The state with the descriptor at the head of a ring taken. -/
def State.descTaken (s : State) (k : Nat) (bs : List Byte) (bad : Bool) : State :=
  ((s.noteTurn k).modRing k (fun x => { x with dev := (x.dev + 1) % 2 ^ 32 })).modRe
    (fun x => { x with taken := x.taken ++ [⟨k, (s.ring k).dev, parseDesc bs, bad⟩] })

/-- The first check of R548 that fails, those of recovery after it. -/
def State.fetchBad (s : State) (k : Nat) (bs : List Byte) : Option (Nat × Nat) := s.descBad (s.ring k).type bs <|> s.recoveryBad (parseDesc bs)

theorem execDescriptorFetch_waits {b : BitVec 512} (fine : s.fetchBad r.toNat (descBytes b) = none) :
    execDescriptorFetch r true b s = .next (s.descTaken r.toNat (descBytes b) false) := by
  have checks : (s.descBad (s.ring r.toNat).type (descBytes b) <|> s.recoveryBad (parseDesc (descBytes b))) = none := fine
  simp only [execDescriptorFetch, if_pos selects, checks]
  rfl

theorem execDescriptorFetch_fails {b : BitVec 512} {st det : Nat} (bad : s.fetchBad r.toNat (descBytes b) = some (st, det)) :
    execDescriptorFetch r true b s = .next ((s.descTaken r.toNat (descBytes b) true).complete r.toNat (s.ring r.toNat).dev st det 0) := by
  have checks : (s.descBad (s.ring r.toNat).type (descBytes b) <|> s.recoveryBad (parseDesc (descBytes b))) = some (st, det) := bad
  simp only [execDescriptorFetch, if_pos selects, checks]
  rfl

theorem execDescriptorFetch_readBad (b : BitVec 512) : execDescriptorFetch r false b s = .next (s.ringError r.toNat 2 (w32 (s.ring r.toNat).dev)) :=
  if_pos selects

theorem execCompletionTimeout_selected : execCompletionTimeout r s = .next (s.ringError r.toNat 2 (w32 (s.ring r.toNat).dev)) := if_pos selects

end

section
variable (passes : s.selects r.toNat = false)

include passes

theorem execDescriptorFetch_unselected (g : Bool) (b : BitVec 512) : execDescriptorFetch r g b s = .next s := if_neg (Bool.eq_false_iff.1 passes)
theorem execCompletionTimeout_unselected : execCompletionTimeout r s = .next s := if_neg (Bool.eq_false_iff.1 passes)

end

/-! ## FENCE (R551) -/

section
variable {i : Nat} (fence : (s.ring r.toNat).fence = some i)

include fence

theorem execFenceCompletion_fenced : execFenceCompletion r s
    = if s.re.taken.all (fun t => t.ring != r.toNat || t.index == i || s.done.any (fun c => c.ring == r.toNat && c.index == t.index)) then
        .next ((s.modRing r.toNat (fun x => { x with fence := none })).complete r.toNat i 0 0 0)
      else .next s := by
  simp only [execFenceCompletion, fence]

theorem execFenceCompletion_completes (earlier : ∀ t ∈ s.re.taken, t.ring = r.toNat → t.index ≠ i → ∃ c ∈ s.done, c.ring = r.toNat ∧ c.index = t.index) :
    execFenceCompletion r s = .next ((s.modRing r.toNat (fun x => { x with fence := none })).complete r.toNat i 0 0 0) := by
  rw [execFenceCompletion_fenced fence, if_pos]
  simp only [List.all_eq_true, Bool.or_eq_true, bne_iff_ne, beq_iff_eq, List.any_eq_true, Bool.and_eq_true]
  intro t inTaken
  by_cases other : t.ring = r.toNat
  · by_cases itself : t.index = i
    · exact .inl (.inr itself)
    · exact .inr (earlier t inTaken other itself)
  · exact .inl (.inl other)

theorem execFenceCompletion_waits {t : Taken} (inTaken : t ∈ s.re.taken) (here : t.ring = r.toNat) (other : t.index ≠ i)
    (open_ : ∀ c ∈ s.done, c.ring = r.toNat → c.index ≠ t.index) : execFenceCompletion r s = .next s := by
  rw [execFenceCompletion_fenced fence, if_neg]
  simp only [List.all_eq_true, Bool.or_eq_true, bne_iff_ne, beq_iff_eq, List.any_eq_true, Bool.and_eq_true]
  intro all
  rcases all t inTaken with (elsewhere | itself) | ⟨c, done, ring, index⟩
  · exact elsewhere here
  · exact other itself
  · exact open_ c done ring index

end

/-! ## Completions (R560 to R563) -/

section
variable {x : Completion} {xs : List Completion} {t : Taken} (oldest : s.boundFor r.toNat = x :: xs) (flight : s.descOf x.ring x.index = some t)

include oldest flight

theorem writeCompletion_quiet (quiet : t.desc.quiet = true) (ok : x.status = 0) : s.writeCompletion r.toNat = s.releaseDesc x := by
  simp only [State.writeCompletion, oldest, flight]
  exact if_pos ⟨quiet, ok⟩

variable (entry : t.desc.quiet = false ∨ x.status ≠ 0)

include entry

theorem writeCompletion_bound : s.writeCompletion r.toNat = if (s.ring r.toNat).state = .off then s.releaseDesc x
    else if (s.ring r.toNat).state = .active ∧ (s.ring r.toNat).occ < (s.ring r.toNat).n then
      (((s.emit (.hostWrite ((s.ring r.toNat).base + 16 * ((s.ring r.toNat).dev % (s.ring r.toNat).n)) (completionEntry x t.desc ((s.ring r.toNat).phase (s.ring r.toNat).dev)
        (s.ring x.ring).dev))).modRing r.toNat (fun y => { y with dev := (y.dev + 1) % 2 ^ 32 })).releaseDesc x).wrote r.toNat t.desc.irq
    else s.stallEvent r.toNat := by
  have shown : ¬ (t.desc.quiet = true ∧ x.status = 0) := fun h => entry.elim (Bool.eq_false_iff.1 · h.1) (· h.2)
  simp only [State.writeCompletion, oldest, flight]
  exact if_neg shown

theorem writeCompletion_written (active : (s.ring r.toNat).state = .active) (room : (s.ring r.toNat).occ < (s.ring r.toNat).n) : s.writeCompletion r.toNat
    = (((s.emit (.hostWrite ((s.ring r.toNat).base + 16 * ((s.ring r.toNat).dev % (s.ring r.toNat).n)) (completionEntry x t.desc ((s.ring r.toNat).phase (s.ring r.toNat).dev)
        (s.ring x.ring).dev))).modRing r.toNat (fun y => { y with dev := (y.dev + 1) % 2 ^ 32 })).releaseDesc x).wrote r.toNat t.desc.irq := by
  rw [writeCompletion_bound oldest flight entry, if_neg (by rw [active]; decide), if_pos ⟨active, room⟩]

theorem writeCompletion_full (active : (s.ring r.toNat).state = .active) (full : (s.ring r.toNat).n ≤ (s.ring r.toNat).occ) :
    s.writeCompletion r.toNat = s.stallEvent r.toNat := by
  rw [writeCompletion_bound oldest flight entry, if_neg (by rw [active]; decide), if_neg (fun h => Nat.not_lt.2 full h.2)]

theorem writeCompletion_off (off : (s.ring r.toNat).state = .off) : s.writeCompletion r.toNat = s.releaseDesc x := by
  rw [writeCompletion_bound oldest flight entry, if_pos off]

end

theorem execDescriptorCompletion_writes (host : s.pwr.rung ≤ 1) : execDescriptorCompletion r s = .next (s.writeCompletion r.toNat) :=
  congrArg Host.Outcome.next (if_pos host)

end

/-- Settles O46: each command takes the branch its conditions name. -/
theorem descriptorFlow : Obligations.DescriptorFlow := by
  unfold Obligations.DescriptorFlow
  refine ⟨?fetch, fun s r b g passes => ⟨execDescriptorFetch_unselected passes g b, execCompletionTimeout_unselected passes⟩, ?ops, ?fence, ?completion, ?low⟩
  case fetch =>
    intro s r b selects bs i s1 took
    have orBad {m : Option (Nat × Nat)} (fine : s.descBad (s.ring r.toNat).type bs = none) (rest : s.recoveryBad (parseDesc bs) = m) :
        s.fetchBad r.toNat bs = m := by rw [State.fetchBad, fine, rest]; rfl
    refine ⟨fun fine known => execDescriptorFetch_waits selects (orBad fine known), fun st det bad => execDescriptorFetch_fails selects ?_,
      fun st det fine bad => execDescriptorFetch_fails selects (orBad fine bad), execDescriptorFetch_readBad selects b, execCompletionTimeout_selected selects⟩
    rw [State.fetchBad, bad]
    rfl
  case ops => exact fun s s1 r t => ⟨fun taken => congrArg Host.Outcome.next (State.onDesc_taken taken), fun taken => congrArg Host.Outcome.next (State.onDesc_taken taken)⟩
  case fence => exact fun s r i fence => ⟨execFenceCompletion_completes fence, fun t => execFenceCompletion_waits fence⟩
  case completion =>
    intro s r x xs t c host oldest flight
    have writes := execDescriptorCompletion_writes (r := r) host
    refine ⟨fun quiet ok => writes.trans ?_, fun entry active room => writes.trans ?_, fun entry active full => writes.trans ?_, fun entry off => writes.trans ?_⟩
    · rw [writeCompletion_quiet oldest flight quiet ok]
    · rw [writeCompletion_written oldest flight entry active room]
    · rw [writeCompletion_full oldest flight entry active full]
    · rw [writeCompletion_off oldest flight entry off]
  case low => exact fun s r low => congrArg Host.Outcome.next (if_neg (Nat.not_le.2 low))

end Sys2Proof.Machine
end

section
/-! PROOFS. The descriptors that write, read, trace and drain (16_host_rings.md R549 to R557). -/

namespace Sys2Proof.Machine

section
variable {s s1 : State} {r : BitVec 16} {t : Taken}

/-- The descriptor that waits for its effect is the one an opcode's effect runs on. -/
theorem State.onOp_taken {op : Nat} {f : Taken → State → State} (taken : s.take r.toNat op (fun _ => true) = some (t, s1)) : s.onOp r op f = f t s1 :=
  State.onDesc_taken taken

section
variable {op : Nat} {p : Desc → Bool} {data : Option (List Byte)} {f : Taken → List Byte → State → State} (taken : s.take r.toNat op p = some (t, s1))

include taken

/-- An opcode's effect runs on the host data of its descriptor (R549). -/
theorem State.onData_read {bs : List Byte} (read : dataOf t data = some bs) : s.onData r op p data f = f t bs s1 := by
  rw [State.onData, State.onDesc_taken taken, read]

/-- A failed read of the host data ends the descriptor with detail 12 (R549). -/
theorem State.onData_failed (failed : dataOf t data = none) : s.onData r op p data f = s1.finish t 2 12 0 := by
  rw [State.onData, State.onDesc_taken taken, failed]
  rfl

end

/-! ## WRITE_SIGNALS and READ_SIGNALS (R553, R555) -/

section
variable {data : Option (List Byte)} (taken : s.take r.toNat 0x10 (fun _ => true) = some (t, s1))

include taken

theorem execWriteSignals_inline (inl : t.desc.inline_ = true) : execWriteSignals r data s
    = .next (s1.hostWrite t.ring t.index t.desc.sig (t.desc.w.toList.take t.desc.count) s1.now (w32 t.desc.count)) :=
  congrArg Host.Outcome.next ((State.onOp_taken taken).trans (if_pos inl))

variable (host : t.desc.inline_ = false)

include host

theorem execWriteSignals_host {bs : List Byte} (read : dataOf t data = some bs) :
    execWriteSignals r data s = .next (s1.hostWrite t.ring t.index t.desc.sig (wordsLe bs) s1.now (w32 t.desc.count)) := by
  refine congrArg Host.Outcome.next ((State.onOp_taken taken).trans ((if_neg (Bool.eq_false_iff.1 host)).trans ?_))
  rw [read]

theorem execWriteSignals_failed (failed : dataOf t data = none) : execWriteSignals r data s = .next (s1.finish t 2 12 0) := by
  refine congrArg Host.Outcome.next ((State.onOp_taken taken).trans ((if_neg (Bool.eq_false_iff.1 host)).trans ?_))
  rw [failed]

end

section
variable {ring ix sig stamp : Nat} {vals : List Word} {res : Word}

theorem hostWrite_refused {st det : Nat} (bad : (s.die .a).hostWriteBad (numbered sig vals) = some (st, det)) :
    s.hostWrite ring ix sig vals stamp res = s.complete ring ix st det 0 := by
  simp only [State.hostWrite, bad]

theorem hostWrite_commits (fine : (s.die .a).hostWriteBad (numbered sig vals) = none) :
    s.hostWrite ring ix sig vals stamp res = (s.doEffect none (.commit 0x200 stamp (numbered sig vals))).complete ring ix 0 0 res := by
  simp only [State.hostWrite, fine]

end

section
variable (taken : s.take r.toNat 0x11 (fun _ => true) = some (t, s1))

include taken

theorem execReadSignals_refused (refused : s1.hostRead t.desc.sig t.desc.count = none) : execReadSignals r s = .next (s1.finish t 4 2 0) := by
  refine congrArg Host.Outcome.next ((State.onOp_taken taken).trans ?_)
  simp only [refused]

variable {vs : List Word} {s2 : State} (reads : s1.hostRead t.desc.sig t.desc.count = some (vs, s2))

include reads

theorem execReadSignals_result (noMem : t.desc.noMem = true) : execReadSignals r s = .next (s2.finish t 0 0 (vs.headD 0)) := by
  refine congrArg Host.Outcome.next ((State.onOp_taken taken).trans ?_)
  simp only [reads, if_pos noMem]

theorem execReadSignals_memory (mem : t.desc.noMem = false) : execReadSignals r s
    = .next ((s2.emit (.hostWrite t.desc.addr (vs.flatMap (fun v => leBytes 4 v.toNat)))).finish t 0 0 (w32 t.desc.count)) := by
  refine congrArg Host.Outcome.next ((State.onOp_taken taken).trans ?_)
  simp only [reads, if_neg (Bool.eq_false_iff.1 mem)]

end

/-! ## WRITE_SIGNALS_AT_FRAME (R554) -/

section
variable {data : Option (List Byte)} (taken : s.take r.toNat 0x12 (fun _ => true) = some (t, s1))

/-- The channel a timed write names. -/
def Desc.frameChannel (d : Desc) : Channel := finOf 7 d.w[0].toNat

/-- How many frames the frame a timed write names lies ahead. -/
def State.framesAhead (s : State) (d : Desc) : Nat := (d.w[1].toNat + 2 ^ 32 - s.ch[d.frameChannel].frame % 2 ^ 32) % 2 ^ 32

/-- The frame of a timed write has no sample instant left that it can meet. -/
def State.frameLate (s : State) (d : Desc) : Prop :=
  (s.framesAhead d = 0 ∧ (s.ch[d.frameChannel].running = true ∨ s.ch[d.frameChannel].resumed = true))
    ∨ ((s.ch[d.frameChannel].running = true ∨ s.glb.locked = true) ∧ s.sampleAhead d.frameChannel (s.framesAhead d) < s.now + 2000)

/-- The words a timed write commits: inline, or the host's. -/
def Taken.frameValues (t : Taken) (data : Option (List Byte)) : Option (List Word) :=
  if t.desc.inline_ then some ((t.desc.w.toList.drop 2).take t.desc.count) else (dataOf t data).map wordsLe

include taken

theorem execWriteSignalsAtFrame_absent (absent : s1.hasChannel t.desc.frameChannel = false) : execWriteSignalsAtFrame r data s = .next (s1.finish t 2 6 0) :=
  congrArg Host.Outcome.next ((State.onOp_taken taken).trans (if_pos (Bool.eq_false_iff.1 absent)))

variable (has : s1.hasChannel t.desc.frameChannel = true)

include has

theorem execWriteSignalsAtFrame_disabled (disabled : s1.ch[t.desc.frameChannel].enabled = false) :
    execWriteSignalsAtFrame r data s = .next (s1.finish t 1 1 0) :=
  congrArg Host.Outcome.next ((State.onOp_taken taken).trans ((if_neg (not_not_intro has)).trans (if_pos (Bool.eq_false_iff.1 disabled))))

variable (enabled : s1.ch[t.desc.frameChannel].enabled = true)

include enabled

theorem execWriteSignalsAtFrame_behind (behind : 2 ^ 31 ≤ s1.framesAhead t.desc) : execWriteSignalsAtFrame r data s = .next (s1.finish t 1 3 0) :=
  congrArg Host.Outcome.next ((State.onOp_taken taken).trans ((if_neg (not_not_intro has)).trans ((if_neg (not_not_intro enabled)).trans (if_pos behind))))

theorem execWriteSignalsAtFrame_far (far : 65536 < s1.framesAhead t.desc) (ahead : s1.framesAhead t.desc < 2 ^ 31) :
    execWriteSignalsAtFrame r data s = .next (s1.finish t 2 4 0) :=
  congrArg Host.Outcome.next ((State.onOp_taken taken).trans ((if_neg (not_not_intro has)).trans ((if_neg (not_not_intro enabled)).trans
    ((if_neg (Nat.not_le.2 ahead)).trans (if_pos far)))))

variable (near : s1.framesAhead t.desc ≤ 65536)

include near

/-- The branches of a timed write to an enabled channel whose frame is near enough. -/
theorem execWriteSignalsAtFrame_near [Decidable (s1.frameLate t.desc)] : execWriteSignalsAtFrame r data s = .next (if s1.frameLate t.desc then s1.finish t 1 3 0
    else if 256 ≤ s1.re.timed.length then s1.finish t 5 3 0
    else match t.frameValues data with
      | none => s1.finish t 2 12 0
      | some vs => (s1.modRe (fun y => { y with timed := y.timed ++ [⟨t.desc.frameChannel, t.desc.w[1].toNat, t.desc.sig, vs, t.ring, t.index, none⟩] })).armTimer
          t.desc.frameChannel) := by
  have ahead : ¬ 2 ^ 31 ≤ s1.framesAhead t.desc := by omega
  refine congrArg Host.Outcome.next ((State.onOp_taken taken).trans ((if_neg (not_not_intro has)).trans ((if_neg (not_not_intro enabled)).trans
    ((if_neg ahead).trans ((if_neg (Nat.not_lt.2 near)).trans ?_)))))
  by_cases late : s1.frameLate t.desc
  · rw [if_pos late]
    exact if_pos late
  · rw [if_neg late]
    exact if_neg late

theorem execWriteSignalsAtFrame_late (late : s1.frameLate t.desc) : execWriteSignalsAtFrame r data s = .next (s1.finish t 1 3 0) := by
  classical rw [execWriteSignalsAtFrame_near taken has enabled near, if_pos late]

variable (early : ¬ s1.frameLate t.desc)

include early

theorem execWriteSignalsAtFrame_full (full : 256 ≤ s1.re.timed.length) : execWriteSignalsAtFrame r data s = .next (s1.finish t 5 3 0) := by
  classical rw [execWriteSignalsAtFrame_near taken has enabled near, if_neg early, if_pos full]

variable (room : s1.re.timed.length < 256)

include room

theorem execWriteSignalsAtFrame_failed (failed : t.frameValues data = none) : execWriteSignalsAtFrame r data s = .next (s1.finish t 2 12 0) := by
  classical rw [execWriteSignalsAtFrame_near taken has enabled near, if_neg early, if_neg (Nat.not_le.2 room), failed]

theorem execWriteSignalsAtFrame_waits {vs : List Word} (values : t.frameValues data = some vs) : execWriteSignalsAtFrame r data s
    = .next ((s1.modRe (fun y => { y with timed := y.timed ++ [⟨t.desc.frameChannel, t.desc.w[1].toNat, t.desc.sig, vs, t.ring, t.index, none⟩] })).armTimer
        t.desc.frameChannel) := by
  classical rw [execWriteSignalsAtFrame_near taken has enabled near, if_neg early, if_neg (Nat.not_le.2 room), values]

end

/-! ## The timer of a timed write (R57, R554) -/

section
variable {c : Channel} {w : TimedWrite}

/-- The state without a timed write. -/
def State.dropTimed (s : State) (w : TimedWrite) : State := s.modRe (fun r => { r with timed := r.timed.filter (· != w) })

theorem execTimedWriteCommit_commits {q : TimerRequest} {rest : List TimedWrite} (fired : s.timerReqs[(0 : Fin 2)].find? (fun q => q.purpose == c.val) = some q)
    (waits : s.re.timed.filter (fun t => t.channel == c && t.due == some q.stamp) = w :: rest) : execTimedWriteCommit c s
    = .next ((if rest = [] then ({ s.dropTimed w with timerReqs := vUpd (s.dropTimed w).timerReqs 0 (fun l => l.filter (· != q)) } : State) else s.dropTimed w).hostWrite
        w.ring w.index w.sig w.values q.stamp (w32 w.frame)) := by
  have fires : s.timerReqs[0].find? (fun q => q.purpose == c.val) = some q := fired
  simp only [execTimedWriteCommit, fires, waits]
  rfl

theorem execTimedWriteCommit_misses (unfired : s.timerReqs[(0 : Fin 2)].find? (fun q => q.purpose == c.val) = none)
    (gone : s.re.timed.find? (fun t => t.channel == c && t.due.isNone && frameGe s.ch[c].frame t.frame) = some w) :
    execTimedWriteCommit c s = .next ((s.dropTimed w).complete w.ring w.index 1 3 0) := by
  have none_ : s.timerReqs[0].find? (fun q => q.purpose == c.val) = none := unfired
  simp only [execTimedWriteCommit, none_, gone]
  rfl

end

/-! ## Tables and trace (R552, R556) -/

section
variable {data : Option (List Byte)} {bs : List Byte}

theorem execLoadTable_read (taken : s.take r.toNat 0x22 (fun _ => true) = some (t, s1)) (read : dataOf t data = some bs) : execLoadTable r data s
    = .next (({ s1.doEffect none (.tables t.desc.w[0].toNat (wordsLe bs)) with
        pwr := { (s1.doEffect none (.tables t.desc.w[0].toNat (wordsLe bs))).pwr with
          tablePages := notePages (s1.doEffect none (.tables t.desc.w[0].toNat (wordsLe bs))).pwr.tablePages t.desc.w[0].toNat (wordsLe bs).length } } : State).finish
        t 0 0 (w32 (wordsLe bs).length)) :=
  congrArg Host.Outcome.next (State.onData_read taken read)

variable (taken : s.take r.toNat 0x30 (fun d => !bitAt d.w[0] 2) = some (t, s1)) (read : dataOf t data = some bs)

/-- Every tap that a trace asks for may be traced. -/
def State.tapsOk (s : State) (taps : List Nat) : Bool := taps.all (fun a => ((s.die .a).entryOf a).elim false (fun e => e.trace))

/-- A trace unit armed as a descriptor asks. -/
def TraceUnit.arm (u : TraceUnit) (d : Desc) (taps : List Nat) : TraceUnit :=
  { u with
    active := true
    taps := taps
    wrap := bitAt d.w[0] 0
    trig := if bitAt d.w[0] 1 then some ⟨d.w[1].toNat, d.w[2], d.w[3], d.w[4].toNat⟩ else none
    left := none
    records := []
    read := 0
    lost := false }

include taken read

theorem execArmTrace_busy (busy : s1.trace.active = true) : execArmTrace r data s = .next (s1.finish t 5 1 0) :=
  congrArg Host.Outcome.next ((State.onData_read taken read).trans (if_pos busy))

variable (idle : s1.trace.active = false)

include idle

theorem execArmTrace_badTap (bad : ¬ s1.tapsOk ((wordsLe bs).map (·.toNat)) = true) : execArmTrace r data s = .next (s1.finish t 2 5 0) :=
  congrArg Host.Outcome.next ((State.onData_read taken read).trans ((if_neg (Bool.eq_false_iff.1 idle)).trans (if_pos bad)))

theorem execArmTrace_arms (ok : s1.tapsOk ((wordsLe bs).map (·.toNat)) = true) : execArmTrace r data s = .next (({ s1 with
    trace := s1.trace.arm t.desc ((wordsLe bs).map (·.toNat))
    traceB := s1.traceB.arm t.desc ((wordsLe bs).map (·.toNat)) } : State).finish t 0 0 (w32 t.desc.count)) :=
  congrArg Host.Outcome.next ((State.onData_read taken read).trans ((if_neg (Bool.eq_false_iff.1 idle)).trans (if_neg (not_not_intro ok))))

end

section
variable (taken : s.take r.toNat 0x30 (fun d => bitAt d.w[0] 2) = some (t, s1))

include taken

theorem execDisarm_taken : execDisarm r s = .next ((if s1.trace.active = true then
      ({ s1 with traceB := { s1.traceB with active := false } } : State).stopTrace 2
    else { s1 with traceB := { s1.traceB with active := false } }).finish t 0 0 0) :=
  congrArg Host.Outcome.next (State.onDesc_taken taken)

theorem execDisarm_runs (runs : s1.trace.active = true) :
    execDisarm r s = .next ((({ s1 with traceB := { s1.traceB with active := false } } : State).stopTrace 2).finish t 0 0 0) := by
  rw [execDisarm_taken taken, if_pos runs]

theorem execDisarm_idle (idle : s1.trace.active = false) :
    execDisarm r s = .next (({ s1 with traceB := { s1.traceB with active := false } } : State).finish t 0 0 0) := by
  rw [execDisarm_taken taken, if_neg (Bool.eq_false_iff.1 idle)]

end

/-! ## DRAIN_SAMPLES (R282, R557) -/

/-- The buffer a descriptor drains. -/
def Desc.smpBuffer (d : Desc) : Fin 64 := finOf 63 d.w[0].toNat

/-- The oldest sample still in a buffer. -/
def State.smpOldest (s : State) (b : Fin 64) : Nat :=
  if 2 ^ s.smpLog b < s.smpUnread b then (s.smp[b].wptr + 2 ^ 32 - 2 ^ s.smpLog b) % 2 ^ 32 else (s.reg (Reg.smpRptr b.val)).toNat

/-- How many samples a descriptor drains. -/
def State.smpDrained (s : State) (d : Desc) : Nat := min (min (s.smpUnread d.smpBuffer) (2 ^ s.smpLog d.smpBuffer)) (d.length / 4)

/-- The samples a descriptor drains. -/
def State.smpWords (s : State) (d : Desc) : List Word :=
  (List.range (s.smpDrained d)).map (fun i => kvGet 0 s.sampleMem ((s.smpSpan d.smpBuffer).1 + (s.smpOldest d.smpBuffer + i) % 2 ^ s.smpLog d.smpBuffer))

theorem execDrainSamples_taken (taken : s.take r.toNat 0x32 (fun _ => true) = some (t, s1)) : execDrainSamples r s
    = .next (((s1.emit (.hostWrite t.desc.addr ((s1.smpWords t.desc).flatMap (fun w => leBytes 4 w.toNat)))).setRptr t.desc.smpBuffer
        (w32 (s1.smpOldest t.desc.smpBuffer + s1.smpDrained t.desc))).finish t 0 (b2n (decide (2 ^ s1.smpLog t.desc.smpBuffer < s1.smpUnread t.desc.smpBuffer)))
        (w32 (s1.smpDrained t.desc))) := by
  unfold execDrainSamples
  rw [State.onOp_taken taken]
  simp only [decide_eq_true_eq]
  rfl

end

/-- Settles O47: each command takes the branch its conditions name. -/
theorem signalDescriptors : Obligations.SignalDescriptors := by
  unfold Obligations.SignalDescriptors
  refine ⟨?write, fun s ring ix sig stamp vals res => ⟨fun st det => hostWrite_refused, hostWrite_commits⟩, ?read, ?atFrame, ?timer, ?table, ?arm, ?drain⟩
  case write =>
    exact fun s s1 r t data taken => ⟨execWriteSignals_inline taken, fun host bs => execWriteSignals_host taken host, execWriteSignals_failed taken⟩
  case read =>
    exact fun s s1 r t taken => ⟨execReadSignals_refused taken, fun vs s2 reads => ⟨execReadSignals_result taken reads, execReadSignals_memory taken reads⟩⟩
  case atFrame =>
    intro s s1 r t data taken d c f x ahead late vals
    refine ⟨execWriteSignalsAtFrame_absent taken, execWriteSignalsAtFrame_disabled taken, fun has enabled => ?_⟩
    refine ⟨execWriteSignalsAtFrame_behind taken has enabled, execWriteSignalsAtFrame_far taken has enabled, execWriteSignalsAtFrame_late taken has enabled,
      execWriteSignalsAtFrame_full taken has enabled, fun near early room => ?_⟩
    exact ⟨execWriteSignalsAtFrame_failed taken has enabled near early room, fun vs => execWriteSignalsAtFrame_waits taken has enabled near early room⟩
  case timer => exact fun s c => ⟨fun w q rest => execTimedWriteCommit_commits, fun w => execTimedWriteCommit_misses⟩
  case table => exact fun s s1 r t data taken => ⟨fun bs => execLoadTable_read taken, fun failed => congrArg Host.Outcome.next (State.onData_failed taken failed)⟩
  case arm =>
    intro s s1 r t data bs taken read d taps ok arm
    exact ⟨execArmTrace_busy taken read, execArmTrace_badTap taken read, execArmTrace_arms taken read⟩
  case drain =>
    intro s s1 r t
    exact ⟨fun taken => ⟨execDisarm_runs taken, execDisarm_idle taken⟩, fun taken => congrArg Host.Outcome.next (State.onOp_taken taken), execDrainSamples_taken⟩

end Sys2Proof.Machine
end

section
/-! PROOFS. LOAD_PROGRAM, SWAP_PROGRAM and the three forms of CHANNEL_MODE (16_host_rings.md R552, R558). -/

namespace Sys2Proof.Machine

section
variable {s s1 : State} {r : BitVec 16} {t : Taken}

/-! ## LOAD_PROGRAM (R98, R128, R130) -/

section
variable {data : Option (List Byte)} {bs : List Byte} (taken : s.take r.toNat 0x20 (fun _ => true) = some (t, s1)) (read : dataOf t data = some bs)

/-- The slot a program is loaded into. -/
def Desc.loadSlot (d : Desc) : SlotCode := finOf 127 d.w[0].toNat

/-- The channel a program is loaded for. -/
def Desc.loadChannel (d : Desc) : Channel := finOf 7 d.w[1].toNat

/-- What a judged program does to the state and how its descriptor ends. -/
def State.loadJudged (s : State) (t : Taken) : LoadResult → State
  | .dirFull n free => (s.raise 0x0116 1 6 [w32 n, w32 free]).finish t 2 10 0
  | .bad st det => s.finish t st det 0
  | .full bank n big => (s.raise 0x1021 1 6 [w32 bank, w32 n, w32 big]).finish t 2 11 0
  | .ok place im => (s.doEffect (some t.desc.loadChannel) (.load t.desc.loadSlot t.desc.loadChannel place im)).finish t 0 0 (w32 place)

include taken read

theorem execLoadProgram_judged {j : LoadResult} (judged : s1.judgeLoad t.desc.loadSlot t.desc.loadChannel bs = j) :
    execLoadProgram r data s = .next (s1.loadJudged t j) := by
  refine congrArg Host.Outcome.next ((State.onData_read taken read).trans ?_)
  rw [← judged]
  rfl

end

/-! ## SWAP_PROGRAM (R131, R439) -/

section
variable (taken : s.take r.toNat 0x21 (fun _ => true) = some (t, s1))

/-- The slot a swap empties. -/
def Desc.swapOld (d : Desc) : Option SlotCode := slotNamed (bitsAt d.w[0] 0 8)

/-- The slot a swap starts. -/
def Desc.swapNew (d : Desc) : Option SlotCode := slotNamed (bitsAt d.w[0] 8 8)

/-- The state with a swap handed to the planner. -/
def State.swapLater (s : State) (t : Taken) : State :=
  { s with planner := { s.planner with pending := s.planner.pending ++ [.swap t.desc.swapOld t.desc.swapNew t.ring t.index] } }

include taken

theorem execSwapProgram_inShutdown (shut : s1.shut.active = true) : execSwapProgram r s = .next (s1.finish t 1 4 0) :=
  congrArg Host.Outcome.next ((State.onOp_taken taken).trans (if_pos shut))

variable (up : s1.shut.active = false)

include up

theorem execSwapProgram_refused (bad : s1.swapBad t.desc.swapOld t.desc.swapNew = true) : execSwapProgram r s = .next (s1.finish t 1 1 0) :=
  congrArg Host.Outcome.next ((State.onOp_taken taken).trans ((if_neg (Bool.eq_false_iff.1 up)).trans (if_pos bad)))

variable (fine : s1.swapBad t.desc.swapOld t.desc.swapNew = false)

include fine

theorem execSwapProgram_allowed : execSwapProgram r s = .next (match t.desc.swapOld, t.desc.swapNew with
    | some o, none => if (s1.slotOf .a o).state = .loaded then (s1.emptyBoth o).finish t 0 0 0 else s1.swapLater t
    | _, _ => s1.swapLater t) := by
  refine congrArg Host.Outcome.next ((State.onOp_taken taken).trans ((if_neg (Bool.eq_false_iff.1 up)).trans ((if_neg (Bool.eq_false_iff.1 fine)).trans ?_)))
  rfl

theorem execSwapProgram_empties {o : SlotCode} (old : t.desc.swapOld = some o) (new : t.desc.swapNew = none) (loaded : (s1.slotOf .a o).state = .loaded) :
    execSwapProgram r s = .next ((s1.emptyBoth o).finish t 0 0 0) := by
  rw [execSwapProgram_allowed taken up fine, old, new]
  exact congrArg Host.Outcome.next (if_pos loaded)

theorem execSwapProgram_waits (planned : ∀ o, t.desc.swapOld = some o → t.desc.swapNew = none → (s1.slotOf .a o).state ≠ .loaded) :
    execSwapProgram r s = .next (s1.swapLater t) := by
  rw [execSwapProgram_allowed taken up fine]
  split
  next o old new => rw [if_neg (planned o old new)]
  next => rfl

end

/-! ## CHANNEL_MODE (R427, R558) -/

/-- The channels a CHANNEL_MODE names. -/
def Desc.modeChans (d : Desc) : List Channel := maskChans (BitVec.ofNat 8 (bitsAt d.w[0] 0 8))

section
variable (taken : s.take r.toNat 0x41 (fun d => bitsAt d.w[0] 12 2 == 0) = some (t, s1))

/-- The settings would change the EN of a channel. -/
def State.modeChangesEn (s : State) (d : Desc) : Prop :=
  bitAt d.w[0] 8 = true ∧ ∃ c ∈ d.modeChans, bitAt d.w[1] 31 ≠ bitAt (s.reg (Reg.chCarrier c.val)) 31

/-- The state with the settings of a CHANNEL_MODE in force, to be judged. -/
def State.modeTrial (s : State) (t : Taken) : State :=
  t.desc.modeChans.foldl (fun u c => (u.modCh c (fun x => { x with settings := some (s.modeSettings t c) })).withSettings c) s

/-- The set-up a CHANNEL_MODE would make fails on an enabled channel. -/
def State.modeFails (s : State) (t : Taken) : Prop := ∃ c : Channel, s.ch[c].enabled = true ∧ (s.modeTrial t).modeBad c = true

theorem any_en_changes {d : Desc} {u : State} :
    (bitAt d.w[0] 8 = true ∧ d.modeChans.any (fun c => bitAt d.w[1] 31 != bitAt (u.reg (Reg.chCarrier c.val)) 31) = true) ↔ u.modeChangesEn d := by
  simp only [State.modeChangesEn, List.any_eq_true, bne_iff_ne]

theorem any_mode_fails : (idxs 8).any (fun c => s.ch[c].enabled && (s.modeTrial t).modeBad c) = true ↔ s.modeFails t := by
  simp only [State.modeFails, List.any_eq_true, Bool.and_eq_true, idxs, List.mem_finRange, true_and]

include taken

theorem execChannelModeSettings_changesEn (changes : s1.modeChangesEn t.desc) : execChannelModeSettings r s = .next (s1.finish t 2 8 0) :=
  congrArg Host.Outcome.next ((State.onDesc_taken taken).trans (if_pos (any_en_changes.2 changes)))

variable (keeps : ¬ s1.modeChangesEn t.desc)

include keeps

theorem execChannelModeSettings_stopped {st det : Nat} (stop : s1.modeStop t = some (st, det)) :
    execChannelModeSettings r s = .next (s1.finish t st det 0) := by
  refine congrArg Host.Outcome.next ((State.onDesc_taken taken).trans ((if_neg (mt any_en_changes.1 keeps)).trans ?_))
  rw [stop]

variable (goes : s1.modeStop t = none)

include goes

theorem execChannelModeSettings_fails (fails : s1.modeFails t) : execChannelModeSettings r s = .next (s1.finish t 2 8 0) := by
  refine congrArg Host.Outcome.next ((State.onDesc_taken taken).trans ((if_neg (mt any_en_changes.1 keeps)).trans ?_))
  rw [goes]
  exact if_pos (any_mode_fails.2 fails)

theorem execChannelModeSettings_waits (fine : ¬ s1.modeFails t) : execChannelModeSettings r s = .next { s1 with planner := { s1.planner with
    pending := s1.planner.pending ++ [.mode (BitVec.ofNat 8 (bitsAt t.desc.w[0] 0 8)) (s1.modeSettings t (t.desc.modeChans.headD 0))] } } := by
  refine congrArg Host.Outcome.next ((State.onDesc_taken taken).trans ((if_neg (mt any_en_changes.1 keeps)).trans ?_))
  rw [goes]
  exact if_neg (mt any_mode_fails.1 fine)

end

section
variable (taken : s.take r.toNat 0x41 (fun d => bitAt d.w[0] 12) = some (t, s1))

include taken

theorem execChannelModeResync_stopped {st det : Nat} (stop : s1.modeStop t = some (st, det)) : execChannelModeResync r s = .next (s1.finish t st det 0) := by
  refine congrArg Host.Outcome.next ((State.onDesc_taken taken).trans ?_)
  simp only [stop]

variable (goes : s1.modeStop t = none)

include goes

theorem execChannelModeResync_refused (other : s1.source (t.desc.modeChans.headD 0) = 2 ∨ s1.ch[(t.desc.modeChans.headD 0)].running = false) :
    execChannelModeResync r s = .next (s1.finish t 1 1 0) := by
  refine congrArg Host.Outcome.next ((State.onDesc_taken taken).trans ?_)
  simp only [goes]
  exact if_pos (other.imp_right Bool.eq_false_iff.1)

theorem execChannelModeResync_resyncs (own : s1.source (t.desc.modeChans.headD 0) ≠ 2) (runs : s1.ch[(t.desc.modeChans.headD 0)].running = true) :
    execChannelModeResync r s = .next (s1.commandResync (t.desc.modeChans.headD 0) (some (t.ring, t.index))) := by
  refine congrArg Host.Outcome.next ((State.onDesc_taken taken).trans ?_)
  simp only [goes]
  exact if_neg (not_or.2 ⟨own, not_not_intro runs⟩)

end

section
variable (taken : s.take r.toNat 0x41 (fun d => bitAt d.w[0] 13) = some (t, s1))

/-- One channel of a RELEASE: a channel that is not enabled is granted none. -/
def State.releaseOne (s : State) (p : State × Nat) (c : Channel) : State × Nat :=
  if s.ch[c].enabled = false then p else ((p.1.requestRelease c).1, if (p.1.requestRelease c).2 then p.2 + 2 ^ c.val else p.2)

/-- The state a RELEASE leaves and the mask of the channels granted. -/
def State.released (s : State) (t : Taken) : State × Nat := t.desc.modeChans.foldl s.releaseOne (s, 0)

/-- The part has every channel the descriptor names. -/
def State.modeHas (s : State) (t : Taken) : Bool := t.desc.modeChans.all (fun c => s.hasChannel c)

theorem any_mode_absent : (maskChans (BitVec.ofNat 8 (bitsAt t.desc.w[0] 0 8))).any (fun c => !s.hasChannel c) = true ↔ s.modeHas t = false := by
  rw [State.modeHas, List.all_eq_not_any_not, Bool.not_eq_false']
  rfl

theorem not_any_mode_absent (has : s.modeHas t = true) : ¬ (maskChans (BitVec.ofNat 8 (bitsAt t.desc.w[0] 0 8))).any (fun c => !s.hasChannel c) = true :=
  mt any_mode_absent.1 (Bool.not_eq_false _ ▸ has)

include taken

theorem execChannelModeRelease_absent (lacks : s1.modeHas t = false) : execChannelModeRelease r s = .next (s1.finish t 2 6 0) :=
  congrArg Host.Outcome.next ((State.onDesc_taken taken).trans (if_pos (any_mode_absent.2 lacks)))

variable (has : s1.modeHas t = true)

include has

theorem execChannelModeRelease_early (early : s1.glb.locked = false) : execChannelModeRelease r s = .next (s1.finish t 1 1 0) :=
  congrArg Host.Outcome.next ((State.onDesc_taken taken).trans ((if_neg (not_any_mode_absent has)).trans (if_pos (Bool.eq_false_iff.1 early))))

variable (locked : s1.glb.locked = true)

include locked

theorem execChannelModeRelease_asked : execChannelModeRelease r s
    = .next (if (s1.released t).2 = bitsAt t.desc.w[0] 0 8 then (s1.released t).1.finish t 0 0 (w32 (s1.released t).2)
      else (s1.released t).1.finish t 1 5 (w32 (s1.released t).2)) := by
  have one : (fun (p : State × Nat) (c : Channel) => if ¬ s1.ch[c].enabled = true then p
      else ((p.1.requestRelease c).1, if (p.1.requestRelease c).2 = true then p.2 + 2 ^ c.val else p.2)) = s1.releaseOne := by
    funext p c
    simp only [State.releaseOne, Bool.not_eq_true]
  refine congrArg Host.Outcome.next ((State.onDesc_taken taken).trans ((if_neg (not_any_mode_absent has)).trans ((if_neg (not_not_intro locked)).trans ?_)))
  rw [State.released, ← one]
  rfl

theorem execChannelModeRelease_all (all : (s1.released t).2 = bitsAt t.desc.w[0] 0 8) :
    execChannelModeRelease r s = .next ((s1.released t).1.finish t 0 0 (w32 (s1.released t).2)) := by
  rw [execChannelModeRelease_asked taken has locked, if_pos all]

theorem execChannelModeRelease_some (some_ : (s1.released t).2 ≠ bitsAt t.desc.w[0] 0 8) :
    execChannelModeRelease r s = .next ((s1.released t).1.finish t 1 5 (w32 (s1.released t).2)) := by
  rw [execChannelModeRelease_asked taken has locked, if_neg some_]

end

end

/-- Settles O48: each command takes the branch its conditions name. -/
theorem programAndModeDescriptors : Obligations.ProgramAndModeDescriptors := by
  unfold Obligations.ProgramAndModeDescriptors
  refine ⟨?load, ?swap, ?mode, fun s t => rfl⟩
  case load =>
    intro s s1 r t data bs taken read slot ch
    exact ⟨fun place im => execLoadProgram_judged taken read, fun st det => execLoadProgram_judged taken read,
      fun n free => execLoadProgram_judged taken read, fun bank n big => execLoadProgram_judged taken read⟩
  case swap =>
    intro s s1 r t taken old new later
    refine ⟨execSwapProgram_inShutdown taken, execSwapProgram_refused taken, fun up fine => ?_⟩
    exact ⟨fun o => execSwapProgram_empties taken up fine, execSwapProgram_waits taken up fine⟩
  case mode =>
    intro s s1 r t mask cs
    refine ⟨fun taken => ?_, fun taken => ?_, fun taken => ?_⟩
    · refine ⟨execChannelModeSettings_changesEn taken, fun keeps st det => execChannelModeSettings_stopped taken keeps, fun keeps goes => ?_⟩
      exact ⟨execChannelModeSettings_fails taken keeps goes, execChannelModeSettings_waits taken keeps goes⟩
    · exact ⟨fun st det => execChannelModeResync_stopped taken, execChannelModeResync_refused taken, execChannelModeResync_resyncs taken⟩
    · refine ⟨execChannelModeRelease_absent taken, execChannelModeRelease_early taken, fun has locked => ?_⟩
      exact ⟨execChannelModeRelease_all taken has locked, execChannelModeRelease_some taken has locked⟩

end Sys2Proof.Machine
end

section
/-! PROOFS. CAN controllers: reception, locked objects, transmission, errors and bus-off (17_can.md R577 to R592). -/

namespace Sys2Proof.Machine

section
variable {s : State} {k : Fin 4}

/-! ## Reception (R577, R581 to R584, R590) -/

section
variable (on : s.canOn k = true) (hears : s.canMode k ≠ 2) (live : (s.ctl k).mode ≠ .busOff)

include on hears live

theorem execCanFrameReceived_taken (id : BitVec 29) (ide fdf brs esi remote : Bool) (dlc : BitVec 4) (data : List (BitVec 8)) (sof : Nat) :
    execCanFrameReceived k id ide fdf brs esi remote dlc data sof s = .next ((s.offerFrame k (canHead id.toNat ide fdf brs)
      (packFields [(0, dlcLen fdf dlc.toNat), (7, b2n esi), (8, dlc.toNat)]) (fitBytes (dlcLen fdf dlc.toNat) data) remote sof).recDown k) :=
  if_pos ⟨on, hears, live⟩

theorem execCanReceiveError_counts (dominant : Bool) : execCanReceiveError k dominant s
    = .next (((if s.canMode k = 1 then s else s.emit (.canError k.val)).modCan k (fun c => { c with
      rec_ := min 255 (c.rec_ + if dominant then 8 else 1) })).confine k) :=
  if_pos ⟨on, hears, live⟩

end

section
variable {head ctl : Word} {data : List Byte} {remote : Bool} {sof : Nat}

theorem offerFrame_stores {j : Nat} (dataFrame : remote = false) (takes : s.objectFor k (bitsAt head 0 29) (bitAt head 29) = some j) :
    s.offerFrame k head ctl data remote sof = s.storeFrame k j ([head, ctl] ++ timeWords sof ++ dataWords data) sof := by
  subst dataFrame
  simp only [State.offerFrame, takes, Bool.false_eq_true, if_false]

theorem offerFrame_unmatched (none_ : remote = true ∨ s.objectFor k (bitsAt head 0 29) (bitAt head 29) = none) :
    s.offerFrame k head ctl data remote sof = s.modCan k (fun c => { c with unmatched := holdInc 0xFFFF c.unmatched }) := by
  rcases none_ with rfl | noObject
  · rfl
  · simp only [State.offerFrame, noObject, ite_self]

end

/-! ## Objects (R582 to R585) -/

section
variable {j : Nat} {ws : List Word} {sof : Nat}

/-- The count of an object's next frame. -/
def State.objNext (s : State) (k : Fin 4) (j : Nat) : Nat := (((s.ctl k).obj j).count + 1) % 2 ^ 32

/-- A frame stored in an object that is not locked: its words, with LOST where NEW stood. -/
def State.objWords (s : State) (k : Fin 4) (j : Nat) (ws : List Word) : List Word :=
  withLost (ws ++ [w32 (s.objNext k j)]) (((s.ctl k).obj j).lost || ((s.ctl k).obj j).new)

/-- The state with a frame in an object's buffer. -/
def State.objBuffered (s : State) (k : Fin 4) (j : Nat) (ws : List Word) : State :=
  s.modObj k j (fun x => { x with
    count := s.objNext k j
    buf := s.objWords k j ws
    new := true
    lost := ((s.ctl k).obj j).lost || ((s.ctl k).obj j).new })

/-- An object that no lock names is not locked. -/
theorem not_locked_any (free : ∀ l, (s.ctl k).locked = some l → l.1 ≠ j) : (s.ctl k).locked.any (fun l => l.1 == j) = false := by
  cases locked : (s.ctl k).locked with
  | none => rfl
  | some l => exact beq_false_of_ne (free l locked)

theorem locked_any {t : Nat} (locked : (s.ctl k).locked = some (j, t)) : (s.ctl k).locked.any (fun l => l.1 == j) = true := by
  rw [locked]
  exact beq_self_eq_true j

theorem storeFrame_buffer (free : ∀ l, (s.ctl k).locked = some l → l.1 ≠ j) (plain : s.objMirror k j = false) :
    s.storeFrame k j ws sof = s.objBuffered k j ws := by
  simp only [State.storeFrame, not_locked_any free, plain, Bool.false_eq_true, if_false]
  rfl

theorem storeFrame_shadow {t : Nat} (locked : (s.ctl k).locked = some (j, t)) (plain : s.objMirror k j = false) :
    s.storeFrame k j ws sof = s.modObj k j (fun x => { x with
      count := s.objNext k j
      shadow := some (withLost (ws ++ [w32 (s.objNext k j)]) ((s.ctl k).obj j).shadow.isSome) }) := by
  simp only [State.storeFrame, locked_any locked, plain, Bool.false_eq_true, if_false, if_true]
  rfl

theorem storeFrame_mirrored (free : ∀ l, (s.ctl k).locked = some l → l.1 ≠ j) (mirror : s.objMirror k j = true) :
    s.storeFrame k j ws sof = (s.objBuffered k j ws).hwCommit (0x10 + k.val) sof (numbered (s.objBase k j) (s.objWords k j ws)) := by
  simp only [State.storeFrame, not_locked_any free, mirror, Bool.false_eq_true, if_false, if_true]
  rfl

end

section
variable {j : Fin 1024}

/-- The state with an object selected. -/
def State.objSelected (s u : State) (k : Fin 4) (j : Fin 1024) : State :=
  u.setReg (Reg.canObjSel k.val) (packFields [(31, b2n (s.objKind k j.val == 0)), (0, j.val)])

theorem execObjectLock_locks (receives : s.objKind k j.val = 0) (free : ∀ l, (s.ctl k).locked = some l → l.1 ≠ j.val) :
    execObjectLock k j s = .next ((s.objSelected (s.canUnlock k) k j).modCan k (fun c => { c with locked := some (j.val, s.now) })) := by
  simp only [execObjectLock, not_locked_any free, receives, Bool.false_eq_true, if_false, false_or, not_true, ne_eq]
  rw [State.objSelected, receives]

theorem execObjectLock_same {t : Nat} (locked : (s.ctl k).locked = some (j.val, t)) : execObjectLock k j s = .next (s.objSelected s k j) := by
  simp only [execObjectLock, locked_any locked, if_true, true_or]
  rfl

theorem canUnlock_unlocked (unlocked : (s.ctl k).locked = none) : s.canUnlock k = s := by
  simp only [State.canUnlock, unlocked]

theorem canUnlock_locked {i t : Nat} (locked : (s.ctl k).locked = some (i, t)) :
    s.canUnlock k = (s.modCan k (fun c => { c with locked := none })).modObj k i (fun o =>
      match o.shadow with
      | some ws => { o with
        buf := ws
        new := true
        lost := bitAt (ws.getD 1 0) 12
        shadow := none }
      | none => { o with
        new := false
        lost := false }) := by
  simp only [State.canUnlock, locked] <;> rfl

theorem execObjectLock_selects (other : s.objKind k j.val ≠ 0) (unlocked : (s.ctl k).locked = none) : execObjectLock k j s = .next (s.objSelected s k j) := by
  have free : ∀ l, (s.ctl k).locked = some l → l.1 ≠ j.val := fun l locked => by simp [unlocked] at locked
  simp only [execObjectLock, not_locked_any free, Bool.false_eq_true, if_false, false_or, if_pos other, canUnlock_unlocked unlocked]
  rfl

theorem execCanLockTimeout_due {i t : Nat} (locked : (s.ctl k).locked = some (i, t)) (due : t + 10 * msTicks ≤ s.now) :
    execCanLockTimeout k s = .next (((s.canUnlock k).setReg (Reg.canObjSel k.val) (w32 i)).raise 0x9104 k.val 4 [w32 i]) := by
  simp only [execCanLockTimeout, locked, if_pos due]

/-! ## Transmission (R586 to R590) -/

theorem execTransmitCommit_pends {b stamp : Nat} {ws : List Word} (on : s.objOn k j.val = true) (kind : s.objKind k j.val = 1)
    (mirror : s.objMirror k j.val = true) (owned : s.txOwned k j.val = true) (sent : s.canSent.find? (fun p => p.1 == s.objBase k j.val) = some (b, stamp, ws)) :
    execTransmitCommit k j s = .next ((State.modObj { s with canSent := s.canSent.filter (fun q => q.1 != s.objBase k j.val) } k j.val (fun o => { o with
      pending := some ws
      taken := some stamp })).startTx k) := by
  simp only [execTransmitCommit, sent]
  exact if_pos ⟨on, kind, mirror, owned⟩

theorem execTransmitCommit_nothing (none_ : s.canSent.find? (fun p => p.1 == s.objBase k j.val) = none) : execTransmitCommit k j s = .next s := by
  simp only [execTransmitCommit, none_]

end

section
variable {a : CanAttempt} {sof : Nat} (on : s.canOn k = true) (onBus : (s.ctl k).onBus = some a)

/-- The state with the bus free of an attempt. -/
def State.busLeft (s : State) (k : Fin 4) (a : CanAttempt) : State := (s.measureTdc k (w32 a.id)).modCan k (fun c => { c with onBus := none })

/-- The state after a success: the frame done, TEC lowered and the next one started. -/
def State.txSucceeded (s : State) (k : Fin 4) (a : CanAttempt) (sof : Nat) : State :=
  (((s.txDone k a sof).modCan k (fun c => { c with tec := c.tec - 1 })).confine k).startTx k

include on onBus

theorem execTransmissionEnd_sent (bus : s.canMode k ≠ 2) : execTransmissionEnd k 0 sof s
    = .next (((s.busLeft k a).emit (.can k.val a.id a.data)).txSucceeded k a sof) := by
  simp only [execTransmissionEnd, on, onBus, if_neg bus]
  rfl

theorem execTransmissionEnd_looped {dlc : Nat} (loopback : s.canMode k = 2)
    (length : (List.range 16).find? (fun i => dlcLen (bitAt (w32 a.id) 30) i == a.data.length) = some dlc) : execTransmissionEnd k 0 sof s
    = .next (((s.busLeft k a).offerFrame k (w32 a.id) (packFields [(0, a.data.length), (8, dlc)]) a.data false sof).txSucceeded k a sof) := by
  simp only [execTransmissionEnd, on, onBus, if_pos loopback, length]
  rfl

theorem execTransmissionEnd_lost : execTransmissionEnd k 1 sof s = .next (((s.busLeft k a).txFlushed k a).startTx k) := by
  simp only [execTransmissionEnd, on, onBus]
  rfl

theorem execTransmissionEnd_error : execTransmissionEnd k 2 sof s
    = .next (((((s.busLeft k a).emit (.canError k.val)).txFlushed k a).modCan k (fun c => { c with tec := c.tec + 8 })).confine k |>.startTx k) := by
  simp only [execTransmissionEnd, on, onBus]
  rfl

theorem execTransmissionEnd_uncounted : execTransmissionEnd k 3 sof s = .next (((s.busLeft k a).txFlushed k a).startTx k) := by
  simp only [execTransmissionEnd, on, onBus]
  rfl

end

/-! ## Bus-off, TX_FLUSH and the status (R590, R592) -/

section
variable (off : (s.ctl k).mode = .busOff)

include off

theorem execRecover_starts : execRecover k s = .next (s.modCan k (fun c => { c with recovering := true })) := if_pos off

theorem execCanBusOn_ends (recovering : (s.ctl k).recovering = true) : execCanBusOn k s = .next ((((s.modCan k (fun c => { c with
    mode := .active
    tec := 0
    rec_ := 0
    recovering := false })).raise 0x9102 k.val 3 []).canStatusCommit k).startTx k) := if_pos ⟨off, recovering⟩

end

/-- An update of a controller is judged by what it makes of that controller. -/
theorem modCan_congr {f g : CanCtl → CanCtl} (same : f (s.ctl k) = g (s.ctl k)) : s.modCan k f = s.modCan k g := by
  have eq : vUpd s.can k f = vUpd s.can k g := congrArg (fun c => s.can.set k.val c k.isLt) same
  simp only [State.modCan, eq]

theorem execTxFlush_free (free : (s.ctl k).onBus = none) : execTxFlush k s = .next (s.modCan k (fun c => { c with
    objs := c.objs.filterMap (fun p => if ({ p.2 with pending := none } : CanObj) = {} then none else some (p.1, { p.2 with pending := none }))
    records := [] })) := by
  refine congrArg Host.Outcome.next (modCan_congr ?_)
  simp [free]

theorem execTxFlush_busy {a : CanAttempt} (busy : (s.ctl k).onBus = some a) : execTxFlush k s = .next (s.modCan k (fun c => { c with
    objs := c.objs.filterMap (fun p => if some p.1 = some a.obj then some p
      else if ({ p.2 with pending := none } : CanObj) = {} then none else some (p.1, { p.2 with pending := none }))
    records := if s.objKind k a.obj == 2 then c.records.take 1 else []
    onBus := c.onBus.map (fun a => { a with flushed := true }) })) := by
  simp only [execTxFlush, busy]
  rfl

theorem execCanStatusCommit_commits (en : bitAt (s.reg (Reg.canCtrl k.val)) 31 = true) (checked : s.glb.checked = true) :
    execCanStatusCommit k s = .next (s.hwCommit (0x10 + k.val) s.now (numbered (mirrorBase (508 + k.val))
      [w32 (s.canState k), w32 (min 255 (s.ctl k).tec), w32 (min 255 (s.ctl k).rec_), w32 (s.ctl k).unmatched, w32 (s.ctl k).evtDropped])) :=
  if_pos ⟨en, checked⟩

end

/-- Settles O53: each command takes the branch its conditions name. -/
theorem canControllers : Obligations.CanControllers := by
  unfold Obligations.CanControllers
  refine ⟨⟨?received, ?store, fun s k dominant on hears live => execCanReceiveError_counts on hears live dominant, ?lock, ?timeout⟩, ?commit, ?nothing, ?ends, ?recover,
    fun s k => execTxFlush_free, fun s k a => execTxFlush_busy, fun s k => execCanStatusCommit_commits⟩
  case received =>
    intro s k id ide fdf brs esi remote dlc data sof on hears live n head ctl
    exact ⟨execCanFrameReceived_taken on hears live id ide fdf brs esi remote dlc data sof, fun j => offerFrame_stores, offerFrame_unmatched⟩
  case store => exact fun s k j ws sof => ⟨storeFrame_buffer, fun t => storeFrame_shadow, storeFrame_mirrored⟩
  case lock => exact fun s k j => ⟨execObjectLock_locks, fun t => execObjectLock_same, execObjectLock_selects, rfl⟩
  case timeout => exact fun s k j t locked due => ⟨execCanLockTimeout_due locked due, canUnlock_locked locked⟩
  case commit => exact fun s k j b stamp ws => execTransmitCommit_pends
  case nothing => exact fun s k j => execTransmitCommit_nothing
  case ends =>
    intro s k a sof on onBus s0
    exact ⟨execTransmissionEnd_sent on onBus, fun dlc => execTransmissionEnd_looped on onBus, execTransmissionEnd_lost on onBus, execTransmissionEnd_error on onBus,
      execTransmissionEnd_uncounted on onBus⟩
  case recover => exact fun s k off => ⟨execRecover_starts off, execCanBusOn_ends off⟩

end Sys2Proof.Machine
end

section
/-! PROOFS. What begins a cold start and what its last steps leave (18_power_ladder.md R596, R599, R619, R621; 20_store_update_identity.md R667, R670). -/

namespace Sys2Proof.Machine

section
variable {s : State}

/-! ## What begins a cold start (R596, R599, R619, R670) -/

section
variable {n mv : Nat} {b : Bool} (low : s.pwr.resetLow = true)

include low

theorem execResetN_short (short : n < 4000) :
    execResetN n b mv s = .next ((({ s with pwr := { s.pwr with resetLow := false } } : State).enableGroup 2 true).noteRails s.pwr.rails).settle :=
  (if_neg (not_not_intro low)).trans (if_pos short)

theorem execResetN_long (long : 4000 ≤ n) : execResetN n b mv s = .next (({ s with
    tb := { s.tb with refSel := b }
    pwr := { s.pwr with resetLow := false, powerOn := false, io18 := decide (mv < 2500) } } : State).coldBegin (if s.pwr.powerOn then 1 else 2) 0) :=
  (if_neg (not_not_intro low)).trans (if_neg (Nat.not_lt.2 long))

end

theorem execRailFault_begins {r : Fin 8} {mv : Nat} (needed : s.railNeeded r = true) (released : s.pwr.resetLow = false)
    (outside : mv < (s.railLimits r).1 ∨ (s.railLimits r).2 < mv) : execRailFault r mv s = .next (s.coldBegin 3 (r.val + 1)) :=
  if_pos ⟨needed, Bool.eq_false_iff.1 released, outside⟩

section
variable (trial : s.store.life.boot.trial ≠ 0xFF) (booted : s.store.life.boot.trialFirstS ≠ 0) (due : s.store.life.boot.trialFirstS + 600 ≤ s.poweredS)
  (unconfirmed : s.store.confirmed = false)

include trial booted due unconfirmed

theorem execTrialTimer_ends (sto : s.allSto 0xFF = true) : execTrialTimer s = .next (s.coldBegin 7 0) :=
  (if_pos ⟨trial, booted, due, Bool.eq_false_iff.1 unconfirmed⟩).trans (if_pos sto)

theorem execTrialTimer_waits (runs : s.allSto 0xFF = false) : execTrialTimer s = .next s :=
  (if_pos ⟨trial, booted, due, Bool.eq_false_iff.1 unconfirmed⟩).trans (if_neg (Bool.eq_false_iff.1 runs))

end

/-! ## What a cold start leaves (R619) -/

section
variable (s) (cause rail : Nat)

/-- The state a cold start begins from: every unit as after reset but for what is not volatile. -/
def State.coldReset : State :=
  { State.reset with
    pending := s.pending
    part := s.part
    freeCtr := s.freeCtr
    outs := (s.lowerGroups 1).outs
    sats := s.sats.map Satellite.orphan
    tb := { State.reset.tb with refSel := s.tb.refSel }
    store := s.store.kept
    tahr := { State.reset.tahr with
      pwFails := s.tahr.pwFails
      lockout := s.tahr.lockout.map (fun t => t - s.now) }
    pwr := { State.reset.pwr with
      coldCause := cause
      coldRail := rail
      io18 := s.pwr.io18
      rails := s.pwr.rails
      enMain := false
      resetLow := s.pwr.resetLow
      powerOn := s.pwr.powerOn }
    st := { State.reset.st with fused := s.st.fused } }

/-- The same with EN_MAIN raised once reset is released. -/
def State.coldEnabled : State := if s.pwr.resetLow then s.coldReset cause rail else (s.coldReset cause rail).enableGroup 2 true

theorem coldEnabled_eq : s.coldEnabled cause rail = { s.coldReset cause rail with
    outs := (s.coldEnabled cause rail).outs
    pwr := { (s.coldReset cause rail).pwr with enMain := !s.pwr.resetLow } } := by
  unfold State.coldEnabled
  cases released : s.pwr.resetLow <;> rfl

theorem coldBegin_quiet : Quiet (s.coldEnabled cause rail).loadRecords (s.coldBegin cause rail) := settle_quiet _

theorem coldBegin_pwr : (s.coldBegin cause rail).pwr = { (s.coldReset cause rail).pwr with enMain := !s.pwr.resetLow } :=
  (coldBegin_quiet s cause rail).pwr.trans (by rw [coldEnabled_eq]; rfl)

theorem coldBegin_regs : (s.coldBegin cause rail).regs = [] :=
  (coldBegin_quiet s cause rail).regs.trans (by rw [coldEnabled_eq]; rfl)

theorem coldBegin_now : (s.coldBegin cause rail).now = 0 :=
  (coldBegin_quiet s cause rail).now.trans (by rw [coldEnabled_eq]; rfl)

theorem coldBegin_banks : (s.coldBegin cause rail).store.banks = s.store.banks :=
  (congrArg Store.banks (coldBegin_quiet s cause rail).store).trans (by rw [coldEnabled_eq]; rfl)

theorem coldBegin_pending : (s.coldBegin cause rail).pending = s.pending :=
  (coldBegin_quiet s cause rail).pending.trans (by rw [coldEnabled_eq]; rfl)

theorem coldBegin_tb : (s.coldBegin cause rail).tb = { State.reset.tb with refSel := s.tb.refSel } :=
  (coldBegin_quiet s cause rail).tb.trans (by rw [coldEnabled_eq]; rfl)

theorem coldBegin_st : (s.coldBegin cause rail).st = { State.reset.st with fused := s.st.fused } :=
  (coldBegin_quiet s cause rail).st.trans (by rw [coldEnabled_eq]; rfl)

end

/-! ## The last steps of a cold start (R621) -/

section
variable (v : Nat) (ok : Bool)

/-- The state with the fixed entries added, 800 mV written to both dies and the empty kinds found. -/
def State.coldPrepared (s : State) : State := ((((s.noteRails 0x1FE).addFixed s.coldEntries).avsWrite .a 800).avsWrite .b 800).findEmpty.dropLadderImage

/-- The state booted: the cold start counted, the tables loaded, the ageing seconds resumed. -/
def State.coldBooted (s : State) (v : Nat) : State :=
  (((((s.coldPrepared.modStore (fun x => { x with
    life := { x.life with coldStarts := (x.life.coldStarts + 1) % 2 ^ 32 }
    vsupHigh := decide (18000 < v) })).writeKind 3).boot.loadTables).renewNonce).resumeAge .a).resumeAge .b

/-- The state with Tahr started. -/
def State.coldStarted (s : State) (v : Nat) (ok : Bool) : State :=
  ({ s.coldBooted v with
    pwr := { (s.coldBooted v).pwr with started := true }
    st := { (s.coldBooted v).st with passDue := (s.coldBooted v).st.startPassed } } : State).startTahr ok

theorem execColdStart_starts (first : s.pwr.started = false) (released : s.pwr.resetLow = false) (runs : s.tb.running = true) (tested : s.st.startDone = true) :
    execColdStart v ok s = .next ((if (s.coldStarted v ok).store.ident.bound then s.coldStarted v ok else (s.coldStarted v ok).raise 0xA304 3 10 [0]).raise 0xA005 6 3
      [w32 s.pwr.coldCause, w32 s.pwr.coldRail]) := by
  unfold execColdStart
  rw [if_neg (not_or.2 ⟨Bool.eq_false_iff.1 first, not_or.2 ⟨Bool.eq_false_iff.1 released, not_or.2 ⟨not_not_intro runs, not_not_intro tested⟩⟩⟩)]
  extract_lets s1 s2 s3 p3 t3 s4 s5 s6
  have booted : s3 = s.coldBooted v := rfl
  clear_value s3
  subst booted
  have started : s5 = s.coldStarted v ok := rfl
  show Host.Outcome.next ((if s5.store.ident.bound then s5 else s5.raise 0xA304 3 10 [0]).raise 0xA005 6 3 [w32 s.pwr.coldCause, w32 s.pwr.coldRail]) = _
  rw [started]

end

end

/-- Settles O34: what begins a cold start takes the branch its conditions name; what the start leaves is read off the reset state, which settling keeps. -/
theorem coldStarts : Obligations.ColdStarts := by
  unfold Obligations.ColdStarts
  refine ⟨fun s => rfl, fun s => rfl, fun s n mv b low => ⟨execResetN_short low, execResetN_long low⟩, fun s r mv => execRailFault_begins, ?trial, ?leaves, ?start⟩
  case trial =>
    exact fun s trial booted due unconfirmed => ⟨execTrialTimer_ends trial booted due unconfirmed, execTrialTimer_waits trial booted due unconfirmed⟩
  case leaves =>
    intro s cause rail t
    simp only [t, coldBegin_regs, coldBegin_now, coldBegin_pwr, coldBegin_banks, coldBegin_pending, coldBegin_tb, coldBegin_st]
    exact ⟨trivial, trivial, rfl, rfl, rfl, rfl, rfl, trivial, trivial, trivial, trivial, rfl, trivial⟩
  case start =>
    intro s v ok first released runs tested u w x
    have booted : w = s.coldBooted v := rfl
    clear_value w
    subst booted
    have started : x = s.coldStarted v ok := rfl
    rw [started]
    exact execColdStart_starts v ok first released runs tested

end Sys2Proof.Machine
end

section
/-! PROOFS. STORE_RECORD, READ_RECORD, IDENTITY_CHALLENGE, the end of a bank write and the event log (20_store_update_identity.md R638 to R666). -/

namespace Sys2Proof.Machine

section
variable {s s1 : State} {r : BitVec 16} {t : Taken}

/-! ## STORE_RECORD (R638, R642, R644, R648, R665) -/

section
variable {data : Option (List Byte)} {bs : List Byte} (taken : s.take r.toNat 0x50 (fun _ => true) = some (t, s1)) (read : dataOf t data = some bs)
  (plain : t.desc.w[1] = 0)

include taken read plain

theorem execStoreRecord_starts {content : List Byte} (ok : s1.judgeRecord t.desc.w[0].toNat bs = .ok content) :
    execStoreRecord r data s = .next (s1.startRecord t.desc.w[0].toNat content (.ring t.ring t.index)) := by
  refine congrArg Host.Outcome.next ((State.onData_read taken read).trans ((if_neg (not_not_intro plain)).trans ?_))
  simp only [ok]

theorem execStoreRecord_refused {st det x : Nat} (bad : s1.judgeRecord t.desc.w[0].toNat bs = .error (st, det, some x)) :
    execStoreRecord r data s = .next ((s1.raise 0xA201 1 6 [w32 x]).finish t st det 0) := by
  refine congrArg Host.Outcome.next ((State.onData_read taken read).trans ((if_neg (not_not_intro plain)).trans ?_))
  simp only [bad]

theorem execStoreRecord_ends {st det : Nat} (bad : s1.judgeRecord t.desc.w[0].toNat bs = .error (st, det, none)) :
    execStoreRecord r data s = .next (s1.finish t st det 0) := by
  refine congrArg Host.Outcome.next ((State.onData_read taken read).trans ((if_neg (not_not_intro plain)).trans ?_))
  simp only [bad]

end

section
variable {k : Nat} {bs : List Byte}

theorem judgeRecord_calibration (free : s.kindBusy 1 = false) (up : s.storeUp = true) (allowed : s.lifecycle = 0 ∨ s.lifecycle = 1 ∨ s.lifecycle = 3)
    (length : bs.length = 1856) : s.judgeRecord 1 bs = .ok (s.calContent bs) := by
  have mayWrite : ¬ (s.lifecycle ≠ 0 ∧ s.lifecycle ≠ 1 ∧ s.lifecycle ≠ 3) := by omega
  unfold State.judgeRecord
  rw [if_neg (by decide), if_neg (by decide), if_neg (Bool.eq_false_iff.1 free), if_neg (not_not_intro up), if_pos rfl, if_neg mayWrite,
    if_neg (not_not_intro length)]

theorem judgeRecord_notHost (first : 2 ≤ k) (last : k ≤ 6) : s.judgeRecord k bs = .error (4, 4, none) := by
  unfold State.judgeRecord
  rw [if_neg (by omega), if_pos (by omega)]

theorem judgeRecord_unknown (unknown : k = 0 ∨ 7 < k) : s.judgeRecord k bs = .error (2, 6, none) := if_pos unknown

end

/-! ## READ_RECORD and IDENTITY_CHALLENGE (R639, R661) -/

section
variable {k w1 n : Nat}

/-- Header and content of a bank from an offset, at most n bytes (R639). -/
def State.bankCut (s : State) (k w1 n : Nat) (b : Fin 2) : List Byte :=
  (((s.bank k b).bytes k).take 32 ++ (((s.bank k b).bytes k).drop 32).drop (w1 / 256 * 256)).take n

theorem readRecord_safety : s.readRecord 6 w1 n = .error (4, 4) := rfl

theorem readRecord_inForce (first : 1 ≤ k) (last : k ≤ 7) (other : k ≠ 6) (plain : w1 % 256 = 0) (up : s.storeUp = true) :
    s.readRecord k w1 n = match s.inForce k with
      | none => .error (1, 1)
      | some b => .ok (s.bankCut k w1 n b, s) := by
  have known : ¬ (k = 0 ∨ 7 < k) := by omega
  have selects : ¬ (w1 / 4 % 64 ≠ 0 ∨ w1 % 4 = 3) := by omega
  have inForce : w1 % 4 = 0 := by omega
  simp only [State.readRecord, if_neg known, if_neg other, if_neg selects, if_neg (not_not_intro up), if_pos inForce] <;> rfl

variable (taken : s.take r.toNat 0x51 (fun _ => true) = some (t, s1))

include taken

theorem execReadRecord_refused {st det : Nat} (bad : s1.readRecord t.desc.w[0].toNat t.desc.w[1].toNat t.desc.length = .error (st, det)) :
    execReadRecord r s = .next (s1.finish t st det 0) := by
  refine congrArg Host.Outcome.next ((State.onOp_taken taken).trans ?_)
  simp only [bad]

theorem execReadRecord_reads {bs : List Byte} {s2 : State} (reads : s1.readRecord t.desc.w[0].toNat t.desc.w[1].toNat t.desc.length = .ok (bs, s2)) :
    execReadRecord r s = .next ((s2.emit (.hostWrite t.desc.addr bs)).finish t 0 0 (w32 bs.length)) := by
  refine congrArg Host.Outcome.next ((State.onOp_taken taken).trans ?_)
  simp only [reads]

end

section
variable (taken : s.take r.toNat 0x70 (fun _ => true) = some (t, s1))

include taken

theorem execIdentityChallenge_answers (length : t.desc.length = 1024) : execIdentityChallenge r s
    = .next ((s1.emit (.hostWrite t.desc.addr (s1.identityResponse ((t.desc.w.toList.take 8).flatMap (fun w => leBytes 4 w.toNat))))).finish t 0 0 0) :=
  congrArg Host.Outcome.next ((State.onOp_taken taken).trans (if_neg (not_not_intro length)))

theorem execIdentityChallenge_badLength (length : t.desc.length ≠ 1024) : execIdentityChallenge r s = .next (s1.finish t 2 4 0) :=
  congrArg Host.Outcome.next ((State.onOp_taken taken).trans (if_pos length))

end

/-! ## The end of a write (R642, R665, R666, R504) -/

section
variable {w : BankWrite} (running : s.store.write = some w)

/-- The state with a write's content in its bank. -/
def State.bankPut (s : State) (w : BankWrite) : State := s.abortWrite.putBank w

include running

theorem execBankWriteDone_cut (cut : s.writeCut w = true) : execBankWriteDone s = .next (s.failWrite w).nextWrite := by
  simp only [execBankWriteDone, running, if_pos cut]

variable (whole : s.writeCut w = false)

include whole

theorem execBankWriteDone_plain (notSafety : w.kind ≠ 6) (notFirmware : w.kind ≠ 7) :
    execBankWriteDone s = .next (((s.bankPut w).answerBy w.by_ 0 0 (s.nextSeq w.kind)).nextWrite) := by
  simp only [execBankWriteDone, running, whole, Bool.false_eq_true, if_neg notFirmware, if_neg notSafety, if_false]
  rfl

theorem execBankWriteDone_safety {b : WriteBy} {c : Completion} (safety : w.kind = 6) (request : s.store.safetyDone = some (b, c)) : execBankWriteDone s
    = .next ((((s.bankPut w).modStore (fun x => { x with safetyDone := none })).answerBy b c.status c.detail c.result.toNat).nextWrite) := by
  have notFirmware : w.kind ≠ 7 := by omega
  simp only [execBankWriteDone, running, whole, Bool.false_eq_true, if_neg notFirmware, if_pos safety, request, if_false]
  rfl

variable (firmware : w.kind = 7)

include firmware

theorem execBankWriteDone_trial (free : s.updateHeld = none) :
    execBankWriteDone s = .next ((((s.bankPut w).fwWritten w.bank).answerBy w.by_ 0 0 (s.nextSeq 7)).nextWrite) := by
  have notSafety : w.kind ≠ 6 := by omega
  rw [← firmware]
  simp only [execBankWriteDone, running, whole, Bool.false_eq_true, if_pos firmware, if_neg notSafety, free, if_false]
  rfl

theorem execBankWriteDone_held {x : Nat} (held : s.updateHeld = some x) : execBankWriteDone s
    = .next (((((s.abortWrite.modTahr (fun t => { t with updating := false })).raise 0xA201 1 6 [w32 x]).answerBy w.by_ 1 1 0)).nextWrite) := by
  simp only [execBankWriteDone, running, whole, Bool.false_eq_true, if_pos firmware, held, if_false]

end

/-! ## The event log (R651) -/

/-- The beginning of a write leaves the event log as it is. -/
theorem beginWrite_evlog (w : BankWrite) : (s.beginWrite w).store.evlog = s.store.evlog := by
  unfold State.beginWrite
  dsimp only
  split
  · rfl
  · split <;> rfl

theorem nextWrite_evlog : s.nextWrite.store.evlog = s.store.evlog := by
  unfold State.nextWrite
  split
  · rfl
  · split
    · rfl
    · exact beginWrite_evlog _

theorem queueKind_evlog (k : Nat) : (s.queueKind k).store.evlog = s.store.evlog := by
  unfold State.queueKind
  split <;> rfl

theorem writeKind_evlog (k : Nat) : (s.writeKind k).store.evlog = s.store.evlog := nextWrite_evlog.trans (queueKind_evlog k)

/-- One buffered event enters the log. -/
def logOne (u : Nat × Kv (List Byte)) (x : Event × Nat) : Nat × Kv (List Byte) := ((u.1 + 1) % 2 ^ 32, kvPut u.2 (u.1 % 8190) (eventRecord x.1 x.2 false))

/-- Each event that enters the log counts once. -/
theorem foldl_logOne_count (l : List (Event × Nat)) (u : Nat × Kv (List Byte)) : (l.foldl logOne u).1 % 2 ^ 32 = (u.1 + l.length) % 2 ^ 32 := by
  induction l generalizing u with
  | nil => rfl
  | cons x xs ih =>
    have one : (logOne u x).1 = (u.1 + 1) % 2 ^ 32 := rfl
    rw [List.foldl_cons, ih, one, List.length_cons]
    omega

theorem foldl_logOne_lt {l : List (Event × Nat)} {u : Nat × Kv (List Byte)} (some_ : l ≠ []) : (l.foldl logOne u).1 < 2 ^ 32 := by
  induction l generalizing u with
  | nil => exact absurd rfl some_
  | cons x xs ih =>
    by_cases last : xs = []
    · rw [last]
      exact Nat.mod_lt _ (by decide)
    · exact ih last

theorem foldl_logOne_eq {l : List (Event × Nat)} {u : Nat × Kv (List Byte)} (some_ : l ≠ []) : (l.foldl logOne u).1 = (u.1 + l.length) % 2 ^ 32 := by
  rw [← foldl_logOne_count, Nat.mod_eq_of_lt (foldl_logOne_lt some_)]

theorem flushLog_evlog (some_ : s.store.evlog.buffer ≠ []) : s.flushLog.store.evlog = { s.store.evlog with
    count := (s.store.evlog.buffer.foldl logOne (s.store.evlog.count, s.store.evlog.entries)).1
    entries := (s.store.evlog.buffer.foldl logOne (s.store.evlog.count, s.store.evlog.entries)).2
    buffer := []
    since := none } := by
  unfold State.flushLog
  rw [if_neg (mt List.isEmpty_iff.1 some_)]
  exact writeKind_evlog 5

end

/-- Settles O54: each command takes the branch its conditions name; the log's count is the number of events that have entered it. -/
theorem storeRecords : Obligations.StoreRecords := by
  unfold Obligations.StoreRecords
  refine ⟨?store, fun s bs => judgeRecord_calibration, fun s k bs => ⟨fun h => judgeRecord_notHost h.1 h.2, judgeRecord_unknown⟩, ?read,
    fun s s1 r t taken => ⟨execIdentityChallenge_answers taken, execIdentityChallenge_badLength taken⟩, fun s w => execBankWriteDone_cut, ?done, ?log⟩
  case store =>
    intro s s1 r t data bs taken read plain kind
    exact ⟨fun content => execStoreRecord_starts taken read plain, fun st det x => execStoreRecord_refused taken read plain,
      fun st det => execStoreRecord_ends taken read plain⟩
  case read =>
    intro s s1 r t taken k w1
    refine ⟨fun b first last other plain up inForce => execReadRecord_reads taken ?_, fun safety => execReadRecord_refused taken ?_,
      fun first last other plain up empty => execReadRecord_refused taken ?_⟩
    · rw [readRecord_inForce first last other plain up, inForce]
      rfl
    · rw [show t.desc.w[0].toNat = 6 from safety, readRecord_safety]
    · rw [readRecord_inForce first last other plain up, empty]
  case done =>
    intro s w running whole s1
    exact ⟨execBankWriteDone_plain running whole, execBankWriteDone_trial running whole, fun x firmware => execBankWriteDone_held running whole firmware,
      fun b c => execBankWriteDone_safety running whole⟩
  case log =>
    intro s powered up some_
    have evlog := flushLog_evlog some_
    exact ⟨s.flushLog, congrArg Host.Outcome.next (if_pos ⟨powered, up⟩), congrArg EventLog.buffer evlog, (congrArg EventLog.count evlog).trans (foldl_logOne_eq some_)⟩

end Sys2Proof.Machine
end

section
/-! PROOFS. SET_STATE request 3: who may do what, its answer and its effect (20_store_update_identity.md R652 to R659). -/

namespace Sys2Proof.Machine

section
variable {s : State} {op arg : Nat}

/-! ## What a request answers (R653, R655, R656) -/

theorem lifeRequest_unknown {origin : Nat} {cred : Option (List Byte)} {key : List Byte} (unknown : op = 0 ∨ 7 < op) :
    s.lifeRequest op arg origin cred key = s.lifeRefuse op arg 2 origin 2 := by
  have outside : ¬ within op 1 7 = true := by
    simp only [within, decide_eq_true_eq]
    omega
  exact if_pos outside

section
variable {b : List Byte} (first : 1 ≤ op) (last : op ≤ 7) (port : op = 5 → arg < 6 * s.nChannels)

theorem nPorts_eq : s.nPorts = 6 * s.nChannels := by
  unfold State.nPorts State.nChannels
  cases s.part <;> rfl

/-- The state after an accepted operation, its change-log entry made. -/
def State.lifeChanged (s : State) (op arg : Nat) (b : List Byte) : State :=
  ((s.renewNonce.modTahr (fun t => { t with pwFails := 0 })).lifeAct op arg ((b.drop 32).take 64)).logChange (imageSerial s.tahr.image).toNat (0x10 + op) 0
    (imageCrc s.tahr.image).toNat arg 0

/-- The same with LC_STATE raised where the state has changed. -/
def State.lifeTold (s : State) (op arg : Nat) (b : List Byte) : State :=
  if (s.lifeChanged op arg b).lifecycle = s.lifecycle then s.lifeChanged op arg b
  else (s.lifeChanged op arg b).raise 0xA301 3 8 [w32 s.lifecycle, w32 (s.lifeChanged op arg b).lifecycle, w32 op]

include first last in
theorem life_within : ¬ ¬ within op 1 7 = true := not_not_intro (decide_eq_true ⟨first, last⟩)

include port in
theorem life_port : ¬ (op = 5 ∧ 6 * s.nChannels ≤ arg) := fun h => Nat.not_le.2 (port h.1) h.2

include first last port

theorem lifeRequest_notAllowed (refused : s.lifeAllowed op = false) : s.lifeRequest op arg 0 (some b) [] = s.lifeRefuse op arg 1 0 1 :=
  (if_neg (life_within first last)).trans ((if_neg (life_port port)).trans (if_pos (Bool.eq_false_iff.1 refused)))

variable (allowed : s.lifeAllowed op = true)

include allowed

theorem lifeRequest_lockedOut (lockout : s.tahr.lockout.isSome = true) : s.lifeRequest op arg 0 (some b) [] = s.lifeRefuse op arg 0x81 0 6 :=
  (if_neg (life_within first last)).trans ((if_neg (life_port port)).trans ((if_neg (not_not_intro allowed)).trans (if_pos ⟨rfl, lockout⟩)))

/-- What a request that is allowed and not locked out answers. -/
theorem lifeRequest_judged (free : s.tahr.lockout = none) : s.lifeRequest op arg 0 (some b) [] =
    if s.credentialOk op arg b = false then s.renewNonce.countWrong.lifeRefuse op arg 0x80 0 6
    else if s.renewNonce.lifeSto op arg = false then s.renewNonce.lifeRefuse op arg 0x82 0 6
    else (if op = 7 then s.lifeTold op arg b else (s.lifeTold op arg b).writeKind 4, 0, 0, (s.lifeTold op arg b).lifecycle) := by
  have open_ : ¬ ((some b).isSome = true ∧ s.tahr.lockout.isSome = true) := by simp [free]
  refine (if_neg (life_within first last)).trans ((if_neg (life_port port)).trans ((if_neg (not_not_intro allowed)).trans ((if_neg open_).trans ?_)))
  simp only [← Bool.not_eq_true]
  rfl

end

/-- With a port the part has, no request answers detail 6. -/
theorem lifeRequest_detail {b : List Byte} (first : 1 ≤ op) (last : op ≤ 7) (port : op = 5 → arg < 6 * s.nChannels) :
    (s.lifeRequest op arg 0 (some b) []).2.2.1 ≠ 6 := by
  cases allowed : s.lifeAllowed op with
  | false =>
    rw [lifeRequest_notAllowed first last port allowed]
    exact (by decide : (1 : Nat) ≠ 6)
  | true =>
    by_cases lockout : s.tahr.lockout = none
    · rw [lifeRequest_judged first last port allowed lockout]
      split
      · exact (by decide : (0x80 : Nat) ≠ 6)
      · split
        · exact (by decide : (0x82 : Nat) ≠ 6)
        · exact (by decide : (0 : Nat) ≠ 6)
    · rw [lifeRequest_lockedOut first last port allowed (Option.isSome_iff_ne_none.2 lockout)]
      exact (by decide : (0x81 : Nat) ≠ 6)

/-! ## The commands (R504, R653) -/

section
variable {s1 : State} {ring : BitVec 16} {t : Taken} {data : Option (List (BitVec 8))} {b : List Byte}
  (taken : s.take ring.toNat 0x40 (fun d => d.w[0] == 3 && (d.w[1].toNat == op || !within d.w[1].toNat 1 7)) = some (t, s1))
  (asks : t.desc.w[1].toNat = op) (up : s1.shut.active = false) (length : t.desc.length = 160) (zero : t.desc.zeroFrom 3 = true) (read : dataOf t data = some b)
  (free : s1.safetyBusy = false) (reached : s1.tahrReached true = true) (first : 1 ≤ op) (last : op ≤ 7)
  (port : op = 5 → t.desc.w[2].toNat < 6 * s1.nChannels)

/-- How a lifecycle descriptor ends once its request has been answered: when the record is written, in RETIRED at once. -/
def State.lifeDone (s : State) (t : Taken) (a : State × Nat × Nat × Nat) : State :=
  if s.lifecycle = 4 then a.1.finish t a.2.1 a.2.2.1 (w32 a.2.2.2) else a.1.safetyStore (.ring t.ring t.index) ⟨t.ring, t.index, a.2.1, a.2.2.1, w32 a.2.2.2⟩

include taken asks up length zero read free reached first last port

theorem lifecycleRow_done : lifecycleRow op ring data s = s1.lifeDone t (s1.lifeRequest op t.desc.w[2].toNat 0 (some b) []) := by
  have hasPort : ¬ (t.desc.w[1].toNat = 5 ∧ s1.nPorts ≤ t.desc.w[2].toNat) := by
    rw [asks, nPorts_eq]
    exact life_port port
  have detail := lifeRequest_detail (b := b) first last port
  have ends : ((s1.lifeRequest op t.desc.w[2].toNat 0 (some b) []).2.2.1 = 6 ∨ s1.lifecycle = 4) ↔ s1.lifecycle = 4 := or_iff_right detail
  refine (State.onDesc_taken taken).trans ((if_neg (not_not_intro length)).trans ((if_neg (not_not_intro zero)).trans ((if_neg hasPort).trans
    ((if_neg (Bool.eq_false_iff.1 up)).trans ?_))))
  simp only [read, if_neg (Bool.eq_false_iff.1 free), if_neg (not_not_intro reached), asks, ends]
  rfl

end

/-! ## The effect of an operation (R653, R658, R659) -/

/-- A message to a port leaves STORE as it is. -/
theorem sendDown_store (t : Port) (type : Nat) (payload : List Byte) : (s.sendDown t type payload).store = s.store := by
  unfold State.sendDown
  split
  · rfl
  · split <;> rfl

theorem enterTime_store (t : Port) : (s.enterTime t).store = s.store := by
  unfold State.enterTime
  dsimp only
  split
  · rfl
  · exact sendDown_store t 4 _

theorem knownPort_store (t : Port) : (s.knownPort t).store = s.store := by
  unfold State.knownPort
  split
  · exact enterTime_store t
  · rfl

theorem foldl_knownPort_store (l : List Port) (u : State) : (l.foldl State.knownPort u).store = u.store := by
  induction l generalizing u with
  | nil => rfl
  | cons t ts ih => exact (ih (u.knownPort t)).trans (knownPort_store t)

theorem bind_ident (key : List Byte) : (s.bind key).store.ident = { s.store.ident with
    bound := true
    bindCount := (s.store.ident.bindCount + 1) % 2 ^ 32
    ownerHash := sha256 key
    satIds := Vector.ofFn (fun t => if s.ports[t].identified then s.ports[t].satId else 0) } := by
  unfold State.bind
  dsimp only
  rw [foldl_knownPort_store]
  rfl

theorem ackSatellite_satIds (t : Port) : (s.ackSatellite t).store.ident.satIds[t] = s.ports[t].satId := by
  have store := knownPort_store (s := (s.modIdent (fun r => { r with satIds := vUpd r.satIds t (fun _ => s.ports[t].satId) })).raise 0xA305 t.val 6
    (timeWords s.ports[t].satId.toNat)) t
  have ids : (s.ackSatellite t).store.ident.satIds = vUpd s.store.ident.satIds t (fun _ => s.ports[t].satId) := congrArg (fun x => x.ident.satIds) store
  rw [ids, vUpd_same]

theorem lifeAct_bind {key : List Byte} : s.lifeAct 3 arg key = s.bind key := rfl

theorem finOf_val (t : Port) : finOf 47 t.val = t := Fin.ext (Nat.mod_eq_of_lt t.isLt)

theorem lifeAct_ackSatellite {t : Port} {key : List Byte} : s.lifeAct 5 t.val key = s.ackSatellite t := congrArg s.ackSatellite (finOf_val t)

end

/-- Settles O56: each request takes the branch its conditions name. -/
theorem lifecycleRequests : Obligations.LifecycleRequests := by
  unfold Obligations.LifecycleRequests
  refine ⟨?row, ?judged, fun s op arg origin cred key => lifeRequest_unknown, ?act, fun s => ⟨rfl, rfl⟩⟩
  case row =>
    intro s s1 ring t data b o op taken asks up length zero read free reached port a done
    have row {k : Nat} (h : op = k) : (.next (lifecycleRow k ring data s) : Out) = .next done :=
      h ▸ congrArg _ (lifecycleRow_done taken asks up length zero read free reached (Nat.le_add_left 1 o.val) o.isLt port)
    exact ⟨row, row, row, row, row, row, row⟩
  case judged =>
    intro s op arg b first last port good v
    exact ⟨lifeRequest_notAllowed first last port, lifeRequest_lockedOut first last port, fun allowed free => ⟨rfl, lifeRequest_judged first last port allowed free⟩⟩
  case act =>
    intro s arg key
    rw [lifeAct_bind, bind_ident]
    refine ⟨rfl, rfl, ⟨rfl, rfl, rfl, fun t => Vector.getElem_ofFn t.isLt⟩, ⟨rfl, rfl⟩, fun t => ?_, rfl, rfl⟩
    rw [lifeAct_ackSatellite]
    exact ackSatellite_satIds t

end Sys2Proof.Machine
end

section
/-! PROOFS. SETUP_LOCK and the commands and ends of the self-tests (22_setup_registers.md R695, R696; 19_self_test.md R624 to R635). -/

namespace Sys2Proof.Machine

section
variable {s : State}

/-! ## SETUP_LOCK (R695, R696) -/

theorem execSetupLock_locks {v : BitVec 32} (first : s.glb.locked = false) (lock : bitAt v 0 = true) : execSetupLock v s
    = .next (((s.modGlb (fun g => { g with
        locked := true
        lockedAt := s.now
        startFrom := s.now })).setReg Reg.setupCtrl 1).namePointers.setupChecks.judgeFloors) :=
  if_neg (not_or.2 ⟨Bool.eq_false_iff.1 first, not_not_intro lock⟩)

theorem execSetupLocked_ends (locked : s.glb.locked = true) (unchecked : s.glb.checked = false) : execSetupLocked s
    = .next (((((s.addLate s.lockEntries).applyToB).modGlb (fun g => { g with checked := true })).pseudoRun (s.regs.filter (fun w => setupFlit w.1))).raise
        0x0401 1 3 [w32 s.glb.chDisabled.toNat, w32 s.glb.slotsDisabled.toNat]).canStarts :=
  if_neg (not_or.2 ⟨not_not_intro locked, Bool.eq_false_iff.1 unchecked⟩)

/-! ## START and FUSE (R630, R631, R635) -/

section
variable {rails : BitVec 9} {b : Bool}

theorem execStart_refused {r : Nat} (refused : (s.noteRails rails).testRefused rails b = some r) : execStart rails b s = .next ((s.noteRails rails).refuseTest r) := by
  simp only [execStart, refused]

theorem execStart_starts (free : (s.noteRails rails).testRefused rails b = none) : execStart rails b s = .next (((s.noteRails rails).modTest (fun t => { t with
    state := .running
    extended := true
    reason := 0
    entries := 0
    log := []
    sel := s.fld Reg.stSel 0 7 })).modTahr (fun t => { t with testing := true })) := by
  simp only [execStart, free]

end

theorem execFuse_notField (other : s.lifecycle ≠ 3) : execFuse s = .next (s.refuseTest 1) := if_pos other

section
variable (service : s.lifecycle = 3)

include service

theorem execFuse_runs (runs : s.allSto 0xFF = false) : execFuse s = .next (s.refuseTest 2) :=
  (if_neg (not_not_intro service)).trans (if_pos (Bool.eq_false_iff.1 runs))

variable (sto : s.allSto 0xFF = true)

include sto

theorem execFuse_busy (busy : s.extendedRuns = true ∨ s.st.fusing = true) : execFuse s = .next (s.refuseTest 6) :=
  (if_neg (not_not_intro service)).trans ((if_neg (not_not_intro sto)).trans (if_pos busy))

theorem execFuse_burns (untested : s.extendedRuns = false) (unfused : s.st.fusing = false) : execFuse s = .next (s.modTest (fun t => { t with
    state := .fusing
    fusing := true })) :=
  (if_neg (not_not_intro service)).trans ((if_neg (not_not_intro sto)).trans (if_neg (not_or.2 ⟨Bool.eq_false_iff.1 untested, Bool.eq_false_iff.1 unfused⟩)))

end

/-- The repair entries that a fuse burns: the saved spares of the map (R635). -/
def State.burns (s : State) (e : Dword) : Bool := repType e != 2 && !s.store.life.unsaved.contains e

theorem execFuseDone_burnt (fusing : s.st.fusing = true) : execFuseDone s = .next ((((s.modTest (fun t => { t with
    state := .idle
    fusing := false
    fused := t.fused ++ s.store.life.repair.filter s.burns })).modRepair (fun _ => s.store.life.repair.filter (fun e => !s.burns e))).writeKind 3).raise 0x0206 1 4
      [w32 (s.store.life.repair.filter s.burns).length, w32 (s.store.life.repair.filter (fun e => !s.burns e)).length]) := if_pos fusing

/-! ## The start-up test ends (R624, R627) -/

/-- What is measured of the rails leaves STORE as it is. -/
theorem avsWrite_store (d : CtrlId) (mV : Nat) : (s.avsWrite d mV).store = s.store := by
  unfold State.avsWrite
  split <;> rfl

theorem enableGroup_store (group : Nat) (high : Bool) : (s.enableGroup group high).store = s.store := by
  unfold State.enableGroup
  rw [apply_ite State.store]
  exact ite_self _

theorem noteRails_store (rails : BitVec 9) : (s.noteRails rails).store = s.store := by
  unfold State.noteRails
  dsimp only
  split
  · split
    · rw [avsWrite_store, avsWrite_store, enableGroup_store]
    · rw [enableGroup_store]
  · rfl

theorem foldl_testEntry_store (es : List (Word × Word)) (u : State) : (es.foldl State.testEntry u).store = u.store := by
  induction es generalizing u with
  | nil => rfl
  | cons e es ih => exact ih (u.testEntry e)

/-- Without a failure no region comes back. -/
theorem restoreRegions_nil : s.restoreRegions [] = s := by
  have all : s.store.life.repair.filter (fun _ => true) = s.store.life.repair := List.filter_true _
  simp only [State.restoreRegions, State.modRepair, State.modStore, List.any_nil, Bool.and_false, Bool.false_and, Bool.not_false, all]

section
variable (untested : s.extendedRuns = false) (first : s.st.startDone = false) (running : s.tb.running = true)

/-- The result entries of the logic and analogue failures a test has found. -/
def plainEntries (logic analogue : List (BitVec 4 × BitVec 22 × BitVec 6)) : List (Word × Word) :=
  logic.map (fun x => plainEntry 2 x.1.toNat x.2.1.toNat x.2.2.toNat) ++ analogue.map (fun x => plainEntry 3 x.1.toNat x.2.1.toNat x.2.2.toNat)

/-- The state in which the start-up test enters what it has found. -/
def State.startTested (s : State) : State :=
  (s.noteRails 0x1FE).modTest (fun t => { t with
    log := []
    entries := 0
    extended := false })

/-- The state with the results of a start-up test entered. -/
def State.startEntered (s : State) (found : List (Word × Word)) (pass : Bool) : State :=
  (found.foldl State.testEntry s.startTested).sizeTrace.modTest (fun t => { t with
    state := if pass then .passed else .failed
    startDone := true
    startPassed := pass })

include untested first running

omit untested in
theorem selfTest_runs : ¬ (¬ s.extendedRuns = true ∧ (s.st.startDone = true ∨ ¬ s.tb.running = true)) :=
  fun h => h.2.elim (Bool.eq_false_iff.1 first) (· running)

theorem execSelfTestEnd_late {cells : List (BitVec 4 × BitVec 4 × BitVec 22 × Fin 39)} {logic analogue : List (BitVec 4 × BitVec 22 × BitVec 6)} {rep : List Nat}
    (late : s.startClock = false) : execSelfTestEnd cells logic analogue rep s = .next s.failStart :=
  (if_neg (selfTest_runs first running)).trans (if_pos ⟨Bool.eq_false_iff.1 untested, Bool.eq_false_iff.1 late⟩)

variable (clock : s.startClock = true)

include clock

/-- Without failing cells the start-up test ends with the logic and analogue failures alone. -/
theorem execSelfTestEnd_noCells (logic analogue : List (BitVec 4 × BitVec 22 × BitVec 6)) (rep : List Nat) : execSelfTestEnd [] logic analogue rep s
    = .next (if (plainEntries logic analogue).isEmpty then s.startEntered (plainEntries logic analogue) (plainEntries logic analogue).isEmpty
      else (s.startEntered (plainEntries logic analogue) (plainEntries logic analogue).isEmpty).testFails false 1) := by
  have kept : ((plainEntries logic analogue).foldl State.testEntry s.startTested).store.life.repair = s.store.life.repair :=
    congrArg (fun x => x.life.repair) ((foldl_testEntry_store _ s.startTested).trans (noteRails_store 0x1FE))
  unfold execSelfTestEnd
  rw [if_neg (selfTest_runs first running), if_neg (fun h => h.2 clock)]
  have lines (u : State) : u.repairLines [] [] = (u, [], []) := rfl
  have rows (u : State) : u.repairRows [] = (u, []) := rfl
  have retest (u : State) : u.retest [] rep = (u, []) := rfl
  simp only [untested, List.map_nil, List.eraseDups_nil, lines, rows, List.nil_append, retest, restoreRegions_nil, List.all_nil, Bool.and_true, Bool.false_eq_true,
    if_false]
  unfold plainEntries State.startTested at kept
  rw [if_pos kept]
  rfl

theorem execSelfTestEnd_passes {logic analogue : List (BitVec 4 × BitVec 22 × BitVec 6)} {rep : List Nat} (none_ : plainEntries logic analogue = []) :
    execSelfTestEnd [] logic analogue rep s = .next (s.startEntered [] true) := by
  rw [execSelfTestEnd_noCells untested first running clock, none_]
  rfl

theorem execSelfTestEnd_fails {logic analogue : List (BitVec 4 × BitVec 22 × BitVec 6)} {rep : List Nat} (some_ : plainEntries logic analogue ≠ []) :
    execSelfTestEnd [] logic analogue rep s = .next ((s.startEntered (plainEntries logic analogue) false).testFails false 1) := by
  have found : (plainEntries logic analogue).isEmpty = false := List.isEmpty_eq_false_iff.2 some_
  rw [execSelfTestEnd_noCells untested first running clock, found]
  rfl

omit untested first running clock in
/-- A failure is reported once the test has ended. -/
theorem testFails_startDone {pass : Bool} (done : s.st.startDone = true) : (if pass then s else s.testFails false 1).st.startDone = true := by
  cases pass
  · exact done
  · exact done

/-- Whatever it has found, the start-up test has ended. -/
theorem execSelfTestEnd_done (cells : List (BitVec 4 × BitVec 4 × BitVec 22 × Fin 39)) (logic analogue : List (BitVec 4 × BitVec 22 × BitVec 6)) (rep : List Nat) :
    ∃ t, execSelfTestEnd cells logic analogue rep s = .next t ∧ t.st.startDone = true := by
  unfold execSelfTestEnd
  rw [if_neg (selfTest_runs first running), if_neg (fun h => h.2 clock)]
  exact ⟨_, if_neg (Bool.eq_false_iff.1 untested), testFails_startDone rfl⟩

end

/-! ## The extended test ends (R624, R630, R631) -/

theorem execSelfTestEnd_extended (cells : List (BitVec 4 × BitVec 4 × BitVec 22 × Fin 39)) (logic analogue : List (BitVec 4 × BitVec 22 × BitVec 6)) (rep : List Nat)
    (runs : s.extendedRuns = true) : ∃ u : State, execSelfTestEnd cells logic analogue rep s = .next ((u.endExtended true).takeHeld) := by
  unfold execSelfTestEnd
  rw [if_neg (fun h => h.1 runs), if_neg (fun h => h.1 runs)]
  exact ⟨_, if_pos runs⟩

theorem endExtended_cold : s.endExtended true = if s.testCold then ((s.modTahr (fun t => { t with testing := false })).testEffects).coldBegin 6 0
    else (s.modTahr (fun t => { t with testing := false })).testEffects := by
  simp only [State.endExtended, true_and]

section
variable {rails : BitVec 9} {b : Bool} (bad : s.testReady rails b = false)

include bad

theorem selfTest_aborts : ¬ (s.testReady rails b = true ∧ (s.extendedRuns = true ∨ s.startClock = true)) := fun h => Bool.eq_false_iff.1 bad h.1

theorem execSelfTestAbort_extended (runs : s.extendedRuns = true) : execSelfTestAbort rails b s = .next ((s.noteRails rails).abortTest true).takeHeld :=
  (if_neg (selfTest_aborts bad)).trans (if_pos runs)

theorem execSelfTestAbort_start (untested : s.extendedRuns = false) (first : s.st.startDone = false) (early : s.pwr.started = false) :
    execSelfTestAbort rails b s = .next (s.noteRails rails).failStart :=
  (if_neg (selfTest_aborts bad)).trans ((if_neg (Bool.eq_false_iff.1 untested)).trans (if_neg (not_or.2 ⟨Bool.eq_false_iff.1 first, Bool.eq_false_iff.1 early⟩)))

end

end

/-- Settles O35: each command takes the branch its conditions name. -/
theorem setupAndSelfTest : Obligations.SetupAndSelfTest := by
  unfold Obligations.SetupAndSelfTest
  refine ⟨fun s v => execSetupLock_locks, fun s => execSetupLocked_ends, fun s rails b => ⟨fun r => execStart_refused, execStart_starts⟩, ?fuse, ?start, ?ends,
    fun s => ⟨rfl, endExtended_cold, fun why => rfl⟩, fun s rails b bad => ⟨execSelfTestAbort_extended bad, execSelfTestAbort_start bad⟩⟩
  case fuse =>
    exact fun s => ⟨fun r => rfl, execFuse_notField, execFuse_runs, execFuse_busy, execFuse_burns, execFuseDone_burnt⟩
  case start =>
    intro s logic analogue rep untested first running clock s0 found
    exact ⟨execSelfTestEnd_passes (rep := rep) untested first running clock, execSelfTestEnd_fails (rep := rep) untested first running clock⟩
  case ends =>
    refine fun s cells logic analogue rep => ⟨execSelfTestEnd_extended cells logic analogue rep, fun untested first running => ⟨fun clock => ?_, ?_⟩⟩
    · exact execSelfTestEnd_done untested first running clock cells logic analogue rep
    · exact execSelfTestEnd_late untested first running

end Sys2Proof.Machine
end
